-- ==== Sys2Proof/Word.lean ====
section
/-! DEFINITION. The byte and word types of the capsules, blocks, replies and logs, and their plainest arithmetic. Every
multi-byte field is big-endian (R9). -/

namespace Sys2Proof

/-- One byte of a packet, a capsule, a block or a reply. -/
abbrev Byte := BitVec 8

/-- A run of bytes in stream order: the first byte of the stream is the head. -/
abbrev Bytes := List Byte

/-- The number a big-endian run of bytes spells (R9). -/
def Bytes.toNatBE : Bytes → Nat
  | [] => 0
  | b :: rest => b.toNat * 256 ^ rest.length + Bytes.toNatBE rest

/-- The `n` bytes of `v`, most significant first (R9); `v` is taken modulo 256 ^ n. -/
def natToBytesBE : Nat → Nat → Bytes
  | 0, _ => []
  | n + 1, v => BitVec.ofNat 8 (v / 256 ^ n) :: natToBytesBE n v

/-- The field of `len` bytes at offset `off` of a block, as a number; bytes past the end read as absent. -/
def Bytes.field (bs : Bytes) (off len : Nat) : Nat :=
  Bytes.toNatBE ((bs.drop off).take len)

/-- `n` zero bytes. -/
def zeroBytes (n : Nat) : Bytes := List.replicate n 0

/-- The `len` bytes at offset `off` of a block are all zero (a checked reserved field). -/
def Bytes.zeroAt (bs : Bytes) (off len : Nat) : Bool :=
  ((bs.drop off).take len).all (· == 0)

end Sys2Proof
end

