-- ==== Sys2Proof/Syntax.lean ====
section
/-! DEFINITION. The commands: one constructor of `Instr` per row of spec/opcode_table.json, and the operand types they carry.
A row that acts on an object of the drive names it (a session, a sequenced capsule, a program, a bay); a row that comes from
outside carries what the outside supplies (a packet's fields, a measured value). -/

namespace Sys2Proof

/-- A data port (R1, R28). -/
abbrev Port := Fin 2
/-- A cartridge bay (R197). -/
abbrev BayNo := Fin 4
/-- A cage or link: 0 and 1 the data ports, 2 the peer port (R60). -/
abbrev Link := Fin 3
/-- A source address; an IPv4 address stands as ::ffff:a.b.c.d (R180). -/
abbrev Addr := BitVec 128

/-- A protected FWP packet that has passed checks 1 to 6 of R58: its header (R34; `reserved` is pkt_flags [15:5]), the 16-byte tag at its
end (R44), and `payload`, what its payload decrypts to under the key of its phase. `ce`: it arrived with the CE mark (R54). -/
structure Packet where
  port : Port
  addr : Addr
  uport : BitVec 16
  sid : BitVec 32
  psn : BitVec 64
  first : Bool
  last : Bool
  ackValid : Bool
  keyPhase : Bool
  ece : Bool
  reserved : BitVec 11
  cumAck : BitVec 64
  sack : BitVec 64
  streamOffset : BitVec 64
  creditLimit : BitVec 64
  payload : Bytes
  tag : BitVec 128
  ce : Bool
  deriving DecidableEq, Repr

/-- An INIT packet (R40): `fwpVersion` is the header's, `payload` the whole UDP payload after the FWP header. -/
structure InitPacket where
  port : Port
  addr : Addr
  uport : BitVec 16
  fwpVersion : BitVec 8
  payload : Bytes
  deriving DecidableEq, Repr

/-- An AUTH packet: a protected packet (R34) whose payload is a tenant ID, a reserved word and a proof (R42). -/
structure AuthPacket where
  port : Port
  addr : Addr
  uport : BitVec 16
  sid : BitVec 32
  psn : BitVec 64
  first : Bool
  last : Bool
  ackValid : Bool
  keyPhase : Bool
  ece : Bool
  reserved : BitVec 11
  cumAck : BitVec 64
  sack : BitVec 64
  streamOffset : BitVec 64
  creditLimit : BitVec 64
  tenant : BitVec 32
  reservedWord : BitVec 32
  proof : BitVec 256
  tag : BitVec 128
  ce : Bool
  deriving DecidableEq, Repr

/-- Why a frame on a data port is dropped before it reaches a session, in the order of R58 (checks 1 to 6), with the two
causes of check 3 apart. -/
inductive FrameFault
  | l2 | ip | fragment | ipOptions | udpChecksum | otherPort | malformed
  deriving DecidableEq, Repr

/-- The IP header of a received frame: the version; whether the IPv4 header checksum is right; the destination (as `Addr`); an IPv4
fragment (MF set or a non-zero offset); IPv4 options; an IPv6 extension header; a payload of UDP or of a protocol of R33. -/
structure IpHead where
  version : Nat
  sumOk : Bool
  dst : Addr
  fragment : Bool
  options : Bool
  extension : Bool
  known : Bool
  deriving DecidableEq, Repr

/-- The UDP checksum of a received frame (R32). -/
inductive UdpSum
  | zero | good | wrong
  deriving DecidableEq, Repr

/-- A frame received on a data port, as checks 1 to 6 of R58 see it. `len` counts the bytes with the FCS; `vids` are the VIDs of its
tags, outermost first; `toPort`: its MAC destination is this port's; `ip` is absent where the type is not IP; `udpPort` is the
destination port and `fwp` the UDP payload. -/
structure RawFrame where
  fcsOk : Bool
  len : Nat
  vids : List Nat
  toPort : Bool
  ip : Option IpHead
  udpSum : UdpSum
  udpPort : Nat
  fwp : Bytes
  deriving DecidableEq, Repr

/-- Where a frame that is not taken in arrived. -/
inductive FramePort
  | data (p : Port) (f : RawFrame)
  | peer
  deriving DecidableEq, Repr

/-- A port that answers echo requests (R33, R343). -/
inductive EchoPort
  | data (p : Port)
  | mgmt
  deriving DecidableEq, Repr

/-- Why a link went down (R60). -/
inductive LinkCause
  | lossOfSignal | fecRate
  deriving DecidableEq, Repr

/-- The sender whose retransmission timer expires (R38, R286). -/
inductive RtoTarget
  | session (sid : BitVec 32)
  | peer
  deriving DecidableEq, Repr

/-- The three Gale tables (R177). -/
inductive GTable
  | directory | session | policy
  deriving DecidableEq, Repr

/-- A soft error: bits of the stored row at an address are inverted before the operation (R188). The mask covers the 72 data
bits, then the valid bit (bit 72), then the two parity bits (73, 74). -/
structure Upset where
  addr : Nat
  mask : BitVec 75
  deriving DecidableEq, Repr

/-- A search of a Gale table: its key, and the capsule that it is made for, by session and tag, if there is one (R173, R186). -/
structure GaleSearch where
  word : BitVec 144
  asker : Option (BitVec 32 × BitVec 32)
  deriving DecidableEq, Repr

/-- What the verifier finds wrong in the memories it compares, before it compares (R189). -/
structure VerifierUpset where
  row : BitVec 75
  shadow : BitVec 72
  twin : BitVec 72
  /-- a write to the row comes between the READ and the comparison (R187) -/
  written : Bool
  deriving DecidableEq, Repr

/-- The outcome of the read of one codeword, as the decoder, the retries and the rebuild report it (R220, R263, R264). Chunks are numbered
within what is read: from the first chunk of a value, from the first data position of a row. `ok it`: decoded by the first read with `it`
per cent of the iteration limit. `retried n set it`: decoded at retry step `n` (1 to 4) with
read-level set `set`. `rebuilt`: the retries failed and the row's other pages decoded. `lost c`: no rebuild of chunk `c` was
possible. `badHead c n k`: decoded at step `n` (0 to 5), and the header of chunk `c` fails order `k` of R264: its generation twin
disagrees (3), it does not match the request (4) or the captured state (5). -/
inductive ReadOutcome
  | ok (iterations : Nat)
  | retried (step levelSet iterations : Nat)
  | rebuilt
  | lost (chunk : Nat)
  | badHead (chunk step order : Nat)
  deriving DecidableEq, Repr

/-- What a read reports: the outcome that decides it and the chunk that it was met at; further chunks whose codewords took their own
steps; the header checks of orders 1 and 2 that failed on the way, each of which made the next step of R263 run. -/
structure ReadReport where
  outcome : ReadOutcome
  at_ : Nat := 0
  others : List (Nat × ReadOutcome) := []
  heads : List Nat := []
  deriving DecidableEq, Repr

/-- The outcome of an index page read (R150): good; the location twin of one entry, named by its key hash, disagrees in
the copy read; the page CRC fails and the media recovery succeeds, or fails. -/
inductive PageOutcome
  | good
  | twinBad (hash : BitVec 128)
  | crcRecovered
  | crcLost
  deriving DecidableEq, Repr

/-- A PTP message (R351) as the port's timestamp unit reports it: the kind, the clock class of its master, the measured offset
of drive time from the master in ns. -/
inductive PtpMsg
  | announce (acceptable : Bool)
  | sync (offset : Int)
  | other
  deriving DecidableEq, Repr

/-- A wear-record slot on the authenticator (R242). -/
structure WearSlot where
  crcOk : Bool
  recordSeq : Nat
  totalWear : Nat
  totalTwinOk : Bool
  qlcErases : Nat
  slcErases : Nat
  hostBytes : Nat
  nandBytes : Nat
  powerOnHours : Nat
  retired : Nat
  spare : Nat
  spareTwinOk : Bool
  dieFailures : Nat
  stored : Nat
  storedTwinOk : Bool
  bindCount : Nat
  driveSerial : BitVec 128
  bay : Nat
  journalSeq : Nat
  time : Nat
  /-- `wear_map_crc`, and whether the wear map in reserved metadata can be read -/
  mapCrc : Nat
  wearMapOk : Bool
  deriving DecidableEq, Repr

/-- The manufacture record (R238): model and hardware revision, the hashes of the 256 die IDs and of the media parameter table. -/
structure MadeRec where
  model : List (BitVec 8)
  hwRev : BitVec 8
  dieHash : BitVec 256
  tableHash : BitVec 256
  ratedUnits : Nat
  goodBlocks : Nat
  spare : Nat
  time : Nat
  deriving DecidableEq, Repr

/-- A cartridge: what its authenticator holds (R238, R242). `leaf`: the SHA-256 of its own certificate (R382). -/
structure Cartridge where
  serial : BitVec 128
  leaf : BitVec 256
  made : MadeRec
  slots : Vector WearSlot 2
  deriving DecidableEq, Repr

/-- An entry of a retirement log (R222, R276). -/
structure RetiredRec where
  kind : Nat
  cause : Nat
  seqNo : Nat
  time : Nat
  target : Nat
  remaining : Nat
  deriving DecidableEq, Repr

/-- A wear map with its retired-block list (R241): the wear of bands (group, block, wear), the counts at which spare blocks took band slots. -/
structure WearMap where
  wear : List (Nat × Nat × Nat)
  base : List ((Nat × Nat × Nat) × Nat)
  retired : List RetiredRec
  deriving DecidableEq, Repr

/-- What a cartridge shows when it is inserted (R239, R248): its authenticator, the wear map and the retired-block list in its
reserved metadata (group, block, wear; R241, R246), the counts at which spare blocks took their band slots, and the last journal sequence of its
stream; the media parameter table in metadata block 0 of die 0 on each channel (R238). -/
structure CartFacts where
  cart : Cartridge
  table : List (BitVec 8)
  wear : List (Nat × Nat × Nat)
  base : List ((Nat × Nat × Nat) × Nat)
  retired : List RetiredRec
  journalSeq : Nat
  deriving DecidableEq, Repr

/-- What the drive reads for the checks 1, 2 and 4 of R239: whether the certificate chain verifies to the Amiulos root; the bytes over which the
signature verifies under the leaf key, none where it verifies over none; the unique IDs of the 256 dies in drive die order, none where a die
does not answer. -/
structure CartAnswer where
  chainOk : Bool
  signed : Option (List (BitVec 8))
  dieIds : List (Option (List (BitVec 8)))
  deriving DecidableEq, Repr

/-- The region or user of a memory address (R272), in the order of its rows, with the object it holds. `window`: the
diagnostic windows (R280). -/
inductive Region
  | drift (seq chunk : Nat)
  | valueCache (loc gen : Nat)
  | indexCache (ns : BitVec 12) (lo : Nat)
  | fingerprints (ns : BitVec 12) (lo : Nat)
  | galeShadow (addr : Nat)
  | sessionState (sid : BitVec 32)
  | policy
  | counters
  | histograms
  | staging (read : Nat)
  | receive
  | reassembly (sid : BitVec 32)
  | lull
  | baroRing (ext : Nat)
  | unbuildable
  | window
  deriving DecidableEq, Repr

/-- An error that a decoder reports (R270, R272): memory class 1 DRAM or 2 SRAM; `transit`: on a FIFO or the main path; address,
locus (R271) and region. -/
structure MemErr where
  cls : Nat
  transit : Bool
  address : Nat
  locus : Nat
  region : Region
  deriving DecidableEq, Repr

/-- What Dew finds (R279): `clean n`: the next `n` DRAM lines decode clean; an error in the next DRAM line or, where `sram`, in the
SRAM word at an address. -/
inductive DewFinding
  | clean (lines : Nat)
  | ce (sram : Option Nat) (locus : Nat) (region : Region)
  | ue (sram : Option Nat) (region : Region)
  deriving DecidableEq, Repr

/-- The header of a Crosswind frame (R286): PSN, acknowledgements, epoch, the replication credit limit, the heartbeats' sequence and echo,
and the committed watermark. -/
structure CwHdr where
  psn : Nat
  cumAck : Nat
  sack : BitVec 64
  epoch : Nat
  creditLimit : Nat
  hbSeq : Nat
  hbEcho : Nat
  committed : Nat
  deriving DecidableEq, Repr

/-- A replication record as it arrives (R293): namespace, version, length of the value, offset of a patch or part, upload, key and
payload. -/
structure CwRec where
  ns : BitVec 12
  version : Nat
  valueLength : Nat
  offset : Nat
  uploadId : Nat
  key : Bytes
  data : Bytes
  deriving DecidableEq, Repr

/-- A HELLO of the partner (R287): what it says, what of it verifies, and the namespaces its record shows it leading with the
highest version it has acknowledged in each (R307). -/
structure CwHello where
  serial : BitVec 128
  pairId : BitVec 64
  node : BitVec 16
  chain : List (BitVec 8)
  nonce : BitVec 256
  point : List (BitVec 8)
  epoch : Nat
  chainOk : Bool
  signatureOk : Bool
  leads : List (BitVec 12 × Nat)
  deriving DecidableEq, Repr

/-- What a role record says of a namespace to the drive that it reaches (R290, R306): it takes the lead; it follows, in a mode, and may be claimed
where LOSSY_PROMOTE was set; or the namespace is ordinary again. -/
inductive Role
  | lead
  | follow (sync lossy : Bool)
  | ordinary
  deriving DecidableEq, Repr

/-- An entry of a role record. -/
structure RoleEntry where
  ns : BitVec 12
  role : Role
  deriving DecidableEq, Repr

/-- A reply of the witness (R300): `signatureOk`: it verifies under the key stored with WITNESS_KEY. -/
structure WitReply where
  nonce : BitVec 128
  reason : Nat
  leaseMs : Nat
  epoch : Nat
  peerSolo : Bool
  selfSolo : Bool
  signatureOk : Bool
  deriving DecidableEq, Repr

/-- What a test of the hold-up bank measures (R327): ESR in mΩ, capacitance in µF, a charger fault. -/
structure CapMeasure where
  esr : Nat
  capacitance : Nat
  chargerFault : Bool
  deriving DecidableEq, Repr

/-- The two inputs of a power-fail warning that no other row reports (R330): `PWRFAIL#`, and the input below 11.0 V. -/
inductive FailCause
  | pwrFail | inputLow
  deriving DecidableEq, Repr

/-- A sensor's reading in units of its resolution (R341), or no answer. -/
inductive SensorReading
  | value (v : Int)
  | noAnswer
  deriving DecidableEq, Repr

/-- What the TLS handshake finds (R344): whether the handshake completed, whether the client's certificate chains to an
operator authority, the first 8 bytes of its SHA-256 (R404), and the low 32 bits of the client's address. -/
structure CertChain where
  tlsOk : Bool
  certOk : Bool
  digest : Nat
  addr : BitVec 32
  deriving DecidableEq, Repr

/-- A request that names no supported method, path or property (R345). -/
inductive BadRequest
  | method | path | property
  deriving DecidableEq, Repr
/-- The commands, one constructor per row of spec/opcode_table.json, in its order. Each docstring names the rule that gives the
command its effect. -/
inductive Instr
  /-- ARP_REQUEST (R33). -/
  | arpRequest (p : Port) (target sender : BitVec 32)
  /-- NEIGHBOUR_DISCOVERY (R33). -/
  | neighbourDiscovery (p : Port) (target : Addr) (solicitation : Bool)
  /-- ICMP_ECHO_REQUEST (R33). -/
  | icmpEchoRequest (p : EchoPort) (src : Addr) (payload : Bytes)
  /-- PTP_MESSAGE (R351). -/
  | ptpMessage (p : Option Port) (m : PtpMsg)
  /-- OTHER_FRAME_DROP (R58). -/
  | otherFrameDrop (f : FramePort)
  /-- INIT (R39). -/
  | init (k : InitPacket)
  /-- INIT_SIGNATURE_DONE (R39). -/
  | initSignatureDone (pointOk : Bool)
  /-- AUTH (R42). -/
  | auth (k : AuthPacket)
  /-- DATA (R58). -/
  | data (k : Packet)
  /-- ACK (R37). -/
  | ack (k : Packet)
  /-- KEEPALIVE (R35). -/
  | keepalive (k : Packet)
  /-- CLOSE (R46). -/
  | close (k : Packet)
  /-- PFC_FRAME (R55). -/
  | pfcFrame (p : Port) (enable : BitVec 8) (quanta : Vector (BitVec 16) 8)
  /-- PFC_PAUSE_RENEW (R55). -/
  | pfcPauseRenew (p : Port) (lull : Bool) (fill : Nat)
  /-- DELAYED_ACK_TIMEOUT (R37). -/
  | delayedAckTimeout (sid : BitVec 32)
  /-- RTO_EXPIRY (R38). -/
  | rtoExpiry (t : RtoTarget)
  /-- KEY_PHASE_UPDATE (R44). -/
  | keyPhaseUpdate (sid : BitVec 32)
  /-- HALF_OPEN_TIMEOUT (R45). -/
  | halfOpenTimeout (sid : BitVec 32)
  /-- AUTH_HOLDOFF_EXPIRY (R45). -/
  | authHoldoffExpiry (a : Addr)
  /-- IDLE_TIMEOUT (R46). -/
  | idleTimeout (sid : BitVec 32)
  /-- TOMBSTONE_EXPIRY (R46). -/
  | tombstoneExpiry (sid : BitVec 32)
  /-- REPLY_STALL_TIMEOUT (R53). -/
  | replyStallTimeout (sid : BitVec 32)
  /-- CREDIT_BORROW_GRANT (R50). -/
  | creditBorrowGrant (cls : Fin 5)
  /-- BORROW_WAIT_TIMEOUT (R50). -/
  | borrowWaitTimeout (sid tag : BitVec 32)
  /-- DIRECTORY_ENTRY_GRANT (R51). -/
  | directoryEntryGrant (sid tag : BitVec 32)
  /-- MODULE_INSERT (R29). -/
  | moduleInsert (l : Link) (powerTenthW : Nat)
  /-- LINK_UP (R29). -/
  | linkUp (l : Link) (us : Nat) (pmd : Nat)
  /-- LINK_DOWN (R60). -/
  | linkDown (l : Link) (cause : LinkCause)
  /-- CAPSULE_SEQUENCE (R118). -/
  | capsuleSequence (sid tag : BitVec 32)
  /-- GET (R94). -/
  | get (seq : Nat)
  /-- PUT (R96). -/
  | put (seq : Nat)
  /-- DELETE (R97). -/
  | delete (seq : Nat)
  /-- SECURE_DELETE (R225). -/
  | secureDelete (seq : Nat)
  /-- EXISTS (R95). -/
  | exists_ (seq : Nat)
  /-- CAS_PUT (R96). -/
  | casPut (seq : Nat)
  /-- PATCH (R99). -/
  | patch (seq : Nat)
  /-- SCAN_PREFIX (R101). -/
  | scanPrefix (seq : Nat)
  /-- MP_BEGIN (R104). -/
  | mpBegin (seq : Nat)
  /-- MP_PART (R105). -/
  | mpPart (seq : Nat)
  /-- MP_COMMIT (R106). -/
  | mpCommit (seq : Nat)
  /-- MP_CANCEL (R108). -/
  | mpCancel (seq : Nat)
  /-- FLUSH (R144). -/
  | flush (seq : Nat)
  /-- FLUSH_COMPLETE (R144). -/
  | flushComplete (seq : Nat)
  /-- ABORT (R141). -/
  | abort (sid tag : BitVec 32)
  /-- ABORT_REPLY_RELEASE (R142). -/
  | abortReplyRelease (sid tag : BitVec 32)
  /-- WRITER_RESOLVE (R127). -/
  | writerResolve (seq : Nat) (group : Fin 8)
  /-- READER_REPLY_PLACE (R127). -/
  | readerReplyPlace (seq : Nat)
  /-- JOURNAL_RECORD_COMMIT (R154). -/
  | journalRecordCommit (jseq : Nat)
  /-- SHARE_WINDOW_END (R123). -/
  | shareWindowEnd
  /-- MP_IDLE_TIMEOUT (R108). -/
  | mpIdleTimeout (upload : Nat)
  /-- IDENTIFY (R352). -/
  | identify (seq : Nat)
  /-- GET_PARAM (R442). -/
  | getParam (seq : Nat)
  /-- SET_PARAM (R441). -/
  | setParam (seq : Nat)
  /-- COMMIT_STAGED_COMMIT (R443). -/
  | commitStagedCommit (seq : Nat)
  /-- COMMIT_AND_RESET (R443). -/
  | commitAndReset (seq : Nat)
  /-- COMMIT_STAGED_DISCARD (R443). -/
  | commitStagedDiscard (seq : Nat)
  /-- SELFTEST_SHORT (R446). -/
  | selftestShort (seq : Nat)
  /-- SELFTEST_EXTENDED (R446). -/
  | selftestExtended (seq : Nat)
  /-- SELFTEST_STOP (R446). -/
  | selftestStop (seq : Nat)
  /-- SELFTEST_DONE (R446). -/
  | selftestDone (faults : Nat)
  /-- NS_CREATE (R85). -/
  | nsCreate (seq : Nat)
  /-- NS_DELETE (R86). -/
  | nsDelete (seq : Nat)
  /-- FORMAT_CLEAR (R392). -/
  | formatClear (seq : Nat)
  /-- SANITISE_CRYPTO (R393). -/
  | sanitiseCrypto (seq : Nat)
  /-- SANITISE_BLOCK (R393). -/
  | sanitiseBlock (seq : Nat)
  /-- READ_LOG (R365). -/
  | readLog (seq : Nat)
  /-- SUBSCRIBE (R356). -/
  | subscribe (seq : Nat)
  /-- UNSUBSCRIBE (R356). -/
  | unsubscribe (seq : Nat)
  /-- EVENT_LIST (R356). -/
  | eventList (seq : Nat)
  /-- SET_LEVEL (R356). -/
  | setLevel (seq : Nat)
  /-- POWER_CTL_STATUS (R321). -/
  | powerCtlStatus (seq : Nat)
  /-- DESCEND (R321). -/
  | descend (seq : Nat)
  /-- POWER_CTL_WAKE (R321). -/
  | powerCtlWake (seq : Nat)
  /-- HOLD (R321). -/
  | hold (seq : Nat)
  /-- CAP_TEST (R321). -/
  | capTest (seq : Nat)
  /-- SET_ALARM (R321). -/
  | setAlarm (seq : Nat)
  /-- UPD_BEGIN (R406). -/
  | updBegin (seq : Nat) (certOk signatureOk : Bool)
  /-- UPD_CHUNK (R410). -/
  | updChunk (seq : Nat)
  /-- UPD_VERIFY (R411). -/
  | updVerify (seq : Nat)
  /-- UPD_ACTIVATE_STAGED_SET (R414). -/
  | updActivateStagedSet (seq : Nat)
  /-- UPD_ACTIVATE_OTHER_SLOT (R413). -/
  | updActivateOtherSlot (seq : Nat)
  /-- UPD_ACTIVATE_RECOVERY (R423). -/
  | updActivateRecovery (seq : Nat)
  /-- UPD_CONFIRM (R418). -/
  | updConfirm (seq : Nat)
  /-- UPD_CANCEL (R420). -/
  | updCancel (seq : Nat)
  /-- EVACUATE_START (R253). -/
  | evacuateStart (seq : Nat)
  /-- EVACUATE_STATUS (R253). -/
  | evacuateStatus (seq : Nat)
  /-- EVACUATE_CANCEL (R253). -/
  | evacuateCancel (seq : Nat)
  /-- CART_RELEASE (R253). -/
  | cartRelease (seq : Nat)
  /-- CART_FORGET (R253). -/
  | cartForget (seq : Nat)
  /-- CART_RECLAIM (R253). -/
  | cartReclaim (seq : Nat)
  /-- CLEAR_LOST (R253). -/
  | clearLost (seq : Nat)
  /-- POLICY_WRITE (R184). -/
  | policyWrite (seq : Nat)
  /-- FLIP_ARM (R280). -/
  | flipArm (seq : Nat)
  /-- FLIP_DISARM (R280). -/
  | flipDisarm (seq : Nat)
  /-- LINE_WRITE (R280). -/
  | lineWrite (seq : Nat)
  /-- LINE_READ (R280). -/
  | lineRead (seq : Nat)
  /-- RAW_READ (R280). -/
  | rawRead (seq : Nat)
  /-- GALE_READ (R280). -/
  | galeRead (seq : Nat)
  /-- GALE_SEARCH (R280). -/
  | galeSearch (seq : Nat)
  /-- RING_LOAD (R114). -/
  | ringLoad (seq : Nat)
  /-- PAIR (R290). -/
  | pair (seq : Nat)
  /-- UNPAIR (R290). -/
  | unpair (seq : Nat)
  /-- JOIN (R290). -/
  | join (seq : Nat) (partnerFits : Bool)
  /-- UNJOIN (R290). -/
  | unjoin (seq : Nat)
  /-- SET_MODE (R290). -/
  | setMode (seq : Nat)
  /-- HANDOVER (R306). -/
  | handover (seq : Nat)
  /-- HANDOVER_WITNESS_TIMEOUT (R306). -/
  | handoverWitnessTimeout
  /-- PROMOTE (R305). -/
  | promote (seq : Nat)
  /-- PROMOTE_FORCE (R305). -/
  | promoteForce (seq : Nat)
  /-- MIRROR_STATUS (R291). -/
  | mirrorStatus (seq : Nat)
  /-- WITNESS_KEY (R290). -/
  | witnessKey (seq : Nat)
  /-- CHAIN (R381). -/
  | chain (seq : Nat)
  /-- MEASURE (R383). -/
  | measure (seq : Nat)
  /-- CRED_STAGE (R379). -/
  | credStage (seq : Nat)
  /-- CRED_ACTIVATE (R379). -/
  | credActivate (seq : Nat)
  /-- CRED_DELETE (R379). -/
  | credDelete (seq : Nat)
  /-- CRED_LIST (R381). -/
  | credList (seq : Nat)
  /-- AUTHORITY_SET (R381). -/
  | authoritySet (seq : Nat)
  /-- PROVISION (R389). -/
  | provision (seq : Nat)
  /-- TAKE_OWNERSHIP (R389). -/
  | takeOwnership (seq : Nat)
  /-- DECOMMISSION (R389). -/
  | decommission (seq : Nat)
  /-- RETIRE (R389). -/
  | retire (seq : Nat)
  /-- GALE_RESULT (R173). -/
  | galeResult (t : GTable) (key : GaleSearch) (upsets : List Upset)
  /-- GALE_VERIFIER_READ (R189). -/
  | galeVerifierRead (u : VerifierUpset)
  /-- GALE_STEP_UP_DWELL (R191). -/
  | galeStepUpDwell
  /-- EPOCH_HEAD_CLOSE (R155). -/
  | epochHeadClose
  /-- EPOCH_END_RECORD_DURABLE (R155). -/
  | epochEndRecordDurable
  /-- INDEX_PAGE_READ_DONE (R147). -/
  | indexPageReadDone (ns : BitVec 12) (lo : BitVec 64) (o : PageOutcome)
  /-- FP_REBUILD_STEP (R159). -/
  | fpRebuildStep (ns : BitVec 12) (lo : BitVec 64)
  /-- FORECAST_SUSPEND_WINDOW (R167). -/
  | forecastSuspendWindow
  /-- NAND_READ_DONE (R263). -/
  | nandReadDone (read : Nat) (o : ReadReport)
  /-- NAND_PROGRAM_PASS (R131). -/
  | nandProgramPass (prog : Nat)
  /-- NAND_PROGRAM_FAIL (R468). -/
  | nandProgramFail (prog : Nat)
  /-- NAND_ERASE_DONE (R214). -/
  | nandEraseDone (erase : Nat) (ok : Bool)
  /-- GOVERNOR_ADMIT (R233). -/
  | governorAdmit (bay : BayNo)
  /-- ROW_CLOSE_TIMEOUT (R211). -/
  | rowCloseTimeout (bay : BayNo) (group block : Nat)
  /-- FOLD_BATCH (R213). -/
  | foldBatch (bay : BayNo)
  /-- GC_BATCH (R217). -/
  | gcBatch (bay : BayNo)
  /-- BALANCE_MOVE (R208). -/
  | balanceMove
  /-- PATROL_READ (R229). -/
  | patrolRead (bay : BayNo) (group block row : Nat) (o : ReadReport)
  /-- CART_PRESENCE_ASSERT (R248). -/
  | cartPresenceAssert (bay : BayNo) (c : CartFacts)
  /-- CART_LATCH_CLOSE (R248). -/
  | cartLatchClose (bay : BayNo)
  /-- CART_AUTH_RESPONSE (R239). -/
  | cartAuthResponse (bay : BayNo) (a : CartAnswer)
  /-- CART_AUTH_TIMEOUT (R240). -/
  | cartAuthTimeout (bay : BayNo)
  /-- CART_LATCH_OPEN (R250). -/
  | cartLatchOpen (bay : BayNo)
  /-- QUIESCE_DEADLINE (R250). -/
  | quiesceDeadline (bay : BayNo)
  /-- CART_PRESENCE_DROP (R251). -/
  | cartPresenceDrop (bay : BayNo)
  /-- CART_LIVENESS_POLL (R251). -/
  | cartLivenessPoll (bay : BayNo) (answered : Bool)
  /-- CART_RAIL_FAULT (R251). -/
  | cartRailFault (bay : BayNo)
  /-- WEAR_SYNC_TIMER (R243). -/
  | wearSyncTimer (bay : BayNo)
  /-- CART_LOCATE_EXPIRY (R256). -/
  | cartLocateExpiry (bay : BayNo)
  /-- MEM_CE (R270). -/
  | memCe (e : MemErr)
  /-- MEM_UE (R272). -/
  | memUe (e : MemErr)
  /-- NARROW_WRITE (R267). -/
  | narrowWrite (requester addr width : Nat)
  /-- DEW_READ (R279). -/
  | dewRead (e : DewFinding)
  /-- DEW_LAP_SLOW (R279). -/
  | dewLapSlow
  /-- HELLO (R287). -/
  | hello (h : CwHello)
  /-- HELLO_RETRY_TIMER (R287). -/
  | helloRetryTimer
  /-- CW_ACK (R286). -/
  | cwAck (h : CwHdr)
  /-- CW_CLOSE (R287). -/
  | cwClose
  /-- HEARTBEAT (R288). -/
  | heartbeat (h : CwHdr)
  /-- HEARTBEAT_TIMER (R288). -/
  | heartbeatTimer
  /-- VALUE_RECORD (R294). -/
  | valueRecord (h : CwHdr) (r : CwRec)
  /-- PATCH_RECORD (R294). -/
  | patchRecord (h : CwHdr) (r : CwRec)
  /-- DELETE_RECORD (R294). -/
  | deleteRecord (h : CwHdr) (r : CwRec)
  /-- SECURE_DELETE_RECORD (R310). -/
  | secureDeleteRecord (h : CwHdr) (r : CwRec)
  /-- MP_BEGIN_RECORD (R293). -/
  | mpBeginRecord (h : CwHdr) (r : CwRec)
  /-- MP_PART_RECORD (R293). -/
  | mpPartRecord (h : CwHdr) (r : CwRec)
  /-- MP_COMMIT_RECORD (R294). -/
  | mpCommitRecord (h : CwHdr) (r : CwRec)
  /-- MP_CANCEL_RECORD (R293). -/
  | mpCancelRecord (h : CwHdr) (r : CwRec)
  /-- LOST_RECORD (R308). -/
  | lostRecord (h : CwHdr) (r : CwRec)
  /-- LIST_RECORD (R308). -/
  | listRecord (h : CwHdr) (ns : BitVec 12) (snapshot lo hi : Nat) (entries : List (BitVec 128 × Nat))
  /-- WANT_RECORD (R308). -/
  | wantRecord (h : CwHdr) (ns : BitVec 12) (hashes : List (BitVec 128))
  /-- APPLIED_RECORD (R295). -/
  | appliedRecord (h : CwHdr) (ns : BitVec 12) (watermark : Nat) (versions : List Nat) (failed : Option (Nat × Nat))
  /-- PEER_LOSS_TIMEOUT (R299). -/
  | peerLossTimeout
  /-- LEASE_RENEW_TIMER (R302). -/
  | leaseRenewTimer
  /-- LEASE_EXPIRY (R302). -/
  | leaseExpiry
  /-- SOLO_WAIT_EXPIRY (R303). -/
  | soloWaitExpiry
  /-- CLAIM_TIMER (R305). -/
  | claimTimer
  /-- WITNESS_RETRANSMIT (R300). -/
  | witnessRetransmit
  /-- WITNESS_GRANT (R301). -/
  | witnessGrant (r : WitReply)
  /-- WITNESS_REFUSE (R301). -/
  | witnessRefuse (r : WitReply)
  /-- RESYNC_BUCKET (R308). -/
  | resyncBucket (ns : BitVec 12) (lo : BitVec 64)
  /-- HAZE_IDLE_TIMEOUT (R316). -/
  | hazeIdleTimeout
  /-- FOG_IDLE_TIMEOUT (R316). -/
  | fogIdleTimeout
  /-- FROST_IDLE_TIMEOUT (R316). -/
  | frostIdleTimeout
  /-- GLAZE_IDLE_TIMEOUT (R316). -/
  | glazeIdleTimeout
  /-- WAKE_PIN (R318). -/
  | wakePin
  /-- RTC_ALARM (R318). -/
  | rtcAlarm
  /-- HOLD_EXPIRY (R321). -/
  | holdExpiry
  /-- POWER_CAP_PERIOD (R322). -/
  | powerCapPeriod (inputTenthW : Nat)
  /-- KNOB_RELEASE_STEP (R323). -/
  | knobReleaseStep
  /-- FLOOR_BREACH_REPEAT (R324). -/
  | floorBreachRepeat
  /-- THERMAL_SAMPLE (R325). -/
  | thermalSample (temps : List (Nat × Int))
  /-- THERMAL_LEVEL_EXIT (R325). -/
  | thermalLevelExit (group : Nat)
  /-- THERMAL_STOP_RECOVERY (R326). -/
  | thermalStopRecovery
  /-- THERMAL_TRIP (R326). -/
  | thermalTrip (group point : Nat) (temp : Int)
  /-- CAP_TEST_SCHEDULE (R327). -/
  | capTestSchedule
  /-- CAP_TEST_DONE (R327). -/
  | capTestDone (m : CapMeasure)
  /-- CAP_TEST_RETRY (R327). -/
  | capTestRetry
  /-- POWER_FAIL_WARNING (R330). -/
  | powerFailWarning (c : FailCause)
  /-- HOLDUP_ENERGY_LOW (R331). -/
  | holdupEnergyLow
  /-- PLL_UNLOCK (R334). -/
  | pllUnlock
  /-- AUX_3V3_LOW (R461). -/
  | aux3v3Low
  /-- POWER_ON (R436). -/
  | powerOn (slotId : BitVec 6)
  /-- PWR_EN_DEASSERT (R438). -/
  | pwrEnDeassert
  /-- SHUTDOWN_LIMIT (R438). -/
  | shutdownLimit
  /-- FW_WATCHDOG (R437). -/
  | fwWatchdog (core ms : Nat) (abort : Bool)
  /-- VANE_WATCHDOG (R339). -/
  | vaneWatchdog
  /-- START_REPORT_TIMEOUT (R417). -/
  | startReportTimeout
  /-- SENSOR_SAMPLE (R342). -/
  | sensorSample (id : Nat) (reading : SensorReading)
  /-- PTP_ANNOUNCE_TIMEOUT (R351). -/
  | ptpAnnounceTimeout
  /-- PERSISTED_TIME_WRITE (R349). -/
  | persistedTimeWrite
  /-- BARO_FLUSH (R361). -/
  | baroFlush
  /-- BARO_FLUSH_AGE (R361). -/
  | baroFlushAge
  /-- STAGED_CRED_EXPIRY (R379). -/
  | stagedCredExpiry (id : BitVec 32)
  /-- UPD_LEASE_LAPSE (R408). -/
  | updLeaseLapse
  /-- TRIAL_DEADLINE (R419). -/
  | trialDeadline
  /-- TFTP_BLOCK (R424). -/
  | tftpBlock (n : Nat) (bytes : Bytes) (certOk signatureOk : Bool)
  /-- TFTP_RETRY_TIMER (R424). -/
  | tftpRetryTimer
  /-- HTTPS_CONNECT (R344). -/
  | httpsConnect (chain : CertChain)
  /-- MGMT_LINK_CHANGE (R343). -/
  | mgmtLinkChange (up : Bool) (speed : Nat)
  /-- REDFISH_SERVICE_ROOT_GET (R345). -/
  | redfishServiceRootGet (c : Nat)
  /-- CHASSIS_GET (R345). -/
  | chassisGet (c : Nat)
  /-- CHASSIS_PATCH (R345). -/
  | chassisPatch (c : Nat) (on : Bool)
  /-- SENSOR_GET (R345). -/
  | sensorGet (c id : Nat)
  /-- THERMAL_SUBSYSTEM_GET (R345). -/
  | thermalSubsystemGet (c : Nat)
  /-- POWER_SUBSYSTEM_GET (R345). -/
  | powerSubsystemGet (c : Nat)
  /-- FIERNPOWER_WAKE (R345). -/
  | fiernPowerWake (c : Nat)
  /-- COUNTERS_GET (R345). -/
  | countersGet (c : Nat)
  /-- DRIVE_BAY_GET (R345). -/
  | driveBayGet (c : Nat) (bay : BayNo)
  /-- MANAGER_GET (R345). -/
  | managerGet (c : Nat)
  /-- MANAGER_PATCH_DATETIME (R350). -/
  | managerPatchDatetime (c : Nat) (ns : Nat)
  /-- ETHERNET_INTERFACE_GET (R345). -/
  | ethernetInterfaceGet (c : Nat)
  /-- ETHERNET_INTERFACE_PATCH (R345). -/
  | ethernetInterfacePatch (c : Nat) (settings : List (Nat × Bytes))
  /-- BAROGRAPH_ENTRIES_GET (R345). -/
  | barographEntriesGet (c skip top : Nat)
  /-- VANE_RING_ENTRIES_GET (R345). -/
  | vaneRingEntriesGet (c skip top : Nat)
  /-- RETIREMENT_ENTRIES_GET (R433). -/
  | retirementEntriesGet (c : Nat)
  /-- UPDATE_STATUS_ENTRIES_GET (R433). -/
  | updateStatusEntriesGet (c : Nat)
  /-- EVENT_SERVICE_SSE (R345). -/
  | eventServiceSse (c : Nat) (minSev : Nat) (src : Option Nat)
  /-- UPDATE_SERVICE_GET (R345). -/
  | updateServiceGet (c : Nat)
  /-- MULTIPART_HTTP_PUSH (R421). -/
  | multipartHttpPush (c : Nat) (package : Bytes) (immediate certOk signatureOk : Bool)
  /-- REDFISH_OTHER_REQUEST (R345). -/
  | redfishOtherRequest (c : Nat) (r : BadRequest)
  /-- SET_ENDPOINT_ID (R346). -/
  | setEndpointId (eid : BitVec 8)
  /-- GET_ENDPOINT_ID (R346). -/
  | getEndpointId
  /-- GET_MCTP_VERSION_SUPPORT (R346). -/
  | getMctpVersionSupport (msgType : BitVec 8)
  /-- GET_MESSAGE_TYPE_SUPPORT (R346). -/
  | getMessageTypeSupport
  /-- GET_TID (R347). -/
  | getTid
  /-- GET_PLDM_VERSION (R347). -/
  | getPldmVersion (typ : BitVec 8)
  /-- GET_PLDM_TYPES (R347). -/
  | getPldmTypes
  /-- GET_PLDM_COMMANDS (R347). -/
  | getPldmCommands (typ : BitVec 8)
  /-- GET_PDR_REPOSITORY_INFO (R347). -/
  | getPdrRepositoryInfo
  /-- GET_PDR (R347). -/
  | getPdr (handle : Nat)
  /-- GET_SENSOR_READING (R347). -/
  | getSensorReading (sensor : Nat)
  /-- GET_STATE_SENSOR_READINGS (R347). -/
  | getStateSensorReadings (sensor : Nat)
  /-- EFFECTER_WAKE (R347). -/
  | effecterWake
  /-- EFFECTER_LOCATE (R347). -/
  | effecterLocate (on : Bool)
  /-- SET_EVENT_RECEIVER (R348). -/
  | setEventReceiver (addr : Nat)
  /-- PLATFORM_EVENT_ACCEPT (R348). -/
  | platformEventAccept
  /-- LOCATE_EXPIRY (R454). -/
  | locateExpiry
  /-- GET_VERSION (R384). -/
  | getVersion
  /-- GET_CAPABILITIES (R384). -/
  | getCapabilities
  /-- NEGOTIATE_ALGORITHMS (R384). -/
  | negotiateAlgorithms
  /-- GET_DIGESTS (R384). -/
  | getDigests
  /-- GET_CERTIFICATE (R384). -/
  | getCertificate (offset length : Nat)
  /-- CHALLENGE (R384). -/
  | challenge (nonce : BitVec 256)
  /-- GET_MEASUREMENTS (R384). -/
  | getMeasurements (index : Nat) (nonce : BitVec 256)
  /-- VIRRAD_NS_SHOW (R85). -/
  | virradNsShow (ns : BitVec 12)
  /-- VIRRAD_CART_LOCATE (R256). -/
  | virradCartLocate (bay : BayNo)
  /-- VIRRAD_TIME_SET (R349). -/
  | virradTimeSet (ns : Nat)
  /-- VIRRAD_POWER_WAKE (R318). -/
  | virradPowerWake
  /-- VIRRAD_PORT_STATS (R58). -/
  | virradPortStats (p : Port)
  /-- VIRRAD_SESSION_STATS (R58). -/
  | virradSessionStats (sid : BitVec 32)
  /-- VIRRAD_INDEX_STATS (R168). -/
  | virradIndexStats
  /-- VIRRAD_FORECAST_STATS (R168). -/
  | virradForecastStats
  /-- INPUT_RESTORED (R461). -/
  | inputRestored (p12v : Bool)
  /-- DHCP_REPLY (R424). -/
  | dhcpReply (addr : Nat) (server : Option Nat) (file : Option Bytes)
  /-- MODULE_REMOVE (R455). -/
  | moduleRemove (l : Link)
  /-- DIE_STOPS_ANSWERING (R221). -/
  | dieStopsAnswering (bay : BayNo) (die : Nat) (channel : Bool)
  /-- GALE_DIE_NO_ANSWER (R189). -/
  | galeDieNoAnswer (die : Fin 8)
  /-- ASYNC_LAG_WARN (R313). -/
  | asyncLagWarn (ns : BitVec 12)
  /-- PARTNER_READ (R297). -/
  | partnerRead (h : CwHdr) (id : Nat) (ns : BitVec 12) (opcode : BitVec 16) (key : Bytes) (offset len : Nat) (version : Option Nat)
  /-- PARTNER_READ_REPLY (R298). -/
  | partnerReadReply (h : CwHdr) (id : Nat) (status : BitVec 16) (version : Nat) (data : Bytes)
  /-- ROLE_RECORD (R306). -/
  | roleRecord (h : CwHdr) (roles : List RoleEntry) (epoch : Nat)
  /-- PLDM_UNSUPPORTED_COMMAND (R347). -/
  | pldmUnsupportedCommand (typ cmd : BitVec 8)
  /-- SPDM_UNSUPPORTED_REQUEST (R384). -/
  | spdmUnsupportedRequest (code : BitVec 8)
  deriving DecidableEq, Repr

end Sys2Proof
end

