-- ==== Sys2Proof/Machine/TypesNet.lean ====
section
/-! DEFINITION. The state of Squall: links, sessions, the packets in flight, credit, the handshake queue (02_transport), and
the capsules and replies in the streams (03_capsules_status). -/

namespace Sys2Proof.Machine

/-- FWP packet types (R35). -/
inductive PktType
  | init | initReply | auth | authReply | reject | data | ack | notice | keepalive | close
  deriving DecidableEq, Repr

/-- A packet the drive sends (R34), with its marking (R31, R54) and its UDP endpoint. -/
structure OutPacket where
  port : Port
  addr : Addr
  uport : BitVec 16
  typ : PktType
  sid : BitVec 32
  psn : Nat
  first : Bool
  last : Bool
  ackValid : Bool
  keyPhase : Bool
  ece : Bool
  cumAck : Nat
  sack : BitVec 64
  streamOffset : Nat
  creditLimit : Nat
  dscp : Nat
  pcp : Nat
  ect : Bool
  /-- the VLAN tag, if any (R30): its VID -/
  vid : Option Nat
  payload : Bytes
  /-- the IP packet as it goes out: IP header, UDP header, FWP header and the payload, sealed where the packet is protected (R32,
  R34, R44) -/
  frame : Bytes
  deriving DecidableEq, Repr

/-- A packet sent and not yet acknowledged: kept as an exact copy (R36). `bytes`: reply or notice bytes that count against the
congestion window (R54). -/
structure TxPacket where
  pkt : OutPacket
  sentAt : Nat
  resent : Bool
  sacked : Bool
  bytes : Nat
  deriving DecidableEq, Repr

/-- A capsule segment received and held (R58 check 13: until the capsule's first segment has passed). -/
structure Segment where
  offset : Nat
  bytes : Bytes
  first : Bool
  last : Bool
  deriving DecidableEq, Repr

/-- Bytes waiting to be sent in the reply stream, or a part of one reply (R69, R75): the capsule's tag stays outstanding while its final
reply is being placed (R68, R141). -/
structure TxBytes where
  /-- ingress sequence number of the capsule, 0 for one refused before sequencing -/
  seq : Nat
  tag : BitVec 32
  final : Bool
  cls : Nat
  first : Bool
  bytes : Bytes
  deriving DecidableEq, Repr

/-- An event subscription of a session (R356). -/
structure Subscription where
  sev : Nat
  srcLow : Nat
  srcHigh : Nat
  code : Nat
  deriving DecidableEq, Repr

/-- The AEAD keys of a session (R43, R44): of each direction the key in force and the nonce prefix; the host's previous key while
it is kept. -/
structure SessKeys where
  h2dKey : BitVec 256
  h2dPrev : Option (BitVec 256)
  d2hKey : BitVec 256
  h2dIv : BitVec 32
  d2hIv : BitVec 32
  deriving DecidableEq, Repr

/-- Half-open or established (R39). -/
inductive SessStage
  | halfOpen | established
  deriving DecidableEq, Repr

/-- One session (R14: owned by Squall). -/
structure Session where
  sid : BitVec 32
  port : Port
  addr : Addr
  uport : BitVec 16
  stage : SessStage
  /-- the credential's ID (R42, R378) -/
  tenant : BitVec 32
  segSize : Nat
  idleS : Nat
  transcript : BitVec 256
  keys : SessKeys
  /-- receive side: lowest PSN not yet received, and the PSNs above it already recorded (R34, R36) -/
  rxCum : Nat
  rxGot : List Nat
  /-- KEY_PHASE of the newest host packet accepted, and the first PSN of that phase while the previous key is kept (R44) -/
  rxPhase : Bool
  rxPrevUntil : Option Nat
  /-- DATA packets since the last acknowledgement; an acknowledgement is due (R37); the ECN state of the previous packet -/
  dataSinceAck : Nat
  ackDue : Bool
  lastCe : Bool
  /-- a CE mark not yet echoed by an acknowledgement (R54) -/
  eceOwed : Bool
  /-- send side (R36, R38, R44) -/
  txNext : Nat
  txPhase : Bool
  txPhaseStart : Nat
  txPhaseAcked : Bool
  unacked : List TxPacket
  peerCum : Nat
  srtt : Option Nat
  rttvar : Nat
  rto : Nat
  expiries : Nat
  /-- congestion (R54): window in bytes, alpha, the window being measured -/
  cwnd : Nat
  alpha : Rat
  winEnd : Nat
  winAcked : Nat
  winEce : Nat
  /-- the host's highest credit_limit (R53), and the replies not yet in packets with the stream position of their head -/
  hostLimit : Nat
  replyPos : Nat
  replyQ : List TxBytes
  stalledSince : Option Nat
  /-- the session's own capsule stream: bytes released (R48), the position up to which every capsule is sequenced or refused
  (R118), ranges ended ahead of it, segments held for a first segment still to come -/
  released : Nat
  seqPos : Nat
  ended : List (Nat × Nat)
  /-- ranges of refused capsules, whose further segments are discarded (R50, R58 check 13) -/
  refused : List (Nat × Nat)
  early : List Segment
  /-- ticks of the credit overruns of the last second (R46 cause 5) -/
  overruns : List Nat
  subs : List Subscription
  /-- deferred-error entries this session has to be told of (R139) -/
  deferred : List Nat
  /-- notices waiting for the congestion window (R57, R358) -/
  noticeQ : List Bytes
  deriving DecidableEq, Repr

/-- A tombstone (R46). -/
structure Tombstone where
  sid : BitVec 32
  port : Port
  addr : Addr
  uport : BitVec 16
  deriving DecidableEq, Repr

/-- An INIT waiting for step 4 of R39. -/
structure Handshake where
  pkt : InitPacket
  deriving DecidableEq, Repr

/-- The byte charge of one capsule (R48, R50). `cls`: the pool it borrows from. -/
structure Charge where
  sid : BitVec 32
  start : Nat
  len : Nat
  cls : Nat
  borrowed : Bool
  deriving DecidableEq, Repr

/-- A capsule waiting for its pool (R50), in arrival order. -/
structure BorrowWait where
  sid : BitVec 32
  start : Nat
  len : Nat
  cls : Nat
  deriving DecidableEq, Repr

/-- A write-buffer directory-entry charge (R51, R179). -/
structure DirCharge where
  sid : BitVec 32
  start : Nat
  reserve : Bool
  deriving DecidableEq, Repr

/-- One cage and its link (R28, R29, R453 to R455). `linkUpUs`: the last measured link-up time (R319). -/
structure LinkState where
  module : Option Nat
  refused : Bool
  up : Bool
  mode : Nat
  linkUpUs : Nat
  deriving DecidableEq, Repr

/-- A PFC pause episode the drive is sending (R55): the tick it began and the buffer (0 Squall, 1 Lull). -/
structure PfcEpisode where
  since : Nat
  buffer : Nat
  deriving DecidableEq, Repr

/-- Squall and the ports. -/
structure Net where
  sessions : List Session
  tombs : List Tombstone
  shakes : List Handshake
  /-- AUTH failures by source address, with their ticks; source addresses held off (R45) -/
  authFails : List (Addr × Nat)
  holdoffs : List Addr
  links : Vector LinkState 3
  /-- class pools in bytes (R49) -/
  pools : Vector Nat 5
  charges : List Charge
  borrowQ : List BorrowWait
  dirs : List DirCharge
  /-- the tick up to which a received PFC frame holds each priority paused, per port (R55) -/
  pfcPaused : Vector (Vector Nat 8) 2
  pfcTx : Vector (Option PfcEpisode) 2
  /-- Gale operations charged per tenant in the current second (R52), and whether pacing has bound since the last step change -/
  paced : List (BitVec 32 × Nat)
  pacedSec : Nat
  pacedRaised : Bool
  /-- packets that wait while their priority is paused (R55), oldest first -/
  held : List OutPacket
  /-- packets held by the Lull buffer in Fog, in arrival order (R56) -/
  lull : List Packet
  deriving DecidableEq, Repr

/-- The capsule header (R61), every field as received. -/
structure Hdr where
  magic : Nat
  version : Nat
  hdrLen : Nat
  opcode : BitVec 16
  opcodeTwin : BitVec 16
  flags : BitVec 7
  tag : BitVec 32
  nsWord : BitVec 32
  nsTwin : BitVec 32
  keyLen : BitVec 16
  keyLenTwin : BitVec 16
  cls : Nat
  valueLen : BitVec 64
  valueLenTwin : BitVec 64
  offset : BitVec 64
  expVersion : BitVec 64
  token : BitVec 128
  valueCrc : BitVec 64
  hdrCrc : BitVec 32
  deriving DecidableEq, Repr

/-- What a reader captured (R160): a version buffered in Drift, or Isobar's authoritative state (R147). -/
inductive Captured
  | buffered (seq : Nat)
  | absent
  | lostKey (version : Nat)
  | value (version loc gen len : Nat)
  deriving DecidableEq, Repr

/-- How far a capsule has come: being received; checked and assembled (checks 8 to 11 passed); waiting in its class queue;
dispatched and waiting for its per-key order or its engine; a writer resolved; the answer decided and its reply held. -/
inductive CapStage
  | receiving | assembled | sequenced | dispatched | resolved | held
  deriving DecidableEq, Repr

/-- A capsule from its first segment to its final reply. -/
structure Cap where
  sid : BitVec 32
  tag : BitVec 32
  start : Nat
  len : Nat
  hdr : Hdr
  /-- segment byte runs received, capsule-relative -/
  segs : List (Nat × Bytes)
  hdrChecked : Bool
  stage : CapStage
  awaitBorrow : Bool
  awaitDir : Bool
  delayed : Bool
  /-- a writer that waits unresolved for a position; it lacks a hot one (R212) -/
  slcWait : Bool
  hotWait : Bool
  tenant : BitVec 32
  key : Bytes
  value : Bytes
  /-- chunk checks of the carried value (R261) -/
  checks : List (BitVec 32)
  /-- ingress sequence number (R118), 0 before sequencing; tick of the stamp -/
  seq : Nat
  stamp : Nat
  cls : Nat
  /-- the share window in which it was dispatched (R123) -/
  window : Nat
  /-- check 14 has charged it (R185); its token's mac and fragment have been evaluated (R112); its lookup waits on a page read (R168) -/
  limitPaid : Bool
  tokenChecked : Bool
  pageWait : Bool
  /-- reader: what it captured, and the informational status of its token (R112) -/
  captured : Option Captured
  tokenStale : Bool
  /-- SCAN_PREFIX and READ_LOG: cursor and entries visited so far; replies sent -/
  cursor : Nat
  visited : Nat
  replies : Nat
  /-- READ_LOG of log 0x04: the entries that its replies have returned so far (R139) -/
  shown : List Nat
  /-- `PATCH`: location and generation of the copy whose chunks to be copied have been read and checked (R277) -/
  copied : Option (Nat × Nat)
  /-- a held ABORT: the target's tag and outcome (R142); a mirrored write or a cap test waiting -/
  abortOf : Option (BitVec 32 × Nat)
  /-- the partner this capsule was forwarded to answers it (R297, R298) -/
  forwarded : Bool
  /-- a read of the partner that this drive executes in its own ingress order (R297, R298): its number -/
  partner : Option Nat
  deriving DecidableEq, Repr

end Sys2Proof.Machine
end

