-- ==== Sys2Proof/Machine/TypesData.lean ====
section
/-! DEFINITION. The state of the data path below the streams: namespaces and uploads (04_data_model), Drift and the
deferred-error log (05_queueing_completion), Isobar and Forecast (06_forecast_index), Gale and policy (07_gale_search), Monsoon
(08_media_management). -/

namespace Sys2Proof.Machine

/-- A namespace (R83 to R87). `atRestKey`: its at-rest key, as the key store holds it (R372).
`charged` and `keys` are taken at resolution; `held` counts keys from the completion of their creating writes (R91). -/
structure Namespace where
  id : BitVec 12
  salt : BitVec 256
  atRestKey : BitVec 512
  capQuota : Nat
  keyQuota : Nat
  earlyAck : Bool
  reserve : Bool
  saltSupplied : Bool
  created : Nat
  charged : Nat
  keys : Nat
  held : Nat
  capLatched : Bool
  keyLatched : Bool
  deriving DecidableEq, Repr

/-- A part of an upload (R105, R107): the sequence of its MP_PART, its position and its bytes; on medium or still in Drift. -/
structure Part where
  seq : Nat
  offset : Nat
  bytes : Bytes
  /-- the chunk checks of its bytes (R261) -/
  checks : List (BitVec 32)
  /-- its runs, location and length in chunks, on the cartridge (R107, R205) -/
  bay : BayNo
  runs : List (Nat × Nat)
  onMedium : Bool
  /-- the runs it is being moved to, out of a band that is to be erased (R225) -/
  moving : List (Nat × Nat)
  /-- its `MP_PART` waits for the follower to report it applied (R295) -/
  mirrorWait : Bool
  deriving DecidableEq, Repr

/-- An open multipart upload (R104 to R108). -/
structure Upload where
  id : Nat
  ns : BitVec 12
  key : Bytes
  hash : BitVec 128
  tenant : BitVec 32
  declared : Nat
  marginUsed : Nat
  parts : List Part
  lastUse : Nat
  deriving DecidableEq, Repr

/-- A version buffered in Drift (R14, R126): the state a writer resolved to. -/
structure Version where
  ns : BitVec 12
  hash : BitVec 128
  key : Bytes
  seq : Nat
  /-- the value, or nothing for a deletion -/
  content : Option Bytes
  /-- the chunk checks of the content in Drift (R261); chunks whose stored data is uncorrectable, carried over by a PATCH (R99, R277) -/
  checks : List (BitVec 32)
  bad : List Nat
  opcode : BitVec 16
  sid : BitVec 32
  start : Nat
  tag : BitVec 32
  tenant : BitVec 32
  early : Bool
  done : Bool
  onMedium : Bool
  /-- units of 1 MiB a PATCH touches (R100); 0 for another writer -/
  units : Nat
  /-- the charge this writer took, the charge it gave back, and whether the key is new by its test; the exact figures are settled at commit (R87) -/
  charge : Nat
  refund : Nat
  provisional : Bool
  newKey : Bool
  /-- the key was counted before this writer (R91) -/
  counted : Bool
  /-- an unconditional `PUT` or `MP_COMMIT`, which rests on no earlier state; a `DELETE` with SECURE -/
  uncond : Bool
  secure : Bool
  /-- the key was in the lost state with this version (R137) -/
  onLost : Option Nat
  upload : Option Nat
  loc : Nat
  gen : Nat
  bay : BayNo
  jseq : Nat
  /-- a synchronous mirrored write: the follower has not applied it yet (R295) -/
  mirrorWait : Bool
  deriving DecidableEq, Repr

/-- A FLUSH that waits (R144), the sequences of the writers it still covers. -/
structure FlushWait where
  seq : Nat
  ns : BitVec 12
  tenant : BitVec 32
  deriving DecidableEq, Repr

/-- An entry of log 0x04 (R138). -/
structure Deferred where
  id : Nat
  time : Nat
  tenant : BitVec 32
  sid : BitVec 32
  opcode : BitVec 16
  status : BitVec 16
  tag : BitVec 32
  version : Nat
  hash : BitVec 128
  ns : BitVec 12
  cause : Nat
  deriving DecidableEq, Repr

/-- Why a data capsule is handed to Cumulus firmware (R15). -/
inductive FwCause
  | retry | rebuild | integrity | galeMulti | galePerr | secureDelete
  deriving DecidableEq, Repr

/-- A data capsule in the exception queue of Cumulus: its session and stream position, its ingress sequence where it has one, the cause. -/
structure Handed where
  sid : BitVec 32
  start : Nat
  seq : Nat
  why : FwCause
  deriving DecidableEq, Repr

/-- Jetstream (R118 to R123) and Drift. -/
structure Queue where
  /-- next ingress sequence number, and the end of the reservation on medium (R119) -/
  nextSeq : Nat
  reservedEnd : Nat
  stalled : Bool
  caps : List Cap
  /-- the exception queue of Cumulus: data capsules handed to firmware, with their ingress sequence and place (R14, R15, R186) -/
  handed : List Handed
  /-- deficits of classes 2 to 4, and the class the round robin stands at (R122) -/
  deficit : Vector Nat 3
  drrAt : Fin 3
  /-- units dispatched in the share window: URGENT, and classes 1 to 4 together (R123) -/
  winUrgent : Nat
  winAll : Nat
  /-- capsules of classes 1 to 4 dispatched in the window (R323); the window's number -/
  winCaps : Nat
  window : Nat
  /-- payload bytes dispatched per tenant in the window (R124, R185); the same figures of the last window, and its URGENT share in
  per mille (R146) -/
  winTenant : List (BitVec 32 × Nat)
  lastTenant : List (BitVec 32 × Nat)
  lastShare : Nat
  drift : List Version
  flushes : List FlushWait
  earlyOn : Bool
  deferred : List Deferred
  nextRecord : Nat
  /-- entries of log 0x04 its tenant has not read; those unread at the last reset; those whose flag has passed to every
  session of the tenant (R139) -/
  unread : List Nat
  bootUnread : List Nat
  passed : List Nat
  /-- namespaces and tenants with an acknowledged writer lost, and the lowest version of those, whether or not log 0x04 still holds
  its entry (R144) -/
  lossLow : List (BitVec 12 × BitVec 32 × Nat)
  deriving DecidableEq, Repr

/-- Kinds of journal record (R152, R154): the states of the log; the state of an upload and its parts (R104), and a reservation of the
ingress counter (R119) and the wear of a band (R241), which travel in the same journal. -/
inductive JKind
  | value | deletion | lost | relocation | upload | part | reservation | wear
  deriving DecidableEq, Repr

/-- A journal record (R154). `writer`: the ingress sequence of the writer it belongs to. `merged`: a page that includes it is
named by a durable epoch-end record, so it has left the log. -/
structure JRec where
  jseq : Nat
  /-- location of the journal chunk that holds it (R152) -/
  ref : Nat
  kind : JKind
  ns : BitVec 12
  hash : BitVec 128
  key : Bytes
  version : Nat
  loc : Nat
  gen : Nat
  len : Nat
  bay : BayNo
  epoch : Nat
  programmed : Bool
  committed : Bool
  writer : Option Nat
  /-- the namespace key it is encrypted under (R375) -/
  sealedKey : BitVec 512
  deriving DecidableEq, Repr

/-- The twin of a location (R63, R150): its complement in 48 bits. -/
def locTwin (l : Nat) : BitVec 48 := ~~~ BitVec.ofNat 48 l

/-- An entry of an index page (R150). -/
structure Entry where
  hash : BitVec 128
  key : Bytes
  version : Nat
  loc : Nat
  gen : Nat
  len : Nat
  lost : Bool
  twin : BitVec 48
  deriving DecidableEq, Repr

/-- Location and twin disagree as stored (R150): capsules on the key answer INTEGRITY_FAULT. -/
def Entry.badTwin (e : Entry) : Bool := e.twin != locTwin e.loc

/-- A bucket with its index page (R148, R149): the range of high-64 values, its home cartridge (R207), its entries in
ascending hash order. -/
structure Bucket where
  ns : BitVec 12
  lo : Nat
  hi : Nat
  home : BayNo
  entries : List Entry
  mergedThrough : Nat
  epoch : Nat
  pageLoc : Nat
  cached : Bool
  /-- tick of the page's last use in the index cache (R23) -/
  lastUsed : Nat
  /-- a read of the page is issued: its die operation, and the capsules it serves (R160, R169) -/
  reading : Bool
  readId : Nat
  wanted : List Nat
  prefetched : Bool
  fpValid : Bool
  /-- the key hash whose location twin disagreed in the last copy read (R150): the page is being read once more -/
  twinOnce : Option (BitVec 128)
  /-- the page is unreadable and no recovery is left (R150) -/
  pageLost : Bool
  /-- serials of the cartridges whose loss emptied it (R254) -/
  lostHome : List (BitVec 128)
  /-- the cartridge it is moving from, while its earlier records lie there (R207) -/
  movingFrom : Option BayNo
  /-- reconciliation with the partner is due (R308, R309) -/
  dirty : Bool
  deriving DecidableEq, Repr

/-- A tail in progress: the epoch that closed, the buckets it merged, its replay start (R155); the snapshots it writes (R157), and its
epoch-end records once they are being programmed. -/
structure Tail where
  epoch : Nat
  pages : List Bucket
  replayStart : Nat
  checkpoint : Bool
  snaps : List Nat
  ended : Bool
  ends : List Nat
  deriving DecidableEq, Repr

/-- The epoch-end record in force on a cartridge (R155, R207): what it says beside the map changes, and where it lies. -/
structure EndMark where
  bay : BayNo
  epoch : Nat
  replayStart : Nat
  checkpoint : Bool
  loc : Nat
  deriving DecidableEq, Repr

/-- Isobar. -/
structure Index where
  buckets : List Bucket
  /-- the buckets as the last durable epoch-end record names them (R156): the newest snapshot of the map with the changes of each later record
  (R158); that record's epoch and replay start, and whether it completes a checkpoint (R157) -/
  durable : List Bucket
  endEpoch : Nat
  replayStart : Nat
  checkpoint : Bool
  /-- the map changes of that record (R155): namespace, range_low and page location of each bucket whose page is another one -/
  changes : List (BitVec 12 × Nat × Nat)
  /-- every journal record still on flash, oldest first; the log holds those committed and not yet merged (R152) -/
  journal : List JRec
  /-- the epoch-end records, and the locations of the bucket-map and fingerprint snapshots in force (R155, R157) -/
  marks : List EndMark
  snaps : List Nat
  snapEpoch : Nat
  /-- records in the recent placement log: journal sequences, newest first -/
  log : List JRec
  /-- journal chunks held in staging SRAM, the newest first (R152) -/
  staging : List Nat
  nextJ : Nat
  head : Nat
  tail : Option Tail
  pressure : Bool
  uploads : List Upload
  recovered : Bool
  /-- multi-unit `PATCH`es that a power loss has cut, with their offsets and lengths, until the replay of the next start (R100) -/
  cuts : List (Version × Nat × Nat)
  deriving DecidableEq, Repr

/-- Where a speculative read took its location (R162). -/
inductive SpecSource
  | token | cache | log
  deriving DecidableEq, Repr

/-- A value read on flash for a reader (R160 to R163). -/
structure Read where
  id : Nat
  seq : Nat
  loc : Nat
  gen : Nat
  /-- its chunks by their number in the value, the MAP chunk after the last; a speculative read holds those of the request within the first
  16 in staging SRAM (R161) -/
  want : List Nat
  tenant : BitVec 32
  source : Option SpecSource
  squashed : Option Nat
  second : Bool
  /-- a speculative read whose location the captured state has named: its header is still to be checked (R163); the chunks of the request
  past the first 16, read after it (R161) -/
  confirming : Bool
  rest : Nat
  /-- a speculative read whose data has arrived in staging SRAM before the reader captured -/
  arrived : Option ReadReport
  /-- outcomes of a patrol read that needed retry on codewords of this read while it was under way: one retry sequence serves both
  (R263) -/
  shared : List (Nat × ReadOutcome)
  deriving DecidableEq, Repr

/-- A read of the journal chunk that holds the full key of a reader's log record (R152). -/
structure KeyRead where
  id : Nat
  seq : Nat
  loc : Nat
  deriving DecidableEq, Repr

/-- Chunks of a value in the value cache (R17, R23, R165), with their chunk checks (R261). -/
structure CachedValue where
  loc : Nat
  gen : Nat
  chunks : List Nat
  checks : List (Nat × BitVec 32)
  deriving DecidableEq, Repr

/-- Forecast: a tenant's window (R167). -/
structure SpecWindow where
  tenant : BitVec 32
  issued : Nat
  missed : Nat
  tokens : Nat
  tokensStale : Nat
  suspended : Bool
  deriving DecidableEq, Repr

/-- Tenant record of the policy (R183). -/
structure Tenant where
  id : BitVec 32
  action : Nat
  adminPermit : BitVec 32
  floor : Nat
  opsLimit : Nat
  bytesLimit : Nat
  intervalMs : Nat
  /-- levels of the two buckets, in millionths of a capsule and in bytes, and the tick of the last refill (R185) -/
  opsLevel : Int
  bytesLevel : Int
  refilled : Nat
  deriving DecidableEq, Repr

/-- A binding (R181, R183). -/
structure Binding where
  tenant : BitVec 32
  ns : BitVec 12
  dataPermit : BitVec 32
  deriving DecidableEq, Repr

/-- The tenant policy (R182 to R185). -/
structure Policy where
  tenants : List Tenant
  bindings : List Binding
  gen : Nat
  deriving DecidableEq, Repr

/-- A valid row of Gale (R172) at a narrow-row address, with its shadow and the shadow's stored complement (R189). A wide
entry is two rows: the even row holds bits [71:0] of the word, the odd row bits [143:72]. -/
structure GRow where
  addr : Nat
  data : BitVec 72
  valid : Bool
  parity : BitVec 2
  shadow : BitVec 72
  twin : BitVec 72
  deriving DecidableEq, Repr

/-- Gale (R172 to R196). -/
structure Gale where
  rows : List GRow
  masks : Vector (BitVec 144) 16
  /-- operations per second in millions: 600, 300, 150 or 75: the step in force, and the step by temperature (R190); a knob of the
  power cap may hold the step lower (R323) -/
  step : Nat
  tempStep : Nat
  dwellSince : Option Nat
  stepSince : Nat
  /-- last temperature of the hottest die and its number -/
  hottest : Nat
  hottestTemp : Int
  lapAt : Nat
  lapStart : Nat
  lapRows : Nat
  lapSkipped : Nat
  lapRepairs : Nat
  /-- keys whose directory entries are duplicated (R186) -/
  dupKeys : List (BitVec 12 × BitVec 128)
  failed : List Nat
  /-- rows repaired whose READ has not passed since; the dies of the READs that failed again after a repair (R189) -/
  repaired : List Nat
  refails : List Nat
  deriving DecidableEq, Repr

/-- The mode a main block runs in (R198). -/
inductive BlkMode
  | slc | qlc
  deriving DecidableEq, Repr

/-- Write streams (R210). -/
inductive Stream
  | hot | warm | cold | journal | index | reserved
  deriving DecidableEq, Repr

/-- What a die program carries (R468): `mark` an epoch-end record, `partMove` a part that leaves a found band. -/
inductive ProgWhat
  | value (seq : Nat)
  | journal (ref : Nat)
  | page (loc : Nat)
  | mark (loc : Nat)
  | part (upload seq : Nat)
  | partMove (upload seq : Nat)
  | batch (id : Nat)
  | parity (group block row : Nat)
  | reservedItem
  deriving DecidableEq, Repr

/-- A band that is not free (R201): block `block` on every plane of the 32 dies of group `group`. `next`: next write position
(R202). `items`: the items of its filter and summary (R226): namespace and key hash of each value or record. -/
structure Band where
  group : Nat
  block : Nat
  mode : BlkMode
  stream : Stream
  isOpen : Bool
  next : Nat
  items : List (BitVec 12 × BitVec 128)
  /-- read-level sets (R230): the one its blocks got at the erase; those that have moved since, by block; the latter as journalled at the
  last epoch close -/
  levelSet : Nat
  levels : List (Nat × Nat)
  levelsSaved : List (Nat × Nat)
  /-- reads since erase, by block of the band (R231) -/
  reads : List (Nat × Nat)
  refresh : Bool
  unprotected : List Nat
  openedAt : Nat
  /-- time of the last write into it (R216) -/
  lastWrite : Nat
  erasing : Bool
  /-- chosen by garbage collection (R217); bands that relocated values into this one (R218); index pages it holds or held:
  namespace, range_low, range_high (R226) -/
  victim : Bool
  srcs : List (BayNo × Nat × Nat)
  /-- where its filter and summary lie on the index stream, 0 before they are written at its close (R226) -/
  summaryLoc : Nat
  pages : List (BitVec 12 × Nat × Nat)
  /-- positions of the group's dies that were live when the band was opened: they carry its rows (R201, R221) -/
  dies : List Nat
  /-- index pages of the open row whose second wordline is still to be programmed: the place in the row, and the item (R198, R202) -/
  second : List (Nat × ProgWhat)
  /-- places that stay empty because their block failed under a batch: from which page on, the die's position, the plane (R219) -/
  gaps : List (Nat × Nat × Nat)
  /-- wordlines, by their first page, whose parity page had not been programmed when the band was cut off (R235) -/
  parityDue : List Nat
  deriving DecidableEq, Repr

/-- Consecutive chunks of a value with one version, generation and value_length in their headers (R107, R204, R277). -/
structure Stretch where
  chunks : Nat
  version : Nat
  gen : Nat
  length : Nat
  deriving DecidableEq, Repr

/-- A copy of a value on flash (R203 to R206): location of its first chunk, its runs (location and length in chunks), the
location of its MAP chunk or 0, its chunk headers' fields and its data. `dead`: no state names it. -/
structure Copy where
  bay : BayNo
  group : Nat
  block : Nat
  loc : Nat
  runs : List (Nat × Nat)
  mapLoc : Nat
  ns : BitVec 12
  hash : BitVec 128
  key : Bytes
  version : Nat
  gen : Nat
  bytes : Bytes
  /-- the at-rest key its chunks are encrypted under (R374); what its chunks' headers hold, in order -/
  sealedKey : BitVec 512
  heads : List Stretch
  /-- chunks that no decode or rebuild recovers; chunks whose header fails a check of R264, with the order of that check -/
  bad : List Nat
  badHeads : List (Nat × Nat)
  programmed : Bool
  dead : Bool
  /-- a chunk of it lies in a block that failed under a batch: its readers are served from the source, by location and generation (R219) -/
  fallback : Option (Nat × Nat)
  /-- tick of the write, and the µs since the write of the version it replaced (R210: the warm stream) -/
  written : Nat
  gap : Option Nat
  deriving DecidableEq, Repr

/-- A die program issued and not yet passed. -/
structure Prog where
  id : Nat
  bay : BayNo
  stream : Stream
  group : Nat
  block : Nat
  /-- the wordline's first page -/
  page : Nat
  /-- the die's position in its group, and the chunks of the item that this program writes -/
  die : Nat
  chunks : Nat
  what : ProgWhat
  tries : Nat
  groupsTried : List Nat
  deriving DecidableEq, Repr

/-- Why a batch moves values (R208, R213, R217, R225, R252). -/
inductive BatchKind
  | fold | gc | balance | secure | evacuate | rebuild
  deriving DecidableEq, Repr

/-- The stages of a batch (R213): 1 and 2, 3 and 4, 5 and 6. -/
inductive BatchStage
  | reading | programming | committing
  deriving DecidableEq, Repr

/-- One value of a batch (R213): the copy it is read from; the copy that the key's state must still name, which is another one where a value
is relocated again from its source (R219); the copy being written; its `RELOCATION` record, 0 before stage 5. -/
structure BatchItem where
  ns : BitVec 12
  hash : BitVec 128
  fromLoc : Nat
  fromGen : Nat
  namedLoc : Nat
  namedGen : Nat
  toLoc : Nat
  toGen : Nat
  withheld : Bool
  jseq : Nat
  deriving DecidableEq, Repr

/-- A fold, GC or move batch in flight. -/
structure Batch where
  id : Nat
  kind : BatchKind
  fromBay : BayNo
  toBay : BayNo
  group : Nat
  block : Nat
  stage : BatchStage
  stream : Stream
  /-- the governor priority of its operations (R233); its reads still out, with the location each reads (R213 stage 2); the rows it fills:
  group, block, first and end position (stage 3) -/
  priority : Nat
  reads : List (Nat × Nat)
  rows : List (Nat × Nat × Nat × Nat)
  items : List BatchItem
  deriving DecidableEq, Repr

/-- Why a band is erased (R214, R225, R393); `release` and `reclaim` erase the metadata set and the whole of a cartridge (R253). -/
inductive EraseFor
  | gc
  | release
  | reclaim
  | secure (seq : Nat)
  | sanitise (record : Nat)
  deriving DecidableEq, Repr

/-- A band erase issued (R214, R218). -/
structure Erase where
  id : Nat
  bay : BayNo
  group : Nat
  block : Nat
  why : EraseFor
  deriving DecidableEq, Repr

/-- A secure deletion under way (R225, R228): the bands found, erased one by one; journalled before acceptance. -/
structure SecureJob where
  seq : Nat
  ns : BitVec 12
  hash : BitVec 128
  /-- the key's home; the bands found there and, for a bucket on the move, where it moves from (R255) -/
  bay : BayNo
  bands : List (BayNo × Nat × Nat)
  total : Nat
  since : Nat
  /-- main and metadata bands reserved for what has to leave the bands found, by cartridge and die group (R225 step 2); the deletion record is
  committed (step 3); it is finished after a restart (R228) -/
  roomMain : List (BayNo × Nat × Nat)
  roomMeta : List (BayNo × Nat × Nat)
  accepted : Bool
  restarted : Bool
  status : BitVec 16
  version : Nat
  deriving DecidableEq, Repr

/-- Kinds of die operation and their cost in units of 0.01 W (R232). -/
inductive DieOp
  | slcProgram | qlcProgram | read | erase
  deriving DecidableEq, Repr

/-- A die operation in the governor (R233): its channel, its dies, numbered `32 * group + position`, and how often it has been suspended
(R200). -/
structure GovOp where
  id : Nat
  bay : BayNo
  channel : Nat
  dies : List Nat
  op : DieOp
  priority : Nat
  suspends : Nat
  deriving DecidableEq, Repr

/-- The shared part of Monsoon: programs, reads, batches and erases in flight, the governor. The bands of a cartridge are in
its bay. -/
structure Media where
  copies : List Copy
  progs : List Prog
  reads : List Read
  keyReads : List KeyRead
  batches : List Batch
  erases : List Erase
  secures : List SecureJob
  /-- `NS_DELETE`s with WAIT_RECLAIM, by their sequence, and the bands they still wait for (R86) -/
  reclaims : List (Nat × List (BayNo × Nat × Nat))
  /-- die operations admitted; suspended by a read (R200); waiting for the budget or for a die -/
  running : List GovOp
  suspended : List GovOp
  waiting : List GovOp
  nextOp : Nat
  /-- items of reserved metadata whose program was exhausted: they are attempted again at the next epoch (R468) -/
  again : Nat
  /-- the value cache: chunks of confirmed values under 32 KiB, the newest first (R17, R23) -/
  valueCache : List CachedValue
  spec : List SpecWindow
  /-- the cipher engine: one key slot for each namespace, and the metadata key (R372, R376) -/
  slots : List (BitVec 12 × BitVec 512)
  mdk : Option (BitVec 256)
  deriving DecidableEq, Repr

end Sys2Proof.Machine
end

