-- ==== Sys2Proof/Machine/TypesVane.lean ====
section
/-! DEFINITION. The state of Vane, Barograph, the parameters and modes (13, 16), the cartridges (09), the memories (10) and
power (12). -/

namespace Sys2Proof.Machine

/-- An event's identity: code, severity, source (R354). -/
structure Ev where
  code : Nat
  sev : Nat
  src : Nat
  deriving DecidableEq, Repr

/-- A recorded event (R354); `ext` is the extended sequence (R360). -/
structure Rec where
  ev : Ev
  ext : Nat
  time : Nat
  p0 : BitVec 32
  p1 : BitVec 32
  p2 : BitVec 32
  p3 : BitVec 32
  deriving DecidableEq, Repr

/-- A record in the SRAM ring, flushed to the persistent ring or not (R361). -/
structure RingRec where
  r : Rec
  flushed : Bool
  deriving DecidableEq, Repr

/-- A PLDM platform event waiting for the receiver (R348): a Barograph record, or a threshold crossing of a sensor. -/
inductive PldmEvent
  | oem (r : Rec)
  | sensor (id : Nat) (level : Nat)
  deriving DecidableEq, Repr

/-- Barograph, the Vane ring and the event routes (R353 to R363). -/
structure Events where
  /-- next record_seq (extended, R360) and the end of its reservation -/
  nextExt : Nat
  reservedEnd : Nat
  /-- SRAM ring, newest first -/
  ring : List RingRec
  dropped : Nat
  droppedLow : Option Nat
  /-- persistent ring copies by bay, newest first (R362) -/
  pring : Vector (List Rec) 4
  /-- Vane ring, newest first (R363) -/
  vring : List Rec
  /-- levels set by SET_LEVEL (R356), by source; later entries stand first -/
  levels : List (Nat × Nat)
  /-- events below their source's level, counted by source (R355) -/
  below : List (Nat × Nat)
  /-- drive time of the last zeroing of the histograms (R367) -/
  histSince : Nat
  deriving DecidableEq, Repr

/-- Time sources in rank order (R349). -/
inductive TimeSource
  | ptpLocked | ptpHoldover | host | rtc | persisted
  deriving DecidableEq, Repr

/-- Time (R349 to R351). `tick`: CK_TICK counted undisciplined (R21, R467), in µs. `slew`: signed ns of correction left. -/
structure Clock where
  tick : Nat
  ns : Nat
  source : TimeSource
  slew : Int
  slewStep : Nat
  persisted : Nat
  persistedAt : Option Nat
  ptpMaster : Bool
  ptpWithinSince : Option Nat
  /-- hold-offs of once-per-second items by key: the tick it was last raised and the ticks of its occurrences within the last
  second; windows of N per second: (key, whole second since the start, count); the tick of the drive's start (R467) -/
  holds : List (Nat × Nat × List Nat)
  startedAt : Nat
  windows : List (Nat × Nat × Nat)
  deriving DecidableEq, Repr

/-- A sensor (R341, R342): its last value in its resolution's unit, its failure kind. -/
structure SensorState where
  id : Nat
  value : Int
  fail : Nat
  /-- consecutive periods with the same value while another point of its group changed -/
  same : Nat
  /-- ticks since which a rail is outside 8 % of nominal -/
  outSince : Option Nat
  raised : Bool
  deriving DecidableEq, Repr

/-- A TLS connection on the management port (R344); an SSE stream with its filter (R345): least severity, source. -/
structure HttpConn where
  id : Nat
  authenticated : Bool
  /-- the first 8 bytes of the SHA-256 of the client's certificate (R404) -/
  digest : Nat
  sse : Option (Nat × Option Nat)
  deriving DecidableEq, Repr

/-- Vane's services (13). -/
structure Mgmt where
  linkUp : Bool
  linkSpeed : Nat
  address : Option Nat
  conns : List HttpConn
  nextConn : Nat
  sensors : List SensorState
  eid : Nat
  smbusAddr : Nat
  pldmReceiver : Option Nat
  pldmQueue : List PldmEvent
  locateLed : Bool
  locateTimed : Bool
  vaneUp : Bool
  deriving DecidableEq, Repr

/-- A settings copy (R444): generation and entries (parameter ID, value bytes). -/
structure SettingsCopy where
  gen : Nat
  entries : List (Nat × Bytes)
  valid : Bool
  deriving DecidableEq, Repr

/-- A self-test that runs (R446). -/
structure SelfTest where
  kind : Nat
  scope : Nat
  since : Nat
  deriving DecidableEq, Repr

/-- Whether the data path runs (R435 to R438, R326, R334): rails off and waiting for PWR_EN; starting, while a cartridge is
still checked (R436 steps 3 to 5); running and accepting capsules; in Recovery; halted after a trip or a PLL loss. -/
inductive RunState
  | off | starting | running | recovery | haltedTrip | haltedPll
  deriving DecidableEq, Repr

/-- A reset that waits for its drain (R435): `COMMIT_STAGED` offset 1, an integrity stop with the code of the
event that caused it, its region and its address (R274),
an activation with its capsule, if one asked for it, the slot's set to run and its source (R414), a reversion with its
cause (R419), entry to Recovery with its capsule (R413), the reset after a restart of Vane in trial (R417). -/
inductive ResetWhy
  | commit
  | integrity (code region addr : Nat)
  | activation (seq : Option Nat) (kind who : Nat)
  | reversion
  | recovery (seq : Option Nat)
  | trial
  deriving DecidableEq, Repr

/-- Parameters and modes (16). -/
structure Conf where
  /-- values in force that differ from the default (R439) -/
  values : List (Nat × Bytes)
  /-- the staged set, and values committed and not yet applied with the credential that committed them (R443) -/
  staged : List (Nat × Bytes)
  committed : List (Nat × Bytes × Nat)
  gen : Nat
  /-- settings halves A and B, two copies each, and which copy of each half was read last (R416, R444) -/
  halfA : Vector SettingsCopy 2
  halfB : Vector SettingsCopy 2
  readA : Fin 2
  readB : Fin 2
  mode : Nat
  run : RunState
  selfTest : Option SelfTest
  shutdownSince : Option Nat
  /-- a reset that waits for its drain (R435); kind and code of the start that runs or ran last (R448) -/
  pendingReset : Option ResetWhy
  startKind : Nat
  startCode : Nat
  /-- SESSION_CLOSING or a descent to Frost is under way: INITs are refused with CLOSING (R45) -/
  closing : Bool
  deriving DecidableEq, Repr

/-- Bay states (R247). -/
inductive BayState
  | empty | authenticating | refused | foreign | authenticated | attaching | inService | evacuating | evacuated | releasing
  | released | quiesced | missing | failed
  deriving DecidableEq, Repr

/-- A bay with its cartridge's flash as Monsoon keeps it. -/
structure Bay where
  state : BayState
  reason : Nat
  present : Bool
  latchOpen : Bool
  railsOn : Bool
  /-- presence never dropped since the last authentication, so no authentication on exit from Frost or Glaze (R318) -/
  held : Bool
  cart : Option Cartridge
  /-- a cartridge inserted and not yet attached, with what it shows (R248); its own progress while the bay still owes its bound
  cartridge (R245): AUTHENTICATING, REFUSED, FOREIGN or AUTHENTICATED -/
  guest : Option CartFacts
  guestState : BayState
  /-- the nonce of the challenge sent to the authenticator (R239) -/
  nonce : BitVec 256
  /-- the drive's record for the bay: serial and bind_count (R243) -/
  bound : Option (BitVec 128)
  bindCount : Nat
  /-- the record of all bindings in its cartridge's reserved metadata: bay, serial and bind_count (R243) -/
  bindings : List (BayNo × BitVec 128 × Nat)
  /-- which slot was read last -/
  slotRead : Fin 2
  pollFails : Nat
  /-- why the bay is FAILED: the cause of `EV_CART_FAILED` (R251, R259) -/
  failCause : Nat
  locate : Bool
  quiesceSince : Option Nat
  quiesceWriters : Nat
  /-- the last ingress sequence number before the quiesce began; writers that its cut at 700 ms ended, failed and lost (R250) -/
  quiesceSeq : Nat
  cutFailed : Nat
  cutLost : Nat
  bands : List Band
  /-- wear counts of bands that have been erased: (group, block, wear) (R215) -/
  wear : List (Nat × Nat × Nat)
  /-- band slots that a spare block has taken, group, block and plane, with the band's count at that time (R215, R222); those that a spare block
  takes at the band's next erase -/
  wearBase : List ((Nat × Nat × Nat) × Nat)
  newSlots : List (Nat × Nat × Nat)
  /-- the wear map and the retired-block list in the cartridge's reserved metadata, as last written (R241) -/
  mapWear : Option WearMap
  retired : List RetiredRec
  spare : Nat
  spareWarned : Nat
  failedDies : List (Nat × Bool)
  failRuns : List (Nat × Nat)
  /-- retired blocks by plane (`4 * die + plane`), and the band slots left empty: group, block, plane (R222) -/
  planeUsed : List (Nat × Nat)
  emptySlots : List (Nat × Nat × Nat)
  /-- rows whose running parity a power failure left on the reserved stream: group, block, row (R211, R330) -/
  savedRows : List (Nat × Nat × Nat)
  rebuilds : List (Nat × Nat)
  qlcErases : Nat
  slcErases : Nat
  hostBytes : Nat
  nandBytes : Nat
  powerOnHours : Nat
  lifeRaised : Nat
  slotTime : Nat
  /-- the wear total at the end of each of the last 30 days, newest first, the one at the binding before the first (R244) -/
  wearDays : List Nat
  /-- the state the bay returns to when its own cartridge is reattached (R249, R255) -/
  resume : BayState
  /-- evacuation: buckets and bytes moved, since when (R252, R253) -/
  movedBuckets : Nat
  movedBytes : Nat
  evacSince : Nat
  /-- a release or a reclaim whose reply waits (R253): its capsule -/
  opWaiting : Option Nat
  /-- the serial of the cartridge that a RECLAIM has begun to erase (R253, R255) -/
  reclaiming : Option (BitVec 128)
  slcWaiting : Nat
  /-- patrol (R229): the rows read in the lap (group, block, row), when it began, the bands it has marked -/
  patrolRows : List (Nat × Nat × Nat)
  patrolSince : Nat
  patrolMarked : Nat
  deriving DecidableEq, Repr

/-- A CE table entry (R271). -/
structure CeEntry where
  cls : Nat
  source : Nat
  count : Nat
  locus : Nat
  channel : Nat
  address : Nat
  first : Nat
  lastTime : Nat
  deriving DecidableEq, Repr

/-- A line or word of a diagnostic window that LINE_WRITE has written (R280): the bytes written, and the flips stored over data and
check bytes. -/
structure DiagCell where
  target : Nat
  address : Nat
  data : Bytes
  flipData : Bytes
  flipCheck : Bytes
  deriving DecidableEq, Repr

/-- A FLIP_ARM mask (R280). -/
structure DiagMask where
  address : Nat
  data : Bytes
  check : Bytes
  deriving DecidableEq, Repr

/-- The memories (10). -/
structure Memory where
  ce : List CeEntry
  ceFullRaised : Bool
  /-- retired DRAM row groups (kind-1 entries), in sequence order (R275, R276) -/
  retired : List RetiredRec
  remapFull : Bool
  poisoned : List Nat
  diag : List DiagCell
  /-- the window's contents come from firmware: the free value that names them (R269, R446), for DRAM and SRAM; none: zeros (R268) -/
  diagSeed : Vector (Option Nat) 2
  maskDram : Option DiagMask
  maskSram : Option DiagMask
  dewLapStart : Nat
  dewAddr : Nat
  /-- Dew's scrub pointer of on-chip SRAM, in words of 8 bytes (R14, R279) -/
  dewSram : Nat
  dewCe : Nat
  dewUe : Nat
  dewSlowRaised : Bool
  dewLastLap : Nat
  deriving DecidableEq, Repr

/-- Rungs (R314). -/
inductive Rung
  | clear | haze | fog | frost | glaze
  deriving DecidableEq, Repr

/-- Capacitor state (R327). -/
inductive CapState
  | untested | healthy | unhealthy
  deriving DecidableEq, Repr

/-- A temperature group's level and hottest point (R325). -/
structure ThermGroup where
  level : Nat
  point : Nat
  temp : Int
  belowSince : Option Nat
  deriving DecidableEq, Repr

/-- The hold-up bank (R327 to R329). -/
structure Bank where
  state : CapState
  volts : Nat
  temp : Int
  capacitance : Nat
  esr : Nat
  chargerFault : Bool
  testRunning : Bool
  testWaiters : List Nat
  retryPending : Bool
  testedSinceOn : Bool
  deriving DecidableEq, Repr

/-- The power-fail sequence while it runs (R330, R331). -/
structure FailSeq where
  since : Nat
  flush : List Nat
  flushed : Nat
  lost : Nat
  thenHalt : RunState
  trip : Option (Nat × Nat × Int)
  deriving DecidableEq, Repr

/-- The power-fail record (R330 step 9). -/
structure FailRecord where
  energy : Nat
  timeMs : Nat
  flushed : Nat
  lost : Nat
  deriving DecidableEq, Repr

/-- Power (12) and the pins (17). `holdUntil`: the tick at which a HOLD ends (R321). `inputs`: the input power of the last 100
control periods in 0.1 W, newest first (R322). `limitCut`: the power stages' cut of the limit in 0.1 W (R325). `nandShare`,
`galeCeiling`, `dispatchPm`: the positions of the three knobs (R323); `thermalPm`: the thermal dispatch
rate (R325), per mille. `availRate`: the available rate in MB/s (R324). `groups`: rows 1 to 7 of R325, then the cartridges. -/
structure Power where
  rung : Rung
  armed : Nat
  holdUntil : Option Nat
  alarm : Nat
  /-- last 16 measured exits of Haze, Fog, Frost and Glaze in µs, newest first (R319) -/
  exits : Vector (List Nat) 4
  inputs : List Nat
  limitCut : Nat
  nandShare : Nat
  galeCeiling : Nat
  dispatchPm : Nat
  thermalPm : Nat
  floorScale : Nat
  breach : Bool
  breachCause : Nat
  availRate : Nat
  groups : Vector ThermGroup 11
  stopped : Bool
  coolSince : Option Nat
  bank : Bank
  failing : Option FailSeq
  failRecord : Option FailRecord
  tripRecord : Option (Nat × Nat × Int)
  pllOk : Bool
  pwrEn : Bool
  pwrFail : Bool
  p12v : Bool
  aux3v3 : Bool
  slotId : BitVec 6
  /-- the auxiliary rail has been absent since Vane last ran (R349) -/
  auxLost : Bool
  deriving DecidableEq, Repr

end Sys2Proof.Machine
end

