-- ==== Sys2Proof/Machine/EventTable.lean ====
section
/-! DEFINITION. The events of every chapter: code, severity and source (R354). An event that several sources raise takes its
source as an operand. -/

namespace Sys2Proof.Machine

/-- `EV_LINK_UP` (R60). -/
def Ev.linkUp (src : Nat) : Ev := ⟨0x0101, 2, src⟩
/-- `EV_LINK_DOWN` (R60). -/
def Ev.linkDown (src : Nat) : Ev := ⟨0x0102, 3, src⟩
/-- `EV_SESSION_OPEN` (R60). -/
def Ev.sessionOpen : Ev := ⟨0x0103, 1, 256⟩
/-- `EV_SESSION_CLOSE` (R60). -/
def Ev.sessionClose : Ev := ⟨0x0104, 1, 256⟩
/-- `EV_AUTH_FAIL` (R60). -/
def Ev.authFail : Ev := ⟨0x0105, 3, 256⟩
/-- `EV_AEAD_FAIL` (R60). -/
def Ev.aeadFail : Ev := ⟨0x0106, 3, 256⟩
/-- `EV_CREDIT_OVERRUN` (R60). -/
def Ev.creditOverrun : Ev := ⟨0x0107, 3, 256⟩
/-- `EV_RETX_LIMIT` (R60). -/
def Ev.retxLimit : Ev := ⟨0x0108, 3, 256⟩
/-- `EV_SESSION_LIMIT` (R60). -/
def Ev.sessionLimit : Ev := ⟨0x0109, 2, 256⟩
/-- `EV_PFC_TX` (R60). -/
def Ev.pfcTx (src : Nat) : Ev := ⟨0x010A, 2, src⟩
/-- `EV_CREDIT_PACED` (R60). -/
def Ev.creditPaced : Ev := ⟨0x010B, 2, 256⟩
/-- `EV_REPLY_STALL` (R60). -/
def Ev.replyStall : Ev := ⟨0x010C, 3, 256⟩
/-- `EV_MODULE_REFUSED` (R60). R60 names Squall and the cages as its sources and does not say which this event carries: Squall's. DESIGN CHOICE, log entry 230. -/
def Ev.moduleRefused : Ev := ⟨0x010D, 3, 256⟩
/-- `EV_HDR_TWIN_MISMATCH` (R82). -/
def Ev.hdrTwinMismatch : Ev := ⟨0x0110, 4, 256⟩
/-- `EV_HDR_CRC` (R82). -/
def Ev.hdrCrc : Ev := ⟨0x0111, 3, 256⟩
/-- `EV_VALUE_CRC` (R82). -/
def Ev.valueCrc : Ev := ⟨0x0112, 3, 256⟩
/-- `EV_NS_CREATE` (R117). -/
def Ev.nsCreate : Ev := ⟨0x0380, 1, 769⟩
/-- `EV_NS_DELETE` (R117). -/
def Ev.nsDelete : Ev := ⟨0x0381, 2, 769⟩
/-- `EV_QUOTA_REACHED` (R117). -/
def Ev.quotaReached : Ev := ⟨0x0382, 2, 769⟩
/-- `EV_KEY_LIMIT` (R117). -/
def Ev.keyLimit : Ev := ⟨0x0383, 3, 769⟩
/-- `EV_KEY_HASH_COLLISION` (R117). -/
def Ev.keyHashCollision : Ev := ⟨0x0384, 4, 769⟩
/-- `EV_MP_EXPIRED` (R117). -/
def Ev.mpExpired : Ev := ⟨0x0385, 2, 769⟩
/-- `EV_PATCH_PARTIAL` (R117). -/
def Ev.patchPartial : Ev := ⟨0x0386, 3, 769⟩
/-- `EV_RING_LOAD` (R117). -/
def Ev.ringLoad : Ev := ⟨0x0387, 2, 769⟩
/-- `EV_SEQ_STALL` (R146). -/
def Ev.seqStall : Ev := ⟨0x0201, 2, 512⟩
/-- `EV_URGENT_CAP` (R146). -/
def Ev.urgentCap : Ev := ⟨0x0202, 2, 512⟩
/-- `EV_EARLY_ACK_ON` (R146). -/
def Ev.earlyAckOn : Ev := ⟨0x0203, 2, 513⟩
/-- `EV_EARLY_ACK_OFF` (R146). -/
def Ev.earlyAckOff : Ev := ⟨0x0204, 3, 513⟩
/-- `EV_DEFERRED_ERROR` (R146). -/
def Ev.deferredError : Ev := ⟨0x0205, 4, 513⟩
/-- `EV_LOST_KEY_CLEARED` (R146). -/
def Ev.lostKeyCleared : Ev := ⟨0x0206, 1, 513⟩
/-- `EV_DEFERRED_LOG_WRAP` (R146). -/
def Ev.deferredLogWrap : Ev := ⟨0x0207, 3, 513⟩
/-- `EV_INDEX_TWIN` (R171). -/
def Ev.indexTwin : Ev := ⟨0x0301, 4, 768⟩
/-- `EV_INDEX_FULL` (R171). -/
def Ev.indexFull : Ev := ⟨0x0302, 3, 768⟩
/-- `EV_LOG_PRESSURE` (R171). -/
def Ev.logPressure : Ev := ⟨0x0303, 3, 768⟩
/-- `EV_EPOCH_END` (R171). -/
def Ev.epochEnd : Ev := ⟨0x0304, 0, 768⟩
/-- `EV_INDEX_RECOVERED` (R171). -/
def Ev.indexRecovered : Ev := ⟨0x0305, 2, 768⟩
/-- `EV_FP_REBUILD_DONE` (R171). -/
def Ev.fpRebuildDone : Ev := ⟨0x0306, 1, 768⟩
/-- `EV_FORECAST_SUSPEND` (R171). -/
def Ev.forecastSuspend : Ev := ⟨0x0310, 2, 770⟩
/-- `EV_FORECAST_RESUME` (R171). -/
def Ev.forecastResume : Ev := ⟨0x0311, 1, 770⟩
/-- `EV_GALE_STEP` (R196). -/
def Ev.galeStep : Ev := ⟨0x0401, 2, 1024⟩
/-- `EV_GALE_PERR` (R196). -/
def Ev.galePerr (src : Nat) : Ev := ⟨0x0402, 3, src⟩
/-- `EV_GALE_MULTI_HIT` (R196). -/
def Ev.galeMultiHit : Ev := ⟨0x0403, 4, 1024⟩
/-- `EV_GALE_DUPLICATE` (R196). -/
def Ev.galeDuplicate : Ev := ⟨0x0404, 5, 1024⟩
/-- `EV_GALE_REPAIR` (R196). -/
def Ev.galeRepair : Ev := ⟨0x0405, 3, 1033⟩
/-- `EV_GALE_SHADOW_TWIN` (R196). -/
def Ev.galeShadowTwin : Ev := ⟨0x0406, 4, 1033⟩
/-- `EV_GALE_LAP` (R196). -/
def Ev.galeLap : Ev := ⟨0x0407, 0, 1033⟩
/-- `EV_GALE_FLOOR_SHORT` (R196). -/
def Ev.galeFloorShort : Ev := ⟨0x0408, 3, 1024⟩
/-- `EV_POLICY_WRITE` (R196). -/
def Ev.policyWrite : Ev := ⟨0x0409, 2, 1024⟩
/-- `EV_GALE_DIE_FAIL` (R196). -/
def Ev.galeDieFail (src : Nat) : Ev := ⟨0x040A, 6, src⟩
/-- `EV_BLOCK_RETIRED` (R237). -/
def Ev.blockRetired : Ev := ⟨0x0501, 3, 1280⟩
/-- `EV_DIE_FAILED` (R237). -/
def Ev.dieFailed : Ev := ⟨0x0502, 5, 1280⟩
/-- `EV_PARITY_REBUILD` (R237). -/
def Ev.parityRebuild : Ev := ⟨0x0503, 3, 1280⟩
/-- `EV_SPARE_LOW` (R237). -/
def Ev.spareLow : Ev := ⟨0x0504, 4, 1280⟩
/-- `EV_READ_ONLY` (R237). -/
def Ev.readOnly : Ev := ⟨0x0505, 5, 1280⟩
/-- `EV_SLC_FULL` (R237). -/
def Ev.slcFull : Ev := ⟨0x0506, 2, 1281⟩
/-- `EV_GC_URGENT` (R237). -/
def Ev.gcUrgent : Ev := ⟨0x0507, 3, 1282⟩
/-- `EV_ROW_UNPROTECTED` (R237). -/
def Ev.rowUnprotected : Ev := ⟨0x0508, 3, 1282⟩
/-- `EV_BALANCE_MOVE` (R237). -/
def Ev.balanceMove : Ev := ⟨0x0509, 1, 1280⟩
/-- `EV_SECURE_DONE` (R237). -/
def Ev.secureDone : Ev := ⟨0x050A, 2, 1280⟩
/-- `EV_SECURE_RESIDUE` (R237). -/
def Ev.secureResidue : Ev := ⟨0x050B, 5, 1280⟩
/-- `EV_PATROL_LAP` (R237). -/
def Ev.patrolLap : Ev := ⟨0x050C, 1, 1283⟩
/-- `EV_REFRESH` (R237). -/
def Ev.refresh : Ev := ⟨0x050D, 2, 1283⟩
/-- `EV_GOVERNOR_LIMIT` (R237). -/
def Ev.governorLimit : Ev := ⟨0x050E, 2, 1284⟩
/-- `EV_CART_INSERTED` (R259). -/
def Ev.cartInserted (src : Nat) : Ev := ⟨0x0601, 1, src⟩
/-- `EV_CART_REFUSED` (R259). -/
def Ev.cartRefused (src : Nat) : Ev := ⟨0x0602, 3, src⟩
/-- `EV_CART_FOREIGN` (R259). -/
def Ev.cartForeign (src : Nat) : Ev := ⟨0x0603, 3, src⟩
/-- `EV_CART_ATTACHED` (R259). -/
def Ev.cartAttached (src : Nat) : Ev := ⟨0x0604, 2, src⟩
/-- `EV_CART_QUIESCED` (R259). -/
def Ev.cartQuiesced (src : Nat) : Ev := ⟨0x0605, 2, src⟩
/-- `EV_CART_REMOVED` (R259). -/
def Ev.cartRemoved (src : Nat) : Ev := ⟨0x0606, 3, src⟩
/-- `EV_CART_EVAC_START` (R259). -/
def Ev.cartEvacStart : Ev := ⟨0x0607, 2, 1536⟩
/-- `EV_CART_EVAC_DONE` (R259). -/
def Ev.cartEvacDone : Ev := ⟨0x0608, 2, 1536⟩
/-- `EV_CART_RELEASED` (R259). -/
def Ev.cartReleased (src : Nat) : Ev := ⟨0x0609, 2, src⟩
/-- `EV_CART_FORGET` (R259). -/
def Ev.cartForget : Ev := ⟨0x060A, 4, 1536⟩
/-- `EV_CART_RECLAIM` (R259). -/
def Ev.cartReclaim (src : Nat) : Ev := ⟨0x060B, 3, src⟩
/-- `EV_CART_LIFE_LOW` (R259). -/
def Ev.cartLifeLow (src : Nat) : Ev := ⟨0x060C, 3, src⟩
/-- `EV_CART_RECORD_TWIN` (R259). -/
def Ev.cartRecordTwin (src : Nat) : Ev := ⟨0x060D, 4, src⟩
/-- `EV_CART_FAILED` (R259). -/
def Ev.cartFailed (src : Nat) : Ev := ⟨0x060E, 5, src⟩
/-- `EV_MEM_CE` (R284). -/
def Ev.memCe (src : Nat) : Ev := ⟨0x0701, 1, src⟩
/-- `EV_MEM_UE` (R284). -/
def Ev.memUe (src : Nat) : Ev := ⟨0x0702, 4, src⟩
/-- `EV_CE_TABLE_FULL` (R284). -/
def Ev.ceTableFull : Ev := ⟨0x0703, 2, 1792⟩
/-- `EV_DRAM_ROW_RETIRED` (R284). -/
def Ev.dramRowRetired : Ev := ⟨0x0704, 3, 1793⟩
/-- `EV_DRAM_REMAP_FULL` (R284). -/
def Ev.dramRemapFull : Ev := ⟨0x0705, 5, 1793⟩
/-- `EV_NAND_RETRY` (R284). -/
def Ev.nandRetry : Ev := ⟨0x0706, 1, 1795⟩
/-- `EV_CHUNK_HEADER` (R284). -/
def Ev.chunkHeader : Ev := ⟨0x0707, 4, 1795⟩
/-- `EV_GEN_TWIN` (R284). -/
def Ev.genTwin : Ev := ⟨0x0708, 4, 1795⟩
/-- `EV_NARROW_WRITE` (R284). -/
def Ev.narrowWrite : Ev := ⟨0x0709, 4, 1792⟩
/-- `EV_CHUNK_CHECK` (R284). -/
def Ev.chunkCheck : Ev := ⟨0x070A, 4, 1792⟩
/-- `EV_INTEGRITY_STOP` (R284). -/
def Ev.integrityStop : Ev := ⟨0x070B, 5, 1792⟩
/-- `EV_DEW_LAP` (R284). -/
def Ev.dewLap : Ev := ⟨0x070C, 0, 1796⟩
/-- `EV_DEW_LAP_SLOW` (R284). -/
def Ev.dewLapSlow : Ev := ⟨0x070D, 2, 1796⟩
/-- `EV_DIAG` (R284). -/
def Ev.diag : Ev := ⟨0x070E, 2, 1797⟩
/-- `EV_PEER_LINKED` (R313). -/
def Ev.peerLinked : Ev := ⟨0x0801, 2, 2048⟩
/-- `EV_PEER_LOST` (R313). -/
def Ev.peerLost : Ev := ⟨0x0802, 4, 2048⟩
/-- `EV_PEER_AUTH_FAIL` (R313). -/
def Ev.peerAuthFail : Ev := ⟨0x0803, 4, 2048⟩
/-- `EV_MIRROR_STATE` (R313). -/
def Ev.mirrorState : Ev := ⟨0x0804, 2, 2048⟩
/-- `EV_APPLY_FAIL` (R313). -/
def Ev.applyFail : Ev := ⟨0x0805, 4, 2048⟩
/-- `EV_ASYNC_LAG` (R313). -/
def Ev.asyncLag : Ev := ⟨0x0806, 3, 2048⟩
/-- `EV_MIRROR_DIVERGED` (R313). -/
def Ev.mirrorDiverged : Ev := ⟨0x0807, 5, 2048⟩
/-- `EV_RESYNC_DONE` (R313). -/
def Ev.resyncDone : Ev := ⟨0x0808, 2, 2048⟩
/-- `EV_SOLO` (R313). -/
def Ev.solo : Ev := ⟨0x0809, 4, 2049⟩
/-- `EV_FENCED` (R313). -/
def Ev.fenced : Ev := ⟨0x080A, 5, 2049⟩
/-- `EV_PROMOTED` (R313). -/
def Ev.promoted : Ev := ⟨0x080B, 4, 2049⟩
/-- `EV_WITNESS_REFUSED` (R313). -/
def Ev.witnessRefused : Ev := ⟨0x080C, 3, 2049⟩
/-- `EV_WITNESS_UNREACHABLE` (R313). -/
def Ev.witnessUnreachable : Ev := ⟨0x080D, 3, 2049⟩
/-- `EV_RUNG_ENTER` (R337). -/
def Ev.rungEnter : Ev := ⟨0x0901, 1, 2304⟩
/-- `EV_RUNG_EXIT` (R337). -/
def Ev.rungExit : Ev := ⟨0x0902, 1, 2304⟩
/-- `EV_CAP_BIND` (R337). -/
def Ev.capBind : Ev := ⟨0x0903, 2, 2305⟩
/-- `EV_FLOOR_BREACH` (R337). -/
def Ev.floorBreach : Ev := ⟨0x0904, 3, 2305⟩
/-- `EV_THERMAL_WARN` (R337). -/
def Ev.thermalWarn : Ev := ⟨0x0905, 3, 2306⟩
/-- `EV_THERMAL_THROTTLE` (R337). -/
def Ev.thermalThrottle : Ev := ⟨0x0906, 3, 2306⟩
/-- `EV_THERMAL_STOP` (R337). -/
def Ev.thermalStop : Ev := ⟨0x0907, 5, 2306⟩
/-- `EV_THERMAL_TRIP` (R337). -/
def Ev.thermalTrip : Ev := ⟨0x0908, 6, 2306⟩
/-- `EV_HOLDUP_TEST` (R337). -/
def Ev.holdupTest : Ev := ⟨0x0909, 1, 2307⟩
/-- `EV_HOLDUP_STATE` (R337). -/
def Ev.holdupState : Ev := ⟨0x090A, 3, 2307⟩
/-- `EV_POWER_FAIL` (R337). -/
def Ev.powerFail : Ev := ⟨0x090B, 5, 2307⟩
/-- `EV_POWER_FAIL_DONE` (R337). -/
def Ev.powerFailDone : Ev := ⟨0x090C, 3, 2307⟩
/-- `EV_PLL_UNLOCK` (R337). -/
def Ev.pllUnlock : Ev := ⟨0x090D, 6, 2308⟩
/-- `EV_VANE_RESTART` (R371). -/
def Ev.vaneRestart : Ev := ⟨0x0A01, 4, 2560⟩
/-- `EV_BARO_FLUSH` (R371). -/
def Ev.baroFlush : Ev := ⟨0x0A02, 0, 2561⟩
/-- `EV_BARO_DROP` (R371). -/
def Ev.baroDrop : Ev := ⟨0x0A03, 3, 2561⟩
/-- `EV_SENSOR_FAIL` (R371). -/
def Ev.sensorFail : Ev := ⟨0x0A04, 4, 2562⟩
/-- `EV_RAIL_LIMIT` (R371). -/
def Ev.railLimit : Ev := ⟨0x0A05, 4, 2562⟩
/-- `EV_TIME_SOURCE` (R371). -/
def Ev.timeSource : Ev := ⟨0x0A06, 2, 2563⟩
/-- `EV_TIME_AHEAD` (R371). -/
def Ev.timeAhead : Ev := ⟨0x0A07, 3, 2563⟩
/-- `EV_MGMT_LINK` (R371). -/
def Ev.mgmtLink : Ev := ⟨0x0A08, 2, 2564⟩
/-- `EV_MGMT_AUTH_FAIL` (R371). -/
def Ev.mgmtAuthFail : Ev := ⟨0x0A09, 3, 2564⟩
/-- `EV_SIDEBAND_EID` (R371). -/
def Ev.sidebandEid : Ev := ⟨0x0A0A, 2, 2565⟩
/-- `EV_LC_CHANGE` (R399). -/
def Ev.lcChange : Ev := ⟨0x0B01, 4, 2816⟩
/-- `EV_LC_TWIN` (R399). -/
def Ev.lcTwin : Ev := ⟨0x0B02, 6, 2816⟩
/-- `EV_KEY_DESTROYED` (R399). -/
def Ev.keyDestroyed : Ev := ⟨0x0B03, 2, 2816⟩
/-- `EV_CRED_CHANGE` (R399). -/
def Ev.credChange : Ev := ⟨0x0B04, 2, 2817⟩
/-- `EV_CRED_STAGE_EXPIRED` (R399). -/
def Ev.credStageExpired : Ev := ⟨0x0B05, 2, 2817⟩
/-- `EV_SANITISE_START` (R399). -/
def Ev.sanitiseStart : Ev := ⟨0x0B06, 2, 2818⟩
/-- `EV_SANITISE_DONE` (R399). -/
def Ev.sanitiseDone : Ev := ⟨0x0B07, 2, 2818⟩
/-- `EV_SANITISE_RESUMED` (R399). -/
def Ev.sanitiseResumed : Ev := ⟨0x0B08, 3, 2818⟩
/-- `EV_ATTEST` (R399). -/
def Ev.attest : Ev := ⟨0x0B09, 1, 2819⟩
/-- `EV_MEASURE_CHANGE` (R399). -/
def Ev.measureChange : Ev := ⟨0x0B0A, 2, 2819⟩
/-- `EV_UPD_BEGIN` (R429). -/
def Ev.updBegin : Ev := ⟨0x0C01, 2, 3072⟩
/-- `EV_UPD_REFUSED` (R429). -/
def Ev.updRefused : Ev := ⟨0x0C02, 3, 3072⟩
/-- `EV_UPD_CHUNK_BAD` (R429). -/
def Ev.updChunkBad : Ev := ⟨0x0C03, 3, 3072⟩
/-- `EV_UPD_STAGED` (R429). -/
def Ev.updStaged : Ev := ⟨0x0C04, 2, 3072⟩
/-- `EV_UPD_VERIFIED` (R429). -/
def Ev.updVerified : Ev := ⟨0x0C05, 2, 3072⟩
/-- `EV_UPD_ACTIVATE` (R429). -/
def Ev.updActivate : Ev := ⟨0x0C06, 4, 3072⟩
/-- `EV_UPD_CONFIRMED` (R429). -/
def Ev.updConfirmed : Ev := ⟨0x0C07, 2, 3072⟩
/-- `EV_UPD_REVERTED` (R429). -/
def Ev.updReverted : Ev := ⟨0x0C08, 4, 3072⟩
/-- `EV_UPD_LEASE_LAPSE` (R429). -/
def Ev.updLeaseLapse : Ev := ⟨0x0C09, 2, 3072⟩
/-- `EV_UPD_CANCELLED` (R429). -/
def Ev.updCancelled : Ev := ⟨0x0C0A, 2, 3072⟩
/-- `EV_UPD_REVOKED_IN_SERVICE` (R429). -/
def Ev.updRevokedInService : Ev := ⟨0x0C0B, 3, 3072⟩
/-- `EV_SLOT_INVALID` (R429). -/
def Ev.slotInvalid : Ev := ⟨0x0C0C, 5, 3073⟩
/-- `EV_ACTIVE_SET_TWIN` (R429). -/
def Ev.activeSetTwin : Ev := ⟨0x0C0D, 5, 3073⟩
/-- `EV_RECOVERY_ENTER` (R429). -/
def Ev.recoveryEnter : Ev := ⟨0x0C0E, 5, 3073⟩
/-- `EV_RECOVERY_INSTALL` (R429). -/
def Ev.recoveryInstall : Ev := ⟨0x0C0F, 4, 3073⟩
/-- `EV_MODE_CHANGE` (R448). -/
def Ev.modeChange : Ev := ⟨0x0A80, 2, 2566⟩
/-- `EV_RESET` (R448). -/
def Ev.reset : Ev := ⟨0x0A81, 3, 2566⟩
/-- `EV_START_DONE` (R448). -/
def Ev.startDone : Ev := ⟨0x0A82, 2, 2566⟩
/-- `EV_SHUTDOWN` (R448). -/
def Ev.shutdown : Ev := ⟨0x0A83, 2, 2566⟩
/-- `EV_PARAM_CHANGE` (R448). -/
def Ev.paramChange : Ev := ⟨0x0A84, 1, 2566⟩
/-- `EV_PARAM_REFUSED` (R448). -/
def Ev.paramRefused : Ev := ⟨0x0A85, 2, 2566⟩
/-- `EV_SETTINGS_INVALID` (R448). -/
def Ev.settingsInvalid : Ev := ⟨0x0A86, 4, 2566⟩
/-- `EV_MAINT_REFUSED` (R448). -/
def Ev.maintRefused : Ev := ⟨0x0A87, 1, 2566⟩
/-- `EV_SELFTEST_DONE` (R448). -/
def Ev.selftestDone : Ev := ⟨0x0A88, 2, 2566⟩
/-- `EV_FW_WATCHDOG` (R448). -/
def Ev.fwWatchdog : Ev := ⟨0x0A90, 5, 2567⟩

end Sys2Proof.Machine
end

