-- ==== Sys2Proof/Config.lean ====
section
/-! DEFINITION. What one drive fixes and what the spec leaves open: free values, the uninterpreted standards (hashes,
signatures, ciphers, certificates) and the drive's own identity. Nothing in Lean can evaluate an `opaque` constant, so no
statement rests on a value of one. -/

namespace Sys2Proof.Config

/-- Free values: the n-th random draw or unstated value of a run. FREE VALUE, log entry 2. -/
opaque freeValue : Nat → BitVec 512

/-- HMAC-SHA-256 under a key over a message (R42, R89, R110). PRESUMED uninterpreted standard, log entry 3. -/
opaque hmac : Bytes → Bytes → BitVec 256

/-- SHA-256 (R41, R403, R410). PRESUMED uninterpreted standard, log entry 3. -/
opaque sha256 : Bytes → BitVec 256

/-- ECDH on P-384: the point of a private key, as its two coordinates, and the x-coordinate of the shared point (R43). PRESUMED
uninterpreted standard, log entry 3. -/
opaque p384Point : BitVec 384 → BitVec 384 × BitVec 384
opaque ecdhX : BitVec 384 → Bytes → BitVec 384

/-- AES-256-GCM (R44, R375): the n-th byte of the key stream of a key and a nonce, and the tag over associated data and
plaintext. PRESUMED uninterpreted standard, log entry 3. -/
opaque gcmStream : BitVec 256 → BitVec 96 → Nat → Byte
opaque gcmTag : BitVec 256 → BitVec 96 → Bytes → Bytes → BitVec 128

/-- AES-256-XTS (R374, R375) under a double key and a tweak. PRESUMED uninterpreted standard, log entry 3. -/
opaque xtsEncrypt : BitVec 512 → BitVec 128 → Bytes → Bytes
opaque xtsDecrypt : BitVec 512 → BitVec 128 → Bytes → Bytes

/-- The RSASSA-PSS signature that the identity key makes over a message; the first argument is the draw of the salt
(R373). PRESUMED uninterpreted standard, log entry 3. -/
opaque identitySign : Nat → Bytes → BitVec 3072

/-- The RS(80,64) check bytes of a 64-byte DRAM line (R265). Log entry 3. -/
opaque rsCheck : Bytes → Bytes

/-- The check byte of the (72,64) Hsiao code of an SRAM word (R266): the spec names the code and gives no matrix.
Log entry 3. -/
opaque hsiaoCheck : Bytes → Byte

/-- The decoder of the DRAM line code on stored data and check bytes: `some (data, locus)` with the corrected data and
the positions of the corrected bytes (0 to 79), `none` when more than 8 byte errors leave no codeword near (R265).
Log entry 3. -/
opaque rsDecode : Bytes → Bytes → Option (Bytes × List Nat)

/-- The decoder of the SRAM word code: `some (data, bit)` with the corrected bit (0 to 71), if any. Log entry 3. -/
opaque hsiaoDecode : Bytes → Byte → Option (Bytes × Option Nat)

/-- What the diagnostic windows hold where firmware wrote them last: a byte by the number of its filling and its place (R269, R446).
FREE VALUE, log entry 2. -/
opaque unwrittenByte : Nat → Nat → Byte

/-- The DRAM channel that holds a line, and the physical address of the first byte of a diagnostic window (1 DRAM, 2 SRAM): the
spec gives neither the interleave nor the bases of its regions (R23, R280). Log entry 4. -/
opaque dramChannel : Nat → Fin 8
opaque windowBase : Nat → Nat

/-- The drive's serial, 16 ASCII bytes (R352). Log entry 4. -/
opaque driveSerial : BitVec 128

/-- The MAC address of a data port (R32). Log entry 4. -/
opaque portMac : Nat → BitVec 48

/-- The identity certificate chain, DER, leaf first (R373). Log entry 4. -/
opaque identityChain : Bytes

/-- The provisioning key made at manufacture (R372). Log entry 4. -/
opaque factoryProvisioningKey : BitVec 256

/-- The revocation list carried in the media parameter tables of a package (R239). Log entry 4. -/
opaque revoked : Bytes → BitVec 128 → Bool

/-- Cartridge hardware revisions that a firmware package supports beside B (R239, R244), DESIGN CHOICE, log entry 241. -/
opaque moreRevisions : Bytes → List Byte

/-- The firmware package installed in slot A at manufacture (R400, R466). Log entry 4. -/
opaque factoryPackage : Bytes

/-- The digest of one measured part of the firmware set (R382); the part's index and the package. Log entry 4. -/
opaque measurement : Nat → Bytes → BitVec 256

/-- The media parameter table: the read-level set of a block at a wear count (R230). Log entry 4. -/
opaque levelSetAtWear : Nat → Nat

/-- How many more READs than two of a Gale die's rows fail again after repair before the die counts as failed: the spec says "repeatedly"
(R189). FREE VALUE, log entry 246. -/
opaque galeReadFails : Nat

/-- The estimated seconds of an evacuation or a reconciliation: the spec reports an estimate and gives no formula for it
(R252, R291). FREE VALUE of the bytes left and the channel share in per cent, log entry 2. -/
opaque estimateSeconds : Nat → Nat → Nat

/-- The replication stream bytes that a drive accepts ahead of what it has received (R286): the spec names the limit and not its size.
FREE VALUE, log entry 218. -/
opaque cwWindow : Nat

/-- The payload of a control message on the peer link whose layout the spec does not give (R297, R298, R306), from its number and
its fields. FREE VALUE, log entry 218. -/
opaque cwBody : Nat → Bytes → Bytes

/-- The response of
the drive to a PLDM or SPDM query whose content the DMTF standards define (R346 to R348, R384): the request code and its
operand. Log entry 3. -/
opaque dmtfResponse : Nat → Nat → Bytes

/-- The body of a Redfish resource, which the DMTF schema shapes; the path's number and the values the resource reports
(R345). Log entry 3. -/
opaque redfishBody : Nat → List Nat → Bytes

end Sys2Proof.Config
end

