-- ==== Sys2Proof/Machine/Flags.lean ====
section
/-! DEFINITION. The check values and status codes: twins (R63), CRC-32C (R64), CRC-64 (R65), the status codes (R80), the
capsule flags (R66) and the reply flags (R73). -/

namespace Sys2Proof.Machine

/-- One bit of a reflected CRC. -/
def crcBit {w : Nat} (poly c : BitVec w) : BitVec w :=
  if c.getLsbD 0 then (c >>> 1) ^^^ poly else c >>> 1

/-- One byte of a reflected CRC. -/
def crcByte {w : Nat} (poly c : BitVec w) (b : Byte) : BitVec w :=
  let c0 := c ^^^ b.setWidth w
  crcBit poly (crcBit poly (crcBit poly (crcBit poly (crcBit poly (crcBit poly (crcBit poly (crcBit poly c0)))))))

/-- CRC-32C of a run of bytes (R64). -/
def crc32c (bs : Bytes) : BitVec 32 :=
  bs.foldl (crcByte 0x82F63B78) 0xFFFFFFFF ^^^ 0xFFFFFFFF

/-- Product of two polynomials modulo the CRC-32C polynomial, reflected: bit 31 is the coefficient of 1. -/
def crcMul (a b : BitVec 32) : BitVec 32 :=
  ((List.range 32).foldl (fun (p : BitVec 32 × BitVec 32) (i : Nat) =>
    (if a.getLsbD (31 - i) then p.1 ^^^ p.2 else p.1, crcBit 0x82F63B78 p.2)) (0, b)).1

/-- A CRC-32C register after `n` more bytes of zero, `n` below 8,192: times x to the 8 n, by squaring. -/
def crcZeros (c : BitVec 32) (n : Nat) : BitVec 32 :=
  ((List.range 13).foldl (fun (p : BitVec 32 × BitVec 32) (i : Nat) =>
    (if n.testBit i then crcMul p.1 p.2 else p.1, crcMul p.2 p.2)) (c, 0x00800000)).1

/-- The chunk check of a chunk of a value: the CRC-32C of its bytes, a short one padded with zeros to 4,096 (R261). -/
def chunkCheck (b : Bytes) : BitVec 32 := crcZeros (b.foldl (crcByte 0x82F63B78) 0xFFFFFFFF) (4096 - b.length) ^^^ 0xFFFFFFFF

/-- Chunk `i` of a value (R92). -/
def chunkOf (v : Bytes) (i : Nat) : Bytes := (v.drop (4096 * i)).take 4096

/-- The chunk checks of a value's chunks, in order (R261). -/
def chunkChecks (v : Bytes) : List (BitVec 32) := (List.range ((v.length + 4095) / 4096)).map (fun i => chunkCheck (chunkOf v i))

/-- The first of some chunks of a value that fails the check it carries (R261). -/
def checkFail (v : Bytes) (ks : List (BitVec 32)) (is : List Nat) : Option Nat :=
  is.find? (fun i => match ks[i]? with
    | some k => k != chunkCheck (chunkOf v i)
    | none => false)

/-- CRC-64 of a run of bytes (R65). -/
def crc64 (bs : Bytes) : BitVec 64 :=
  bs.foldl (crcByte 0xC96C5795D7870F42) 0xFFFFFFFFFFFFFFFF ^^^ 0xFFFFFFFFFFFFFFFF

/-- A field agrees with its twin: their exclusive or is all ones (R63). -/
def twinOk {w : Nat} (x t : BitVec w) : Bool := x ^^^ t == BitVec.allOnes w

/-! ## Status codes (R80). -/

namespace Status
abbrev ok : BitVec 16 := 0x0000
abbrev notFound : BitVec 16 := 0x0001
abbrev tokenStale : BitVec 16 := 0x0002
abbrev aborted : BitVec 16 := 0x0010
abbrev abortOutcome : BitVec 16 := 0x0011
abbrev hdrTwinMismatch : BitVec 16 := 0x0101
abbrev badOpcode : BitVec 16 := 0x0102
abbrev badLength : BitVec 16 := 0x0103
abbrev unalignedPatch : BitVec 16 := 0x0104
abbrev versionMismatch : BitVec 16 := 0x0105
abbrev tagInUse : BitVec 16 := 0x0106
abbrev crcMismatch : BitVec 16 := 0x0107
abbrev alreadyExists : BitVec 16 := 0x0108
abbrev badField : BitVec 16 := 0x0109
abbrev noCredit : BitVec 16 := 0x0201
abbrev noSpace : BitVec 16 := 0x0202
abbrev busyMaintenance : BitVec 16 := 0x0203
abbrev throttled : BitVec 16 := 0x0204
abbrev mediaError : BitVec 16 := 0x0301
abbrev deferredError : BitVec 16 := 0x0302
abbrev unavailable : BitVec 16 := 0x0303
abbrev integrityFault : BitVec 16 := 0x0304
abbrev readOnly : BitVec 16 := 0x0401
abbrev wrongMode : BitVec 16 := 0x0402
abbrev notOwner : BitVec 16 := 0x0403
abbrev paramLocked : BitVec 16 := 0x0404
abbrev notLead : BitVec 16 := 0x0405
abbrev authFailed : BitVec 16 := 0x0501
abbrev notPermitted : BitVec 16 := 0x0502
abbrev sessionExpired : BitVec 16 := 0x0503
abbrev updateBusy : BitVec 16 := 0x0601
abbrev imageRejected : BitVec 16 := 0x0602
abbrev imageBinding : BitVec 16 := 0x0603
abbrev rollbackRefused : BitVec 16 := 0x0604
abbrev imageIncomplete : BitVec 16 := 0x0605
end Status

/-! ## Capsule flags (R66), by bit. -/

namespace Flag
abbrev fua : Nat := 0
abbrev secure : Nat := 1
abbrev tokenPresent : Nat := 2
abbrev hostCrc : Nat := 3
abbrev noForecast : Nat := 4
abbrev ifAbsent : Nat := 5
abbrev ringCheck : Nat := 6
end Flag

/-- The reply flags (R73) as one number. -/
def replyFlags (deferredPending tokenValid fromBuffer more : Bool) : Nat :=
  deferredPending.toNat + 2 * tokenValid.toNat + 4 * fromBuffer.toNat + 8 * more.toNat

/-- Rounds `a` up to a multiple of `m`, counted in units of `m`. -/
def ceilDiv (a m : Nat) : Nat := (a + m - 1) / m

end Sys2Proof.Machine
end

