-- ==== Sys2Proof/Machine/TypesPair.lean ====
section
/-! DEFINITION. The state of Crosswind (11), of the keys, credentials and Deluge (14), of the update service (15), the
counters, the ring, and what the drive emits. -/

namespace Sys2Proof.Machine

/-- Pair states (R288). -/
inductive PairState
  | unpaired | connecting | linked | peerLost
  deriving DecidableEq, Repr

/-- Namespace states of a mirrored namespace (R292). -/
inductive NsState
  | unmirrored | joining | inSync | resync | solo | stale | waiting | fenced
  deriving DecidableEq, Repr

/-- A replication record the lead keeps until the follower reports it applied (R293, R295). `kind` as in R293. -/
structure RepRec where
  kind : Nat
  ns : BitVec 12
  key : Bytes
  hash : BitVec 128
  version : Nat
  valueLength : Nat
  len : Nat
  offset : Nat
  uploadId : Nat
  sent : Bool
  at_ : Nat
  deriving DecidableEq, Repr

/-- A mirrored namespace on this drive (R292). -/
structure MirrorNs where
  ns : BitVec 12
  lead : Bool
  st : NsState
  /-- the state before WAITING or FENCED, to which the namespace returns -/
  prev : NsState
  sync : Bool
  lossy : Bool
  /-- follower: highest version such that all below are applied (R294); lead: the follower's, as reported -/
  watermark : Nat
  /-- lead: newest resolved version; highest version acknowledged to a host (R307) -/
  newest : Nat
  acked : Nat
  unapplied : List RepRec
  /-- secure-delete records that the follower has not reported done, journalled (R310) -/
  securePending : List RepRec
  /-- lead: the buckets whose LIST the follower has not answered, oldest first, by their low end; follower: the hashes it has asked
  for with WANT and not been sent yet (R308) -/
  listing : List Nat
  /-- the records that failed to apply, by key hash and version: their buckets are dirty once the cause has cleared (R309) -/
  failedKeys : List (BitVec 128 × Nat)
  /-- the SOLO wait that runs, since when; whether a SOLO grant came; whether the wait ended without one (R303, R304) -/
  waitSince : Option Nat
  soloGranted : Bool
  refusedNew : Bool
  lagWarned : Bool
  /-- reconciliation figures (R313): buckets, bytes, begun at; divergent records: count, lowest, highest version -/
  resyncBuckets : Nat
  resyncBytes : Nat
  resyncSince : Nat
  diverged : Nat
  divergedLow : Nat
  divergedHigh : Nat
  /-- the reconciliation under way follows R307: what it replaces or deletes here is divergent -/
  lower : Bool
  deriving DecidableEq, Repr

/-- Witness requests (R300). -/
inductive WitMsg
  | renew | solo | claim | release | handover
  deriving DecidableEq, Repr

/-- A witness request not yet answered (R300), with the 448 bytes that it is sent again as. -/
structure WitReq where
  msg : WitMsg
  nonce : BitVec 128
  forced : Bool
  sentAt : Nat
  tries : Nat
  bytes : Bytes
  deriving DecidableEq, Repr

/-- A handover under way (R306): the capsule, the namespaces, waiting for the witness since. -/
structure HandoverRun where
  seq : Nat
  nss : List (BitVec 12)
  witnessSince : Option Nat
  deriving DecidableEq, Repr

/-- A PROMOTE waiting for its CLAIM (R305): the capsule and the namespaces asked for. -/
structure PromoteRun where
  seq : Nat
  nss : Option (BitVec 12)
  deriving DecidableEq, Repr

/-- A partner read sent to the partner and not yet answered (R297, R298): the local capsule, the version asked for, and the
status this drive would have reported alone. -/
structure PartnerRead where
  id : Nat
  seq : Nat
  version : Option Nat
  alone : BitVec 16
  deriving DecidableEq, Repr

/-- A Crosswind frame sent and not yet acknowledged (R286). -/
structure CwSent where
  psn : Nat
  sentAt : Nat
  resent : Bool
  sacked : Bool
  frame : Bytes
  deriving DecidableEq, Repr

/-- What a DATA frame, or the frames of one record, bring (R286, R293, R297, R298, R306). -/
inductive CwMsg
  | value (r : CwRec)
  | patch (r : CwRec)
  | delete (r : CwRec)
  | secureDelete (r : CwRec)
  | mpBegin (r : CwRec)
  | mpPart (r : CwRec)
  | mpCommit (r : CwRec)
  | mpCancel (r : CwRec)
  | lost (r : CwRec)
  | list (ns : BitVec 12) (snapshot lo hi : Nat) (entries : List (BitVec 128 × Nat))
  | want (ns : BitVec 12) (hashes : List (BitVec 128))
  | applied (ns : BitVec 12) (watermark : Nat) (versions : List Nat) (failed : Option (Nat × Nat))
  | read (id : Nat) (ns : BitVec 12) (opcode : BitVec 16) (key : Bytes) (offset len : Nat) (version : Option Nat)
  | answer (id : Nat) (status : BitVec 16) (version : Nat) (data : Bytes)
  | role (roles : List RoleEntry) (epoch : Nat)
  deriving DecidableEq, Repr

/-- A message received and not yet taken: its first PSN. -/
structure CwHeld where
  psn : Nat
  msg : CwMsg
  deriving DecidableEq, Repr

/-- The AEAD keys and nonce prefixes of the peer link, of what is sent and of what is received (R286). -/
structure CwKeys where
  txKey : BitVec 256
  rxKey : BitVec 256
  txIv : BitVec 32
  rxIv : BitVec 32
  deriving DecidableEq, Repr

/-- The pair (R285 to R313). -/
structure Mirror where
  state : PairState
  partnerSerial : BitVec 128
  pairId : BitVec 64
  partnerNode : BitVec 16
  epoch : Nat
  /-- the highest epoch held or seen from the partner (R305) -/
  epochSeen : Nat
  lostSince : Option Nat
  helloRetry : Bool
  /-- the nonce and the ephemeral private key of this drive's HELLO; the partner's newest HELLO; the keys of the link (R286, R287) -/
  hello : Option (BitVec 256 × BitVec 384)
  peerHello : Bytes
  keys : Option CwKeys
  /-- link: PSNs, acknowledgement, replication stream position and the partner's credit -/
  txNext : Nat
  rxCum : Nat
  rxGot : List Nat
  unacked : List CwSent
  peerCum : Nat
  rto : Nat
  srtt : Option Nat
  rttvar : Nat
  expiries : Nat
  streamPos : Nat
  peerCredit : Nat
  /-- the position up to which the partner's replication stream has been taken; the messages received that wait for a gap to close, or
  for what holds their record up, in PSN order (R36, R286) -/
  rxPos : Nat
  held : List CwHeld
  /-- heartbeats: own sequence with the ticks of those sent, newest first; the partner's newest -/
  hbSeq : Nat
  hbSent : List (Nat × Nat)
  hbPeer : Nat
  lastRx : Nat
  /-- the committed value of the lead; the read permit: when the newest heartbeat that the partner has echoed was sent (R297) -/
  committed : Nat
  permitSince : Option Nat
  witnessKey : Option (BitVec 3072)
  nss : List MirrorNs
  reqs : List WitReq
  leaseUntil : Option Nat
  lastGrant : Nat
  /-- this drive holds a SOLO record at the witness (R301) -/
  soloRecord : Bool
  fenced : Bool
  handover : Option HandoverRun
  promote : Option PromoteRun
  reads : List PartnerRead
  nextRead : Nat
  deriving DecidableEq, Repr

/-- A copy of the life-cycle record (R387). -/
structure LcCopy where
  state : BitVec 8
  stateTwin : BitVec 8
  seq : Nat
  intent : BitVec 8
  intentTwin : BitVec 8
  crcOk : Bool
  deriving DecidableEq, Repr

/-- An operator or tenant credential (R378, R379). -/
structure Cred where
  id : BitVec 32
  operator : Bool
  active : Option (BitVec 256)
  staged : Option (BitVec 256)
  stagedAt : Nat
  activated : Nat
  deriving DecidableEq, Repr

/-- A sanitise progress record (R394). `verify`, `bandsLeft`: what step 6 still has to do (R393). -/
structure SanRec where
  id : Nat
  start : Nat
  finish : Nat
  opcodeLow : Nat
  action : Nat
  scope : Nat
  state : Nat
  ns : BitVec 12
  baysPending : BitVec 4
  bandsTotal : Nat
  bandsDone : Nat
  residue : Nat
  requester : BitVec 32
  relocated : Nat
  counterEnd : Nat
  verify : Bool
  wait : Bool
  bandsLeft : List (BayNo × Nat × Nat)
  deriving DecidableEq, Repr

/-- A life-cycle transition committed and not complete: its payload (R388, R389). -/
structure LcRun where
  seq : Nat
  op : Nat
  final : Bool
  payload : Bytes
  requester : BitVec 32
  deriving DecidableEq, Repr

/-- Keys, credentials, life cycle and Deluge (14). -/
structure Security where
  lc : Vector LcCopy 2
  provisioning : Option (BitVec 256)
  creds : List Cred
  authorities : Bytes
  /-- the media root key, as the key store holds it (R372) -/
  mrk : Option (BitVec 256)
  tokenKey : BitVec 256
  sanitise : List SanRec
  lastMeasured : List (Nat × BitVec 256)
  /-- a transition that waits at step 2 of R388 -/
  run : Option LcRun
  deriving DecidableEq, Repr

/-- A source of an update (R404): kind, and its credential, certificate digest or server address. -/
structure UpdSource where
  kind : Nat
  who : Nat
  deriving DecidableEq, Repr

/-- The staging region (R340, R400, R405). -/
structure Staging where
  header : Bytes
  chunks : List (Nat × Bytes)
  deriving DecidableEq, Repr

/-- The update lease (R408). -/
structure Lease where
  holder : UpdSource
  since : Nat
  last : Nat
  deriving DecidableEq, Repr

/-- A copy of the active-set record (R415). -/
structure ActiveRec where
  magicOk : Bool
  slot : BitVec 8
  slotTwin : BitVec 8
  seq : Nat
  trial : BitVec 8
  trialTwin : BitVec 8
  boots : Nat
  maxBoots : Nat
  floor : BitVec 32
  floorTwin : BitVec 32
  half : Nat
  deadline : Nat
  release : Nat
  previous : Nat
  digest : BitVec 128
  crcOk : Bool
  deriving DecidableEq, Repr

/-- An entry of log 0x06 (R426). -/
structure UpdEntry where
  seq : Nat
  state : Nat
  outcome : Nat
  kind : Nat
  cred : Nat
  release : Nat
  secver : Nat
  chunkCount : Nat
  chunksPresent : Nat
  digest : BitVec 128
  start : Nat
  finish : Nat
  bitmap : List Nat
  previous : Nat
  floor : Nat
  deadline : Nat
  deriving DecidableEq, Repr

/-- A Recovery download (R424). -/
structure Tftp where
  server : Option Nat
  file : Bytes
  blocksize : Nat
  nextBlock : Nat
  received : Bytes
  done : Nat
  waiting : Bool
  deriving DecidableEq, Repr

/-- A slot of the SPI NOR (R340): the package, and whether its read-back is intact (R403). -/
structure Slot where
  package : Bytes
  intact : Bool
  deriving DecidableEq, Repr

/-- The update service (15). -/
structure Update where
  state : Nat
  staging : Option Staging
  lease : Option Lease
  contributors : List UpdSource
  /-- source that began the update the current entry of log 0x06 describes, and its start -/
  source : Option UpdSource
  started : Nat
  slots : Vector (Option Slot) 2
  recs : Vector ActiveRec 2
  recRead : Fin 2
  history : List UpdEntry
  nextEntry : Nat
  tftp : Option Tftp
  startReported : Bool
  recoveryCause : Nat
  deriving DecidableEq, Repr

/-- The cluster ring (R114). -/
structure Ring where
  epoch : Nat
  points : List (BitVec 32 × BitVec 16)
  deriving DecidableEq, Repr

/-- Per-port counters (R33, R58). -/
inductive PortCtr
  | l2Drop | ipDrop | fragDrop | optDrop | udpCsum | otherDrop | fwpMalformed | noSession | psnWindow | aeadFail | dup
  | creditOverrun | segmentErr | peerDrop
  deriving DecidableEq, Repr

/-- Per-session counters (R58). -/
inductive SessCtr
  | pktTx | pktRx | byteTx | byteRx | resent | rto | ece | stallUs | borrowRefused | noticeDrop
  deriving DecidableEq, Repr

/-- Per-namespace counters (R116). -/
inductive NsCtr
  | tokens | stale | macFail | notOwner
  deriving DecidableEq, Repr

/-- Drive-wide counters (R145, R168, R195, R283). -/
inductive DrvCtr
  | hazardWaits | hazardUs | promotions | abortCaught | abortTooLate | abortUnknown | early | onMedium | flushes
  | fcToken | fcCache | fcLog | fcConfirmed | fcWithdrawn | fcNoPrediction | fcSuspended
  | ixLogHits | ixCacheHits | ixPageReads | ixFpNegative | ixFpFalsePass | ixMerges | ixSplits | ixBucketMerges | ixEpochs
  | ixPrefetchUsed | ixPrefetchUnused
  | galeMulti | galePerr | galeConfirmFail | galeLaps
  | poisoned | integrityStops | dewLaps | dewLastLap | chunkCheckFail
  deriving DecidableEq, Repr

/-- Per-cartridge counters (R236, R283). -/
inductive CartCtr
  | folded | gcMoved | slcErases | qlcErases | rebuilds
  deriving DecidableEq, Repr

/-- A counter: 64 bits, wraps, reset by a drive reset only (02_transport, Counters). -/
inductive Ctr
  | port (p : Port) (c : PortCtr)
  | session (sid : BitVec 32) (c : SessCtr)
  | capChk (sid : BitVec 32) (n : Nat)
  | ns (n : BitVec 12) (c : NsCtr)
  | classCaps (c : Nat)
  | classUnits (c : Nat)
  | tenantCaps (t : BitVec 32)
  | tenantUnits (t : BitVec 32)
  | drive (c : DrvCtr)
  | squash (cause : Nat)
  | galeSearch (t : GTable)
  | galeHit (t : GTable)
  | galeMiss (t : GTable)
  | galeRepair (kind : Nat)
  | galeStepMs (step : Nat)
  | cart (b : BayNo) (c : CartCtr)
  | programmed (b : BayNo) (s : Stream)
  | govWaitUs (b : BayNo) (priority : Nat)
  | memCe (cls : Nat) (src : Nat)
  | memUe (cls : Nat) (src : Nat)
  | retryStep (b : BayNo) (step : Nat)
  | headerFail (order : Nat)
  | hist (t : BitVec 32) (h : Nat) (bucket : Nat)
  | histSum (t : BitVec 32) (h : Nat)
  deriving DecidableEq, Repr

/-- What leaves the drive, as an observer outside sees it; `reply` records a reply placed in a session's reply stream. -/
inductive Out
  | packet (p : OutPacket)
  | arpReply (p : Port) (target sender : BitVec 32)
  | ndAdvert (p : Port) (target : Addr) (solicited : Bool)
  | echoReply (p : EchoPort) (dst : Addr) (payload frame : Bytes)
  | ptpDelayReq (p : Option Port)
  | pfc (p : Port) (enable : BitVec 8) (pause : Nat)
  | reply (sid tag : BitVec 32) (status : BitVec 16) (version : Nat) (last : Bool) (data : Bytes)
  | notice (sid : BitVec 32) (kind : Nat) (body : Bytes)
  | cwHello (epoch : Nat) (body : Bytes)
  | cwFrame (frame : Bytes)
  | cwClose
  | cwHeartbeat (seq echo committed : Nat)
  | cwAck (cumAck committed : Nat)
  | cwRecord (r : RepRec) (data : Bytes)
  | cwList (ns : BitVec 12) (snapshot : Nat) (lo hi : Nat) (entries : List (BitVec 128 × Nat))
  | cwWant (ns : BitVec 12) (hashes : List (BitVec 128))
  | cwApplied (ns : BitVec 12) (watermark : Nat) (versions : List Nat) (failed : Option (Nat × Nat))
  | cwRole (roles : List RoleEntry) (epoch : Nat)
  | cwRead (id : Nat) (ns : BitVec 12) (key : Bytes) (version : Option Nat) (opcode : BitVec 16) (offset len : Nat)
  | cwReadReply (id : Nat) (status : BitVec 16) (version : Nat) (data : Bytes)
  | cwResend (psn : Nat) (frame : Bytes)
  | witness (addr : Bytes) (port : Nat) (msg : WitMsg) (nonce : BitVec 128) (forced : Bool) (request : Bytes)
  | http (conn : Nat) (status : Nat) (body : Bytes)
  | sse (conn : Nat) (r : Rec)
  | mctp (code : Nat) (cc : Nat) (body : Bytes)
  | pldm (code : Nat) (cc : Nat) (body : Bytes)
  | pldmEvent (e : PldmEvent)
  | spdm (code : Nat) (body : Bytes)
  | virrad (values : List Nat)
  | tftpRequest (server : Nat) (file : Bytes) (blocksize : Nat)
  | tftpAck (block : Nat)
  | dhcpRequest
  deriving DecidableEq, Repr

end Sys2Proof.Machine
end

