-- ==== Sys2Proof/Machine/State.lean ====
section
/-! DEFINITION. The state of the block: the queue of waiting commands and the drive. State is plain data. -/

namespace Sys2Proof.Machine

/-- How a command could end in a fault. The spec describes an effect for every command on the block, so no meaning of this
model raises one: the type has one constructor, kept for the interface (safe). -/
inductive Fault
  /-- An access outside every space of the drive. Raised by nothing: safe. -/
  | noSuchObject
  deriving DecidableEq, Repr

/-- Why a command is rejected. -/
inductive Refusal
  /-- A command of the table without a meaning in this model; raised by Dispatch only. Safe. -/
  | notModelled (mnemonic : String)
  deriving DecidableEq, Repr

/-- Everything the drive holds. -/
structure Dev where
  clk : Clock
  ev : Events
  ctr : List (Ctr × BitVec 64)
  par : Conf
  net : Net
  que : Queue
  ns : List Namespace
  idx : Index
  pol : Policy
  gale : Gale
  med : Media
  bays : Vector Bay 4
  mem : Memory
  mir : Mirror
  pow : Power
  mgmt : Mgmt
  sec : Security
  upd : Update
  ring : Ring
  /-- what has left the drive, newest first (the model's record of its outputs) -/
  out : List Out
  /-- the model's own count of free values used (log entry 2) -/
  fresh : Nat
  deriving DecidableEq, Repr

/-- The block: the commands that wait, first in, first out, and the drive. -/
structure State where
  pending : List Instr
  dev : Dev
  deriving DecidableEq, Repr

/-! ## Reset: the module as shipped, inputs off (R400, R435, R466). -/

def Events.reset : Events :=
  { nextExt := 1, reservedEnd := 1, ring := [], dropped := 0, droppedLow := none, pring := Vector.replicate 4 [], vring := [],
    levels := [], below := [], histSince := 0 }

def Clock.reset : Clock :=
  { tick := 0, ns := 0, source := .persisted, slew := 0, slewStep := 0, persisted := 0, persistedAt := none,
    ptpMaster := false, ptpWithinSince := none, holds := [], startedAt := 0, windows := [] }

def SettingsCopy.reset : SettingsCopy := { gen := 0, entries := [], valid := true }

def Conf.reset : Conf :=
  { values := [], staged := [], committed := [], gen := 0, halfA := Vector.replicate 2 SettingsCopy.reset,
    halfB := Vector.replicate 2 SettingsCopy.reset, readA := 0, readB := 0, mode := 2, run := .off, selfTest := none,
    shutdownSince := none, closing := false, pendingReset := none, startKind := 0, startCode := 0 }

def LinkState.reset : LinkState := { module := none, refused := false, up := false, mode := 0, linkUpUs := 0 }

def Net.reset : Net :=
  { sessions := [], tombs := [], shakes := [], authFails := [], holdoffs := [], links := Vector.replicate 3 LinkState.reset,
    pools := ⟨#[0, 0, 0, 0, 0], rfl⟩, charges := [], borrowQ := [], dirs := [], pfcPaused := Vector.replicate 2 (Vector.replicate 8 0),
    pfcTx := Vector.replicate 2 none, paced := [], pacedSec := 0, pacedRaised := false, held := [], lull := [] }

def Queue.reset : Queue :=
  { nextSeq := 1, reservedEnd := 1, stalled := false, caps := [], handed := [], deficit := Vector.replicate 3 0, drrAt := 0, winUrgent := 0,
    winAll := 0, winCaps := 0, window := 0, winTenant := [], lastTenant := [], lastShare := 0, drift := [], flushes := [], earlyOn := false, deferred := [], nextRecord := 1, unread := [],
    bootUnread := [], passed := [], lossLow := [] }

def Index.reset : Index :=
  { buckets := [], durable := [], endEpoch := 0, replayStart := 0, checkpoint := true, changes := [], journal := [], marks := [], snaps := [], snapEpoch := 0, log := [], staging := [], nextJ := 1,
    head := 1, tail := none, pressure := false, uploads := [], recovered := false, cuts := [] }

def Gale.reset : Gale :=
  { rows := [], masks := (Vector.replicate 16 0).set 0 (BitVec.allOnes 144), step := 600, tempStep := 600, dwellSince := none, stepSince := 0, hottest := 0,
    hottestTemp := 0, lapAt := 0, lapStart := 0, lapRows := 0, lapSkipped := 0, lapRepairs := 0, dupKeys := [], failed := [], repaired := [], refails := [] }

def Media.reset : Media :=
  { copies := [], progs := [], reads := [], keyReads := [], batches := [], erases := [], secures := [], reclaims := [], running := [], suspended := [], waiting := [],
    nextOp := 1, again := 0, valueCache := [], spec := [], slots := [], mdk := none }

def Bay.reset : Bay :=
  { state := .empty, reason := 0, present := false, latchOpen := false, railsOn := false, held := false, cart := none, nonce := 0, guest := none,
    guestState := .empty,
    bound := none, bindCount := 0, bindings := [], slotRead := 0, pollFails := 0, failCause := 0, locate := false, quiesceSince := none, quiesceWriters := 0, quiesceSeq := 0, cutFailed := 0, cutLost := 0,
    bands := [], wear := [], wearBase := [], newSlots := [], mapWear := none, retired := [], spare := 0, spareWarned := 0, failedDies := [], failRuns := [], planeUsed := [], emptySlots := [], savedRows := [], rebuilds := [],
    qlcErases := 0, slcErases := 0, hostBytes := 0, nandBytes := 0, powerOnHours := 0, lifeRaised := 0, slotTime := 0,
    wearDays := [], resume := .inService, movedBuckets := 0, movedBytes := 0, evacSince := 0, opWaiting := none, reclaiming := none, slcWaiting := 0,
    patrolRows := [], patrolSince := 0, patrolMarked := 0 }

def Memory.reset : Memory :=
  { ce := [], ceFullRaised := false, retired := [], remapFull := false, poisoned := [], diag := [], diagSeed := ⟨#[none, some 0], rfl⟩, maskDram := none,
    maskSram := none, dewLapStart := 0, dewAddr := 0, dewSram := 0, dewCe := 0, dewUe := 0, dewSlowRaised := false, dewLastLap := 0 }

def Mirror.reset : Mirror :=
  { state := .unpaired, partnerSerial := 0, pairId := 0, partnerNode := 0, epoch := 0, epochSeen := 0, lostSince := none,
    helloRetry := false, hello := none, peerHello := [], keys := none, txNext := 0, rxCum := 0, rxGot := [], unacked := [], peerCum := 0, rto := 0, srtt := none,
    rttvar := 0, expiries := 0, streamPos := 0, peerCredit := 0, rxPos := 0, held := [], hbSeq := 0, hbSent := [], hbPeer := 0, lastRx := 0,
    committed := 0, permitSince := none, witnessKey := none, nss := [], reqs := [], leaseUntil := none, lastGrant := 0,
    soloRecord := false, fenced := false, handover := none, promote := none, reads := [], nextRead := 1 }

def ThermGroup.reset : ThermGroup := { level := 0, point := 0, temp := 0, belowSince := none }

def Bank.reset : Bank :=
  { state := .untested, volts := 0, temp := 0, capacitance := 0, esr := 0, chargerFault := false, testRunning := false,
    testWaiters := [], retryPending := false, testedSinceOn := false }

def Power.reset : Power :=
  { rung := .clear, armed := 0, holdUntil := none, alarm := 0, exits := Vector.replicate 4 [], inputs := [], limitCut := 0,
    nandShare := 4500, galeCeiling := 600, dispatchPm := 1000, thermalPm := 1000, floorScale := 1000,
    breach := false, breachCause := 0, availRate := 0, groups := Vector.replicate 11 ThermGroup.reset, stopped := false, coolSince := none,
    bank := Bank.reset, failing := none, failRecord := none, tripRecord := none, pllOk := false, pwrEn := false,
    pwrFail := false, p12v := false, aux3v3 := false, slotId := 0, auxLost := true }

def Mgmt.reset : Mgmt :=
  { linkUp := false, linkSpeed := 0, address := none, conns := [], nextConn := 1, sensors := [], eid := 0, smbusAddr := 0x1D,
    pldmReceiver := none, pldmQueue := [], locateLed := false, locateTimed := false,
    vaneUp := false }

/-- The life-cycle record of a shipped drive: BLANK (R385). -/
def LcCopy.reset : LcCopy :=
  { state := 1, stateTwin := 0xFE, seq := 1, intent := 0, intentTwin := 0xFF, crcOk := true }

def Security.reset : Security :=
  { lc := Vector.replicate 2 LcCopy.reset, provisioning := some Config.factoryProvisioningKey, creds := [], authorities := [],
    mrk := none, tokenKey := 0, sanitise := [], lastMeasured := [], run := none }

def ActiveRec.reset : ActiveRec :=
  { magicOk := true, slot := 0, slotTwin := 0xFF, seq := 1, trial := 0, trialTwin := 0xFF, boots := 0, maxBoots := 0,
    floor := 0, floorTwin := 0xFFFFFFFF, half := 0, deadline := 0, release := 0, previous := 0, digest := 0, crcOk := true }

def Update.reset : Update :=
  { state := 0, staging := none, lease := none, contributors := [], source := none, started := 0,
    slots := ⟨#[some { package := Config.factoryPackage, intact := true }, none], rfl⟩, recs := Vector.replicate 2 ActiveRec.reset, recRead := 0,
    history := [], nextEntry := 1, tftp := none, startReported := false, recoveryCause := 0 }

/-- The drive as shipped. -/
def Dev.reset : Dev :=
  { clk := Clock.reset, ev := Events.reset, ctr := [], par := Conf.reset, net := Net.reset, que := Queue.reset, ns := [],
    idx := Index.reset, pol := { tenants := [], bindings := [], gen := 0 }, gale := Gale.reset, med := Media.reset,
    bays := Vector.replicate 4 Bay.reset, mem := Memory.reset, mir := Mirror.reset, pow := Power.reset, mgmt := Mgmt.reset,
    sec := Security.reset, upd := Update.reset, ring := { epoch := 0, points := [] }, out := [], fresh := 0 }

/-- The block right after reset: no command waits, the module is as shipped and its inputs are off. -/
def State.reset : State := { pending := [], dev := Dev.reset }

end Sys2Proof.Machine
end

