-- ==== Sys2Proof/Machine/Params.lean ====
section
/-! DEFINITION. The parameters: their table (R59, R116, R145, R170, R195, R236, R258, R283, R312, R336, R370, R398, R428, R447),
the encoding of their values (R440) and the values in force. -/

namespace Sys2Proof.Machine

/-- The kind and range of a parameter's value (R440). `addr`: IPv4 or not, range of the prefix length, whether a gateway may
stand. `fields n w lo hi sum`: `n` fields of `w` bits. -/
inductive PKind
  | num (lo hi : Nat)
  | enum (vals : List Nat)
  | mult (lo hi step : Nat)
  | fields (n w lo hi : Nat) (sum : Option Nat)
  | addr (v4 : Bool) (plo phi : Nat) (gateway : Bool)
  | ascii (lo hi : Nat)
  deriving DecidableEq, Repr

/-- A row of the parameter tables; `cls`: 1 LIVE, 2 STAGED, 3 LOCKED (R439). -/
structure PRow where
  id : Nat
  cls : Nat
  kind : PKind
  dflt : Bytes
  deriving DecidableEq, Repr

/-- A number as its 8-byte encoding (R440). -/
def num8 (v : Nat) : Bytes := natToBytesBE 8 v

/-- A list of fields of `w` bits, the first in the most significant place (R59). -/
def packFields (w : Nat) (vs : List Nat) : Nat := vs.foldl (fun a v => a * 2 ^ w + v) 0

/-- A multi-field value, right-aligned in the fewest whole 8-byte words (R440). -/
def packed (w : Nat) (vs : List Nat) : Bytes := natToBytesBE (8 * ceilDiv (vs.length * w) 64) (packFields w vs)

/-- Field `i` of `n` fields of `w` bits of a packed value. -/
def unpackField (n w i v : Nat) : Nat := v / 2 ^ (w * (n - 1 - i)) % 2 ^ w

/-- "fk4a-recovery.uwx" (R428). -/
def recoveryFileDefault : Bytes :=
  [0x66, 0x6B, 0x34, 0x61, 0x2D, 0x72, 0x65, 0x63, 0x6F, 0x76, 0x65, 0x72, 0x79, 0x2E, 0x75, 0x77, 0x78]

/-- `transport.udp_port`. -/
abbrev P.transportUdpPort : Nat := 0x01000001
/-- `transport.port0_mode`. -/
abbrev P.transportPort0Mode : Nat := 0x01000002
/-- `transport.port1_mode`. -/
abbrev P.transportPort1Mode : Nat := 0x01000003
/-- `transport.port0_ipv4`. -/
abbrev P.transportPort0Ipv4 : Nat := 0x01000004
/-- `transport.port1_ipv4`. -/
abbrev P.transportPort1Ipv4 : Nat := 0x01000005
/-- `transport.port0_ipv6`. -/
abbrev P.transportPort0Ipv6 : Nat := 0x01000006
/-- `transport.port1_ipv6`. -/
abbrev P.transportPort1Ipv6 : Nat := 0x01000007
/-- `transport.vlan_id`. -/
abbrev P.transportVlanId : Nat := 0x01000008
/-- `transport.dscp_map`. -/
abbrev P.transportDscpMap : Nat := 0x01000009
/-- `transport.pcp_map`. -/
abbrev P.transportPcpMap : Nat := 0x0100000A
/-- `transport.pfc_priorities`. -/
abbrev P.transportPfcPriorities : Nat := 0x0100000B
/-- `transport.ets_table`. -/
abbrev P.transportEtsTable : Nat := 0x0100000C
/-- `transport.ecn_enable`. -/
abbrev P.transportEcnEnable : Nat := 0x0100000D
/-- `transport.segment_size`. -/
abbrev P.transportSegmentSize : Nat := 0x0100000E
/-- `transport.session_max`. -/
abbrev P.transportSessionMax : Nat := 0x0100000F
/-- `transport.sessions_per_tenant_max`. -/
abbrev P.transportSessionsPerTenantMax : Nat := 0x01000010
/-- `transport.idle_timeout_s`. -/
abbrev P.transportIdleTimeoutS : Nat := 0x01000011
/-- `transport.tombstone_s`. -/
abbrev P.transportTombstoneS : Nat := 0x01000012
/-- `transport.delayed_ack_us`. -/
abbrev P.transportDelayedAckUs : Nat := 0x01000013
/-- `transport.rto_min_us`. -/
abbrev P.transportRtoMinUs : Nat := 0x01000014
/-- `transport.rto_max_ms`. -/
abbrev P.transportRtoMaxMs : Nat := 0x01000015
/-- `transport.retx_limit`. -/
abbrev P.transportRetxLimit : Nat := 0x01000016
/-- `transport.borrow_wait_ms`. -/
abbrev P.transportBorrowWaitMs : Nat := 0x01000017
/-- `transport.pool_shares`. -/
abbrev P.transportPoolShares : Nat := 0x01000018
/-- `transport.tx_inflight_max`. -/
abbrev P.transportTxInflightMax : Nat := 0x01000019
/-- `transport.reply_stall_ms`. -/
abbrev P.transportReplyStallMs : Nat := 0x0100001A
/-- `queue.urgent_share`. -/
abbrev P.queueUrgentShare : Nat := 0x02000001
/-- `queue.class_weights`. -/
abbrev P.queueClassWeights : Nat := 0x02000002
/-- `queue.share_window_us`. -/
abbrev P.queueShareWindowUs : Nat := 0x02000003
/-- `queue.admin_inflight_max`. -/
abbrev P.queueAdminInflightMax : Nat := 0x02000004
/-- `queue.early_ack_enable`. -/
abbrev P.queueEarlyAckEnable : Nat := 0x02000005
/-- `queue.early_ack_limit`. -/
abbrev P.queueEarlyAckLimit : Nat := 0x02000006
/-- `index.epoch_ms`. -/
abbrev P.indexEpochMs : Nat := 0x03000001
/-- `index.epoch_lag`. -/
abbrev P.indexEpochLag : Nat := 0x03000002
/-- `index.log_merge_mark`. -/
abbrev P.indexLogMergeMark : Nat := 0x03000003
/-- `index.map_snapshot_epochs`. -/
abbrev P.indexMapSnapshotEpochs : Nat := 0x03000004
/-- `index.fp_rebuild_share`. -/
abbrev P.indexFpRebuildShare : Nat := 0x03000005
/-- `forecast.enable`. -/
abbrev P.forecastEnable : Nat := 0x03000201
/-- `forecast.spec_staging_max`. -/
abbrev P.forecastSpecStagingMax : Nat := 0x03000202
/-- `forecast.spec_inflight_max`. -/
abbrev P.forecastSpecInflightMax : Nat := 0x03000203
/-- `forecast.squash_ratio_max`. -/
abbrev P.forecastSquashRatioMax : Nat := 0x03000204
/-- `forecast.suspend_s`. -/
abbrev P.forecastSuspendS : Nat := 0x03000205
/-- `forecast.scan_runahead`. -/
abbrev P.forecastScanRunahead : Nat := 0x03000206
/-- `forecast.batch_window_us`. -/
abbrev P.forecastBatchWindowUs : Nat := 0x03000207
/-- `index.node_id`. -/
abbrev P.indexNodeId : Nat := 0x03000101
/-- `index.ring_check_force`. -/
abbrev P.indexRingCheckForce : Nat := 0x03000102
/-- `index.scan_reply_default`. -/
abbrev P.indexScanReplyDefault : Nat := 0x03000103
/-- `index.scan_budget`. -/
abbrev P.indexScanBudget : Nat := 0x03000104
/-- `index.mp_uploads_max`. -/
abbrev P.indexMpUploadsMax : Nat := 0x03000105
/-- `index.mp_idle_timeout_s`. -/
abbrev P.indexMpIdleTimeoutS : Nat := 0x03000106
/-- `gale.verify_share`. -/
abbrev P.galeVerifyShare : Nat := 0x04000001
/-- `gale.step_offset_c`. -/
abbrev P.galeStepOffsetC : Nat := 0x04000002
/-- `gale.step_dwell_ms`. -/
abbrev P.galeStepDwellMs : Nat := 0x04000003
/-- `gale.floor_reference_mbps`. -/
abbrev P.galeFloorReferenceMbps : Nat := 0x04000004
/-- `media.slc_ceiling`. -/
abbrev P.mediaSlcCeiling : Nat := 0x05000001
/-- `media.slc_lend_margin`. -/
abbrev P.mediaSlcLendMargin : Nat := 0x05000002
/-- `media.fold_low_mark`. -/
abbrev P.mediaFoldLowMark : Nat := 0x05000003
/-- `media.fold_urgent_mark`. -/
abbrev P.mediaFoldUrgentMark : Nat := 0x05000004
/-- `media.fold_batch_rows`. -/
abbrev P.mediaFoldBatchRows : Nat := 0x05000005
/-- `media.warm_age_s`. -/
abbrev P.mediaWarmAgeS : Nat := 0x05000006
/-- `media.gc_low_mark`. -/
abbrev P.mediaGcLowMark : Nat := 0x05000007
/-- `media.wear_gap`. -/
abbrev P.mediaWearGap : Nat := 0x05000008
/-- `media.balance_gap`. -/
abbrev P.mediaBalanceGap : Nat := 0x05000009
/-- `media.row_close_us`. -/
abbrev P.mediaRowCloseUs : Nat := 0x0500000A
/-- `media.nand_budget_w`. -/
abbrev P.mediaNandBudgetW : Nat := 0x0500000B
/-- `media.patrol_share`. -/
abbrev P.mediaPatrolShare : Nat := 0x0500000C
/-- `media.patrol_days`. -/
abbrev P.mediaPatrolDays : Nat := 0x0500000D
/-- `media.read_disturb_limit`. -/
abbrev P.mediaReadDisturbLimit : Nat := 0x0500000E
/-- `media.secure_reloc_share`. -/
abbrev P.mediaSecureRelocShare : Nat := 0x0500000F
/-- `media.meta_margin`. -/
abbrev P.mediaMetaMargin : Nat := 0x05000010
/-- `cart.wear_sync_h`. -/
abbrev P.cartWearSyncH : Nat := 0x06000001
/-- `cart.evac_share`. -/
abbrev P.cartEvacShare : Nat := 0x06000002
/-- `cart.life_warn_permille`. -/
abbrev P.cartLifeWarnPermille : Nat := 0x06000003
/-- `integrity.ce_mode_dram`. -/
abbrev P.integrityCeModeDram : Nat := 0x07000001
/-- `integrity.ce_mode_sram`. -/
abbrev P.integrityCeModeSram : Nat := 0x07000002
/-- `integrity.row_retire_ce`. -/
abbrev P.integrityRowRetireCe : Nat := 0x07000003
/-- `integrity.dew_rate_mbps`. -/
abbrev P.integrityDewRateMbps : Nat := 0x07000004
/-- `integrity.dew_lap_warn_h`. -/
abbrev P.integrityDewLapWarnH : Nat := 0x07000005
/-- `mirror.heartbeat_us`. -/
abbrev P.mirrorHeartbeatUs : Nat := 0x08000001
/-- `mirror.peer_loss_ms`. -/
abbrev P.mirrorPeerLossMs : Nat := 0x08000002
/-- `mirror.solo_wait_ms`. -/
abbrev P.mirrorSoloWaitMs : Nat := 0x08000003
/-- `mirror.lease_ms`. -/
abbrev P.mirrorLeaseMs : Nat := 0x08000004
/-- `mirror.witness_addr`. -/
abbrev P.mirrorWitnessAddr : Nat := 0x08000005
/-- `mirror.witness_port`. -/
abbrev P.mirrorWitnessPort : Nat := 0x08000006
/-- `mirror.auto_claim`. -/
abbrev P.mirrorAutoClaim : Nat := 0x08000007
/-- `mirror.follower_reads`. -/
abbrev P.mirrorFollowerReads : Nat := 0x08000008
/-- `mirror.resync_share`. -/
abbrev P.mirrorResyncShare : Nat := 0x08000009
/-- `mirror.async_queue_max`. -/
abbrev P.mirrorAsyncQueueMax : Nat := 0x0800000A
/-- `mirror.async_lag_warn_ms`. -/
abbrev P.mirrorAsyncLagWarnMs : Nat := 0x0800000B
/-- `power.floor`. -/
abbrev P.powerFloor : Nat := 0x09000001
/-- `power.haze_idle_us`. -/
abbrev P.powerHazeIdleUs : Nat := 0x09000002
/-- `power.fog_idle_ms`. -/
abbrev P.powerFogIdleMs : Nat := 0x09000003
/-- `power.frost_idle_s`. -/
abbrev P.powerFrostIdleS : Nat := 0x09000004
/-- `power.glaze_idle_s`. -/
abbrev P.powerGlazeIdleS : Nat := 0x09000005
/-- `power.cap_w`. -/
abbrev P.powerCapW : Nat := 0x09000006
/-- `power.cap_test_h`. -/
abbrev P.powerCapTestH : Nat := 0x09000007
/-- `mgmt.addr_mode`. -/
abbrev P.mgmtAddrMode : Nat := 0x0A000001
/-- `mgmt.ipv4`. -/
abbrev P.mgmtIpv4 : Nat := 0x0A000002
/-- `mgmt.ipv6`. -/
abbrev P.mgmtIpv6 : Nat := 0x0A000003
/-- `mgmt.https_port`. -/
abbrev P.mgmtHttpsPort : Nat := 0x0A000004
/-- `mgmt.ptp_port`. -/
abbrev P.mgmtPtpPort : Nat := 0x0A000005
/-- `mgmt.ptp_domain`. -/
abbrev P.mgmtPtpDomain : Nat := 0x0A000006
/-- `mgmt.time_slew_ppm`. -/
abbrev P.mgmtTimeSlewPpm : Nat := 0x0A000007
/-- `mgmt.smbus_addr`. -/
abbrev P.mgmtSmbusAddr : Nat := 0x0A000008
/-- `mgmt.record_min_severity`. -/
abbrev P.mgmtRecordMinSeverity : Nat := 0x0A000009
/-- `mgmt.notice_rate_max`. -/
abbrev P.mgmtNoticeRateMax : Nat := 0x0A00000A
/-- `mgmt.alert_min_severity`. -/
abbrev P.mgmtAlertMinSeverity : Nat := 0x0A00000B
/-- `mode.shutdown_max_ms`. -/
abbrev P.modeShutdownMaxMs : Nat := 0x0A000101
/-- `mode.fw_watchdog_ms`. -/
abbrev P.modeFwWatchdogMs : Nat := 0x0A000102
/-- `mode.selftest_run`. -/
abbrev P.modeSelftestRun : Nat := 0x0A000103
/-- `mode.selftest_scope`. -/
abbrev P.modeSelftestScope : Nat := 0x0A000104
/-- `security.staged_cred_ttl_s`. -/
abbrev P.securityStagedCredTtlS : Nat := 0x0B000001
/-- `security.deluge_share`. -/
abbrev P.securityDelugeShare : Nat := 0x0B000002
/-- `update.trial_h`. -/
abbrev P.updateTrialH : Nat := 0x0C000001
/-- `update.lease_lapse_h`. -/
abbrev P.updateLeaseLapseH : Nat := 0x0C000002
/-- `update.boot_attempts`. -/
abbrev P.updateBootAttempts : Nat := 0x0C000003
/-- `update.recovery_server`. -/
abbrev P.updateRecoveryServer : Nat := 0x0C000004
/-- `update.recovery_file`. -/
abbrev P.updateRecoveryFile : Nat := 0x0C000005


/-- Rows of the parameter tables. -/
def paramRows0_0 : List PRow :=
  [ ⟨P.transportUdpPort, 2, .num 1024 65535, num8 9431⟩,
    ⟨P.transportPort0Mode, 2, .enum [400, 200, 100], num8 400⟩,
    ⟨P.transportPort1Mode, 2, .enum [400, 200, 100], num8 400⟩,
    ⟨P.transportPort0Ipv4, 2, .addr true 1 32 false, []⟩,
    ⟨P.transportPort1Ipv4, 2, .addr true 1 32 false, []⟩,
    ⟨P.transportPort0Ipv6, 2, .addr false 1 128 false, []⟩,
    ⟨P.transportPort1Ipv6, 2, .addr false 1 128 false, []⟩,
    ⟨P.transportVlanId, 2, .num 0 4094, num8 0⟩,
    ⟨P.transportDscpMap, 1, .fields 5 6 0 63 none, packed 6 [48, 46, 34, 18, 10]⟩,
    ⟨P.transportPcpMap, 1, .fields 5 3 0 7 none, packed 3 [6, 5, 4, 2, 1]⟩,
    ⟨P.transportPfcPriorities, 2, .num 0 255, num8 0⟩,
    ⟨P.transportEtsTable, 2, .fields 8 8 0 100 (some 100), packed 8 [100, 0, 0, 0, 0, 0, 0, 0]⟩,
    ⟨P.transportEcnEnable, 1, .num 0 1, num8 1⟩,
    ⟨P.transportSegmentSize, 1, .enum [1024, 2048, 4096, 8192], num8 4096⟩,
    ⟨P.transportSessionMax, 2, .num 1 65536, num8 65536⟩,
    ⟨P.transportSessionsPerTenantMax, 1, .num 1 65536, num8 4096⟩ ]

/-- Rows of the parameter tables. -/
def paramRows0_1 : List PRow :=
  [ ⟨P.transportIdleTimeoutS, 1, .num 10 86400, num8 300⟩,
    ⟨P.transportTombstoneS, 1, .num 0 3600, num8 60⟩,
    ⟨P.transportDelayedAckUs, 1, .num 0 16, num8 8⟩,
    ⟨P.transportRtoMinUs, 1, .num 20 10000, num8 50⟩,
    ⟨P.transportRtoMaxMs, 1, .num 1 1000, num8 100⟩,
    ⟨P.transportRetxLimit, 1, .num 4 64, num8 12⟩,
    ⟨P.transportBorrowWaitMs, 1, .num 1 10000, num8 50⟩,
    ⟨P.transportPoolShares, 2, .fields 5 16 0 1000 (some 1000), packed 16 [20, 100, 540, 270, 70]⟩,
    ⟨P.transportTxInflightMax, 1, .num 65536 16777216, num8 4194304⟩,
    ⟨P.transportReplyStallMs, 1, .num 100 60000, num8 1000⟩ ]

/-- Rows of the parameter tables. -/
def paramRows1_0 : List PRow :=
  [ ⟨P.queueUrgentShare, 1, .num 1 50, num8 10⟩,
    ⟨P.queueClassWeights, 1, .fields 3 8 1 255 none, packed 8 [8, 4, 1]⟩,
    ⟨P.queueShareWindowUs, 1, .num 100 100000, num8 1000⟩,
    ⟨P.queueAdminInflightMax, 1, .num 1 256, num8 64⟩,
    ⟨P.queueEarlyAckEnable, 1, .num 0 1, num8 0⟩,
    ⟨P.queueEarlyAckLimit, 2, .mult 67108864 6442450944 1048576, num8 6442450944⟩ ]

/-- Rows of the parameter tables. -/
def paramRows2_0 : List PRow :=
  [ ⟨P.indexEpochMs, 1, .num 10 1000, num8 50⟩,
    ⟨P.indexEpochLag, 1, .num 1 64, num8 8⟩,
    ⟨P.indexLogMergeMark, 1, .num 50 90, num8 75⟩,
    ⟨P.indexMapSnapshotEpochs, 1, .num 16 4096, num8 256⟩,
    ⟨P.indexFpRebuildShare, 1, .num 1 50, num8 10⟩ ]

/-- Rows of the parameter tables. -/
def paramRows3_0 : List PRow :=
  [ ⟨P.forecastEnable, 1, .num 0 1, num8 1⟩,
    ⟨P.forecastSpecStagingMax, 1, .mult 1048576 25165824 1048576, num8 8388608⟩,
    ⟨P.forecastSpecInflightMax, 1, .num 16 65536, num8 4096⟩,
    ⟨P.forecastSquashRatioMax, 1, .num 10 100, num8 50⟩,
    ⟨P.forecastSuspendS, 1, .num 1 3600, num8 10⟩,
    ⟨P.forecastScanRunahead, 1, .num 0 64, num8 8⟩,
    ⟨P.forecastBatchWindowUs, 1, .num 0 100, num8 2⟩ ]

/-- Rows of the parameter tables. -/
def paramRows4_0 : List PRow :=
  [ ⟨P.indexNodeId, 2, .num 0 65535, num8 0⟩,
    ⟨P.indexRingCheckForce, 1, .num 0 1, num8 0⟩,
    ⟨P.indexScanReplyDefault, 1, .num 1048 16777216, num8 1048576⟩,
    ⟨P.indexScanBudget, 1, .num 4096 67108864, num8 4194304⟩,
    ⟨P.indexMpUploadsMax, 2, .num 1 65536, num8 16384⟩,
    ⟨P.indexMpIdleTimeoutS, 1, .num 60 2592000, num8 604800⟩ ]

/-- Rows of the parameter tables. -/
def paramRows5_0 : List PRow :=
  [ ⟨P.galeVerifyShare, 1, .num 1 5, num8 2⟩,
    ⟨P.galeStepOffsetC, 2, .num 0 15, num8 0⟩,
    ⟨P.galeStepDwellMs, 1, .num 100 60000, num8 1000⟩,
    ⟨P.galeFloorReferenceMbps, 2, .num 10000 100000, num8 85000⟩ ]

/-- Rows of the parameter tables. -/
def paramRows6_0 : List PRow :=
  [ ⟨P.mediaSlcCeiling, 1, .num 532 4000, num8 4000⟩,
    ⟨P.mediaSlcLendMargin, 1, .num 64 2048, num8 512⟩,
    ⟨P.mediaFoldLowMark, 1, .num 5 80, num8 25⟩,
    ⟨P.mediaFoldUrgentMark, 1, .num 50 95, num8 85⟩,
    ⟨P.mediaFoldBatchRows, 1, .num 1 16, num8 4⟩,
    ⟨P.mediaWarmAgeS, 1, .num 60 2592000, num8 86400⟩,
    ⟨P.mediaGcLowMark, 1, .num 64 464, num8 232⟩,
    ⟨P.mediaWearGap, 1, .num 100 10000, num8 2000⟩,
    ⟨P.mediaBalanceGap, 1, .num 1 20, num8 3⟩,
    ⟨P.mediaRowCloseUs, 1, .num 50 2000, num8 200⟩,
    ⟨P.mediaNandBudgetW, 1, .num 10 45, num8 45⟩,
    ⟨P.mediaPatrolShare, 1, .num 1 10, num8 2⟩,
    ⟨P.mediaPatrolDays, 1, .num 1 30, num8 7⟩,
    ⟨P.mediaReadDisturbLimit, 1, .num 10000 1000000, num8 200000⟩,
    ⟨P.mediaSecureRelocShare, 1, .num 10 90, num8 50⟩,
    ⟨P.mediaMetaMargin, 2, .num 65536 1048576, num8 262144⟩ ]

/-- Rows of the parameter tables. -/
def paramRows7_0 : List PRow :=
  [ ⟨P.cartWearSyncH, 1, .num 1 24, num8 1⟩,
    ⟨P.cartEvacShare, 1, .num 10 90, num8 50⟩,
    ⟨P.cartLifeWarnPermille, 1, .num 20 500, num8 100⟩ ]

/-- Rows of the parameter tables. -/
def paramRows8_0 : List PRow :=
  [ ⟨P.integrityCeModeDram, 1, .num 0 1, num8 0⟩,
    ⟨P.integrityCeModeSram, 1, .num 0 1, num8 0⟩,
    ⟨P.integrityRowRetireCe, 1, .num 2 64, num8 4⟩,
    ⟨P.integrityDewRateMbps, 1, .num 100 8000, num8 2000⟩,
    ⟨P.integrityDewLapWarnH, 1, .num 1 168, num8 24⟩ ]

/-- Rows of the parameter tables. -/
def paramRows9_0 : List PRow :=
  [ ⟨P.mirrorHeartbeatUs, 1, .num 250 10000, num8 1000⟩,
    ⟨P.mirrorPeerLossMs, 1, .num 5 1000, num8 20⟩,
    ⟨P.mirrorSoloWaitMs, 1, .num 10 60000, num8 200⟩,
    ⟨P.mirrorLeaseMs, 2, .num 1000 60000, num8 10000⟩,
    ⟨P.mirrorWitnessAddr, 2, .addr false 128 128 false, []⟩,
    ⟨P.mirrorWitnessPort, 2, .num 1024 65535, num8 9433⟩,
    ⟨P.mirrorAutoClaim, 1, .num 0 1, num8 1⟩,
    ⟨P.mirrorFollowerReads, 1, .num 0 1, num8 1⟩,
    ⟨P.mirrorResyncShare, 1, .num 10 90, num8 30⟩,
    ⟨P.mirrorAsyncQueueMax, 1, .num 65536 16777216, num8 4194304⟩,
    ⟨P.mirrorAsyncLagWarnMs, 1, .num 10 600000, num8 1000⟩ ]

/-- Rows of the parameter tables. -/
def paramRows10_0 : List PRow :=
  [ ⟨P.powerFloor, 1, .num 0 4, num8 2⟩,
    ⟨P.powerHazeIdleUs, 1, .num 50 1000000, num8 500⟩,
    ⟨P.powerFogIdleMs, 1, .num 1 600000, num8 50⟩,
    ⟨P.powerFrostIdleS, 1, .num 10 86400, num8 900⟩,
    ⟨P.powerGlazeIdleS, 1, .num 60 2592000, num8 14400⟩,
    ⟨P.powerCapW, 1, .num 45 95, num8 95⟩,
    ⟨P.powerCapTestH, 1, .num 1 168, num8 24⟩ ]

/-- Rows of the parameter tables. -/
def paramRows11_0 : List PRow :=
  [ ⟨P.mgmtAddrMode, 2, .num 0 1, num8 1⟩,
    ⟨P.mgmtIpv4, 2, .addr true 1 32 true, []⟩,
    ⟨P.mgmtIpv6, 2, .addr false 1 128 true, []⟩,
    ⟨P.mgmtHttpsPort, 2, .num 1 65535, num8 443⟩,
    ⟨P.mgmtPtpPort, 2, .num 0 3, num8 1⟩,
    ⟨P.mgmtPtpDomain, 2, .num 0 127, num8 0⟩,
    ⟨P.mgmtTimeSlewPpm, 1, .num 10 500, num8 500⟩,
    ⟨P.mgmtSmbusAddr, 2, .num 8 119, num8 29⟩,
    ⟨P.mgmtRecordMinSeverity, 1, .num 0 4, num8 1⟩,
    ⟨P.mgmtNoticeRateMax, 1, .num 1 1000, num8 100⟩,
    ⟨P.mgmtAlertMinSeverity, 1, .num 2 6, num8 4⟩,
    ⟨P.modeShutdownMaxMs, 1, .num 1000 60000, num8 10000⟩,
    ⟨P.modeFwWatchdogMs, 2, .num 100 10000, num8 1000⟩,
    ⟨P.modeSelftestRun, 1, .num 0 3, num8 0⟩,
    ⟨P.modeSelftestScope, 3, .num 1 63, num8 63⟩ ]

/-- Rows of the parameter tables. -/
def paramRows12_0 : List PRow :=
  [ ⟨P.securityStagedCredTtlS, 1, .num 60 604800, num8 86400⟩,
    ⟨P.securityDelugeShare, 1, .num 10 90, num8 50⟩ ]

/-- Rows of the parameter tables. -/
def paramRows13_0 : List PRow :=
  [ ⟨P.updateTrialH, 1, .num 1 168, num8 24⟩,
    ⟨P.updateLeaseLapseH, 1, .num 24 720, num8 168⟩,
    ⟨P.updateBootAttempts, 1, .num 1 5, num8 2⟩,
    ⟨P.updateRecoveryServer, 2, .addr true 128 128 false, []⟩,
    ⟨P.updateRecoveryFile, 2, .ascii 1 128, recoveryFileDefault⟩ ]

/-- Every parameter, ascending in ID. -/
def paramTable : List PRow :=
  paramRows0_0 ++ paramRows0_1 ++ paramRows1_0 ++ paramRows2_0 ++ paramRows4_0 ++ paramRows3_0 ++ paramRows5_0 ++ paramRows6_0 ++ paramRows7_0 ++ paramRows8_0 ++ paramRows9_0 ++ paramRows10_0 ++ paramRows11_0 ++ paramRows12_0 ++ paramRows13_0

/-- A parameter's row. -/
def paramRow (id : Nat) : Option PRow := paramTable.find? (·.id == id)

/-- A value has the encoding and lies in the range of its kind (check 2 of R441). -/
def PKind.ok (k : PKind) (v : Bytes) : Bool :=
  match k with
  | .num lo hi => v.length == 8 && decide (lo ≤ v.toNatBE) && decide (v.toNatBE ≤ hi)
  | .enum vals => v.length == 8 && vals.contains v.toNatBE
  | .mult lo hi step =>
      v.length == 8 && decide (lo ≤ v.toNatBE) && decide (v.toNatBE ≤ hi) && v.toNatBE % step == 0
  | .fields n w lo hi sum =>
      v.length == 8 * ceilDiv (n * w) 64 && decide (v.toNatBE < 2 ^ (n * w)) &&
        (List.range n).all (fun i => decide (lo ≤ unpackField n w i v.toNatBE) && decide (unpackField n w i v.toNatBE ≤ hi)) &&
        (match sum with
          | none => true
          | some t => ((List.range n).map (fun i => unpackField n w i v.toNatBE)).sum == t)
  | .addr v4 plo phi gw =>
      v.isEmpty || (v.length == 40 && (!v4 || (v.take 12 == zeroBytes 10 ++ [0xFF, 0xFF])) &&
        decide (plo ≤ v.field 16 1) && decide (v.field 16 1 ≤ phi) && v.zeroAt 17 7 && (gw || v.zeroAt 24 16))
  | .ascii lo hi => decide (lo ≤ v.length) && decide (v.length ≤ hi) && v.all (fun b => decide (b.toNat < 128))

/-- The value in force of a parameter (R439, R444): the value held, else the default. -/
def Conf.value (c : Conf) (id : Nat) : Bytes :=
  match c.values.lookup id with
  | some v => v
  | none => match paramRow id with
    | some r => r.dflt
    | none => []

/-- The value in force, as a number. -/
def Dev.pnum (d : Dev) (id : Nat) : Nat := (d.par.value id).toNatBE

/-- A two-valued parameter in force. -/
def Dev.pflag (d : Dev) (id : Nat) : Bool := d.pnum id == 1

/-- Writes an entry of a list of parameter values, replacing an earlier one. -/
def setEntry (l : List (Nat × Bytes)) (id : Nat) (v : Bytes) : List (Nat × Bytes) :=
  (id, v) :: l.filter (fun e => e.1 != id)

end Sys2Proof.Machine
end

