-- ==== Sys2Proof/Machine/Operands.lean ====
section
/-! DEFINITION. Operand forms: the capsule header (R61), the opcode tables (R70, R71), the flags and classes an opcode takes
(R66, R67), the length of a capsule (R69), the reply header (R72) and the notices (R57). -/

namespace Sys2Proof.Machine

/-- Reads the 96-byte capsule header (R61). -/
def Hdr.parse (b : Bytes) : Hdr :=
  { magic := b.field 0 2, version := b.field 2 1, hdrLen := b.field 3 1, opcode := BitVec.ofNat 16 (b.field 4 2),
    opcodeTwin := BitVec.ofNat 16 (b.field 6 2), flags := BitVec.ofNat 7 (b.field 8 4), tag := BitVec.ofNat 32 (b.field 12 4),
    nsWord := BitVec.ofNat 32 (b.field 16 4), nsTwin := BitVec.ofNat 32 (b.field 20 4),
    keyLen := BitVec.ofNat 16 (b.field 24 2), keyLenTwin := BitVec.ofNat 16 (b.field 26 2), cls := b.field 28 4 % 16,
    valueLen := BitVec.ofNat 64 (b.field 32 8), valueLenTwin := BitVec.ofNat 64 (b.field 40 8),
    offset := BitVec.ofNat 64 (b.field 48 8), expVersion := BitVec.ofNat 64 (b.field 56 8),
    token := BitVec.ofNat 128 (b.field 64 16), valueCrc := BitVec.ofNat 64 (b.field 80 8),
    hdrCrc := BitVec.ofNat 32 (b.field 88 4) }

/-- The namespace a capsule names: bits [11:0] of the word. -/
def Hdr.ns (h : Hdr) : BitVec 12 := h.nsWord.setWidth 12

/-- A flag of the capsule (R66). -/
def Hdr.flag (h : Hdr) (i : Nat) : Bool := h.flags.getLsbD i

/-! ## Opcodes -/

namespace Op
abbrev get : BitVec 16 := 0x0001
abbrev put : BitVec 16 := 0x0002
abbrev delete : BitVec 16 := 0x0003
abbrev exists_ : BitVec 16 := 0x0004
abbrev casPut : BitVec 16 := 0x0005
abbrev patch : BitVec 16 := 0x0006
abbrev scanPrefix : BitVec 16 := 0x0007
abbrev mpBegin : BitVec 16 := 0x0008
abbrev mpPart : BitVec 16 := 0x0009
abbrev mpCommit : BitVec 16 := 0x000A
abbrev mpCancel : BitVec 16 := 0x000B
abbrev flush : BitVec 16 := 0x0010
abbrev abort : BitVec 16 := 0x0011
abbrev identify : BitVec 16 := 0x8001
abbrev getParam : BitVec 16 := 0x8002
abbrev setParam : BitVec 16 := 0x8003
abbrev commitStaged : BitVec 16 := 0x8004
abbrev nsCreate : BitVec 16 := 0x8005
abbrev nsDelete : BitVec 16 := 0x8006
abbrev format : BitVec 16 := 0x8007
abbrev sanitise : BitVec 16 := 0x8008
abbrev readLog : BitVec 16 := 0x8009
abbrev eventSubscribe : BitVec 16 := 0x800A
abbrev powerCtl : BitVec 16 := 0x800B
abbrev updBegin : BitVec 16 := 0x800C
abbrev updChunk : BitVec 16 := 0x800D
abbrev updVerify : BitVec 16 := 0x800E
abbrev updActivate : BitVec 16 := 0x800F
abbrev updConfirm : BitVec 16 := 0x8010
abbrev updCancel : BitVec 16 := 0x8011
abbrev cartEvacuate : BitVec 16 := 0x8012
abbrev cartRelease : BitVec 16 := 0x8013
abbrev policyWrite : BitVec 16 := 0x8014
abbrev diag : BitVec 16 := 0x8015
abbrev ringLoad : BitVec 16 := 0x8016
abbrev mirrorCtl : BitVec 16 := 0x8017
abbrev attest : BitVec 16 := 0x8018
end Op

/-- A row of the opcode tables (R70, R71): key bytes, whether value bytes are carried and how many, the flags that may be set
or are ignored (R66). -/
structure OpRow where
  op : BitVec 16
  keyLo : Nat
  keyHi : Nat
  carries : Bool
  cLo : Nat
  cHi : Nat
  flags : BitVec 7
  deriving DecidableEq, Repr

/-- HOST_CRC is ignored where it is not used (R66); this is the mask of flags that no opcode refuses. -/
abbrev hostCrcMask : BitVec 7 := 0b0001000

/-- The data opcodes (R70); the flag masks are R66's, ignored ones included. -/
def dataOps : List OpRow :=
  [ ⟨Op.get, 1, 1024, false, 0, 0, 0b1011100⟩,
    ⟨Op.put, 1, 1024, true, 0, 16777216, 0b1101001⟩,
    ⟨Op.delete, 1, 1024, false, 0, 0, 0b1001011⟩,
    ⟨Op.exists_, 1, 1024, false, 0, 0, 0b1011100⟩,
    ⟨Op.casPut, 1, 1024, true, 0, 16777216, 0b1001001⟩,
    ⟨Op.patch, 1, 1024, true, 1, 16777216, 0b1001101⟩,
    ⟨Op.scanPrefix, 0, 1024, false, 0, 0, 0b0011000⟩,
    ⟨Op.mpBegin, 1, 1024, false, 0, 0, 0b1001000⟩,
    ⟨Op.mpPart, 0, 0, true, 1, 16777216, hostCrcMask⟩,
    ⟨Op.mpCommit, 1, 1024, false, 0, 0, 0b1101001⟩,
    ⟨Op.mpCancel, 0, 0, false, 0, 0, hostCrcMask⟩,
    ⟨Op.flush, 0, 0, false, 0, 0, 0b0001001⟩,
    ⟨Op.abort, 0, 0, false, 0, 0, hostCrcMask⟩ ]

/-- The admin opcodes (R71) with their largest block. -/
def adminLimits : List (BitVec 16 × Nat) :=
  [ (Op.identify, 0), (Op.getParam, 65536), (Op.setParam, 65536), (Op.commitStaged, 0), (Op.nsCreate, 65536),
    (Op.nsDelete, 65536), (Op.format, 65536), (Op.sanitise, 65536), (Op.readLog, 65536), (Op.eventSubscribe, 65536),
    (Op.powerCtl, 65536), (Op.updBegin, 65536), (Op.updChunk, 65536), (Op.updVerify, 0), (Op.updActivate, 0),
    (Op.updConfirm, 0), (Op.updCancel, 0), (Op.cartEvacuate, 65536), (Op.cartRelease, 65536), (Op.policyWrite, 65536),
    (Op.diag, 65536), (Op.ringLoad, 4194304), (Op.mirrorCtl, 65536), (Op.attest, 65536) ]

/-- The row of an opcode, if it is defined (check 4 of R77). -/
def opRow (op : BitVec 16) : Option OpRow :=
  match dataOps.find? (·.op == op) with
  | some r => some r
  | none => (adminLimits.find? (·.1 == op)).map (fun a => ⟨a.1, 0, 0, true, 0, a.2, hostCrcMask⟩)

/-- An admin opcode (R71). -/
def isAdmin (op : BitVec 16) : Bool := adminLimits.any (·.1 == op)

/-- The opcodes of check 12 of R77: writes. -/
def isWrite (op : BitVec 16) : Bool :=
  [Op.put, Op.casPut, Op.patch, Op.delete, Op.mpCommit, Op.mpPart].contains op

/-- The opcodes of check 15 of R77: writes and MP_BEGIN. -/
def isWrite15 (op : BitVec 16) : Bool := isWrite op || op == Op.mpBegin

/-- The writers of R125. -/
def isWriter (op : BitVec 16) : Bool := [Op.put, Op.casPut, Op.delete, Op.patch, Op.mpCommit].contains op

/-- The readers of R125. -/
def isReader (op : BitVec 16) : Bool := [Op.get, Op.exists_].contains op

/-- The opcodes whose key bytes name one key (R115). -/
def carriesKey (op : BitVec 16) : Bool :=
  [Op.get, Op.put, Op.delete, Op.exists_, Op.casPut, Op.patch, Op.mpBegin, Op.mpCommit].contains op

/-- The opcodes that carry value bytes and hold their byte charge until Drift frees them (R48). -/
def holdsCharge (h : Hdr) : Bool :=
  [Op.put, Op.casPut, Op.patch, Op.mpPart].contains h.opcode || (isAdmin h.opcode && h.valueLen.toNat != 0)

/-- Value bytes that a capsule carries, `C` of R69: an opcode in neither table counts as carrying them. -/
def Hdr.carried (h : Hdr) : Nat :=
  match opRow h.opcode with
  | some r => if r.carries then h.valueLen.toNat else 0
  | none => h.valueLen.toNat

/-- The length of a capsule, `L` of R69. -/
def Hdr.len (h : Hdr) : Nat := 96 + h.keyLen.toNat + h.carried

/-- The class an opcode may use (R67). -/
def classOk (op : BitVec 16) (cls : Nat) : Bool :=
  if isAdmin op then cls == 0
  else if op == Op.abort then decide (cls ≤ 4)
  else decide (1 ≤ cls) && decide (cls ≤ 4)

/-- Value_length of SCAN_PREFIX is 0 or at least 1,048 and at most 16 MiB (R103). -/
def scanLenOk (h : Hdr) : Bool :=
  h.opcode != Op.scanPrefix || h.valueLen == 0 ||
    (decide (1048 ≤ h.valueLen.toNat) && decide (h.valueLen.toNat ≤ 16777216))

/-- HOST_CRC applies before sequencing (R65). -/
def crcBefore (op : BitVec 16) : Bool := [Op.put, Op.casPut, Op.patch, Op.mpPart].contains op

/-! ## Replies and notices -/

/-- What a reply says (R72): `len` overrides value_length for EXISTS. -/
structure Reply where
  status : BitVec 16
  version : Nat
  len : Option Nat
  token : Option (BitVec 128)
  fromBuffer : Bool
  more : Bool
  data : Bytes
  deriving DecidableEq, Repr

/-- A reply with a status alone. -/
def Reply.plain (st : BitVec 16) : Reply := ⟨st, 0, none, none, false, false, []⟩

/-- A reply with a status and a version. -/
def Reply.ver (st : BitVec 16) (v : Nat) : Reply := { Reply.plain st with version := v }

/-- `OK` with data. -/
def Reply.okData (bs : Bytes) : Reply := { Reply.plain Status.ok with data := bs }

/-- The reply's bytes in the stream (R72). -/
def Reply.encode (r : Reply) (tag : BitVec 32) (deferred : Bool) (service : Nat) : Bytes :=
  let h : Bytes :=
    natToBytesBE 2 0x4652 ++ [0x01, 0x08] ++ natToBytesBE 2 r.status.toNat ++ natToBytesBE 2 (~~~ r.status).toNat ++
      natToBytesBE 4 tag.toNat ++ natToBytesBE 4 (replyFlags deferred r.token.isSome r.fromBuffer r.more) ++
      natToBytesBE 8 r.version ++ natToBytesBE 8 (r.len.getD r.data.length) ++
      natToBytesBE 16 ((r.token.getD 0).toNat) ++ natToBytesBE 8 (crc64 r.data).toNat ++
      natToBytesBE 4 (min service 0xFFFFFFFF)
  h ++ natToBytesBE 4 (crc32c h).toNat ++ r.data

/-- Notice codes (R57). -/
inductive NoticeKind
  | creditPool | thermalStep | rungChange | modeChange | event | sessionClosing
  deriving DecidableEq, Repr

/-- The code of a notice (R57). -/
def NoticeKind.code : NoticeKind → Nat
  | .creditPool => 1
  | .thermalStep => 2
  | .rungChange => 3
  | .modeChange => 4
  | .event => 5
  | .sessionClosing => 6

/-- A notice's payload (R57). -/
def noticeBytes (k : NoticeKind) (time : Nat) (params : Bytes) : Bytes :=
  natToBytesBE 2 k.code ++ natToBytesBE 2 params.length ++ zeroBytes 4 ++ natToBytesBE 8 time ++ params

/-- A Barograph record's 32 bytes (R354). -/
def Rec.encode (r : Rec) : Bytes :=
  natToBytesBE 2 r.ev.code ++ natToBytesBE 2 (r.ev.sev * 4096 + r.ev.src % 4096) ++ natToBytesBE 4 r.ext ++
    natToBytesBE 8 r.time ++ natToBytesBE 4 r.p0.toNat ++ natToBytesBE 4 r.p1.toNat ++ natToBytesBE 4 r.p2.toNat ++
    natToBytesBE 4 r.p3.toNat

end Sys2Proof.Machine
end

