-- ==== Sys2Proof/Machine/Frames.lean ====
section
/-! DEFINITION. The bytes of the packets the drive sends (R32, R34, R35) and the keys that seal them (R43, R44). -/

namespace Sys2Proof.Machine

/-! ## Packet types (R35) -/

/-- The value of a type byte. -/
def PktType.code : PktType → Nat
  | .init => 0x01
  | .initReply => 0x02
  | .auth => 0x03
  | .authReply => 0x04
  | .reject => 0x05
  | .data => 0x10
  | .ack => 0x11
  | .notice => 0x12
  | .keepalive => 0x13
  | .close => 0x14

/-- The packet type a type byte names; any other value is malformed. -/
def PktType.ofCode (v : Nat) : Option PktType :=
  [PktType.init, .initReply, .auth, .authReply, .reject, .data, .ack, .notice, .keepalive, .close].find? (·.code == v)

/-- Sealed, with a tag: every type but those sent before any keys exist. -/
def PktType.isProtected (t : PktType) : Bool := !(t == .init || t == .initReply || t == .reject)

/-! ## Keys (R43, R44) -/

/-- The bytes of an ASCII string. -/
def ascii (s : String) : Bytes := s.toList.map (fun c => BitVec.ofNat 8 c.toNat)

/-- HKDF-Expand of RFC 5869 for at most 32 bytes: the first block. -/
def hkdfExpand (prk : BitVec 256) (info : Bytes) (len : Nat) : Bytes :=
  (natToBytesBE 32 (Config.hmac (natToBytesBE 32 prk.toNat) (info ++ [1])).toNat).take len

/-- The keys of a session (R43): HKDF-SHA-256 on the shared x-coordinate, salted with the two nonces; each info string is a label
followed by the transcript hash. -/
def deriveKeys (shared : BitVec 384) (hostNonce : Bytes) (driveNonce transcript : BitVec 256) : SessKeys :=
  let prk := Config.hmac (hostNonce ++ natToBytesBE 32 driveNonce.toNat) (natToBytesBE 48 shared.toNat)
  let out (label : String) (n : Nat) : Nat := (hkdfExpand prk (ascii label ++ natToBytesBE 32 transcript.toNat) n).toNatBE
  { h2dKey := BitVec.ofNat 256 (out "fwp1 h2d key" 32), h2dPrev := none, d2hKey := BitVec.ofNat 256 (out "fwp1 d2h key" 32),
    h2dIv := BitVec.ofNat 32 (out "fwp1 h2d iv" 4), d2hIv := BitVec.ofNat 32 (out "fwp1 d2h iv" 4) }

/-- The body of a HELLO (R287), its fields in the order the rule names them. -/
def helloBody (chain : Bytes) (nonce : BitVec 256) (point : Bytes) (node : Nat) : Bytes :=
  chain ++ natToBytesBE 32 nonce.toNat ++ point ++ natToBytesBE 2 node

/-- The keys of the peer link (R286): as R43, with the labels of the pair; `low`: this drive's serial sorts lower. -/
def cwDerive (shared : BitVec 384) (low : Bool) (loNonce hiNonce transcript : BitVec 256) : CwKeys :=
  let prk := Config.hmac (natToBytesBE 32 loNonce.toNat ++ natToBytesBE 32 hiNonce.toNat) (natToBytesBE 48 shared.toNat)
  let out (label : String) (n : Nat) : Nat := (hkdfExpand prk (ascii label ++ natToBytesBE 32 transcript.toNat) n).toNatBE
  let k (s : String) : BitVec 256 := BitVec.ofNat 256 (out ("cw1 " ++ s ++ " key") 32)
  let iv (s : String) : BitVec 32 := BitVec.ofNat 32 (out ("cw1 " ++ s ++ " iv") 4)
  if low then { txKey := k "lo2hi", rxKey := k "hi2lo", txIv := iv "lo2hi", rxIv := iv "hi2lo" }
  else { txKey := k "hi2lo", rxKey := k "lo2hi", txIv := iv "hi2lo", rxIv := iv "lo2hi" }

/-- The key of the next phase (R44). -/
def nextKey (k : BitVec 256) : BitVec 256 := BitVec.ofNat 256 (hkdfExpand k (ascii "fwp1 ku") 32).toNatBE

/-- AES-256-GCM: the ciphertext and then the 16-byte tag. -/
def gcmSeal (key : BitVec 256) (nonce : BitVec 96) (aad pt : Bytes) : Bytes :=
  pt.zipIdx.map (fun (b, i) => b ^^^ Config.gcmStream key nonce i) ++ natToBytesBE 16 (Config.gcmTag key nonce aad pt).toNat

/-! ## Headers (R32, R34) -/

/-- The word pkt_flags (R34); bits [15:5] are reserved. -/
def pktFlags (first last ackValid keyPhase ece : Bool) (reserved : Nat) : Nat :=
  first.toNat + 2 * last.toNat + 4 * ackValid.toNat + 8 * keyPhase.toNat + 16 * ece.toNat + 32 * reserved

/-- The 48-byte FWP header (R34). -/
def fwpHeader (typ : PktType) (flags sid psn cumAck sack off credit : Nat) : Bytes :=
  natToBytesBE 1 typ.code ++ natToBytesBE 1 1 ++ natToBytesBE 2 flags ++ natToBytesBE 4 sid ++ natToBytesBE 8 psn ++
    natToBytesBE 8 cumAck ++ natToBytesBE 8 sack ++ natToBytesBE 8 off ++ natToBytesBE 8 credit

/-- The header of a packet the drive sends, and of one that arrives. -/
def OutPacket.header (k : OutPacket) : Bytes :=
  fwpHeader k.typ (pktFlags k.first k.last k.ackValid k.keyPhase k.ece 0) k.sid.toNat k.psn k.cumAck k.sack.toNat k.streamOffset
    k.creditLimit
def packetHeader (typ : PktType) (k : Packet) : Bytes :=
  fwpHeader typ (pktFlags k.first k.last k.ackValid k.keyPhase k.ece k.reserved.toNat) k.sid.toNat k.psn.toNat k.cumAck.toNat
    k.sack.toNat k.streamOffset.toNat k.creditLimit.toNat

/-- An AUTH packet as a protected packet with its payload in bytes (R42). -/
def authPacket (k : AuthPacket) : Packet :=
  { port := k.port, addr := k.addr, uport := k.uport, sid := k.sid, psn := k.psn, first := k.first, last := k.last,
    ackValid := k.ackValid, keyPhase := k.keyPhase, ece := k.ece, reserved := k.reserved, cumAck := k.cumAck, sack := k.sack,
    streamOffset := k.streamOffset, creditLimit := k.creditLimit,
    payload := natToBytesBE 4 k.tenant.toNat ++ natToBytesBE 4 k.reservedWord.toNat ++ natToBytesBE 32 k.proof.toNat,
    tag := k.tag, ce := k.ce }

/-- The key of the host's direction that a packet is sealed under (R44): the phase in force; below the first PSN of that phase the key
kept from before; and the next one for a packet that begins a phase. -/
def Session.rxKey (s : Session) (k : Packet) : BitVec 256 :=
  if k.keyPhase == s.rxPhase then s.keys.h2dKey
  else match s.rxPrevUntil with
    | some f => if k.psn.toNat < f then s.keys.h2dPrev.getD s.keys.h2dKey else nextKey s.keys.h2dKey
    | none => nextKey s.keys.h2dKey

/-- A packet authenticates (R44, check 9 of R58): its tag is the one over its header and its payload under the host's prefix and its
PSN. -/
def Session.opens (s : Session) (typ : PktType) (k : Packet) : Bool :=
  k.tag == Config.gcmTag (s.rxKey k) (s.keys.h2dIv ++ k.psn) (packetHeader typ k) k.payload

/-- The FWP packet: the header, and the payload sealed under the drive's key with the header as associated data; the nonce is the
prefix and the PSN (R44). -/
def OutPacket.fwp (k : OutPacket) (keys : Option SessKeys) : Bytes :=
  match keys with
  | some x =>
    if k.typ.isProtected then
      k.header ++ gcmSeal x.d2hKey (x.d2hIv ++ BitVec.ofNat 64 k.psn) k.header k.payload
    else k.header ++ k.payload
  | none => k.header ++ k.payload

/-- The Internet checksum of a run of bytes: the complement of the ones' complement sum of its 16-bit words. -/
def inetSum (b : Bytes) : Nat :=
  let words := (List.range (ceilDiv b.length 2)).map (fun i => Bytes.field ((b.drop (2 * i)).take 2 ++ [0]) 0 2)
  let s := words.sum
  65535 - (if s = 0 then 0 else (s - 1) % 65535 + 1)

/-- The UDP datagram over a pseudo-header (R32: a checksum in every packet; a sum of 0 goes as 0xFFFF). -/
def udpDatagram (pseudo : Nat → Bytes) (srcPort dstPort : Nat) (body : Bytes) : Bytes :=
  let n := 8 + body.length
  let head := natToBytesBE 2 srcPort ++ natToBytesBE 2 dstPort ++ natToBytesBE 2 n
  let sum := inetSum (pseudo n ++ head ++ zeroBytes 2 ++ body)
  head ++ natToBytesBE 2 (if sum = 0 then 0xFFFF else sum) ++ body

/-- The type-of-service or traffic-class byte: DSCP, and ECT(0) or Not-ECT (R31, R54). -/
def OutPacket.tos (k : OutPacket) : Nat := k.dscp * 4 + (if k.ect then 2 else 0)

/-- An IPv4 packet: DF set, no options, TTL 64 (R32). The identification is 0: PRESUMED, log entry 186. -/
def ipv4Wrap (tos proto : Nat) (addrs body : Bytes) : Bytes :=
  let head (sum : Nat) : Bytes :=
    natToBytesBE 1 0x45 ++ natToBytesBE 1 tos ++ natToBytesBE 2 (20 + body.length) ++ zeroBytes 2 ++ natToBytesBE 2 0x4000 ++
      natToBytesBE 1 64 ++ natToBytesBE 1 proto ++ natToBytesBE 2 sum ++ addrs
  head (inetSum (head 0)) ++ body

/-- An IPv6 packet: hop limit 64 and a flow label (R32). -/
def ipv6Wrap (tos flow proto : Nat) (addrs body : Bytes) : Bytes :=
  natToBytesBE 4 (6 * 2 ^ 28 + tos * 2 ^ 20 + flow % 2 ^ 20) ++ natToBytesBE 2 body.length ++ natToBytesBE 1 proto ++
    natToBytesBE 1 64 ++ addrs ++ body

/-- A FWP packet over IPv4, and over IPv6 with the low 20 bits of the session ID as its flow label (R32). -/
def ipv4Packet (k : OutPacket) (src : BitVec 32) (srcPort : Nat) (body : Bytes) : Bytes :=
  let a := natToBytesBE 4 src.toNat ++ natToBytesBE 4 (k.addr.toNat % 2 ^ 32)
  ipv4Wrap k.tos 17 a (udpDatagram (fun n => a ++ [0, 17] ++ natToBytesBE 2 n) srcPort k.uport.toNat body)
def ipv6Packet (k : OutPacket) (src : Addr) (srcPort : Nat) (body : Bytes) : Bytes :=
  let a := natToBytesBE 16 src.toNat ++ natToBytesBE 16 k.addr.toNat
  ipv6Wrap k.tos k.sid.toNat 17 a (udpDatagram (fun n => a ++ natToBytesBE 4 n ++ [0, 0, 0, 17]) srcPort k.uport.toNat body)

/-- An echo reply over IPv4 or IPv6, with the headers of R32; its ICMP part is the request's identifier, sequence and data. The message
layout is ICMP's (PRESUMED, log entry 223); it carries the ADMIN marking and no flow label (DESIGN CHOICE, log entry 223). -/
def icmpEcho (typ : Nat) (pseudo body : Bytes) : Bytes :=
  let m (sum : Nat) : Bytes := natToBytesBE 1 typ ++ [0] ++ natToBytesBE 2 sum ++ body
  m (inetSum (pseudo ++ m 0))
def echoV4 (tos : Nat) (src dst : BitVec 32) (body : Bytes) : Bytes :=
  ipv4Wrap tos 1 (natToBytesBE 4 src.toNat ++ natToBytesBE 4 dst.toNat) (icmpEcho 0 [] body)
def echoV6 (tos : Nat) (src dst : Addr) (body : Bytes) : Bytes :=
  let a := natToBytesBE 16 src.toNat ++ natToBytesBE 16 dst.toNat
  ipv6Wrap tos 0 58 a (icmpEcho 129 (a ++ natToBytesBE 4 (4 + body.length) ++ [0, 0, 0, 58]) body)

/-! ## The drive's addresses (R32) -/

/-- The address parameters of a data port. -/
def ipv4Param (p : Port) : Nat := if p = 0 then P.transportPort0Ipv4 else P.transportPort1Ipv4
def ipv6Param (p : Port) : Nat := if p = 0 then P.transportPort0Ipv6 else P.transportPort1Ipv6

/-- The IPv6 link-local address formed from a port's MAC address (R32): fe80::/64 and the modified EUI-64. -/
def linkLocal (mac : BitVec 48) : Addr :=
  (0xFE80000000000000 : BitVec 64) ++ ((mac >>> 24).setWidth 24 ^^^ (0x020000 : BitVec 24)) ++ (0xFFFE : BitVec 16) ++
    (mac.setWidth 24)

/-- The source address of a packet to an IPv6 address: the link-local one towards a link-local peer or without a global one; R32 does not
say which of the two a packet carries. DESIGN CHOICE, log entry 224. -/
def Dev.sourceV6 (d : Dev) (p : Port) (dst : Addr) : Addr :=
  let v := d.par.value (ipv6Param p)
  if v.length == 40 && dst >>> 118 != 0x3FA then BitVec.ofNat 128 (v.field 0 16) else linkLocal (Config.portMac p.val)

/-- A packet with its bytes as they go out (R32, R34, R44). -/
def Dev.framed (d : Dev) (keys : Option SessKeys) (k : OutPacket) : OutPacket :=
  let body := k.fwp keys
  let src := d.pnum P.transportUdpPort
  { k with frame :=
      if k.addr >>> 32 == 0xFFFF then
        ipv4Packet k (BitVec.ofNat 32 ((d.par.value (ipv4Param k.port)).field 12 4)) src body
      else ipv6Packet k (d.sourceV6 k.port k.addr) src body }

/-- An echo reply as it leaves a data port (R32, R33). -/
def Dev.echoFrame (d : Dev) (p : Port) (tos : Nat) (dst : Addr) (body : Bytes) : Bytes :=
  if dst >>> 32 == 0xFFFF then echoV4 tos (BitVec.ofNat 32 ((d.par.value (ipv4Param p)).field 12 4)) (dst.setWidth 32) body
  else echoV6 tos (d.sourceV6 p dst) dst body

end Sys2Proof.Machine
end

