-- ==== Sys2Proof/Machine/Ops.lean ====
section
/-! DEFINITION. The operations every family shares: counters, free values, rate limits, the sessions and their packets, the
notices, the events, Gale's rows, the byte charges, the replies and the end of a session. -/

namespace Sys2Proof.Machine

/-! ## Small state -/

/-- Records an output. -/
def Dev.emitOut (d : Dev) (o : Out) : Dev := { d with out := o :: d.out }

/-- Records several outputs, the first of the list first. -/
def Dev.emitOuts (d : Dev) (os : List Out) : Dev := os.foldl Dev.emitOut d

/-- The counters after one moves by `n`; 64 bits, wrapping. -/
def bumpList : List (Ctr × BitVec 64) → Ctr → Nat → List (Ctr × BitVec 64)
  | [], c, n => [(c, BitVec.ofNat 64 n)]
  | (c', v) :: rest, c, n =>
      if c' = c then (c', v + BitVec.ofNat 64 n) :: rest else (c', v) :: bumpList rest c n

/-- Counts `n` on a counter. -/
def Dev.bump (d : Dev) (c : Ctr) (n : Nat) : Dev := { d with ctr := bumpList d.ctr c n }

/-- A counter's value. -/
def Dev.count (d : Dev) (c : Ctr) : BitVec 64 := (d.ctr.lookup c).getD 0

/-- The next free value of a run and the state after drawing it (log entry 2). -/
def Dev.draw (d : Dev) : BitVec 512 × Dev := (Config.freeValue d.fresh, { d with fresh := d.fresh + 1 })

/-- A hold-off (R467): whether the item may be raised now for its key, and how many occurred within the last second, this one
with them. The key pairs the event's code with its subject. -/
def Dev.holdOff (d : Dev) (key : Nat) : Bool × Nat × Dev :=
  let old := d.clk.holds.find? (·.1 == key)
  let near := d.clk.tick :: ((old.map (fun e => e.2.2)).getD []).filter (fun t => decide (d.clk.tick < t + 1000000))
  let may := match old with
    | some e => decide (e.2.1 + 1000000 ≤ d.clk.tick)
    | none => true
  let since := if may then d.clk.tick else (old.map (fun e => e.2.1)).getD d.clk.tick
  (may, near.length,
    { d with clk := { d.clk with holds := (key, since, near) :: d.clk.holds.filter (·.1 != key) } })

/-- A window of whole seconds, counted from the drive's start (R467): whether one more of at most `limit` fits, and the state
after counting it. -/
def Dev.window (d : Dev) (key limit : Nat) : Bool × Dev :=
  let sec := (d.clk.tick - d.clk.startedAt) / 1000000
  let used := match d.clk.windows.find? (·.1 == key) with
    | some (_, s, n) => if s == sec then n else 0
    | none => 0
  if used < limit then
    (true, { d with clk := { d.clk with windows := (key, sec, used + 1) :: d.clk.windows.filter (·.1 != key) } })
  else (false, d)

/-- A key of a rate limit: event code and subject. -/
def rateKey (code subject : Nat) : Nat := code * 2 ^ 64 + subject

/-! ## Sessions -/

/-- The session with an ID. -/
def Dev.session? (d : Dev) (sid : BitVec 32) : Option Session := d.net.sessions.find? (·.sid == sid)

/-- Changes one session. -/
def Dev.modSession (d : Dev) (sid : BitVec 32) (f : Session → Session) : Dev :=
  { d with net := { d.net with sessions := d.net.sessions.map (fun s => if s.sid == sid then f s else s) } }

/-- An established session. -/
def Session.live (s : Session) : Bool := s.stage == .established

/-- The byte charges of a session, reserve-backed or borrowed (R48). -/
def Net.chargeSum (n : Net) (sid : BitVec 32) (borrowed : Bool) : Nat :=
  ((n.charges.filter (fun c => c.sid == sid && c.borrowed == borrowed)).map (·.len)).sum

/-- `credit_limit` = released + 262,144 + borrowed (R48). -/
def Dev.creditLimit (d : Dev) (s : Session) : Nat := s.released + 262144 + d.net.chargeSum s.sid true

/-- Bit i set: PSN cum + 1 + i received (R34). -/
def sackMask (cum : Nat) (got : List Nat) : BitVec 64 :=
  got.foldl (fun m p => if cum < p && p ≤ cum + 64 then m ||| (1 <<< (p - cum - 1)) else m) 0

/-- The DSCP and PCP of a class (R31), as the maps in force give them. R31 and R67 leave open how the refusal of a capsule whose class is 5
to 15 is marked: it takes LOW's marking, as its pool does (R50). DESIGN CHOICE, log entry 228. -/
def Dev.dscp (d : Dev) (cls : Nat) : Nat := unpackField 5 6 (min cls 4) (d.pnum P.transportDscpMap)
def Dev.pcp (d : Dev) (cls : Nat) : Nat := unpackField 5 3 (min cls 4) (d.pnum P.transportPcpMap)

/-- ETS is enabled when the table is not the default one (R30); log entry 20. -/
def Dev.etsEnabled (d : Dev) : Bool := d.pnum P.transportEtsTable != packFields 8 [100, 0, 0, 0, 0, 0, 0, 0]

/-- The tag of a sent packet (R30): VID, or 0 for a priority tag. -/
def Dev.txVid (d : Dev) : Option Nat :=
  if d.pnum P.transportVlanId != 0 then some (d.pnum P.transportVlanId)
  else if d.pnum P.transportPfcPriorities != 0 || d.etsEnabled then some 0 else none

/-- A data port's link is up. -/
def Dev.portUp (d : Dev) (p : Port) : Bool := (d.net.links.get (p.castSucc)).up

/-- A priority is held paused on a port: enabled, and its pause time not yet over (R55). -/
def Dev.paused (d : Dev) (p : Port) (prio : Nat) : Bool :=
  (d.pnum P.transportPfcPriorities).testBit prio && decide (d.clk.tick < (d.net.pfcPaused.get p)[prio]?.getD 0)

/-- Puts a packet on the wire; it waits while its priority is paused, and is lost while the link is down (R55). -/
def Dev.wire (d : Dev) (k : OutPacket) : Dev :=
  if d.paused k.port k.pcp then { d with net := { d.net with held := d.net.held ++ [k] } }
  else if d.portUp k.port then d.emitOut (.packet k) else d

/-- The packets of a list in the order that the ETS table gives traffic classes (R30): of the classes with a packet left, the one that
has sent the fewest bytes for its share goes next, the list's order within a class. `sent`: bytes so far of each class. The traffic
class of a packet is its PCP: DESIGN CHOICE, log entry 20. -/
def etsOrder (share : Nat → Nat) (sent : Nat → Nat) (l : List OutPacket) : Nat → List OutPacket
  | 0 => l
  | fuel + 1 =>
    let ahead (a b : OutPacket) : Bool := decide (sent a.pcp * share b.pcp < sent b.pcp * share a.pcp)
    match l with
    | [] => []
    | k0 :: rest =>
      let k := rest.foldl (fun best x => if ahead x best then x else best) k0
      k :: etsOrder share (fun c => if c = k.pcp then sent c + k.frame.length else sent c) (l.erase k) fuel

/-- The share of a traffic class in per cent (R30, R59). -/
def Dev.etsShare (d : Dev) (tc : Nat) : Nat := unpackField 8 8 tc (d.pnum P.transportEtsTable)

/-- Sends the packets whose pause has ended (R55), in the order of ETS where it is enabled (R30). -/
def Dev.releaseHeld (d : Dev) : Dev :=
  let go := d.net.held.filter (fun k => !d.paused k.port k.pcp)
  let stay := d.net.held.filter (fun k => d.paused k.port k.pcp)
  let d1 := { d with net := { d.net with held := stay } }
  (if d.etsEnabled then etsOrder d.etsShare (fun _ => 0) go go.length else go).foldl Dev.wire d1

/-- The fields common to every packet of a session (R34, R37, R54). ECE stands on the first packet that carries an
acknowledgement of the marked one (R54): DESIGN CHOICE, log entry 181. -/
def Dev.packetOf (d : Dev) (s : Session) (typ : PktType) (cls : Nat) (psn off : Nat) (first last : Bool) (pl : Bytes) :
    OutPacket :=
  d.framed (some s.keys)
    { port := s.port, addr := s.addr, uport := s.uport, typ := typ, sid := s.sid, psn := psn, first := first, last := last,
      ackValid := true, keyPhase := s.txPhase, ece := s.eceOwed, cumAck := s.rxCum, sack := sackMask s.rxCum s.rxGot,
      streamOffset := off, creditLimit := d.creditLimit s, dscp := d.dscp cls, pcp := d.pcp cls,
      ect := d.pflag P.transportEcnEnable, vid := d.txVid, payload := pl, frame := [] }

/-- The next PSN of a session may be sent (R36). -/
def Session.psnOpen (s : Session) : Bool := decide (s.txNext < s.peerCum + 4096)

/-- Sends a protected packet of a session: it takes the next PSN, carries the acknowledgement and is kept for
retransmission. `bytes` count against the congestion window. -/
def Dev.sendPacket (d : Dev) (sid : BitVec 32) (typ : PktType) (cls off : Nat) (first last : Bool) (pl : Bytes)
    (bytes : Nat) : Dev :=
  match d.session? sid with
  | none => d
  | some s =>
    if s.psnOpen then
      let k := d.packetOf s typ cls s.txNext off first last pl
      let d1 := d.modSession sid (fun s =>
        { s with txNext := s.txNext + 1, unacked := s.unacked ++ [⟨k, d.clk.tick, false, false, bytes⟩], dataSinceAck := 0,
                 ackDue := false, eceOwed := false })
      ((d1.bump (.session sid .pktTx) 1).bump (.session sid .byteTx) (64 + pl.length)).wire k
    else d

/-- Sends an acknowledgement at once (R37). -/
def Dev.sendAck (d : Dev) (sid : BitVec 32) : Dev := d.sendPacket sid .ack 0 0 false false [] 0

/-- Reply and notice bytes of a session in flight (R54). -/
def Session.inFlight (s : Session) : Nat := ((s.unacked.filter (fun t => !t.sacked)).map (·.bytes)).sum

/-- The congestion window in force (R54): `transport.tx_inflight_max` is its maximum at every moment. -/
def Dev.cwnd (d : Dev) (s : Session) : Nat := min s.cwnd (d.pnum P.transportTxInflightMax)

/-- Sends notices that wait for the congestion window, in order (R54, R57). -/
def Dev.pumpNotices (d : Dev) (sid : BitVec 32) : Nat → Dev
  | 0 => d
  | fuel + 1 =>
    match d.session? sid with
    | none => d
    | some s =>
      match s.noticeQ with
      | [] => d
      | n :: rest =>
        if s.psnOpen && decide (s.inFlight + n.length ≤ d.cwnd s) then
          ((d.modSession sid (fun s => { s with noticeQ := rest })).sendPacket sid .notice 0 0 false false n n.length
            ).pumpNotices sid fuel
        else d

/-- Queues a notice for an established session and sends what the window lets through. -/
def Dev.notify (d : Dev) (sid : BitVec 32) (k : NoticeKind) (params : Bytes) : Dev :=
  match d.session? sid with
  | none => d
  | some s =>
    if s.live then
      let b := noticeBytes k d.clk.ns params
      let d1 := (d.emitOut (.notice sid k.code params)).modSession sid (fun s => { s with noticeQ := s.noticeQ ++ [b] })
      d1.pumpNotices sid (s.noticeQ.length + 1)
    else d

/-- Sends a notice to every established session. -/
def Dev.notifyAll (d : Dev) (k : NoticeKind) (params : Session → Bytes) : Dev :=
  d.net.sessions.foldl (fun d s => d.notify s.sid k (params s)) d

/-- One reply segment, if the host's credit, the windows and the PSN limit let it go (R36, R53, R54). A segment that does not fit whole
waits, where R53 and R54 leave open whether a shorter one goes: DESIGN CHOICE, log entry 229. -/
def Dev.pumpOne (d : Dev) (s : Session) : Option Dev :=
  match s.replyQ with
  | [] => none
  | r :: rest =>
    let n := min s.segSize r.bytes.length
    if s.psnOpen && decide (s.replyPos + n ≤ s.hostLimit || s.hostLimit = 2 ^ 64 - 1) &&
        decide (s.inFlight + n ≤ d.cwnd s) && s.live then
      let last := decide (r.bytes.length ≤ s.segSize)
      let d0 := match s.stalledSince with
        | some t => d.bump (.session s.sid .stallUs) (d.clk.tick - t)
        | none => d
      let d1 := d0.modSession s.sid (fun s =>
        { s with replyPos := s.replyPos + n, stalledSince := none,
                 replyQ := if last then rest else { r with first := false, bytes := r.bytes.drop n } :: rest })
      some (d1.sendPacket s.sid .data r.cls s.replyPos r.first last (r.bytes.take n) n)
    else none

/-- Sends reply segments while they may go (R53, R54). -/
def Dev.pumpReplies (d : Dev) (sid : BitVec 32) : Nat → Dev
  | 0 => d
  | fuel + 1 =>
    match d.session? sid with
    | none => d
    | some s => match d.pumpOne s with
      | some d1 => d1.pumpReplies sid fuel
      | none => d

/-- Sends what may go: replies, then notices; a reply that cannot go is a stall from now on (R53). -/
def Dev.pump (d : Dev) (sid : BitVec 32) : Dev :=
  match d.session? sid with
  | none => d
  | some s =>
    let d1 := d.pumpReplies sid ((s.replyQ.map (fun r => r.bytes.length / 1024 + 1)).sum + 1)
    let d2 := d1.pumpNotices sid (s.noticeQ.length + 1)
    d2.modSession sid (fun s =>
      if s.replyQ.isEmpty then { s with stalledSince := none }
      else match s.stalledSince with
        | none => { s with stalledSince := some d.clk.tick }
        | some _ => s)

/-! ## Events -/

/-- The level of a source (R355, R356). -/
def Dev.level (d : Dev) (src : Nat) : Nat :=
  match d.ev.levels.lookup src with
  | some l => l
  | none => d.pnum P.mgmtRecordMinSeverity

/-- Counts an event below its source's level (R355). -/
def bumpNat : List (Nat × Nat) → Nat → List (Nat × Nat)
  | [], k => [(k, 1)]
  | (k', n) :: rest, k => if k' == k then (k', n + 1) :: rest else (k', n) :: bumpNat rest k

/-- Removes the last element of a list that meets a test: the oldest of a newest-first ring. -/
def eraseLastP {α : Type} (p : α → Bool) : List α → Option (α × List α)
  | [] => none
  | a :: rest =>
    match eraseLastP p rest with
    | some (x, r) => some (x, a :: r)
    | none => if p a then some (a, rest) else none

/-- Enters a record in the SRAM ring (R361, R363). -/
def Events.push (e : Events) (r : Rec) : Events :=
  let lose (x : Nat) : Events := { e with dropped := e.dropped + 1, droppedLow := some (min x (e.droppedLow.getD x)) }
  if e.ring.length < 65536 then { e with ring := ⟨r, false⟩ :: e.ring }
  else match eraseLastP (·.flushed) e.ring with
    | some (_, rest) => { e with ring := ⟨r, false⟩ :: rest }
    | none =>
      if r.ev.sev ≤ 2 then lose r.ext
      else match eraseLastP (fun x => decide (x.r.ev.sev ≤ 2)) e.ring with
        | some (x, rest) => { lose x.r.ext with ring := ⟨r, false⟩ :: rest }
        | none => match eraseLastP (fun _ => true) e.ring with
          | some (x, rest) => { lose x.r.ext with ring := ⟨r, false⟩ :: rest }
          | none => e

/-- A tenant with a record and a binding to a namespace. -/
def Policy.bound (p : Policy) (t : BitVec 32) (n : BitVec 12) : Bool := p.bindings.any (fun b => b.tenant == t && b.ns == n)

/-- A session is an operator's, or the provisioning credential's: it has no tenant record (R378). -/
def Dev.operatorSession (d : Dev) (s : Session) : Bool := d.sec.creds.any (fun c => c.id == s.tenant && c.operator)

/-- The events a tenant session may receive, with the field that names it (R357). -/
def Dev.tenantSees (d : Dev) (t : BitVec 32) (r : Rec) : Bool :=
  if [Ev.quotaReached.code, Ev.lostKeyCleared.code, Ev.mpExpired.code, Ev.patchPartial.code,
      Ev.mirrorState.code].contains r.ev.code then d.pol.bound t (r.p0.setWidth 12)
  else if r.ev.code == Ev.deferredError.code then r.p3 == t
  else if r.ev.code == Ev.galeFloorShort.code then r.p0 == t
  else [Ev.floorBreach.code, Ev.earlyAckOn.code, Ev.earlyAckOff.code, Ev.readOnly.code].contains r.ev.code

/-- A subscription of the session matches the record (R356). -/
def Session.subscribed (s : Session) (r : Rec) : Bool :=
  s.subs.any (fun b => decide (b.sev ≤ r.ev.sev) && decide (b.srcLow ≤ r.ev.src) && decide (r.ev.src ≤ b.srcHigh) &&
    (b.code == 0 || b.code == r.ev.code))

/-- Delivers a record to one session, at its rate and its rung (R357, R358). -/
def Dev.noticeEvent (d : Dev) (r : Rec) (s0 : Session) : Dev :=
  match d.session? s0.sid with
  | none => d
  | some s =>
    if s.live && s.subscribed r && (d.operatorSession s || d.tenantSees s.tenant r) then
      match d.window (rateKey 5 s.sid.toNat) (d.pnum P.mgmtNoticeRateMax) with
      | (false, d1) => d1.bump (.session s.sid .noticeDrop) 1
      | (true, d1) =>
        if d.pow.rung = .clear then d1.notify s.sid .event r.encode
        else if s.noticeQ.length < 256 then
          d1.modSession s.sid (fun s => { s with noticeQ := s.noticeQ ++ [noticeBytes .event d.clk.ns r.encode] })
        else d1.bump (.session s.sid .noticeDrop) 1
    else d

/-- Severity by which a PLDM event is ranked when the queue is full (R348); a threshold crossing ranks as the event of its
level (R337). Log entry 21. -/
def PldmEvent.rank : PldmEvent → Nat
  | .oem r => r.ev.sev
  | .sensor _ l => if l ≤ 2 then 3 else if l == 3 then 5 else 6

/-- Queues a PLDM event (R348): at most 256, the oldest of the lowest severity is dropped; the first in the queue is sent. -/
def Dev.queuePldm (d : Dev) (e : PldmEvent) : Dev :=
  match d.mgmt.pldmReceiver with
  | none => d
  | some _ =>
    let q := d.mgmt.pldmQueue ++ [e]
    let low := q.foldl (fun m x => min m x.rank) 6
    let q1 := if q.length ≤ 256 then q else q.eraseP (fun x => x.rank == low)
    let d1 := { d with mgmt := { d.mgmt with pldmQueue := q1 } }
    if d.mgmt.pldmQueue.isEmpty then d1.emitOut (.pldmEvent e) else d1

/-- Sends a record to the SSE streams whose filter it passes (R345, R355). -/
def Dev.sendSse (d : Dev) (r : Rec) : Dev :=
  d.mgmt.conns.foldl (fun d c =>
    match c.sse with
    | some (sev, src) =>
        if sev ≤ r.ev.sev && (src.isNone || src == some r.ev.src) then d.emitOut (.sse c.id r) else d
    | none => d) d

/-- Raises an event: counted below its source's level, else recorded and routed (R354, R355, R360). -/
def Dev.raise (d : Dev) (e : Ev) (p0 p1 p2 p3 : Nat) : Dev :=
  if e.sev < d.level e.src then { d with ev := { d.ev with below := bumpNat d.ev.below e.src } }
  else
    let r : Rec := { ev := e, ext := d.ev.nextExt, time := d.clk.ns, p0 := BitVec.ofNat 32 p0, p1 := BitVec.ofNat 32 p1,
                     p2 := BitVec.ofNat 32 p2, p3 := BitVec.ofNat 32 p3 }
    let v := d.ev
    let v1 := { v with nextExt := v.nextExt + 1,
                       reservedEnd := if v.reservedEnd ≤ v.nextExt then v.nextExt + 65536 else v.reservedEnd,
                       vring := if 4 ≤ e.sev then (r :: v.vring).take 32768 else v.vring }
    let d1 := { d with ev := v1.push r }
    let d2 := d1.net.sessions.foldl (fun d s => d.noticeEvent r s) d1
    let d3 := d2.sendSse r
    if d.pnum P.mgmtAlertMinSeverity ≤ e.sev then d3.queuePldm (.oem r) else d3

/-- Raises an event at most once per second for a subject (R467); the parameters may use the count of the last second. -/
def Dev.raiseHeld (d : Dev) (e : Ev) (subject : Nat) (f : Nat → Nat × Nat × Nat × Nat) : Dev :=
  match d.holdOff (rateKey e.code subject) with
  | (true, n, d1) => let (a, b, c, x) := f n; d1.raise e a b c x
  | (false, _, d1) => d1

/-! ## Gale rows (R172 to R181) -/

/-- First row of a table on each die, its rows per die, and the rows of an entry (R177). -/
def tblBase : GTable → Nat
  | .directory => 0
  | .session => 40960
  | .policy => 57344
def tblEntries : GTable → Nat
  | .directory => 20480
  | .session => 8192
  | .policy => 8192
def tblStep : GTable → Nat
  | .policy => 1
  | _ => 2
def tblNum : GTable → Nat
  | .directory => 1
  | .session => 2
  | .policy => 3

/-- The table that a row address belongs to (R172, R177). -/
def tableOf (addr : Nat) : GTable :=
  if addr % 65536 < 40960 then .directory else if addr % 65536 < 57344 then .session else .policy

/-- Address of slot `i` of a table, in ascending order of addresses. -/
def tblSlot (t : GTable) (i : Nat) : Nat := i / tblEntries t * 65536 + tblBase t + tblStep t * (i % tblEntries t)

/-- The two parity bits of a row, one over each 36-bit half (R172). -/
def rowParity (x : BitVec 72) : BitVec 2 :=
  let h (lo : Nat) : Bool := (List.range 36).foldl (fun a i => a != x.getLsbD (lo + i)) false
  BitVec.ofBool (h 36) ++ BitVec.ofBool (h 0)

/-- A row is in use: its valid bit is set, or its shadow holds a word of the table layer, whose valid bit an upset may have cleared (R189). -/
def GRow.live (r : GRow) : Bool := r.valid || r.shadow != 0

/-- A row at an address is in use. -/
def Gale.taken (g : Gale) (addr : Nat) : Bool := g.rows.any (fun r => r.addr == addr && r.live)

/-- Writes one row with its shadow (R189). -/
def Gale.writeRow (g : Gale) (addr : Nat) (x : BitVec 72) : Gale :=
  { g with rows := ⟨addr, x, true, rowParity x, x, ~~~ x⟩ :: g.rows.filter (·.addr != addr) }

/-- A row without its valid bit and without a word in its shadow. -/
def GRow.retired (r : GRow) : GRow := { r with valid := false, shadow := 0, twin := ~~~ 0 }

/-- Clears the valid bit of one row; the shadow is cleared first (R189). -/
def Gale.invalidate (g : Gale) (addr : Nat) : Gale :=
  { g with rows := g.rows.map (fun r => if r.addr == addr then r.retired else r) }

/-- CLEAR of every block, and of the shadows with them: data and parity bits stay (R174, R194). -/
def Gale.clear (g : Gale) : Gale := { g with rows := g.rows.map GRow.retired }

/-- Loads a mask register; MK0 is fixed (R174, R175). -/
def Gale.loadMask (g : Gale) (k : Fin 16) (m : BitVec 144) : Gale := if k = 0 then g else { g with masks := g.masks.set k m }

/-- The address of the entry a row belongs to: wide entries begin at even rows (R172). -/
def entryAddr (addr : Nat) : Nat := if tableOf addr == .policy then addr else addr / 2 * 2

/-- The low and the high row of a wide word; a narrow word has the low one alone. -/
def lowHalf (w : BitVec 144) : BitVec 72 := w.setWidth 72
def highHalf (w : BitVec 144) : BitVec 72 := (w >>> 72).setWidth 72

/-- The word an entry's rows hold at an address (R172). -/
def Gale.wordAt (g : Gale) (t : GTable) (addr : Nat) : Option (BitVec 144) :=
  match g.rows.find? (fun r => r.addr == addr && r.valid) with
  | none => none
  | some r =>
    if t == .policy then some (r.data.setWidth 144)
    else match g.rows.find? (fun r => r.addr == addr + 1 && r.valid) with
      | some r2 => some (r2.data ++ r.data)
      | none => none

/-- The lowest free slot from `i` on (log entry 22). -/
def Gale.freeSlot (g : Gale) (t : GTable) (i : Nat) : Nat → Nat
  | 0 => i
  | fuel + 1 => if g.taken (tblSlot t i) then g.freeSlot t (i + 1) fuel else i

/-- The word of the owner record at an entry's address, as the shadow rows hold it (R177, R189). -/
def Gale.ownWord (g : Gale) (t : GTable) (addr : Nat) : Option (BitVec 144) :=
  match g.rows.find? (fun r => r.addr == addr) with
  | none => none
  | some r =>
    if t == .policy then some (r.shadow.setWidth 144)
    else match g.rows.find? (fun r => r.addr == addr + 1) with
      | some r2 => some (r2.shadow ++ r.shadow)
      | none => none

/-- The address of the entry whose owner record is a word: entries begin at even rows (R172). -/
def Gale.find (g : Gale) (t : GTable) (w : BitVec 144) : Option Nat :=
  (g.rows.find? (fun r => r.live && tableOf r.addr == t && entryAddr r.addr == r.addr && g.ownWord t r.addr == some w)).map (·.addr)

/-- Inserts an entry in the table layer (R176). -/
def Gale.insert (g : Gale) (t : GTable) (w : BitVec 144) : Gale :=
  match g.find t w with
  | some _ => g
  | none =>
    let a := tblSlot t (g.freeSlot t 0 (g.rows.length + 1))
    let g1 := g.writeRow a (lowHalf w)
    if t == .policy then g1 else g1.writeRow (a + 1) (highHalf w)

/-- Removes an entry in the table layer. -/
def Gale.remove (g : Gale) (t : GTable) (w : BitVec 144) : Gale :=
  match g.find t w with
  | none => g
  | some a => let g1 := g.invalidate a; if t == .policy then g1 else g1.invalidate (a + 1)

/-- The entry words (R178, R180, R181). -/
def sessionWord (a : Addr) (p : BitVec 16) : BitVec 144 := a ++ p
def keyWord (ns : BitVec 12) (h : BitVec 128) : BitVec 144 := ns ++ h ++ (1 : BitVec 4)
def partWord (ns : BitVec 12) (upload chunk : Nat) : BitVec 144 :=
  ns ++ (BitVec.ofNat 64 upload) ++ (BitVec.ofNat 64 chunk) ++ (2 : BitVec 4)
def bindingWord (t : BitVec 32) (ns : BitVec 12) : BitVec 144 :=
  ((1 : BitVec 4) ++ t ++ ns ++ (0 : BitVec 24)).setWidth 144

/-- Changes Gale. -/
def Dev.modGale (d : Dev) (f : Gale → Gale) : Dev := { d with gale := f d.gale }

/-- Counts one search of a table and whether it hit (R195). -/
def Dev.countSearch (d : Dev) (t : GTable) (hit : Bool) : Dev :=
  (d.bump (.galeSearch t) 1).bump (if hit then .galeHit t else .galeMiss t) 1

/-- Counts `n` results with MULTI set (R195). -/
def Dev.countMulti (d : Dev) (n : Nat) : Dev := d.bump (.drive .galeMulti) n

/-- Counts a sweep of a table that finds `k` entries (R176, R177, R195): one search for each, the last without MULTI, or one that misses
(log entry 246). -/
def Dev.countSweep (d : Dev) (t : GTable) (k : Nat) : Dev :=
  if k = 0 then d.countSearch t false
  else ((d.bump (.galeSearch t) k).bump (.galeHit t) k).countMulti (k - 1)

/-! ## Pools and charges (R48 to R51) -/

/-- Bytes of Drift that no session reserve holds, for `n` established sessions (R49). -/
def sharedDrift (n : Nat) : Nat := 17179869184 - n * 262144

/-- The pools in bytes (R49): each rounded down to whole MiB, the remainder joins the HIGH pool. -/
def poolSizes (shared shares : Nat) : Vector Nat 5 :=
  let mib := 1048576
  let p (c : Nat) : Nat := shared * unpackField 5 16 c shares / 1000 / mib * mib
  ⟨#[p 0, p 1, shared - (p 0 + p 1 + p 3 + p 4), p 3, p 4], rfl⟩

/-- Established sessions. -/
def Dev.liveSessions (d : Dev) : List Session := d.net.sessions.filter Session.live

/-- Recomputes the pools and tells every established session (R49, R57). -/
def Dev.recomputePools (d : Dev) : Dev :=
  let ps := poolSizes (sharedDrift d.liveSessions.length) (d.pnum P.transportPoolShares)
  let d1 := { d with net := { d.net with pools := ps } }
  d1.notifyAll .creditPool (fun _ => (ps.toList.map (fun x => natToBytesBE 4 (x / 1048576))).flatten)

/-- The pool a class borrows from: 5 to 15 borrow from LOW (R50). -/
def poolClass (cls : Nat) : Fin 5 := if h : cls < 5 then ⟨cls, h⟩ else 4

/-- Bytes borrowed from a pool. -/
def Net.poolUse (n : Net) (cls : Fin 5) : Nat :=
  ((n.charges.filter (fun c => c.borrowed && poolClass c.cls == cls)).map (·.len)).sum

/-- `len` more bytes fit in a pool (R49, R50). -/
def Net.poolFits (n : Net) (cls : Fin 5) (len : Nat) : Bool := decide (n.poolUse cls + len ≤ n.pools.get cls)

/-- Directory entries: a session has two in reserve, the rest form one pool (R49, R51). -/
def Net.reserveEntryFree (n : Net) (sid : BitVec 32) : Bool :=
  decide ((n.dirs.filter (fun c => c.sid == sid && c.reserve)).length < 2)
def Dev.sharedEntryFree (d : Dev) : Bool :=
  decide ((d.net.dirs.filter (fun c => !c.reserve)).length < 163840 - 2 * d.liveSessions.length)

/-- Frees the directory-entry charge of a capsule (R179). -/
def Dev.freeDir (d : Dev) (sid : BitVec 32) (start : Nat) : Dev :=
  { d with net := { d.net with dirs := d.net.dirs.filter (fun c => !(c.sid == sid && c.start == start)) } }

/-- Takes in the ranges that have ended at the head of the stream (R118). -/
def Session.absorb (s : Session) : Nat → Session
  | 0 => s
  | fuel + 1 =>
    match s.ended.find? (·.1 == s.seqPos) with
    | some (a, n) =>
        { s with seqPos := a + n, ended := s.ended.filter (fun e => e.1 != a) }.absorb fuel
    | none => s

/-- A capsule's charge ends: its length counts as released (R48, R50). The host hears of the new limit on the next packet. -/
def Dev.endCharge (d : Dev) (sid : BitVec 32) (start : Nat) : Dev :=
  match d.net.charges.find? (fun c => c.sid == sid && c.start == start) with
  | none => d
  | some c =>
    let d1 := { d with net := { d.net with
      charges := d.net.charges.filter (fun c => !(c.sid == sid && c.start == start)) } }
    d1.modSession sid (fun s => { s with released := s.released + c.len, ackDue := true })

/-- A capsule's range ends in the stream order: sequenced or refused (R118, R50). -/
def Dev.endRange (d : Dev) (sid : BitVec 32) (start len : Nat) : Dev :=
  d.modSession sid (fun s => { s with ended := (start, len) :: s.ended }.absorb (s.ended.length + 1))

/-! ## Capsules and replies -/

/-- The capsule of a session under a tag. -/
def Dev.capByTag (d : Dev) (sid tag : BitVec 32) : Option Cap := d.que.caps.find? (fun c => c.sid == sid && c.tag == tag)

/-- A final reply under a tag is being placed: bytes of it still wait to enter the reply stream (R68, R141). -/
def Dev.placing (d : Dev) (sid tag : BitVec 32) : Bool :=
  match d.session? sid with
  | some s => s.replyQ.any (fun b => b.final && b.tag == tag)
  | none => false

/-- Any reply under a tag is being placed, the final one or one before it (R141). -/
def Dev.placingAny (d : Dev) (sid tag : BitVec 32) : Bool :=
  match d.session? sid with
  | some s => s.replyQ.any (fun b => b.tag == tag)
  | none => false

/-- The sequenced capsule with an ingress sequence number. -/
def Dev.capBySeq (d : Dev) (seq : Nat) : Option Cap := d.que.caps.find? (fun c => c.seq == seq && seq != 0)

/-- Hands a capsule to Cumulus firmware; it keeps its sequence number, if it has one yet, and its place (R15, R186). -/
def Dev.handCap (d : Dev) (c : Cap) (why : FwCause) : Dev :=
  let e : Handed := ⟨c.sid, c.start, c.seq, why⟩
  if d.que.handed.contains e then d else { d with que := { d.que with handed := d.que.handed ++ [e] } }

/-- Hands a sequenced capsule to Cumulus firmware. -/
def Dev.handOver (d : Dev) (seq : Nat) (why : FwCause) : Dev :=
  match d.capBySeq seq with
  | some c => d.handCap c why
  | none => d

/-- Changes one capsule, named by its session and stream position. -/
def Dev.modCap (d : Dev) (c : Cap) (f : Cap → Cap) : Dev :=
  { d with que := { d.que with caps := d.que.caps.map (fun x => if x.sid == c.sid && x.start == c.start then f x else x) } }

/-- Removes one capsule. -/
def Dev.dropCap (d : Dev) (c : Cap) : Dev :=
  { d with que := { d.que with caps := d.que.caps.filter (fun x => !(x.sid == c.sid && x.start == c.start)),
                               handed := d.que.handed.filter (fun e => !(e.sid == c.sid && e.start == c.start)) } }

/-- DEFERRED_PENDING of a session (R73, R139). -/
def Session.deferredPending (s : Session) : Bool := !s.deferred.isEmpty

/-- Service time of a capsule (R72): µs from its stamp; 0 for one not sequenced. -/
def Dev.serviceTime (d : Dev) (c : Cap) : Nat := if c.seq == 0 then 0 else d.clk.tick - c.stamp

/-- The histogram of a capsule (R367): class and kind. -/
def histKind (op : BitVec 16) : Nat :=
  if [Op.get, Op.exists_, Op.scanPrefix].contains op then 0
  else if [Op.put, Op.casPut, Op.patch, Op.delete, Op.mpPart, Op.mpCommit].contains op then 1 else 2

/-- The bucket of a service time (R367). -/
def histBucket (t : Nat) : Nat := if t < 2 then 0 else min 20 (Nat.log2 t)

/-- Enters a finished capsule in its tenant's histogram: sequenced capsules of classes 1 to 4 (R367). -/
def Dev.enterHist (d : Dev) (c : Cap) : Dev :=
  if c.seq == 0 || c.hdr.cls == 0 then d
  else
    let h := 3 * (c.hdr.cls - 1) + histKind c.hdr.opcode
    (d.bump (.hist c.tenant h (histBucket (d.serviceTime c))) 1).bump (.histSum c.tenant h) (d.serviceTime c)

/-- Places a reply in its session's stream, if the session stands (R46, R75): it goes behind the replies already placed. -/
def Dev.placeBytes (d : Dev) (c : Cap) (r : Reply) : Dev :=
  match d.session? c.sid with
  | none => d
  | some s =>
    let b := r.encode c.tag s.deferredPending (d.serviceTime c)
    let d1 := (d.emitOut (.reply c.sid c.tag r.status r.version (!r.more) r.data)).modSession c.sid
      (fun s => { s with replyQ := s.replyQ ++ [⟨c.seq, c.tag, !r.more, c.hdr.cls, true, b⟩] })
    d1.pump c.sid

/-- A writer that is sequenced and not resolved. -/
def Cap.unresolved (c : Cap) : Bool := isWriter c.hdr.opcode && (c.stage == .sequenced || c.stage == .dispatched)

/-- The namespaces this drive leads. -/
def Mirror.led (m : Mirror) : List MirrorNs := m.nss.filter (·.lead)

/-- The `committed` value this drive sends (R286): every write up to it, in the mirrored namespaces led here, has reached its
completion point. -/
def Dev.committedOut (d : Dev) : Nat :=
  let mine (n : BitVec 12) : Bool := d.mir.led.any (·.ns == n)
  if d.mir.led.isEmpty then 0
  else
    let open_ := ((d.que.drift.filter (fun v => mine v.ns && !v.done)).map (·.seq)) ++
      ((d.que.caps.filter (fun c => c.unresolved && c.seq != 0 && mine c.hdr.ns)).map (·.seq))
    match open_ with
    | [] => d.que.nextSeq - 1
    | a :: rest => rest.foldl min a - 1

/-- The types of Crosswind frames (R286). -/
inductive CwType
  | hello | data | ack | heartbeat | close
  deriving DecidableEq, Repr
def CwType.num : CwType → Nat
  | .hello => 1
  | .close => 5
  | .data => 2
  | .ack => 3
  | .heartbeat => 4

/-- The stream of what belongs to no namespace (R286). -/
abbrev cwCtl : Nat := 0xFFFFFFFF

/-- The 64-byte header of a Crosswind frame (R286). -/
def Dev.cwHead (d : Dev) (t : CwType) (stream : Nat) : Bytes :=
  let m := d.mir
  natToBytesBE 1 t.num ++ natToBytesBE 1 1 ++ zeroBytes 2 ++ natToBytesBE 4 stream ++ natToBytesBE 8 m.txNext ++ natToBytesBE 8 m.rxCum ++
    natToBytesBE 8 (sackMask m.rxCum m.rxGot).toNat ++ natToBytesBE 8 m.epoch ++ natToBytesBE 8 (m.rxPos + Config.cwWindow) ++
    natToBytesBE 4 m.hbSeq ++ natToBytesBE 4 m.hbPeer ++ natToBytesBE 8 d.committedOut

/-- A frame outside a link, HELLO or CLOSE: the header, then the payload as it is (R286). It has PSN 0 and acknowledges nothing: DESIGN CHOICE,
log entry 218. -/
def Dev.cwBare (d : Dev) (t : CwType) (payload : Bytes) : Dev :=
  let d0 : Dev := { d with mir := { d.mir with txNext := 0, rxCum := 0, rxGot := [], rxPos := 0 } }
  d.emitOut (.cwFrame (d0.cwHead t cwCtl ++ payload))

/-- Sends one frame under the next PSN (R286): its header, and the payload sealed with the header as associated data. What goes on the stream of
a namespace counts against the partner's credit. -/
def Dev.cwFrame (d : Dev) (t : CwType) (stream : Nat) (payload : Bytes) : Dev :=
  let h := d.cwHead t stream
  let f := h ++ (match d.mir.keys with
    | some k => gcmSeal k.txKey (k.txIv ++ BitVec.ofNat 64 d.mir.txNext) h payload
    | none => payload)
  ({ d with mir := { d.mir with
    txNext := d.mir.txNext + 1, streamPos := d.mir.streamPos + (if stream = cwCtl then 0 else payload.length), unacked := d.mir.unacked ++ [⟨d.mir.txNext, d.clk.tick, false, false, f⟩] } } : Dev).emitOut (.cwFrame f)

/-- Sends a message in frames of consecutive PSNs, each full but the last (R286). -/
def Dev.cwSend (d : Dev) (t : CwType) (stream : Nat) (payload : Bytes) (o : Out) : Dev :=
  ((List.range (max 1 (ceilDiv payload.length 8192))).foldl (fun (d : Dev) (i : Nat) =>
    d.cwFrame t stream ((payload.drop (8192 * i)).take 8192)) d).emitOut o

/-- The header of a replication record (R293), with its key and its data. -/
def cwRecBytes (kind : Nat) (ns : BitVec 12) (version valueLength offset uploadId : Nat) (key data : Bytes) : Bytes :=
  natToBytesBE 1 kind ++ zeroBytes 1 ++ natToBytesBE 2 key.length ++ natToBytesBE 4 ns.toNat ++ natToBytesBE 8 version ++
    natToBytesBE 8 valueLength ++ natToBytesBE 8 offset ++ natToBytesBE 8 uploadId ++ natToBytesBE 8 data.length ++ key ++ data

/-- Answers a partner read over Crosswind; the length that an `EXISTS` reports travels as the data (log entry 65). -/
def Dev.cwAnswer (d : Dev) (id : Nat) (st : BitVec 16) (version : Nat) (data : Bytes) : Dev :=
  d.cwSend .data cwCtl (Config.cwBody 1 (natToBytesBE 8 id ++ natToBytesBE 2 st.toNat ++ natToBytesBE 8 version ++ data))
    (.cwReadReply id st version data)

/-- A capsule's final reply: placed, entered in the histogram, and the capsule is done; its tag is free (R68). A read executed
for the partner answers it over Crosswind (R297). -/
def Dev.finish (d : Dev) (c : Cap) (r : Reply) : Dev :=
  match c.partner with
  | some id => (d.cwAnswer id r.status r.version (match r.len with
      | some n => natToBytesBE 8 n
      | none => r.data)).dropCap c
  | none => ((d.placeBytes c r).enterHist c).dropCap c

/-- A capsule finishes and its byte and directory charges end with it (R48, R179): admin opcodes, readers, and writers that
failed. -/
def Dev.finishFree (d : Dev) (c : Cap) (r : Reply) : Dev :=
  ((d.finish c r).endCharge c.sid c.start).freeDir c.sid c.start

/-- Removes a wait for a pool. -/
def Dev.dropBorrow (d : Dev) (c : Cap) : Dev :=
  { d with net := { d.net with borrowQ := d.net.borrowQ.filter (fun w => !(w.sid == c.sid && w.start == c.start)) } }

/-- The range of an unsequenced capsule counts as released, whether it was charged or not (R50, R78). -/
def Dev.releaseUnsequenced (d : Dev) (c : Cap) : Dev :=
  let charged := d.net.charges.any (fun x => x.sid == c.sid && x.start == c.start)
  let d1 := ((d.dropBorrow c).endCharge c.sid c.start).freeDir c.sid c.start
  let d2 := if charged then d1
    else d1.modSession c.sid (fun s => { s with released := s.released + c.len, ackDue := true })
  d2.endRange c.sid c.start c.len

/-- Refuses a capsule before sequencing (R78): one reply with the status alone; its range is released and its tag free. -/
def Dev.refuse (d : Dev) (c : Cap) (st : BitVec 16) : Dev :=
  (((d.placeBytes c (Reply.plain st)).dropCap c).releaseUnsequenced c).modSession c.sid
    (fun s => { s with refused := (c.start, c.len) :: s.refused })

/-- Refuses a capsule and counts the check (R77). -/
def Dev.refuseAt (d : Dev) (c : Cap) (check : Nat) (st : BitVec 16) : Dev :=
  (d.bump (.capChk c.sid check) 1).refuse c st

/-! ## Units and limits (R121, R185) -/

/-- The floor of a tenant, 0 without a record. -/
def Dev.floorOf (d : Dev) (t : BitVec 32) : Nat :=
  match d.pol.tenants.find? (·.id == t) with
  | some r => r.floor
  | none => 0

/-- Units of a capsule (R121): at dispatch a `GET` is taken at its value_length, or 4,096. -/
def capUnits (h : Hdr) : Nat :=
  if [Op.put, Op.casPut, Op.patch, Op.mpPart].contains h.opcode then 1 + ceilDiv h.valueLen.toNat 4096
  else if h.opcode == Op.get then 1 + ceilDiv (if h.valueLen == 0 then 4096 else h.valueLen.toNat) 4096
  else 1

/-- Moves a counter by an amount of either sign; 64 bits, wrapping. -/
def Dev.adjust (d : Dev) (c : Ctr) (x : Int) : Dev := d.bump c (x % 2 ^ 64).toNat

/-- Changes a tenant's record (R185). -/
def Dev.modTenant (d : Dev) (t : BitVec 32) (f : Tenant → Tenant) : Dev :=
  { d with pol := { d.pol with tenants := d.pol.tenants.map (fun x => if x.id == t then f x else x) } }

/-- A number moved by an amount of either sign, no lower than 0. -/
def moveBy (n : Nat) (x : Int) : Nat := ((n : Int) + x).toNat

/-- A class whose queue is empty has no deficit (R122). -/
def Queue.trim (q : Queue) : Queue :=
  { q with deficit := Vector.ofFn (fun (i : Fin 3) =>
    if q.caps.any (fun c => c.stage == .sequenced && c.cls == i.val + 2) then q.deficit.get i else 0) }

/-- Adds an amount of either sign to a per-tenant figure of the window. -/
def addTenant (l : List (BitVec 32 × Nat)) (t : BitVec 32) (n : Int) : List (BitVec 32 × Nat) :=
  (t, moveBy ((l.lookup t).getD 0) n) :: l.filter (fun e => e.1 != t)

/-- Corrects the class and tenant units and the deficit of a dispatched `GET` by the units its reply proves to take, and the share
window's where that is the window of its dispatch (R121 to R123). -/
def Dev.correctUnits (d : Dev) (c : Cap) (x : Int) : Dev :=
  let d1 := (d.adjust (.classUnits c.cls) x).adjust (.tenantUnits c.tenant) x
  let y : Int := if c.window = d1.que.window then x else 0
  { d1 with que := { d1.que with
    winUrgent := if c.cls = 1 then moveBy d1.que.winUrgent y else d1.que.winUrgent,
    winAll := if c.cls = 0 then d1.que.winAll else moveBy d1.que.winAll y,
    deficit := if h : 2 ≤ c.cls ∧ c.cls ≤ 4 then d1.que.deficit.set (c.cls - 2) (moveBy (d1.que.deficit[c.cls - 2]'(by omega)) (-x)) (by omega)
      else d1.que.deficit }.trim }

/-- Payload bytes join the limit's bucket of a tenant after its capsule was admitted (R185). -/
def Dev.chargeBytes (d : Dev) (t : BitVec 32) (e : Int) : Dev :=
  d.modTenant t (fun t => if t.bytesLimit = 0 then t else { t with bytesLevel := t.bytesLevel - e })

/-- Corrects the payload bytes that count for a tenant's floor by those of the reply of its `GET` (R124, R185): in the window of its dispatch
while that lasts, in the one in which the reply is complete after it. -/
def Dev.correctPayload (d : Dev) (c : Cap) (e : Int) : Dev :=
  { d with que := { d.que with winTenant := addTenant d.que.winTenant c.tenant e } }

/-- Corrects the units, the payload and the limit charge of a `GET` once its reply is complete (R121, R185); one that was never dispatched
has no units. -/
def Dev.correctGet (d : Dev) (c : Cap) (n : Nat) : Dev :=
  if c.hdr.opcode == Op.get && c.seq != 0 then
    let x : Int := (1 + ceilDiv n 4096 : Nat) - (capUnits c.hdr : Nat)
    let e : Int := (n : Int) - (if c.hdr.valueLen == 0 then 4096 else c.hdr.valueLen.toNat : Nat)
    (if c.stage == .dispatched then (d.correctUnits c x).correctPayload c e else d).chargeBytes c.tenant e
  else d

/-! ## End of a session (R46) -/

/-- The status of the CLOSE for a cause (R46); none where no CLOSE is sent. -/
def closeStatus (cause : Nat) (state : Bool) : Option (BitVec 16) :=
  match cause with
  | 1 => some Status.ok
  | 4 | 5 | 6 => some Status.noCredit
  | 7 => some (if state then Status.sessionExpired else Status.noCredit)
  | 9 => some Status.authFailed
  | 14 => none
  | _ => some Status.sessionExpired

/-- A CLOSE payload: status and complement. -/
def closeBytes (st : BitVec 16) : Bytes := natToBytesBE 2 st.toNat ++ natToBytesBE 2 (~~~ st).toNat

/-- A pending deferred-error flag passes to every session of the tenant when its session ends (R139). -/
def Dev.passDeferred (d : Dev) (s : Session) : Dev :=
  if s.deferred.isEmpty then d
  else
    let d1 := { d with net := { d.net with sessions := d.net.sessions.map (fun (x : Session) =>
      if x.tenant == s.tenant && x.sid != s.sid then { x with deferred := (x.deferred ++ s.deferred).dedup } else x) } }
    { d1 with que := { d1.que with passed := (d1.que.passed ++ s.deferred).dedup } }

/-- Squashes the speculative reads that serve some capsules, cause 6 (R163): withdrawn where the die operation has not begun. -/
def Dev.squashEnded (d : Dev) (p : Nat → Bool) : Dev :=
  let hit (r : Read) : Bool := r.source.isSome && r.squashed.isNone && p r.seq
  let begun (r : Read) : Bool := d.med.running.any (·.id == r.id)
  let hits := d.med.reads.filter hit
  let gone := hits.filter (fun r => r.arrived.isNone && !begun r)
  let d1 := { d with med := { d.med with
    reads := (d.med.reads.filter (fun r => !(hit r && (r.arrived.isSome || !begun r)))).map (fun r =>
      if hit r then { r with squashed := some 6 } else r),
    waiting := d.med.waiting.filter (fun o => !gone.any (·.id == o.id)) } }
  let d2 := if hits.isEmpty then d1 else d1.bump (.squash 6) hits.length
  if gone.isEmpty then d2 else d2.bump (.drive .fcWithdrawn) gone.length

/-- Removes a session: its Gale entry, its keys, its charges, the capsules not yet sequenced, and the speculative reads of the others
(R46, R163). -/
def Dev.removeSession (d : Dev) (s : Session) : Dev :=
  let d0 := (d.passDeferred s).squashEnded (fun q => d.que.caps.any (fun c => c.sid == s.sid && c.seq == q))
  let unseq (c : Cap) : Bool := c.sid == s.sid && c.seq == 0
  { d0 with
    net := { d0.net with
      sessions := d0.net.sessions.filter (·.sid != s.sid),
      charges := d0.net.charges.filter (·.sid != s.sid),
      borrowQ := d0.net.borrowQ.filter (·.sid != s.sid),
      dirs := d0.net.dirs.filter (fun x =>
        x.sid != s.sid || d0.que.caps.any (fun c => c.sid == x.sid && c.start == x.start && c.seq != 0) ||
          d0.que.drift.any (fun v => v.sid == x.sid && v.start == x.start)) },
    que := { d0.que with caps := d0.que.caps.filter (fun c => !unseq c) },
    gale := d0.gale.remove .session (sessionWord s.addr s.uport) }

/-- Ends an established session for a cause of R46. `EV_SESSION_CLOSE` gives 0 as the CLOSE status of cause 14, where none is sent:
DESIGN CHOICE, log entry 182. -/
def Dev.endSession (d : Dev) (sid : BitVec 32) (cause : Nat) (state : Bool) : Dev :=
  match d.session? sid with
  | none => d
  | some s =>
    if s.live then
      let d1 := match closeStatus cause state with
        | some st => d.sendPacket sid .close 0 0 false false (closeBytes st) 0
        | none => d
      let d2 := d1.removeSession s
      let d3 := if [13, 14, 15].contains cause || d.pnum P.transportTombstoneS == 0 then d2
        else { d2 with net := { d2.net with tombs := ⟨s.sid, s.port, s.addr, s.uport⟩ :: d2.net.tombs } }
      (d3.raise Ev.sessionClose s.sid.toNat s.tenant.toNat ((closeStatus cause state).getD 0).toNat cause).recomputePools
    else d.removeSession s

/-- Ends every session for a cause; half-open ones are removed. -/
def Dev.endAll (d : Dev) (cause : Nat) : Dev := d.net.sessions.foldl (fun d s => d.endSession s.sid cause true) d

/-- Ends every session of a data port for a cause. -/
def Dev.endPort (d : Dev) (p : Port) (cause : Nat) : Dev :=
  (d.net.sessions.filter (·.port == p)).foldl (fun d s => d.endSession s.sid cause true) d

end Sys2Proof.Machine
end

