-- ==== Sys2Proof/Machine/Rungs.lean ====
section
/-! DEFINITION. The life cycle in force (R385, R387), the operating modes (R430 to R432), the rungs (R314 to R319) and the
capacitor limit (R327 to R329): what every other family asks about. -/

namespace Sys2Proof.Machine

/-! ## Life cycle (R387) -/

/-- A copy of the life-cycle record may be used. -/
def LcCopy.ok (c : LcCopy) : Bool := c.crcOk && twinOk c.state c.stateTwin && twinOk c.intent c.intentTwin

/-- The copy in use: the valid one with the higher sequence. -/
def Security.lcUse (s : Security) : Option (Fin 2) :=
  let a := s.lc.get 0
  let b := s.lc.get 1
  if a.ok && b.ok then some (if a.seq < b.seq then 1 else 0)
  else if a.ok then some 0 else if b.ok then some 1 else none

/-- The life-cycle encoding: state in bits [3:0], FINAL in bit 7; 0xFF when no copy is valid (R385). -/
def Security.lcByte (s : Security) : BitVec 8 :=
  match s.lcUse with
  | some i => (s.lc.get i).state
  | none => 0xFF

/-- The transition a stop has cut after its commit point. -/
def Security.intent (s : Security) : BitVec 8 :=
  match s.lcUse with
  | some i => (s.lc.get i).intent
  | none => 0

inductive LcState
  | blank | provisioned | owned | decommissioned | retired | invalid
  deriving DecidableEq, Repr

/-- The life-cycle state (R385). -/
def Security.lcState (s : Security) : LcState :=
  if s.lcByte == 1 then .blank else if s.lcByte == 2 then .provisioned else if s.lcByte == 3 then .owned
  else if s.lcByte == 4 then .decommissioned else if s.lcByte == 0x84 then .retired else .invalid

/-- Writes a new record into both copies, each with the next sequence (R387, R388). -/
def Security.writeLc (s : Security) (state intent : BitVec 8) : Security :=
  let q := max (s.lc.get 0).seq (s.lc.get 1).seq + 1
  let c : LcCopy := { state := state, stateTwin := ~~~ state, seq := q, intent := intent, intentTwin := ~~~ intent, crcOk := true }
  { s with lc := ⟨#[c, { c with seq := q + 1 }], rfl⟩ }

/-- The credential is an operator's. -/
def Dev.isOperator (d : Dev) (id : BitVec 32) : Bool := d.sec.creds.any (fun c => c.id == id && c.operator)

/-- The provisioning credential's ID (R378). -/
abbrev provisioningId : BitVec 32 := 0xFFFFFFFF

/-! ## Modes (R430, R431) -/

/-- Bays of a state. -/
def Dev.baysIn (d : Dev) (p : BayState → Bool) : List BayNo := (List.finRange 4).filter (fun b => p (d.bays.get b).state)

/-- A bay whose cartridge is in service for reading and writing: IN_SERVICE, or EVACUATING until it is empty (R247). -/
def Dev.inService (d : Dev) (b : BayNo) : Bool :=
  (d.bays.get b).state == .inService || (d.bays.get b).state == .evacuating

/-- User capacity: 56 TB for each cartridge in service (R3). One that is EVACUATING still counts: DESIGN CHOICE, log entry 220. -/
def Dev.userCapacity (d : Dev) : Nat := 56000000000000 * (d.baysIn (fun s => s == .inService || s == .evacuating)).length

/-- A cartridge in service has no spare blocks left (R223, R430). It counts until it is released (R253). -/
def Dev.readOnlyHolds (d : Dev) : Bool :=
  (List.finRange 4).any (fun b => (d.inService b || (d.bays.get b).state == .evacuated || (d.bays.get b).state == .releasing) &&
    (d.bays.get b).spare == 0)

/-- The cartridge a bucket counts on: a bucket on the move still counts where it moves from (R253). -/
def Bucket.on (b : Bucket) (bay : BayNo) : Bool := b.movingFrom.getD b.home == bay

/-- Some bucket has its home on a bay (R247). -/
def Dev.homesOn (d : Dev) (b : BayNo) : Bool := d.idx.buckets.any (fun k => k.on b)

/-- A die group of a cartridge in service holds two failed dies whose rebuild is incomplete (R221). -/
def Dev.diePairHolds (d : Dev) : Bool :=
  (List.finRange 4).any (fun b => d.inService b &&
    (d.bays.get b).failedDies.any (fun x => !x.2 &&
      decide (2 ≤ ((d.bays.get b).failedDies.filter (fun y => y.1 / 32 == x.1 / 32 && !y.2)).length)))

/-- A bay that still holds homes is MISSING or FAILED, or a die group is a pair short (R430). -/
def Dev.degradedHolds (d : Dev) : Bool :=
  (List.finRange 4).any (fun b => ((d.bays.get b).state == .missing || (d.bays.get b).state == .failed) && d.homesOn b) ||
    d.diePairHolds

/-- A drive-scope BLOCK sanitise is between its acceptance point and its end (R430). -/
def Dev.sanitiseModeHolds (d : Dev) : Bool := d.sec.sanitise.any (fun r => r.scope == 2 && r.action == 2 && r.state == 2)

/-- The mode the drive reports (R430, R431). -/
def Dev.modeNow (d : Dev) : Nat :=
  if d.par.run = .recovery then 1
  else match d.sec.lcState with
    | .retired => 8
    | .owned =>
      if d.sanitiseModeHolds then 7
      else if d.readOnlyHolds then 5
      else if d.degradedHolds then 4
      else if !(d.baysIn (fun s => s == .evacuating || s == .releasing || s == .quiesced)).isEmpty then 6
      else 3
    | _ => 2

/-- Reports a change of mode (R431): MODE_CHANGE to every established session and `EV_MODE_CHANGE` with its cause. -/
def Dev.refreshMode (d : Dev) (cause : Nat) : Dev :=
  let m := d.modeNow
  if m == d.par.mode then d
  else
    let old := d.par.mode
    let d1 := { d with par := { d.par with mode := m } }
    (d1.notifyAll .modeChange (fun _ => natToBytesBE 4 old ++ natToBytesBE 4 m)).raise Ev.modeChange old m cause 0

/-- The cause of a change of mode for which no rule names the occasion (log entry 6): the one of `EV_MODE_CHANGE` that goes with the
mode entered or left. -/
def modeCause (old new : Nat) : Nat :=
  if old == 1 || new == 1 then 6
  else if old == 2 || new == 2 || old == 8 || new == 8 then 1
  else if old == 7 || new == 7 then 5
  else if old == 5 || new == 5 then 3
  else if old == 4 || new == 4 then 2
  else 4

/-- The drive has a mode to report: it runs, or is in Recovery. Before and during a start the mode of before stands (log entry 6). -/
def Dev.reports (d : Dev) : Bool := d.par.run == .running || d.par.run == .recovery

/-- Reports the mode if it changed (R431). -/
def Dev.reportMode (d : Dev) : Dev := if d.reports then d.refreshMode (modeCause d.par.mode d.modeNow) else d

/-- Takes a command's effect on the drive, everything but the queue; a change of mode it brings is reported (R431). -/
def State.run (s : State) (f : Dev → Dev) : Host.Outcome State Fault Refusal :=
  .next { s with dev := (f s.dev).reportMode }

/-- The outcome of check 15 for an opcode in a mode (R432): nothing when it is executed. `log`: the log a READ_LOG names. -/
def modeRefusal (mode : Nat) (readOnly : Bool) (op : BitVec 16) (log : Nat) : Option (BitVec 16) :=
  let w (b : Bool) : Option (BitVec 16) := if b then some Status.wrongMode else none
  let unowned := mode == 2
  let san := mode == 7
  let ret := mode == 8
  if [Op.get, Op.exists_, Op.scanPrefix, Op.mpCancel, Op.flush].contains op then w (unowned || san || ret)
  else if isWrite15 op then
    if unowned || san || ret then some Status.wrongMode else if readOnly then some Status.readOnly else none
  else if [Op.abort, Op.identify, Op.attest].contains op then none
  else if op == Op.readLog then w (ret && !([1, 3, 6, 9].contains log))
  else if [Op.nsCreate, Op.nsDelete, Op.policyWrite, Op.ringLoad, Op.mirrorCtl].contains op then w (unowned || san || ret)
  else if [Op.format, Op.sanitise, Op.cartEvacuate, Op.cartRelease].contains op then w (unowned || ret)
  else w ret

/-! ## Time sources (R349) -/

/-- Rank of a time source. -/
def TimeSource.rank : TimeSource → Nat
  | .ptpLocked => 1
  | .ptpHoldover => 2
  | .host => 3
  | .rtc => 4
  | .persisted => 5

/-- Puts a time source in use, with the correction it brings in ms; a change is an event. -/
def Dev.setSource (d : Dev) (s : TimeSource) (ms : Int) : Dev :=
  if d.clk.source = s then d
  else ({ d with clk := { d.clk with source := s } } : Dev).raise Ev.timeSource s.rank d.clk.source.rank (ms % 2 ^ 32).toNat 0

/-- Writes the persisted time to the SPI NOR (R349). -/
def Dev.persistTime (d : Dev) : Dev :=
  { d with clk := { d.clk with persisted := d.clk.ns, persistedAt := some d.clk.tick } }

/-! ## Rungs (R314 to R319) -/

/-- A rung's value (R314). -/
def Rung.num : Rung → Nat
  | .clear => 0
  | .haze => 1
  | .fog => 2
  | .frost => 3
  | .glaze => 4

/-- Rated internal exit time in µs (R319). -/
def ratedExit : Rung → Nat
  | .clear => 0
  | .haze => 25
  | .fog => 250
  | .frost => 60000
  | .glaze => 2600000

/-- Index of a rung's exit measurements. -/
def exitSlot : Rung → Fin 4
  | .clear | .haze => 0
  | .fog => 1
  | .frost => 2
  | .glaze => 3

/-- Internal exit time: the largest of the last 16, or the rated figure (R319). -/
def Power.internalExit (p : Power) (r : Rung) : Nat :=
  match p.exits.get (exitSlot r) with
  | [] => ratedExit r
  | l => l.foldl max 0

/-- Advertised exit latency in µs of a rung for a data port (R319). -/
def Dev.advertised (d : Dev) (r : Rung) (p : Port) : Nat :=
  let link := (d.net.links.get p.castSucc).linkUpUs
  match r with
  | .clear => 0
  | .haze | .fog => d.pow.internalExit r
  | .frost | .glaze => d.pow.internalExit r + (if link == 0 then 1000000 else link)

/-- A RUNG_CHANGE to every session with the figure of its port (R56, R319). -/
def Dev.rungNotice (d : Dev) (r : Rung) : Dev :=
  d.notifyAll .rungChange (fun s => natToBytesBE 4 r.num ++ natToBytesBE 4 (d.advertised r s.port))

/-- Records a measured exit: the model takes no time for it, so the figure is a free value (log entry 2). -/
def Dev.measureExit (d : Dev) (r : Rung) : Nat × Dev :=
  let (v, d1) := d.draw
  let us := v.toNat % 2 ^ 32
  let l := (us :: d1.pow.exits.get (exitSlot r)).take 16
  (us, { d1 with pow := { d1.pow with exits := d1.pow.exits.set (exitSlot r) l } })

/-- The drive wakes from Haze or Fog to Clear (R317 to R319); `trigger` is the row of R318. -/
def Dev.wakeLight (d : Dev) (trigger : Nat) : Dev :=
  if d.pow.rung = .haze ∨ d.pow.rung = .fog then
    let r := d.pow.rung
    let (us, d1) := d.measureExit r
    let d2 := { d1 with pow := { d1.pow with rung := .clear } }
    let d3 := (d2.rungNotice .clear).raise Ev.rungExit r.num trigger us 0
    d3.net.sessions.foldl (fun d s => d.pump s.sid) d3
  else d

/-- The drive takes frames on its data ports: running and the link up (R314). -/
def Dev.hears (d : Dev) (p : Port) : Bool := d.par.run == .running && d.portUp p

/-! ## Capacitor limit (R327 to R329) -/

/-- Usable energy in µJ for a capacitance in µF, an ESR in mΩ and a start voltage in 10 mV (R328). -/
def usableEnergy (c esr v : Nat) : Nat :=
  let lo := 9000 + 8 * esr
  45 * c * (v * v * 100 - lo * lo) / 100000000

/-- Usable energy in mJ at 30.0 V. -/
def Bank.energyMj (b : Bank) : Nat := usableEnergy b.capacitance b.esr 3000 / 1000

/-- The capacitor limit in MiB from an energy in µJ: min(6 GiB, (E/1.5 − 2.0 J) / 2.53 J per GiB) in whole MiB (R328). -/
def capLimitMib (e : Nat) : Nat := min 6144 ((e * 2 / 3 - 2000000) * 1024 / 2530000)

/-- A value's chunks, in bytes (R87, R133). -/
def chunkBytes (n : Nat) : Nat := 4096 * ceilDiv n 4096

/-- Bytes of a buffered version for R133: its chunks and a journal record. -/
def Version.earlyBytes (v : Version) : Nat :=
  (match v.content with
    | some b => chunkBytes b.length
    | none => 0) + 4096

/-- The early-acknowledge content in bytes (R133). -/
def Queue.earlyContent (q : Queue) : Nat := ((q.drift.filter (fun v => v.early && !v.onMedium)).map Version.earlyBytes).sum

/-- `P` of R329 in bytes: writers not acknowledged early and not on medium that precede an early one on their key. -/
def Queue.earlyPredecessors (q : Queue) : Nat :=
  ((q.drift.filter (fun v => !v.early && !v.onMedium &&
    q.drift.any (fun w => w.early && !w.onMedium && w.ns == v.ns && w.hash == v.hash && decide (v.seq < w.seq)))).map
    Version.earlyBytes).sum

/-- Vane's derived limit in bytes: the capacitor limit less P (R329). -/
def Dev.derivedLimit (d : Dev) : Nat :=
  capLimitMib (usableEnergy d.pow.bank.capacitance d.pow.bank.esr 3000) * 1048576 - d.que.earlyPredecessors

/-- The effective early-acknowledge limit in bytes (R133). -/
def Dev.earlyLimit (d : Dev) : Nat := min (d.pnum P.queueEarlyAckLimit) d.derivedLimit

/-- Early acknowledgement is possible: the parameter is 1 and the capacitor state HEALTHY (R132, R134). -/
def Dev.earlyPossible (d : Dev) : Bool := d.pflag P.queueEarlyAckEnable && d.pow.bank.state == .healthy

/-- Reports that early acknowledgement became possible or ceased to be (R134). -/
def Dev.refreshEarly (d : Dev) : Dev :=
  if d.earlyPossible && !d.que.earlyOn then
    { d with que := { d.que with earlyOn := true } }.raise Ev.earlyAckOn (d.earlyLimit / 1048576) 0 0 0
  else if !d.earlyPossible && d.que.earlyOn then
    let cause := if !d.pflag P.queueEarlyAckEnable then 1 else if d.pow.bank.state == .untested then 2 else 3
    { d with que := { d.que with earlyOn := false } }.raise Ev.earlyAckOff cause (d.que.earlyContent / 1048576) 0 0
  else d

end Sys2Proof.Machine
end

