-- ==== Sys2Proof/Machine/Assembly.lean ====
section
/-! DEFINITION. Capsule assembly: the segments of the capsule stream (R47, R58 checks 11 to 13), checks 1 to 12 of R77, the byte
and entry charges (R48 to R52). -/

namespace Sys2Proof.Machine

/-- The bytes held without a gap from capsule-relative position `pos`. -/
def joinSegs (segs : List (Nat × Bytes)) (pos : Nat) : Nat → Bytes
  | 0 => []
  | fuel + 1 =>
    match segs.find? (·.1 == pos) with
    | some (_, b) => if b.isEmpty then [] else b ++ joinSegs segs (pos + b.length) fuel
    | none => []

/-- The capsule's bytes received without a gap. -/
def Cap.bytes (c : Cap) : Bytes := joinSegs c.segs 0 c.segs.length

/-- A capsule as its first segment shows it. -/
def newCap (s : Session) (seg : Segment) (h : Hdr) : Cap :=
  { sid := s.sid, tag := h.tag, start := seg.offset, len := h.len, hdr := h, segs := [(0, seg.bytes)], hdrChecked := false,
    stage := .receiving, awaitBorrow := false, awaitDir := false, delayed := false, slcWait := false, hotWait := false, tenant := s.tenant, key := [], value := [],
    checks := [], seq := 0, stamp := 0, cls := h.cls, limitPaid := false, tokenChecked := false, pageWait := false, captured := none, tokenStale := false, cursor := 0, visited := 0, replies := 0,
    window := 0, shown := [], copied := none, abortOf := none, forwarded := false, partner := none }

/-- A twin of the header disagrees: `EV_HDR_TWIN_MISMATCH` (R82). -/
def Dev.twinEvent (d : Dev) (sid tag : BitVec 32) (field : Nat) : Dev :=
  d.raiseHeld Ev.hdrTwinMismatch sid.toNat (fun n => (sid.toNat, tag.toNat, field, n))

/-! ## Pacing (R52, R193) -/

/-- Gale operations that a credit extension is charged in advance (R52). -/
def extensionOps (h : Hdr) (segSize : Nat) : Nat := ceilDiv h.len segSize + 1 + (if isWrite h.opcode then 2 else 1)

/-- Gale operations per second that credit extension may use: 90 % of the step rate. -/
def Dev.gateBudget (d : Dev) : Nat := d.gale.step * 900000

/-- The share of a tenant with a floor (R193). -/
def Dev.floorShare (d : Dev) (floor : Nat) : Nat := d.gateBudget * floor / d.pnum P.galeFloorReferenceMbps

/-- What is left for the tenants without floors. -/
def Dev.openShare (d : Dev) : Nat := d.gateBudget - (d.pol.tenants.map (fun t => d.floorShare t.floor)).sum

/-- The account a tenant's extensions are charged to: its own, or the one that tenants without floors share. -/
def Dev.paceKey (d : Dev) (t : BitVec 32) : BitVec 32 := if d.floorOf t = 0 then 0 else t

/-- What an account may charge in a second. -/
def Dev.paceShare (d : Dev) (t : BitVec 32) : Nat := if d.floorOf t = 0 then d.openShare else d.floorShare (d.floorOf t)

/-- Charges a credit extension against its share, or reports that pacing binds (R52). The budget is spent within each whole second of
the tick: DESIGN CHOICE, log entry 184. -/
def Dev.pace (d : Dev) (t : BitVec 32) (ops : Nat) : Bool × Dev :=
  let sec := d.clk.tick / 1000000
  let acc := if d.net.pacedSec == sec then d.net.paced else []
  let used := (acc.lookup (d.paceKey t)).getD 0
  if used + ops ≤ d.paceShare t then
    (true, { d with net := { d.net with
      pacedSec := sec, paced := (d.paceKey t, used + ops) :: acc.filter (fun e => e.1 != d.paceKey t) } })
  else if d.net.pacedRaised then (false, d)
  else
    (false, { d with net := { d.net with pacedRaised := true } }.raise Ev.creditPaced d.gale.step
      (d.gateBudget / 1000000) 0 0)

/-! ## Charges (R48 to R51) -/

/-- Charges a capsule's length. -/
def Dev.addCharge (d : Dev) (c : Cap) (borrowed : Bool) : Dev :=
  { d with net := { d.net with charges := ⟨c.sid, c.start, c.len, c.hdr.cls, borrowed⟩ :: d.net.charges } }

/-- `L` fits in the free part of the session's reserve (R50). -/
def Net.reserveFits (n : Net) (sid : BitVec 32) (len : Nat) : Bool := decide (n.chargeSum sid false + len ≤ 262144)

/-- A write takes a directory entry, of its session's reserve first (R51); nothing when neither is free. -/
def Dev.takeEntry (d : Dev) (c : Cap) : Option Dev :=
  if isWrite c.hdr.opcode then
    if d.net.reserveEntryFree c.sid then some { d with net := { d.net with dirs := ⟨c.sid, c.start, true⟩ :: d.net.dirs } }
    else if d.sharedEntryFree then some { d with net := { d.net with dirs := ⟨c.sid, c.start, false⟩ :: d.net.dirs } }
    else none
  else some d

/-! ## Checks 8 to 12 of R77 -/

/-- Check 12: the capsule is assembled, or waits for an entry. -/
def Dev.admitWrite (d : Dev) (c : Cap) : Dev :=
  match d.takeEntry c with
  | some d1 => d1.modCap c (fun x => { x with stage := .assembled, awaitDir := false })
  | none => d.modCap c (fun x => { x with awaitDir := true })

/-- HOST_CRC fails before sequencing (R65). -/
def Cap.valueBad (c : Cap) : Bool :=
  c.hdr.flag Flag.hostCrc && crcBefore c.hdr.opcode && crc64 c.value != c.hdr.valueCrc

/-- Checks 11 and 12: the capsule is received; a write's chunk checks are computed as its value is reassembled (R261). -/
def Dev.received (d : Dev) (c : Cap) (bs : Bytes) : Dev :=
  let v := bs.drop (96 + c.hdr.keyLen.toNat)
  let c1 := { c with segs := [], hdrChecked := true, key := (bs.drop 96).take c.hdr.keyLen.toNat, value := v,
                     checks := if crcBefore c.hdr.opcode then chunkChecks v else [] }
  if c1.valueBad then
    (d.raiseHeld Ev.valueCrc c.sid.toNat (fun _ =>
      (c.sid.toNat, c.tag.toNat, c.hdr.opcode.toNat, (crc64 c1.value).toNat))).refuseAt c 11 Status.crcMismatch
  else (d.modCap c (fun _ => c1)).admitWrite c1

/-- header_crc as computed (R64). -/
def headerCrc (c : Cap) (bs : Bytes) : BitVec 32 := crc32c (bs.take 88 ++ (bs.drop 96).take c.hdr.keyLen.toNat)

/-- Flags and namespace bits of check 10 (R62, R66, R67). -/
def fieldsOk (h : Hdr) : Bool :=
  classOk h.opcode h.cls && decide (h.nsWord.toNat < 4096) &&
    (match opRow h.opcode with
      | some r => h.flags &&& ~~~ r.flags == 0
      | none => false)

/-- Checks 8 to 12 of R77, as far as the bytes received allow; a capsule that waits for its pool has not passed check 7. -/
def Dev.capChecks (d : Dev) (c : Cap) : Dev :=
  let bs := c.bytes
  if c.awaitBorrow || c.stage != .receiving || c.awaitDir || decide (bs.length < 96 + c.hdr.keyLen.toNat) then d
  else if !c.hdrChecked && headerCrc c bs != c.hdr.hdrCrc then
    (d.raiseHeld Ev.hdrCrc c.sid.toNat (fun _ =>
      (c.sid.toNat, c.tag.toNat, c.hdr.hdrCrc.toNat, (headerCrc c bs).toNat))).refuseAt c 8 Status.crcMismatch
  else if !c.hdrChecked && !twinOk c.hdr.nsWord c.hdr.nsTwin then
    (d.twinEvent c.sid c.tag 2).refuseAt c 9 Status.hdrTwinMismatch
  else if !c.hdrChecked && !fieldsOk c.hdr then d.refuseAt c 10 Status.badField
  else if bs.length == c.len then d.received c bs
  else d.modCap c (fun x => { x with hdrChecked := true })

/-- Check 7: the capsule is charged to the reserve, borrows, waits for its pool, or is refused (R50). -/
def Dev.chargeCap (d : Dev) (s : Session) (c : Cap) : Dev :=
  let put (d : Dev) (x : Cap) : Dev := { d with que := { d.que with caps := d.que.caps ++ [x] } }
  if d.net.reserveFits c.sid c.len then ((put d c).addCharge c false).capChecks c
  else if 262144 + d.net.pools.get (poolClass c.hdr.cls) < c.len then
    (d.bump (.session c.sid .borrowRefused) 1).refuseAt c 7 Status.noCredit
  else
    let wait (d : Dev) : Dev :=
      put { d with net := { d.net with borrowQ := d.net.borrowQ ++ [⟨c.sid, c.start, c.len, c.hdr.cls⟩] } }
        { c with awaitBorrow := true }
    if d.net.borrowQ.any (fun w => poolClass w.cls == poolClass c.hdr.cls) || !d.net.poolFits (poolClass c.hdr.cls) c.len then
      wait d
    else match d.pace c.tenant (extensionOps c.hdr s.segSize) with
      | (true, d1) => (((put d1 c).addCharge c true).sendAck c.sid).capChecks c
      | (false, d1) => wait d1

/-! ## Checks 12 and 13 of R58 -/

/-- Key and carried lengths within the opcode's limits, check 5 (R70, R71, R103). -/
def lengthsOk (r : OpRow) (h : Hdr) : Bool :=
  decide (r.keyLo ≤ h.keyLen.toNat) && decide (h.keyLen.toNat ≤ r.keyHi) &&
    (!r.carries || (decide (r.cLo ≤ h.carried) && decide (h.carried ≤ r.cHi))) && scanLenOk h

/-- The segment rules of R47 for a first segment, which carries bytes of one capsule only. -/
def firstSegOk (segSize len : Nat) (seg : Segment) : Bool :=
  decide (seg.bytes.length ≤ segSize) && decide (seg.bytes.length ≤ len) &&
    (seg.bytes.length == segSize || seg.bytes.length == len) && (seg.last == (seg.bytes.length == len))

/-- The rules of check 13 for a later segment. -/
def laterSegOk (segSize stop : Nat) (seg : Segment) : Bool :=
  !seg.first && (seg.bytes.length == segSize || seg.offset + seg.bytes.length == stop) &&
    decide (seg.bytes.length ≤ segSize) && decide (seg.offset + seg.bytes.length ≤ stop) &&
    (seg.last == (seg.offset + seg.bytes.length == stop))

/-- The session's port counts a segment fault. -/
def Dev.segFault (d : Dev) (s : Session) : Dev := d.bump (.port s.port .segmentErr) 1

/-- Refuses a capsule whose segments break R47: `rx_segment_err` counts it and no check of R77 does (R58 checks 12 and 13). -/
def Dev.segRefuse (d : Dev) (s : Session) (c : Cap) : Dev := (d.segFault s).refuse c Status.badLength

/-- Checks 3 to 7 of R77 on a first segment that has passed checks 1 and 2. -/
def Dev.firstChecks (d : Dev) (s : Session) (seg : Segment) (c : Cap) : Dev :=
  if !twinOk c.hdr.opcode c.hdr.opcodeTwin then (d.twinEvent c.sid c.tag 1).refuseAt c 3 Status.hdrTwinMismatch
  else match opRow c.hdr.opcode with
    | none => d.refuseAt c 4 Status.badOpcode
    | some r =>
      if !lengthsOk r c.hdr then d.refuseAt c 5 Status.badLength
      else if !firstSegOk s.segSize c.len seg then d.segRefuse s c
      else if (d.capByTag c.sid c.tag).isSome || d.placing c.sid c.tag || (c.hdr.opcode == Op.abort && c.hdr.offset.setWidth 32 == c.tag) then
        d.refuseAt c 6 Status.tagInUse
      else d.chargeCap s c

/-- Check 13 of R58 on a later segment of a capsule not yet sequenced. -/
def Dev.laterSegment (d : Dev) (s : Session) (c : Cap) (seg : Segment) : Dev :=
  if !laterSegOk s.segSize (c.start + c.len) seg then d.segRefuse s c
  else if c.stage == .receiving then
    let c1 := { c with segs := c.segs ++ [(seg.offset - c.start, seg.bytes)] }
    (d.modCap c (fun _ => c1)).capChecks c1
  else d

/-- The capsule not yet sequenced whose range a position lies in. -/
def Dev.capAt (d : Dev) (sid : BitVec 32) (pos : Nat) : Option Cap :=
  d.que.caps.find? (fun c => c.sid == sid && c.seq == 0 && decide (c.start ≤ pos) && decide (pos < c.start + c.len))

/-- A further segment of a refused capsule is discarded; one that breaks the rules of check 13 is counted (R50, R58). -/
def Dev.refusedSegment (d : Dev) (s : Session) (r : Nat × Nat) (seg : Segment) : Dev :=
  if laterSegOk s.segSize (r.1 + r.2) seg then d else d.segFault s

/-- The range of a refused capsule that holds a position past its first byte. -/
def Session.refusedAt (s : Session) (pos : Nat) : Option (Nat × Nat) :=
  s.refused.find? (fun e => decide (e.1 < pos) && decide (pos < e.1 + e.2))

/-- A position whose capsule is sequenced or refused: its segments are acknowledged and discarded (R50). -/
def Session.past (s : Session) (pos : Nat) : Bool :=
  decide (pos < s.seqPos) || s.ended.any (fun e => decide (e.1 ≤ pos) && decide (pos < e.1 + e.2))

/-- Check 12 of R58: a first segment. Of two length twins that disagree `EV_HDR_TWIN_MISMATCH` names the key's: DESIGN CHOICE, log
entry 183. -/
def Dev.firstSegment (d : Dev) (s : Session) (seg : Segment) : Dev :=
  let h := Hdr.parse seg.bytes
  if h.magic != 0x4657 || h.version != 1 || h.hdrLen != 12 then (d.segFault s).endSession s.sid 6 true
  else if !twinOk h.keyLen h.keyLenTwin || !twinOk h.valueLen h.valueLenTwin then
    ((d.segFault s).twinEvent s.sid h.tag (if twinOk h.keyLen h.keyLenTwin then 4 else 3)).endSession s.sid 6 true
  else
    let stop := seg.offset + h.len
    let mine (e : Segment) : Bool := decide (seg.offset ≤ e.offset) && decide (e.offset < stop)
    let d1 := (d.modSession s.sid (fun x => { x with early := x.early.filter (fun e => !mine e) })).firstChecks s seg
      (newCap s seg h)
    (s.early.filter mine).foldl (fun d e =>
      match d.session? s.sid, d.capAt s.sid e.offset with
      | some s1, some c => d.laterSegment s1 c e
      | some s1, none => match s1.refusedAt e.offset with
        | some r => d.refusedSegment s1 r e
        | none => d
      | none, _ => d) d1

/-- A segment of the capsule stream. -/
def Dev.assemble (d : Dev) (s : Session) (seg : Segment) : Dev :=
  match d.capAt s.sid seg.offset with
  | some c => d.laterSegment s c seg
  | none =>
    match s.refusedAt seg.offset with
    | some r => d.refusedSegment s r seg
    | none =>
    if s.past seg.offset then d
    else if seg.first then d.firstSegment s seg
    else d.modSession s.sid (fun x => { x with early := x.early ++ [seg] })

/-! ## Waiting capsules -/

/-- The first capsule that waits for a pool borrows, if it fits and pacing allows (R50, R52). -/
def Dev.grantBorrow (d : Dev) (cls : Fin 5) : Dev :=
  match d.net.borrowQ.find? (fun w => poolClass w.cls == cls) with
  | none => d
  | some w =>
    match d.que.caps.find? (fun c => c.sid == w.sid && c.start == w.start), d.session? w.sid with
    | some c, some s =>
      if d.net.poolFits cls w.len then
        match d.pace c.tenant (extensionOps c.hdr s.segSize) with
        | (true, d1) =>
          let c1 := { c with awaitBorrow := false }
          ((((d1.dropBorrow c).modCap c (fun _ => c1)).addCharge c true).sendAck c.sid).capChecks c1
        | (false, d1) => d1
      else d
    | _, _ => d

/-- A capsule that waits for its pool or for an entry is refused with `NO_CREDIT` (R50, R51). -/
def Dev.expireBorrow (d : Dev) (sid tag : BitVec 32) : Dev :=
  match d.capByTag sid tag with
  | none => d
  | some c =>
    if c.awaitBorrow then (d.bump (.session sid .borrowRefused) 1).refuseAt c 7 Status.noCredit
    else if c.awaitDir then d.refuseAt c 12 Status.noCredit
    else d

/-- A capsule that waits for a directory entry takes one, if one is free (R51). -/
def Dev.grantEntry (d : Dev) (sid tag : BitVec 32) : Dev :=
  match d.capByTag sid tag with
  | none => d
  | some c => if c.awaitDir then d.admitWrite c else d

end Sys2Proof.Machine
end

