-- ==== Sys2Proof/Machine/Flash.lean ====
section
/-! DEFINITION. Flash geometry and allocation (R197 to R203, R207, R209 to R212, R215), the programs, erases and the governor
(R232, R233), block retirement (R222, R223). -/

namespace Sys2Proof.Machine

/-! ## Geometry -/

/-- Changes one bay. -/
def Dev.modBay (d : Dev) (b : BayNo) (f : Bay → Bay) : Dev := { d with bays := d.bays.set b (f (d.bays.get b)) }

/-- Positions of a die group whose die has not failed (R201, R221). Die `32 * g + p` is the die at position `p` of group `g`. -/
def Bay.liveDies (b : Bay) (group : Nat) : List Nat :=
  (List.range 32).filter (fun p => !b.failedDies.any (fun x => x.1 == 32 * group + p))

/-- The dies that carry a band's rows: those live when it was opened; of a band not in use, those live now. -/
def Bay.rowDies (b : Bay) (group block : Nat) : List Nat :=
  match b.bands.find? (fun x => x.group == group && x.block == block) with
  | some x => x.dies
  | none => b.liveDies group

/-- The position of the parity page of a row (R201); after a die failure the same rotation over the live dies (R221). -/
def Bay.parityDie (b : Bay) (group block : Nat) : Nat :=
  let l := b.rowDies group block
  l.getD (block % max 1 l.length) 0

/-- The data dies of a band, ascending (R202). -/
def Bay.dataDies (b : Bay) (group block : Nat) : List Nat := (b.rowDies group block).filter (· != b.parityDie group block)

/-- A location (R203). -/
def locOf (bay channel die plane block page slot : Nat) : Nat :=
  2 ^ 47 + bay * 2 ^ 45 + channel * 2 ^ 42 + die * 2 ^ 37 + plane * 2 ^ 35 + block * 2 ^ 24 + page * 2 ^ 12 + slot * 2 ^ 10

/-- The places of four positions that a page of a band has: die position and plane, in write order (R202). -/
def cellsOf (dies : List Nat) : List (Nat × Nat) := dies.flatMap (fun p => [(p, 0), (p, 1), (p, 2), (p, 3)])

/-- The page and the place of a number of places from page `page` on; a gap takes its place out of every page from its own on (R219). -/
def cellAt : List (Nat × Nat × Nat) → List (Nat × Nat) → Nat → Nat → Nat × Nat × Nat
  | [], cells, page, c => (page + c / max 1 cells.length, cells.getD (c % max 1 cells.length) (0, 0))
  | g :: rest, cells, page, c =>
    if c < (g.1 - page) * cells.length then (page + c / max 1 cells.length, cells.getD (c % max 1 cells.length) (0, 0))
    else cellAt rest (cells.filter (· != g.2)) (max page g.1) (c - (g.1 - page) * cells.length)

/-- The number of places before a page. -/
def cellsBefore : List (Nat × Nat × Nat) → List (Nat × Nat) → Nat → Nat → Nat
  | [], cells, at_, page => (page - at_) * cells.length
  | g :: rest, cells, at_, page =>
    if page ≤ g.1 then (page - at_) * cells.length
    else (g.1 - at_) * cells.length + cellsBefore rest (cells.filter (· != g.2)) (max at_ g.1) page

/-- The number of a place of a page. -/
def cellNo (gaps : List (Nat × Nat × Nat)) (cells : List (Nat × Nat)) (at_ page : Nat) (x : Nat × Nat) : Nat :=
  cellsBefore gaps cells at_ page + (cells.filter (fun c => !gaps.any (fun g => decide (g.1 ≤ page) && g.2 == c))).idxOf x

/-- The gaps of a band. -/
def Bay.gapsOf (b : Bay) (group block : Nat) : List (Nat × Nat × Nat) :=
  match b.bands.find? (fun x => x.group == group && x.block == block) with
  | some x => x.gaps
  | none => []

/-- The location of a write position (R202, R203). -/
def Bay.posLoc (b : Bay) (bay group block pos : Nat) : Nat :=
  let dies := b.dataDies group block
  match b.gapsOf group block with
  | [] =>
    let t := pos / 16
    let p := dies.getD (t % max 1 dies.length) 0
    locOf bay (p / 4) (4 * group + p % 4) (pos / 4 % 4) block (t / max 1 dies.length) (pos % 4)
  | gaps =>
    let x := cellAt gaps (cellsOf dies) 0 (pos / 4)
    locOf bay (x.2.1 / 4) (4 * group + x.2.1 % 4) x.2.2 block x.1 (pos % 4)

/-- Fields of a location. -/
def locBay (loc : Nat) : BayNo := ⟨loc / 2 ^ 45 % 4, Nat.mod_lt _ (by decide)⟩
def locGroup (loc : Nat) : Nat := loc / 2 ^ 37 % 32 / 4
def locBlock (loc : Nat) : Nat := loc / 2 ^ 24 % 2 ^ 11
def locPage (loc : Nat) : Nat := loc / 2 ^ 12 % 2 ^ 12
/-- The die of a location, numbered `32 * group + position`. -/
def locDie (loc : Nat) : Nat := 32 * locGroup loc + 4 * (loc / 2 ^ 42 % 8) + loc / 2 ^ 37 % 4

/-- The write position of a location (R202). -/
def Bay.locPos (b : Bay) (loc : Nat) : Nat :=
  let dies := b.dataDies (locGroup loc) (locBlock loc)
  match b.gapsOf (locGroup loc) (locBlock loc) with
  | [] => (locPage loc * max 1 dies.length + dies.idxOf (locDie loc % 32)) * 16 + loc / 2 ^ 35 % 4 * 4 + loc / 2 ^ 10 % 4
  | gaps => cellNo gaps (cellsOf dies) 0 (locPage loc) (locDie loc % 32, loc / 2 ^ 35 % 4) * 4 + loc / 2 ^ 10 % 4

/-- The first write position of a page of a band (R202). -/
def Bay.pageStart (b : Bay) (group block page : Nat) : Nat :=
  match b.gapsOf group block with
  | [] => page * (b.dataDies group block).length * 16
  | gaps => cellsBefore gaps (cellsOf (b.dataDies group block)) 0 page * 4

/-- A band's number: block b of group g (R201). DESIGN CHOICE, log entry 23. -/
def bandNum (group block : Nat) : Nat := 1060 * group + block

/-- Pages per wordline of a mode (R197). -/
def BlkMode.pages : BlkMode → Nat
  | .slc => 1
  | .qlc => 4

/-- Chunk positions of a band (R201, R202). -/
def Bay.bandSlots (b : Bay) (group block : Nat) (m : BlkMode) : Nat := b.pageStart group block (m.pages * 1024)

/-- The location of a block of a band: its die position and plane. -/
def blockLoc (bay : BayNo) (group die plane block : Nat) : Nat := locOf bay.val (die / 4) (4 * group + die % 4) plane block 0 0

/-- The plane of a location within its cartridge: die and plane. -/
def locPlane (loc : Nat) : Nat := 4 * locDie loc + loc / 2 ^ 35 % 4

/-- The number of a block: its die, plane and block within the cartridge. -/
def blockOf (loc : Nat) : Nat := loc / 2 ^ 24 % 2 ^ 21

/-- Wear units that a band has been given by its erases (R215). -/
def Bay.bandUnits (b : Bay) (group block : Nat) : Nat :=
  match b.wear.find? (fun w => w.1 == group && w.2.1 == block) with
  | some w => w.2.2
  | none => 0

/-- Wear of one block of a band, by its plane (R215): a spare block has worn only since it took its band slot (R222). -/
def Bay.blockWear (b : Bay) (group block plane : Nat) : Nat := b.bandUnits group block - (b.wearBase.lookup (group, block, plane)).getD 0

/-- Wear of a band, the highest of its blocks' (R215). -/
def Bay.wearOf (b : Bay) (group block : Nat) : Nat :=
  let new := (b.wearBase.filter (fun w => w.1.1 == group && w.1.2.1 == block)).map (·.2)
  b.bandUnits group block - (if new.length < 128 then 0 else new.foldl min (b.bandUnits group block))

/-- The stream takes metadata bands (R210). -/
def Stream.isMeta : Stream → Bool
  | .journal | .index | .reserved => true
  | _ => false

/-- Blocks of the set a stream uses (R197). -/
def Stream.blocks (s : Stream) : List Nat := if s.isMeta then List.range 128 else (List.range 932).map (· + 128)

/-- The mode a stream's bands run in (R210). -/
def Stream.mode : Stream → BlkMode
  | .warm | .cold => .qlc
  | _ => .slc

/-- A band is in use. -/
def Bay.used (b : Bay) (group block : Nat) : Bool := b.bands.any (fun x => x.group == group && x.block == block)

/-- Free bands of the main set. -/
def Bay.freeMain (b : Bay) : Nat := 7456 - (b.bands.filter (fun x => decide (128 ≤ x.block))).length

/-- Free bands of the metadata set. -/
def Bay.freeMeta (b : Bay) : Nat := 1024 - (b.bands.filter (fun x => decide (x.block < 128))).length

/-- A copy holds the newest state of its key: no newer copy and no newer deletion is charged (R87). -/
def Dev.charged (d : Dev) (c : Copy) : Bool :=
  !c.dead && !d.med.copies.any (fun x => x.ns == c.ns && x.hash == c.hash && !x.dead &&
      (decide (c.version < x.version) || (x.version == c.version && decide (c.written < x.written)) ||
        (x.version == c.version && c.written == x.written && decide (c.gen < x.gen)))) &&
    !d.que.drift.any (fun v => v.ns == c.ns && v.hash == c.hash && v.content.isNone && decide (c.version < v.seq))

/-- Bytes charged on a cartridge's values (R208, R212), in whole chunks. -/
def Dev.chargedOn (d : Dev) (b : BayNo) : Nat :=
  ((d.med.copies.filter (fun c => c.bay == b && d.charged c)).map (fun c => chunkBytes c.bytes.length)).sum

/-- Cartridges in service, at least one. -/
def Dev.serviceCount (d : Dev) : Nat := max 1 (d.baysIn (fun s => s == .inService || s == .evacuating)).length

/-- The SLC limit of a cartridge in bands (R212). -/
def Dev.slcLimit (d : Dev) (b : BayNo) : Nat :=
  let c := d.pnum P.mediaSlcCeiling * 1000000000 / d.serviceCount / 2080374784
  let u := 6736 - d.chargedOn b / 8321499136
  min c (64 + (u - d.pnum P.mediaSlcLendMargin))

/-- Main bands in SLC mode (R212). -/
def Bay.slcBands (b : Bay) : Nat := (b.bands.filter (fun x => decide (128 ≤ x.block) && x.mode == .slc)).length

/-! ## Bands -/

/-- Changes one band. -/
def Bay.modBand (b : Bay) (group block : Nat) (f : Band → Band) : Bay :=
  { b with bands := b.bands.map (fun x => if x.group == group && x.block == block then f x else x) }

/-- The band of a group and a block. -/
def Bay.band? (b : Bay) (group block : Nat) : Option Band := b.bands.find? (fun x => x.group == group && x.block == block)

/-- The open band of a stream in a die group (R210). -/
def Bay.openBand? (b : Bay) (st : Stream) (group : Nat) : Option Band :=
  b.bands.find? (fun x => x.group == group && x.stream == st && x.isOpen)

/-- A band may be opened: it is free and no slot of it stays empty (R222; log entry 212). -/
def Bay.fit (b : Bay) (group block : Nat) : Bool :=
  !b.used group block && !b.emptySlots.any (fun e => e.1 == group && e.2.1 == block)

/-- The free band of the set with the lowest wear; ties go to the lower number (R215). -/
def Bay.pickFree (b : Bay) (st : Stream) (group : Nat) : Option Nat :=
  match st.blocks.find? (fun k => b.fit group k && b.wearOf group k == 0) with
  | some k => some k
  | none => (st.blocks.filter (b.fit group)).foldl (fun m k =>
      match m with
      | none => some k
      | some j => if b.wearOf group k < b.wearOf group j then some k else some j) none

/-- The free band of the set with the highest wear (R216). -/
def Bay.pickWorn (b : Bay) (st : Stream) (group : Nat) : Option Nat :=
  (st.blocks.filter (b.fit group)).foldl (fun m k =>
    match m with
    | none => some k
    | some j => if b.wearOf group j < b.wearOf group k then some k else some j) none

/-- Free bands of a set in a die group; one with a slot that stays empty is not free (R201, R222). -/
def Bay.freeIn (b : Bay) (isMeta : Bool) (group : Nat) : Nat :=
  (if isMeta then 128 else 932) - (b.bands.filter (fun x => x.group == group && decide (x.block < 128) == isMeta)).length -
    ((b.emptySlots.filter (fun e => e.1 == group && decide (e.2.1 < 128) == isMeta && !b.used group e.2.1)).map (·.2.1)).dedup.length

/-- The bands that a secure deletion holds of a set. -/
def SecureJob.room (j : SecureJob) (isMeta : Bool) : List (BayNo × Nat × Nat) := if isMeta then j.roomMeta else j.roomMain

/-- Bands of a die group, or of a whole cartridge, reserved for secure deletions (R225 step 2). -/
def Dev.roomHeld (d : Dev) (bay : BayNo) (isMeta : Bool) (group : Nat) : Nat :=
  (((d.med.secures.flatMap (·.room isMeta)).filter (fun r => r.1 == bay && r.2.1 == group)).map (·.2.2)).sum
def Dev.roomHeldOn (d : Dev) (bay : BayNo) : Nat :=
  (((d.med.secures.flatMap (·.room false)).filter (fun r => r.1 == bay)).map (·.2.2)).sum

/-- The first reservation of a die group gives a band to a relocation of a secure deletion. -/
def takeRoom (bay : BayNo) (isMeta : Bool) (group : Nat) : List SecureJob → List SecureJob
  | [] => []
  | j :: rest =>
    let mine (r : BayNo × Nat × Nat) : Bool := r.1 == bay && r.2.1 == group && decide (0 < r.2.2)
    if (j.room isMeta).any mine then
      let l := (j.room isMeta).map (fun r => if mine r then (r.1, r.2.1, r.2.2 - 1) else r)
      (if isMeta then { j with roomMeta := l } else { j with roomMain := l }) :: rest
    else j :: takeRoom bay isMeta group rest

/-- A stream may open a band in a die group: the SLC region stays within its limit (R212); the GC headroom of 464 free bands is not for new
or folded data (R209), and what secure deletions have reserved is for their relocations, `sec`, alone (R225). Cold bands take what GC
relocates: DEDUCED, log entry 206. -/
def Dev.mayOpen (d : Dev) (bay : BayNo) (st : Stream) (group : Nat) (sec : Bool) : Bool :=
  let b := d.bays.get bay
  let room := sec || decide (d.roomHeld bay st.isMeta group < b.freeIn st.isMeta group)
  let head := decide (464 + d.roomHeldOn bay < b.freeMain)
  match st with
  | .hot => decide (b.slcBands < d.slcLimit bay) && head && room
  | .warm => head && room
  | _ => room

/-- The read-level sets of the blocks of a band that spare blocks are: those of their own wear (R230). -/
def Bay.newLevels (b : Bay) (bay : BayNo) (group block : Nat) : List (Nat × Nat) :=
  (b.wearBase.filter (fun w => w.1.1 == group && w.1.2.1 == block)).map (fun w =>
    (blockOf (blockLoc bay group (w.1.2.2 / 4 % 32) (w.1.2.2 % 4) block), Config.levelSetAtWear (b.blockWear group block w.1.2.2) % 16))

/-- Opens a band for a stream in a group; the levels are those of its wear (R230). -/
def Dev.openPicked (d : Dev) (bay : BayNo) (st : Stream) (group : Nat) (pick : Option Nat) (sec : Bool := false) : Option (Band × Dev) :=
  if d.mayOpen bay st group sec then
    match pick with
    | none => none
    | some k =>
      let x : Band := { group := group, block := k, mode := st.mode, stream := st, isOpen := true, next := 0, items := [],
                        levelSet := Config.levelSetAtWear ((d.bays.get bay).bandUnits group k) % 16, levels := (d.bays.get bay).newLevels bay group k,
                        levelsSaved := (d.bays.get bay).newLevels bay group k,
                        reads := [], refresh := false, unprotected := [], openedAt := d.clk.ns, lastWrite := d.clk.ns, erasing := false,
                        victim := false, srcs := [], summaryLoc := 0, pages := [],
                        dies := (d.bays.get bay).liveDies group, second := [], gaps := [], parityDue := [] }
      let d1 : Dev := if sec then { d with med := { d.med with secures := takeRoom bay st.isMeta group d.med.secures } } else d
      some (x, d1.modBay bay (fun b => { b with bands := b.bands ++ [x] }))
  else none

/-- Opens the free band of the lowest wear (R215). -/
def Dev.openBand (d : Dev) (bay : BayNo) (st : Stream) (group : Nat) (sec : Bool := false) : Option (Band × Dev) :=
  d.openPicked bay st group ((d.bays.get bay).pickFree st group) sec

/-- Chunk positions of a cartridge's metadata set that are still to be written (R209). -/
def Bay.metaSlots (b : Bay) : Nat :=
  b.freeMeta * 507904 + ((b.bands.filter (fun x => x.isOpen && decide (x.block < 128))).map (fun x =>
    b.bandSlots x.group x.block x.mode - x.next)).sum

/-- `media.meta_margin`, in pages of 32 chunks, stays held back when `n` more chunks of a cartridge's metadata set are written (R224). -/
def Dev.marginLeaves (d : Dev) (bay : BayNo) (n : Nat) : Bool := decide (32 * d.pnum P.mediaMetaMargin + n ≤ (d.bays.get bay).metaSlots)

/-! ## The governor (R232, R233) -/

/-- Cost of a die operation in units of 0.01 W (R232). -/
def DieOp.cost : DieOp → Nat
  | .slcProgram => 68
  | .qlcProgram => 10
  | .read => 20
  | .erase => 30

/-- The NAND share granted in units of 0.01 W: `media.nand_budget_w`, cut by the first knob of the power cap (R323). -/
def Dev.nandGrant (d : Dev) : Nat := min (d.pnum P.mediaNandBudgetW * 100) d.pow.nandShare

/-- The thermal cut of a cartridge's budget, in per mille (R325): 10 % for each °C above 72. -/
def Power.cartCut (p : Power) (b : BayNo) : Nat := min 1000 (100 * ((p.groups.get ⟨7 + b.val, by omega⟩).temp - 72).toNat)

/-- A cartridge's budget in units of 0.01 W (R232): `media.nand_budget_w` within the share Vane grants, over the cartridges in
service, at most the rated 11.25 W, cut by temperature (R325), less the baseline. The power-fail sequence ignores the cap and the
throttles (R329). -/
def Dev.nandBudget (d : Dev) (b : BayNo) : Nat :=
  if d.pow.failing.isSome then min (d.pnum P.mediaNandBudgetW * 100 / d.serviceCount) 1125 - 173
  else min (d.nandGrant / d.serviceCount) 1125 * (1000 - d.pow.cartCut b) / 1000 - 173

/-- The throttle has taken the whole budget of a cartridge (R325). -/
def Dev.throttledOut (d : Dev) (b : BayNo) : Bool := d.pow.failing.isNone && d.pow.cartCut b == 1000

/-- Power of the operations that run on a cartridge; one that is suspended keeps its cost (R232). -/
def Media.power (m : Media) (b : BayNo) : Nat := (((m.running ++ m.suspended).filter (·.bay == b)).map (fun o => o.op.cost)).sum

/-- Two operations need one die of a cartridge. -/
def GovOp.meets (a b : GovOp) : Bool := a.bay == b.bay && a.dies.any (fun x => b.dies.contains x)

/-- A read may suspend the operation: a QLC program or an erase suspended fewer than four times (R200). -/
def GovOp.yields (o : GovOp) : Bool := (o.op == .qlcProgram || o.op == .erase) && decide (o.suspends < 4)

/-- A die that the operation needs is busy with what it cannot suspend (R200). -/
def Dev.dieBusy (d : Dev) (o : GovOp) : Bool :=
  d.med.running.any (fun r => r.meets o && !(o.op == .read && r.yields)) || (o.op != .read && d.med.suspended.any (fun r => r.meets o))

/-- Starts an operation; a read suspends what it finds on its die (R200). -/
def Dev.startOp (d : Dev) (o : GovOp) : Dev :=
  let hit := d.med.running.filter (fun r => r.meets o)
  { d with med := { d.med with running := d.med.running.filter (fun r => !r.meets o) ++ [o],
                               suspended := d.med.suspended ++ hit.map (fun r => { r with suspends := r.suspends + 1 }) } }

/-- Suspended operations go on once their dies are free again. -/
def Dev.resumeOps (d : Dev) : Dev :=
  let go (o : GovOp) : Bool := !d.med.running.any (fun r => r.meets o)
  { d with med := { d.med with running := d.med.running ++ d.med.suspended.filter go,
                               suspended := d.med.suspended.filter (fun o => !go o) } }

/-- The budget of its cartridge holds an operation (R232); at a budget of zero one operation of priority 1 or 2 runs per channel at
a time (R325). -/
def Dev.budgetHolds (d : Dev) (o : GovOp) : Bool :=
  if d.throttledOut o.bay then
    decide (o.priority ≤ 2) && !d.med.running.any (fun r => r.bay == o.bay && r.channel == o.channel)
  else decide (d.med.power o.bay + o.op.cost ≤ d.nandBudget o.bay)

/-- The operations of a priority that wait for a cartridge's budget (R233). -/
def Dev.waitingAt (d : Dev) (b : BayNo) (priority : Nat) : Nat :=
  (d.med.waiting.filter (fun w => w.bay == b && w.priority == priority && !d.dieBusy w)).length

/-- `EV_GOVERNOR_LIMIT`, while operations of priority 2 wait for a cartridge's budget (R233). -/
def Dev.limitEvent (d : Dev) (b : BayNo) : Dev :=
  let n := d.waitingAt b 2
  if n = 0 then d else d.raiseHeld Ev.governorLimit b.val (fun _ => (b.val, d.nandBudget b, n, 0))

/-- The time at each priority waiting is counted (R236), and the event of one that goes on is raised again. -/
def Dev.governorTick (d : Dev) : Dev :=
  if d.med.waiting.isEmpty then d
  else (List.finRange 4).foldl (fun (d : Dev) (b : BayNo) =>
    ((List.range 7).foldl (fun (d : Dev) (p : Nat) => if d.waitingAt b p = 0 then d else d.bump (.govWaitUs b p) 1) d).limitEvent b) d

/-- A die operation is issued: it waits for its dies (R200); else it is admitted at once while nothing waits for the budget of its
cartridge and the budget holds, or waits too (R232, R233). A host read that the budget holds back raises `EV_GOVERNOR_LIMIT`. -/
def Dev.issueOp (d : Dev) (o : GovOp) : Dev :=
  if d.dieBusy o then { d with med := { d.med with waiting := d.med.waiting ++ [o] } }
  else if d.med.waiting.any (fun w => w.bay == o.bay && !d.dieBusy w) || !d.budgetHolds o then
    let d1 : Dev := { d with med := { d.med with waiting := d.med.waiting ++ [o] } }
    if o.priority == 2 then d1.limitEvent o.bay else d1
  else d.startOp o

/-- The operation to admit: of those whose dies are free, the lowest priority number first, first in first out within it; at a budget of
zero, of those whose channel is free. -/
def Dev.nextOp? (d : Dev) (b : BayNo) : Option GovOp :=
  (d.med.waiting.filter (fun o => o.bay == b && !d.dieBusy o && (!d.throttledOut b || d.budgetHolds o))).foldl (fun best o =>
    match best with
    | none => some o
    | some p => if o.priority < p.priority then some o else some p) none

/-- Admits the next waiting operation of a cartridge, if the budget holds it (R233). -/
def Dev.governorAdmit (d : Dev) (b : BayNo) : Dev :=
  match d.nextOp? b with
  | none => d
  | some o =>
    if d.budgetHolds o then
      ({ d with med := { d.med with waiting := d.med.waiting.filter (· != o) } } : Dev).startOp o
    else d

/-- The operations that waited for a die alone are admitted as it comes free, in the governor's order. -/
def Dev.nextOnDies (d : Dev) (o : GovOp) : Nat → Dev
  | 0 => d
  | fuel + 1 =>
    match d.nextOp? o.bay with
    | some w => if w.meets o && d.budgetHolds w then (d.governorAdmit o.bay).nextOnDies o fuel else d
    | none => d

/-- A die operation is over, or is withdrawn: what it had suspended goes on, and what waited for its dies begins. -/
def Dev.endOp (d : Dev) (id : Nat) : Dev :=
  let d1 : Dev := { d with med := { d.med with
    running := d.med.running.filter (·.id != id), suspended := d.med.suspended.filter (·.id != id),
    waiting := d.med.waiting.filter (·.id != id) } }
  match d.med.running.filter (·.id == id) with
  | [] => d1
  | os => os.foldl (fun (d : Dev) (o : GovOp) => d.nextOnDies o 4) d1.resumeOps

/-- An operation runs on every die that it takes: none of them waits or is suspended. -/
def Dev.opRuns (d : Dev) (id : Nat) : Bool :=
  d.med.running.any (·.id == id) && !(d.med.waiting ++ d.med.suspended).any (·.id == id)

/-- The die phase of an operation has begun (R163, R169, R200). -/
def Dev.opBegun (d : Dev) (id : Nat) : Bool := (d.med.running ++ d.med.suspended).any (·.id == id)

/-- Draws an operation number. -/
def Dev.opId (d : Dev) : Nat × Dev := (d.med.nextOp, { d with med := { d.med with nextOp := d.med.nextOp + 1 } })

/-- Issues an operation that takes several dies, numbered `32 * group + position`: one operation of the governor for each, under one number
(R200, R232). -/
def Dev.issueOps (d : Dev) (id : Nat) (bay : BayNo) (dies : List Nat) (op : DieOp) (priority : Nat) : Dev :=
  dies.foldl (fun (d : Dev) (x : Nat) => d.issueOp ⟨id, bay, x % 32 / 4, [x], op, priority, 0⟩) d

/-- Governor priority of a program (R233). -/
def progPriority (st : Stream) : Nat := if st.isMeta then 3 else if st == .hot then 4 else 5

/-- Issues one die program. -/
def Dev.issueProg (d : Dev) (bay : BayNo) (st : Stream) (die chunks group block page : Nat) (what : ProgWhat) (tries : Nat)
    (tried : List Nat) : Dev :=
  let (id, d1) := d.opId
  Dev.issueOp { d1 with med := { d1.med with
      progs := d1.med.progs ++ [⟨id, bay, st, group, block, page, die, chunks, what, tries, tried⟩] } }
    ⟨id, bay, die / 4, [32 * group + die], if st.mode == .slc then .slcProgram else .qlcProgram, progPriority st, 0⟩

/-- The wordlines that a row takes: an index page lies on two of one die (R198). -/
def Stream.wordlines (s : Stream) : Nat := if s == .index then 2 else 1

/-- Write positions of a row (R201, R202): of one wordline on the data dies, and of two in an index band. -/
def Bay.rowSlots (b : Bay) (x : Band) : Nat := x.stream.wordlines * x.mode.pages * (b.dataDies x.group x.block).length * 16

/-- The row that a write position lies in. -/
def Bay.rowAt (b : Bay) (x : Band) (pos : Nat) : Nat :=
  match x.gaps with
  | [] => pos / max 1 (b.rowSlots x)
  | gaps => (cellAt gaps (cellsOf (b.dataDies x.group x.block)) 0 (pos / 4)).1 / (x.stream.wordlines * x.mode.pages)

/-- The first write position of a row (R202). -/
def Bay.rowStart (b : Bay) (x : Band) (row : Nat) : Nat := b.pageStart x.group x.block (row * x.stream.wordlines * x.mode.pages)

/-- The first write position of place `k` of an index band (R198, R202). -/
def Bay.placePos (b : Bay) (group block k : Nat) : Nat :=
  let n := max 1 (b.dataDies group block).length
  (2 * (k / n) * n + k % n) * 16

/-- Issues the die programs of the positions from `pos` on: one for each die and wordline they touch (R199, R202): the pages of a wordline
are programmed together. -/
def Dev.issueRun (d : Dev) (bay : BayNo) (st : Stream) (group block pos n : Nat) (what : ProgWhat) : Dev :=
  let dies := (d.bays.get bay).dataDies group block
  let k := max 1 dies.length
  let p := st.mode.pages
  let b := d.bays.get bay
  let gaps := b.gapsOf group block
  let cells := cellsOf dies
  let here (page j : Nat) : Nat := match gaps with
    | [] => 4
    | l => ([0, 1, 2, 3].filter (fun pl => !l.any (fun g => decide (g.1 ≤ page) && g.2 == (dies.getD j 0, pl)))).length
  let first (page j : Nat) : Nat := match gaps with
    | [] => 16 * (page * k + j)
    | l => b.pageStart group block page +
        4 * ((cells.take (4 * j)).filter (fun c => !l.any (fun g => decide (g.1 ≤ page) && g.2 == c))).length
  let stripe (page j : Nat) : Nat := min (pos + n) (first page j + 4 * here page j) - max pos (first page j)
  let w (pos : Nat) : Nat := match gaps with
    | [] => pos / (16 * k * p)
    | l => (cellAt l cells 0 (pos / 4)).1 / p
  (List.range (w (pos + n - 1) + 1 - w pos)).foldl (fun (d : Dev) (i : Nat) =>
    (List.range k).foldl (fun (d : Dev) (j : Nat) =>
      let c := ((List.range p).map (fun q => stripe ((w pos + i) * p + q) j)).sum
      if c = 0 then d else d.issueProg bay st (dies.getD j 0) c group block ((w pos + i) * p) what 0 [group]) d) d

/-- Issues the programs of the second wordline of an index band's open row, in ascending order of its places (R198, R202). -/
def Dev.issueSecond (d : Dev) (bay : BayNo) (group block row : Nat) : Dev :=
  let dies := (d.bays.get bay).dataDies group block
  match (d.bays.get bay).band? group block with
  | none => d
  | some x => x.second.foldl (fun (d : Dev) (y : Nat × ProgWhat) =>
      d.issueProg bay .index (dies.getD y.1 0) 16 group block (2 * row + 1) y.2 0 [group])
    (d.modBay bay (fun b => b.modBand group block (fun x => { x with second := [] })))

/-- Issues the programs of an index page at a place of its band (R198): its first wordline at once, its second after the first wordline of
the last place of the row, so that the band is programmed in ascending order (R202). -/
def Dev.issuePage (d : Dev) (bay : BayNo) (group block k : Nat) (what : ProgWhat) : Dev :=
  let dies := (d.bays.get bay).dataDies group block
  let n := max 1 dies.length
  let d1 := (d.issueProg bay .index (dies.getD (k % n) 0) 16 group block (2 * (k / n)) what 0 [group]).modBay bay
    (fun b => b.modBand group block (fun x => { x with second := x.second ++ [(k % n, what)] }))
  if k % n + 1 = n then d1.issueSecond bay group block (k / n) else d1

/-- Some program of a wordline has not passed. -/
def Dev.rowBusy (d : Dev) (bay : BayNo) (group block page : Nat) : Bool :=
  d.med.progs.any (fun q => q.bay == bay && q.group == group && q.block == block && q.page == page)

/-- Programs the parity pages of the row that begins at a wordline's first page, where its data pages have passed (R211). -/
def Dev.issueParity (d : Dev) (bay : BayNo) (x : Band) (page : Nat) : Dev :=
  (List.range x.stream.wordlines).foldl (fun (d : Dev) (i : Nat) =>
    let pg := page + i * x.mode.pages
    if d.rowBusy bay x.group x.block pg then d
    else d.issueProg bay x.stream ((d.bays.get bay).parityDie x.group x.block) 0 x.group x.block pg (.parity x.group x.block pg) 0 []) d

/-- Closes the open row of a band: its remaining positions stay unwritten, counted as PAD, and its parity covers the pages written
(R211). -/
def Dev.padRow (d : Dev) (bay : BayNo) (group block : Nat) : Dev :=
  match (d.bays.get bay).band? group block with
  | none => d
  | some x =>
    let b := d.bays.get bay
    let r := b.rowAt x x.next
    if x.next ≤ b.rowStart x r then d
    else ((d.issueSecond bay group block r).modBay bay (fun y =>
      y.modBand group block (fun y => { y with next := b.rowStart x (r + 1) }))).issueParity bay x (r * x.stream.wordlines * x.mode.pages)

/-- Closes a band, with the row that is open in it. -/
def Dev.closeBand (d : Dev) (bay : BayNo) (group block : Nat) : Dev :=
  match (d.bays.get bay).band? group block with
  | some x => if x.isOpen then (d.padRow bay group block).modBay bay (fun b => b.modBand group block (fun x => { x with isOpen := false })) else d
  | none => d

/-- Takes `n` consecutive positions of a stream's open band in a group, opening a new band where they do not fit, and enters
the item in the band's summary (R205, R210, R226): the block and the first position. The metadata margin is for those that may use it,
`freely` (R224); `sec` relocates for a secure deletion, in the space it has reserved (R225). -/
def Dev.alloc (d : Dev) (bay : BayNo) (st : Stream) (group n : Nat) (item : List (BitVec 12 × BitVec 128)) (freely : Bool := false)
    (sec : Bool := false) : Option (Nat × Nat × Dev) :=
  if st.isMeta && !freely && !sec && !d.marginLeaves bay n then none else
  let take (d : Dev) (x : Band) : Option (Nat × Nat × Dev) :=
    if x.next + n ≤ (d.bays.get bay).bandSlots group x.block x.mode then
      some (x.block, x.next, d.modBay bay (fun b => b.modBand group x.block (fun y =>
        { y with next := y.next + n, items := (y.items ++ item).dedup, lastWrite := d.clk.ns })))
    else none
  match (d.bays.get bay).openBand? st group with
  | some x =>
    match take d x with
    | some r => some r
    | none => match (d.closeBand bay group x.block).openBand bay st group sec with
      | some (y, d1) => take d1 y
      | none => none
  | none => match d.openBand bay st group sec with
    | some (y, d1) => take d1 y
    | none => none

/-- Some program of an item has not passed, or is still to be issued. -/
def Dev.programming (d : Dev) (what : ProgWhat) : Bool :=
  d.med.progs.any (·.what == what) || (List.finRange 4).any (fun b => (d.bays.get b).bands.any (fun x => x.second.any (·.2 == what)))

/-- Drops the programs of an item. -/
def Dev.dropProgs (d : Dev) (what : ProgWhat) : Dev :=
  let ids := (d.med.progs.filter (·.what == what)).map (·.id)
  { d with
    med := { d.med with progs := d.med.progs.filter (fun p => p.what != what),
                        running := d.med.running.filter (fun o => !ids.contains o.id),
                        suspended := d.med.suspended.filter (fun o => !ids.contains o.id),
                        waiting := d.med.waiting.filter (fun o => !ids.contains o.id) },
    bays := d.bays.map (fun (b : Bay) => if b.bands.any (fun x => x.second.any (·.2 == what)) then
      { b with bands := b.bands.map (fun (x : Band) => { x with second := x.second.filter (·.2 != what) }) } else b) }

/-- The SLC region holds more than a share of its limit in per cent (R214). -/
def Dev.slcAbove (d : Dev) (bay : BayNo) (pc : Nat) : Bool := decide (pc * d.slcLimit bay < (d.bays.get bay).slcBands * 100)

/-- Governor priority of an erase (R233, R393): one that garbage collection or fold needs while it runs at read or write priority has that
priority (R214, R217); that of a secure deletion finished after a restart is read priority (R228). -/
def Dev.erasePriority (d : Dev) (bay : BayNo) (why : EraseFor) : Nat :=
  match why with
  | .gc =>
    if (d.bays.get bay).freeMain < 32 then 2
    else if decide ((d.bays.get bay).freeMain < d.pnum P.mediaGcLowMark) || d.slcAbove bay (d.pnum P.mediaFoldUrgentMark) then 4 else 6
  | .release | .reclaim => 6
  | .secure s => if d.med.secures.any (fun j => j.seq == s && j.restarted) then 2 else 5
  | .sanitise _ => 5

/-- Issues the erase of a band, unless one is under way. -/
def Dev.issueErase (d : Dev) (bay : BayNo) (group block : Nat) (why : EraseFor) : Dev :=
  if d.med.erases.any (fun e => e.bay == bay && e.group == group && e.block == block) then d
  else
    let (id, d1) := d.opId
    let d2 : Dev := { d1 with med := { d1.med with erases := d1.med.erases ++ [⟨id, bay, group, block, why⟩] } }
    (d2.modBay bay (fun b => b.modBand group block (fun x => { x with erasing := true, isOpen := false }))).issueOps
      id bay (((d.bays.get bay).rowDies group block).map (fun p => 32 * group + p)) .erase (d.erasePriority bay why)

/-- Issues the erase of a cartridge's metadata set or of the whole cartridge (R253) on its dies that have not failed. -/
def Dev.eraseWhole (d : Dev) (bay : BayNo) (why : EraseFor) : Dev :=
  if d.med.erases.any (fun e => e.bay == bay && e.why == why) then d
  else
    let (id, d1) := d.opId
    ({ d1 with med := { d1.med with erases := d1.med.erases ++ [⟨id, bay, 0, 0, why⟩] } } : Dev).issueOps id bay
      ((List.range 8).flatMap (fun g => ((d.bays.get bay).liveDies g).map (fun p => 32 * g + p))) .erase (d.erasePriority bay why)

/-! ## Copies -/

/-- The chunks of a value, `C` of R92. -/
def chunkCount (n : Nat) : Nat := ceilDiv n 4096

/-- The copy that a location and generation name. -/
def Dev.copyAt (d : Dev) (loc gen : Nat) : Option Copy := d.med.copies.find? (fun c => c.loc == loc && c.gen == gen && !c.dead)

/-- The copy that a captured state names: its pin keeps it readable after it is dead (R160). -/
def Dev.copyFor (d : Dev) (loc gen : Nat) : Option Copy :=
  match d.copyAt loc gen with
  | some c => some c
  | none => d.med.copies.find? (fun c => c.loc == loc && c.gen == gen)

/-- Changes the copy at a location and generation. -/
def Dev.modCopy (d : Dev) (loc gen : Nat) (f : Copy → Copy) : Dev :=
  { d with med := { d.med with copies := d.med.copies.map (fun c => if c.loc == loc && c.gen == gen then f c else c) } }

/-- A copy becomes dead; the value cache drops it. -/
def Dev.killCopy (d : Dev) (loc gen : Nat) : Dev :=
  let d1 := d.modCopy loc gen (fun c => { c with dead := true })
  { d1 with med := { d1.med with valueCache := d1.med.valueCache.filter (fun v => !(v.loc == loc && v.gen == gen)) } }

/-- The chunks that a range of a value covers. -/
def chunksOf (o n : Nat) : List Nat := (List.range (ceilDiv (o + n) 4096)).drop (o / 4096)

/-- The chunks that the value cache holds (R23): 28 GiB. -/
def valueCacheMax : Nat := 7340032

/-- The newest values of the cache that fit it. -/
def trimValues : Nat → List CachedValue → List CachedValue
  | _, [] => []
  | room, v :: rest => if v.chunks.length ≤ room then v :: trimValues (room - v.chunks.length) rest else []

/-- The value cache holds some chunks of a value. -/
def Media.hasCached (m : Media) (loc gen : Nat) (chunks : List Nat) : Bool :=
  m.valueCache.any (fun v => v.loc == loc && v.gen == gen && chunks.all (fun i => v.chunks.contains i))

/-- Chunks of a value join the value cache with their checks (R261); the values installed longest ago leave it where it is full (R17, R23, R165): DESIGN CHOICE,
log entry 197. -/
def Media.cacheValue (m : Media) (loc gen : Nat) (bytes : Bytes) (chunks : List Nat) : Media :=
  let mine (v : CachedValue) : Bool := v.loc == loc && v.gen == gen
  let had := m.valueCache.filter mine
  let old := had.flatMap (·.chunks)
  let new := chunks.filter (fun i => !old.contains i)
  let v : CachedValue := ⟨loc, gen, old ++ new, had.flatMap (·.checks) ++ new.map (fun i => (i, chunkCheck (chunkOf bytes i)))⟩
  { m with valueCache := trimValues valueCacheMax (v :: m.valueCache.filter (fun v => !mine v)) }

/-- The first of some chunks in the value cache that fails the check it carries (R261). -/
def Media.cacheFail (m : Media) (loc gen : Nat) (bytes : Bytes) (chunks : List Nat) : Option Nat :=
  match m.valueCache.find? (fun v => v.loc == loc && v.gen == gen) with
  | some v => chunks.find? (fun i => (v.checks.lookup i).any (fun k => k != chunkCheck (chunkOf bytes i)))
  | none => none

/-- Takes a value out of the value cache. -/
def Media.uncache (m : Media) (loc gen : Nat) : Media :=
  { m with valueCache := m.valueCache.filter (fun v => !(v.loc == loc && v.gen == gen)) }

/-! ## The cipher engine (R374, R376) -/

/-- The key in the cipher engine's slot of a namespace; a slot that is cleared holds zeros (R376, R377). -/
def Media.slotKey (m : Media) (n : BitVec 12) : BitVec 512 := (m.slots.lookup n).getD 0

/-- Loads a key slot; clears it. -/
def Media.setSlot (m : Media) (n : BitVec 12) (k : BitVec 512) : Media := { m with slots := (n, k) :: m.slots.filter (fun x => x.1 != n) }
def Media.clearSlot (m : Media) (n : BitVec 12) : Media := { m with slots := m.slots.filter (fun x => x.1 != n) }

/-- The metadata key, derived from the media root key at each start (R372). -/
def deriveMdk (mrk : BitVec 256) : BitVec 256 := BitVec.ofNat 256 (hkdfExpand mrk (ascii "fk4a mdk") 32).toNatBE

/-- Loads the slots from the key store and derives the metadata key, as a start does before the replay (R376, R436 step 8). -/
def Dev.loadSlots (d : Dev) : Dev :=
  { d with med := { d.med with slots := d.ns.map (fun n => (n.id, n.atRestKey)), mdk := d.sec.mrk.map deriveMdk } }

/-- The tweak of a chunk (R374). -/
def chunkTweak (version index : Nat) (h : BitVec 128) : BitVec 128 :=
  BitVec.ofNat 128 (version * 2 ^ 64 + index % 2 ^ 20 * 2 ^ 24 + h.toNat % 2 ^ 24)

/-- The stretch that chunk `i` of a copy lies in (R107, R204, R277). -/
def stretchAt : List Stretch → Nat → Stretch
  | [], _ => ⟨0, 0, 0, 0⟩
  | s :: rest, i => if i < s.chunks then s else stretchAt rest (i - s.chunks)

/-- The 4,096 data bytes of chunk `i` of a copy on the medium (R374). -/
def Copy.cipher (cp : Copy) (i : Nat) : Bytes :=
  let b := chunkOf cp.bytes i
  Config.xtsEncrypt cp.sealedKey (chunkTweak (stretchAt cp.heads i).version i cp.hash) (b ++ zeroBytes (4096 - b.length))

/-- A copy's value as it leaves the cipher (R376): decrypted under the key in its namespace's slot. Under the key it was encrypted with, the
plaintext. -/
def Dev.plainOf (d : Dev) (cp : Copy) : Bytes :=
  let k := d.med.slotKey cp.ns
  if k == cp.sealedKey then cp.bytes
  else ((List.range (ceilDiv cp.bytes.length 4096)).flatMap (fun i =>
    Config.xtsDecrypt k (chunkTweak (stretchAt cp.heads i).version i cp.hash) (cp.cipher i))).take cp.bytes.length

/-- The place of a location in a list of runs, in chunks from the first; nothing where it lies in none. -/
def Dev.placeIn (d : Dev) (loc : Nat) : List (Nat × Nat) → Option Nat
  | [] => none
  | (l, n) :: rest =>
    let b := d.bays.get (locBay loc)
    if locBay l = locBay loc ∧ locGroup l = locGroup loc ∧ locBlock l = locBlock loc ∧ b.locPos l ≤ b.locPos loc ∧
        b.locPos loc < b.locPos l + n then some (b.locPos loc - b.locPos l)
    else (d.placeIn loc rest).map (· + n)

/-- The header fields of the chunks from a location on: of a copy's chunks, or of a part's: the upload's number, generation 0 and the
declared total (R107). -/
def Dev.headAt (d : Dev) (loc : Nat) : Stretch :=
  match d.med.copies.findSome? (fun c => (d.placeIn loc c.runs).map (stretchAt c.heads)) with
  | some x => x
  | none => match d.idx.uploads.find? (fun u => u.parts.any (fun p => (d.placeIn loc p.runs).isSome)) with
    | some u => ⟨0, u.id, 0, u.declared⟩
    | none => ⟨0, 0, 0, 0⟩

/-- Generation after one (R206). -/
def nextGen (g : Nat) : Nat := if g + 1 = 2 ^ 24 then 1 else g + 1

/-- Bits [63:0] above the low half of a key hash (R101), and bits [127:80] (R226). -/
def high64 (h : BitVec 128) : Nat := h.toNat / 2 ^ 64
def high48 (h : BitVec 128) : BitVec 48 := BitVec.ofNat 48 (h.toNat / 2 ^ 80)

/-- A stretch of a value to be placed: programmed anew, or a run that stays where it is (R107, R205, R277). -/
inductive Seg
  | fresh (n : Nat)
  | reuse (loc n : Nat)
  deriving DecidableEq, Repr

/-- The runs of a value of `n` chunks (R205): one run up to 2,048 chunks, else runs of 2,048 with a shorter last one. -/
def segsOf (n : Nat) : List Seg :=
  (List.range (ceilDiv n 2048)).map (fun i => .fresh (min 2048 (n - 2048 * i)))

/-- The header stretches of a value that a writer places (R107, R277): what it programs carries its own version and generation. -/
def Dev.headsOf (d : Dev) (version gen len : Nat) (segs : List Seg) : List Stretch :=
  segs.map (fun s => match s with
    | .fresh n => ⟨n, version, gen, len⟩
    | .reuse loc n => { d.headAt loc with chunks := n })

/-- Places the segments of a value in a stream: the positions are reserved and, in SLC, the die programs issued (R126, R205, R210); the rows
of a QLC band are programmed whole by their batch (R213). Nothing when some position cannot be reserved. -/
def Dev.placeSegs (d : Dev) (bay : BayNo) (st : Stream) (group : Nat) (item : List (BitVec 12 × BitVec 128)) (what : ProgWhat) (sec : Bool) :
    List Seg → Option (List (Nat × Nat) × Dev)
  | [] => some ([], d)
  | .reuse loc n :: rest =>
    match d.placeSegs bay st group item what sec rest with
    | some (rs, d1) => some ((loc, n) :: rs, d1)
    | none => none
  | .fresh n :: rest =>
    match d.alloc bay st group n item false sec with
    | none => none
    | some (block, pos, d1) =>
      match (if st.mode == .slc then d1.issueRun bay st group block pos n what else d1).placeSegs bay st group item what sec rest with
      | some (rs, d2) => some (((d1.bays.get bay).posLoc bay.val group block pos, n) :: rs, d2)
      | none => none

/-- Places a value with its MAP chunk where it has more than one run (R205): the runs, the MAP chunk's location or 0. -/
def Dev.placeRuns (d : Dev) (bay : BayNo) (st : Stream) (group : Nat) (item : List (BitVec 12 × BitVec 128)) (what : ProgWhat)
    (segs : List Seg) (sec : Bool := false) : Option (List (Nat × Nat) × Nat × Dev) :=
  match d.placeSegs bay st group item what sec segs with
  | none => none
  | some (rs, d1) =>
    if rs.length ≤ 1 then some (rs, 0, d1)
    else match d1.placeSegs bay st group item what sec [.fresh 1] with
      | some (m :: _, d2) => some (rs, m.1, d2)
      | _ => none

/-- A copy has a run or its MAP chunk in a band (R201, R205). -/
def Copy.inBand (c : Copy) (bay : BayNo) (group block : Nat) : Bool :=
  (c.runs.map (·.1) ++ (if c.mapLoc = 0 then [] else [c.mapLoc])).any (fun l =>
    locBay l == bay && locGroup l == group && locBlock l == block)

/-- Counts chunks programmed on a stream (R236) and the cartridge's byte counters (R242). -/
def Dev.countProgram (d : Dev) (bay : BayNo) (st : Stream) (n : Nat) : Dev :=
  (d.bump (.programmed bay st) n).modBay bay (fun b =>
    { b with nandBytes := b.nandBytes + 4096 * n, hostBytes := b.hostBytes + (if st == .hot then 4096 * n else 0) })

/-- Writes an item of `n` chunks on a metadata stream of some cartridges and issues its programs: its locations, and whether every one of the
cartridges had room. On the index stream the item takes whole places (R198). -/
def Dev.writeOn (d : Dev) (bays : List BayNo) (st : Stream) (group n : Nat) (freely : Bool) (what : Nat → ProgWhat) : List Nat × Bool × Dev :=
  let m := if st == .index then 32 * ceilDiv n 32 else n
  bays.foldl (fun (a : List Nat × Bool × Dev) (bay : BayNo) =>
    match a.2.2.alloc bay st group m [] freely with
    | some (block, pos, d1) =>
      let y := d1.bays.get bay
      let l := y.posLoc bay.val group block (if st == .index then y.placePos group block (pos / 32) else pos)
      (l :: a.1, a.2.1, if st == .index then
          (List.range (m / 32)).foldl (fun (d : Dev) (i : Nat) => d.issuePage bay group block (pos / 32 + i) (what l)) d1
        else d1.issueRun bay st group block pos m (what l))
    | none => (a.1, false, a.2.2)) ([], true, d)

/-- The cartridges in service (R207). -/
def Dev.serviceBays (d : Dev) : List BayNo := d.baysIn (fun s => s == .inService || s == .evacuating)

/-- Writes an item of reserved metadata on the reserved stream of some cartridges (R198, R210); the die group follows the operation count
(log entry 233). -/
def Dev.writeReserved (d : Dev) (bays : List BayNo) (n : Nat) : Dev :=
  (d.writeOn bays .reserved (d.med.nextOp % 8) n false (fun _ => .reservedItem)).2.2

/-- A record of `n` bytes in the reserved metadata of every cartridge in service: policy, ring, namespace descriptors, sanitise and update
records (R198, R394). -/
def Dev.keepRecord (d : Dev) (n : Nat) : Dev := d.writeReserved d.serviceBays (max 1 (ceilDiv n 4096))

/-! ## The wear record (R241 to R244) -/

/-- The sum of the wear counts of a cartridge's main blocks, those that spare blocks have replaced among them: a band is 128 blocks in use at a
time (R198, R215, R242; log entry 235). -/
def Bay.totalWear (b : Bay) : Nat := 128 * ((b.wear.filter (fun w => decide (128 ≤ w.2.1))).map (fun w => w.2.2)).sum

/-- A retirement entry (R276). -/
def retiredBytes (r : RetiredRec) : Bytes :=
  natToBytesBE 1 r.kind ++ natToBytesBE 1 r.cause ++ zeroBytes 2 ++ natToBytesBE 4 r.seqNo ++ natToBytesBE 8 r.time ++
    natToBytesBE 8 r.target ++ natToBytesBE 4 r.remaining ++ zeroBytes 4

/-- The wear map and the retired-block list as reserved metadata holds them (R241): 16 bits for each main block, in the order of their locations;
then the list's entries in the layout of R276 (log entry 235). -/
def wearMapBytes (m : WearMap) : Bytes :=
  let b : Bay := { Bay.reset with wear := m.wear, wearBase := m.base }
  ((List.range 256).flatMap (fun k => (List.range 4).flatMap (fun pl => (List.range 932).flatMap (fun i =>
    let die := 32 * (k % 32 / 4) + 4 * (k / 32) + k % 4
    natToBytesBE 2 (min 65535 (b.blockWear (die / 32) (i + 128) (4 * die + pl))))))) ++
  m.retired.flatMap retiredBytes

/-- `wear_map_crc` (R242): 0 where the cartridge holds no wear map. -/
def Bay.mapCrc (b : Bay) : Nat :=
  match b.mapWear with
  | some m => (crc32c (wearMapBytes m)).toNat
  | none => 0

/-- The wear map as it stands is written to the cartridge's reserved metadata (R241). -/
def Dev.writeWearMap (d : Dev) (bay : BayNo) : Dev :=
  let b := d.bays.get bay
  (d.writeReserved [bay] (ceilDiv (2 * 954368 + 32 * b.retired.length) 4096)).modBay bay (fun b => { b with mapWear := some ⟨b.wear, b.wearBase, b.retired⟩ })

/-- The last journal sequence committed on a cartridge's stream (R242). -/
def Dev.lastJseq (d : Dev) (bay : BayNo) : Nat :=
  (d.idx.journal.filter (fun r => r.bay == bay && r.committed)).foldl (fun m r => max m r.jseq) 0

/-- A wear-record slot of the cartridge's figures as they stand (R242); `bound` 0 where the binding is cleared. -/
def Dev.newSlot (d : Dev) (bay : BayNo) (c : Cartridge) (stored : Nat) : WearSlot :=
  let b := d.bays.get bay
  { crcOk := true, recordSeq := max (c.slots.get 0).recordSeq (c.slots.get 1).recordSeq + 1, totalWear := b.totalWear,
    totalTwinOk := true, qlcErases := b.qlcErases, slcErases := b.slcErases, hostBytes := b.hostBytes, nandBytes := b.nandBytes,
    powerOnHours := b.powerOnHours, retired := (b.retired.filter (·.kind == 2)).length, spare := b.spare, spareTwinOk := true,
    dieFailures := b.failedDies.length, stored := stored, storedTwinOk := true,
    bindCount := if stored == 2 then b.bindCount else 0, driveSerial := if stored == 2 then Config.driveSerial else 0,
    bay := if stored == 2 then bay.val else 0, journalSeq := d.lastJseq bay, time := d.clk.ns, mapCrc := b.mapCrc, wearMapOk := true }

/-- Writes a slot: the one that was not read last (R243). -/
def Dev.writeSlot (d : Dev) (bay : BayNo) (stored : Nat) : Dev :=
  match (d.bays.get bay).cart with
  | none => d
  | some c =>
    let i : Fin 2 := if (d.bays.get bay).slotRead = 0 then 1 else 0
    d.modBay bay (fun b => { b with cart := some { c with slots := c.slots.set i (d.newSlot bay c stored) }, slotTime := d.clk.ns })

/-! ## Retirement (R221 to R223, R276) -/

/-- The next sequence of a retirement entry of a kind. -/
def nextRetSeq (l : List RetiredRec) (kind : Nat) : Nat := (l.filter (·.kind == kind)).length + 1

/-- Raises the events of a fall of spare capacity (R222, R223) and puts the mode in force. -/
def Dev.spareFell (d : Dev) (bay : BayNo) : Dev :=
  let b := d.bays.get bay
  let made := match b.cart with
    | some c => c.made.spare
    | none => 24576
  let pm := if made = 0 then 0 else b.spare * 1000 / made
  let mark := if pm < 20 then 2 else if pm < 100 then 1 else 0
  let d1 := if b.spareWarned < mark then
      (d.raise Ev.spareLow bay.val b.spare pm 0).modBay bay (fun x => { x with spareWarned := mark })
    else d
  let d2 := if b.spare = 0 ∧ d.par.mode ≠ 5 then d1.raise Ev.readOnly bay.val 0 0 0 else d1
  d2.refreshMode 2

/-- Retires the block of a band that a location names (R222): a spare falls, and a spare block of the same plane takes the band slot, if one
remains, at the band's next erase; a kind-2 entry is written, `EV_BLOCK_RETIRED` is raised. `cause` is the event's; the entry's causes 3 to 6 follow it (R276). The blocks of a failed die are retired with it (R221). -/
def Dev.retireBlock (d : Dev) (bay : BayNo) (loc cause : Nat) : Dev :=
  let b := d.bays.get bay
  if b.failedDies.any (·.1 == locDie loc) then d else
  let pl := locPlane loc
  let e : RetiredRec := ⟨2, cause + 2, nextRetSeq b.retired 2, d.clk.ns, loc, b.spare - 1⟩
  let taken := (b.planeUsed.lookup pl).getD 0
  (((d.modBay bay (fun b => { b with
      spare := b.spare - 1, retired := b.retired ++ [e], planeUsed := bumpNat b.planeUsed pl,
      emptySlots := if 24 ≤ taken then (locGroup loc, locBlock loc, pl) :: b.emptySlots else b.emptySlots,
      newSlots := if 24 ≤ taken then b.newSlots else (locGroup loc, locBlock loc, pl) :: b.newSlots })).raise Ev.blockRetired
    (loc / 2 ^ 16) cause (b.spare - 1) 0).writeSlot bay 2).spareFell bay

end Sys2Proof.Machine
end

