-- ==== Sys2Proof/Machine/Index.lean ====
section
/-! DEFINITION. Isobar: the authoritative state of a key (R147), the log and the journal (R152, R154), the buckets, their merges
and splits (R148 to R151, R155, R156). -/

namespace Sys2Proof.Machine

/-! ## Keys -/

/-- The namespace with an ID. -/
def Dev.nsOf (d : Dev) (n : BitVec 12) : Option Namespace := d.ns.find? (·.id == n)

/-- Changes one namespace. -/
def Dev.modNs (d : Dev) (n : BitVec 12) (f : Namespace → Namespace) : Dev :=
  { d with ns := d.ns.map (fun x => if x.id == n then f x else x) }

/-- The key hash (R89): the first 16 bytes of HMAC-SHA-256 under the namespace salt. -/
def keyHash (salt : BitVec 256) (key : Bytes) : BitVec 128 :=
  (Config.hmac (natToBytesBE 32 salt.toNat) key >>> 128).setWidth 128

/-- The key hash of a capsule, with zero salt where the namespace does not exist. -/
def Dev.hashOf (d : Dev) (n : BitVec 12) (key : Bytes) : BitVec 128 :=
  keyHash (match d.nsOf n with
    | some x => x.salt
    | none => 0) key

/-- Fingerprint and fragment of a key hash (R89, R151). -/
def fingerprint (h : BitVec 128) : Nat := h.toNat / 2 ^ 24 % 2 ^ 12
def fragment (h : BitVec 128) : Nat := h.toNat % 2 ^ 24

/-! ## Buckets -/

/-- A bucket covers a key (R148). -/
def Bucket.covers (b : Bucket) (n : BitVec 12) (h : BitVec 128) : Bool :=
  b.ns == n && decide (b.lo ≤ high64 h) && decide (high64 h ≤ b.hi)

/-- The bucket of a key. -/
def Dev.bucketOf (d : Dev) (n : BitVec 12) (h : BitVec 128) : Option Bucket := d.idx.buckets.find? (fun b => b.covers n h)

/-- Changes one bucket. -/
def Dev.modBucket (d : Dev) (n : BitVec 12) (lo : Nat) (f : Bucket → Bucket) : Dev :=
  { d with idx := { d.idx with buckets := d.idx.buckets.map (fun b => if b.ns == n && b.lo == lo then f b else b) } }

/-- A cartridge serves its keys (R207, R247). -/
def Dev.serves (d : Dev) (b : BayNo) : Bool := d.inService b

/-- The bucket's cartridge, or one of the two of a bucket on the move, is absent or failed (R207). -/
def Dev.homeAbsent (d : Dev) (b : Bucket) : Bool :=
  !d.serves b.home || (match b.movingFrom with
    | some m => !d.serves m
    | none => false)

/-- The cartridge is being quiesced and turns away what was sequenced after the latch opened (R250 step 1). -/
def Bay.turnsAway (b : Bay) (seq : Nat) : Bool := b.quiesceSince.isSome && decide (b.quiesceSeq < seq)

/-- A bucket of a cartridge that turns a capsule away. -/
def Dev.bucketAway (d : Dev) (b : Bucket) (seq : Nat) : Bool :=
  (d.bays.get b.home).turnsAway seq || (match b.movingFrom with
    | some m => (d.bays.get m).turnsAway seq
    | none => false)

/-- Bytes of an entry (R150). -/
def Entry.size (e : Entry) : Nat := 48 + 8 * ceilDiv e.key.length 8

/-! ## The authoritative state (R147) -/

/-- A key's cartridge turns a capsule away. -/
def Dev.turnedAway (d : Dev) (n : BitVec 12) (h : BitVec 128) (seq : Nat) : Bool :=
  match d.bucketOf n h with
  | some b => d.bucketAway b seq
  | none => false

/-- What Isobar finds for a key: absent; a value; lost (R137); lost with a lost home and no version known (R254); the page has
to be read; or a status. -/
inductive Look
  | absent
  | present (version loc gen len : Nat) (key : Bytes)
  | lost (version : Nat) (key : Bytes)
  | lostHome
  | page (lo : Nat)
  | fail (st : BitVec 16)
  deriving DecidableEq, Repr

/-- The counter a lookup moves (R168). -/
inductive LookBy
  | none | log | fp | cache | falsePass
  deriving DecidableEq, Repr

/-- The state a journal record leaves. -/
def JRec.look (r : JRec) : Look :=
  match r.kind with
  | .value | .relocation => .present r.version r.loc r.gen r.len r.key
  | .deletion => .absent
  | .lost => .lost r.version r.key
  | .upload | .part | .reservation | .wear => .absent

/-- The state an index entry names. -/
def Entry.look (e : Entry) : Look :=
  if e.badTwin then .fail Status.integrityFault
  else if e.lost then .lost e.version e.key else .present e.version e.loc e.gen e.len e.key

/-- Absent, or unknown in a bucket with a lost home (R254). -/
def Bucket.missing (b : Bucket) : Look := if b.lostHome.isEmpty then .absent else .lostHome

/-- The newest log record of a key. -/
def Dev.logRec (d : Dev) (n : BitVec 12) (h : BitVec 128) : Option JRec :=
  d.idx.log.find? (fun r => r.ns == n && r.hash == h)

/-- The authoritative state of a key and what decided it (R147, R150, R151, R186, R207). -/
def Dev.lookBy (d : Dev) (n : BitVec 12) (h : BitVec 128) : Look × LookBy :=
  if d.gale.dupKeys.contains (n, h) then (.fail Status.integrityFault, .none)
  else match d.bucketOf n h with
    | none => (.absent, .none)
    | some b =>
      if d.homeAbsent b then (.fail Status.unavailable, .none)
      else match d.logRec n h with
        | some r => ((if r.kind == .deletion then b.missing else r.look), .log)
        | none =>
          if b.fpValid && !b.entries.any (fun e => fingerprint e.hash == fingerprint h) then (b.missing, .fp)
          else if b.pageLost then (.fail Status.mediaError, .none)
          else if b.cached then
            match b.entries.find? (·.hash == h) with
            | some e => (e.look, .cache)
            | none => (b.missing, .falsePass)
          else (.page b.lo, .none)

/-- The authoritative state of a key. -/
def Dev.look (d : Dev) (n : BitVec 12) (h : BitVec 128) : Look := (d.lookBy n h).1

/-- Counts a lookup (R168); `paged`: it waited on the read of the page that decides it. -/
def Dev.countLook (d : Dev) (b : LookBy) (paged : Bool) : Dev :=
  let page : Ctr := .drive (if paged then .ixPageReads else .ixCacheHits)
  match b with
  | .none => d
  | .log => d.bump (.drive .ixLogHits) 1
  | .fp => d.bump (.drive .ixFpNegative) 1
  | .cache => d.bump page 1
  | .falsePass => (d.bump page 1).bump (.drive .ixFpFalsePass) 1

/-- The state that the page and the log name, whether or not the page is cached: what Isobar has found by a writer's
completion point (R87). -/
def Dev.lookFull (d : Dev) (n : BitVec 12) (h : BitVec 128) : Look :=
  match d.look n h with
  | .page _ => match d.bucketOf n h with
    | some b => match b.entries.find? (·.hash == h) with
      | some e => e.look
      | none => b.missing
    | none => .absent
  | l => l

/-- The cartridge that takes a bucket's next page: its home; of one on the move, the one that its page lies on (R207). -/
def Bucket.pageHome (b : Bucket) : BayNo :=
  match b.movingFrom with
  | none => b.home
  | some f => if b.pageLoc = 0 then f else locBay b.pageLoc

/-- The cartridge that holds a bucket's page. -/
def Bucket.pageBay (b : Bucket) : BayNo := if b.pageLoc = 0 then b.home else locBay b.pageLoc

/-- Issues the read of an index page for a capsule: one multi-plane die operation (R198); a lookup joins a read in flight (R160). -/
def Dev.readPage (d : Dev) (n : BitVec 12) (lo seq : Nat) : Dev :=
  match d.idx.buckets.find? (fun b => b.ns == n && b.lo == lo) with
  | some b =>
    let want (x : Bucket) : Bucket := { x with wanted := if x.wanted.contains seq then x.wanted else x.wanted ++ [seq] }
    if b.reading then d.modBucket n lo want
    else
      let (id, d1) := d.opId
      (d1.modBucket n lo (fun x => want { x with reading := true, readId := id, wanted := [] })).issueOp
        ⟨id, b.pageBay, b.pageLoc / 2 ^ 42 % 8, [locDie b.pageLoc], .read, 2, 0⟩
  | none => d

/-- The page's read is over or withdrawn. -/
def Dev.endPageRead (d : Dev) (b : Bucket) : Dev :=
  (d.modBucket b.ns b.lo (fun x => { x with reading := false, readId := 0, wanted := [] })).endOp b.readId

/-- Index pages that the index cache holds (R23): 24 GiB. -/
def pageCacheMax : Nat := 196608

/-- Evicts the pages used longest ago while the index cache holds too many (R23): DESIGN CHOICE, log entry 197. A prefetched page that
goes unused is counted (R168). A page that is not on flash yet stays. -/
def Dev.trimPages (d : Dev) : Dev :=
  let have_ := d.idx.buckets.filter (fun b => b.cached && b.pageLoc != 0)
  let n := have_.length - pageCacheMax
  if n = 0 then d
  else
    let out := (have_.mergeSort (fun a b => decide (a.lastUsed ≤ b.lastUsed))).take n
    (out.foldl (fun (d : Dev) (b : Bucket) => d.modBucket b.ns b.lo (fun x => { x with cached := false, prefetched := false })) d).bump
      (.drive .ixPrefetchUnused) (out.filter (·.prefetched)).length

/-- A lookup uses the page of a key: its place in the cache is the newest, and a prefetch has paid (R23, R168). -/
def Dev.usePage (d : Dev) (n : BitVec 12) (h : BitVec 128) (by_ : LookBy) : Dev :=
  if by_ == .cache || by_ == .falsePass then
    match d.bucketOf n h with
    | some b =>
      let d1 := d.modBucket n b.lo (fun x => { x with prefetched := false, lastUsed := d.clk.tick })
      if b.prefetched then d1.bump (.drive .ixPrefetchUsed) 1 else d1
    | none => d
  else d

/-- `EV_FP_REBUILD_DONE` where the last bucket has its fingerprints again, by the rebuild or by a merge (R159); its time is a measured one
(log entry 2). `was`: the state before. -/
def Dev.fpDone (d was : Dev) : Dev :=
  if d.idx.buckets.all (·.fpValid) && !was.idx.buckets.all (·.fpValid) then
    let (v, d2) := d.draw
    d2.raise Ev.fpRebuildDone d2.idx.buckets.length (v.toNat % 2 ^ 32) 0 0
  else d

/-- Withdraws the prefetches that only one capsule has asked for and whose die phase has not begun (R169). -/
def Dev.withdrawPrefetch (d : Dev) (seq : Nat) : Dev :=
  (d.idx.buckets.filter (fun b => b.wanted.contains seq)).foldl (fun (d : Dev) (b : Bucket) =>
    if b.prefetched && b.wanted == [seq] && !d.opBegun b.readId then
      (d.modBucket b.ns b.lo (fun x => { x with prefetched := false })).endPageRead b
    else d.modBucket b.ns b.lo (fun x => { x with wanted := x.wanted.filter (· != seq) })) d

/-! ## Journal and log -/

/-- Records that the ring of the log holds (R152). -/
def ringMax : Nat := 50331648

/-- Log occupancy in per mille, as `EV_LOG_PRESSURE` reports it (R153). -/
def Index.occupancy (i : Index) : Nat := i.log.length * 1000 / ringMax

/-- Occupancy exceeds a share of the ring in per cent. -/
def Index.fuller (i : Index) (pc : Nat) : Bool := decide (pc * ringMax < i.log.length * 100)

/-- Log pressure (R153): from 95 % until the occupancy has fallen to 90 %. -/
def Dev.checkPressure (d : Dev) : Dev :=
  if d.idx.pressure then (if d.idx.fuller 90 then d else { d with idx := { d.idx with pressure := false } })
  else if 95 * ringMax ≤ d.idx.log.length * 100 then
    { d with idx := { d.idx with pressure := true } }.raise Ev.logPressure d.idx.occupancy d.idx.log.length 0 0
  else d

/-- A new journal record of the open epoch; it is not yet programmed. -/
def Dev.newRec (d : Dev) (r : JRec) : Nat × Dev :=
  let j := d.idx.nextJ
  (j, { d with idx := { d.idx with nextJ := j + 1, journal := d.idx.journal ++ [{ r with
    jseq := j, epoch := d.idx.head, sealedKey := d.med.slotKey r.ns }] } })

/-- The journal record with a sequence. -/
def Dev.jrec? (d : Dev) (j : Nat) : Option JRec := d.idx.journal.find? (·.jseq == j)

/-- Changes a journal record. -/
def Dev.modRec (d : Dev) (j : Nat) (f : JRec → JRec) : Dev :=
  { d with idx := { d.idx with journal := d.idx.journal.map (fun r => if r.jseq == j then f r else r) } }

/-- Drops a journal record that will never be committed; a chunk that holds no other is not programmed. -/
def Dev.dropRec (d : Dev) (j : Nat) : Dev :=
  let d1 : Dev := { d with idx := { d.idx with journal := d.idx.journal.filter (·.jseq != j) } }
  match d.jrec? j with
  | some r => if r.ref = 0 || d1.idx.journal.any (fun x => x.ref == r.ref) then d1 else d1.dropProgs (.journal r.ref)
  | none => d1

/-- Bytes of a journal record (R154): the fields of its log record but journal_ref and key_head, 52 bytes
(PRESUMED, log entry 210), and the full key. -/
def JRec.size (r : JRec) : Nat := 52 + r.key.length

/-- Bytes of a journal chunk beside its CRC-32C (R154). -/
def chunkRoom : Nat := 4092

/-- Journal chunks that the staging SRAM holds (R24, R152): 4 MiB. -/
def stagingMax : Nat := 1024

/-- The journal chunk of a cartridge that is still being built: its program has not begun, and a record of some bytes fits it. -/
def Dev.openChunk (d : Dev) (bay : BayNo) (need : Nat) : Option Nat :=
  d.idx.staging.find? (fun l => locBay l == bay &&
    d.med.progs.any (fun p => p.what == .journal l && !d.opBegun p.id) && !d.med.progs.any (fun p => p.what == .journal l && d.opBegun p.id) &&
    decide (((d.idx.journal.filter (·.ref == l)).map JRec.size).sum + need ≤ chunkRoom))

/-- A record that is no state of a key: the log never holds it (R104, R119, R241). -/
def JKind.isItem : JKind → Bool
  | .upload | .part | .reservation | .wear => true
  | _ => false

/-- A record may take of the metadata margin (R224): deletions and relocations. -/
def JKind.freely : JKind → Bool
  | .deletion | .relocation => true
  | _ => false

/-- Every record of a held journal chunk is committed and its program has passed (R152). -/
def Dev.chunkSettled (d : Dev) (l : Nat) : Bool :=
  !d.programming (.journal l) && (d.idx.journal.filter (·.ref == l)).all (fun r => r.programmed && r.committed)

/-- The staging SRAM with room for one more chunk: where it is full, the chunk with the oldest program that is settled leaves it (R152); nothing
where every chunk must stay. -/
def Dev.stagingRoom (d : Dev) : Option (List Nat) :=
  if d.idx.staging.length < stagingMax then some d.idx.staging
  else (d.idx.staging.reverse.find? d.chunkSettled).map (fun l => d.idx.staging.filter (· != l))

/-- The item of a band's filter and summary that a record makes: its key's (R226). -/
def JRec.item (r : JRec) : List (BitVec 12 × BitVec 128) :=
  match r.kind with
  | .reservation | .wear => []
  | _ => [(r.ns, r.hash)]

/-- Places a record in a cartridge's journal stream (R154, R207): it joins the chunk being built, or a new chunk is placed and its program
issued. The chunk's location; nothing where no position can be had. -/
def Dev.placeRec (d : Dev) (bay : BayNo) (group : Nat) (r : JRec) : Option (Nat × Dev) :=
  match d.openChunk bay r.size with
  | some l => some (l, d.modBay bay (fun b => b.modBand (locGroup l) (locBlock l) (fun y => { y with items := (y.items ++ r.item).dedup })))
  | none =>
    match d.stagingRoom, d.alloc bay .journal group 1 r.item r.kind.freely with
    | some held, some (block, pos, d1) =>
      let l := (d1.bays.get bay).posLoc bay.val group block pos
      let d2 := d1.issueRun bay .journal group block pos 1 (.journal l)
      some (l, { d2 with idx := { d2.idx with staging := l :: held } })
    | _, _ => none

/-- Enters a committed record in the log (R152): an older version never replaces a newer one (R128). -/
def Dev.enterLog (d : Dev) (r : JRec) : Dev :=
  match d.logRec r.ns r.hash with
  | some o =>
    if r.version < o.version then d else { d with idx := { d.idx with log := r :: d.idx.log } }
  | none => { d with idx := { d.idx with log := r :: d.idx.log } }

/-- Enters a record that the drive makes by itself, of a lost state or a deletion: it takes its place in its cartridge's journal stream, and its
state holds from now on; it is committed once its chunk has been programmed (R154; log entry 207). Where no position can be had the log alone
holds it. -/
def Dev.commitNew (d : Dev) (r : JRec) : Dev :=
  (match d.placeRec r.bay (d.idx.nextJ % 8) r with
    | some (l, d1) =>
      let (j, d2) := d1.newRec { r with ref := l }
      d2.enterLog { r with jseq := j, ref := l, epoch := d.idx.head }
    | none => d.enterLog { r with jseq := d.idx.nextJ, epoch := d.idx.head }).checkPressure

/-- The program of a journal chunk has passed (R154): its records may be committed; those that wait for nothing else are. -/
def Dev.chunkPassed (d : Dev) (l : Nat) : Dev :=
  let alone (r : JRec) : Bool := r.writer.isNone && (r.kind == .lost || r.kind == .deletion)
  { d with idx := { d.idx with journal := d.idx.journal.map (fun r =>
    if r.ref == l then { r with programmed := true, committed := r.committed || alone r } else r) } }

/-- A record of the journal that the log never holds (R119, R154): it is on medium when the command that makes it ends, DESIGN CHOICE, log
entry 234. -/
def Dev.journalItem (d : Dev) (r : JRec) : Dev :=
  match d.placeRec r.bay (d.idx.nextJ % 8) r with
  | none => d
  | some (l, d1) =>
    let (j, d2) := d1.newRec { r with ref := l }
    d2.modRec j (fun x => { x with programmed := true, committed := true })

/-- The home of a key's bucket, or bay 0. -/
def Dev.homeOf (d : Dev) (n : BitVec 12) (h : BitVec 128) : BayNo :=
  match d.bucketOf n h with
  | some b => b.home
  | none => 0

/-- A record of a kind for a key, without the fields the journal assigns. -/
def mkRec (kind : JKind) (n : BitVec 12) (h : BitVec 128) (key : Bytes) (version loc gen len : Nat) (bay : BayNo)
    (writer : Option Nat) : JRec :=
  { jseq := 0, ref := 0, kind := kind, ns := n, hash := h, key := key, version := version, loc := loc, gen := gen, len := len, bay := bay,
    epoch := 0, programmed := false, committed := false, writer := writer, sealedKey := 0 }

/-! ## Merges (R148, R155) -/

/-- Inserts an entry in ascending key-hash order, replacing one of the same hash. -/
def insertEntry (e : Entry) : List Entry → List Entry
  | [] => [e]
  | x :: rest =>
    if x.hash == e.hash then e :: rest
    else if e.hash.toNat < x.hash.toNat then e :: x :: rest
    else x :: insertEntry e rest

/-- Applies a log record to a page's entries. -/
def applyRec (es : List Entry) (r : JRec) : List Entry :=
  match r.kind with
  | .deletion => es.filter (·.hash != r.hash)
  | .lost => insertEntry ⟨r.hash, r.key, r.version, 0, 0, 0, true, locTwin 0⟩ es
  | .value | .relocation => insertEntry ⟨r.hash, r.key, r.version, r.loc, r.gen, r.len, false, locTwin r.loc⟩ es
  | .upload | .part | .reservation | .wear => es

/-- The log records of a bucket, oldest first. -/
def Dev.bucketLog (d : Dev) (b : Bucket) : List JRec := (d.idx.log.filter (fun r => b.covers r.ns r.hash)).reverse

/-- Bytes of a list of entries. -/
def entryBytes (es : List Entry) : Nat := (es.map Entry.size).sum

/-- Cuts entries where their high 64 bits pass a bound. -/
def cutEntries (at_ : Nat) (es : List Entry) : List Entry × List Entry :=
  (es.filter (fun e => decide (high64 e.hash < at_)), es.filter (fun e => decide (at_ ≤ high64 e.hash)))

/-- Splits a bucket while it exceeds 1,024 entries or 131,008 bytes (R148): at the median high-64 value. -/
def splitBucket (b : Bucket) : Nat → List Bucket
  | 0 => [b]
  | fuel + 1 =>
    if b.entries.length ≤ 1024 ∧ entryBytes b.entries ≤ 131008 then [b]
    else
      let m := match b.entries[b.entries.length / 2]? with
        | some e => high64 e.hash
        | none => b.lo
      if m ≤ b.lo then [b]
      else
        let p := cutEntries m b.entries
        splitBucket { b with hi := m - 1, entries := p.1 } fuel ++ splitBucket { b with lo := m, entries := p.2 } fuel

/-- The new page images of a bucket in the tail of an epoch: every log record applied (R155). An entry with a bad twin is
repaired from a mirror partner that is linked (R150). -/
def Dev.mergeBucket (d : Dev) (epoch : Nat) (b : Bucket) : List Bucket :=
  let recs := d.bucketLog b
  let mirrored := d.mir.nss.any (·.ns == b.ns) && d.mir.state == .linked
  let es := (recs.foldl applyRec b.entries).map (fun e => if mirrored then { e with twin := locTwin e.loc } else e)
  let through := recs.foldl (fun m r => max m r.jseq) b.mergedThrough
  splitBucket { b with entries := es, mergedThrough := through, epoch := epoch, fpValid := true, reading := false, twinOnce := none } 32

/-- The oldest epoch of a bucket's unmerged records. -/
def Dev.oldestEpoch (d : Dev) (b : Bucket) : Option Nat :=
  (d.bucketLog b).foldl (fun m r => match m with
    | none => some r.epoch
    | some e => some (min e r.epoch)) none

/-- Two adjacent buckets whose combined entries fit one page (R148). -/
def fitPair (a b : Bucket) : Bool :=
  a.ns == b.ns && a.hi + 1 == b.lo && a.home == b.home && !a.pageLost && !b.pageLost && a.lostHome == b.lostHome && a.movingFrom == b.movingFrom &&
    decide (a.entries.length + b.entries.length ≤ 1024) && decide (entryBytes a.entries + entryBytes b.entries ≤ 131008)

/-- Disjoint pairs of adjacent buckets that fit one page, at most `n` of them (R148). -/
def adjacentPairs : Nat → List Bucket → List (Bucket × Bucket)
  | n + 1, a :: b :: rest => if fitPair a b then (a, b) :: adjacentPairs n rest else adjacentPairs (n + 1) (b :: rest)
  | _, _ => []

/-- The buckets in the order of their ranges. -/
def Index.sorted (i : Index) : List Bucket :=
  i.buckets.mergeSort (fun a b => decide (a.ns.toNat * 2 ^ 64 + a.lo ≤ b.ns.toNat * 2 ^ 64 + b.lo))

/-- A cartridge's free metadata pages, the margin excluded, are below 5 % of its usable places (R209, R224). -/
def Dev.metaLow (d : Dev) (bay : BayNo) : Bool :=
  decide (((d.bays.get bay).metaSlots / 32 - d.pnum P.mediaMetaMargin) * 20 < 16252928)

/-- One more entry with a key of `klen` bytes takes a bucket, with its log, over a bound of its page (R148). -/
def Dev.needsSplit (d : Dev) (b : Bucket) (klen : Nat) : Bool :=
  let es := (d.bucketLog b).foldl applyRec b.entries
  decide (1024 < es.length + 1) || decide (131008 < entryBytes es + 48 + 8 * ceilDiv klen 8)

/-- Buckets that the log records not yet merged will add by splits (R148). -/
def Dev.splitsDue (d : Dev) : Nat := (d.idx.buckets.map (fun b => (d.mergeBucket 0 b).length - 1)).sum

/-- A new key would need a split that the map or the metadata set cannot take, with the splits already due (R148, R224); disjoint pairs that
fit one page make room first. -/
def Dev.indexFull (d : Dev) (n : BitVec 12) (h : BitVec 128) (klen : Nat) : Bool :=
  match d.bucketOf n h with
  | none => false
  | some b =>
    if !d.needsSplit b klen then false
    else
      let over_ := d.idx.buckets.length + d.splitsDue + 1 - 67108864
      let pairs := (adjacentPairs (over_ + 1) d.idx.sorted).length
      decide (pairs < over_) || (!d.marginLeaves b.home 32 && pairs == 0)

/-! ## What a band holds (R226) -/

/-- The authoritative state of a copy's key names it (R213). -/
def Dev.names (d : Dev) (c : Copy) : Bool :=
  match d.lookFull c.ns c.hash with
  | .present _ loc gen _ _ => loc == c.loc && gen == c.gen
  | _ => false

/-- The live values of a band: whole values, by their first chunk's state (R213). -/
def Dev.liveIn (d : Dev) (bay : BayNo) (group block : Nat) : List Copy :=
  d.med.copies.filter (fun c => c.programmed && !c.dead && c.inBand bay group block && d.names c)

/-- A bucket's page lies in a band. -/
def pageIn (bay : BayNo) (b : Nat × Nat) (k : Bucket) : Bool :=
  k.pageLoc != 0 && locBay k.pageLoc == bay && locGroup k.pageLoc == b.1 && locBlock k.pageLoc == b.2

/-- Every index page that is named or about to be. -/
def Index.pages (i : Index) : List Bucket :=
  i.buckets ++ i.durable ++ (match i.tail with
    | some t => t.pages
    | none => [])

/-- The three bits of a key-hash filter that an item sets (R226). -/
def filterBits (h : BitVec 128) : List Nat := [h.toNat % 2 ^ 19, h.toNat / 2 ^ 19 % 2 ^ 19, h.toNat / 2 ^ 38 % 2 ^ 19]

/-- The key-hash filter of a band passes a key (R226). -/
def Band.filterPasses (x : Band) (h : BitVec 128) : Bool :=
  (filterBits h).all (fun i => x.items.any (fun k => (filterBits k.2).contains i))

/-- A band holds a copy of a key, as its filter and then its summary say (R226): an item of the key's 48 bits, or an index page whose ends, in
48 bits, enclose it. -/
def Band.holdsKey (x : Band) (n : BitVec 12) (h : BitVec 128) : Bool :=
  (x.filterPasses h && x.items.any (fun k => k.1 == n && high48 k.2 == high48 h)) ||
    x.pages.any (fun p => p.1 == n && decide (p.2.1 / 2 ^ 16 ≤ high64 h / 2 ^ 16) && decide (high64 h / 2 ^ 16 ≤ p.2.2 / 2 ^ 16))

/-- The bands of a cartridge found for a key (R225 step 1). -/
def Dev.foundBands (d : Dev) (bay : BayNo) (n : BitVec 12) (h : BitVec 128) : List (Nat × Nat) :=
  ((d.bays.get bay).bands.filter (fun x => x.holdsKey n h)).map (fun x => (x.group, x.block))

/-- A log record is included in a page named by now. -/
def includedIn (bs : List Bucket) (r : JRec) : Bool := bs.any (fun b => b.covers r.ns r.hash && decide (r.jseq ≤ b.mergedThrough))

/-- A replay needs a record, with some pages named (R155, R158): a state that no page includes, an open upload and its parts, a cartridge's newest
reservation, a wear count that the next wear map has not taken yet (log entry 236). -/
def Index.needs (i : Index) (bs : List Bucket) (r : JRec) : Bool :=
  match r.kind with
  | .upload | .part => i.uploads.any (fun u => u.id == r.version)
  | .reservation => !i.journal.any (fun x => x.kind == .reservation && x.bay == r.bay && decide (r.jseq < x.jseq))
  | .wear => decide (i.head ≤ r.epoch)
  | _ => !includedIn bs r

/-- The journal records of other keys that lie in a band and that a replay still needs (R225 step 4). -/
def Dev.recsIn (d : Dev) (bay : BayNo) (b : Nat × Nat) : List JRec :=
  d.idx.journal.filter (fun r => r.ref != 0 && locBay r.ref == bay && locGroup r.ref == b.1 && locBlock r.ref == b.2 &&
    decide (d.idx.replayStart ≤ r.jseq) && d.idx.needs d.idx.durable r)

/-- A part of an open upload lies in a band. -/
def partIn (bay : BayNo) (b : Nat × Nat) (p : Part) : Bool :=
  p.runs.any (fun r => locBay r.1 == bay && locGroup r.1 == b.1 && locBlock r.1 == b.2)

/-- Main and metadata bands that what has to leave the found bands of one cartridge and die group may take, but for the key's own (R225
step 2). It is relocated within the die group; each found band may leave a row that is not full, each new band its last run's places. -/
def Dev.roomFor (d : Dev) (n : BitVec 12) (h : BitVec 128) (bay : BayNo) (group : Nat) (found : List (BayNo × Nat × Nat)) : Nat × Nat :=
  let mine := (found.filter (fun b => b.1 == bay && b.2.1 == group)).map (fun b => b.2)
  let cs := (mine.flatMap (fun b => (d.liveIn bay b.1 b.2).filter (fun c => c.ns != n || c.hash != h))).dedup
  let parts := (mine.flatMap (fun b => d.idx.uploads.flatMap (fun u => u.parts.filter (partIn bay b)))).dedup
  let pages := (mine.flatMap (fun b => (d.idx.pages.filter (pageIn bay b)).map (·.pageLoc))).dedup
  let recs := (mine.flatMap (fun b => ((d.recsIn bay b).filter (fun r => r.ns != n || r.hash != h)).map (·.ref))).dedup
  let dies := ((d.bays.get bay).liveDies group).length - 1
  let chunks := (cs.map (fun c => chunkCount c.bytes.length + 1)).sum + (parts.map (fun p => chunkCount p.bytes.length)).sum
  (if chunks = 0 then 0 else ceilDiv (chunks + 64 * dies * mine.length) (max 1 (65536 * dies - 2048)),
    ceilDiv pages.length (max 1 (512 * dies)) + ceilDiv recs.length (max 1 (16384 * dies)))

/-- The cartridges that hold copies of a key: its home, and where its bucket moves from (R225, R255). -/
def Dev.keyBays (d : Dev) (n : BitVec 12) (h : BitVec 128) : List BayNo :=
  match d.bucketOf n h with
  | some b => b.home :: b.movingFrom.toList
  | none => []

/-- The bands found for a key on them. -/
def Dev.foundFor (d : Dev) (n : BitVec 12) (h : BitVec 128) : List (BayNo × Nat × Nat) :=
  (d.keyBays n h).flatMap (fun b => (d.foundBands b n h).map (fun x => (b, x)))

/-- The relocation space that the found bands need, by cartridge and die group: main bands, or metadata bands. -/
def Dev.roomList (d : Dev) (n : BitVec 12) (h : BitVec 128) (isMeta : Bool) (found : List (BayNo × Nat × Nat)) : List (BayNo × Nat × Nat) :=
  ((found.map (fun b => (b.1, b.2.1))).dedup.map (fun g =>
    let need := d.roomFor n h g.1 g.2 found
    (g.1, g.2, if isMeta then need.2 else need.1))).filter (fun r => decide (0 < r.2.2))

/-- The relocation space of a secure deletion can be reserved beside what others hold (R225 step 2). -/
def Dev.secureRoom (d : Dev) (n : BitVec 12) (h : BitVec 128) : Bool :=
  let found := d.foundFor n h
  [true, false].all (fun isMeta => (d.roomList n h isMeta found).all (fun r =>
    decide (d.roomHeld r.1 isMeta r.2.1 + r.2.2 ≤ (d.bays.get r.1).freeIn isMeta r.2.1)))

/-- The job of a secure deletion: the bands found and the space reserved; the list is journalled before the deletion is accepted (R225
steps 1 and 2, R228). -/
def Dev.secureJob (d : Dev) (seq : Nat) (n : BitVec 12) (h : BitVec 128) (st : BitVec 16) : SecureJob :=
  let found := d.foundFor n h
  { seq := seq, ns := n, hash := h, bay := d.homeOf n h, bands := found, total := found.length, since := d.clk.tick,
    roomMain := d.roomList n h false found, roomMeta := d.roomList n h true found, accepted := false, restarted := false, status := st,
    version := seq }

/-- Buckets of a new namespace: one for each cartridge in service, dividing the range equally (R207). -/
def newBuckets (n : BitVec 12) (homes : List BayNo) : List Bucket :=
  let k := max 1 homes.length
  homes.zipIdx.map (fun p =>
    { ns := n, lo := p.2 * 2 ^ 64 / k, hi := (p.2 + 1) * 2 ^ 64 / k - 1, home := p.1, entries := [], mergedThrough := 0,
      epoch := 0, pageLoc := 0, cached := true, lastUsed := 0, reading := false, readId := 0, wanted := [], prefetched := false, fpValid := true, twinOnce := none,
      pageLost := false, lostHome := [], movingFrom := none, dirty := false })

end Sys2Proof.Machine
end

