-- ==== Sys2Proof/Machine/MirrorBase.lean ====
section
/-! DEFINITION. What the data path asks of a mirrored pair: roles and namespace states (R288, R292), the records a lead sends
(R293, R295), the read permit and the partner reads (R297, R298), the refusals of R310. -/

namespace Sys2Proof.Machine

/-- A namespace state's value (R292). -/
def NsState.num : NsState → Nat
  | .unmirrored => 0
  | .joining => 1
  | .inSync => 2
  | .resync => 3
  | .solo => 4
  | .stale => 5
  | .waiting => 6
  | .fenced => 7

/-- A pair state's value (R288). -/
def PairState.num : PairState → Nat
  | .unpaired => 0
  | .connecting => 1
  | .linked => 2
  | .peerLost => 3

/-- The mirrored namespace with an ID. -/
def Dev.mirror? (d : Dev) (n : BitVec 12) : Option MirrorNs := d.mir.nss.find? (·.ns == n)

/-- Changes a mirrored namespace. -/
def Dev.modMirror (d : Dev) (n : BitVec 12) (f : MirrorNs → MirrorNs) : Dev :=
  { d with mir := { d.mir with nss := d.mir.nss.map (fun m => if m.ns == n then f m else m) } }

/-- Role of a namespace on this drive (R291). -/
def roleNum (m : Option MirrorNs) : Nat :=
  match m with
  | none => 0
  | some x => if x.lead then 1 else 2

/-- Puts a namespace in a state and raises `EV_MIRROR_STATE` (R292, R313). -/
def Dev.setNsState (d : Dev) (n : BitVec 12) (st : NsState) : Dev :=
  match d.mirror? n with
  | none => d
  | some m =>
    if m.st = st then d
    else (d.modMirror n (fun x => { x with prev := x.st, st := st })).raise Ev.mirrorState n.toNat m.st.num st.num
      (roleNum (some m))

/-- The drives are linked. -/
def Dev.linked (d : Dev) : Bool := d.mir.state == .linked

/-! ## Frames to the partner (R286) -/

/-- The data a record carries: the value of its version, from Drift or from the medium (R293, R295). -/
def Dev.recData (d : Dev) (r : RepRec) : Bytes :=
  match d.que.drift.find? (fun v => v.ns == r.ns && v.hash == r.hash && v.seq == r.version) with
  | some v => (v.content.getD []).drop r.offset |>.take r.len
  | none => match d.med.copies.find? (fun c => c.ns == r.ns && c.hash == r.hash && c.version == r.version && !c.dead) with
    | some c => ((d.plainOf c).drop r.offset).take r.len
    | none => match d.idx.uploads.find? (·.id == r.uploadId) with
      | some u => match u.parts.find? (fun p => p.seq == r.version) with
        | some p => p.bytes
        | none => []
      | none => []

/-- Bytes of a record in the replication stream (R293). -/
def RepRec.size (r : RepRec) : Nat := 48 + r.key.length + r.len

/-- Marks the bucket of a key dirty (R309). -/
def Dev.markDirty (d : Dev) (n : BitVec 12) (h : BitVec 128) : Dev :=
  { d with idx := { d.idx with buckets := d.idx.buckets.map (fun b => if b.covers n h then { b with dirty := true } else b) } }

/-- A record that is no longer to be sent: its bucket is reconciled instead (R309). -/
def Dev.cwDropRec (d : Dev) (r : RepRec) : Dev :=
  (d.modMirror r.ns (fun m => { m with unapplied := m.unapplied.filter (fun x => !(x.version == r.version && x.kind == r.kind)) })).markDirty
    r.ns r.hash

/-- Puts a record into frames of its namespace's stream (R286, R293). -/
def Dev.cwPut (d : Dev) (r : RepRec) : Dev :=
  let b := d.recData r
  d.cwSend .data r.ns.toNat (cwRecBytes r.kind r.ns r.version r.valueLength r.offset r.uploadId r.key b) (.cwRecord r b)

/-- Sends one record. -/
def Dev.cwSendRec (d : Dev) (r : RepRec) : Dev :=
  (d.cwPut r).modMirror r.ns (fun m => { m with
    unapplied := m.unapplied.map (fun x => if x.version == r.version && x.kind == r.kind then { x with sent := true } else x) })

/-- A record may go: the partner's credit holds it, and no writer sequenced before it in its namespace is unresolved, so that the records
go in ingress order (R293). -/
def Dev.cwMay (d : Dev) (r : RepRec) : Bool :=
  d.linked && decide (d.mir.streamPos + r.size ≤ d.mir.peerCredit) &&
    !d.que.caps.any (fun c => c.unresolved && c.hdr.ns == r.ns && decide (c.seq < r.version))

/-- Sends records in their order, as far as they may go. A record whose data is neither in Drift nor on the medium any more is
dropped. -/
def Dev.cwSendRecs (d : Dev) : List RepRec → Dev
  | [] => d
  | r :: rest =>
    if r.len != 0 && (d.recData r).isEmpty then (d.cwDropRec r).cwSendRecs rest
    else if d.cwMay r then (d.cwSendRec r).cwSendRecs rest
    else d

/-- Sends the records of a namespace that wait. -/
def Dev.cwPumpNs (d : Dev) (n : BitVec 12) : Dev :=
  match d.mirror? n with
  | some m => d.cwSendRecs (m.unapplied.filter (fun r => !r.sent))
  | none => d

/-- Sends the records that wait for credit or for an earlier writer, in order for each namespace. -/
def Dev.cwPump (d : Dev) : Dev := d.mir.nss.foldl (fun (d : Dev) (m : MirrorNs) => d.cwPumpNs m.ns) d

/-- A record takes its place among those not yet sent, by its version (R293). -/
def orderRec (r : RepRec) : List RepRec → List RepRec
  | [] => [r]
  | x :: rest => if !x.sent && decide (r.version < x.version) then r :: x :: rest else x :: orderRec r rest

/-- The lead replicates a record of a mirrored namespace (R293). In asynchronous replication more than
`mirror.async_queue_max` records drop the oldest, whose buckets become dirty (R295). -/
def Dev.replicate (d : Dev) (r : RepRec) : Dev :=
  match d.mirror? r.ns with
  | none => d
  | some m =>
    if m.lead then
      let d1 := d.modMirror r.ns (fun x => { x with
        unapplied := orderRec r x.unapplied, newest := max x.newest r.version,
        securePending := if r.kind == 4 then x.securePending ++ [r] else x.securePending })
      let full := !m.sync && decide (d.pnum P.mirrorAsyncQueueMax < m.unapplied.length + 1)
      let d2 := if full then
          match m.unapplied with
          | o :: _ => ((d1.modMirror r.ns (fun x => { x with unapplied := x.unapplied.drop 1 })).markDirty r.ns o.hash
              ).setNsState r.ns .resync
          | [] => d1
        else if d.linked then d1 else d1.markDirty r.ns r.hash
      d2.cwPumpNs r.ns
    else d

/-! ## What a mirrored namespace refuses (R302, R303, R310) -/

/-- The status that a capsule on a mirrored namespace ends with before it executes; nothing where it executes. `write`: a writer
or an upload opcode; `secure`: a `DELETE` with SECURE, which JOINING refuses as well: DESIGN CHOICE, log entry 219. -/
def Dev.mirrorGate (d : Dev) (n : BitVec 12) (write secure : Bool) : Option (BitVec 16) :=
  match d.mirror? n with
  | none => none
  | some m =>
    if m.st = .fenced then some Status.unavailable
    else if write && m.refusedNew then some Status.unavailable
    else if secure && (m.st == .solo || m.st == .waiting || m.st == .joining || (m.st == .resync && m.sync)) then
      some Status.unavailable
    else none

/-- A writer of the namespace waits for the follower before its completion point (R295). -/
def Dev.mirrorWaits (d : Dev) (n : BitVec 12) : Bool :=
  match d.mirror? n with
  | none => false
  | some m => m.lead && m.st != .solo && (m.sync || m.st == .waiting)

/-- Early acknowledgement is barred: synchronous replication (R132), and a namespace that acknowledges nothing (R299). -/
def Dev.syncMirrored (d : Dev) (n : BitVec 12) : Bool :=
  match d.mirror? n with
  | none => false
  | some m => m.sync || m.st == .waiting

/-- A handover holds back the writes of a namespace (R306 step 1). -/
def Dev.handoverHolds (d : Dev) (n : BitVec 12) : Bool :=
  match d.mir.handover with
  | none => false
  | some h => h.nss.contains n

/-- A drive that has claimed a namespace holds a SECURE_DELETE record that it has not executed: it accepts no writes before (R310). -/
def Dev.claimSecures (d : Dev) (n : BitVec 12) : Bool :=
  (d.mirror? n).any (·.lead) && d.que.drift.any (fun v => v.ns == n && v.secure && v.sid == 0)

/-- Sends a role record (R290, R306). R306 names the record of a handover; that the same record tells the follower of JOIN, SET_MODE and UNJOIN is a
DESIGN CHOICE, log entry 66. -/
def Dev.cwSendRole (d : Dev) (rs : List RoleEntry) (epoch : Nat) : Dev :=
  let one (e : RoleEntry) : Bytes := natToBytesBE 2 e.ns.toNat ++ natToBytesBE 1 (match e.role with
    | .ordinary => 0
    | .lead => 1
    | .follow sync lossy => 2 + 4 * sync.toNat + 8 * lossy.toNat)
  d.cwSend .data cwCtl (Config.cwBody 3 (natToBytesBE 8 epoch ++ rs.flatMap one)) (.cwRole rs epoch)

/-- Sends APPLIED (R293): the watermark, then the versions; a failure is told behind them (log entry 218). -/
def Dev.cwApply (d : Dev) (n : BitVec 12) (watermark : Nat) (vs : List Nat) (failed : Option (Nat × Nat)) : Dev :=
  let b := natToBytesBE 8 watermark ++ vs.flatMap (natToBytesBE 8) ++ (match failed with
    | some (v, st) => natToBytesBE 8 v ++ natToBytesBE 2 st
    | none => [])
  d.cwSend .data n.toNat (cwRecBytes 12 n 0 0 0 0 [] b) (.cwApplied n watermark vs failed)

/-- A record fails to apply on the follower (R294): APPLIED reports it, the copy is STALE, `EV_APPLY_FAIL` is raised. -/
def Dev.applyFail (d : Dev) (n : BitVec 12) (h : BitVec 128) (version : Nat) (st : BitVec 16) : Dev :=
  match d.mirror? n with
  | none => d
  | some m =>
    let d1 := ((d.modMirror n (fun x => { x with failedKeys := x.failedKeys ++ [(h, version)] })).setNsState n .stale).raise Ev.applyFail n.toNat
      st.toNat (version % 2 ^ 32) 0
    d1.cwApply n m.watermark [] (some (version, st.toNat))

/-! ## Reads (R297, R298) -/

/-- The follower holds a read permit (R297): the heartbeat that the lead has echoed, and with it the echo, is no older than
`mirror.peer_loss_ms`. -/
def Dev.readPermit (d : Dev) : Bool :=
  match d.mir.permitSince with
  | none => false
  | some t => d.linked && decide (d.clk.tick ≤ t + 1000 * d.pnum P.mirrorPeerLossMs)

/-- This drive follows the namespace. -/
def Dev.follows (d : Dev) (n : BitVec 12) : Bool :=
  match d.mirror? n with
  | none => false
  | some m => !m.lead

/-- The follower may serve the namespace's reads from its own copy (R297). -/
def Dev.followerServes (d : Dev) (n : BitVec 12) : Bool :=
  match d.mirror? n with
  | none => true
  | some m => m.lead || (m.sync && m.st == .inSync && d.pflag P.mirrorFollowerReads && d.readPermit)

/-- Sends a capsule's read to the partner (R297, R298). -/
def Dev.partnerRead (d : Dev) (c : Cap) (version : Option Nat) (alone : BitVec 16) : Dev :=
  let id := d.mir.nextRead
  let d1 := { d with mir := { d.mir with nextRead := id + 1, reads := d.mir.reads ++ [(⟨id, c.seq, version, alone⟩ : PartnerRead)] } }
  let b := natToBytesBE 8 id ++ natToBytesBE 2 c.hdr.ns.toNat ++ natToBytesBE 2 c.hdr.opcode.toNat ++ natToBytesBE 8 c.hdr.offset.toNat ++
    natToBytesBE 8 c.hdr.valueLen.toNat ++ natToBytesBE 8 (version.getD 0) ++ c.key
  (d1.modCap c (fun x => { x with forwarded := true })).cwSend .data cwCtl (Config.cwBody 2 b)
    (.cwRead id c.hdr.ns c.key version c.hdr.opcode c.hdr.offset.toNat c.hdr.valueLen.toNat)

/-- The partner may serve what this drive cannot read: the namespace is led here and the pair is linked (R298). -/
def Dev.partnerCan (d : Dev) (n : BitVec 12) : Bool :=
  match d.mirror? n with
  | none => false
  | some m => m.lead && d.linked

/-! ## The witness, and a reset of this drive (R300, R302, R311) -/

/-- A witness is configured (R302). -/
def Dev.witnessed (d : Dev) : Bool := !(d.par.value P.mirrorWitnessAddr).isEmpty

/-- A request's number (R300). -/
def WitMsg.num : WitMsg → Nat
  | .renew => 1
  | .solo => 2
  | .claim => 3
  | .release => 4
  | .handover => 5

/-- The 448 bytes of a request to the witness (R300); `salt`: the draw of its signature. -/
def Dev.witnessBytes (d : Dev) (msg : WitMsg) (nonce : BitVec 128) (forced : Bool) (salt : Nat) : Bytes :=
  let h := natToBytesBE 2 0x5754 ++ natToBytesBE 1 msg.num ++ zeroBytes 1 ++ natToBytesBE 4 (d.pnum P.mirrorLeaseMs) ++
    natToBytesBE 8 d.mir.pairId.toNat ++ natToBytesBE 16 Config.driveSerial.toNat ++ natToBytesBE 8 d.mir.epoch ++
    natToBytesBE 16 nonce.toNat ++ natToBytesBE 4 (4 * forced.toNat) ++ zeroBytes 4
  h ++ natToBytesBE 384 (Config.identitySign salt h).toNat

/-- Emits a request to the witness, as it was made, at `mirror.witness_addr` and `mirror.witness_port` (R300). -/
def Dev.emitWitness (d : Dev) (r : WitReq) : Dev :=
  d.emitOut (.witness (d.par.value P.mirrorWitnessAddr) (d.pnum P.mirrorWitnessPort) r.msg r.nonce r.forced r.bytes)

/-- Sends a request to the witness with a fresh nonce; a request of the same kind not yet answered is replaced (R300). -/
def Dev.witnessSend (d : Dev) (msg : WitMsg) (forced : Bool) : Dev :=
  let (v, d1) := d.draw
  let r : WitReq := ⟨msg, v.setWidth 128, forced, d.clk.tick, 0, d1.witnessBytes msg (v.setWidth 128) forced d1.fresh⟩
  ({ d1 with mir := { d1.mir with reqs := d1.mir.reqs.filter (fun (q : WitReq) => q.msg != msg) ++ [r] } } : Dev).emitWitness r

/-- The writers of a namespace that are resolved and not acknowledged wait for the partner (R302). -/
def Dev.holdWriters (d : Dev) (n : BitVec 12) : Dev :=
  let part (p : Part) : Part := if (d.capBySeq p.seq).isSome then { p with mirrorWait := true } else p
  { d with
    que := { d.que with drift := d.que.drift.map (fun v => if v.ns == n && !v.done then { v with mirrorWait := true } else v) },
    idx := { d.idx with uploads := d.idx.uploads.map (fun u => if u.ns == n then { u with parts := u.parts.map part } else u) } }

/-- Lead namespaces whose lease has lapsed are FENCED; while the link is down, what is resolved in them does not complete (R302). -/
def Dev.fence (d : Dev) : Dev :=
  let ls := d.mir.led
  let d0 := if d.linked then d else ls.foldl (fun (d : Dev) (m : MirrorNs) => d.holdWriters m.ns) d
  let d1 : Dev := { d0 with mir := { d0.mir with leaseUntil := none, fenced := true } }
  let d2 := ls.foldl (fun (d : Dev) (m : MirrorNs) => d.setNsState m.ns .fenced) d1
  d2.raise Ev.fenced ls.length ((d.clk.tick - d.mir.lastGrant) / 1000) 0 0

/-- The buckets whose LIST has not been answered are dirty again (R309). -/
def Dev.markListed (d : Dev) (m : MirrorNs) : Dev :=
  if m.lead then
    { d with idx := { d.idx with buckets := d.idx.buckets.map (fun b =>
      if b.ns == m.ns && m.listing.any (fun l => decide (b.lo ≤ l) && decide (l ≤ b.hi)) then { b with dirty := true } else b) } }
  else d

/-- The pair after a reset of this drive (R311: for the partner a peer loss): the link has to be made anew; the records that lay
in Drift are reconciled by their buckets. A namespace led here waits for the partner; a lease that Vane no longer holds leaves it
FENCED until the next grant (log entry 30). -/
def Dev.mirrorReset (d : Dev) (vane : Bool) : Dev :=
  let d0 := d.mir.nss.foldl (fun (d : Dev) (m : MirrorNs) =>
    (m.unapplied.foldl (fun (d : Dev) (r : RepRec) => d.markDirty r.ns r.hash) d).markListed m) d
  let one (m : MirrorNs) : MirrorNs :=
    { m with
      unapplied := [], listing := [], soloGranted := false, refusedNew := false, lagWarned := false, waitSince := none,
      st := if m.lead && !(m.st == .solo || m.st == .fenced) then .waiting else m.st,
      prev := if m.lead && !(m.st == .solo || m.st == .fenced) then m.st else m.prev }
  let m := d0.mir
  let d1 : Dev := { d0 with mir := { m with
    state := if m.state = .unpaired then .unpaired else .connecting,
    lostSince := none, helloRetry := false, txNext := 0, rxCum := 0, rxGot := [], unacked := [], peerCum := 0, rto := 0,
    srtt := none, rttvar := 0, expiries := 0, streamPos := 0, peerCredit := 0, rxPos := 0, held := [], hello := none,
    peerHello := [], keys := none, hbSeq := 0, hbSent := [], hbPeer := 0, lastRx := 0,
    committed := 0, permitSince := none, nss := m.nss.map one, reqs := [], handover := none, promote := none, reads := [],
    leaseUntil := if vane then none else m.leaseUntil } }
  let d2 := if vane && d1.witnessed && m.state != .unpaired && !d1.mir.led.isEmpty then d1.fence else d1
  if d2.witnessed && m.state != .unpaired then d2.witnessSend .renew false else d2

end Sys2Proof.Machine
end

