-- ==== Sys2Proof/Machine/Writers.lean ====
section
/-! DEFINITION. Writers: their conditions (R94 to R99, R106), charges (R87, R91), entry in Drift (R126), completion points
(R131 to R135), failure (R126, R251), loss and the deferred-error log (R137 to R139), and the release of Drift. -/

namespace Sys2Proof.Machine

/-! ## The state a writer meets -/

/-- The state of a key as a condition sees it. -/
inductive KState
  | absent
  | present (version len gen : Nat)
  | lost (version : Nat)
  | lostHome
  deriving DecidableEq, Repr

/-- Gale holds the entry of a key: it is retired once every version it covers is on medium and answered (R178, R179). -/
def Dev.buffered (d : Dev) (n : BitVec 12) (h : BitVec 128) : Bool :=
  d.que.drift.any (fun v => v.ns == n && v.hash == h && !(v.onMedium && v.done))

/-- The newest buffered version of a key with a sequence below `s`, found through its Gale entry (R20, R127). -/
def Dev.driftBelow (d : Dev) (n : BitVec 12) (h : BitVec 128) (s : Nat) : Option Version :=
  if !d.buffered n h then none else (d.que.drift.filter (fun v => v.ns == n && v.hash == h && decide (v.seq < s))).foldl (fun m v =>
    match m with
    | none => some v
    | some x => if x.seq < v.seq then some v else some x) none

/-- The buffered version that decides the state of a key (R90, R127): a writer of another key with this hash that has not met the stored
state yet decides nothing, since it is refused where another key is stored. -/
def Dev.driftFor (d : Dev) (n : BitVec 12) (h : BitVec 128) (key : Bytes) (s : Nat) : Option Version :=
  match d.driftBelow n h s with
  | some v => if v.key != key && v.provisional then none else some v
  | none => none

/-- A version as a condition sees it. -/
def Version.state (v : Version) : KState :=
  match v.content with
  | none => .absent
  | some b => .present v.seq b.length v.gen

/-- What a writer or a reader meets: a state, a page to read first, or a status. `collision`: another key with this hash holds
the entry (R90). -/
inductive Base
  | state (k : KState)
  | collision
  | page (lo : Nat)
  | fail (st : BitVec 16)
  deriving DecidableEq, Repr

/-- The base of an authoritative state for a key. -/
def Look.base (l : Look) (key : Bytes) : Base :=
  match l with
  | .absent => .state .absent
  | .present v _ g n k => if k == key then .state (.present v n g) else .collision
  | .lost v k => if k == key then .state (.lost v) else .collision
  | .lostHome => .state .lostHome
  | .page lo => .page lo
  | .fail st => .fail st

/-- The newest buffered or stored state with a sequence below `s` (R127, R147). -/
def Dev.base (d : Dev) (n : BitVec 12) (h : BitVec 128) (key : Bytes) (s : Nat) : Base :=
  if d.gale.dupKeys.contains (n, h) then .fail Status.integrityFault
  else match d.driftBelow n h s with
    | some v =>
      if v.key == key then .state v.state
      else if v.content.isNone then .state .absent
      else if v.provisional then (match (d.look n h).base key with
        | .state .absent => .collision
        | b => b)
      else .collision
    | none => (d.look n h).base key

/-- The bytes of the state a `PATCH` builds on, with the chunks of it that cannot be read and those whose header does not match (R277,
R278). -/
def Dev.baseBytes (d : Dev) (n : BitVec 12) (h : BitVec 128) (key : Bytes) (s : Nat) : Bytes × List Nat × List Nat :=
  match d.driftFor n h key s with
  | some v => (v.content.getD [], v.bad, [])
  | none => match d.lookFull n h with
    | .present _ loc gen _ _ => match d.copyAt loc gen with
      | some c => (d.plainOf c, c.bad, c.badHeads.map (·.1))
      | none => ([], [], [])
    | _ => ([], [], [])

/-! ## Conditions -/

/-- The outcome of an opcode's conditions. -/
inductive Verdict
  | go
  | stop (st : BitVec 16) (version : Nat)
  deriving DecidableEq, Repr

/-- The version a status reports for a state (R74). -/
def KState.version : KState → Nat
  | .present v _ _ => v
  | .lost v => v
  | _ => 0

/-- A version condition (R96, R97, R137). -/
def versionCheck (expected : Nat) (k : KState) : Verdict :=
  match k with
  | .lostHome => .stop Status.mediaError 0
  | _ => if k.version = expected ∧ k ≠ .absent then .go else .stop Status.versionMismatch k.version

/-- The key must be absent (R96, R106, R137). -/
def absentCheck (st : BitVec 16) (k : KState) : Verdict :=
  match k with
  | .absent => .go
  | .lostHome => .stop Status.mediaError 0
  | _ => .stop st k.version

/-- The table of R99. -/
def patchCheck (expected o p : Nat) (k : KState) : Verdict :=
  match k with
  | .absent => .stop Status.notFound 0
  | .lost _ | .lostHome => .stop Status.mediaError 0
  | .present v len _ =>
    if expected ≠ 0 ∧ expected ≠ v then .stop Status.versionMismatch v
    else if 4294967296 < o + p then .stop Status.badLength 0
    else if len < o then .stop Status.unalignedPatch 0
    else if o + p < len ∧ p % 4096 ≠ 0 then .stop Status.unalignedPatch 0
    else .go

/-- The conditions a writer evaluates against the state of its key (R96 to R99, R106, R137, R254). -/
def writerCheck (h : Hdr) (k : KState) : Verdict :=
  if h.opcode == Op.put || h.opcode == Op.mpCommit then
    if h.flag Flag.ifAbsent then absentCheck Status.alreadyExists k else .go
  else if h.opcode == Op.casPut then
    if h.expVersion == 0 then absentCheck Status.versionMismatch k else versionCheck h.expVersion.toNat k
  else if h.opcode == Op.delete then
    if h.expVersion == 0 then (if k = .absent then .stop Status.notFound 0 else .go)
    else versionCheck h.expVersion.toNat k
  else if h.opcode == Op.patch then patchCheck h.expVersion.toNat h.offset.toNat h.valueLen.toNat k
  else .go

/-- An unconditional `PUT` or `MP_COMMIT` (R87). -/
def unconditional (h : Hdr) : Bool := (h.opcode == Op.put || h.opcode == Op.mpCommit) && !h.flag Flag.ifAbsent

/-! ## Charges (R87, R91) -/

/-- Bytes that a namespace takes of user capacity: what it reserves, or what is charged (R85). -/
def Namespace.usage (n : Namespace) : Nat := if n.reserve then max n.capQuota n.charged else n.charged

/-- Bytes of user capacity in use. -/
def Dev.usage (d : Dev) : Nat := (d.ns.map Namespace.usage).sum

/-- What binds a write. -/
inductive Bind
  | none | capQuota | keyQuota | user | keyLimit | index
  deriving DecidableEq, Repr

/-- The first limit that a charge of `x` bytes less `y` and a new key would pass (R85, R87, R91, R148). -/
def Dev.binds (d : Dev) (n : Namespace) (h : BitVec 128) (klen x y : Nat) (newKey : Bool) : Bind :=
  let after : Namespace := { n with charged := n.charged + x - y }
  if y < x ∧ n.capQuota ≠ 0 ∧ n.capQuota < n.charged + x - y then .capQuota
  else if newKey ∧ n.keyQuota ≠ 0 ∧ n.keyQuota ≤ n.keys then .keyQuota
  else if y < x ∧ d.userCapacity < d.usage - n.usage + after.usage then .user
  else if newKey ∧ 34359738368 ≤ (d.ns.map (·.keys)).sum then .keyLimit
  else if newKey ∧ d.indexFull n.id h klen then .index
  else .none

/-- Raises the events of a limit that binds (R87, R91, R148). -/
def Dev.bindEvents (d : Dev) (n : Namespace) (b : Bind) : Dev :=
  match b with
  | .none | .user => d
  | .capQuota =>
    if n.capLatched then d
    else (d.modNs n.id (fun x => { x with capLatched := true })).raise Ev.quotaReached n.id.toNat 1 0 0
  | .keyQuota =>
    if n.keyLatched then d
    else (d.modNs n.id (fun x => { x with keyLatched := true })).raise Ev.quotaReached n.id.toNat 2 0 0
  | .keyLimit =>
    let held := (d.ns.map (·.held)).sum
    d.raise Ev.keyLimit n.id.toNat (held / 2 ^ 32) (held % 2 ^ 32) 0
  | .index => d.raise Ev.indexFull n.id.toNat d.idx.buckets.length 0 0

/-- Takes a charge; a quota that no longer binds may bind anew. -/
def Dev.takeCharge (d : Dev) (n : BitVec 12) (x y : Nat) (newKey : Bool) : Dev :=
  d.modNs n (fun s => { s with charged := s.charged + x - y, keys := s.keys + (if newKey then 1 else 0),
                               capLatched := s.capLatched && decide (x ≤ y), keyLatched := s.keyLatched && !newKey })

/-! ## Tokens (R109 to R112) -/

/-- The first 12 bytes of a token. -/
def tokenBody (loc gen : Nat) (h : BitVec 128) : Bytes :=
  natToBytesBE 6 loc ++ natToBytesBE 3 gen ++ natToBytesBE 3 (fragment h)

/-- The mac of a token (R110). -/
def Dev.tokenMac (d : Dev) (n : BitVec 12) (body : Bytes) : Nat :=
  (Config.hmac (natToBytesBE 32 d.sec.tokenKey.toNat) (natToBytesBE 4 n.toNat ++ body)).toNat / 2 ^ 224

/-- A fresh token for a location (R113); none for a zero-length value. -/
def Dev.token (d : Dev) (n : BitVec 12) (h : BitVec 128) (loc gen : Nat) : Option (BitVec 128) :=
  if loc = 0 then none
  else
    let b := tokenBody loc gen h
    some (BitVec.ofNat 128 (b.toNatBE * 2 ^ 32 + d.tokenMac n b))

/-! ## Drift -/

/-- A reader holds a buffered version it captured. -/
def Dev.held (d : Dev) (s : Nat) : Bool := d.que.caps.any (fun c => c.captured == some (.buffered s))

/-- Changes a buffered version. -/
def Dev.modVer (d : Dev) (s : Nat) (f : Version → Version) : Dev :=
  { d with que := { d.que with drift := d.que.drift.map (fun v => if v.seq == s then f v else v) } }

/-- The buffered version with a sequence. -/
def Dev.ver? (d : Dev) (s : Nat) : Option Version := d.que.drift.find? (·.seq == s)

/-- Retires the Gale entry of a key that no longer covers a version (R179); a duplicated key is taken from Isobar again (R186). -/
def Dev.retireEntry (d : Dev) (n : BitVec 12) (h : BitVec 128) : Dev :=
  if d.buffered n h then d
  else d.modGale (fun g => { (g.remove .directory (keyWord n h)) with dupKeys := g.dupKeys.filter (· != (n, h)) })

/-- Takes a version out of Drift: its charges end (R48, R179). -/
def Dev.removeVer (d : Dev) (v : Version) : Dev :=
  let d1 : Dev := { d with que := { d.que with drift := d.que.drift.filter (·.seq != v.seq) } }
  ((d1.retireEntry v.ns v.hash).endCharge v.sid v.start).freeDir v.sid v.start

/-- The buffered versions of a key. -/
def Dev.keyVers (d : Dev) (n : BitVec 12) (h : BitVec 128) : List Version := d.que.drift.filter (fun v => v.ns == n && v.hash == h)

/-- Frees one version that is on medium and answered, unless a reader still holds it or an older version of the key is still
buffered. -/
def Dev.releaseOne (d : Dev) (s : Nat) : Dev :=
  match d.ver? s with
  | some v =>
    if v.onMedium && v.done && !d.held s && (d.driftBelow v.ns v.hash v.seq).isNone then d.removeVer v else d
  | none => d

/-- Retires the entry where it may be, and frees what can be freed of a key's versions, oldest first (R20 step 6, R127, R179). -/
def Dev.releaseKey (d : Dev) (n : BitVec 12) (h : BitVec 128) : Dev :=
  (d.keyVers n h).foldl (fun (d : Dev) (v : Version) => d.releaseOne v.seq) (d.retireEntry n h)

/-- Frees a version that is on medium and answered, and the newer ones of its key that waited for it. -/
def Dev.releaseVer (d : Dev) (s : Nat) : Dev :=
  match d.ver? s with
  | some v => d.releaseKey v.ns v.hash
  | none => d

/-! ## Deferred errors (R137 to R139) -/

/-- A session's flag for an entry of log 0x04; where the session has ended it passes to the tenant's sessions (R139). -/
def Dev.flagDeferred (d : Dev) (sid tenant : BitVec 32) (id : Nat) : Dev :=
  if (d.session? sid).isSome then d.modSession sid (fun s => { s with deferred := s.deferred ++ [id] })
  else
    let d1 := { d with net := { d.net with sessions := d.net.sessions.map (fun (x : Session) =>
      if x.tenant == tenant then { x with deferred := x.deferred ++ [id] } else x) } }
    { d1 with que := { d1.que with passed := d1.que.passed ++ [id] } }

/-- The lowest lost version of each namespace and tenant, with one more loss (R144). -/
def lowest (l : List (BitVec 12 × BitVec 32 × Nat)) (n : BitVec 12) (t : BitVec 32) (v : Nat) : List (BitVec 12 × BitVec 32 × Nat) :=
  (n, t, ((l.filter (fun e => e.1 == n && e.2.1 == t)).map (·.2.2)).foldl min v) :: l.filter (fun e => !(e.1 == n && e.2.1 == t))

/-- Records a lost writer in log 0x04 (R137, R138). -/
def Dev.recordLoss (d : Dev) (v : Version) (st : BitVec 16) (cause : Nat) : Dev :=
  let id := d.que.nextRecord
  let e : Deferred := { id := id, time := d.clk.ns, tenant := v.tenant, sid := v.sid, opcode := v.opcode, status := st,
                        tag := v.tag, version := v.seq, hash := v.hash, ns := v.ns, cause := cause }
  let d1 := if 65536 ≤ d.que.deferred.length then
      match d.que.deferred with
      | o :: rest => { d with que := { d.que with deferred := rest } }.raise Ev.deferredLogWrap (o.id % 2 ^ 32) 0 0 0
      | [] => d
    else d
  let d2 := { d1 with que := { d1.que with deferred := d1.que.deferred ++ [e], nextRecord := id + 1,
                                           unread := d1.que.unread ++ [id] } }
  (({ d2 with que := { d2.que with lossLow := lowest d2.que.lossLow v.ns v.tenant v.seq } } : Dev).flagDeferred v.sid v.tenant id).raise Ev.deferredError v.ns.toNat (v.seq % 2 ^ 32) cause v.tenant.toNat

/-- Takes away what a version that will not be committed has begun: its copy is dead, its programs and its journal record are
dropped, a new key's count is returned (R91). -/
def Dev.undoVer (d : Dev) (v : Version) (x y : Nat) : Dev :=
  let d0 := (d.killCopy v.loc v.gen).dropProgs (.value v.seq)
  let d1 : Dev := { d0 with med := { d0.med with secures := d0.med.secures.filter (fun j => j.seq != v.seq || j.accepted) } }
  let d2 := (d1.dropRec v.jseq).modNs v.ns (fun s =>
    { s with charged := s.charged + y - x, keys := s.keys - (if v.newKey then 1 else 0) })
  (d2.modMirror v.ns (fun m => { m with unapplied := m.unapplied.filter (fun r => r.version != v.seq) })).removeVer v

/-- Readers that wait on a version end with a status (R126). -/
def Dev.failReaders (d : Dev) (s : Nat) (st : BitVec 16) : Dev :=
  (d.que.caps.filter (fun c => c.captured == some (.buffered s))).foldl (fun d c => (d.correctGet c 0).finishFree c (Reply.plain st)) d

/-- An early-acknowledged writer is lost (R137): an entry in log 0x04, the key in the lost state, journalled. -/
def Dev.loseVer (d : Dev) (v : Version) (st : BitVec 16) (cause : Nat) : Dev :=
  let d1 := (d.recordLoss v st cause).failReaders v.seq Status.mediaError
  let d2 := d1.undoVer { v with newKey := false } (match v.content with
    | some b => chunkBytes b.length
    | none => 0) 0
  d2.commitNew (mkRec .lost v.ns v.hash v.key v.seq 0 0 0 (d2.homeOf v.ns v.hash) none)

/-- A main-path writer fails after resolution (R126): its reply, and then those of the readers that wait on it (R127). -/
def Dev.failVer (d : Dev) (v : Version) (st : BitVec 16) : Dev :=
  let d1 := d.undoVer v v.charge v.refund
  (match d1.capBySeq v.seq with
  | some c => d1.finishFree c (Reply.plain st)
  | none => if d1.follows v.ns then d1.applyFail v.ns v.hash v.seq st else d1).failReaders v.seq st

/-- A version ends without reaching the medium: lost where it has been acknowledged, failed otherwise. -/
def Dev.dropVer (d : Dev) (s : Nat) (st : BitVec 16) (cause : Nat) : Dev :=
  match d.ver? s with
  | none => d
  | some v => if v.early then d.loseVer v (if st == Status.integrityFault then st else Status.mediaError) cause else d.failVer v st

/-! ## Completion (R87, R131, R132) -/

/-- The version of the lost state that a writer ends, if it ends one (R137). -/
def Look.lostVersion : Look → Option Nat
  | .lost v _ => some v
  | _ => none

/-- `EV_LOST_KEY_CLEARED` (R137). -/
def Dev.lostCleared (d : Dev) (v : Version) (l : Nat) : Dev := d.raise Ev.lostKeyCleared v.ns.toNat (l % 2 ^ 32) (v.seq % 2 ^ 32) 0

/-- Settles the charge of a writer against the state it replaces, found by now (R87), which is a lookup of its own where it did not wait for
that state (R168), the dead copy of that state, and a lost state that it
ends, which is reported with its reply or, where that has gone, at once (R137). -/
def Dev.settle (d0 : Dev) (v : Version) : Dev :=
  let by_ := (d0.lookBy v.ns v.hash).2
  let d := if v.provisional then (d0.countLook by_ true).usePage v.ns v.hash by_ else d0
  let old := d.lookFull v.ns v.hash
  let oldLen := match old with
    | .present _ _ _ n _ => chunkBytes n
    | _ => 0
  let existed := match old with
    | .present _ _ _ _ _ | .lost _ _ => true
    | _ => false
  let d1 := if v.provisional then
      d.modNs v.ns (fun s => { s with
        charged := s.charged - oldLen, keys := s.keys - (if v.newKey && existed then 1 else 0),
        held := s.held - (if v.done && v.newKey && existed then 1 else 0) })
    else d
  let d2 := match old with
    | .present _ loc gen _ _ => d1.killCopy loc gen
    | _ => d1
  let d3 := if v.provisional then d2.modVer v.seq (fun x => { x with newKey := x.newKey && !existed, provisional := false }) else d2
  match old.lostVersion, v.onLost with
  | some l, none => if v.done then d3.lostCleared v l else d3.modVer v.seq (fun x => { x with onLost := some l })
  | _, _ => d3

/-- The reply of a writer at its completion point (R73, R74, R112): its version with `OK`, and a token where it is acknowledged on
medium. -/
def Dev.writerReply (d : Dev) (c : Cap) (v : Version) : Reply :=
  { (if c.tokenStale then Reply.plain Status.tokenStale else Reply.ver Status.ok v.seq) with
    token := if v.early || v.content.isNone then none else d.token v.ns v.hash v.loc v.gen }

/-- The upload of a commit closes at its completion point: its reservation is returned and the value's charge taken. One whose commit fails
there stays open, with its parts and its reservation (R106): `closes` is false. -/
def Dev.closeCommit (d : Dev) (v : Version) (closes : Bool) : Dev :=
  match v.upload with
  | none => d
  | some u => match d.idx.uploads.find? (fun x => x.id == u && closes) with
    | none => d.modNs v.ns (fun s => { s with charged := s.charged + chunkBytes ((v.content.getD []).length) })
    | some x =>
      let d1 := { d with idx := { d.idx with uploads := d.idx.uploads.filter (·.id != u) } }
      d1.modNs v.ns (fun s => { s with charged := s.charged + chunkBytes ((v.content.getD []).length) -
        (x.declared + 16777216) })

/-- Counts of the keys held (R91, R116). -/
def Dev.countKeys (d : Dev) (v : Version) : Dev :=
  d.modNs v.ns (fun s =>
    if v.content.isNone then { s with keys := s.keys - v.counted.toNat, held := s.held - v.counted.toNat }
    else { s with held := s.held + (if v.newKey then 1 else 0) })

/-- What the end of a writer's wait brings beside its reply: its upload closes where it has reached its completion point (R106), the keys
held are counted (R116), a lost state that it ended is reported (R137). -/
def Dev.endWait (d : Dev) (v : Version) (ok : Bool) : Dev :=
  let d1 := ((d.modVer v.seq (fun x => { x with done := true })).closeCommit v ok).countKeys v
  match v.onLost with
  | some l => d1.lostCleared v l
  | none => d1

/-- A writer's completion point (R131). -/
def Dev.reachPoint (d : Dev) (v : Version) : Dev := d.endWait v true

/-- Places a writer's reply; a stale token is counted (R116), the highest version acknowledged in a mirrored namespace is kept
(R307). -/
def Dev.replyWriter (d : Dev) (c : Cap) (v : Version) : Dev :=
  let d0 := d.modMirror v.ns (fun m => { m with acked := max m.acked v.seq })
  let d1 := if c.tokenStale then d0.bump (.ns v.ns .stale) 1 else d0
  d1.finish c (d.writerReply c v)

/-- A writer reaches its completion point on medium (R131): its reply, unless it has been acknowledged, and the release of its
version. -/
def Dev.completeOne (d : Dev) (s : Nat) : Dev :=
  match d.ver? s with
  | none => d
  | some v =>
    if v.done then d.releaseVer s
    else
      let d1 := (d.reachPoint v).bump (.drive .onMedium) 1
      let d2 := match d1.capBySeq s with
        | some c => d1.replyWriter c v
        | none => d1
      d2.releaseVer s

/-- Every older buffered version of the key has reached its completion point (R128). -/
def Dev.inOrder (d : Dev) (v : Version) : Bool := (d.keyVers v.ns v.hash).all (fun w => w.done || !decide (w.seq < v.seq))

/-- The writers of a key that are at their points and waited for an older one complete in ingress order (R128). -/
def Dev.ripen (d : Dev) (n : BitVec 12) (h : BitVec 128) : Dev :=
  ((d.keyVers n h).foldl (fun (d : Dev) (w : Version) => match d.ver? w.seq with
    | some v => if v.onMedium && !v.done && !v.secure && !v.mirrorWait && d.inOrder v then d.completeOne v.seq else d
    | none => d) d).releaseKey n h

/-- A writer at its own point completes, once every older writer on its key has (R128, R131); the newer ones follow it. -/
def Dev.completeVer (d : Dev) (s : Nat) : Dev :=
  match d.ver? s with
  | none => d
  | some v => if v.done || d.inOrder v then (d.completeOne s).ripen v.ns v.hash else d

/-- A version and the writers of its key resolved on top of it end (R126, R137): a later `PATCH` on a lost state is lost with it, and every
later writer that rests on its state fails with it. R138 names cause 5 for a PATCH; an early-acknowledged `CAS_PUT`, `DELETE` or IF_ABSENT
writer that rested on a lost one is recorded under it too: DESIGN CHOICE, log entry 231. -/
def Dev.endVer (d : Dev) (s : Nat) (st : BitVec 16) (cause : Nat) : Dev :=
  match d.ver? s with
  | none => d
  | some v =>
    let later := (d.que.drift.filter (fun w => w.ns == v.ns && w.hash == v.hash && w.key == v.key && decide (v.seq < w.seq))).takeWhile
      (fun w => !w.uncond)
    (later.foldl (fun d w => d.dropVer w.seq st 5) (d.dropVer s st cause)).ripen v.ns v.hash

/-- The reply of an early-acknowledged writer at resolution (R132). -/
def Dev.ackEarly (d : Dev) (c : Cap) (s : Nat) : Dev :=
  match d.ver? s with
  | none => d
  | some v => (((d.modVer s (fun x => { x with early := true })).reachPoint v).bump (.drive .early) 1).replyWriter c
      { v with early := true }

/-! ## Resolution (R126, R127) -/

/-- Adds a buffered version; the key's Gale entry is inserted with the first (R179). -/
def Dev.addVer (d : Dev) (v : Version) : Dev :=
  let d1 := if d.buffered v.ns v.hash then d else d.modGale (fun g => g.insert .directory (keyWord v.ns v.hash))
  { d1 with que := { d1.que with drift := d1.que.drift ++ [v] } }

/-- A capsule with sequence `s` on a namespace meets a `FORMAT` or `SANITISE` that runs, or that was sequenced before it and waits for
the capsules before itself (R80, R392, R393). -/
def Dev.nsBusy (d : Dev) (n : BitVec 12) (s : Nat) : Bool :=
  d.sec.sanitise.any (fun r => r.state == 2 && (r.scope == 2 || r.ns == n)) ||
    d.que.caps.any (fun c => (c.hdr.opcode == Op.format || c.hdr.opcode == Op.sanitise) && c.stage == .dispatched &&
      decide (c.seq < s) && (if c.value.field 0 1 == 2 then c.hdr.opcode == Op.format else c.hdr.ns == n))

/-- The value of a `PATCH`: the bytes from `o` on replaced (R99). -/
def patchBytes (old : Bytes) (o : Nat) (p : Bytes) : Bytes := old.take o ++ p ++ old.drop (o + p.length)

/-- Chunks that carry patch bytes. -/
def patched (o p i : Nat) : Bool := decide (o < 4096 * (i + 1)) && decide (4096 * i < o + p)

/-- Chunk `i` lies in a run that is written anew. -/
def inFresh : List Seg → Nat → Bool
  | [], _ => false
  | .fresh n :: rest, i => decide (i < n) || inFresh rest (i - n)
  | .reuse _ n :: rest, i => !decide (i < n) && inFresh rest (i - n)

/-- A `PATCH` copies a chunk of a list (R277, R278): the chunk carries no patch bytes and lies in a run that is rewritten. -/
def copyFails (segs : List Seg) (o p : Nat) (bad : List Nat) : Bool := bad.any (fun i => !patched o p i && inFresh segs i)

/-- Chunks of a value that stay bad after a `PATCH`. -/
def stillBad (o p : Nat) (bad : List Nat) : List Nat := bad.filter (fun i => !patched o p i)

/-- Units of 1 MiB that a `PATCH` touches (R100). -/
def patchUnits (o p : Nat) : Nat := (o + p - 1) / 1048576 + 1 - o / 1048576

/-- What a writer that passes its conditions leaves: its content with its chunk checks, the chunks of it that cannot be read, the segments to
place, the units a `PATCH` touches. -/
structure Plan where
  content : Option Bytes
  checks : List (BitVec 32)
  bad : List Nat
  segs : List Seg
  units : Nat
  deriving DecidableEq, Repr

/-- The copy of the state a `PATCH` builds on. -/
def Dev.baseCopy (d : Dev) (n : BitVec 12) (h : BitVec 128) (key : Bytes) (s : Nat) : Option Copy :=
  match d.driftFor n h key s with
  | some v => d.copyAt v.loc v.gen
  | none => match d.lookFull n h with
    | .present _ loc gen _ _ => d.copyAt loc gen
    | _ => none

/-- The segments of a `PATCH` (R277): the first run and every run with a patched chunk are rewritten whole, the others stay. A value that
grows fills its last run up to 2,048 chunks and goes on in runs of its own (R205). `i`: the first chunk of the runs left; `lo`, `hi`:
the first and the last patched chunk; `extra`: chunks beyond the old value. -/
def patchRuns (lo hi extra : Nat) : Nat → List (Nat × Nat) → List Seg
  | _, [] => segsOf extra
  | i, (l, n) :: rest =>
    let one : Seg := if i = 0 ∨ (lo < i + n ∧ i ≤ hi) then .fresh n else .reuse l n
    if rest.isEmpty then (if 0 < extra ∧ n < 2048 then segsOf (n + extra) else one :: segsOf extra)
    else one :: patchRuns lo hi extra (i + n) rest
def patchSegs (runs : List (Nat × Nat)) (o p chunks : Nat) : List Seg :=
  patchRuns (o / 4096) ((o + p - 1) / 4096) (chunks - (runs.map (·.2)).sum) 0 runs

/-- The chunk checks of a patched value (R261): a chunk without patch bytes keeps the check it carries in Drift; the others are computed. -/
def Dev.patchChecks (d : Dev) (n : BitVec 12) (h : BitVec 128) (key : Bytes) (s o p : Nat) (b : Bytes) : List (BitVec 32) :=
  let old := match d.driftFor n h key s with
    | some v => v.checks
    | none => []
  (List.range (chunkCount b.length)).map (fun i => match if patched o p i then none else old[i]? with
    | some k => k
    | none => chunkCheck (chunkOf b i))

/-- The plan of a `PATCH` of bytes `b` at offset `o`; it may meet a chunk it has to copy and cannot read, or whose header does not match
(R278). -/
def Dev.patchPlan (d : Dev) (n : BitVec 12) (h : BitVec 128) (key : Bytes) (s o : Nat) (b : Bytes) : Plan ⊕ BitVec 16 :=
  let p := b.length
  let (old, bad, heads) := d.baseBytes n h key s
  let new := patchBytes old o b
  let segs := patchSegs (match d.baseCopy n h key s with
    | some cp => cp.runs
    | none => []) o p (chunkCount new.length)
  let count := chunkCount old.length
  if copyFails segs o p bad || bad.contains count then .inr Status.mediaError
  else if copyFails segs o p heads || heads.contains count then .inr Status.integrityFault
  else .inl ⟨some new, d.patchChecks n h key s o p new, stillBad o p bad, segs, patchUnits o p⟩

/-- The plan of `PUT`, `CAS_PUT`, `DELETE` and `PATCH`. -/
def Dev.plan (d : Dev) (c : Cap) (h : BitVec 128) : Plan ⊕ BitVec 16 :=
  if c.hdr.opcode == Op.delete then .inl ⟨none, [], [], [], 0⟩
  else if c.hdr.opcode == Op.patch then
    d.patchPlan c.hdr.ns h c.key c.seq c.hdr.offset.toNat c.value
  else .inl ⟨some c.value, c.checks, [], segsOf (chunkCount c.value.length), 0⟩

/-- The early-acknowledge content with a version admitted is within the effective limit that then holds: its own predecessors on its key
count in P (R133, R329). -/
def Dev.earlyFits (d : Dev) (v : Version) : Bool :=
  let q : Queue := { d.que with drift := d.que.drift ++ [{ v with early := true }] }
  decide (q.earlyContent ≤ ({ d with que := q } : Dev).earlyLimit)

/-- A writer may be acknowledged early when it resolves (R132, R133). One that has not met the stored key yet is not: it may still be refused
for it (R90): DESIGN CHOICE, log entry 199. -/
def Dev.earlyOk (d : Dev) (c : Cap) (n : Namespace) (v : Version) : Bool :=
  !v.provisional && d.earlyPossible && n.earlyAck && !c.hdr.flag Flag.fua && !(c.hdr.opcode == Op.delete && c.hdr.flag Flag.secure) &&
    !d.syncMirrored n.id && d.earlyFits v

/-- The kind of a writer's replication record (R293). -/
def recKind (h : Hdr) : Nat :=
  if h.opcode == Op.patch then 2
  else if h.opcode == Op.delete then (if h.flag Flag.secure then 4 else 3)
  else if h.opcode == Op.mpCommit then 7 else 1

/-- The generation that a key's next write takes (R206). -/
def Dev.genAfter (d : Dev) (n : BitVec 12) (h : BitVec 128) (key : Bytes) (s : Nat) : Nat :=
  match d.driftFor n h key s with
  | some v => if v.content.isNone then 1 else nextGen v.gen
  | none => match d.lookFull n h with
    | .present _ _ g _ _ => nextGen g
    | _ => 1

/-- µs between a write and the write of the copy it replaces, if one is on flash (R210). -/
def Dev.rewriteGap (d : Dev) (n : BitVec 12) (h : BitVec 128) : Option Nat :=
  (d.med.copies.filter (fun c => c.ns == n && c.hash == h)).getLast?.map (fun c => d.clk.tick - c.written)

/-- Places a value of a writer (R126, R205, R210) and enters its copy as not yet programmed; nothing when some position cannot be
reserved. -/
def Dev.placeValue (d : Dev) (bay : BayNo) (st : Stream) (group : Nat) (segs : List Seg) (n : Namespace) (h : BitVec 128)
    (key : Bytes) (version gen : Nat) (bytes : Bytes) (bad : List Nat) (what : ProgWhat) : Option (Nat × Dev) :=
  match d.placeRuns bay st group [(n.id, h)] what segs with
  | none => none
  | some ([], _, _) => some (0, d)
  | some ((loc, k) :: more, m, d1) =>
    let cp : Copy := {
      bay := bay, group := group, block := locBlock loc, loc := loc, runs := (loc, k) :: more, mapLoc := m, ns := n.id, hash := h,
      key := key, version := version, gen := gen, bytes := bytes, sealedKey := d.med.slotKey n.id,
      heads := d.headsOf version gen bytes.length segs, bad := bad, badHeads := [],
      programmed := false, dead := false, fallback := none, written := d.clk.tick, gap := d.rewriteGap n.id h }
    some (loc, { d1 with med := { d1.med with copies := d1.med.copies ++ [cp] } })

/-- Writes a journal record to its home's stream (R154, R207). -/
def Dev.journal (d : Dev) (bay : BayNo) (group : Nat) (r : JRec) : Option (Nat × Dev) :=
  match d.placeRec bay group r with
  | none => none
  | some (l, d1) => some (d1.newRec { r with ref := l })

/-- The wait of a capsule for a hot position is over. -/
def Dev.endHotWait (d : Dev) (c : Cap) (bay : BayNo) : Dev :=
  if c.hotWait then d.modBay bay (fun b => { b with slcWaiting := b.slcWaiting - 1 }) else d

/-- A writer waits unresolved: for a hot position (`slc`), with `EV_SLC_FULL` as that wait begins (R212), or for what else it lacks. -/
def Dev.waitFor (d : Dev) (c : Cap) (bay : BayNo) (slc : Bool) : Dev :=
  if c.slcWait && c.hotWait == slc then d
  else
    let d1 := d.modCap c (fun x => { x with slcWait := true, hotWait := slc })
    if slc then
      let d2 := d1.modBay bay (fun b => { b with slcWaiting := b.slcWaiting + 1 })
      d2.raise Ev.slcFull bay.val (d2.slcLimit bay) (d2.bays.get bay).slcWaiting 0
    else d1.endHotWait c bay

/-- A secure deletion that a restart has cut is finished before new data is written to its cartridge (R228). -/
def Dev.secureHolds (d : Dev) (bay : BayNo) : Bool := d.med.secures.any (fun j => j.restarted && j.bands.any (fun b => b.1 == bay))

/-- Enters a writer in Drift (R126): its charge, its SLC positions, its journal record, its replication record, and its reply
where it is acknowledged early. -/
def Dev.enterDrift (d : Dev) (c : Cap) (n : Namespace) (h : BitVec 128) (group : Nat) (k : KState) (prov : Bool) (p : Plan)
    (x y : Nat) (upload : Option Nat) : Dev :=
  let bay := d.homeOf n.id h
  let gen := d.genAfter n.id h c.key c.seq
  let len := match p.content with
    | some b => b.length
    | none => 0
  if d.secureHolds bay then d.waitFor c bay false
  else match d.placeValue bay .hot group p.segs n h c.key c.seq gen (p.content.getD []) p.bad (.value c.seq) with
  | none => d.waitFor c bay true
  | some (loc, d1) =>
    let kind := if p.content.isNone then JKind.deletion else .value
    match d1.journal bay group (mkRec kind n.id h c.key c.seq loc gen len bay (some c.seq)) with
    | none => d.waitFor c bay false
    | some (j, d2) =>
      let newKey := p.content.isSome && (prov || k == .absent || k == .lostHome)
      let secure := c.hdr.opcode == Op.delete && c.hdr.flag Flag.secure
      let v : Version :=
        { ns := n.id, hash := h, key := c.key, seq := c.seq, content := p.content, checks := p.checks, bad := p.bad, opcode := c.hdr.opcode,
          sid := c.sid, start := c.start, tag := c.tag, tenant := c.tenant, early := false, done := false, onMedium := false,
          units := p.units, charge := x, refund := y, provisional := prov, newKey := newKey,
          counted := !prov && k != .absent && k != .lostHome, uncond := unconditional c.hdr,
          secure := secure,
          onLost := match k with
            | .lost l => some l
            | _ => none,
          upload := upload, loc := loc, gen := gen, bay := bay, jseq := j,
          mirrorWait := d.mirrorWaits n.id || (secure && (d.mirror? n.id).isSome && !d.follows n.id) }
      let early := d.earlyOk c n v
      let d2 : Dev := if secure then { d2 with med := { d2.med with secures := d2.med.secures ++ [d.secureJob c.seq n.id h Status.ok] } } else d2
      let d3 := ((d2.takeCharge n.id x y newKey).addVer v).modCap c (fun z => { z with stage := .resolved, slcWait := false, hotWait := false })
      let d4 := d3.endHotWait c bay
      let d5 := d4.replicate {
        kind := recKind c.hdr, ns := n.id, key := c.key, hash := h, version := c.seq, valueLength := len,
        len := if c.hdr.opcode == Op.mpCommit then 0 else if c.hdr.opcode == Op.patch then c.value.length else len,
        offset := if c.hdr.opcode == Op.patch then c.hdr.offset.toNat else 0, uploadId := upload.getD 0, sent := false,
        at_ := d.clk.tick }
      if early then d5.ackEarly c c.seq else d5

/-- A writer fails at resolution (R126): its reply, and its charges end. -/
def Dev.failWriter (d : Dev) (c : Cap) (st : BitVec 16) (v : Nat) : Dev := d.finishFree c (Reply.ver st v)

/-- A chunk check of a version fails as its chunk enters the cipher, `at_` 1, or as it is sent, 2 (R261). -/
def Dev.checkFails (d : Dev) (n : BitVec 12) (version chunk at_ : Nat) : Dev :=
  (d.raise Ev.chunkCheck n.toNat (version % 2 ^ 32) chunk at_).bump (.drive .chunkCheckFail) 1

/-- The base a writer evaluates: an unconditional `PUT` does not wait for a state that Drift does not hold, as long as it fits
as a new key (R87); the state is met before its completion point (`Dev.mayCommit`). An unconditional `DELETE` removes an entry whose twin disagrees (R150). -/
def Dev.writerBase (d : Dev) (c : Cap) (n : Namespace) (h : BitVec 128) (x : Nat) : Base × Bool :=
  match if d.turnedAway n.id h c.seq then .fail Status.unavailable else d.base n.id h c.key c.seq with
  | .page lo =>
    if unconditional c.hdr && d.binds n h c.key.length x 0 true == .none then (.state .absent, true) else (.page lo, false)
  | .fail st =>
    if st == Status.integrityFault && c.hdr.opcode == Op.delete && c.hdr.expVersion == 0 &&
        !d.gale.dupKeys.contains (n.id, h) then (.state (.present 0 0 0), false)
    else (.fail st, false)
  | b => (b, false)

/-- Charge of the value that a state holds. -/
def KState.charge : KState → Nat
  | .present _ len _ => chunkBytes len
  | _ => 0

/-- `EV_KEY_HASH_COLLISION` (R90). -/
def Dev.collisionEvent (d : Dev) (n : BitVec 12) (h : BitVec 128) : Dev :=
  d.raise Ev.keyHashCollision n.toNat (h.toNat / 2 ^ 96) (h.toNat / 2 ^ 64 % 2 ^ 32) 0

/-- The rest of a writer's resolution once its state is known (R79, R87); its chunks meet the cipher with the programs it issues (R261). -/
def Dev.resolveOn (d : Dev) (c : Cap) (n : Namespace) (h : BitVec 128) (group : Nat) (k : KState) (prov : Bool) (pl : Plan)
    (x : Nat) (upload : Option Nat) : Dev :=
  let y := if prov then 0 else k.charge
  let newKey := pl.content.isSome && (prov || k == .absent || k == .lostHome)
  let secure := c.hdr.opcode == Op.delete && c.hdr.flag Flag.secure
  if d.nsBusy n.id c.seq then d.failWriter c Status.busyMaintenance 0
  else if secure && !d.secureRoom n.id h then d.failWriter c Status.noSpace 0
  else match d.binds n h c.key.length x y newKey with
    | .none =>
      let b := pl.content.getD []
      (match checkFail b pl.checks (List.range (chunkCount b.length)) with
      | some i => (d.checkFails n.id c.seq i 1).failWriter c Status.mediaError 0
      | none => d.enterDrift c n h group k prov pl x y upload)
    | b => (d.bindEvents n b).failWriter c Status.noSpace 0

/-- Resolves `PUT`, `CAS_PUT`, `PATCH` and `DELETE` (R96 to R99, R126). -/
def Dev.resolvePlain (d : Dev) (c : Cap) (n : Namespace) (group : Nat) : Dev :=
  let h := keyHash n.salt c.key
  let secure := c.hdr.opcode == Op.delete && c.hdr.flag Flag.secure
  match d.mirrorGate n.id true secure with
  | some st => d.failWriter c st 0
  | none =>
    let x0 := match c.hdr.opcode == Op.delete || c.hdr.opcode == Op.patch with
      | true => 0
      | false => chunkBytes c.value.length
    match d.writerBase c n h x0 with
    | (.page lo, _) => (d.modCap c (fun x => { x with pageWait := true })).readPage n.id lo c.seq
    | (.fail st, _) => d.failWriter c st 0
    | (.collision, _) => (d.collisionEvent n.id h).failWriter c Status.integrityFault 0
    | (.state k, prov) =>
      let d0 := if prov then (match d.look n.id h with
        | .page lo => d.readPage n.id lo c.seq
        | _ => d) else d
      let pl := d0.plan c h
      match k, c.hdr.opcode == Op.patch, pl with
      | .present _ _ _, true, .inr st => d0.failWriter c st 0
      | _, _, _ =>
        match if prov then .go else writerCheck c.hdr k with
        | .stop st v => d0.failWriter c st v
        | .go =>
          match pl with
          | .inr st => d0.failWriter c st 0
          | .inl pl => d0.resolveOn c n h group k prov pl (match pl.content with
              | some b => chunkBytes b.length
              | none => 0) none

end Sys2Proof.Machine
end

