-- ==== Sys2Proof/Machine/Readers.lean ====
section
/-! DEFINITION. Readers: tokens (R109 to R113), capture (R160), Forecast's speculative reads (R161 to R167), the reads of flash and
their outcomes (R18, R220, R230, R231, R263, R264), the reply (R94, R95, R127). -/

namespace Sys2Proof.Machine

/-! ## Per-key order (R125, R127) -/

/-- Key hash of a capsule. -/
def Dev.capHash (d : Dev) (c : Cap) : BitVec 128 := d.hashOf c.hdr.ns c.key

/-- The unresolved writers on a key with a sequence below `s`. -/
def Dev.earlierWriters (d : Dev) (n : BitVec 12) (h : BitVec 128) (s : Nat) : List Cap :=
  d.que.caps.filter (fun c => c.unresolved && c.hdr.ns == n && decide (c.seq < s) && d.capHash c == h)

/-- Step 1 of R127 is over. -/
def Dev.turn (d : Dev) (c : Cap) : Bool := (d.earlierWriters c.hdr.ns (d.capHash c) c.seq).isEmpty

/-- Every earlier writer on the key has reached its completion point (R128, R130). -/
def Dev.firstOnKey (d : Dev) (n : BitVec 12) (h : BitVec 128) (s : Nat) : Bool :=
  (d.earlierWriters n h s).isEmpty &&
    d.que.drift.all (fun v => v.ns != n || v.hash != h || decide (s ≤ v.seq) || v.onMedium)

/-! ## Tokens -/

def tokenLoc (t : BitVec 128) : Nat := t.toNat / 2 ^ 80
def tokenGen (t : BitVec 128) : Nat := t.toNat / 2 ^ 56 % 2 ^ 24
def tokenFrag (t : BitVec 128) : Nat := t.toNat / 2 ^ 32 % 2 ^ 24

/-- The rule of R112 that decides among orders 2 and 3; 0 when the token passes both. -/
def Dev.tokenRule (d : Dev) (n : BitVec 12) (h : BitVec 128) (t : BitVec 128) : Nat :=
  if t.toNat % 2 ^ 32 ≠ d.tokenMac n (natToBytesBE 12 (t.toNat / 2 ^ 32)) then 2
  else if tokenFrag t ≠ fragment h then 3 else 0

/-- Changes a tenant's window (R167). -/
def Dev.modSpec (d : Dev) (t : BitVec 32) (f : SpecWindow → SpecWindow) : Dev :=
  let l := if d.med.spec.any (·.tenant == t) then d.med.spec
    else d.med.spec ++ [{ tenant := t, issued := 0, missed := 0, tokens := 0, tokensStale := 0, suspended := false }]
  { d with med := { d.med with spec := l.map (fun w => if w.tenant == t then f w else w) } }

/-- Evaluates a presented token, once (R112): its mac and its fragment whatever the state of the key, its location and generation against
those of the state on flash, if there are any: stale or not. A check that passes rules 2 and 3 enters the tenant's window; it would have
been a miss where its read would have been squashed for the location or the header (R163, R167). -/
def Dev.checkToken (d : Dev) (c : Cap) (h : BitVec 128) (at_ : Option (Nat × Nat)) : Bool × Dev :=
  if c.hdr.flag Flag.tokenPresent && !c.tokenChecked then
    let d0 := d.modCap c (fun x => { x with tokenChecked := true })
    match d.tokenRule c.hdr.ns h c.hdr.token, at_ with
    | 0, some (loc, gen) =>
      let stale := tokenLoc c.hdr.token != loc || tokenGen c.hdr.token != gen
      let bad := stale || (d.copyFor loc gen).any (fun cp => !cp.badHeads.isEmpty)
      (stale, d0.modSpec c.tenant (fun w => { w with tokens := w.tokens + 1, tokensStale := w.tokensStale + bad.toNat }))
    | 0, none => (true, d0.modSpec c.tenant (fun w => { w with tokens := w.tokens + 1 }))
    | 2, _ => (true, d0.bump (.ns c.hdr.ns .macFail) 1)
    | _, _ => (true, d0)
  else (c.tokenStale, d)

/-- Counts a token presented (R116). -/
def Dev.countToken (d : Dev) (c : Cap) : Dev :=
  if c.hdr.flag Flag.tokenPresent && [Op.get, Op.exists_, Op.patch].contains c.hdr.opcode then
    d.bump (.ns c.hdr.ns .tokens) 1 else d

/-! ## Forecast -/

/-- A tenant's speculation is suspended. -/
def Dev.suspended (d : Dev) (t : BitVec 32) : Bool := d.med.spec.any (fun w => w.tenant == t && w.suspended)

/-- The read issued for a reader and not squashed. -/
def Dev.readOf (d : Dev) (s : Nat) : Option Read := d.med.reads.find? (fun r => r.seq == s && r.squashed.isNone)

/-- Changes a read. -/
def Dev.modRead (d : Dev) (id : Nat) (f : Read → Read) : Dev :=
  { d with med := { d.med with reads := d.med.reads.map (fun r => if r.id == id then f r else r) } }

/-- A read ends. -/
def Dev.dropRead (d : Dev) (id : Nat) : Dev :=
  Dev.endOp { d with med := { d.med with reads := d.med.reads.filter (·.id != id) } } id

/-- The location of chunk `i` of a value that lies in some runs (R205); `dflt` past the last. -/
def Dev.runLoc (d : Dev) (dflt : Nat) : List (Nat × Nat) → Nat → Nat
  | [], _ => dflt
  | (l, n) :: rest, i =>
    if i < n then
      let b := d.bays.get (locBay l)
      b.posLoc (locBay l).val (locGroup l) (locBlock l) (b.locPos l + i)
    else d.runLoc dflt rest (i - n)

/-- The chunks of a copy. -/
def Copy.count (cp : Copy) : Nat := chunkCount cp.bytes.length

/-- The location of a chunk of a copy (R205); the number after the last names the MAP chunk. -/
def Copy.chunkLoc (d : Dev) (cp : Copy) (i : Nat) : Nat := d.runLoc (if cp.mapLoc = 0 then cp.loc else cp.mapLoc) cp.runs i

/-- Chunks of a copy with its MAP chunk, where it has one (R205, R264). -/
def Copy.withMap (cp : Copy) (l : List Nat) : List Nat := if cp.mapLoc = 0 then l else l ++ [cp.count]

/-- The locations of some chunks of a value: the one named alone where no copy is known there. -/
def Dev.readLocs (d : Dev) (loc gen : Nat) (want : List Nat) : List Nat :=
  match d.copyFor loc gen with
  | none => [loc]
  | some cp => want.map (cp.chunkLoc d)

/-- The dies that some chunks of a value lie on (R200, R201). -/
def Dev.readDies (d : Dev) (loc gen : Nat) (want : List Nat) : List Nat := ((d.readLocs loc gen want).map locDie).dedup

/-- Issues the read of some chunks of a value for a capsule, at the priority of host reads (R161, R163, R233): one die operation for each
die that they lie on. -/
def Dev.issueRead (d : Dev) (c : Cap) (loc gen : Nat) (want : List Nat) (source : Option SpecSource) (second : Bool) : Dev :=
  let (id, d1) := d.opId
  let r : Read := { id := id, seq := c.seq, loc := loc, gen := gen, want := want, tenant := c.tenant, source := source,
                    squashed := none, second := second, confirming := false, rest := 0, arrived := none, shared := [] }
  Dev.issueOps { d1 with med := { d1.med with reads := d1.med.reads ++ [r] } } id (locBay loc) (d.readDies loc gen want) .read 2

/-- Squashes a speculative read (R163): withdrawn where its die operation has not begun. -/
def Dev.squash (d : Dev) (r : Read) (cause : Nat) : Dev :=
  let d1 := d.bump (.squash cause) 1
  let d2 := if cause = 3 ∨ cause = 4 then d1.modSpec r.tenant (fun w => { w with missed := w.missed + 1 }) else d1
  if r.arrived.isSome then d2.dropRead r.id
  else if d2.opBegun r.id then d2.modRead r.id (fun x => { x with squashed := some cause })
  else (d2.dropRead r.id).bump (.drive .fcWithdrawn) 1

/-- Squashes or ends the read of a reader that ends without it. -/
def Dev.squashOf (d : Dev) (s : Nat) (cause : Nat) : Dev :=
  match d.readOf s with
  | none => d
  | some r => if r.source.isSome then d.squash r cause else d.dropRead r.id

/-- Chunks that the range of a `GET` covers, in a value of `len` bytes. -/
def rangeChunks (h : Hdr) (len : Nat) : Nat :=
  let n := if h.valueLen == 0 then len - h.offset.toNat else h.valueLen.toNat
  ceilDiv (h.offset.toNat + n) 4096 - h.offset.toNat / 4096

/-- The chunks that a speculative read covers: the range's within its first 16 chunks; a range to the end of a value of a length not
known yet counts as 16 (R161). -/
def specChunks (h : Hdr) (len : Option Nat) : Nat :=
  match len with
  | some n => min 16 (max 1 (rangeChunks h n))
  | none => if h.valueLen == 0 then 16 else min 16 (max 1 (rangeChunks h 0))

/-- Where a speculative read would go (R162): location, generation, the value's length where it is known, source. -/
def Dev.predict (d : Dev) (c : Cap) (h : BitVec 128) : Option (Nat × Nat × Option Nat × SpecSource) :=
  if c.hdr.flag Flag.tokenPresent && d.tokenRule c.hdr.ns h c.hdr.token == 0 then
    some (tokenLoc c.hdr.token, tokenGen c.hdr.token, none, .token)
  else match d.lookBy c.hdr.ns h with
    | (.present _ loc gen n _, .cache) => if loc = 0 then none else some (loc, gen, some n, .cache)
    | (.present _ loc gen n _, .log) => if loc = 0 then none else some (loc, gen, some n, .log)
    | _ => none

/-- Speculative reads may be issued for a `GET` at dispatch (R161). A location that is not this drive's is not read. -/
def Dev.mayRead (d : Dev) (c : Cap) (h : BitVec 128) : Bool :=
  c.hdr.opcode == Op.get && !c.hdr.flag Flag.noForecast && d.pflag P.forecastEnable && !d.suspended c.tenant &&
    (d.driftBelow c.hdr.ns h c.seq).isNone &&
    !(d.earlierWriters c.hdr.ns h c.seq).any (fun w => w.hdr.opcode == Op.put && !w.hdr.flag Flag.ifAbsent) &&
    decide (((d.med.reads.filter (fun r => r.source.isSome)).map (·.want.length)).sum * 4096 < d.pnum P.forecastSpecStagingMax) &&
    decide ((d.med.reads.filter (fun r => r.source.isSome && r.tenant == c.tenant)).length < d.pnum P.forecastSpecInflightMax)

/-- Forecast at the dispatch of a `GET` (R161, R162). A value in the value cache needs no read of flash (R17). -/
def Dev.forecast (d : Dev) (c : Cap) : Dev :=
  let h := d.capHash c
  if d.mayRead c h then
    match d.predict c h with
    | none => d
    | some (loc, gen, len, src) =>
      let n := specChunks c.hdr len
      let cached := d.med.hasCached loc gen ((List.range n).map (· + c.hdr.offset.toNat / 4096))
      if cached || decide (loc < 2 ^ 47) || loc % 1024 != 0 || !d.serves (locBay loc) then d
      else
        ((d.issueRead c loc gen ((List.range n).map (· + c.hdr.offset.toNat / 4096)) (some src) false).bump (.drive (match src with
          | .token => .fcToken
          | .cache => .fcCache
          | .log => .fcLog)) 1).modSpec c.tenant (fun w => { w with issued := w.issued + 1 })
  else d

/-! ## Die reads: disturb counts, read levels, retries, rebuilds (R220, R222, R230, R231, R263) -/

/-- Marks a band for refresh and raises `EV_REFRESH` (R231). -/
def Dev.markRefresh (d : Dev) (bay : BayNo) (group block cause : Nat) : Dev :=
  match (d.bays.get bay).band? group block with
  | none => d
  | some x =>
    if x.refresh then d
    else (d.modBay bay (fun b => b.modBand group block (fun y => { y with refresh := true }))).raise Ev.refresh bay.val
      (bandNum group block) cause 0

/-- Counts one read of a block (R231). -/
def Dev.countRead (d : Dev) (loc : Nat) : Dev :=
  let bay := locBay loc
  let d1 := d.modBay bay (fun b => b.modBand (locGroup loc) (locBlock loc) (fun x => { x with reads := bumpNat x.reads (blockOf loc) }))
  match (d1.bays.get bay).band? (locGroup loc) (locBlock loc) with
  | none => d1
  | some x =>
    if d.pnum P.mediaReadDisturbLimit ≤ (x.reads.lookup (blockOf loc)).getD 0 then
      d1.markRefresh bay (locGroup loc) (locBlock loc) 1
    else d1

/-- Counts a read of each block that some locations lie in (R231), and ends the run of failing statuses of their dies (R221). -/
def Dev.countReads (d : Dev) (ls : List Nat) : Dev :=
  ((ls.map (fun l => l / 2 ^ 24 * 2 ^ 24)).dedup).foldl (fun (d : Dev) (l : Nat) =>
    (d.countRead l).modBay (locBay l) (fun b => { b with failRuns := b.failRuns.filter (·.1 != locDie l) })) d

/-- The highest step of R263 that an outcome reached. -/
def readStep : ReadOutcome → Nat
  | .ok _ => 0
  | .retried n _ _ => n
  | .rebuilt => 5
  | .lost _ => 5
  | .badHead _ n _ => n

/-- `EV_NAND_RETRY` for a read that reached step 2, at most once per second per cartridge (R263). -/
def Dev.retryEvent (d : Dev) (loc : Nat) (step : Nat) (decoded : Bool) : Dev :=
  if step < 2 then d
  else d.raiseHeld Ev.nandRetry (locBay loc).val (fun _ => ((locBay loc).val, step, loc / 2 ^ 16, if decoded then 1 else 2))

/-- A read that needed rebuild, which recovered the page (`ok`) or did not (R220, R222, R231): the band is marked; the second within a day
retires the block. -/
def Dev.rebuiltAt (d : Dev) (loc : Nat) (ok : Bool) : Dev :=
  let bay := locBay loc
  let band := bandNum (locGroup loc) (locBlock loc)
  let pages := match (d.bays.get bay).band? (locGroup loc) (locBlock loc) with
    | some x => x.mode.pages
    | none => 1
  let d1 := ((d.raise Ev.parityRebuild bay.val band (locPage loc / pages) (if ok then 1 else 2)).bump (.cart bay .rebuilds) ok.toNat).markRefresh
    bay (locGroup loc) (locBlock loc) 3
  let again := (d1.bays.get bay).rebuilds.any (fun r => r.1 == blockOf loc && decide (d.clk.tick < r.2 + 86400000000))
  let d2 := d1.modBay bay (fun b => { b with rebuilds := (blockOf loc, d.clk.tick) :: b.rebuilds.filter (·.1 != blockOf loc) })
  if again then d2.retireBlock bay (loc / 2 ^ 24 * 2 ^ 24) 3 else d2

/-- The iteration limit of step 0 (R263). -/
abbrev iterationLimit : Nat := 20

/-- What the read of one codeword leaves beside its data (R220, R230, R263): a block that decodes above 60 % of the limit moves to another set of the
table, which the spec does not name (log entry 208); the capsule it serves passes to firmware where it needs more than one retry
step or a rebuild (R15). -/
def Dev.readEffects (d : Dev) (seq loc : Nat) (o : ReadOutcome) : Dev :=
  let bay := locBay loc
  let d0 := if 5 ≤ readStep o then d.handOver seq .rebuild else if 2 ≤ readStep o then d.handOver seq .retry else d
  let d1 := d0.bump (.retryStep bay (readStep o)) 1
  let level (d : Dev) (s : Nat) : Dev := d.modBay bay (fun b => b.modBand (locGroup loc) (locBlock loc) (fun x =>
    { x with levels := (blockOf loc, s % 16) :: x.levels.filter (·.1 != blockOf loc) }))
  match o with
  | .badHead _ n _ => d1.retryEvent loc n true
  | .ok n =>
    if iterationLimit * 60 < n * 100 then
      let (v, d2) := d1.draw
      level d2 v.toNat
    else d1
  | .retried step set _ =>
    let d2 := d1.retryEvent loc step true
    if step = 1 then level d2 set else d2
  | .rebuilt => (d1.retryEvent loc 5 true).rebuiltAt loc true
  | .lost _ => (d1.retryEvent loc 5 false).rebuiltAt loc false

/-- A chunk number as a read's own: its first where the number is none of its chunks. -/
def ownChunk (want : List Nat) (i : Nat) : Nat := if want.contains i then i else want.headD 0

/-- The chunk that the outcome of a report was met at. -/
def reportChunk (r : ReadReport) : Nat :=
  match r.outcome with
  | .lost i => i
  | .badHead i _ _ => i
  | _ => r.at_

/-- What a read leaves beside its data, codeword by codeword: each at the location of its chunk; the header checks that failed on the way are
counted by their order (R263, R264, R283). -/
def Dev.reportEffects (d : Dev) (seq : Nat) (at_ : Nat → Nat) (r : ReadReport) : Dev :=
  let d1 := r.others.foldl (fun (d : Dev) (x : Nat × ReadOutcome) => d.readEffects seq (at_ x.1) x.2)
    (d.readEffects seq (at_ (reportChunk r)) r.outcome)
  r.heads.foldl (fun (d : Dev) (n : Nat) => d.bump (.headerFail n) 1) d1

/-! ## The reader's reply -/

/-- A reader ends with a reply: its read, its prefetches and the version it held go. -/
def Dev.endReader (d : Dev) (c : Cap) (r : Reply) : Dev :=
  let d1 := (((d.correctGet c r.data.length).squashOf c.seq 2).withdrawPrefetch c.seq).finishFree c r
  let d2 := if r.status == Status.tokenStale then d1.bump (.ns c.hdr.ns .stale) 1 else d1
  match c.captured with
  | some (.buffered s) => d2.releaseVer s
  | _ => d2

/-- The status of a reader that was executed: `TOKEN_STALE` where nothing else applies (R112). -/
def okStatus (stale : Bool) : BitVec 16 := if stale then Status.tokenStale else Status.ok

/-- The range of a `GET` (R94): offset and length. -/
def rangeOf (h : Hdr) (len : Nat) : Option (Nat × Nat) :=
  let o := h.offset.toNat
  if len < o ∨ len < o + h.valueLen.toNat then none
  else some (o, if h.valueLen == 0 then len - o else h.valueLen.toNat)

/-- A `GET` asks for a range that the value does not have (R94). -/
def badRange (h : Hdr) (len : Nat) : Bool := h.opcode == Op.get && (rangeOf h len).isNone

/-- The reply of a reader on a namespace under maintenance: the conditions of its own rule come first (R79). -/
def busyReply (c : Cap) (content : Option Bytes) : Reply :=
  match content with
  | none => { Reply.plain Status.notFound with fromBuffer := true }
  | some b =>
    if badRange c.hdr b.length then { Reply.plain Status.badLength with fromBuffer := true }
    else Reply.plain Status.busyMaintenance

/-- A range covers a chunk that cannot be read. -/
def rangeBad (bad : List Nat) (o n : Nat) : Bool := bad.any (fun i => patched o n i)

/-- The reply from a buffered version (R95, R127, R277). -/
def bufferedReply (c : Cap) (v : Version) : Reply :=
  match v.content with
  | none => { Reply.plain Status.notFound with fromBuffer := true }
  | some b =>
    if c.hdr.opcode == Op.exists_ then { Reply.ver Status.ok v.seq with len := some b.length, fromBuffer := true }
    else match rangeOf c.hdr b.length with
      | none => { Reply.plain Status.badLength with fromBuffer := true }
      | some (o, n) =>
        if rangeBad v.bad o n then { Reply.plain Status.mediaError with fromBuffer := true }
        else { Reply.ver Status.ok v.seq with data := (b.drop o).take n, fromBuffer := true }

/-- A chunk of a buffered version cannot be read (R272, R278): a writer not on medium fails or is lost with those resolved on it, the readers
of the version end with `MEDIA_ERROR`, and a `PATCH` that would copy the chunk fails. -/
def Dev.driftUe (d : Dev) (seq chunk : Nat) : Dev :=
  match d.ver? seq with
  | none => d
  | some v =>
    let d1 := if v.onMedium then d.modVer seq (fun x => { x with bad := (chunk :: x.bad).dedup }) else d.endVer seq Status.mediaError 3
    (d1.que.caps.filter (fun c => c.captured == some (.buffered seq))).foldl (fun (d : Dev) (c : Cap) =>
      d.endReader c (Reply.plain Status.mediaError)) d1

/-- A reply cannot go on past a chunk: the reader ends with a status, or, where the reply's first 16 MiB have gone out, its session ends
with `NO_CREDIT` (R262). -/
def Dev.stopReply (d : Dev) (c : Cap) (chunk : Nat) (st : BitVec 16) : Dev :=
  if 4096 ≤ chunk - c.hdr.offset.toNat / 4096 then
    let d1 := (((d.correctGet c 16777216).squashOf c.seq 2).withdrawPrefetch c.seq).dropCap c
    let d2 := match c.captured with
      | some (.buffered s) => d1.releaseVer s
      | _ => d1
    (d2.endSession c.sid 6 false).freeDir c.sid c.start
  else d.endReader c { Reply.plain st with fromBuffer := match c.captured with
    | some (.buffered _) => true
    | _ => false }

/-- The first chunk of a `GET` of a buffered version that cannot be read (R277). -/
def badChunk (v : Version) (h : Hdr) (len : Nat) : Option Nat :=
  if h.opcode == Op.get then (rangeOf h len).bind (fun r => v.bad.find? (fun i => patched r.1 r.2 i)) else none

/-- A reader is served from the buffered version it captured; the chunks it is sent are tested (R261, R262). -/
def Dev.serveBuffered (d : Dev) (c : Cap) (v : Version) : Dev :=
  let b := v.content.getD []
  match if c.hdr.opcode == Op.get then (match rangeOf c.hdr b.length with
      | some (o, n) => checkFail b v.checks (chunksOf o n)
      | none => none) else none with
  | some i => ((d.checkFails v.ns v.seq i 2).stopReply c i Status.mediaError).driftUe v.seq i
  | none => match badChunk v c.hdr b.length with
    | some i => d.stopReply c i Status.mediaError
    | none => d.endReader c (bufferedReply c v)

/-- The reply from a completed buffered version (R127); on a namespace under maintenance the conditions of its own rule come first
(R79). -/
def Dev.placeBuffered (d : Dev) (c : Cap) (v : Version) : Dev :=
  if d.nsBusy c.hdr.ns c.seq then d.endReader c (busyReply c v.content) else d.serveBuffered c v

/-- A cached value that is to be sent and fails a chunk check leaves the cache, and is read from flash (R261, R272; log entry 215). -/
def Dev.testCached (d : Dev) (c : Cap) (version loc gen : Nat) (cp : Copy) (chunks : List Nat) : Dev :=
  match d.med.cacheFail loc gen (d.plainOf cp) chunks with
  | some i => let d1 := d.checkFails c.hdr.ns version i 2; { d1 with med := d1.med.uncache loc gen }
  | none => d

/-- A reader cannot read its captured state: the partner serves exactly that version, or the reader ends with the status that this drive
reports alone (R298). A state without a version has nothing that the partner could serve. -/
def Dev.orPartner (d : Dev) (c : Cap) (version : Option Nat) (st : BitVec 16) : Dev :=
  if d.partnerCan c.hdr.ns && version.isSome then d.partnerRead c version st else d.endReader c (Reply.plain st)

/-- The version of a key's newest state, as the log or else its bucket's page names it, also where its home is absent (R298): DEDUCED, log
entry 244. -/
def Dev.namedVersion (d : Dev) (n : BitVec 12) (h : BitVec 128) (key : Bytes) : Option Nat :=
  match d.logRec n h with
  | some r => if (r.kind == .value || r.kind == .relocation) && r.key == key then some r.version else none
  | none => (d.bucketOf n h).bind (fun b => if b.pageLost then none
    else (b.entries.find? (fun e => e.hash == h && e.key == key && !e.lost)).map (·.version))

/-- The data of a `GET` leaves the media complex: the chunks read of a value under 32 KiB join the value cache (R17, R165). -/
def Dev.serveValue (d : Dev) (c : Cap) (h : BitVec 128) (version loc gen : Nat) (cp : Copy) (stale : Bool) : Dev :=
  match rangeOf c.hdr cp.bytes.length with
  | none => d.endReader c (Reply.plain Status.badLength)
  | some (o, n) =>
    let b := d.plainOf cp
    let d1 : Dev := if cp.bytes.length < 32768 && !cp.dead then { d with med := d.med.cacheValue loc gen b (chunksOf o n) } else d
    d1.endReader c { Reply.ver (okStatus stale) version with data := (b.drop o).take n, token := d1.token c.hdr.ns h loc gen }

/-- The row of a location is unprotected (R219): a chunk of it cannot be rebuilt. -/
def Dev.unprotectedAt (d : Dev) (loc : Nat) : Bool :=
  ((d.bays.get (locBay loc)).band? (locGroup loc) (locBlock loc)).any (fun x => x.unprotected.contains (locPage loc))

/-- A rebuild that the row does not allow (R219, R220): the chunk is lost. -/
def rebuildLost (d : Dev) (cp : Copy) (x : Nat × ReadOutcome) : Bool := x.2 == .rebuilt && d.unprotectedAt (cp.chunkLoc d x.1)

/-- The report of a read of some chunks as the copy's own condition gives it: a chunk that no rebuild recovers stays lost, a header that
failed a check of R264 fails it again, and no chunk of an unprotected row is rebuilt (R219, R220, R264). -/
def Copy.report (d : Dev) (cp : Copy) (want : List Nat) (r : ReadReport) : ReadReport :=
  let own (i : Nat) : Bool := want.contains i
  let o := match r.outcome with
    | .lost i => .lost (ownChunk want i)
    | .badHead i n k => .badHead (ownChunk want i) n k
    | x => x
  let r1 : ReadReport := { r with outcome := o, at_ := ownChunk want r.at_, others := r.others.filter (fun x => own x.1) }
  match cp.bad.find? own with
  | some i => { r1 with outcome := .lost i, others := r1.others.filter (·.1 != i) }
  | none => match cp.badHeads.find? (fun x => own x.1) with
    | some (i, k) => { r1 with outcome := .badHead i 0 k, others := r1.others.filter (·.1 != i) }
    | none => match ((reportChunk r1, r1.outcome) :: r1.others).find? (rebuildLost d cp) with
      | some (i, _) => { r1 with outcome := .lost i, others := r1.others.filter (·.1 != i) }
      | none => r1

/-- A retry sequence that a patrol read ran on a codeword of the read counts for both: its outcome is the read's, and is not counted twice
(R263). -/
def Read.takeShared (x : Read) (r : ReadReport) : ReadReport :=
  match x.shared.find? (fun y => y.1 == reportChunk r) with
  | some (i, o) => { r with outcome := o, at_ := i }
  | none => r

/-- A read fails for good: a mirror partner serves it, or the reader's reply stops (R262, R298). -/
def Dev.readFails (d : Dev) (c : Cap) (version chunk : Nat) (st : BitVec 16) : Dev :=
  if d.partnerCan c.hdr.ns then d.partnerRead c (some version) st else d.stopReply c chunk st

/-- A speculative read that the captured state had named fails the header check (R163): cause 4. -/
def Dev.headerMiss (d : Dev) (r : Read) : Dev :=
  if r.confirming then (d.bump (.squash 4) 1).modSpec r.tenant (fun w => { w with missed := w.missed + 1 }) else d

/-- A chunk of a copy fails an order of R264 for good, or no rebuild recovers it. -/
def Copy.markHead (cp : Copy) (i k : Nat) : Copy := { cp with badHeads := ((i, k) :: cp.badHeads.filter (·.1 != i)) }
def Copy.markLost (cp : Copy) (i : Nat) : Copy := { cp with bad := (i :: cp.bad).dedup }

/-- The reader's own read is done (R18, R163, R220, R262, R264, R298): its chunks past the first 16 are read next (R161), or the value is
served. A chunk that fails order 3 is unreadable; one that fails order 4 or 5 is read once more by the pinned location, and fails for good at
the second failure; so does every later read of it. -/
def Dev.serveRead (d : Dev) (r : Read) (c : Cap) (version loc gen : Nat) (o : ReadReport) : Dev :=
  let h := d.capHash c
  match d.copyFor loc gen with
  | none => (d.dropRead r.id).orPartner c (some version) Status.mediaError
  | some cp =>
    let o1 := cp.report d r.want (r.takeShared o)
    let d0 := d.dropRead r.id
    let d1 := if r.shared.any (fun y => y.1 == reportChunk o1) then d0 else d0.reportEffects c.seq (cp.chunkLoc d) o1
    let d2 := if r.confirming then d1.bump (.drive .fcConfirmed) 1 else d1
    let sent (i : Nat) : Nat := if i < cp.count then i else 0
    match o1.outcome with
    | .ok _ | .retried _ _ _ | .rebuilt =>
      if r.rest = 0 then d2.serveValue c h version loc gen cp c.tokenStale
      else d2.issueRead c loc gen (cp.withMap ((List.range r.rest).map (· + (c.hdr.offset.toNat / 4096 + 16)))) none false
    | .lost i => (d2.modCopy loc gen (fun x => x.markLost i)).readFails c version (sent i) Status.mediaError
    | .badHead i _ k =>
      let l := cp.chunkLoc d i
      let d3 := (d1.bump (.headerFail k) 1).headerMiss r
      if k ≤ 3 then
        (((d3.modCopy loc gen (fun x => x.markHead i k)).handOver c.seq .integrity).raise Ev.genTwin c.hdr.ns.toNat (l / 2 ^ 16)
          (l % 2 ^ 16) 0).readFails c version (sent i) Status.integrityFault
      else if r.second then
        (((d3.modCopy loc gen (fun x => x.markHead i k)).handOver c.seq .integrity).raise Ev.chunkHeader c.hdr.ns.toNat k
          (l / 2 ^ 16) 1).readFails c version (sent i) Status.integrityFault
      else d3.issueRead c loc gen r.want none true

/-- The read of the chunks that a `PATCH` copies is done (R277): they are checked as those of a host read are, and what was found stands
when the `PATCH` resolves. -/
def Dev.copyRead (d : Dev) (r : Read) (c : Cap) (o : ReadReport) : Dev :=
  match d.copyFor r.loc r.gen with
  | none => d.dropRead r.id
  | some cp =>
    let o1 := cp.report d r.want (r.takeShared o)
    let d0 := d.dropRead r.id
    let d1 := if r.shared.any (fun y => y.1 == reportChunk o1) then d0 else d0.reportEffects c.seq (cp.chunkLoc d) o1
    let done (d : Dev) : Dev := d.modCap c (fun x => { x with copied := some (r.loc, r.gen) })
    match o1.outcome with
    | .ok _ | .retried _ _ _ | .rebuilt => done d1
    | .lost i => done (d1.modCopy r.loc r.gen (fun x => x.markLost i))
    | .badHead i _ k =>
      let l := cp.chunkLoc d i
      let d2 := d1.bump (.headerFail k) 1
      let d3 := (d2.modCopy r.loc r.gen (fun x => x.markHead i k)).handOver c.seq .integrity
      if k ≤ 3 then done (d3.raise Ev.genTwin c.hdr.ns.toNat (l / 2 ^ 16) (l % 2 ^ 16) 0)
      else if r.second then done (d3.raise Ev.chunkHeader c.hdr.ns.toNat k (l / 2 ^ 16) 1)
      else d2.issueRead c r.loc r.gen r.want none true

/-! ## Capture (R160) -/

/-- Where a value is read: at the source of a copy that has a chunk in a block that failed under a batch (R219). -/
def Dev.aim (d : Dev) (loc gen : Nat) : Nat × Nat :=
  match (d.copyAt loc gen).bind (·.fallback) with
  | some (l, g) => if (d.copyFor l g).isSome then (l, g) else (loc, gen)
  | none => (loc, gen)

/-- The full key of a reader's log record is still being read. -/
def Dev.keyPending (d : Dev) (seq : Nat) : Bool := d.med.keyReads.any (·.seq == seq)

/-- A state that the log names is confirmed by the full key: of a key longer than 8 bytes, by its journal chunk; one that journal staging SRAM holds
no more is read from SLC, in parallel with any value read (R152). -/
def Dev.confirmKey (d : Dev) (c : Cap) (h : BitVec 128) : Dev :=
  match d.logRec c.hdr.ns h with
  | none => d
  | some r =>
    if c.key.length ≤ 8 || d.idx.staging.contains r.ref || !d.serves (locBay r.ref) then d
    else
      let (id, d1) := d.opId
      Dev.issueOps { d1 with med := { d1.med with keyReads := d1.med.keyReads ++ [⟨id, c.seq, r.ref⟩] } } id (locBay r.ref) [locDie r.ref] .read 2

/-- A reader that has captured a value ends as far as what it needs is at hand (R152, R163): the length of an `EXISTS`, a range outside the value or
empty, data that has arrived or stands in the value cache. -/
def Dev.answerValue (d : Dev) (c : Cap) (h : BitVec 128) (version loc gen len : Nat) : Dev :=
  let ok : Reply := { Reply.ver (okStatus c.tokenStale) version with token := d.token c.hdr.ns h loc gen }
  if d.keyPending c.seq then d
  else if c.hdr.opcode == Op.exists_ then d.endReader c { ok with len := some len }
  else match rangeOf c.hdr len with
    | none => d.endReader c (Reply.plain Status.badLength)
    | some (_, n) =>
      if n = 0 then d.endReader c ok
      else match d.readOf c.seq with
        | some r => match r.arrived with
          | some o => d.serveRead r c version loc gen o
          | none => d
        | none => match d.copyAt loc gen with
          | some cp => d.serveValue c h version loc gen cp c.tokenStale
          | none => d

/-- A reader captures a value on flash (R160, R163): its range is served from the value cache, from the speculative read that went to
this location, which it confirms (DEDUCED, log entry 196), or from a read of its own. -/
def Dev.captureValue (d : Dev) (c : Cap) (h : BitVec 128) (version loc gen len : Nat) : Dev :=
  let (stale, d1) := d.checkToken c h (if loc = 0 then none else some (loc, gen))
  let (loc, gen) := d1.aim loc gen
  let c1 := { c with captured := some (.value version loc gen len), tokenStale := stale, tokenChecked := true }
  let d3 := (d1.modCap c (fun _ => c1)).confirmKey c1 h
  match rangeOf c.hdr len with
  | none => d3.answerValue c1 h version loc gen len
  | some (o, n) =>
    if c.hdr.opcode == Op.exists_ || n = 0 then d3.answerValue c1 h version loc gen len
    else
      let own := match d3.readOf c.seq with
        | some r => if r.loc = loc ∧ r.gen = gen then some r else none
        | none => none
      let d3 := match d3.copyAt loc gen with
        | some cp => d3.testCached c1 version loc gen cp (chunksOf o n)
        | none => d3
      match d3.med.hasCached loc gen (chunksOf o n), d3.copyAt loc gen with
      | true, some _ =>
        (match own with
          | some r => (d3.bump (.drive .fcConfirmed) 1).dropRead r.id
          | none => d3.squashOf c.seq 3).answerValue c1 h version loc gen len
      | _, _ =>
        match own with
        | some r =>
          (d3.modRead r.id (fun x => { x with source := none, confirming := true, rest := rangeChunks c.hdr len - 16 })).answerValue c1 h version loc
            gen len
        | none =>
          let d4 := match d3.readOf c.seq with
            | some r => d3.squash r 3
            | none => d3.bump (.drive .fcNoPrediction) 1
          d4.issueRead c1 loc gen ((d4.copyFor loc gen).elim (chunksOf o n) (fun cp => cp.withMap (chunksOf o n))) none false

/-- A reader whose state holds no value on flash: its token is evaluated all the same (R112), and it ends (R163). -/
def Dev.captureNone (d : Dev) (c : Cap) (h : BitVec 128) (x : Option Captured) (st : BitVec 16) : Dev :=
  (d.checkToken c h none).2.endReader { c with captured := x, tokenChecked := true } (Reply.plain st)

/-- A reader whose turn has come captures its state, once (R127, R160, R297, R298). A follower's local read waits until the lead's
committed value covers the version (R297). -/
def Dev.capture (d : Dev) (c : Cap) : Dev :=
  let n := c.hdr.ns
  let h := d.capHash c
  match d.mirrorGate n false false with
  | some st => d.endReader c (Reply.plain st)
  | none =>
    if !d.followerServes n then
      (if d.linked then d.partnerRead c none Status.unavailable else d.endReader c (Reply.plain Status.unavailable))
    else if d.turnedAway n h c.seq then
      (d.checkToken c h none).2.orPartner { c with tokenChecked := true } (d.namedVersion n h c.key) Status.unavailable
    else if d.gale.dupKeys.contains (n, h) then d.captureNone c h none Status.integrityFault
    else
      let waits (v : Nat) : Bool := d.follows n && decide (d.mir.committed < v)
      match d.driftFor n h c.key c.seq with
      | some v =>
        let d1 := (d.countSearch .directory true).withdrawPrefetch c.seq
        if v.key != c.key then (d1.squashOf c.seq 1).endReader c (Reply.plain Status.notFound)
        else
          let c1 := { c with captured := some (.buffered v.seq) }
          let d2 := (d1.modCap c (fun _ => c1)).squashOf c.seq 1
          if v.done && !waits v.seq then d2.placeBuffered c1 v else d2
      | none =>
        let (l, by_) := d.lookBy n h
        let d1 := ((d.countSearch .directory (d.buffered n h)).countLook by_ c.pageWait).usePage n h by_
        match l with
        | .page lo => (d1.modCap c (fun x => { x with pageWait := true })).readPage n lo c.seq
        | .fail st =>
          let d2 := (d1.checkToken c h none).2
          let c1 := { c with tokenChecked := true }
          if st == Status.unavailable || st == Status.mediaError then d2.orPartner c1 (d.namedVersion n h c.key) st
          else d2.endReader c1 (Reply.plain st)
        | .absent =>
          if (d.logRec n h).any (fun r => waits r.version) then d else d1.captureNone c h (some .absent) Status.notFound
        | .lostHome => d1.captureNone c h none Status.mediaError
        | .lost v k =>
          if k != c.key then d1.captureNone c h none Status.notFound else d1.captureNone c h (some (.lostKey v)) Status.mediaError
        | .present v loc gen len k =>
          if k != c.key then d1.captureNone c h none Status.notFound
          else if waits v then d
          else if d.nsBusy n c.seq then
            d1.endReader c (Reply.plain (if badRange c.hdr len then Status.badLength else Status.busyMaintenance))
          else d1.captureValue c h v loc gen len

/-- Readers on a key whose turn has come capture (R160). -/
def Dev.captureWaiting (d : Dev) (n : BitVec 12) (h : BitVec 128) : Dev :=
  (d.que.caps.filter (fun c => isReader c.hdr.opcode && c.stage == .dispatched && c.captured.isNone && c.hdr.ns == n &&
    !c.forwarded)).foldl (fun (d : Dev) (c : Cap) =>
      if d.capHash c == h && d.turn c && (d.capBySeq c.seq).isSome then d.capture c else d) d

/-- The waits that the resolution of writer `s` ends are counted (R145). -/
def Dev.endWaits (d : Dev) (n : BitVec 12) (h : BitVec 128) (s : Nat) : Dev :=
  (d.que.caps.filter (fun c => (isReader c.hdr.opcode || isWriter c.hdr.opcode) && decide (s < c.seq) && c.hdr.ns == n)).foldl
    (fun (d : Dev) (c : Cap) =>
      if d.capHash c == h && d.turn c then d.bump (.drive .hazardUs) (d.clk.tick - c.stamp) else d) d

/-- The reply of a reader that took a buffered version, once its write has reached its completion point (R127). -/
def Dev.replyBuffered (d : Dev) (c : Cap) : Dev :=
  match c.captured with
  | some (.buffered s) => match d.ver? s with
    | some v =>
      if v.done && !(d.follows v.ns && decide (d.mir.committed < v.seq)) then d.placeBuffered c v else d
    | none => d
  | _ => d

/-- Readers of a session's own key that wait on a page capture once it is cached. -/
def Dev.capturePage (d : Dev) (n : BitVec 12) (lo hi : Nat) : Dev :=
  (d.que.caps.filter (fun c => isReader c.hdr.opcode && c.stage == .dispatched && c.captured.isNone && c.hdr.ns == n &&
    !c.forwarded)).foldl (fun (d : Dev) (c : Cap) =>
      let x := high64 (d.capHash c)
      if decide (lo ≤ x) && decide (x ≤ hi) && d.turn c then d.capture c else d) d

end Sys2Proof.Machine
end

