-- ==== Sys2Proof/Machine/Sequence.lean ====
section
/-! DEFINITION. Jetstream: checks 13 to 18 of R77, sequencing (R118 to R120), dispatch (R121 to R124, R129), `ABORT` (R140 to
R143). -/

namespace Sys2Proof.Machine

/-! ## Checks 13 to 18 of R77 -/

/-- The binding of a tenant to a namespace (R181). -/
def Policy.binding (p : Policy) (t : BitVec 32) (n : BitVec 12) : Option Binding :=
  p.bindings.find? (fun b => b.tenant == t && b.ns == n)

/-- The record of a tenant (R183). -/
def Policy.tenant (p : Policy) (t : BitVec 32) : Option Tenant := p.tenants.find? (·.id == t)

/-- Admin opcodes of the provisioning credential (R378). -/
def provisioningMay (op : BitVec 16) : Bool := op == Op.identify || op == Op.attest

/-- An `NS_DELETE` of the namespace has been sequenced and will be executed (R86). -/
def Dev.deleting (d : Dev) (n : BitVec 12) : Bool :=
  d.que.caps.any (fun x => x.hdr.opcode == Op.nsDelete && x.hdr.ns == n && x.seq != 0 && x.stage != .held && x.value.length == 8 &&
    decide (x.value.toNatBE < 2) && (d.mirror? n).isNone)

/-- Check 13 (R181, R183, R378): `ABORT` is permitted to every session's tenant; operators have the admin opcodes; a tenant has
its bindings and its admin_permit. -/
def Dev.permitted (d : Dev) (c : Cap) : Bool :=
  if c.hdr.opcode == Op.abort then true
  else if c.tenant == provisioningId then provisioningMay c.hdr.opcode
  else if d.isOperator c.tenant then isAdmin c.hdr.opcode
  else match d.pol.tenant c.tenant with
    | none => false
    | some t =>
      if isAdmin c.hdr.opcode then t.adminPermit.getLsbD (c.hdr.opcode.toNat % 256)
      else match d.pol.binding c.tenant c.hdr.ns with
        | none => false
        | some b => (d.nsOf c.hdr.ns).isSome && !d.deleting c.hdr.ns && b.dataPermit.getLsbD c.hdr.opcode.toNat

/-- Size of a limit's bucket of capsules, in millionths, and of bytes (R185). -/
def Tenant.opsSize (t : Tenant) : Int := (t.opsLimit * t.intervalMs * 1000 : Nat)
def Tenant.bytesSize (t : Tenant) : Int := (t.bytesLimit * t.intervalMs * 1000 : Nat)

/-- A tenant's buckets refilled up to now (R185). -/
def Tenant.refill (t : Tenant) (now : Nat) : Tenant :=
  { t with opsLevel := min t.opsSize (t.opsLevel + (t.opsLimit * (now - t.refilled) : Nat)),
           bytesLevel := min t.bytesSize (t.bytesLevel + (t.bytesLimit * (now - t.refilled) : Nat)), refilled := now }

/-- The payload bytes a capsule is charged at check 14 (R185). -/
def limitBytes (h : Hdr) : Nat :=
  if h.opcode == Op.get then (if h.valueLen == 0 then 4096 else h.valueLen.toNat) else h.carried

/-- One charge fits a bucket, or the bucket is full (R185). -/
def bucketFits (limit : Nat) (level size charge : Int) : Bool := limit == 0 || decide (charge ≤ level) || decide (size ≤ level)

/-- The limits of a tenant let a capsule through. -/
def Tenant.fits (t : Tenant) (h : Hdr) : Bool :=
  bucketFits t.opsLimit t.opsLevel t.opsSize 1000000 && bucketFits t.bytesLimit t.bytesLevel t.bytesSize (limitBytes h)

/-- The limits apply: data opcodes other than `ABORT`, of a tenant with a limit (R80, R183). -/
def Dev.limited (d : Dev) (c : Cap) : Option Tenant :=
  if isAdmin c.hdr.opcode || c.hdr.opcode == Op.abort then none
  else match d.pol.tenant c.tenant with
    | some t => if t.action = 0 then none else some (t.refill d.clk.tick)
    | none => none

/-- What check 14 decides: nothing, `THROTTLED`, or a delay. -/
inductive LimitResult
  | pass | refuse | delay
  deriving DecidableEq, Repr

/-- Check 14 (R185); a capsule that it has charged has passed it. -/
def Dev.limitCheck (d : Dev) (c : Cap) : LimitResult :=
  match if c.limitPaid then none else d.limited c with
  | none => .pass
  | some t => if t.fits c.hdr then .pass else if t.action = 2 then .refuse else .delay

/-- Charges a tenant's buckets (R185). -/
def Dev.chargeLimits (d : Dev) (c : Cap) : Dev :=
  match if c.limitPaid then none else d.limited c with
  | none => d
  | some t => d.modTenant c.tenant (fun _ =>
      { t with opsLevel := t.opsLevel - (if t.opsLimit = 0 then 0 else 1000000),
               bytesLevel := t.bytesLevel - (if t.bytesLimit = 0 then 0 else (limitBytes c.hdr : Int)) })

/-- The owner of a high word (R115). -/
def Ring.owner (r : Ring) (high : Nat) : Option (BitVec 16) :=
  match r.points.find? (fun p => decide (high ≤ p.1.toNat)) with
  | some p => some p.2
  | none => r.points.head?.map (·.2)

/-- The points of a block. -/
def ringPoints (b : Bytes) (n : Nat) : List (BitVec 32 × BitVec 16 × Nat) :=
  (List.range n).map (fun i => (BitVec.ofNat 32 (b.field (16 + 8 * i) 4), BitVec.ofNat 16 (b.field (20 + 8 * i) 2), b.field (22 + 8 * i) 2))

/-- Positions strictly ascend, and the reserved fields are zero. -/
def pointsOk : List (BitVec 32 × BitVec 16 × Nat) → Bool
  | [] => true
  | [a] => a.2.2 == 0
  | a :: b :: rest => a.2.2 == 0 && decide (a.1.toNat < b.1.toNat) && pointsOk (b :: rest)

/-- The status of a `RING_LOAD` of a block over a ring of an epoch (R114). -/
def ringStatus (epoch : Nat) (b : Bytes) : BitVec 16 :=
  let n := b.field 8 4
  if b.length != 16 + 8 * n then Status.badLength
  else if b.field 0 8 ≤ epoch ∨ n = 0 ∨ 262144 < n ∨ !b.zeroAt 12 4 ∨ !pointsOk (ringPoints b n) then Status.badField
  else Status.ok

/-- The ring of a block (R114). -/
def ringOf (b : Bytes) : Ring :=
  { epoch := b.field 0 8, points := (ringPoints b (b.field 8 4)).map (fun p => (p.1, p.2.1)) }

/-- The ring that a `RING_LOAD` sequenced and not yet executed will put in force: a capsule sequenced after it is checked against it
(R114). -/
def Dev.ringNow (d : Dev) : Ring :=
  (d.que.caps.filter (fun c => c.hdr.opcode == Op.ringLoad && c.seq != 0)).foldl (fun r c =>
    if ringStatus r.epoch c.value == Status.ok then ringOf c.value else r) d.ring

/-- This drive, or its partner in a pair, owns a key hash (R115). -/
def Dev.owns (d : Dev) (h : BitVec 128) : Bool :=
  match d.ringNow.owner (h.toNat / 2 ^ 96) with
  | none => false
  | some n => n.toNat == d.pnum P.indexNodeId || (d.mir.state != .unpaired && n == d.mir.partnerNode)

/-- A capsule is checked for ownership (R115). -/
def Dev.ringChecked (d : Dev) (c : Cap) : Bool :=
  carriesKey c.hdr.opcode && (c.hdr.flag Flag.ringCheck || d.pflag P.indexRingCheckForce)

/-- What a drive without a valid life-cycle record still executes (R387). -/
def invalidMay (c : Cap) : Bool :=
  c.hdr.opcode == Op.identify || (c.hdr.opcode == Op.attest && [1, 2].contains (c.value.field 0 1)) ||
    (c.hdr.opcode == Op.readLog && [1, 3, 6, 9].contains (c.value.field 0 1))

/-- The first of checks 13 to 18 that fails, with its status (R77). What R387 refuses without a valid life-cycle record is refused at
check 15: DESIGN CHOICE, log entry 193. -/
def Dev.jetCheck (d : Dev) (c : Cap) : Option (Nat × BitVec 16) :=
  if !d.permitted c then some (13, Status.notPermitted)
  else if d.limitCheck c == .refuse then some (14, Status.throttled)
  else if d.sec.lcState == .invalid && !invalidMay c then some (15, Status.integrityFault)
  else match modeRefusal d.par.mode (d.par.mode == 5) c.hdr.opcode (c.value.field 0 1) with
    | some st => some (15, st)
    | none =>
      if d.ringChecked c && !d.owns (d.capHash c) then some (16, Status.notOwner)
      else if isWrite15 c.hdr.opcode && d.follows c.hdr.ns then some (17, Status.notLead)
      else if c.hdr.opcode == Op.patch && c.hdr.offset.toNat % 4096 != 0 then some (18, Status.unalignedPatch)
      else none

/-! ## Sequencing (R118 to R120) -/

/-- Sequenced capsules that have not placed their final reply: those whose reply is still to come, and those of whose reply bytes still
wait (R120). -/
def Dev.descriptors (d : Dev) : Nat :=
  (d.que.caps.filter (fun c => c.seq != 0)).length +
    (d.net.sessions.map (fun s => (s.replyQ.filter (fun b => b.final && b.seq != 0)).length)).sum

/-- A capsule takes part in per-key order (R125). -/
def Cap.keyed (c : Cap) : Bool := isReader c.hdr.opcode || isWriter c.hdr.opcode

/-- Keys with a sequenced capsule not yet finished (R120). -/
def Dev.hazardKeys (d : Dev) : List (BitVec 12 × BitVec 128) :=
  ((d.que.caps.filter (fun c => c.seq != 0 && c.keyed)).map (fun c => (c.hdr.ns, d.capHash c))).dedup

/-- The structure that is full, and sequencing stops: 1 descriptors, 2 hazard table (R120). -/
def Dev.stall (d : Dev) : Option (Nat × Nat) :=
  if 98304 ≤ d.descriptors then some (1, d.descriptors)
  else if 65536 ≤ d.hazardKeys.length then some (2, d.hazardKeys.length)
  else none

/-- The cursor of the last entry that a `READ_LOG` stamped now may return, in the logs that grow while they are read (R366). -/
def Dev.logEnd (d : Dev) (log : Nat) : Nat :=
  if log == 1 || log == 9 then d.ev.nextExt - 1 else if log == 4 then d.que.nextRecord - 1 else 2 ^ 64 - 1

/-- Stamps a capsule with the next ingress sequence number; a reservation is on medium, on every cartridge in service, before any value
in it is stamped, and a drive-scope sanitise that is not complete records its end (R119, R207, R394). -/
def Dev.stampCap (d : Dev) (c : Cap) : Cap × Dev :=
  let s := d.que.nextSeq
  let c1 := { c with seq := s, stamp := d.clk.tick, cls := c.hdr.cls, stage := .sequenced, delayed := false,
                           visited := if c.hdr.opcode == Op.readLog then d.logEnd (c.value.field 0 1) else c.visited }
  let end_ := if d.que.reservedEnd ≤ s then s + 1048576 else d.que.reservedEnd
  let d0 := if d.que.reservedEnd ≤ s then d.serviceBays.foldl (fun (d : Dev) (b : BayNo) =>
      d.journalItem (mkRec .reservation 0 0 [] end_ 0 0 0 b none)) d else d
  let d1 : Dev := { d0 with
    que := { d.que with nextSeq := s + 1, stalled := false, reservedEnd := end_ },
    sec := { d.sec with sanitise := d.sec.sanitise.map (fun (r : SanRec) =>
      if r.scope == 2 && (r.state == 1 || r.state == 2) then { r with counterEnd := end_ } else r) } }
  let d2 := (d1.modCap c (fun _ => c1)).endRange c.sid c.start c.len
  let d3 := if holdsCharge c.hdr then d2 else d2.endCharge c.sid c.start
  (c1, if c1.keyed && !(d3.earlierWriters c1.hdr.ns (d3.capHash c1) s).isEmpty then d3.bump (.drive .hazardWaits) 1 else d3)

/-! ## Dispatch (R121 to R124, R129) -/

/-- A drive-scope `SANITISE` that is neither accepted nor refused yet: what is sequenced after it waits for that (R434). -/
def Cap.drainsAll (x : Cap) : Bool :=
  x.hdr.opcode == Op.sanitise && x.value.field 0 1 == 2 && (x.stage == .sequenced || x.stage == .dispatched)

/-- A data capsule waits for such a `SANITISE`. -/
def Queue.sanWaits (q : Queue) (c : Cap) : Bool :=
  !isAdmin c.hdr.opcode && q.caps.any (fun x => x.drainsAll && decide (x.seq < c.seq))

/-- Some capsule of classes 2 to 4 waits in its queue. -/
def Queue.othersWait (q : Queue) : Bool :=
  q.caps.any (fun c => c.stage == .sequenced && decide (2 ≤ c.cls) && decide (c.cls ≤ 4) && !q.sanWaits c)

/-- Admin opcodes that run (R122). -/
def Queue.adminRunning (q : Queue) : Nat := (q.caps.filter (fun c => c.stage == .dispatched && isAdmin c.hdr.opcode)).length

/-- The URGENT share so far is at or below its cap (R123). -/
def Dev.urgentOpen (d : Dev) : Bool :=
  d.que.winAll == 0 || decide (d.que.winUrgent * 100 ≤ d.pnum P.queueUrgentShare * d.que.winAll)

/-- A tenant is below its floor (R124, R185, R324): its payload bytes of the last share window fall short of its scaled floor. The window
is the last one that has ended: DESIGN CHOICE, log entry 194. -/
def Dev.belowFloor (d : Dev) (t : BitVec 32) : Bool :=
  decide ((d.que.lastTenant.lookup t).getD 0 * 1000 < d.floorOf t * d.pow.floorScale * d.pnum P.queueShareWindowUs)

/-- The capsule of a class that goes next: of those whose tenant is below its floor, if there are any, the one sequenced first (R118,
R124). -/
def Dev.headOf (d : Dev) (cls : Nat) : Option Cap :=
  let q := d.que.caps.filter (fun c => c.stage == .sequenced && c.cls == cls && !d.que.sanWaits c)
  let low := q.filter (fun c => d.belowFloor c.tenant)
  (if low.isEmpty then q else low).foldl (fun m c => match m with
    | none => some c
    | some x => if c.seq < x.seq then some c else some x) none

/-- The quantum of a class of the round robin (R122). -/
def Dev.quantum (d : Dev) (i : Fin 3) : Nat := 64 * unpackField 3 8 i.val (d.pnum P.queueClassWeights)

/-- The visits of the round robin until it first comes to class `i` from class `at_`. -/
def drrOffset (at_ i : Fin 3) : Nat := if i = at_ then 3 else (i.val + 3 - at_.val) % 3

/-- The visits until class `i` can pay for its head; nothing where its queue is empty (R122). -/
def Dev.drrTime (d : Dev) (i : Fin 3) : Option Nat :=
  (d.headOf (i.val + 2)).map (fun c =>
    let x := d.que.deficit.get i
    if i = d.que.drrAt ∧ capUnits c.hdr ≤ x then 0
    else drrOffset d.que.drrAt i + 3 * (max 1 (ceilDiv (capUnits c.hdr - x) (d.quantum i)) - 1))

/-- The class that the round robin serves next: the one it can pay for first (R122). -/
def Dev.drrNext (d : Dev) : Option (Fin 3 × Nat) :=
  [(0 : Fin 3), 1, 2].foldl (fun m i => match d.drrTime i, m with
    | some t, some (j, u) => if t < u then some (i, t) else some (j, u)
    | some t, none => some (i, t)
    | none, m => m) none

/-- An ADMIN capsule waits that may go: ADMIN is strict priority (R122). -/
def Dev.adminOpen (d : Dev) : Bool := decide (d.que.adminRunning < d.pnum P.queueAdminInflightMax)

/-- The dispatch rate of classes 1 to 4 in force, per mille: the lower of knob 3 and the thermal cut (R323, R325). -/
def Power.dispatchRate (p : Power) : Nat := min p.dispatchPm p.thermalPm

/-- The dispatch rate leaves room in the share window. Unlimited is one capsule in each cycle of CK_FAB (R122): DESIGN CHOICE, log entry
195. -/
def Dev.rateOpen (d : Dev) : Bool :=
  d.pow.dispatchRate == 1000 || decide (d.que.winCaps * 1000 < 1200 * d.pnum P.queueShareWindowUs * d.pow.dispatchRate)

/-- A sequenced capsule may be dispatched now, in the order of R122 among those that its queue holds: ADMIN within its cap; URGENT within
its share or while no other class waits; then the round robin; within a class, the tenants below their floors (R123, R124). -/
def Dev.mayDispatch (d : Dev) (c : Cap) : Bool :=
  c.stage == .sequenced && d.par.run == .running && (d.headOf c.cls).any (fun x => x.seq == c.seq) &&
    (if c.cls == 0 then d.adminOpen
     else !(d.adminOpen && (d.headOf 0).isSome) && d.rateOpen &&
       (if c.cls == 1 then d.urgentOpen || !d.que.othersWait
        else !(d.urgentOpen && (d.headOf 1).isSome) && d.drrNext.any (fun x => x.1.val + 2 == c.cls)))

/-- The deficits of classes 2 to 4 and the class of the round robin after a dispatch of `u` units in class `cls` (R122): each visit on
the way adds a quantum; a class whose queue is empty has none. A promoted capsule (R129) is charged to its class without a visit. -/
def Dev.spendDeficit (d : Dev) (cls u : Nat) (visit : Bool) : Vector Nat 3 × Fin 3 :=
  if h : 2 ≤ cls ∧ cls ≤ 4 then
    let k : Fin 3 := ⟨cls - 2, by omega⟩
    let t := if visit then (d.drrTime k).getD 0 else 0
    let after (i : Fin 3) : Nat :=
      let o := drrOffset d.que.drrAt i
      let x := d.que.deficit.get i + (if t < o then 0 else (t - o) / 3 + 1) * d.quantum i
      if (d.que.caps.any (fun c => c.stage == .sequenced && c.cls == i.val + 2)) then (if i = k then x - u else x) else 0
    (Vector.ofFn after, if visit then k else d.que.drrAt)
  else (d.que.deficit, d.que.drrAt)

/-- Dispatches a capsule as a class (R121, R123, R124): its units, its payload, its token and its stage. -/
def Dev.dispatchAs (d : Dev) (c : Cap) (cls : Nat) : Dev :=
  let u := capUnits c.hdr
  let d1 := d.modCap c (fun x => { x with stage := .dispatched, cls := cls, window := d.que.window })
  let d2 := (((d1.bump (.classCaps cls) 1).bump (.classUnits cls) u).bump (.tenantCaps c.tenant) 1).bump (.tenantUnits c.tenant) u
  let q := d2.que
  let r := d.spendDeficit cls u (c.cls == cls)
  let q1 : Queue := { q with deficit := r.1, drrAt := r.2,
                             winUrgent := if cls = 1 then q.winUrgent + u else q.winUrgent,
                             winAll := if cls = 0 then q.winAll else q.winAll + u,
                             winCaps := if cls = 0 then q.winCaps else q.winCaps + 1,
                             winTenant := addTenant q.winTenant c.tenant (limitBytes c.hdr) }
  ({ d2 with que := q1.trim } : Dev).countToken c

/-- A waiting capsule of class `c` promotes an earlier writer of class `w` (R129). -/
def promotes (reader : Bool) (c w : Nat) : Bool :=
  (c == 1 && decide (2 ≤ w)) || (reader && (c == 2 || c == 3) && decide (c < w))

/-- The promotions that a capsule brings as it begins to wait under R127, at its sequencing (R129). -/
def Dev.promote (d : Dev) (c : Cap) : Dev :=
  if c.keyed then
    (d.earlierWriters c.hdr.ns (d.capHash c) c.seq).foldl (fun (d : Dev) (w : Cap) =>
      if w.stage == .sequenced && !d.que.sanWaits w && promotes (isReader c.hdr.opcode) c.cls w.cls then
        (d.dispatchAs w c.cls).bump (.drive .promotions) 1 else d) d
  else d

/-- The promotions that waited for a drive-scope `SANITISE` to be accepted or refused (R129, R434): every capsule that waits under R127
brings its own. -/
def Dev.promoteAll (d : Dev) : Dev :=
  (d.que.caps.filter (fun c => c.keyed && (c.stage == .sequenced || c.stage == .dispatched))).foldl (fun (d : Dev) (c : Cap) => d.promote c) d

/-! ## ABORT (R140 to R143) -/

/-- The target is caught (R141): what the drive does of it has no lasting effect yet. -/
def Dev.catchable (d : Dev) (t : Cap) : Bool :=
  match t.stage with
  | .receiving | .assembled | .sequenced => t.hdr.opcode != Op.abort
  | .dispatched =>
    if t.hdr.opcode == Op.mpCommit then !d.turn t
    else isWriter t.hdr.opcode || isReader t.hdr.opcode || t.hdr.opcode == Op.scanPrefix || t.hdr.opcode == Op.readLog ||
      t.hdr.opcode == Op.flush || (t.hdr.opcode == Op.mpPart && t.slcWait)
  | .resolved | .held => false

/-- The final reply of a caught capsule: a `SCAN_PREFIX` names the cursor from which it resumes (R74, R142). -/
def caughtReply (t : Cap) : Reply :=
  Reply.ver Status.aborted (if t.hdr.opcode == Op.scanPrefix then (if t.stage == .dispatched then t.cursor else t.hdr.offset.toNat) else 0)

/-- A caught capsule ends with `ABORTED` and leaves no effect (R142, R143). -/
def Dev.catchCap (d : Dev) (t : Cap) : Dev :=
  if t.seq == 0 then ((d.placeBytes t (caughtReply t)).dropCap t).releaseUnsequenced t
  else
    let d1 := (((d.correctGet t 0).squashOf t.seq 5).withdrawPrefetch t.seq).finishFree t (caughtReply t)
    let d2 : Dev := { d1 with mir := { d1.mir with reads := d1.mir.reads.filter (·.seq != t.seq) },
                              que := { d1.que with flushes := d1.que.flushes.filter (·.seq != t.seq) } }
    let d3 := d2.endHotWait t (d2.homeOf t.hdr.ns (d2.capHash t))
    let d4 := match t.captured with
      | some (.buffered s) => d3.releaseVer s
      | _ => d3
    let d5 : Dev := { d4 with que := d4.que.trim }
    if t.unresolved then (d5.endWaits t.hdr.ns (d5.capHash t) t.seq).captureWaiting t.hdr.ns (d5.capHash t)
    else if t.drainsAll then d5.promoteAll else d5

/-- Places the reply of an `ABORT` (R74, R142): 1 CAUGHT, 2 TOO_LATE, 3 UNKNOWN_TAG. -/
def Dev.abortReply (d : Dev) (c : Cap) (outcome : Nat) : Dev :=
  (d.bump (.drive (match outcome with
    | 1 => .abortCaught
    | 2 => .abortTooLate
    | _ => .abortUnknown)) 1).finishFree c (Reply.ver Status.abortOutcome outcome)

/-- Executes an `ABORT` that has been stamped (R141, R142). A TOO_LATE reply is held; `cursor` keeps the target's place. -/
def Dev.abortExec (d : Dev) (c : Cap) : Dev :=
  match d.que.caps.find? (fun t => t.sid == c.sid && t.tag == c.hdr.offset.setWidth 32 && t.start != c.start) with
  | none =>
    if d.placing c.sid (c.hdr.offset.setWidth 32) then
      d.modCap c (fun x => { x with stage := .held, abortOf := some (c.hdr.offset.setWidth 32, 2), cursor := c.start })
    else d.abortReply c 3
  | some t =>
    if d.catchable t && !d.placingAny t.sid t.tag then (d.catchCap t).abortReply c 1
    else d.modCap c (fun x => { x with stage := .held, abortOf := some (t.tag, 2), cursor := t.start })

/-! ## CAPSULE_SEQUENCE and ABORT -/

/-- Jetstream takes no capsule while a life-cycle transition runs (R388 step 2), a reset or a shutdown drains (R435, R438), in a
thermal stop (R326), in a power-fail sequence (R330), below Clear (R314), or outside running. -/
def Dev.sequencing (d : Dev) : Bool :=
  d.par.run == .running && d.sec.run.isNone && d.par.pendingReset.isNone && d.par.shutdownSince.isNone && !d.pow.stopped &&
    d.pow.failing.isNone && d.pow.rung == .clear

/-- Checks 13 to 19 for an assembled capsule (R77, R118, R120, R129, R185): check 14 charges it whatever the later checks say; one that
a stall holds is not charged again. -/
def Dev.sequenceCap (d : Dev) (c : Cap) : Dev :=
  let d0 := if isAdmin c.hdr.opcode || c.hdr.opcode == Op.abort then d
    else d.countSearch .policy (d.pol.binding c.tenant c.hdr.ns).isSome
  if d.permitted c && d0.limitCheck c == .delay then d0.modCap c (fun x => { x with delayed := true })
  else match d.jetCheck c with
  | some (n, st) =>
    let d1 := if n = 16 then d0.bump (.ns c.hdr.ns .notOwner) 1 else d0
    (if 14 < n then d1.chargeLimits c else d1).refuseAt c n st
  | none =>
    let d1 := d0.chargeLimits c
    match d1.stall with
    | some (k, n) =>
      let d2 := d1.modCap c (fun x => { x with limitPaid := true })
      if d2.que.stalled then d2
      else { d2 with que := { d2.que with stalled := true } }.raise Ev.seqStall k n 0 0
    | none =>
      let (c1, d2) := d1.stampCap c
      if c.hdr.opcode == Op.abort then d2.abortExec c1 else d2.promote c1

/-- A capsule may pass to Jetstream: it is assembled, and everything earlier in its stream is sequenced or refused; an `ABORT` does
not wait (R118). Writes wait while their namespace is handed over (R306) or owes a SECURE_DELETE it took over (R310). -/
def Dev.mayPass (d : Dev) (c : Cap) : Bool :=
  c.stage == .assembled && d.par.run == .running && !(isWrite15 c.hdr.opcode && (d.handoverHolds c.hdr.ns || d.claimSecures c.hdr.ns)) &&
    (c.hdr.opcode == Op.abort || (d.sequencing && (match d.session? c.sid with
      | some s => s.live && s.seqPos == c.start
      | none => false)))

def capsuleSequenceEff (sid tag : BitVec 32) (d : Dev) : Dev :=
  match d.que.caps.find? (fun c => c.sid == sid && c.tag == tag && d.mayPass c) with
  | none => d
  | some c => d.sequenceCap c

/-- CAPSULE_SEQUENCE (R118). -/
def execCapsuleSequence (sid tag : BitVec 32) (s : State) : Host.Outcome State Fault Refusal := s.run (capsuleSequenceEff sid tag)

def abortEff (sid tag : BitVec 32) (d : Dev) : Dev :=
  match d.que.caps.find? (fun c => c.sid == sid && c.tag == tag && c.hdr.opcode == Op.abort && d.mayPass c) with
  | none => d
  | some c => d.sequenceCap c

/-- ABORT (R141). -/
def execAbort (sid tag : BitVec 32) (s : State) : Host.Outcome State Fault Refusal := s.run (abortEff sid tag)

/-- A held `ABORT` whose target, under a tag, has placed its final reply. -/
def Dev.heldAbort (d : Dev) (sid tag : BitVec 32) : Option Cap :=
  d.que.caps.find? (fun c => c.sid == sid && c.stage == .held && c.abortOf == some (tag, 2) &&
    !d.que.caps.any (fun t => t.sid == sid && t.start == c.cursor && t.start != c.start) && !d.placing sid tag)

def abortReplyReleaseEff (sid tag : BitVec 32) (d : Dev) : Dev :=
  match d.heldAbort sid tag with
  | none => d
  | some c => d.abortReply c 2

/-- ABORT_REPLY_RELEASE (R142). -/
def execAbortReplyRelease (sid tag : BitVec 32) (s : State) : Host.Outcome State Fault Refusal :=
  s.run (abortReplyReleaseEff sid tag)

/-! ## The dispatch commands -/

/-- `EV_URGENT_CAP`, at most once per second while the cap binds (R123): the cap, and nothing else, holds the capsule back. -/
def Dev.urgentEvent (d : Dev) (c : Cap) : Dev :=
  if c.stage == .sequenced && c.cls == 1 && d.par.run == .running && (d.headOf 1).any (fun x => x.seq == c.seq) &&
      !(d.adminOpen && (d.headOf 0).isSome) && d.rateOpen && !d.urgentOpen && d.que.othersWait then
    d.raiseHeld Ev.urgentCap 0 (fun _ => (d.que.lastShare, d.pnum P.queueUrgentShare * 10, 0, 0))
  else d

/-- Dispatches the sequenced capsule with a number and an opcode, and runs what follows at once. -/
def Dev.dispatch (d : Dev) (seq : Nat) (ok : Hdr → Bool) (f : Cap → Dev → Dev) : Dev :=
  match d.capBySeq seq with
  | none => d
  | some c =>
    if ok c.hdr && d.mayDispatch c then
      f { c with stage := .dispatched } (d.dispatchAs c c.cls)
    else d.urgentEvent c

/-- The admin opcodes reply at once or are refused with a status; the charge ends (R48). -/
def Dev.adminReply (d : Dev) (c : Cap) (r : Reply) : Dev := d.finishFree c r

/-- The power cap's third knob binds, or the thermal dispatch cut is in force (R324). -/
def Power.rateCut (p : Power) : Bool := decide (p.dispatchPm < 1000) || decide (p.thermalPm < 1000)

/-- Raises `EV_FLOOR_BREACH` as things stand (R324, R337). -/
def Dev.breachEvent (d : Dev) : Dev :=
  d.raise Ev.floorBreach d.pow.floorScale (d.pol.tenants.map (·.floor)).sum d.pow.availRate d.pow.breachCause

/-- The available rate of a share window, held against the sum of the floors while a cut is in force (R324). -/
def Dev.floorCheck (d : Dev) : Dev :=
  let sum := (d.pol.tenants.map (·.floor)).sum
  let rate := (d.que.winTenant.map (·.2)).sum / d.pnum P.queueShareWindowUs
  let p := d.pow
  if p.rateCut && decide (rate < sum) then
    let cause := if p.dispatchPm < 1000 then 1 else 2
    let d1 : Dev := { d with pow := { p with
      availRate := rate, floorScale := rate * 1000 / sum, breach := true, breachCause := if p.breach then p.breachCause else cause } }
    if p.breach then d1 else d1.breachEvent
  else if p.breach then
    ({ d with pow := { p with availRate := rate, floorScale := 1000, breach := false } } : Dev).breachEvent
  else d

/-- The share window ends (R123): what was dispatched in it is held against the floors (R124, R324), and the next one begins. -/
def shareWindowEndEff (d : Dev) : Dev :=
  let d1 := d.floorCheck
  { d1 with que := { d1.que with
    lastTenant := d1.que.winTenant, lastShare := d1.que.winUrgent * 1000 / d1.que.winAll, winUrgent := 0, winAll := 0, winCaps := 0,
    window := d1.que.window + 1, winTenant := [] } }

def execShareWindowEnd (s : State) : Host.Outcome State Fault Refusal := s.run shareWindowEndEff

end Sys2Proof.Machine
end

