-- ==== Sys2Proof/Machine/Moves.lean ====
section
/-! DEFINITION. Values on the move: batches (R208, R213, R217 to R219), the erase of bands that hold nothing any more (R214, R218),
secure deletion (R225 to R228). -/

namespace Sys2Proof.Machine

/-! ## Liveness and pins -/

/-- A copy lies in a band and is not dead, or is the source of one that has to be relocated again (R219), or a part of an open upload does. -/
def Dev.occupied (d : Dev) (bay : BayNo) (group block : Nat) : Bool :=
  d.med.copies.any (fun c => !c.dead && (c.inBand bay group block || (match c.fallback with
    | some (l, g) => d.med.copies.any (fun x => x.loc == l && x.gen == g && x.inBand bay group block)
    | none => false))) ||
    d.idx.uploads.any (fun u => u.parts.any (partIn bay (group, block)))

/-- A reader holds a pin on a copy in a band (R160). -/
def Dev.pinnedIn (d : Dev) (bay : BayNo) (group block : Nat) : Bool :=
  d.que.caps.any (fun c => match c.captured with
    | some (.value _ loc gen _) => d.med.copies.any (fun x => x.loc == loc && x.gen == gen && x.inBand bay group block)
    | _ => false) ||
  d.med.reads.any (fun r => locBay r.loc == bay && locGroup r.loc == group && locBlock r.loc == block)

/-- Some program in a band has not passed. -/
def Dev.programsIn (d : Dev) (bay : BayNo) (group block : Nat) : Bool :=
  d.med.progs.any (fun p => p.bay == bay && p.group == group && p.block == block)

/-- Some band that received data from a band is open, or a row of it is not parity-complete (R218). -/
def Dev.feeds (d : Dev) (bay : BayNo) (group block : Nat) : Bool :=
  (List.finRange 4).any (fun y => (d.bays.get y).bands.any (fun x => x.srcs.contains (bay, group, block) &&
    (x.isOpen || d.programsIn y x.group x.block)))

/-- A location lies in a band. -/
def locIn (bay : BayNo) (b : Nat × Nat) (l : Nat) : Bool := l != 0 && locBay l == bay && locGroup l == b.1 && locBlock l == b.2

/-- A metadata band holds nothing that is still named (R156): no index page in force or about to be, no filter and summary of a band in use
(R226), no record that a replay still needs. Items of the reserved stream are rewritten into newer bands: DESIGN CHOICE, log entry 233. -/
def Dev.metaDead (d : Dev) (bay : BayNo) (x : Band) : Bool :=
  match x.stream with
  | .index => !d.idx.pages.any (pageIn bay (x.group, x.block)) &&
      !(d.bays.get bay).bands.any (fun y => locIn bay (x.group, x.block) y.summaryLoc) && !d.idx.snaps.any (locIn bay (x.group, x.block)) &&
      !(match d.idx.tail with
        | some t => t.snaps.any (locIn bay (x.group, x.block))
        | none => false)
  | .journal => (d.recsIn bay (x.group, x.block)).isEmpty && !d.idx.marks.any (fun m => locIn bay (x.group, x.block) m.loc) &&
      !(match d.idx.tail with
        | some t => t.ends.any (locIn bay (x.group, x.block))
        | none => false)
  | .reserved => decide (2 ≤ ((d.bays.get bay).bands.filter (fun y => y.stream == .reserved && y.group == x.group && y.block != x.block &&
      decide (x.openedAt ≤ y.openedAt))).length)
  | _ => false

/-- A band may be erased: closed, used, nothing in it live, pinned or being programmed (R156, R214, R218). A QLC band is erased when
it was a victim. -/
def Dev.erasable (d : Dev) (bay : BayNo) (x : Band) : Bool :=
  !x.isOpen && !x.erasing && decide (0 < x.next) && !d.programsIn bay x.group x.block && !d.pinnedIn bay x.group x.block &&
    !d.feeds bay x.group x.block &&
    (if x.stream.isMeta then d.metaDead bay x
     else (x.mode == .slc || x.victim) && !d.occupied bay x.group x.block)

/-- Issues the erase of every band of a cartridge that holds nothing any more. -/
def Dev.eraseDead (d : Dev) (bay : BayNo) : Dev :=
  ((d.bays.get bay).bands.filter (fun x => d.erasable bay x)).foldl (fun (d : Dev) (x : Band) =>
    d.issueErase bay x.group x.block .gc) d

/-- The same on every cartridge. -/
def Dev.eraseAllDead (d : Dev) : Dev := (List.finRange 4).foldl Dev.eraseDead d

/-! ## Batches (R213, R217) -/

/-- The bands that a copy's chunks lie in. -/
def Copy.bandsOf (c : Copy) : List (BayNo × Nat × Nat) :=
  ((c.runs.map (·.1) ++ (if c.mapLoc = 0 then [] else [c.mapLoc])).map (fun l => (locBay l, locGroup l, locBlock l))).dedup

/-- Notes that some bands have received data from others (R218). -/
def Dev.addSrcs (d : Dev) (into from_ : List (BayNo × Nat × Nat)) : Dev :=
  into.foldl (fun (d : Dev) (b : BayNo × Nat × Nat) =>
    d.modBay b.1 (fun y => y.modBand b.2.1 b.2.2 (fun x => { x with srcs := (x.srcs ++ from_).dedup }))) d

/-- Relocates one value to a stream: the copy `c` is read, the copy `n` is the one its key's state names, the same but where a value is
relocated again from its source (R219). The new copy carries the next generation (R206) and is not yet programmed. A value whose header does
not match stays where it is (R264). -/
def Dev.moveOne (d : Dev) (toBay : BayNo) (st : Stream) (group : Nat) (sec : Bool) (c n : Copy) : Option (BatchItem × Dev) :=
  if !c.badHeads.isEmpty then none
  else match d.placeRuns toBay st group [(c.ns, c.hash)] .reservedItem (segsOf c.count) sec with
    | some ((loc, k) :: more, m, d1) =>
      let g := nextGen n.gen
      let cp : Copy := { c with bay := toBay, group := group, block := locBlock loc, loc := loc, runs := (loc, k) :: more, mapLoc := m, gen := g,
                                heads := c.heads.map (fun s => { s with gen := g }), programmed := false, dead := false, fallback := none }
      let d2 : Dev := { d1 with med := { d1.med with copies := d1.med.copies ++ [cp] } }
      some ({ ns := c.ns, hash := c.hash, fromLoc := c.loc, fromGen := c.gen, namedLoc := n.loc, namedGen := n.gen, toLoc := loc, toGen := g,
              withheld := false, jseq := 0 }, d2.addSrcs cp.bandsOf (c.bandsOf ++ n.bandsOf))
    | _ => none

/-- `EV_GEN_TWIN` for a chunk whose generation and twin disagree (R264 order 3). -/
def Dev.genTwinAt (d : Dev) (loc : Nat) : Dev :=
  let n := ((d.med.copies.find? (fun c => (d.placeIn loc c.runs).isSome || c.mapLoc == loc)).map (·.ns.toNat)).getD 0
  d.raise Ev.genTwin n (loc / 2 ^ 16) (loc % 2 ^ 16) 0

/-- `EV_CHUNK_HEADER` of a relocation read that fails its checks (R264). -/
def Dev.moveHeader (d : Dev) (n : BitVec 12) (order loc : Nat) : Dev :=
  (d.raise Ev.chunkHeader n.toNat order (loc / 2 ^ 16) 2).bump (.headerFail order) 1

/-- Relocates values, as many as can be placed; the items moved. -/
def Dev.moveAll (d : Dev) (toBay : BayNo) (st : Stream) (group : Nat) (sec : Bool) : List (Copy × Copy) → List BatchItem × Dev
  | [] => ([], d)
  | c :: rest =>
    match d.moveOne toBay st group sec c.1 c.2 with
    | some (x, d1) => let r := d1.moveAll toBay st group sec rest; (x :: r.1, r.2)
    | none => (match c.1.badHeads with
        | (i, k) :: _ => d.moveHeader c.1.ns k (c.1.chunkLoc d i)
        | [] => d).moveAll toBay st group sec rest

/-- The rows of a stream's bands that a batch has taken: group, block, first and end position; the last row of each is filled up with PAD,
so that the batch programs whole rows (R211, R213). -/
def Dev.batchRows (old d : Dev) (bay : BayNo) (st : Stream) (group : Nat) : List (Nat × Nat × Nat × Nat) × Dev :=
  ((d.bays.get bay).bands.filter (fun x => x.group == group && x.stream == st)).foldl
    (fun (a : List (Nat × Nat × Nat × Nat) × Dev) (x : Band) =>
      let was := (((old.bays.get bay).band? group x.block).map (·.next)).getD 0
      if was < x.next then
        let e := (d.bays.get bay).rowStart x ((d.bays.get bay).rowAt x (x.next - 1) + 1)
        (a.1 ++ [(group, x.block, was, e)], a.2.modBay bay (fun b => b.modBand group x.block (fun y => { y with next := e })))
      else a) ([], d)

/-- Issues the reads of a batch, one for each value, on all the dies that hold its chunks (R200, R213 stage 2). -/
def Dev.batchReads (d : Dev) (prio : Nat) : List BatchItem → List (Nat × Nat) × Dev
  | [] => ([], d)
  | x :: rest =>
    let (id, d1) := d.opId
    let l := match d.copyFor x.fromLoc x.fromGen with
      | some c => c.withMap (List.range c.count)
      | none => [0]
    let d2 := d1.issueOps id (locBay x.fromLoc) (d1.readDies x.fromLoc x.fromGen l) .read prio
    let r := d2.batchReads prio rest
    ((id, x.fromLoc) :: r.1, r.2)

/-- A copy is read or replaced by a batch. -/
def BatchItem.takes (i : BatchItem) (c : Copy) : Bool :=
  (i.fromLoc == c.loc && i.fromGen == c.gen) || (i.namedLoc == c.loc && i.namedGen == c.gen)

/-- Two batches of a target band are in flight (R213). -/
def Dev.batchFull (d : Dev) (bay : BayNo) (st : Stream) (group : Nat) : Bool :=
  decide (2 ≤ (d.med.batches.filter (fun b => b.toBay == bay && b.stream == st && b.group == group)).length)

/-- Begins a batch (R213 stages 1 and 2): its values have their places and are being read. Nothing begins when no value can be placed or two
batches of the target band are in flight. A batch that clears a band of a secure deletion takes the space reserved for that (R225). -/
def Dev.beginPairs (d : Dev) (kind : BatchKind) (fromBay toBay : BayNo) (st : Stream) (group block prio : Nat) (cs : List (Copy × Copy)) : Dev :=
  if d.batchFull toBay st group then d
  else
    let sec := kind == .secure && d.med.secures.any (fun j => j.accepted && j.bands.contains (fromBay, group, block))
    let (id, d1) := d.opId
    let r := d1.moveAll toBay st group sec cs
    if r.1.isEmpty then r.2
    else
      let (rows, d2) := Dev.batchRows d1 r.2 toBay st group
      let (reads, d3) := d2.batchReads prio r.1
      { d3 with med := { d3.med with batches := d3.med.batches ++
        [{ id := id, kind := kind, fromBay := fromBay, toBay := toBay, group := group, block := block, stage := .reading, stream := st,
           priority := prio, reads := reads, rows := rows, items := r.1 }] } }
def Dev.beginBatch (d : Dev) (kind : BatchKind) (fromBay toBay : BayNo) (st : Stream) (group block prio : Nat) (cs : List Copy) : Dev :=
  d.beginPairs kind fromBay toBay st group block prio (cs.map (fun c => (c, c)))

/-- Changes one batch. -/
def Dev.modBatch (d : Dev) (id : Nat) (f : Batch → Batch) : Dev :=
  { d with med := { d.med with batches := d.med.batches.map (fun b => if b.id == id then f b else b) } }

/-- The governor priority of an item's programs (R214, R217, R228, R233). -/
def Dev.setPriority (d : Dev) (what : ProgWhat) (prio : Nat) : Dev :=
  let ids := (d.med.progs.filter (·.what == what)).map (·.id)
  let f (o : GovOp) : GovOp := if ids.contains o.id then { o with priority := prio } else o
  { d with med := { d.med with running := d.med.running.map f, waiting := d.med.waiting.map f } }

/-- Issues the programs of a batch's next row, whole wordlines at once (R199, R213 stage 3: row by row). -/
def Dev.nextRow (d : Dev) (b : Batch) : Dev :=
  match b.rows with
  | [] => d
  | (g, k, s, e) :: rest =>
    match (d.bays.get b.toBay).band? g k with
    | none => d.modBatch b.id (fun x => { x with rows := rest })
    | some x =>
      let y := d.bays.get b.toBay
      let cut := min e (y.rowStart x (y.rowAt x s + 1))
      ((d.modBatch b.id (fun z => { z with rows := if cut < e then (g, k, cut, e) :: rest else rest })).issueRun b.toBay b.stream g k s (cut - s)
        (.batch b.id)).setPriority (.batch b.id) b.priority

/-- The rows of batches go on: the next one once the one before has passed, after those of an earlier batch of the same target band (R202,
R213). -/
def Dev.rowsOn (d : Dev) : Dev :=
  (d.med.batches.filter (fun b => b.stage == .programming && !b.rows.isEmpty)).foldl (fun (d : Dev) (b : Batch) =>
    if d.programming (.batch b.id) || d.med.batches.any (fun x => decide (x.id < b.id) && x.toBay == b.toBay && x.stream == b.stream &&
        x.group == b.group && x.stage != .committing) then d
    else d.nextRow b) d

/-- Stage 3 of a batch begins. -/
def Dev.programBatch (d : Dev) (b : Batch) : Dev := (d.modBatch b.id (fun x => { x with stage := .programming, reads := [] })).rowsOn

/-- A read of a batch has ended: a value that cannot be read, or whose header fails, stays where it is (R264). The last one lets the
programs begin. -/
def Dev.batchRead (d : Dev) (b : Batch) (id : Nat) (o : ReadReport) : Dev :=
  let loc := (b.reads.lookup id).getD 0
  let hit (x : BatchItem) : Bool := x.fromLoc == loc
  let hold (d : Dev) : Dev := d.modBatch b.id (fun y => { y with items := y.items.map (fun x => if hit x then { x with withheld := true } else x) })
  let d1 := match (b.items.find? hit).bind (fun x => d.copyFor x.fromLoc x.fromGen) with
    | none => hold d
    | some cp =>
      let l := cp.withMap (List.range cp.count)
      let r := cp.report d l o
      let d1 := (d.countReads (d.readLocs loc cp.gen l)).reportEffects 0 (cp.chunkLoc d) r
      match r.outcome with
      | .ok _ | .retried _ _ _ | .rebuilt => d1
      | .lost i => hold (d1.modCopy loc cp.gen (fun x => x.markLost i))
      | .badHead i _ k =>
        let d2 := hold (d1.modCopy loc cp.gen (fun x => x.markHead i k))
        (if k ≤ 3 then d2.genTwinAt (cp.chunkLoc d i) else d2).moveHeader cp.ns k (cp.chunkLoc d i)
  let d2 := d1.modBatch b.id (fun y => { y with reads := y.reads.filter (·.1 != id) })
  match d2.med.batches.find? (·.id == b.id) with
  | some b1 => if b1.reads.isEmpty then d2.programBatch b1 else d2
  | none => d2

/-- Stage 5 begins: a RELOCATION record for each value whose state still names the copy it is to replace (R213); the others are discarded. -/
def Dev.journalBatch (d : Dev) (b : Batch) : Dev :=
  let step (a : List BatchItem × Dev) (x : BatchItem) : List BatchItem × Dev :=
    match a.2.copyAt x.namedLoc x.namedGen with
    | none => (a.1 ++ [{ x with withheld := true }], a.2)
    | some c =>
      if x.withheld || !a.2.names c then (a.1 ++ [{ x with withheld := true }], a.2)
      else
        let r := mkRec .relocation c.ns c.hash c.key c.version x.toLoc x.toGen c.bytes.length b.toBay none
        match a.2.placeRec b.toBay b.group r with
        | none => (a.1 ++ [{ x with withheld := true }], a.2)
        | some (l, d1) =>
          let (j, d2) := d1.newRec { r with ref := l }
          (a.1 ++ [{ x with jseq := j }], d2)
  let r := b.items.foldl step ([], d)
  r.2.modBatch b.id (fun y => { y with stage := .committing, items := r.1 })

/-- Commits one value of a batch (R213 stage 5): a value whose state has changed is not relocated, and its new copy is dead. -/
def Dev.commitItem (d : Dev) (kind : BatchKind) (toBay : BayNo) (x : BatchItem) : Dev :=
  let drop (d : Dev) : Dev := (d.killCopy x.toLoc x.toGen).dropRec x.jseq
  match d.copyAt x.namedLoc x.namedGen, d.jrec? x.jseq with
  | some c, some r =>
    if x.withheld || !d.names c then drop d
    else
      let d1 := (d.modCopy x.toLoc x.toGen (fun y => { y with programmed := true })).modRec x.jseq (fun y => { y with committed := true })
      let d2 := ((d1.enterLog { r with committed := true }).checkPressure).killCopy x.namedLoc x.namedGen
      let n := c.count
      match kind with
      | .fold => d2.bump (.cart toBay .folded) n
      | .gc | .rebuild => d2.bump (.cart toBay .gcMoved) n
      | .secure =>
        { d2 with sec := { d2.sec with sanitise := d2.sec.sanitise.map (fun (r : SanRec) =>
          if r.state == 2 && r.bandsLeft.any (fun b => c.bandsOf.contains b) then { r with relocated := r.relocated + 4096 * n }
          else r) } }
      | _ => d2
  | _, _ => drop d

/-- Stage 4 of a batch is over: all its programs have passed, and every batch of its kind begun before it on the cartridge has
committed (R213). -/
def Dev.batchReady (d : Dev) (b : Batch) : Bool :=
  b.stage == .programming && b.rows.isEmpty && !d.programming (.batch b.id) &&
    !d.med.batches.any (fun x => decide (x.id < b.id) && x.kind == b.kind && x.fromBay == b.fromBay)

/-- The records of a batch are on medium. -/
def Dev.recsReady (d : Dev) (b : Batch) : Bool :=
  b.stage == .committing && b.items.all (fun x => match d.jrec? x.jseq with
    | some r => r.programmed
    | none => true)

/-- Stages 5 and 6 of a batch. -/
def Dev.commitBatch (d : Dev) (b : Batch) : Dev :=
  let d1 := b.items.foldl (fun (d : Dev) (x : BatchItem) => d.commitItem b.kind b.toBay x) d
  ({ d1 with med := { d1.med with batches := d1.med.batches.filter (·.id != b.id) } }.eraseDead b.fromBay)

/-- A batch ends without effect: its reads, its programs, its copies and its records go. -/
def Dev.dropBatch (d : Dev) (b : Batch) : Dev :=
  let d1 := b.items.foldl (fun (d : Dev) (x : BatchItem) => (d.killCopy x.toLoc x.toGen).dropRec x.jseq) d
  let d2 := (b.reads.foldl (fun (d : Dev) (r : Nat × Nat) => d.endOp r.1) d1).dropProgs (.batch b.id)
  { d2 with med := { d2.med with batches := d2.med.batches.filter (·.id != b.id) } }

/-- Takes every batch as far as it goes, oldest first. -/
def Dev.commitReady (d : Dev) : Nat → Dev
  | 0 => d
  | fuel + 1 =>
    match d.med.batches.find? (fun b => d.batchReady b || d.recsReady b) with
    | some b => (if b.stage == .programming then d.journalBatch b else d.commitBatch b).commitReady fuel
    | none => d

/-! ## Secure deletion (R225 to R228) -/

/-- The copies that have to leave a found band: the live ones of other keys, and of writers on the key sequenced after the deletion
(R130, R225 step 4). -/
def Dev.coResidents (d : Dev) (j : SecureJob) (b : BayNo × Nat × Nat) : List Copy :=
  (d.liveIn b.1 b.2.1 b.2.2).filter (fun c => !(c.ns == j.ns && c.hash == j.hash && decide (c.version ≤ j.seq)))

/-- Values on the move out of a band. -/
def Dev.movingOut (d : Dev) (bay : BayNo) (b : Nat × Nat) : Bool :=
  d.med.batches.any (fun x => x.items.any (fun i => locBay i.fromLoc == bay && locGroup i.fromLoc == b.1 && locBlock i.fromLoc == b.2))

/-- Writes an index page in another place of the index stream (R149, R198). The bucket map names the new place from now on; the page stays where
it was, too, until a durable epoch-end record names the new one (R156). -/
def Dev.rewritePage (d : Dev) (bay : BayNo) (sec : Bool) (loc : Nat) : Dev :=
  match d.alloc bay .index (locGroup loc) 32 [] true sec with
  | none => d
  | some (block, pos, d1) =>
    let b := d1.bays.get bay
    let new := b.posLoc bay.val (locGroup loc) block (b.placePos (locGroup loc) block (pos / 32))
    let mv (k : Bucket) : Bucket := if k.pageLoc == loc then { k with pageLoc := new } else k
    let d2 := (d1.issuePage bay (locGroup loc) block (pos / 32) (.page new)).modBay bay (fun y => y.modBand (locGroup loc) block (fun (x : Band) =>
      { x with pages := (d.idx.pages.filter (fun k => k.pageLoc == loc)).map (fun k => (k.ns, k.lo, k.hi)) ++ x.pages,
               srcs := ((bay, locGroup loc, locBlock loc) :: x.srcs).dedup }))
    ({ d2 with idx := { d2.idx with
      buckets := d2.idx.buckets.map mv, tail := d2.idx.tail.map (fun (t : Tail) => { t with pages := t.pages.map mv }) } } : Dev).countReads [loc]

/-- An item of the index stream will not be on medium: what it would have replaced stays in force (R156, R468). A running tail names no such page
and its bucket is merged again, a page that was only rewritten stays where it is, a snapshot is not complete, a summary is written anew. -/
def Dev.cancelPage (d : Dev) (l : Nat) : Dev :=
  let d1 := d.dropProgs (.page l)
  let back (k : Bucket) : Bucket :=
    if k.pageLoc == l then { k with pageLoc := ((d.idx.durable.find? (fun x => x.ns == k.ns && x.lo == k.lo)).map (·.pageLoc)).getD 0 } else k
  { d1 with
    idx := { d1.idx with
      buckets := d1.idx.buckets.map back,
      tail := d1.idx.tail.map (fun (t : Tail) =>
        { t with pages := t.pages.filter (·.pageLoc != l), checkpoint := t.checkpoint && !t.snaps.contains l && !t.pages.any (·.pageLoc == l),
                 snaps := if t.snaps.contains l then [] else t.snaps }) },
    bays := d1.bays.map (fun (b : Bay) => { b with bands := b.bands.map (fun (x : Band) => if x.summaryLoc == l then { x with summaryLoc := 0 } else x) }) }

/-- An epoch-end record will not be on medium on a cartridge, where the one before stays in force (R156, R468). With none on any other cartridge
nothing of the tail is named, and its buckets are merged again at the next epoch. -/
def Dev.cancelMark (d : Dev) (l : Nat) : Dev :=
  let d1 := d.dropProgs (.mark l)
  { d1 with idx := { d1.idx with tail := d1.idx.tail.bind (fun (t : Tail) =>
    let left := t.ends.filter (· != l)
    if left.isEmpty then none else some { t with ends := left }) } }

/-- The index pages in a band that the map or the running tail names. -/
def Index.pagesNow (i : Index) : List Bucket := i.buckets ++ (match i.tail with
  | some t => t.pages
  | none => [])

/-- Writes a journal chunk in another place of the stream. -/
def Dev.moveChunk (d : Dev) (bay : BayNo) (sec : Bool) (l : Nat) : Dev :=
  let rs := d.idx.journal.filter (·.ref == l)
  match d.alloc bay .journal (locGroup l) 1 (rs.map (fun r => (r.ns, r.hash))) true sec with
  | none => d
  | some (block, pos, d1) =>
    let new := (d1.bays.get bay).posLoc bay.val (locGroup l) block pos
    let d2 := (d1.issueRun bay .journal (locGroup l) block pos 1 (.journal new)).modBay bay (fun y => y.modBand (locGroup l) block (fun (x : Band) =>
      { x with srcs := ((bay, locGroup l, locBlock l) :: x.srcs).dedup }))
    ({ d2 with idx := { d2.idx with
      journal := d2.idx.journal.map (fun r => if r.ref == l then { r with ref := new } else r),
      staging := d2.idx.staging.map (fun x => if x == l then new else x) } } : Dev).countReads [l]

/-- Writes the journal chunks of a band that a replay still needs in another place of the stream (R225 step 4). -/
def Dev.moveRecs (d : Dev) (bay : BayNo) (b : Nat × Nat) (sec : Bool) : Dev :=
  (((d.recsIn bay b).filter (·.programmed)).map (·.ref)).dedup.foldl (fun (d : Dev) (l : Nat) => d.moveChunk bay sec l) d

/-- Moves one part of an open upload through the cold stream, once no batch has rows of its band to fill: it stays where it is until its programs have
passed. -/
def Dev.movePart (d : Dev) (bay : BayNo) (group : Nat) (sec : Bool) (u : Upload) (p : Part) (from_ : Nat × Nat) : Dev :=
  if d.med.batches.any (fun b => b.toBay == bay && b.stream == .cold && b.group == group && b.stage != .committing) then d
  else match d.placeSegs bay .cold group [(u.ns, u.hash)] .reservedItem sec (segsOf (chunkCount p.bytes.length)) with
  | none => d
  | some (runs, d1) =>
    let (rows, d2) := Dev.batchRows d d1 bay .cold group
    let mv (x : Part) : Part := if x.seq == p.seq then { x with moving := runs } else x
    let d3 := rows.foldl (fun (d : Dev) (r : Nat × Nat × Nat × Nat) =>
      d.issueRun bay .cold r.1 r.2.1 r.2.2.1 (r.2.2.2 - r.2.2.1) (.partMove u.id p.seq)) d2
    let d4 : Dev := { d3 with idx := { d3.idx with uploads := d3.idx.uploads.map (fun (x : Upload) =>
      if x.id == u.id then { x with parts := x.parts.map mv } else x) } }
    (d4.addSrcs (rows.map (fun r => (bay, r.1, r.2.1))) [(bay, from_)]).countReads (p.runs.map (·.1))

/-- Moves the parts of open uploads out of a band. -/
def Dev.moveParts (d : Dev) (bay : BayNo) (b : Nat × Nat) (sec : Bool) : Dev :=
  d.idx.uploads.foldl (fun (d : Dev) (u : Upload) =>
    (u.parts.filter (fun p => partIn bay b p && p.onMedium && p.moving.isEmpty)).foldl (fun (d : Dev) (p : Part) =>
      d.movePart bay b.1 sec u p b) d) d

/-- A part has been moved: its programs have passed, or (`ok` false) one has failed and it is moved anew. -/
def Dev.partMoved (d : Dev) (u seq : Nat) (ok : Bool) : Dev :=
  let mv (x : Part) : Part := if x.seq == seq then { x with runs := if ok then x.moving else x.runs, moving := [] } else x
  { d with idx := { d.idx with uploads := d.idx.uploads.map (fun (x : Upload) => if x.id == u then { x with parts := x.parts.map mv } else x) } }

/-- Writes the filter and the summary of a closed band on the index stream of its cartridge (R226): the filter takes 16 chunks, the summary
512 bytes and 8 more for each entry. -/
def Dev.writeSummary (d : Dev) (bay : BayNo) (x : Band) : Dev :=
  let n := 16 + ceilDiv (512 + 8 * x.items.length + 16 * x.pages.length) 4096
  match d.alloc bay .index x.group (32 * ceilDiv n 32) [] with
  | none => d
  | some (block, pos, d1) =>
    let b := d1.bays.get bay
    let l := b.posLoc bay.val x.group block (b.placePos x.group block (pos / 32))
    ((List.range (ceilDiv n 32)).foldl (fun (d : Dev) (i : Nat) => d.issuePage bay x.group block (pos / 32 + i) (.page l)) d1).modBay bay
      (fun b => b.modBand x.group x.block (fun y => { y with summaryLoc := l }))

/-- Writes what else a metadata band holds that is still named in another place of its stream: summaries, snapshots, the cartridge's epoch-end record
(R225 step 4). -/
def Dev.moveMeta (d : Dev) (bay : BayNo) (b : Nat × Nat) : Dev :=
  let note (d : Dev) (l : Nat) : Dev := d.addSrcs [(locBay l, locGroup l, locBlock l)] [(bay, b)]
  let d1 := ((d.bays.get bay).bands.filter (fun x => locIn bay b x.summaryLoc)).foldl (fun (d : Dev) (x : Band) =>
    let d1 := d.writeSummary bay x
    note d1 ((((d1.bays.get bay).band? x.group x.block).map (·.summaryLoc)).getD 0)) d
  let d2 := (d.idx.snaps.filter (locIn bay b)).foldl (fun (d : Dev) (l : Nat) =>
    match d.writeOn [bay] .index b.1 (min 507904 (32 * ceilDiv (16 * d.idx.buckets.length) 131072)) true .page with
    | (n :: _, _, d1) => note { d1 with idx := { d1.idx with snaps := d1.idx.snaps.map (fun x => if x == l then n else x) } } n
    | _ => d) d1
  (d.idx.marks.filter (fun m => locIn bay b m.loc)).foldl (fun (d : Dev) (m : EndMark) =>
    match d.writeOn [bay] .journal b.1 1 true .mark with
    | (n :: _, _, d1) => note { d1 with idx := { d1.idx with marks := d1.idx.marks.map (fun x => if x == m then { m with loc := n } else x) } } n
    | _ => d) d2

/-- The operations issued since an operation number have a priority (R228). -/
def Dev.prioritySince (d : Dev) (id prio : Nat) : Dev :=
  let f (o : GovOp) : GovOp := if id ≤ o.id then { o with priority := prio } else o
  { d with med := { d.med with running := d.med.running.map f, waiting := d.med.waiting.map f } }

/-- Relocates the index pages, the journal chunks, the parts and the other metadata items that lie in a band (R225 step 4) at a governor priority; `sec`: into the space
that a secure deletion has reserved. -/
def Dev.clearBand (d : Dev) (bay : BayNo) (b : Nat × Nat) (sec : Bool) (prio : Nat) : Dev :=
  ((((d.idx.pagesNow.filter (pageIn bay b)).map (·.pageLoc)).dedup).foldl (fun (d : Dev) (l : Nat) => d.rewritePage bay sec l)
    (((d.moveParts bay b sec).moveRecs bay b sec).moveMeta bay b)).prioritySince d.med.nextOp prio

/-- Some band that received what lay in a band is still being programmed. -/
def Dev.fedBusy (d : Dev) (bay : BayNo) (b : Nat × Nat) : Bool :=
  (List.finRange 4).any (fun y => (d.bays.get y).bands.any (fun x => x.srcs.contains (bay, b) &&
    (d.programsIn y x.group x.block || !x.second.isEmpty)))

/-- A summary, a snapshot or an epoch-end record that is still named lies in a band. -/
def Dev.metaIn (d : Dev) (bay : BayNo) (b : Nat × Nat) : Bool :=
  (d.bays.get bay).bands.any (fun y => locIn bay b y.summaryLoc) || d.idx.snaps.any (locIn bay b) || d.idx.marks.any (fun m => locIn bay b m.loc) ||
    (match d.idx.tail with
      | some t => (t.snaps ++ t.ends).any (locIn bay b)
      | none => false)

/-- Nothing is left in a band that has to stay, not even of a writer that is not committed yet, and nothing reads or programs it; what has left
it is on medium. -/
def Dev.bandClear (d : Dev) (bay : BayNo) (b : Nat × Nat) : Bool :=
  !d.med.copies.any (fun c => !c.dead && c.inBand bay b.1 b.2 &&
      d.que.drift.any (fun v => v.loc == c.loc && v.gen == c.gen && !v.onMedium)) &&
  !d.idx.pages.any (pageIn bay b) && (d.recsIn bay b).isEmpty && !d.idx.uploads.any (fun u => u.parts.any (partIn bay b)) && !d.pinnedIn bay b.1 b.2 &&
    !d.metaIn bay b && !d.programsIn bay b.1 b.2 && !d.fedBusy bay b

/-- The priority of a secure deletion's work (R228, R233). -/
def SecureJob.prio (j : SecureJob) : Nat := if j.restarted then 2 else 5

/-- One found band of a secure deletion: what others have there is moved out, then it is erased (R225 steps 4 and 5). -/
def Dev.secureBand (d : Dev) (j : SecureJob) (b : BayNo × Nat × Nat) : Dev :=
  if !j.accepted || d.movingOut b.1 b.2 || !d.inService b.1 then d
  else match d.coResidents j b with
    | [] =>
      let d1 := d.clearBand b.1 b.2 true j.prio
      if d1.bandClear b.1 b.2 then d1.issueErase b.1 b.2.1 b.2.2 (.secure j.seq) else d1
    | cs => d.beginBatch .secure b.1 b.1 .cold b.2.1 b.2.2 j.prio cs

/-- Takes a secure deletion as far as it goes now. -/
def Dev.secureAdvance (d : Dev) (j : SecureJob) : Dev :=
  j.bands.foldl (fun (d : Dev) (b : BayNo × Nat × Nat) => d.secureBand j b) d

/-- Reports a version of a mirrored namespace applied to the lead (R293, R294): the watermark is the highest version below which
nothing is outstanding: no writer or part on its way to the medium, no secure deletion under way, no record that failed to apply. -/
def Dev.reportApplied (d : Dev) (n : BitVec 12) (version : Nat) : Dev :=
  match d.mirror? n with
  | none => d
  | some m =>
    if m.lead then d
    else
      let open_ := (d.que.drift.filter (fun v => v.ns == n && !(v.onMedium && !v.secure))).map (·.seq) ++
        (d.idx.uploads.filter (·.ns == n)).flatMap (fun u => (u.parts.filter (fun p => !p.onMedium)).map (·.seq)) ++
        (d.med.secures.filter (fun j => j.ns == n)).map (·.seq) ++ m.failedKeys.map (·.2)
      let w := max m.watermark (match open_ with
        | [] => m.newest
        | a :: rest => rest.foldl min a - 1)
      (d.modMirror n (fun x => { x with watermark := w })).cwApply n w [version] none

/-- A writer on medium reaches its completion point: the follower reports it; on the lead of a synchronous namespace it waits for
the follower (R295). -/
def Dev.atMedium (d : Dev) (s : Nat) : Dev :=
  match d.ver? s with
  | none => d
  | some v =>
    if d.follows v.ns then (d.completeVer s).reportApplied v.ns s
    else if v.mirrorWait then d else d.completeVer s

/-- What is left of a key in the index and the journal goes with a secure deletion (R98, R225): the entry in every page, the tail's among
them, and the older records. -/
def Dev.forgetKey (d : Dev) (j : SecureJob) : Dev :=
  let clean (b : Bucket) : Bucket := if b.covers j.ns j.hash then { b with entries := b.entries.filter (fun e => e.hash != j.hash || decide (j.seq < e.version)) } else b
  { d with
    med := { d.med with secures := d.med.secures.filter (·.seq != j.seq),
                        copies := d.med.copies.filter (fun c => !(c.ns == j.ns && c.hash == j.hash && c.dead)) },
    idx := { d.idx with durable := d.idx.durable.map clean, buckets := d.idx.buckets.map clean,
                        tail := d.idx.tail.map (fun (t : Tail) => { t with pages := t.pages.map clean }),
                        journal := d.idx.journal.filter (fun r => !(r.ns == j.ns && r.hash == j.hash && decide (r.version < j.seq))) } }

/-- The last found band is erased: the reply, and `EV_SECURE_DONE` (R225 step 6). -/
def Dev.secureDone (d : Dev) (j : SecureJob) : Dev :=
  let d2 := d.forgetKey j
  let d3 := match d2.ver? j.seq with
    | some v =>
      if j.status == Status.ok then (d2.modVer j.seq (fun x => { x with secure := false })).atMedium j.seq
      else
        let d3 := (d2.modVer j.seq (fun x => { x with secure := false })).reachPoint v
        (match d3.capBySeq j.seq with
          | some c => d3.finish c (Reply.plain j.status)
          | none => d3).ripen v.ns v.hash
    | none => match d2.capBySeq j.seq with
      | some c => d2.finishFree c (Reply.plain j.status)
      | none => d2.reportApplied j.ns j.seq
  d3.raise Ev.secureDone j.ns.toNat j.total ((d.clk.tick - j.since) / 1000) 0

/-- A secure deletion has no band left. -/
def Dev.secureCheck (d : Dev) (j : SecureJob) : Dev := if j.bands.isEmpty then d.secureDone j else d

/-- The deletion is accepted: the removal of the key's copies begins (R225 steps 3 and 4), in the bands found and those that a batch has
copied the value into since (R234); the open ones are closed. One that needs relocation is Cumulus firmware's from here on (R15). `st`: the
reply's status at the end. -/
def Dev.secureStart (d : Dev) (seq : Nat) (n : BitVec 12) (h : BitVec 128) (st : BitVec 16) : Dev :=
  let j0 := (d.med.secures.find? (·.seq == seq)).getD (d.secureJob seq n h st)
  let found := (j0.bands ++ d.foundFor n h).dedup
  let j : SecureJob := { j0 with bands := found, total := found.length, accepted := true }
  let d0 := if j.roomMain.isEmpty && j.roomMeta.isEmpty then d else d.handOver seq .secureDelete
  let d1 := found.foldl (fun (d : Dev) (b : BayNo × Nat × Nat) => d.closeBand b.1 b.2.1 b.2.2) d0
  let d2 := (d.med.copies.filter (fun c => c.ns == n && c.hash == h && !c.dead && decide (c.version ≤ seq))).foldl (fun (d : Dev) (c : Copy) =>
    d.killCopy c.loc c.gen) d1
  let d3 : Dev := { d2 with
    med := { d2.med with secures := d2.med.secures.filter (·.seq != seq) ++ [j] },
    idx := { d2.idx with journal := d2.idx.journal.filter (fun r => !(r.ns == n && r.hash == h && decide (r.version < seq) && r.committed)) } }
  (d3.secureAdvance j).secureCheck j

/-- Takes every secure deletion as far as it goes. -/
def Dev.secureAll (d : Dev) : Dev := d.med.secures.foldl (fun (d : Dev) (j : SecureJob) => d.secureAdvance j) d

/-- A found band has been erased, or has no codeword left that decodes (R225 step 5, R227). -/
def Dev.secureErased (d : Dev) (seq : Nat) (b : BayNo × Nat × Nat) (st : BitVec 16) : Dev :=
  let upd (j : SecureJob) : SecureJob :=
    if j.seq == seq then { j with bands := j.bands.filter (· != b), status := if st == Status.ok then j.status else st } else j
  let d1 : Dev := { d with med := { d.med with secures := d.med.secures.map upd } }
  match d1.med.secures.find? (·.seq == seq) with
  | some j => d1.secureCheck j
  | none => d1

/-! ## Deluge at work (R393, R395, R396) -/

/-- Every band of a cartridge, the metadata bands last. -/
def bandNums : List (Nat × Nat) :=
  (List.range 8).flatMap (fun g => (List.range 932).map (fun i => (g, i + 128))) ++
    (List.range 8).flatMap (fun g => (List.range 128).map (fun i => (g, i)))

/-- A record whose bands are being erased. -/
def SanRec.erasing (r : SanRec) : Bool := r.state == 2 && r.action == 2

/-- A journal band holds a record that a replay still needs (R393 step 6). -/
def Dev.needsJournal (d : Dev) (bay : BayNo) (x : Band) : Bool :=
  d.idx.journal.any (fun r => r.bay == bay && decide (d.idx.replayStart ≤ r.jseq) && x.items.contains (r.ns, r.hash))

/-- One band of a record in step 6: what other namespaces have there is moved out, then it is erased; metadata bands of a drive-scope
record come last. -/
def Dev.sanBand (d : Dev) (r : SanRec) (x : BayNo × Nat × Nat) : Dev :=
  let bay := x.1
  let b := x.2
  if !d.inService bay then d
  else if r.scope == 2 then
    if decide (b.2 < 128) && r.bandsLeft.any (fun y => y.1 == bay && decide (128 ≤ y.2.2)) then d
    else d.issueErase bay b.1 b.2 (.sanitise r.id)
  else match (d.bays.get bay).band? b.1 b.2 with
    | none => d
    | some y =>
      if d.movingOut bay b then d
      else match d.liveIn bay b.1 b.2 with
        | [] =>
          let d1 := d.clearBand bay b false 5
          if d1.bandClear bay b && !(y.stream == .journal && d1.needsJournal bay y) then
            d1.issueErase bay b.1 b.2 (.sanitise r.id) else d1
        | cs => d.beginBatch .secure bay bay .cold b.1 b.2 5 cs

/-- A record completes once nothing is left on the cartridges in service (R393 step 7, R396). -/
def Dev.sanCheck (d : Dev) (r : SanRec) : Dev :=
  match d.sec.sanitise.find? (fun x => x.id == r.id && x.erasing) with
  | none => d
  | some x =>
    if x.bandsLeft.any (fun y => d.inService y.1) then d
    else
      let st := if x.residue = 0 then 3 else 4
      let d1 : Dev := { d with sec := { d.sec with sanitise := d.sec.sanitise.map (fun (y : SanRec) =>
        if y.id == x.id then { y with state := st, finish := d.clk.ns } else y) } }
      let d2 := d1.raise Ev.sanitiseDone (x.id % 2 ^ 32) x.bandsDone ((d.clk.ns - x.start) / 1000000000) x.residue
      let d3 := match x.wait, d2.capBySeq x.id with
        | true, some c => d2.finishFree c (Reply.okData (natToBytesBE 8 x.id ++ natToBytesBE 1 st ++ zeroBytes 7))
        | _, _ => d2
      d3.refreshMode 5

/-- Takes every record as far as it goes. -/
def Dev.sanAll (d : Dev) : Dev :=
  (d.sec.sanitise.filter (·.erasing)).foldl (fun (d : Dev) (r : SanRec) =>
    (r.bandsLeft.foldl (fun (d : Dev) (x : BayNo × Nat × Nat) => d.sanBand r x) d).sanCheck r) d

/-- A band is gone: erased, or (`residue`) left under R227 with a codeword that decodes, or without one. What waited for it goes
on: secure deletions, sanitises, `NS_DELETE`s with WAIT_RECLAIM. -/
def Dev.bandGone (d : Dev) (bay : BayNo) (b : Nat × Nat) (residue : Bool) : Dev :=
  let js := d.med.secures.filter (fun j => j.bands.contains (bay, b))
  let d1 := js.foldl (fun (d : Dev) (j : SecureJob) =>
    d.secureErased j.seq (bay, b) (if residue then Status.integrityFault else Status.ok)) d
  let hit (r : SanRec) : Bool := r.bandsLeft.contains (bay, b.1, b.2)
  let one (r : SanRec) : SanRec :=
    if hit r then
      let left := r.bandsLeft.filter (· != (bay, b.1, b.2))
      { r with bandsLeft := left, bandsDone := r.bandsDone + 1, residue := r.residue + residue.toNat,
               baysPending := if left.any (fun y => y.1 == bay) then r.baysPending
                 else r.baysPending &&& ~~~ ((1 : BitVec 4) <<< bay.val) }
    else r
  let rec_ (q : Nat × List (BayNo × Nat × Nat)) : Nat × List (BayNo × Nat × Nat) := (q.1, q.2.filter (· != (bay, b.1, b.2)))
  let d2 : Dev := { d1 with
    sec := { d1.sec with sanitise := d1.sec.sanitise.map one },
    med := { d1.med with reclaims := (d1.med.reclaims.map rec_).filter (fun q => !q.2.isEmpty) } }
  (d1.med.reclaims.filter (fun q => (rec_ q).2.isEmpty)).foldl (fun (d : Dev) (q : Nat × List (BayNo × Nat × Nat)) =>
    match d.capBySeq q.1 with
    | some c => d.finishFree c (Reply.plain Status.ok)
    | none => d) d2

/-- Filters and summaries of the bands that have closed. -/
def Dev.writeSummaries (d : Dev) : Dev :=
  (List.finRange 4).foldl (fun (d : Dev) (bay : BayNo) =>
    if d.inService bay then
      ((d.bays.get bay).bands.filter (fun x => !x.isOpen && !x.erasing && x.summaryLoc == 0 && !(x.items.isEmpty && x.pages.isEmpty))).foldl
        (fun (d : Dev) (x : Band) => d.writeSummary bay x) d
    else d) d

/-- Batches, erases, secure deletions and sanitises go on after something has changed. -/
def Dev.mediaAdvance (d : Dev) : Dev :=
  ((((d.rowsOn).commitReady (2 * d.med.batches.length)).secureAll).sanAll).writeSummaries.eraseAllDead

end Sys2Proof.Machine
end

