-- ==== Sys2Proof/Machine/Data.lean ====
section
/-! DEFINITION. The data opcodes (R94 to R108, R125 to R144): dispatch, resolution, completion, scans, uploads, `FLUSH`. -/

namespace Sys2Proof.Machine

/-! ## Readers -/

/-- The page that a reader of a batch needs and the index cache does not hold (R169): none where Drift serves it (R160 step 1). -/
def Dev.needsPage (d : Dev) (c : Cap) : Option (BitVec 12 × Nat) :=
  if (d.driftFor c.hdr.ns (d.capHash c) c.key c.seq).isSome then none
  else match d.look c.hdr.ns (d.capHash c) with
  | .page lo => some (c.hdr.ns, lo)
  | _ => none

/-- Prefetches a page for a capsule (R168, R169). -/
def Dev.prefetch (d : Dev) (n : BitVec 12) (lo seq : Nat) : Dev :=
  match d.idx.buckets.find? (fun b => b.ns == n && b.lo == lo) with
  | some b =>
    if b.cached then d
    else if b.reading then d.readPage n lo seq
    else (d.readPage n lo seq).modBucket n lo (fun x => { x with prefetched := true })
  | none => d

/-- Batch prefetch (R169): readers of one session stamped within `forecast.batch_window_us`, more than one of which needs an uncached
page. -/
def Dev.batchPrefetch (d : Dev) (c : Cap) : Dev :=
  let w := d.pnum P.forecastBatchWindowUs
  let mates := d.que.caps.filter (fun x => isReader x.hdr.opcode && x.sid == c.sid && x.seq != 0 && x.captured.isNone &&
    decide (x.stamp ≤ c.stamp + w) && decide (c.stamp ≤ x.stamp + w))
  let need := mates.filterMap (fun x => (d.needsPage x).map (fun p => (x.seq, p)))
  if 2 ≤ need.length then need.foldl (fun (d : Dev) (p : Nat × BitVec 12 × Nat) => d.prefetch p.2.1 p.2.2 p.1) d else d

/-- A reader is dispatched: Forecast, the batch's pages, and its capture where no earlier writer is unresolved (R160, R161). -/
def Dev.readerGo (c : Cap) (d : Dev) : Dev :=
  let d1 := (d.forecast c).batchPrefetch c
  if d1.turn c then d1.capture c else d1

def getEff (seq : Nat) (d : Dev) : Dev := d.dispatch seq (fun h => h.opcode == Op.get) Dev.readerGo

/-- GET (R94). -/
def execGet (seq : Nat) (s : State) : Host.Outcome State Fault Refusal := s.run (getEff seq)

def existsEff (seq : Nat) (d : Dev) : Dev := d.dispatch seq (fun h => h.opcode == Op.exists_) Dev.readerGo

/-- EXISTS (R95). -/
def execExists (seq : Nat) (s : State) : Host.Outcome State Fault Refusal := s.run (existsEff seq)

def readerReplyPlaceEff (seq : Nat) (d : Dev) : Dev :=
  match d.capBySeq seq with
  | none => d
  | some c =>
    if isReader c.hdr.opcode && c.stage == .dispatched && !c.forwarded then
      if c.captured.isNone then (if d.turn c then d.capture c else d) else d.replyBuffered c
    else d

/-- READER_REPLY_PLACE (R127). -/
def execReaderReplyPlace (seq : Nat) (s : State) : Host.Outcome State Fault Refusal := s.run (readerReplyPlaceEff seq)

/-! ## Writers are dispatched -/

/-- A dispatched writer waits for its turn; WRITER_RESOLVE is the moment it has come (R127). Its directory search is made now
(R19). -/
def Dev.writerGo (c : Cap) (d : Dev) : Dev := d.countSearch .directory (d.buffered c.hdr.ns (d.capHash c))

def putEff (seq : Nat) (d : Dev) : Dev := d.dispatch seq (fun h => h.opcode == Op.put) Dev.writerGo

/-- PUT (R96). -/
def execPut (seq : Nat) (s : State) : Host.Outcome State Fault Refusal := s.run (putEff seq)

def casPutEff (seq : Nat) (d : Dev) : Dev := d.dispatch seq (fun h => h.opcode == Op.casPut) Dev.writerGo

/-- CAS_PUT (R96). -/
def execCasPut (seq : Nat) (s : State) : Host.Outcome State Fault Refusal := s.run (casPutEff seq)

def deleteEff (seq : Nat) (d : Dev) : Dev :=
  d.dispatch seq (fun h => h.opcode == Op.delete && !h.flag Flag.secure) Dev.writerGo

/-- DELETE (R97). -/
def execDelete (seq : Nat) (s : State) : Host.Outcome State Fault Refusal := s.run (deleteEff seq)

def patchEff (seq : Nat) (d : Dev) : Dev := d.dispatch seq (fun h => h.opcode == Op.patch) Dev.writerGo

/-- PATCH (R99). -/
def execPatch (seq : Nat) (s : State) : Host.Outcome State Fault Refusal := s.run (patchEff seq)

def mpCommitEff (seq : Nat) (d : Dev) : Dev := d.dispatch seq (fun h => h.opcode == Op.mpCommit) Dev.writerGo

/-- MP_COMMIT (R106). -/
def execMpCommit (seq : Nat) (s : State) : Host.Outcome State Fault Refusal := s.run (mpCommitEff seq)

def secureDeleteEff (seq : Nat) (d : Dev) : Dev :=
  d.dispatch seq (fun h => h.opcode == Op.delete && h.flag Flag.secure) Dev.writerGo

/-- SECURE_DELETE (R225). -/
def execSecureDelete (seq : Nat) (s : State) : Host.Outcome State Fault Refusal := s.run (secureDeleteEff seq)

/-! ## MP_COMMIT (R106, R107) -/

/-- The part that wins a chunk: the one sequenced last that covers it (R105). -/
def partOf (ps : List Part) (i : Nat) : Option Part :=
  (ps.filter (fun p => decide (p.offset ≤ 4096 * i) && decide (4096 * i < p.offset + p.bytes.length))).foldl (fun m p =>
    match m with
    | none => some p
    | some q => if q.seq < p.seq then some p else some q) none

/-- The chunks of a commit with their winning parts; nothing where a chunk was not written. -/
def winners (ps : List Part) : List Nat → Option (List (Nat × Part))
  | [] => some []
  | i :: rest =>
    match partOf ps i, winners ps rest with
    | some p, some r => some ((i, p) :: r)
    | _, _ => none

/-- Bytes [0, F) of the parts. -/
def commitBytes (f : Nat) (w : List (Nat × Part)) : Bytes :=
  ((w.map (fun x => (x.2.bytes.drop (4096 * x.1 - x.2.offset)).take 4096)).flatten).take f

/-- Consecutive chunks of one run of a part (R205: 2,048 chunks at most): first chunk, count, part (R107). -/
def partRuns : List (Nat × Part) → List (Nat × Nat × Part)
  | [] => []
  | (i, p) :: rest =>
    match partRuns rest with
    | (j, n, q) :: more =>
      if q.seq = p.seq ∧ j = i + 1 ∧ (j - p.offset / 4096) % 2048 ≠ 0 then (i, n + 1, p) :: more else (i, 1, p) :: (j, n, q) :: more
    | [] => [(i, 1, p)]

/-- The location of a chunk of a part. -/
def Dev.partLoc (d : Dev) (p : Part) (i : Nat) : Nat :=
  let j := i - p.offset / 4096
  match p.runs[j / 2048]? with
  | some (l, _) =>
    let b := d.bays.get (locBay l)
    b.posLoc (locBay l).val (locGroup l) (locBlock l) (b.locPos l + j % 2048)
  | none => 0

/-- A run of a value that is being committed: first chunk, chunks, part. -/
abbrev PartRun := Nat × Nat × Part

/-- Chunks of a group of runs. -/
def groupChunks (g : List PartRun) : Nat := (g.map (fun x => x.2.1)).sum

/-- Adjacent runs in groups of at least 2,048 chunks, from the front, until `over_` runs fewer remain (R107); the others stand alone.
`acc`: the group being gathered. -/
def joinRuns : Nat → List PartRun → List PartRun → List (List PartRun)
  | _, acc, [] => if acc.isEmpty then [] else [acc]
  | over_, acc, r :: rest =>
    if acc.isEmpty then (if over_ = 0 then [r] :: joinRuns 0 [] rest else joinRuns over_ [r] rest)
    else if 2 ≤ acc.length ∧ 2048 ≤ groupChunks acc then
      acc :: (if over_ + 1 ≤ acc.length then [r] :: joinRuns 0 [] rest else joinRuns (over_ + 1 - acc.length) [r] rest)
    else joinRuns over_ (acc ++ [r]) rest

/-- A last group that was gathered and stayed short joins the one before it. -/
def joinLast : List (List PartRun) → List (List PartRun)
  | [] => []
  | [g] => [g]
  | [g, x] => if 2 ≤ x.length ∧ groupChunks x < 2048 then [g ++ x] else [g, x]
  | g :: x :: y :: rest => g :: joinLast (x :: y :: rest)

/-- The segments of a committed value (R107): the run that holds chunk 0 is written again, the others stay as their parts lie, and adjacent
runs are copied together where there would be more than 512. R205's run lengths hold of a value that is written whole: DEDUCED, log
entry 204. -/
def Dev.commitSegs (d : Dev) (rs : List PartRun) : List Seg :=
  (joinLast (joinRuns (rs.length - 512) [] rs)).zipIdx.map (fun g => match g.1 with
    | [r] => if g.2 = 0 then .fresh r.2.1 else .reuse (d.partLoc r.2.2 r.1) r.2.1
    | g => .fresh (groupChunks g))

/-- The chunk checks of a committed value (R261): a chunk that is a part's as it stands keeps the part's; one that is cut is computed. -/
def commitChecks (b : Bytes) (w : List (Nat × Part)) : List (BitVec 32) :=
  w.map (fun x =>
    let c := chunkOf b x.1
    let j := x.1 - x.2.offset / 4096
    if c.length == (chunkOf x.2.bytes j).length then (x.2.checks[j]?).getD (chunkCheck c) else chunkCheck c)

/-- The upload a capsule names, in its namespace and of its tenant (R104, R105); one replicated from the lead names no tenant (R293),
and every tenant of the namespace may use it. -/
def Dev.uploadOf (d : Dev) (c : Cap) : Option Upload :=
  d.idx.uploads.find? (fun u => u.id == c.hdr.expVersion.toNat && u.ns == c.hdr.ns && (u.tenant == c.tenant || u.tenant == 0))

/-- A part lies on a cartridge that is absent (R106). -/
def Dev.partsAbsent (d : Dev) (u : Upload) : Bool := u.parts.any (fun p => !d.serves p.bay)

/-- The rest of a commit once its state is known (R106): conditions 3 and 4, then the charge and Drift. -/
def Dev.commitOn (d : Dev) (c : Cap) (n : Namespace) (group : Nat) (u : Upload) (ws : List (Nat × Part)) (k : KState) (prov : Bool) :
    Dev :=
  let bytes := commitBytes c.hdr.valueLen.toNat ws
  match if prov then .go else writerCheck c.hdr k with
  | .stop st v => d.failWriter c st v
  | .go =>
    if c.hdr.flag Flag.hostCrc && crc64 bytes != c.hdr.valueCrc then d.failWriter c Status.crcMismatch 0
    else d.resolveOn c n (keyHash n.salt c.key) group k prov
      { checks := commitChecks bytes ws, content := some bytes, bad := [], segs := d.commitSegs (partRuns ws), units := 0 } 0 (some u.id)

/-- The checks of an `MP_COMMIT` against its upload, once its key's state is known or taken as absent (R79, R106). -/
def Dev.commitUpload (d : Dev) (c : Cap) (n : Namespace) (group : Nat) (k : KState) (prov : Bool) : Dev :=
  match d.uploadOf c with
  | none => d.failWriter c Status.notFound 0
  | some u =>
    if u.key != c.key then d.failWriter c Status.notFound 0
    else
      let d0 : Dev := { d with idx := { d.idx with uploads := d.idx.uploads.map (fun x =>
        if x.id == u.id then { x with lastUse := d.clk.tick } else x) } }
      let f := c.hdr.valueLen.toNat
      if d.partsAbsent u then d0.failWriter c Status.unavailable 0
      else if u.declared < f then d0.failWriter c Status.badLength 0
      else match winners u.parts (List.range (chunkCount f)) with
        | none => d0.failWriter c Status.badLength 0
        | some ws =>
          let d1 := if prov then (match d0.look n.id (keyHash n.salt c.key) with
            | .page lo => d0.readPage n.id lo c.seq
            | _ => d0) else d0
          d1.commitOn c n group u ws k prov

/-- Resolves `MP_COMMIT` (R79, R106): what reading the key's state finds comes before the checks of the upload; the upload is open until
the completion point of a commit. -/
def Dev.resolveCommit (d : Dev) (c : Cap) (n : Namespace) (group : Nat) : Dev :=
  let h := keyHash n.salt c.key
  match d.mirrorGate n.id true false with
  | some st => d.failWriter c st 0
  | none =>
    match d.writerBase c n h 0 with
    | (.fail st, _) => d.failWriter c st 0
    | (.collision, _) => (d.collisionEvent n.id h).failWriter c Status.integrityFault 0
    | (.page lo, _) => (d.modCap c (fun x => { x with pageWait := true })).readPage n.id lo c.seq
    | (.state k, prov) =>
      if k == .lostHome && c.hdr.flag Flag.ifAbsent then d.failWriter c Status.mediaError 0 else d.commitUpload c n group k prov

/-! ## WRITER_RESOLVE (R126, R127, R130) -/

/-- The token of a `PATCH`, evaluated once against the state it builds on (R112). -/
def Dev.patchToken (d : Dev) (c : Cap) (h : BitVec 128) : Cap × Dev :=
  if c.hdr.opcode == Op.patch && c.hdr.flag Flag.tokenPresent && (d.driftFor c.hdr.ns h c.key c.seq).isNone then
    let known : Option (Option (Nat × Nat)) := match d.look c.hdr.ns h with
      | .page _ => none
      | .present _ loc gen _ _ => some (if loc = 0 then none else some (loc, gen))
      | _ => some none
    match known with
    | none => (c, d)
    | some x =>
      let (st, d1) := d.checkToken c h x
      let c1 := { c with tokenStale := st, tokenChecked := true }
      (c1, d1.modCap c (fun _ => c1))
  else (c, d)

/-- The lookup of a writer is counted (R168): it asks for its key's state unless Drift holds that. -/
def Dev.countWriter (d : Dev) (c : Cap) (h : BitVec 128) : Dev :=
  if c.slcWait || c.copied.isSome || (d.readOf c.seq).isSome || (d.driftFor c.hdr.ns h c.key c.seq).isSome then d
  else
    let by_ := (d.lookBy c.hdr.ns h).2
    (d.countLook by_ c.pageWait).usePage c.hdr.ns h by_

/-- A SECURE `DELETE` of an absent key removes what copies there still are and then answers `NOT_FOUND` (R98). -/
def Dev.secureAbsent (d : Dev) (c : Cap) (n : Namespace) (h : BitVec 128) : Bool :=
  c.hdr.opcode == Op.delete && c.hdr.flag Flag.secure && c.hdr.expVersion == 0 && (d.mirrorGate n.id true true).isNone &&
    d.base n.id h c.key c.seq == .state .absent && !d.turnedAway n.id h c.seq && !d.nsBusy n.id c.seq

/-- The chunks that a `PATCH` copies from flash and has not read yet, with the location and generation they are read at (R277): those without
patch bytes in the runs that are rewritten, and the MAP chunk. -/
def Dev.copyChunks (d : Dev) (c : Cap) (h : BitVec 128) : Option (Nat × Nat × List Nat) :=
  if c.hdr.opcode != Op.patch || (d.driftFor c.hdr.ns h c.key c.seq).isSome then none
  else match d.base c.hdr.ns h c.key c.seq, d.baseCopy c.hdr.ns h c.key c.seq with
    | .state k, some cp =>
      let o := c.hdr.offset.toNat
      let p := c.value.length
      let segs := patchSegs cp.runs o p (chunkCount (patchBytes cp.bytes o c.value).length)
      let l := (List.range cp.count).filter (fun i => !patched o p i && inFresh segs i)
      if writerCheck c.hdr k != .go || c.copied == some (cp.loc, cp.gen) || (cp.withMap l).isEmpty then none
      else some (cp.loc, cp.gen, cp.withMap l)
    | _, _ => none

/-- Resolves a writer whose turn has come; a `PATCH` once it has read the chunks that it copies (R277). -/
def Dev.resolve (d : Dev) (c : Cap) (n : Namespace) (group : Nat) : Dev :=
  let h := keyHash n.salt c.key
  let d := d.countWriter c h
  if c.hdr.opcode == Op.mpCommit then d.resolveCommit c n group
  else if d.secureAbsent c n h then
    if d.secureRoom n.id h then (d.modCap c (fun x => { x with stage := .resolved })).secureStart c.seq n.id h Status.notFound
    else d.failWriter c Status.noSpace 0
  else
    let (c1, d1) := d.patchToken c h
    match d1.copyChunks c1 h with
    | some (loc, gen, l) =>
      if (d1.mirrorGate n.id true false).isSome || d1.turnedAway n.id h c.seq then d1.resolvePlain c1 n group
      else if (d1.readOf c.seq).isSome then d1
      else d1.issueRead c1 loc gen l none false
    | none => d1.resolvePlain c1 n group

def writerResolveEff (seq : Nat) (group : Fin 8) (d : Dev) : Dev :=
  match d.capBySeq seq with
  | none => d
  | some c =>
    let h := d.capHash c
    let secure := c.hdr.opcode == Op.delete && c.hdr.flag Flag.secure
    match d.nsOf c.hdr.ns with
    | none => d
    | some n =>
      if isWriter c.hdr.opcode && c.stage == .dispatched && d.turn c && (!secure || (d.firstOnKey n.id h seq && (d.keyVers n.id h).all (fun v => decide (seq ≤ v.seq) || v.done))) then
        let d1 := d.resolve c n group.val
        if (d1.capBySeq seq).any Cap.unresolved then d1
        else (d1.endWaits n.id h seq).captureWaiting n.id h
      else d

/-- WRITER_RESOLVE (R127). -/
def execWriterResolve (seq : Nat) (group : Fin 8) (s : State) : Host.Outcome State Fault Refusal :=
  s.run (writerResolveEff seq group)

/-! ## JOURNAL_RECORD_COMMIT (R128, R131, R153, R154) -/

/-- Every reader on a key with a lower sequence has captured its state (R154). -/
def Dev.readersCaptured (d : Dev) (n : BitVec 12) (h : BitVec 128) (s : Nat) : Bool :=
  d.que.caps.all (fun c => !(isReader c.hdr.opcode && c.hdr.ns == n && c.seq != 0 && decide (c.seq < s) && c.captured.isNone &&
    !c.forwarded && d.capHash c == h))

/-- The parts of an upload that are not on medium: a commit waits for them. -/
def Dev.partsPending (d : Dev) (v : Version) : Bool :=
  match v.upload with
  | none => false
  | some u => d.idx.uploads.any (fun x => x.id == u && x.parts.any (fun p => !p.onMedium))

/-- Isobar has found the state that a writer replaces (R87). -/
def Dev.stateKnown (d : Dev) (v : Version) : Bool :=
  match d.look v.ns v.hash with
  | .page _ => !v.provisional
  | _ => true

/-- No earlier record of its stream is still to be programmed: a replay stops at the first that is not (R136, R158): DEDUCED, log entry
178. -/
def Dev.streamDone (d : Dev) (r : JRec) : Bool :=
  d.idx.journal.all (fun x => x.bay != r.bay || decide (r.jseq ≤ x.jseq) || x.programmed)

/-- A writer's record may be committed (R87, R128, R153, R154). -/
def Dev.mayCommit (d : Dev) (r : JRec) (v : Version) : Bool :=
  r.programmed && !r.committed && d.streamDone r && !d.idx.pressure && d.stateKnown v && !d.programming (.value v.seq) && !d.partsPending v &&
    d.firstOnKey v.ns v.hash v.seq && d.readersCaptured v.ns v.hash v.seq

/-- Commits a writer's record: the state it replaces is settled, the log names the new one, the writer is on medium (R87, R128,
R131). -/
def Dev.commitWriter (d : Dev) (r : JRec) (v : Version) : Dev :=
  let d1 := (d.settle v).modRec r.jseq (fun x => { x with committed := true })
  let d2 := d1.enterLog { r with committed := true }
  let d3 := (d2.modCopy v.loc v.gen (fun x => { x with programmed := true })).modVer v.seq (fun x => { x with onMedium := true })
  let d4 := d3.checkPressure
  if v.secure then d4.secureStart v.seq v.ns v.hash Status.ok else (d4.atMedium v.seq).mediaAdvance

/-- The key stored under a provisional writer's hash is another one (R90). -/
def Dev.meetsOther (d : Dev) (v : Version) : Bool :=
  v.provisional && (match d.look v.ns v.hash with
    | .present _ _ _ _ k | .lost _ k => k != v.key
    | _ => false)

/-- A provisional writer that meets another key is refused (R90). -/
def Dev.refuseOther (d : Dev) (v : Version) : Dev := (d.collisionEvent v.ns v.hash).endVer v.seq Status.integrityFault 0

def journalRecordCommitEff (jseq : Nat) (d : Dev) : Dev :=
  match d.jrec? jseq with
  | none => d
  | some r => match r.writer with
    | none => d
    | some s => match d.ver? s with
      | none => d
      | some v =>
        if d.mayCommit r v then (if d.meetsOther v then d.refuseOther v else d.commitWriter r v)
        else if d.stateKnown v then d
        else match d.look v.ns v.hash with
          | .page lo => d.readPage v.ns lo v.seq
          | _ => d

/-- JOURNAL_RECORD_COMMIT (R154). -/
def execJournalRecordCommit (jseq : Nat) (s : State) : Host.Outcome State Fault Refusal := s.run (journalRecordCommitEff jseq)

/-! ## FLUSH (R144) -/

/-- Writers that a `FLUSH` waits for: sequenced before it and neither replied to nor, where they are acknowledged early, on medium or
lost. -/
def Dev.flushWaits (d : Dev) (n : BitVec 12) (s : Nat) : Bool :=
  d.que.caps.any (fun c => isWriter c.hdr.opcode && (c.unresolved || c.stage == .resolved) && c.hdr.ns == n && decide (c.seq < s)) ||
    d.que.drift.any (fun v => v.ns == n && decide (v.seq < s) && !(v.onMedium && v.done))

/-- A covered writer acknowledged to the tenant was lost (R144), whether or not log 0x04 still holds its entry. -/
def Dev.flushLost (d : Dev) (f : FlushWait) : Bool :=
  d.que.lossLow.any (fun e => e.1 == f.ns && e.2.1 == f.tenant && decide (e.2.2 < f.seq))

def flushEff (seq : Nat) (d : Dev) : Dev :=
  d.dispatch seq (fun h => h.opcode == Op.flush) (fun c d =>
    match d.mirrorGate c.hdr.ns false false with
    | some st => d.finishFree c (Reply.plain st)
    | none =>
      if d.nsBusy c.hdr.ns c.seq then d.finishFree c (Reply.plain Status.busyMaintenance)
      else { d with que := { d.que with flushes := d.que.flushes ++ [⟨c.seq, c.hdr.ns, c.tenant⟩] } })

/-- FLUSH (R144). -/
def execFlush (seq : Nat) (s : State) : Host.Outcome State Fault Refusal := s.run (flushEff seq)

def flushCompleteEff (seq : Nat) (d : Dev) : Dev :=
  match d.que.flushes.find? (·.seq == seq), d.capBySeq seq with
  | some f, some c =>
    if d.flushWaits f.ns seq then d
    else
      let d1 : Dev := { d with que := { d.que with flushes := d.que.flushes.filter (·.seq != seq) } }
      (d1.bump (.drive .flushes) 1).finishFree c (Reply.plain (if d.flushLost f then Status.deferredError else Status.ok))
  | _, _ => d

/-- FLUSH_COMPLETE (R144). -/
def execFlushComplete (seq : Nat) (s : State) : Host.Outcome State Fault Refusal := s.run (flushCompleteEff seq)

/-! ## SCAN_PREFIX (R101 to R103) -/

/-- An entry of a scan reply (R102). -/
def scanEntry (e : Entry) : Bytes :=
  natToBytesBE 2 e.key.length ++ zeroBytes 6 ++ natToBytesBE 8 e.version ++ natToBytesBE 8 (if e.lost then 0 else e.len) ++ e.key ++
    zeroBytes (8 * ceilDiv e.key.length 8 - e.key.length)

/-- The entries of a bucket with everything on medium (R101). -/
def Dev.scanBucket (d : Dev) (b : Bucket) : List Entry := (d.bucketLog b).foldl applyRec b.entries

/-- Entries grouped by their high 64 key-hash bits (R101). -/
def groupEntries : List Entry → List (Nat × List Entry)
  | [] => []
  | e :: rest =>
    match groupEntries rest with
    | (h, es) :: more => if h = high64 e.hash then (h, e :: es) :: more else (high64 e.hash, [e]) :: (h, es) :: more
    | [] => [(high64 e.hash, [e])]

/-- The progress of one reply: bytes, entries visited up to the last one sent, the place after it, entries visited, place after
them. -/
structure ScanAcc where
  bytes : Bytes
  sentVisited : Nat
  sentAt : Nat
  visited : Nat
  next : Nat
  deriving DecidableEq, Repr

/-- How a reply ends: more groups may follow; full (MORE); the budget is used up. -/
inductive ScanStop
  | go | full | budget
  deriving DecidableEq, Repr

/-- Takes groups in order while the reply holds them and the budget lasts (R103). -/
def scanGroups (pre : Bytes) (limit budget : Nat) (a : ScanAcc) : List (Nat × List Entry) → ScanAcc × ScanStop
  | [] => (a, .go)
  | (h, es) :: rest =>
    let hits := es.filter (fun e => pre.isPrefixOf e.key)
    let b := (hits.map scanEntry).flatten
    if budget ≤ a.visited then (a, .budget)
    else if !hits.isEmpty && !a.bytes.isEmpty && decide (limit < a.bytes.length + b.length) then (a, .full)
    else
      let v := a.visited + es.length
      scanGroups pre limit budget
        (if hits.isEmpty then { a with visited := v, next := h + 1 } else ⟨a.bytes ++ b, v, h + 1, v, h + 1⟩) rest

/-- What a walk over the buckets meets. -/
inductive ScanEnd
  | stop (s : ScanStop)
  | page (lo : Nat)
  | fail (st : BitVec 16)
  deriving DecidableEq, Repr

/-- Walks the buckets from the cursor on (R101, R103, R169). -/
def Dev.scanWalk (d : Dev) (seq : Nat) (pre : Bytes) (cursor limit budget : Nat) (a : ScanAcc) : List Bucket → ScanAcc × ScanEnd
  | [] => (a, .stop .go)
  | b :: rest =>
    if d.homeAbsent b || d.bucketAway b seq then (a, .fail Status.unavailable)
    else if b.pageLost then (a, .fail Status.mediaError)
    else if !b.cached then (a, .page b.lo)
    else if b.entries.any (fun e => e.badTwin && decide (cursor ≤ high64 e.hash)) then (a, .fail Status.integrityFault)
    else
      match scanGroups pre limit budget a (groupEntries ((d.scanBucket b).filter (fun e => decide (cursor ≤ high64 e.hash)))) with
      | (a1, .go) => d.scanWalk seq pre cursor limit budget a1 rest
      | (a1, s) => (a1, .stop s)

/-- The reply of a scan served on the follower waits for the lead's committed value to cover the states that it shows or hides (R297), up to the
place `upto`. -/
def Dev.scanHeld (d : Dev) (c : Cap) (upto : Nat) (bs : List Bucket) : Bool :=
  let new (h : BitVec 128) (key : Bytes) (v : Nat) : Bool :=
    decide (c.cursor ≤ high64 h) && decide (high64 h < upto) && c.key.isPrefixOf key && decide (d.mir.committed < v)
  d.follows c.hdr.ns && bs.any (fun b => b.entries.any (fun e => new e.hash e.key e.version) ||
    (d.bucketLog b).any (fun r => new r.hash r.key r.version))

/-- The buckets of a namespace from a cursor on, in range order. -/
def Dev.scanBuckets (d : Dev) (n : BitVec 12) (cursor : Nat) : List Bucket :=
  (d.idx.buckets.filter (fun b => b.ns == n && decide (cursor ≤ b.hi))).mergeSort (fun a b => decide (a.lo ≤ b.lo))

/-- Keeps the next uncached pages of a scan in flight, within what is left of its budget (R169): `budget` entries. The page that the scan
needs now, if any, is read first. -/
def Dev.scanAhead (d : Dev) (c : Cap) (now : Option Nat) (from_ budget : Nat) : Dev :=
  let d0 := match now with
    | some lo => (d.modCap c (fun x => { x with pageWait := true })).readPage c.hdr.ns lo c.seq
    | none => d
  let room := (((d.scanBuckets c.hdr.ns from_).map (fun b => (b, b.entries.length))).foldl
    (fun (m : List Bucket × Nat) (x : Bucket × Nat) => if m.2 < budget then (m.1 ++ [x.1], m.2 + x.2) else m) ([], 0)).1
  let next := ((room.filter (fun b => !b.cached && some b.lo != now)).take (d.pnum P.forecastScanRunahead))
  next.foldl (fun (d : Dev) (b : Bucket) => d.prefetch c.hdr.ns b.lo c.seq) d0

/-- The data of a scan's reply counts as payload of its tenant (R124, R185). -/
def Dev.chargeScan (d : Dev) (c : Cap) (n : Nat) : Dev :=
  let d1 := d.chargeBytes c.tenant n
  { d1 with que := { d1.que with winTenant := addTenant d1.que.winTenant c.tenant n } }

/-- Places one reply of a scan that is not the last (R103). A scan executed for the partner answers with one reply, whose version is
the place to go on from (log entry 65). -/
def Dev.scanMore (d : Dev) (c : Cap) (a : ScanAcc) : Dev :=
  if c.partner.isSome then d.finishFree c { Reply.ver Status.ok a.sentAt with data := a.bytes }
  else ((d.chargeScan c a.bytes.length).placeBytes c { Reply.okData a.bytes with more := true }).modCap c (fun x =>
    { x with cursor := a.sentAt, visited := a.sentVisited, replies := x.replies + 1 })

/-- The final reply of a scan. -/
def Dev.scanLast (d : Dev) (c : Cap) (a : ScanAcc) (done : Bool) : Dev :=
  ((d.chargeScan c a.bytes.length).withdrawPrefetch c.seq).finishFree c { Reply.ver Status.ok (if done || decide (2 ^ 64 ≤ a.next) then 0 else a.next) with data := a.bytes }

/-- The pages that a scan has walked over are used (R23, R168): those of its buckets below a place. -/
def Dev.scanUsed (d : Dev) (n : BitVec 12) (bs : List Bucket) (upto : Nat) : Dev :=
  (bs.filter (fun b => b.cached && decide (b.lo < upto))).foldl (fun (d : Dev) (b : Bucket) =>
    let d1 := d.modBucket n b.lo (fun x => { x with prefetched := false, lastUsed := d.clk.tick })
    if b.prefetched then d1.bump (.drive .ixPrefetchUsed) 1 else d1) d

/-- One reply of a scan, or the request for the page it needs. -/
def Dev.scanStep (d0 : Dev) (c : Cap) : Dev :=
  let n := c.hdr.ns
  let limit := if c.hdr.valueLen == 0 then d0.pnum P.indexScanReplyDefault else c.hdr.valueLen.toNat
  let a0 : ScanAcc := ⟨[], c.visited, c.cursor, c.visited, c.cursor⟩
  let bs := d0.scanBuckets n c.cursor
  let r := d0.scanWalk c.seq c.key c.cursor limit (d0.pnum P.indexScanBudget) a0 bs
  let upto := if r.2 == .stop .go then 2 ^ 64 else r.1.next
  if d0.scanHeld c upto bs then d0
  else
    let d := d0.scanUsed n bs upto
    let d1 := d.scanAhead c (match r.2 with
      | .page lo => some lo
      | _ => none) r.1.next (d.pnum P.indexScanBudget - r.1.visited)
    match r.2 with
    | .page _ => d1
    | .fail st => if r.1.bytes.isEmpty then (d.withdrawPrefetch c.seq).finishFree c (Reply.ver st c.cursor) else d1.scanMore c r.1
    | .stop .full => d1.scanMore c r.1
    | .stop .go => d.scanLast c r.1 true
    | .stop .budget => d.scanLast c r.1 false

/-- The scan begins: the cursor is the capsule's own. -/
def Dev.scanStart (c : Cap) (d : Dev) : Dev :=
  match d.mirrorGate c.hdr.ns false false with
  | some st => d.finishFree c (Reply.ver st c.hdr.offset.toNat)
  | none =>
    if !d.followerServes c.hdr.ns then
      (if d.linked then d.partnerRead c none Status.unavailable
       else d.finishFree c (Reply.ver Status.unavailable c.hdr.offset.toNat))
    else if d.nsBusy c.hdr.ns c.seq then d.finishFree c (Reply.ver Status.busyMaintenance c.hdr.offset.toNat)
    else
      let c1 := { c with cursor := c.hdr.offset.toNat }
      (d.modCap c (fun _ => c1)).scanStep c1

def scanPrefixEff (seq : Nat) (d : Dev) : Dev :=
  match d.capBySeq seq with
  | none => d
  | some c =>
    if c.hdr.opcode == Op.scanPrefix && c.stage == .dispatched then (if c.forwarded then d else d.scanStep c)
    else d.dispatch seq (fun h => h.opcode == Op.scanPrefix) Dev.scanStart

/-- SCAN_PREFIX (R101): its dispatch, and each further reply. -/
def execScanPrefix (seq : Nat) (s : State) : Host.Outcome State Fault Refusal := s.run (scanPrefixEff seq)

/-! ## Uploads (R104, R105, R108) -/

/-- Bytes that an upload reserves (R104). -/
def uploadReserve (d : Nat) : Nat := d + 16777216

/-- Changes one upload. -/
def Dev.modUpload (d : Dev) (id : Nat) (f : Upload → Upload) : Dev :=
  { d with idx := { d.idx with uploads := d.idx.uploads.map (fun u => if u.id == id then f u else u) } }

/-- Changes one part of an upload. -/
def Dev.modPart (d : Dev) (id seq : Nat) (f : Part → Part) : Dev :=
  d.modUpload id (fun u => { u with parts := u.parts.map (fun p => if p.seq == seq then f p else p) })

/-- Opens an upload (R104), with its record in the journal of its home (R154); a key whose home is absent cannot be written (R207). -/
def Dev.mpBeginGo (c : Cap) (d : Dev) : Dev :=
  let n := c.hdr.ns
  let h := d.capHash c
  match d.mirrorGate n true false, d.nsOf n with
  | some st, _ => d.finishFree c (Reply.plain st)
  | none, none => d.finishFree c (Reply.plain Status.notPermitted)
  | none, some s =>
    let x := c.hdr.valueLen.toNat
    if !d.serves (d.homeOf n h) || d.turnedAway n h c.seq then d.finishFree c (Reply.plain Status.unavailable)
    else if 4294967296 < x then d.finishFree c (Reply.plain Status.badLength)
    else if d.nsBusy n c.seq then d.finishFree c (Reply.plain Status.busyMaintenance)
    else if d.pnum P.indexMpUploadsMax ≤ d.idx.uploads.length then d.finishFree c (Reply.plain Status.noSpace)
    else match d.binds s h 0 (uploadReserve x) 0 false with
      | .none =>
        let u : Upload := {
          id := c.seq, ns := n, key := c.key, hash := h, tenant := c.tenant, declared := x, marginUsed := 0, parts := [],
          lastUse := d.clk.tick }
        let d0 : Dev := { d with idx := { d.idx with uploads := d.idx.uploads ++ [u] } }
        let home := d.homeOf n h
        let d1 := (d0.journalItem (mkRec .upload n h c.key c.seq 0 0 x home none)).takeCharge n (uploadReserve x) 0 false
        (d1.replicate {
          kind := 5, ns := n, key := c.key, hash := h, version := c.seq, valueLength := x, len := 0, offset := 0,
          uploadId := c.seq, sent := false, at_ := d.clk.tick }).finishFree c (Reply.ver Status.ok c.seq)
      | b => (d.bindEvents s b).finishFree c (Reply.plain Status.noSpace)

def mpBeginEff (seq : Nat) (d : Dev) : Dev := d.dispatch seq (fun h => h.opcode == Op.mpBegin) Dev.mpBeginGo

/-- MP_BEGIN (R104). -/
def execMpBegin (seq : Nat) (s : State) : Host.Outcome State Fault Refusal := s.run (mpBeginEff seq)

/-- Chunks of an upload that a part replaces (R105). -/
def replacedChunks (ps : List Part) (o p : Nat) : Nat :=
  ((List.range (chunkCount p)).filter (fun i => (partOf ps (o / 4096 + i)).isSome)).length

/-- The status a part is refused with (R105). -/
def partCheck (u : Upload) (o p : Nat) : BitVec 16 :=
  if o % 4096 ≠ 0 ∨ u.declared < o + p then Status.badLength
  else if p % 4096 ≠ 0 ∧ o + p ≠ u.declared then Status.badLength
  else if 16777216 < u.marginUsed + 4096 * replacedChunks u.parts o p then Status.noSpace
  else Status.ok

/-- Places a part's chunks and its journal record in a die group (R104, R105, R107, R131, R154), and enters its first chunk in the directory:
a write capsule has one entry (R178, R179; log entry 50). No position can be reserved: what lacks is a hot one (`inr true`) or the
record's. -/
def Dev.placePart (d : Dev) (u : Upload) (seq o : Nat) (bytes : Bytes) (checks : List (BitVec 32)) : Dev ⊕ Bool :=
  let bay := d.homeOf u.ns u.hash
  let group := seq % 8
  match d.placeSegs bay .hot group [(u.ns, u.hash)] (.part u.id seq) false (segsOf (chunkCount bytes.length)) with
  | none => .inr true
  | some (runs, d1) =>
    match d1.journal bay group (mkRec .part u.ns u.hash u.key u.id ((runs.map (·.1)).headD 0) 0 bytes.length bay (some seq)) with
    | none => .inr false
    | some (_, d2) =>
      let p : Part := {
        seq := seq, offset := o, bytes := bytes, checks := checks, bay := bay, runs := runs, onMedium := false, moving := [],
        mirrorWait := false }
      .inl ((d2.modUpload u.id (fun x =>
        { x with parts := x.parts ++ [p], marginUsed := x.marginUsed + 4096 * replacedChunks x.parts o bytes.length,
                 lastUse := d.clk.tick })).modGale (fun g => g.insert .directory (partWord u.ns u.id (o / 4096))))

/-- The journal record of a part. -/
def Dev.partRec (d : Dev) (seq : Nat) : Option JRec := d.idx.journal.find? (fun r => r.kind == .part && r.writer == some seq)

/-- The record of a part that is given up goes. -/
def Dev.dropPartRec (d : Dev) (seq : Nat) : Dev :=
  match d.partRec seq with
  | some r => d.dropRec r.jseq
  | none => d

/-- The PART entry of a part that Drift no longer holds is retired (R178), unless another part that begins with its chunk waits. -/
def Dev.dropPartEntry (d : Dev) (u : Upload) (p : Part) : Dev :=
  if d.idx.uploads.any (fun x => x.id == u.id && x.parts.any (fun q => q.seq != p.seq && q.offset == p.offset && !q.onMedium)) then d
  else d.modGale (fun g => g.remove .directory (partWord u.ns u.id (p.offset / 4096)))

/-- Stores a part (R105): refused whole, waiting for a position (R212) or for a secure deletion that a restart has cut (R228), or being
programmed. -/
def Dev.mpPartGo (c : Cap) (d : Dev) : Dev :=
  match d.mirrorGate c.hdr.ns true false with
  | some st => d.finishFree c (Reply.plain st)
  | none =>
    match d.uploadOf c with
    | none => d.finishFree c (Reply.plain Status.notFound)
    | some u =>
      if !d.serves (d.homeOf u.ns u.hash) || d.turnedAway u.ns u.hash c.seq then d.finishFree c (Reply.plain Status.unavailable)
      else
        let o := c.hdr.offset.toNat
        let st := partCheck u o c.value.length
        if st == Status.badLength then d.finishFree c (Reply.plain st)
        else if d.nsBusy c.hdr.ns c.seq then d.finishFree c (Reply.plain Status.busyMaintenance)
        else if st != Status.ok then d.finishFree c (Reply.plain st)
        else match checkFail c.value c.checks (List.range (chunkCount c.value.length)) with
        | some i => (d.checkFails u.ns c.seq i 1).finishFree c (Reply.plain Status.mediaError)
        | none => if d.secureHolds (d.homeOf u.ns u.hash) then d.waitFor c (d.homeOf u.ns u.hash) false else match d.placePart u c.seq o c.value c.checks with
          | .inr slc => d.waitFor c (d.homeOf u.ns u.hash) slc
          | .inl d1 =>
            (((d1.endHotWait c (d.homeOf u.ns u.hash)).modCap c (fun x => { x with slcWait := false, hotWait := false })).modPart u.id c.seq
              (fun p => { p with mirrorWait := d.mirrorWaits u.ns })).replicate
              { kind := 6, ns := u.ns, key := u.key, hash := u.hash, version := c.seq, valueLength := c.value.length,
                len := c.value.length, offset := o, uploadId := u.id, sent := false, at_ := d.clk.tick }

def mpPartEff (seq : Nat) (d : Dev) : Dev :=
  match d.capBySeq seq with
  | none => d
  | some c =>
    if c.hdr.opcode == Op.mpPart && c.stage == .dispatched && c.slcWait then Dev.mpPartGo c d
    else d.dispatch seq (fun h => h.opcode == Op.mpPart) Dev.mpPartGo

/-- MP_PART (R105): its dispatch, and each further attempt of one that waits for SLC space. -/
def execMpPart (seq : Nat) (s : State) : Host.Outcome State Fault Refusal := s.run (mpPartEff seq)

/-- A part is on medium: its completion point (R131), unless the follower has still to report it applied (R295). -/
def Dev.partDone (d : Dev) (id seq : Nat) : Dev :=
  let dr : Dev := match d.partRec seq with
    | some r => d.modRec r.jseq (fun x => { x with committed := true })
    | none => d
  let d0 := dr.modPart id seq (fun p => { p with onMedium := true })
  let waits := d0.idx.uploads.any (fun u => u.id == id && u.parts.any (fun p => p.seq == seq && p.mirrorWait))
  let d1 := (d.idx.uploads.filter (·.id == id)).foldl (fun (d : Dev) (u : Upload) =>
    (u.parts.filter (·.seq == seq)).foldl (fun (d : Dev) (p : Part) => d.dropPartEntry u p) d) d0
  match d1.capBySeq seq, d1.idx.uploads.find? (·.id == id) with
  | some c, _ => if waits then d1 else d1.finishFree c (Reply.plain Status.ok)
  | none, some u => d1.reportApplied u.ns seq
  | none, none => d1

/-- The programs of a part have passed, that of its record among them, and every earlier record of the stream is on medium (R131, R158). -/
def Dev.partReady (d : Dev) (u : Upload) (p : Part) : Bool :=
  !p.onMedium && !d.programming (.part u.id p.seq) && (match d.partRec p.seq with
    | some r => r.programmed && d.streamDone r
    | none => true)

/-- The parts that have reached their completion points. -/
def Dev.partsOn (d : Dev) : Dev :=
  d.idx.uploads.foldl (fun (d : Dev) (u : Upload) => u.parts.foldl (fun (d : Dev) (p : Part) =>
    if d.partReady u p then d.partDone u.id p.seq else d) d) d

/-- Closes an upload without a version (R108): its parts and its reservation are released; an `MP_PART` still being programmed finds
it closed (log entry 51). -/
def Dev.closeUpload (d : Dev) (u : Upload) : Dev :=
  let d1 : Dev := { d with idx := { d.idx with uploads := d.idx.uploads.filter (·.id != u.id) } }
  let d2 := (u.parts.filter (fun p => !p.onMedium || p.mirrorWait)).foldl (fun (d : Dev) (p : Part) =>
    let x := ((d.dropProgs (.part u.id p.seq)).dropPartRec p.seq).dropPartEntry u p
    match x.capBySeq p.seq with
    | some c => x.finishFree c (Reply.plain Status.notFound)
    | none => x) d1
  (d2.modNs u.ns (fun s => { s with charged := s.charged - uploadReserve u.declared })).eraseAllDead

/-- Cancels an upload (R108). One with a commit on its way to the medium waits for its outcome, since the upload is open until then (R106):
DESIGN CHOICE, log entry 203. -/
def Dev.mpCancelGo (c : Cap) (d : Dev) : Dev :=
  match d.mirrorGate c.hdr.ns true false, d.uploadOf c with
  | some st, _ => d.finishFree c (Reply.plain st)
  | none, none => d.finishFree c (Reply.plain Status.notFound)
  | none, some u =>
    if d.nsBusy c.hdr.ns c.seq then d.finishFree c (Reply.plain Status.busyMaintenance)
    else if d.que.drift.any (fun v => v.upload == some u.id) then d
    else
      ((d.closeUpload u).replicate {
        kind := 8, ns := u.ns, key := u.key, hash := u.hash, version := c.seq, valueLength := 0, len := 0,
        offset := 0, uploadId := u.id, sent := false, at_ := d.clk.tick }).finishFree c (Reply.plain Status.ok)

def mpCancelEff (seq : Nat) (d : Dev) : Dev :=
  match d.capBySeq seq with
  | none => d
  | some c =>
    if c.hdr.opcode == Op.mpCancel && c.stage == .dispatched then Dev.mpCancelGo c d
    else d.dispatch seq (fun h => h.opcode == Op.mpCancel) Dev.mpCancelGo

/-- MP_CANCEL (R108): its dispatch, and each further attempt of one that waits for a commit. -/
def execMpCancel (seq : Nat) (s : State) : Host.Outcome State Fault Refusal := s.run (mpCancelEff seq)

def mpIdleTimeoutEff (upload : Nat) (d : Dev) : Dev :=
  match d.idx.uploads.find? (·.id == upload) with
  | none => d
  | some u =>
    if d.que.drift.any (fun v => v.upload == some u.id) then d
    else (d.closeUpload u).raise Ev.mpExpired u.ns.toNat (u.id / 2 ^ 32) (u.id % 2 ^ 32) u.parts.length

/-- MP_IDLE_TIMEOUT (R108). -/
def execMpIdleTimeout (upload : Nat) (s : State) : Host.Outcome State Fault Refusal := s.run (mpIdleTimeoutEff upload)

end Sys2Proof.Machine
end

