-- ==== Sys2Proof/Machine/Bays.lean ====
section
/-! DEFINITION. The cartridges as the drive takes them in and loses them (09_cartridges): the wear record read, remaining life,
admission and binding, the journal replay of a stream, quiesce and surprise loss. -/

namespace Sys2Proof.Machine

/-- A bay state's value (R247). -/
def BayState.num : BayState → Nat
  | .empty => 0
  | .authenticating => 1
  | .refused => 2
  | .foreign => 3
  | .authenticated => 4
  | .attaching => 5
  | .inService => 6
  | .evacuating => 7
  | .evacuated => 8
  | .releasing => 9
  | .released => 10
  | .quiesced => 11
  | .missing => 12
  | .failed => 13

/-! ## The wear record (R242 to R244) -/

/-- The twins of a slot agree. -/
def slotTwins (s : WearSlot) : Bool := s.totalTwinOk && s.spareTwinOk && s.storedTwinOk

/-- A slot is valid (R243). -/
def slotOk (s : WearSlot) : Bool := s.crcOk && slotTwins s

/-- The field of a slot's first failing twin pair; 0 where the magic or the CRC failed (R243). -/
def slotFault (s : WearSlot) : Nat :=
  if !s.crcOk then 0 else if !s.totalTwinOk then 1 else if !s.spareTwinOk then 2 else 3

/-- The slot the drive reads: the valid one with the higher record_seq. -/
def slotUsed (c : Cartridge) : Option (Fin 2) :=
  let a := c.slots.get 0
  let b := c.slots.get 1
  if slotOk a && slotOk b then some (if a.recordSeq < b.recordSeq then 1 else 0)
  else if slotOk a then some 0 else if slotOk b then some 1 else none

/-- Life budget in wear units (R244). -/
def lifeBudget (c : Cartridge) : Nat := c.made.ratedUnits * c.made.goodBlocks

/-- Life left in per mille (R244). -/
def Bay.lifeLeft (b : Bay) : Nat :=
  match b.cart with
  | none => 0
  | some c => 1000 - 1000 * b.totalWear / lifeBudget c

/-- Projected days (R244): the budget left over the mean daily increase of the last 30 days. What the cartridge wore before it was bound
counts as none, DESIGN CHOICE, log entry 242. -/
def Bay.projectedDays (b : Bay) : Nat :=
  match b.cart, b.wearDays.getLast? with
  | some c, some w =>
    if b.totalWear ≤ w then 0xFFFFFFFF
    else min 0xFFFFFFFF ((lifeBudget c - b.totalWear) * 30 / (b.totalWear - w))
  | _, _ => 0xFFFFFFFF

/-- The source of a bay's events (R259). -/
def baySrc (b : BayNo) : Nat := 1537 + b.val

/-- Bytes 0 to 3 and 4 to 7 of a serial (R259). -/
def serialHead (s : BitVec 128) : Nat := s.toNat / 2 ^ 96
def serialNext (s : BitVec 128) : Nat := s.toNat / 2 ^ 64 % 2 ^ 32

/-- Raises `EV_CART_LIFE_LOW` when life left first is below a mark (R244): 1 is `cart.life_warn_permille`, 2 is 20. -/
def Dev.lifeMark (d : Dev) (bay : BayNo) (mark threshold : Nat) : Dev :=
  let b := d.bays.get bay
  if b.cart.isSome && decide (b.lifeLeft < threshold) && decide (b.lifeRaised < mark) then
    (d.modBay bay (fun b => { b with lifeRaised := mark })).raise (Ev.cartLifeLow (baySrc bay)) b.lifeLeft b.projectedDays threshold 0
  else d

/-- Both marks of remaining life (R244). -/
def Dev.lifeCheck (d : Dev) (bay : BayNo) : Dev := (d.lifeMark bay 1 (d.pnum P.cartLifeWarnPermille)).lifeMark bay 2 20

/-- The serial of the cartridge in a bay, zero where there is none. -/
def Bay.serial (b : Bay) : BitVec 128 :=
  match b.cart with
  | some c => c.serial
  | none => 0

/-- The digest of the certificate of the cartridge of a bay. -/
def Bay.leaf (b : Bay) : BitVec 256 :=
  match b.cart with
  | some c => c.leaf
  | none => 0

/-! ## The buckets and the records of a cartridge (R158, R249) -/

/-- The live entries of a bucket: its page with its log records applied. -/
def Dev.liveEntries (d : Dev) (b : Bucket) : List Entry := (d.bucketLog b).foldl applyRec b.entries

/-- What a version in Drift changes of a count made of entries and open uploads (R87, R91, R106, R116): one not yet on medium has taken its charge
and its key; the upload of a commit counts until the completion point, and so does a key that is being deleted. -/
def Version.recount (n : Namespace) (v : Version) : Namespace :=
  let bytes := if v.upload.isSome then chunkBytes (v.content.getD []).length else 0
  let new := if v.content.isSome then v.newKey.toNat else 0
  let old := if v.content.isSome then 0 else v.counted.toNat
  if v.onMedium then
    if v.done then n else { n with charged := n.charged - bytes, keys := n.keys + old, held := n.held + old - new }
  else if v.done then
    { n with charged := n.charged + v.charge + bytes - v.refund, keys := n.keys + new - old, held := n.held + new - old }
  else { n with charged := n.charged + v.charge - v.refund, keys := n.keys + new }

/-- The charges and key counts of every namespace, taken anew from the entries, the open uploads and the versions in Drift (R87, R91). -/
def Dev.recount (d : Dev) : Dev :=
  let es (n : BitVec 12) : List Entry := ((d.idx.buckets.filter (·.ns == n)).map d.liveEntries).flatten
  { d with ns := d.ns.map (fun (n : Namespace) =>
      let l := es n.id
      let up := ((d.idx.uploads.filter (·.ns == n.id)).map (fun u => uploadReserve u.declared)).sum
      (d.que.drift.filter (·.ns == n.id)).foldl Version.recount
        { n with charged := (l.map (fun e => if e.lost then 0 else chunkBytes e.len)).sum + up, keys := l.length, held := l.length }) }

/-- The end of what is programmed in a band, from a position downwards: the last position that no outstanding program covers (R235). -/
def Dev.lastGood (d : Dev) (bay : BayNo) (x : Band) : Nat → Nat → Nat
  | 0, e => e
  | fuel + 1, e =>
    if e = 0 then 0
    else
      let l := (d.bays.get bay).posLoc bay.val x.group x.block (e - 1)
      if d.med.progs.any (fun p => p.bay == bay && p.group == x.group && p.block == x.block && p.page == locPage l / x.mode.pages * x.mode.pages &&
          p.die == locDie l % 32) then d.lastGood bay x fuel ((e - 1) / 4 * 4)
      else e

/-- A band as a stop leaves it (R235): it ends at the last programmed position; the wordlines that were being programmed, or whose parity pages
were, have their parity still due. A torn page counts as PAD. -/
def Dev.tornBand (d : Dev) (bay : BayNo) (x : Band) : Band :=
  let mine := d.med.progs.filter (fun p => p.bay == bay && p.group == x.group && p.block == x.block)
  let rows := (d.med.batches.filter (·.toBay == bay)).flatMap (fun b => b.rows.filter (fun r => r.1 == x.group && r.2.1 == x.block))
  let e := if x.stream == .index then x.next else d.lastGood bay x (16 * mine.length + 16) ((rows.map (·.2.2.1)).foldl min x.next)
  let due := (mine.map (·.page)).filter (fun pg => x.stream == .index || decide ((d.bays.get bay).pageStart x.group x.block pg < e))
  { x with next := e, second := [], parityDue := (x.parityDue ++ due).dedup }

/-- The bands of a cartridge as a stop leaves them (R235). -/
def Dev.tear (d : Dev) (bay : BayNo) : Dev := d.modBay bay (fun b => { b with bands := b.bands.map (d.tornBand bay) })

/-- What lies at a location of a metadata band can be neither read nor rebuilt: its die has failed, and another die of the rows as well (R220,
R221). -/
def Dev.dieLost (d : Dev) (loc : Nat) : Bool :=
  let b := d.bays.get (locBay loc)
  b.failedDies.any (fun x => x.1 == locDie loc) &&
    b.failedDies.any (fun x => x.1 != locDie loc && x.1 / 32 == locGroup loc && (b.rowDies (locGroup loc) (locBlock loc)).contains (x.1 % 32))

/-- The part of a cartridge's journal stream that a replay reads (R158 step 4): from the replay start to the first chunk that
was never fully programmed or fails its CRC. -/
def Dev.stream (d : Dev) (bay : BayNo) : List JRec :=
  (d.idx.journal.filter (fun r => r.bay == bay && decide (d.idx.replayStart ≤ r.jseq))).takeWhile (fun r => r.programmed && !d.dieLost r.ref)

/-- A replayed value lies on medium. -/
def Dev.recOnMedium (d : Dev) (r : JRec) : Bool :=
  match r.kind with
  | .value | .relocation => d.med.copies.any (fun c => c.loc == r.loc && c.gen == r.gen && c.programmed && !c.dead)
  | _ => true

/-- Replays one record (R158 step 4): skipped where the page includes it, where its value is not on medium, or where the log holds a
newer version. A record that is no state of a key only counts as committed. -/
def Dev.replayRec (d : Dev) (r : JRec) : Dev :=
  match d.bucketOf r.ns r.hash with
  | none => d.modRec r.jseq (fun x => { x with committed := true })
  | some b =>
    if r.kind.isItem then d.modRec r.jseq (fun x => { x with committed := true })
    else if r.jseq ≤ b.mergedThrough || !d.recOnMedium r || d.idx.log.any (·.jseq == r.jseq) then d
    else (d.modRec r.jseq (fun x => { x with committed := true })).enterLog { r with committed := true }

/-- The open uploads and their parts as the replayed records of their cartridges give them (R104, R158 step 5). `was`: the journal before. -/
def Dev.replayUploads (d : Dev) (bays : List BayNo) (was : List JRec) : Dev :=
  let gone (kind : JKind) (p : JRec → Bool) : Bool := was.any (fun r => r.kind == kind && p r) && !d.idx.journal.any (fun r => r.kind == kind && p r)
  { d with idx := { d.idx with
    uploads := (d.idx.uploads.filter (fun u => !gone .upload (fun r => r.version == u.id))).map (fun (u : Upload) =>
      { u with parts := (u.parts.filter (fun p => !bays.contains p.bay || (if was.any (fun r => r.kind == .part && r.writer == some p.seq)
            then d.idx.journal.any (fun r => r.kind == .part && r.writer == some p.seq) else p.onMedium))).map (fun (p : Part) =>
          if bays.contains p.bay then { p with onMedium := true, moving := [] } else p) }) } }

/-- Replays the streams of some cartridges, in journal-sequence order. The records a replay does not reach are discarded. -/
def Dev.replayBays (d : Dev) (bays : List BayNo) : Nat × Dev :=
  let good := bays.flatMap d.stream
  let l := d.idx.journal.filter (fun r => good.any (·.jseq == r.jseq))
  let d1 := l.foldl Dev.replayRec d
  (l.length, ({ d1 with idx := { d1.idx with journal := d1.idx.journal.filter (fun r =>
    !bays.contains r.bay || decide (r.jseq < d1.idx.replayStart) || l.any (·.jseq == r.jseq)) } } : Dev).replayUploads bays d.idx.journal)

/-- Programs the parity pages of the wordlines of a band that are due after a stop (R235). -/
def Dev.payParity (d : Dev) (bay : BayNo) (x : Band) : Dev :=
  x.parityDue.foldl (fun (d : Dev) (pg : Nat) =>
    if d.programming (.parity x.group x.block pg) then d
    else d.issueProg bay x.stream ((d.bays.get bay).parityDie x.group x.block) 0 x.group x.block pg (.parity x.group x.block pg) 0 [])
    (d.modBay bay (fun b => b.modBand x.group x.block (fun y => { y with parityDue := [] })))

/-- Closes the bands that were open, with the parity of their last rows; what a power failure saved for it is used up (R235). -/
def Dev.closeOpen (d : Dev) (bay : BayNo) : Dev :=
  let d1 := ((d.bays.get bay).bands.filter (·.isOpen)).foldl (fun (d : Dev) (x : Band) => d.closeBand bay x.group x.block) d
  (((d1.bays.get bay).bands.filter (fun x => !x.parityDue.isEmpty)).foldl (fun (d : Dev) (x : Band) => d.payParity bay x) d1).modBay bay
    (fun b => { b with savedRows := [] })

/-- A program passes: it is counted, and what waits for its item alone goes on (R131, R154, R236). -/
def Dev.passProg (d : Dev) (p : Prog) : Dev :=
  let d1 := (Dev.endOp { d with med := { d.med with progs := d.med.progs.filter (·.id != p.id) } } p.id).countProgram p.bay p.stream p.chunks
  if d1.programming p.what then d1
  else match p.what with
    | .journal l => d1.chunkPassed l
    | .partMove u s => d1.partMoved u s true
    | _ => d1

/-- The programs of a cartridge run to their ends (R250 step 5). -/
def Dev.passPrograms (d : Dev) (bay : BayNo) : Dev := (d.med.progs.filter (·.bay == bay)).foldl Dev.passProg d

/-- The copies of a cartridge that no state names after a replay are dead; those never programmed are gone. -/
def Dev.sweepCopies (d : Dev) (bays : List BayNo) : Dev :=
  let mine (c : Copy) : Bool := bays.contains c.bay
  let cs := d.med.copies.filter (fun c => !mine c || c.programmed)
  { d with med := { d.med with copies := cs.map (fun c => if mine c && !d.names c then { c with dead := true } else c) } }

/-! ## Erasing what a sanitise still owes a cartridge (R396) -/

/-- Spare blocks take the band slots of the blocks retired since the last erase (R222). -/
def Bay.takeSpares (b : Bay) (group block : Nat) : Bay :=
  let mine (s : Nat × Nat × Nat) : Bool := s.1 == group && s.2.1 == block
  let new := b.newSlots.filter mine
  { b with
    newSlots := b.newSlots.filter (fun s => !mine s),
    wearBase := new.map (fun s => (s, b.bandUnits group block)) ++ b.wearBase.filter (fun w => !new.contains w.1) }

/-- Takes a band off the cartridge: erased. -/
def Dev.bandErased (d : Dev) (bay : BayNo) (group block : Nat) : Dev :=
  let b := d.bays.get bay
  let mode := match b.band? group block with
    | some x => x.mode
    | none => .slc
  let main := decide (128 ≤ block)
  let units := if mode == .qlc then 10 else 1
  let w := b.bandUnits group block + units
  let d1 := d.modBay bay (fun b => Bay.takeSpares { b with
    bands := b.bands.filter (fun y => !(y.group == group && y.block == block)),
    wear := (group, block, w) :: b.wear.filter (fun y => !(y.1 == group && y.2.1 == block)),
    qlcErases := b.qlcErases + (if main && mode == .qlc then 128 else 0),
    slcErases := b.slcErases + (if main && mode == .slc then 128 else 0) } group block)
  let d2 := d1.bump (.cart bay (if mode == .qlc then .qlcErases else .slcErases)) 1
  let d3 : Dev := { d2 with med := { d2.med with
    copies := d2.med.copies.filter (fun c => !(c.dead && c.bay == bay && c.group == group && c.block == block)) } }
  d3.lifeCheck bay

/-- Erases every band of a list on a cartridge. -/
def Dev.bandsErased (d : Dev) (bay : BayNo) (l : List (Nat × Nat)) : Dev :=
  l.foldl (fun (d : Dev) (x : Nat × Nat) => d.bandErased bay x.1 x.2) d

/-- All bands of a cartridge that are not free. -/
def Bay.allBands (b : Bay) : List (Nat × Nat) := b.bands.map (fun x => (x.group, x.block))

/-- The erasure that completed records still owe a returning cartridge (R396). -/
def Dev.payErasure (d : Dev) (bay : BayNo) : Dev :=
  let owed := d.sec.sanitise.filter (fun r => r.baysPending.getLsbD bay.val)
  owed.foldl (fun (d : Dev) (r : SanRec) =>
    let l := if r.scope == 2 then bandNums
      else (r.bandsLeft.filter (fun x => x.1 == bay)).map (fun x => x.2)
    let d1 := d.bandsErased bay l
    { d1 with sec := { d1.sec with sanitise := d1.sec.sanitise.map (fun (x : SanRec) =>
      if x.id == r.id then { x with baysPending := x.baysPending &&& ~~~ ((1 : BitVec 4) <<< bay.val),
                                    bandsLeft := x.bandsLeft.filter (fun y => y.1 != bay),
                                    bandsDone := x.bandsDone + l.length } else x) } }) d

/-! ## Admission and attachment (R245 to R249) -/

/-- Draws the nonce of a cartridge's challenge (R239). -/
def Dev.challenge (d : Dev) (bay : BayNo) : Dev :=
  let (v, d1) := d.draw
  d1.modBay bay (fun b => { b with nonce := v.setWidth 256 })

/-- A field and its twin; a pair that disagrees as stored differs in its lowest bit (log entry 216). -/
def twinField (bytes v : Nat) (ok : Bool) : Bytes :=
  natToBytesBE bytes v ++ natToBytesBE bytes ((256 ^ bytes - 1 - v % 256 ^ bytes) ^^^ (!ok).toNat)

/-- A wear-record slot but for its CRC (R242). -/
def wearBody (s : WearSlot) (slot : Nat) : Bytes :=
  natToBytesBE 2 0x5752 ++ natToBytesBE 1 1 ++ natToBytesBE 1 slot ++ natToBytesBE 4 s.recordSeq ++
    twinField 8 s.totalWear s.totalTwinOk ++ natToBytesBE 8 s.qlcErases ++ natToBytesBE 8 s.slcErases ++ natToBytesBE 8 s.hostBytes ++
    natToBytesBE 8 s.nandBytes ++ natToBytesBE 4 s.powerOnHours ++ natToBytesBE 4 s.retired ++ twinField 4 s.spare s.spareTwinOk ++
    natToBytesBE 2 s.dieFailures ++ twinField 1 s.stored s.storedTwinOk ++ natToBytesBE 4 s.bindCount ++
    natToBytesBE 16 s.driveSerial.toNat ++ natToBytesBE 1 s.bay ++ zeroBytes 7 ++ natToBytesBE 8 s.journalSeq ++ natToBytesBE 8 s.time ++
    natToBytesBE 4 s.mapCrc

/-- A slot as stored, with its CRC where that is correct (R242, R243). -/
def wearImage (s : WearSlot) (slot : Nat) : Bytes :=
  let b := wearBody s slot
  b ++ natToBytesBE 4 ((crc32c b).toNat ^^^ (!s.crcOk).toNat)

/-- What a cartridge's authenticator signs (R239 check 2): the nonce, the drive serial, the bay number and both slots as stored. -/
def Bay.challenged (b : Bay) (bay : BayNo) (c : Cartridge) : Bytes :=
  ascii "ivc1 chal" ++ natToBytesBE 32 b.nonce.toNat ++ natToBytesBE 16 Config.driveSerial.toNat ++ natToBytesBE 1 bay.val ++
    wearImage (c.slots.get 0) 0 ++ wearImage (c.slots.get 1) 1

/-- What the checks 5 and 6 of R239 decide. -/
inductive Admission
  | own | bind | foreign | refuse (reason : Nat)
  deriving DecidableEq, Repr

/-- Admission by stored state and binding (R243, R245); STALE_IMAGE where the bay's own image is old (R240). -/
def Dev.admission (d : Dev) (bay : BayNo) (f : CartFacts) : Admission :=
  let b := d.bays.get bay
  match slotUsed f.cart with
  | none => if b.bound != some f.cart.serial then .refuse 5 else if f.journalSeq < d.lastJseq bay then .refuse 8 else .own
  | some i =>
    let s := f.cart.slots.get i
    if s.stored == 4 then .refuse 7
    else if s.stored == 1 || s.stored == 3 then .bind
    else if s.driveSerial != Config.driveSerial then .foreign
    else if s.bay != bay.val then .refuse 6
    else if b.bound == some f.cart.serial && s.bindCount == b.bindCount then
      (if f.journalSeq < d.lastJseq bay then .refuse 8 else .own)
    else .foreign

/-- The drive attaches cartridges: it is OWNED and not in Recovery or Sanitise mode (R249); before TAKE_OWNERSHIP nothing is bound
(R389). -/
def Dev.attaches (d : Dev) : Bool :=
  d.sec.lcState == .owned && !d.sanitiseModeHolds && (d.par.run == .running || d.par.run == .starting) &&
    (d.pow.rung == .clear || d.par.run == .starting)

/-- A cartridge's retired blocks and dies as its list names them (R241, R276): the planes whose spares are used, the band slots left empty
and the failed dies, on which a released cartridge holds no data. -/
def Bay.takeRetired (b : Bay) (l : List RetiredRec) : Bay :=
  l.foldl (fun (b : Bay) (e : RetiredRec) =>
    let pl := locPlane e.target
    if e.kind == 3 then { b with failedDies := b.failedDies ++ [(locDie e.target, true)] }
    else { b with
      planeUsed := bumpNat b.planeUsed pl,
      emptySlots := if 24 ≤ (b.planeUsed.lookup pl).getD 0 then (locGroup e.target, locBlock e.target, pl) :: b.emptySlots else b.emptySlots })
    { b with retired := l, failedDies := [], planeUsed := [], emptySlots := [], newSlots := [] }

/-- The wear map in reserved metadata can be read and has the CRC of a slot (R242, R248). -/
def mapGood (f : CartFacts) (s : WearSlot) : Bool :=
  s.wearMapOk && (crc32c (wearMapBytes ⟨f.wear, f.base, f.retired⟩)).toNat == s.mapCrc

/-- Takes a cartridge's figures from its slot, its wear map and its retired-block list (R248 step 9). -/
def Bay.load (b0 : Bay) (f : CartFacts) : Bay :=
  let c := f.cart
  let b := b0.takeRetired f.retired
  match slotUsed c with
  | none => { b with cart := some c, guest := none, spare := c.made.spare, wear := f.wear, wearBase := f.base, mapWear := none }
  | some i =>
    let s := c.slots.get i
    let spread : List (Nat × Nat × Nat) :=
      (List.range 8480).map (fun n => (n / 1060, n % 1060, s.totalWear / max 1 c.made.goodBlocks))
    let bad := s.stored == 3 && !mapGood f s
    { b with
      cart := some c, guest := none, slotRead := i,
      spare := if s.stored == 1 then c.made.spare else s.spare,
      wear := if bad then spread else f.wear,
      wearBase := if bad then [] else f.base,
      mapWear := if s.mapCrc = 0 then none else some ⟨f.wear, f.base, f.retired⟩,
      qlcErases := s.qlcErases, slcErases := s.slcErases, hostBytes := s.hostBytes, nandBytes := s.nandBytes,
      powerOnHours := s.powerOnHours }

/-- A bay's epoch-end record is none any more. -/
def Dev.dropMark (d : Dev) (bay : BayNo) : Dev := { d with idx := { d.idx with marks := d.idx.marks.filter (·.bay != bay) } }

/-- The journal stream of a newly bound cartridge is opened and the current epoch-end record copied to it (R248 step 11). -/
def Dev.copyEnd (d : Dev) (bay : BayNo) : Dev :=
  if d.idx.endEpoch = 0 then d
  else match d.writeOn [bay] .journal (d.idx.endEpoch % 8) 1 true .mark with
    | (l :: _, _, d1) => { d1 with idx := { d1.idx with marks := d1.idx.marks ++ [⟨bay, d.idx.endEpoch, d.idx.replayStart, d.idx.checkpoint, l⟩] } }
    | _ => d

/-- The bindings that the drive records (R243). -/
def Dev.bindingList (d : Dev) : List (BayNo × BitVec 128 × Nat) :=
  (List.finRange 4).filterMap (fun b => (d.bays.get b).bound.map (fun s => (b, s, (d.bays.get b).bindCount)))

/-- The record of the bindings is written to the reserved metadata of every cartridge in service (R243). -/
def Dev.writeBindings (d : Dev) : Dev :=
  let l := d.bindingList
  d.serviceBays.foldl (fun (d : Dev) (b : BayNo) => d.modBay b (fun y => { y with bindings := l })) (d.writeReserved d.serviceBays 1)

/-- Binds a cartridge (R248 steps 9 to 12): its bind_count rises, a BOUND slot is written, the bay is IN_SERVICE. -/
def Dev.bindBay (d : Dev) (bay : BayNo) : Dev :=
  let d0 := match (d.bays.get bay).guest with
    | some f => d.modBay bay (fun b => b.load f)
    | none => d
  let d1 := d0.modBay bay (fun b => { b with
    state := .inService, bindCount := b.bindCount + 1, bound := b.cart.map (·.serial), bands := [], failCause := 0,
    failRuns := [], rebuilds := [], spareWarned := 0, lifeRaised := 0, wearDays := [b.totalWear], movedBuckets := 0, movedBytes := 0,
    reason := 0, held := true, railsOn := true, resume := .inService, quiesceSince := none, cutFailed := 0, cutLost := 0, pollFails := 0 })
  let d2 := (((d1.writeSlot bay 2).dropMark bay).copyEnd bay).writeBindings
  let b := d2.bays.get bay
  ((d2.raise (Ev.cartAttached (baySrc bay)) 1 b.lifeLeft b.spare 0).lifeCheck bay).refreshMode 2

/-- Reattaches the bay's own cartridge (R249). `replay`: its stream is replayed and merged with the log; the time is a free value
(log entry 2). -/
def Dev.reattach (d : Dev) (bay : BayNo) (replay : Bool) : Dev :=
  let d0 := d.modBay bay (fun b => { b with
    cart := (match b.guest with
      | some f => some f.cart
      | none => b.cart),
    slotRead := (match b.guest with
      | some f => (slotUsed f.cart).getD b.slotRead
      | none => b.slotRead),
    guest := none, state := b.resume, failCause := 0, reason := 0, held := true, railsOn := true, quiesceSince := none, cutFailed := 0, cutLost := 0, pollFails := 0 })
  let d1 := d0.payErasure bay
  let (t, d2) := if replay then
      (let (v, x) := (((d1.closeOpen bay).replayBays [bay]).2.sweepCopies [bay]).recount.draw
       (v.toNat % 3001, x))
    else (0, d1)
  let b := d2.bays.get bay
  ((((d2.writeBindings).raise (Ev.cartAttached (baySrc bay)) 2 b.lifeLeft b.spare t).lifeCheck bay).refreshMode 2).mediaAdvance

/-! ## Loss of a cartridge (R250, R251) -/

/-- An `MP_PART` whose programs cannot pass fails with a status. -/
def Dev.failPart (d : Dev) (u : Upload) (p : Part) (st : BitVec 16) : Dev :=
  let d1 := (((d.dropProgs (.part u.id p.seq)).dropPartRec p.seq).modUpload u.id (fun x =>
    { x with parts := x.parts.filter (·.seq != p.seq) })).dropPartEntry u p
  match d1.capBySeq p.seq with
  | some c => d1.finishFree c (Reply.plain st)
  | none => d1

/-- Abandons batches whose records are not committed (R213 stage 5): their sources remain authoritative. -/
def Dev.abandonBatches (d : Dev) (p : Batch → Bool) : Dev :=
  (d.med.batches.filter p).foldl (fun (d : Dev) (b : Batch) => d.dropBatch b) d

/-- What a cartridge is having programmed. -/
def Dev.itemsOn (d : Dev) (bay : BayNo) : List ProgWhat :=
  ((d.med.progs.filter (·.bay == bay)).map (·.what) ++ (d.bays.get bay).bands.flatMap (fun x => x.second.map (·.2))).dedup

/-- What the index and the parts of uploads were having programmed is not on medium (R251). -/
def Dev.cutItems (d : Dev) (l : List ProgWhat) : Dev :=
  l.foldl (fun (d : Dev) (w : ProgWhat) =>
    match w with
    | .page l => d.cancelPage l
    | .mark l => d.cancelMark l
    | .partMove u s => d.partMoved u s false
    | _ => d) d

/-- The die operations of a cartridge end. -/
def Dev.stopDies (d : Dev) (bay : BayNo) : Dev :=
  let m : Media := { d.med with
    progs := d.med.progs.filter (·.bay != bay), reads := d.med.reads.filter (fun r => locBay r.loc != bay),
    keyReads := d.med.keyReads.filter (fun k => locBay k.loc != bay),
    erases := d.med.erases.filter (·.bay != bay), running := d.med.running.filter (·.bay != bay),
    suspended := d.med.suspended.filter (·.bay != bay), waiting := d.med.waiting.filter (·.bay != bay) }
  ({ d with med := m } : Dev).modBay bay (fun b => { b with
    bands := b.bands.map (fun (x : Band) => { x with erasing := false }) })

/-- A version's cartridge. -/
def Dev.verBay (d : Dev) (v : Version) : BayNo := d.homeOf v.ns v.hash

/-- A writer that is on the cartridge's medium but not at its completion point fails with `UNAVAILABLE` (R126, R251): what it left
there stays, as at a power loss (R136). -/
def Dev.cutVer (d : Dev) (v : Version) : Dev :=
  let d1 := ((d.failReaders v.seq Status.unavailable).modVer v.seq (fun x => { x with mirrorWait := false, secure := false })).endWait v false
  (match d1.capBySeq v.seq with
    | some c => d1.finishFree c (Reply.plain Status.unavailable)
    | none => d1).releaseKey v.ns v.hash

/-- A `DELETE` with SECURE of an absent key that removes old copies on the cartridge is answered; the removal is finished later
(R228). -/
def Dev.cutAbsent (d : Dev) (j : SecureJob) : Dev :=
  match d.ver? j.seq, d.capBySeq j.seq with
  | none, some c => d.finishFree c (Reply.plain Status.unavailable)
  | _, _ => d

/-- The work in flight on a cartridge ends with the outcomes of R251; answers how many writers failed and how many were lost. The bay's
state is the new one already. -/
def Dev.loseWork (d : Dev) (bay : BayNo) : Nat × Nat × Dev :=
  let vs := d.que.drift.filter (fun v => !v.onMedium && d.verBay v == bay)
  let cut := d.que.drift.filter (fun v => v.onMedium && !v.done && d.verBay v == bay)
  let lost := (vs.filter (·.early)).length
  let mine (j : SecureJob) : Bool := j.bay == bay || j.bands.any (fun b => b.1 == bay)
  let d0 := (d.med.secures.filter mine).foldl (fun (d : Dev) (j : SecureJob) => d.cutAbsent j)
    (cut.foldl (fun (d : Dev) (v : Version) => d.cutVer v) (d.tear bay))
  let d1 := vs.foldl (fun (d : Dev) (v : Version) => d.endVer v.seq Status.unavailable 4) d0
  let pinned := d1.que.caps.filter (fun c => match c.captured with
    | some (.value _ loc _ _) => locBay loc == bay || d1.med.keyReads.any (fun k => k.seq == c.seq && locBay k.loc == bay)
    | _ => false)
  let d2 := pinned.foldl (fun (d : Dev) (c : Cap) => d.orPartner c (match c.captured with
    | some (.value v _ _ _) => some v
    | _ => none) Status.unavailable) d1
  let parts := d2.idx.uploads.flatMap (fun u => (u.parts.filter (fun p => p.bay == bay && !p.onMedium)).map (fun p => (u, p)))
  let d3 := parts.foldl (fun (d : Dev) (x : Upload × Part) => d.failPart x.1 x.2 Status.unavailable) d2
  let d3 : Dev := { d3 with med := { d3.med with secures := d3.med.secures.map (fun (j : SecureJob) =>
    if mine j && j.accepted then { j with restarted := true } else j) } }
  let d4 := ((d3.abandonBatches (fun b => b.fromBay == bay || b.toBay == bay)).cutItems (d.itemsOn bay)).stopDies bay
  let waiting := d4.idx.buckets.filter (fun b => b.reading && b.home == bay)
  let d5 := waiting.foldl (fun (d : Dev) (b : Bucket) =>
    (d.modBucket b.ns b.lo (fun x => { x with reading := false })).capturePage b.ns b.lo b.hi) d4
  (vs.length + cut.length - lost, lost, d5)

/-- The capsule that waits for a RELEASE or a RECLAIM of the bay answers `UNAVAILABLE` (R253, R255). -/
def Dev.failBayOp (d : Dev) (bay : BayNo) : Dev :=
  match (d.bays.get bay).opWaiting with
  | none => d
  | some s =>
    let d1 := d.modBay bay (fun b => { b with opWaiting := none })
    match d1.capBySeq s with
    | some c => d1.finishFree c (Reply.plain Status.unavailable)
    | none => d1

/-- The cartridge served its bay until now. -/
def BayState.serving (s : BayState) : Bool :=
  match s with
  | .inService | .evacuating | .evacuated | .releasing | .attaching => true
  | _ => false

/-- A surprise loss (R251): MISSING where presence has dropped, else FAILED. `cause` and `channel` are those of `EV_CART_FAILED`. -/
def Dev.surprise (d : Dev) (bay : BayNo) (present : Bool) (cause channel : Nat) : Dev :=
  let d1 := d.modBay bay (fun b => { b with
    state := if present then .failed else .missing, failCause := if present then cause else 0, present := present, held := false, railsOn := false, resume := .inService,
    quiesceSince := none })
  let (f, l, d2) := d1.loseWork bay
  let d3 := d2.failBayOp bay
  let d4 := if present then d3.raise (Ev.cartFailed (baySrc bay)) cause channel f l
    else d3.raise (Ev.cartRemoved (baySrc bay)) 2 f l 0
  d4.refreshMode 2

/-- A cartridge being reclaimed leaves its bay: the bay is MISSING (R253) under its serial, until it is forgotten, DESIGN CHOICE, log entry
112. -/
def Bay.reclaimCut (b : Bay) : Bay :=
  match b.reclaiming, b.guest with
  | some s, some f => { b with bound := some s, cart := some f.cart, reclaiming := none }
  | _, _ => { b with reclaiming := none }

/-- A bay that nothing serves from loses its cartridge. -/
def Bay.emptied (b0 : Bay) : Bay :=
  let b := b0.reclaimCut
  { b with
    state := if b.bound.isSome then .missing else .empty, present := false, held := false, railsOn := false, guest := none,
    guestState := .empty, reason := 0, cart := if b.bound.isSome then b.cart else none }

/-- A cartridge that served is lost, with its guest and an op that waited. -/
def Dev.loseCart (d : Dev) (bay : BayNo) (present : Bool) (cause channel : Nat) : Dev :=
  (d.surprise bay present cause channel).modBay bay (fun b =>
    { b.reclaimCut with pollFails := 0, guest := none, guestState := .empty })

/-- The writers of a cartridge not yet at their completion points. -/
def Dev.openWriters (d : Dev) (bay : BayNo) : Nat :=
  (d.que.drift.filter (fun v => !(v.onMedium && v.done) && d.verBay v == bay)).length

/-- Work that a quiesce still waits for (R250 steps 2 and 3), and the batches that have reached stage 5, which step 4 does not abandon. -/
def Dev.quiesceBusy (d : Dev) (bay : BayNo) : Bool :=
  d.openWriters bay != 0 || d.med.batches.any (fun b => (b.fromBay == bay || b.toBay == bay) && b.stage == .committing) || d.med.secures.any (fun j => (j.bay == bay || j.bands.any (fun b => b.1 == bay)) && (d.capBySeq j.seq).isSome) ||
    d.que.caps.any (fun c => match c.captured with
      | some (.value _ loc _ _) => locBay loc == bay
      | _ => false) ||
    d.idx.uploads.any (fun u => u.parts.any (fun p => p.bay == bay && !p.onMedium))

/-- Steps 4 to 6 of a quiesce (R250): batches abandoned, rows and bands closed with their parity, a slot written, rails off. The programs that
are under way, and those of the parity pages, run to their ends within the steps (log entry 237). -/
def Dev.quiesceSteps (d : Dev) (bay : BayNo) : Dev :=
  let d1 := ((d.abandonBatches (fun b => b.fromBay == bay || b.toBay == bay)).passPrograms bay).closeOpen bay
  (((d1.passPrograms bay).stopDies bay).writeSlot bay 2).modBay bay (fun b => { b with railsOn := false })

/-- The quiesce ends: the bay is QUIESCED (R250). A cartridge that was EVACUATED is EVACUATED again when its latch closes; one that was
EVACUATING is IN_SERVICE again, its evacuation dropped, DESIGN CHOICE, log entry 243. -/
def Dev.quiesceEnd (d : Dev) (bay : BayNo) : Dev :=
  let b := d.bays.get bay
  let since := b.quiesceSince.getD d.clk.tick
  let d1 := (d.quiesceSteps bay).modBay bay (fun b => { b with
    state := .quiesced, resume := if b.state == .evacuated then .evacuated else .inService, quiesceSince := none })
  (d1.raise (Ev.cartQuiesced (baySrc bay)) ((d.clk.tick - since) / 1000) (b.quiesceWriters - d.openWriters bay) 0 0).refreshMode 4

end Sys2Proof.Machine
end

