-- ==== Sys2Proof/Machine/Start.lean ====
section
/-! DEFINITION. Starts and resets (16_modes_reset_config, R327 to R334): the Barograph flush, the settings image, the active-set
record and the choice of the firmware set, the journal replay, the wipes of R390, the life-cycle transitions, Recovery, the
power-fail sequence, and what waits for a drain (R435). -/

namespace Sys2Proof.Machine

/-! ## Barograph flush (R361, R362) -/

/-- The bays whose cartridges hold the persistent ring: the two lowest-numbered in service (R362). -/
def Dev.flushBays (d : Dev) : List BayNo := ((List.finRange 4).filter d.inService).take 2

/-- Flushes the Barograph ring to the reserved stream, 128 records a chunk (R210, R362); `trigger` is the row of R361. With no cartridge in
service the flush is deferred. -/
def Dev.baroFlush (d : Dev) (trigger : Nat) : Dev :=
  let bays := d.flushBays
  if bays.isEmpty then d
  else
    let d0 := if d.ev.dropped == 0 then d
      else ({ d with ev := { d.ev with dropped := 0, droppedLow := none } }).raise Ev.baroDrop d.ev.dropped
        (d.ev.droppedLow.getD 0 % 2 ^ 32) 0 0
    let new := (d0.ev.ring.filter (fun x => !x.flushed)).map (·.r)
    match new.getLast? with
    | none => d0
    | some first =>
      let pr := bays.foldl (fun (p : Vector (List Rec) 4) (b : BayNo) => p.set b ((new ++ p.get b).take 16777216)) d0.ev.pring
      let d1 : Dev := { d0 with ev := { d0.ev with pring := pr, ring := d0.ev.ring.map (fun x => { x with flushed := true }) } }
      (d1.writeReserved bays (ceilDiv new.length 128)).raise Ev.baroFlush new.length trigger (first.ext % 2 ^ 32) 0

/-! ## The active-set record (R415 to R420) -/

/-- A copy of the record is valid (R415). -/
def ActiveRec.ok (r : ActiveRec) : Bool :=
  r.magicOk && r.crcOk && twinOk r.slot r.slotTwin && twinOk r.trial r.trialTwin && twinOk r.floor r.floorTwin

/-- The copy in use: the valid one with the higher seq. -/
def Update.recUse (u : Update) : Option (Fin 2) :=
  let a := u.recs.get 0
  let b := u.recs.get 1
  if a.ok && b.ok then some (if a.seq < b.seq then 1 else 0)
  else if a.ok then some 0 else if b.ok then some 1 else none

/-- The record in use. -/
def Update.active (u : Update) : Option ActiveRec := u.recUse.map (fun i => u.recs.get i)

/-- Writes the record: the copy not in use, with the next seq and fresh twins (R415). -/
def Update.writeActive (u : Update) (r : ActiveRec) : Update :=
  let i : Fin 2 := match u.recUse with
    | some j => if j = 0 then 1 else 0
    | none => 0
  let q := max (u.recs.get 0).seq (u.recs.get 1).seq + 1
  { u with recs := u.recs.set i { r with
    magicOk := true, crcOk := true, seq := q, slotTwin := ~~~ r.slot, trialTwin := ~~~ r.trial, floorTwin := ~~~ r.floor } }

/-- A set is in trial. -/
def Update.inTrial (u : Update) : Bool :=
  match u.active with
  | some r => r.trial == 1
  | none => false

/-- Slot A or B by number. -/
def slotIx (n : Nat) : Fin 2 := if n % 2 = 0 then 0 else 1

/-- The slot of the active set, and the other one. -/
def Update.activeSlot (u : Update) : Fin 2 :=
  match u.active with
  | some r => slotIx r.slot.toNat
  | none => 0
def Update.otherSlot (u : Update) : Fin 2 := if u.activeSlot = 0 then 1 else 0

/-- Fields of a package's header region (R401). -/
def pkgRelease (b : Bytes) : Nat := b.field 0x2C 4
def pkgSecver (b : Bytes) : Nat := b.field 0x28 4
def pkgChunks (b : Bytes) : Nat := b.field 0x3C 4
def pkgLength (b : Bytes) : Nat := b.field 8 8
def pkgSigned (b : Bytes) : Nat := b.field 4 4

/-- The header digest: the first 16 bytes of the SHA-256 of the signed bytes (R409). -/
def pkgDigest (b : Bytes) : BitVec 128 := (Config.sha256 (b.take (pkgSigned b))).extractLsb' 128 128

/-- A slot holds an intact package (R403). -/
def Update.slotOk (u : Update) (i : Fin 2) : Bool :=
  match u.slots.get i with
  | some s => s.intact
  | none => false

/-- The package of a slot, empty where there is none. -/
def Update.pkg (u : Update) (i : Fin 2) : Bytes :=
  match u.slots.get i with
  | some s => s.package
  | none => []

/-- The release of a slot's set; 0 for an empty slot. -/
def Update.release (u : Update) (i : Fin 2) : Nat := if (u.slots.get i).isSome then pkgRelease (u.pkg i) else 0

/-- The lowest security_version that may be activated (R415). -/
def Update.floor (u : Update) : Nat :=
  match u.active with
  | some r => r.floor.toNat
  | none => 0

/-- The package an entry of log 0x06 is about: the staged one, else the active set's (R426). -/
def Update.subject (u : Update) : Bytes :=
  match u.staging with
  | some s => s.header
  | none => u.pkg u.activeSlot

/-- Numbers of the body chunks present. -/
def Update.present (u : Update) : List Nat :=
  match u.staging with
  | some s => s.chunks.map (·.1)
  | none => []

/-- An entry of log 0x06 as things stand (R426). -/
def Dev.updEntry (d : Dev) (outcome : Nat) : UpdEntry :=
  let u := d.upd
  let p := u.subject
  { seq := u.nextEntry, state := u.state, outcome := outcome,
    kind := (match u.source with
      | some s => s.kind
      | none => 0),
    cred := (match u.source with
      | some s => if s.kind == 1 then s.who else 0
      | none => 0),
    release := pkgRelease p, secver := pkgSecver p, chunkCount := pkgChunks p, chunksPresent := u.present.length,
    digest := pkgDigest p, start := u.started, finish := if outcome == 0 then 0 else d.clk.ns, bitmap := u.present,
    previous := (match u.active with
      | some r => r.previous
      | none => 0),
    floor := u.floor,
    deadline := (match u.active with
      | some r => if r.trial == 1 then r.deadline else 0
      | none => 0) }

/-- An update ends: a history entry, the lease and the staging go, the state is IDLE (R408, R418 to R420, R426). -/
def Dev.endUpdate (d : Dev) (outcome : Nat) : Dev :=
  let e := d.updEntry outcome
  let h := d.upd.history ++ [e]
  ({ d with upd := { d.upd with
    history := h.drop (h.length - 64), nextEntry := e.seq + 1, state := 0, staging := none, lease := none, contributors := [],
    source := none, started := 0 } } : Dev).keepRecord 128

/-- Reversion (R419): the record names the other slot, CONFIRMED, with the old settings half; the floor is unchanged. The reset
follows after the drain (R435). -/
def Dev.revert (d : Dev) (cause : Nat) : Dev :=
  match d.upd.active with
  | none => d
  | some r =>
    let other := d.upd.otherSlot
    let restored := d.upd.release other
    let d1 := { d with upd := d.upd.writeActive { r with
      slot := BitVec.ofNat 8 other.val, trial := 0, boots := 0, half := 1 - r.half % 2, deadline := 0, release := restored,
      previous := r.release, digest := pkgDigest (d.upd.pkg other) } }
    (d1.endUpdate (cause + 1)).raise Ev.updReverted r.release cause restored 0

/-! ## Settings (R416, R444) -/

/-- The settings half named by the active-set record. -/
def Dev.half (d : Dev) : Nat :=
  match d.upd.active with
  | some r => r.half % 2
  | none => 0

/-- The two copies of a half, and which was read last. -/
def Conf.copies (c : Conf) (h : Nat) : Vector SettingsCopy 2 := if h = 0 then c.halfA else c.halfB
def Conf.readIx (c : Conf) (h : Nat) : Fin 2 := if h = 0 then c.readA else c.readB

/-- The copy in use of a half: the valid one with the higher generation (R444). -/
def copyUse (v : Vector SettingsCopy 2) : Option (Fin 2) :=
  let a := v.get 0
  let b := v.get 1
  if a.valid && b.valid then some (if a.gen < b.gen then 1 else 0)
  else if a.valid then some 0 else if b.valid then some 1 else none

/-- Writes an image into a half: the copy that was not read last (R444). -/
def Conf.writeHalf (c : Conf) (h gen : Nat) (es : List (Nat × Bytes)) : Conf :=
  let i : Fin 2 := if c.readIx h = 0 then 1 else 0
  let v := (c.copies h).set i { gen := gen, entries := es, valid := true }
  if h = 0 then { c with halfA := v } else { c with halfB := v }

/-- The committed value of every parameter: those in force, and those committed and not yet applied (R443). -/
def Conf.image (c : Conf) : List (Nat × Bytes) :=
  c.committed.foldl (fun (l : List (Nat × Bytes)) (e : Nat × Bytes × Nat) => setEntry l e.1 e.2.1) c.values

/-- Writes the settings image with the next generation; during a trial into both halves (R416, R444). -/
def Dev.writeSettings (d : Dev) : Dev :=
  let g := d.par.gen + 1
  let es := d.par.image
  let c1 := d.par.writeHalf d.half g es
  let c2 := if d.upd.inTrial then c1.writeHalf (1 - d.half) g es else c1
  { d with par := { c2 with gen := g } }

/-- A stored entry is taken: a known ID and a value in range. -/
def entryOk (e : Nat × Bytes) : Bool :=
  match paramRow e.1 with
  | some r => r.kind.ok e.2
  | none => false

/-- Reads the settings image (R444): every committed value is in force from here on (R443). -/
def Dev.loadSettings (d : Dev) : Dev :=
  let h := d.half
  match copyUse (d.par.copies h) with
  | none =>
    ({ d with par := { d.par with values := [], committed := [], staged := [] } }).raise Ev.settingsInvalid h
      (d.par.readIx h).val 1 0
  | some i =>
    let c := (d.par.copies h).get i
    let bad := c.entries.filter (fun e => (paramRow e.1).isSome && !entryOk e)
    let p := if h = 0 then { d.par with readA := i } else { d.par with readB := i }
    let d1 : Dev := { d with par := { p with values := c.entries.filter entryOk, committed := [], staged := [], gen := c.gen } }
    let d2 := bad.foldl (fun (d : Dev) (e : Nat × Bytes) => d.raise Ev.settingsInvalid h i.val 3 e.1) d1
    d.par.committed.foldl (fun (d : Dev) (e : Nat × Bytes × Nat) => d.raise Ev.paramChange e.1 2 3 e.2.2) d2

/-- The settings return to their defaults, except those by which the drive is reached for management (R389). -/
def Dev.defaultSettings (d : Dev) : Dev :=
  let keep := [P.mgmtAddrMode, P.mgmtIpv4, P.mgmtIpv6, P.mgmtHttpsPort, P.mgmtSmbusAddr]
  ({ d with par := { d.par with values := d.par.image.filter (fun e => keep.contains e.1), committed := [], staged := [] } }
    ).writeSettings

/-! ## Measurements (R382) -/

/-- The bytes of the active-set record before its crc (R415). -/
def ActiveRec.body (r : ActiveRec) : Bytes :=
  [0x41, 0x53, r.slot, r.slotTwin] ++ natToBytesBE 4 r.seq ++ [r.trial, r.trialTwin] ++ natToBytesBE 1 r.boots ++
    natToBytesBE 1 r.maxBoots ++ natToBytesBE 4 r.floor.toNat ++ natToBytesBE 4 r.floorTwin.toNat ++ natToBytesBE 1 r.half ++ zeroBytes 3 ++
    natToBytesBE 8 r.deadline ++ natToBytesBE 4 r.release ++ natToBytesBE 4 r.previous ++ natToBytesBE 16 r.digest.toNat ++ zeroBytes 4

/-- The measured content of parts 7 to 10: the active-set record and the security version, the life-cycle record's state and its twin, the
authority set, the bays with the serial and the certificate of their cartridges. -/
def Dev.measured (d : Dev) (i : Nat) : Bytes :=
  if i == 8 then [d.sec.lcByte, ~~~ d.sec.lcByte]
  else if i == 9 then d.sec.authorities
  else if i == 10 then (List.finRange 4).flatMap (fun b =>
    natToBytesBE 1 ((d.bays.get b).state.num) ++ natToBytesBE 16 (d.bays.get b).serial.toNat ++ natToBytesBE 32 (d.bays.get b).leaf.toNat)
  else if i == 7 then (match d.upd.active with
    | some r => r.body ++ natToBytesBE 4 (crc32c r.body).toNat
    | none => []) ++ natToBytesBE 4 (pkgSecver (d.upd.pkg d.upd.activeSlot))
  else []

/-- The digest of part `i` (R382). -/
def Dev.digest (d : Dev) (i : Nat) : BitVec 256 :=
  if 7 ≤ i then Config.sha256 (d.measured i) else Config.measurement i (d.upd.pkg d.upd.activeSlot)

/-- Measures the ten parts again; a change of 8, 9 or 10 raises `EV_MEASURE_CHANGE` (R382). -/
def Dev.remeasure (d : Dev) : Dev :=
  [1, 2, 3, 4, 5, 6, 7, 8, 9, 10].foldl (fun (d : Dev) (i : Nat) =>
    let g := d.digest i
    let d1 : Dev := { d with sec := { d.sec with lastMeasured := (i, g) :: d.sec.lastMeasured.filter (fun e => e.1 != i) } }
    match d.sec.lastMeasured.lookup i with
    | some o => if o == g then d else if i < 8 then d1 else d1.raise Ev.measureChange i (g.toNat / 2 ^ 224) 0 0
    | none => d1) d

/-! ## Wipes (R390) -/

/-- The digest of a part as it was measured last. -/
def Dev.measurement (d : Dev) (i : Nat) : BitVec 256 := (d.sec.lastMeasured.lookup i).getD (d.digest i)

/-- The wipes of any life-cycle change (R390). -/
def Dev.wipeLc (d : Dev) : Dev :=
  { d with
    ring := { epoch := 0, points := [] }, pol := { tenants := [], bindings := [], gen := 0 },
    ev := { d.ev with levels := [] }, mir := Mirror.reset,
    sec := { d.sec with creds := d.sec.creds.filter (·.operator) } }

/-- The credentials without their staged keys; one that was never active is gone with its staged key (R379). -/
def unstage (l : List Cred) : List Cred := (l.filter (fun c => c.active.isSome)).map (fun c => { c with staged := none, stagedAt := 0 })

/-- Gale after a CLEAR of every block and the load of the policy (R174, R194). -/
def Dev.galeStart (d : Dev) : Gale :=
  d.pol.bindings.foldl (fun (g : Gale) (b : Binding) => g.insert .policy (bindingWord b.tenant b.ns))
    { Gale.reset with
      rows := d.gale.clear.rows, masks := d.gale.masks, failed := d.gale.failed, stepSince := d.clk.tick, lapStart := d.clk.tick, hottest := d.gale.hottest,
      hottestTemp := d.gale.hottestTemp, step := d.gale.step, tempStep := d.gale.tempStep }

/-- The values whose programs had all passed at the stop lie on the medium, whether their records were committed or not (R158); a part that had
not been programmed whole is gone with its record. The bands are as the stop left them (R235). -/
def Dev.settlePrograms (d : Dev) : Dev :=
  let d1 := d.que.drift.foldl (fun (d : Dev) (v : Version) =>
    if v.onMedium || d.programming (.value v.seq) then d
    else d.modCopy v.loc v.gen (fun c => { c with programmed := true })) ((List.finRange 4).foldl Dev.tear d)
  let d2 := d.idx.uploads.foldl (fun (d : Dev) (u : Upload) => u.parts.foldl (fun (d : Dev) (p : Part) =>
    if d.programming (.part u.id p.seq) then (d.dropPartRec p.seq).modUpload u.id (fun x => { x with parts := x.parts.filter (·.seq != p.seq) })
    else d) d) d1
  d2.cutItems ((List.finRange 4).flatMap d.itemsOn)

/-- What every reset clears (R390): the volatile state of the data path. Persistent records, the media, the policy, the keys, the
event stores outside SRAM and the firmware stay. -/
def Dev.wipe (d : Dev) : Dev :=
  let (k, d0) := d.settlePrograms.draw
  let link (l : LinkState) : LinkState := { l with up := false }
  let rst : Dev := { d0 with
    ctr := [],
    ev := { d0.ev with ring := [], dropped := 0, droppedLow := none, below := [], nextExt := d0.ev.reservedEnd, histSince := d0.clk.ns },
    net := { Net.reset with links := d0.net.links.map link },
    que := { Queue.reset with
      nextSeq := d0.que.reservedEnd, reservedEnd := d0.que.reservedEnd, deferred := d0.que.deferred,
      nextRecord := d0.que.nextRecord, unread := d0.que.unread, bootUnread := d0.que.unread },
    clk := { d0.clk with holds := [], startedAt := d0.clk.tick, windows := [] },
    med := { Media.reset with
      copies := d0.med.copies, secures := d0.med.secures.map (fun (j : SecureJob) => { j with restarted := true }),
      nextOp := d0.med.nextOp },
    mem := { Memory.reset with
      retired := d0.mem.retired, remapFull := false, dewLapStart := d0.clk.tick, dewLastLap := d0.mem.dewLastLap },
    par := { d0.par with
      selfTest := none, shutdownSince := none, closing := false, pendingReset := none, staged := [] },
    sec := { d0.sec with
      creds := unstage d0.sec.creds, tokenKey := k.setWidth 256, run := if d0.sec.intent == 0 then none else d0.sec.run },
    pow := { d0.pow with
      rung := .clear, armed := 0, holdUntil := none, failing := none, stopped := false, coolSince := none,
      bank := { d0.pow.bank with testRunning := false, testWaiters := [], retryPending := false } },
    bays := d0.bays.map (fun (b : Bay) => { b with
      bands := b.bands.map (fun (x : Band) => { x with erasing := false, victim := false, levels := x.levelsSaved }), opWaiting := none, slcWaiting := 0 }) }
  { rst with gale := rst.galeStart }

/-! ## The index at a start (R158) -/

/-- A multi-unit `PATCH` cut by the stop: recovery may find an ascending prefix of its units applied (R100); how many is a free
value (log entry 2). -/
def Dev.partialPatch (d : Dev) (v : Version) (o n : Nat) : Dev :=
  match d.lookFull v.ns v.hash with
  | .present _ loc gen _ _ =>
    match d.copyAt loc gen with
    | none => d
    | some c =>
      let (x, d1) := d.draw
      let k := x.toNat % v.units
      if k = 0 then d1
      else
        let cut := (o / 1048576 + k) * 1048576
        let bytes := (patchBytes c.bytes o ((v.content.getD []).drop o |>.take n)).take (min cut c.bytes.length) ++ c.bytes.drop cut
        let cp : Copy := { c with bytes := bytes, version := v.seq, gen := nextGen c.gen, heads := [⟨chunkCount bytes.length, v.seq, nextGen c.gen, bytes.length⟩], written := d.clk.tick }
        let d2 := ({ d1 with med := { d1.med with copies := d1.med.copies ++ [cp] } } : Dev).killCopy c.loc c.gen
        (d2.commitNew (mkRec .value v.ns v.hash v.key v.seq cp.loc cp.gen bytes.length c.bay none)).raise Ev.patchPartial
          v.ns.toNat (v.seq % 2 ^ 32) k v.units
  | _ => d

/-- The newest epoch-end record that can be read on a cartridge in service (R158 step 1). -/
def Dev.endInForce (d : Dev) : Option EndMark :=
  (d.idx.marks.filter (fun m => d.inService m.bay && !d.dieLost m.loc)).foldl (fun (a : Option EndMark) (m : EndMark) =>
    match a with
    | none => some m
    | some x => if x.epoch < m.epoch then some m else some x) none

/-- The index with that record's figures in force. -/
def Dev.findEnd (d : Dev) : Dev :=
  match d.endInForce with
  | none => d
  | some m => { d with idx := { d.idx with endEpoch := m.epoch, replayStart := m.replayStart, checkpoint := m.checkpoint } }

/-- The record completes a checkpoint and no journal record is later (R157). -/
def Index.cleanEnd (i : Index) : Bool := i.checkpoint && !i.journal.any (fun r => decide (i.endEpoch < r.epoch))

/-- The secure deletions whose deletion records the replay has found are accepted; the lists of the others are void (R225, R228). -/
def Dev.replaySecures (d : Dev) : Dev :=
  { d with med := { d.med with secures := d.med.secures.filterMap (fun (j : SecureJob) =>
    if j.accepted then some j
    else if d.idx.journal.any (fun r => r.kind == .deletion && r.ns == j.ns && r.hash == j.hash && r.version == j.seq && r.committed) then
      some { j with accepted := true }
    else none) } }

/-- Rebuilds the index from the newest durable epoch-end record and the journal streams of the cartridges in service (R158). `cuts`: the
multi-unit patches cut by the stop, with their range. -/
def Dev.recoverIndex (d0 : Dev) (cuts : List (Version × Nat × Nat)) : Nat × Dev :=
  let d := d0.findEnd
  let bays := (List.finRange 4).filter d.inService
  let dirty (b : Bucket) : Bool := d.idx.buckets.any (fun x => x.dirty && x.ns == b.ns && decide (x.lo ≤ b.hi) && decide (b.lo ≤ x.hi))
  let clean := d.idx.cleanEnd
  let bs := d.idx.durable.map (fun (b : Bucket) => { b with
    cached := false, reading := false, readId := 0, wanted := [], prefetched := false, fpValid := clean, twinOnce := none, dirty := dirty b })
  let d1 : Dev := { d with idx := { d.idx with
    buckets := bs, log := [], staging := [], tail := none, head := d.idx.head + 1, pressure := false, recovered := true } }
  let (n, d2) := d1.replayBays bays
  let d3 := cuts.foldl (fun (d : Dev) (c : Version × Nat × Nat) => d.partialPatch c.1 c.2.1 c.2.2) d2.replaySecures
  let (t, d4) := ((d3.sweepCopies bays).recount).draw
  (n, d4.raise Ev.indexRecovered d.idx.endEpoch n (d.idx.journal.length - d2.idx.journal.length) (t.toNat % 3000))

/-- The patches of more than one unit that a stop cuts before their record is on medium: the first writer of its key in Drift. -/
def Dev.cutPatches (d : Dev) : List (Version × Nat × Nat) :=
  d.que.drift.filterMap (fun (v : Version) =>
    if v.onMedium || v.units ≤ 1 || v.early then none
    else if d.que.drift.any (fun w => w.ns == v.ns && w.hash == v.hash && !w.onMedium && decide (w.seq < v.seq)) then none
    else if !d.programming (.value v.seq) then none
    else (d.capBySeq v.seq).map (fun c => (v, c.hdr.offset.toNat, c.value.length)))

/-! ## Sanitise at a start (R396) -/

/-- Resumes the records not complete (R396): the event, and the ingress counter; the erasing goes on from what is left. -/
def Dev.resumeSanitise (d : Dev) : Dev :=
  (d.sec.sanitise.filter (fun r => r.state == 1 || r.state == 2)).foldl (fun (d : Dev) (r : SanRec) =>
    let d1 := d.raise Ev.sanitiseResumed (r.id % 2 ^ 32) r.bandsDone r.bandsTotal 0
    { d1 with
      sec := { d1.sec with sanitise := d1.sec.sanitise.map (fun (x : SanRec) => if x.id == r.id then { x with state := 2 } else x) },
      que := if r.scope == 2 then { d1.que with
        nextSeq := max d1.que.nextSeq r.counterEnd, reservedEnd := max d1.que.reservedEnd r.counterEnd } else d1.que }) d

/-- A drive-scope record not complete: the start skips the replay (R396). -/
def Dev.skipsReplay (d : Dev) : Bool := d.sec.sanitise.any (fun r => r.scope == 2 && (r.state == 1 || r.state == 2))

/-! ## Life-cycle transitions (R388, R389) -/

/-- Steps 2 to 5 of RELEASE (R253): the metadata set is erased, the wear map and the retired-block list are written to it, a slot RELEASED or EXHAUSTED is written with the binding cleared,
the bay is RELEASED. What is left on the cartridge leaves the drive's books with it. -/
def Dev.releaseBay (d : Dev) (bay : BayNo) : Dev :=
  let b := d.bays.get bay
  let stored := if b.spare = 0 then 4 else 3
  let d1 := (d.stopDies bay).bandsErased bay (b.allBands.filter (fun x => decide (x.2 < 128)))
  let d2 := (d1.modBay bay (fun b => { b with mapWear := some ⟨b.wear, b.wearBase, b.retired⟩ })).writeSlot bay stored
  let d3 : Dev := { d2 with
    med := { d2.med with copies := d2.med.copies.filter (fun c => c.bay != bay) },
    idx := { d2.idx with journal := d2.idx.journal.filter (fun r => r.bay != bay), marks := d2.idx.marks.filter (·.bay != bay) },
    ev := { d2.ev with pring := d2.ev.pring.set bay [] } }
  let d4 := d3.modBay bay (fun b => { b with
    state := .released, bands := [], bound := none, railsOn := false, held := false, resume := .inService, opWaiting := none })
  d4.raise (Ev.cartReleased (baySrc bay)) stored b.lifeLeft b.spare 0

/-- PROVISION stores the first operator credential and the authorities (R386, R389). -/
def Dev.actProvision (d : Dev) (p : Bytes) : Dev :=
  if p.isEmpty then d
  else
    let c : Cred := { id := BitVec.ofNat 32 (p.field 0 4), operator := true, active := some (BitVec.ofNat 256 (p.field 8 32)),
                      staged := none, stagedAt := 0, activated := d.clk.ns }
    { d with sec := { d.sec with
      creds := d.sec.creds.filter (fun x => x.id != c.id) ++ [c], authorities := (p.drop 40).take (p.field 4 4) } }

/-- TAKE_OWNERSHIP draws the media root key and binds the admitted cartridges (R389). -/
def Dev.actOwn (d : Dev) : Dev :=
  let (k, d0) := d.draw
  let d1 : Dev := { d0 with
    sec := { d0.sec with mrk := some (k.setWidth 256) },
    ev := { d0.ev with pring := Vector.replicate 4 [] } }
  (List.finRange 4).foldl (fun (d : Dev) (b : BayNo) =>
    if (d.bays.get b).state == .authenticated || (d.bays.get b).guestState == .authenticated then d.bindBay b else d) d1

/-- DECOMMISSION destroys the media keys and the credentials and releases the cartridges (R389), one that is EVACUATED as well: DESIGN
CHOICE, log entry 221. -/
def Dev.actDecommission (d : Dev) (final : Bool) (p : Bytes) : Dev :=
  let d1 : Dev := { d with
    sec := { d.sec with
      mrk := none, creds := [], authorities := [],
      provisioning := if final then none else if p.isEmpty then d.sec.provisioning else some (BitVec.ofNat 256 (p.field 0 32)) },
    ns := [],
    idx := { Index.reset with nextJ := d.idx.nextJ, head := d.idx.head, replayStart := d.idx.nextJ },
    med := { d.med with secures := [], batches := [], valueCache := [] },
    que := { d.que with deferred := [], unread := [], bootUnread := [], passed := [], drift := [] } }
  let d2 := d1.raise Ev.keyDestroyed 0xFFFF 4 0 0
  let d3 := (List.finRange 4).foldl (fun (d : Dev) (b : BayNo) =>
    if d.inService b || (d.bays.get b).state == .evacuated then d.releaseBay b else d) d2
  d3.defaultSettings

/-- The encoding a transition leads to (R381, R385). -/
def lcTarget (op : Nat) (final : Bool) : BitVec 8 :=
  if op = 8 then 2 else if op = 9 then 3 else if op = 10 then (if final then 0x84 else 4) else 0x84

/-- The actions of a transition, named by its target (R389). -/
def Dev.lcActs (d : Dev) (target : BitVec 8) (p : Bytes) : Dev :=
  if target == 2 then d.actProvision p
  else if target == 3 then d.actOwn
  else if d.sec.lcState = .decommissioned then d
  else d.actDecommission (target == 0x84) p

/-- Completes it at the start (R388): steps 5 and 6, with the wipes of a life-cycle change (R390). -/
def Dev.lcResume (d : Dev) : Dev :=
  let t := d.sec.intent
  if t == 0 then d
  else
    let old := d.sec.lcByte
    let d1 := d.lcActs t (match d.sec.run with
      | some r => r.payload
      | none => [])
    ({ d1 with sec := { d1.sec.writeLc t 0 with run := none } } : Dev).wipeLc.raise Ev.lcChange old.toNat t.toNat (match d.sec.run with
      | some r => r.requester.toNat
      | none => 0) 2

/-! ## The start of the data path (R436 steps 6 to 14) -/

/-- The cartridges in service whose list of revoked serials names them after an activation (R414). -/
def Dev.revokedInService (d : Dev) : Dev :=
  (List.finRange 4).foldl (fun (d : Dev) (b : BayNo) =>
    let s := (d.bays.get b).serial
    if d.inService b && Config.revoked (d.upd.pkg d.upd.activeSlot) s then
      d.raise Ev.updRevokedInService b.val (serialHead s) (serialNext s) 0
    else d) d

/-- The data path starts: the fill and the loads are done; settings, pending life-cycle intent, key slots, bands, Deluge, replay, policy,
and capsules are accepted. `cuts` as in `recoverIndex`. -/
def Dev.startCore (d : Dev) (cuts : List (Version × Nat × Nat)) : Dev :=
  let kind := d.par.startKind
  let d1 := (({ d with par := { d.par with run := .running } }).loadSettings).lcResume.loadSlots
  let d2 := (List.finRange 4).foldl (fun (d : Dev) (b : BayNo) => if d.inService b then d.closeOpen b else d) d1
  let fromCp := d2.findEnd.idx.cleanEnd
  let (n, d3) := if d2.skipsReplay then (0, d2) else d2.recoverIndex cuts
  let d4 := { d3 with gale := d3.galeStart }.resumeSanitise
  let d5 := d4.mediaAdvance
  let d6 := (d5.raise Ev.reset kind d.par.startCode 0 0).remeasure
  let (t, d7) := d6.draw
  let d8 := (d7.raise Ev.startDone kind (t.toNat % 2 ^ 32) n fromCp.toNat).revokedInService
  let rep : Update := match d8.upd.active with
    | some r => if r.trial == 1 && r.boots != 0 then d8.upd.writeActive { r with boots := 0 } else d8.upd
    | none => d8.upd
  ({ d8 with upd := { rep with startReported := true } }.recomputePools.refreshEarly).refreshMode 1

/-! ## The ROM's choice of the set (R417) and Recovery (R423) -/

/-- Entry to Recovery: only Vane runs; staging and lease go (R423). -/
def Dev.enterRecovery (d : Dev) (cause : Nat) : Dev :=
  let d1 := if d.upd.state == 0 then d else d.endUpdate 8
  let d2 : Dev := { d1 with
    par := { d1.par with run := .recovery, startKind := 3, pendingReset := none, shutdownSince := none, closing := false },
    upd := { d1.upd with
      recoveryCause := cause, startReported := false,
      tftp := some { server := none, file := [], blocksize := 0, nextBlock := 1, received := [], done := 0, waiting := false } },
    mgmt := { d1.mgmt with conns := [], vaneUp := true },
    bays := d1.bays.map (fun (b : Bay) => { b with railsOn := false, held := false, resume := if b.state.serving then b.state else b.resume }) }
  ((d2.raise Ev.recoveryEnter cause 0 0 0).emitOut .dhcpRequest).refreshMode 6

/-- A set may be started: intact, and not below the floor. -/
def Update.startable (u : Update) (i : Fin 2) : Bool := u.slotOk i && decide (u.floor ≤ pkgSecver (u.pkg i))

/-- Copies of the record whose CRC is correct and whose twin disagrees are reported (R415). -/
def Dev.recTwins (d : Dev) : Dev :=
  [(0 : Fin 2), 1].foldl (fun (d : Dev) (i : Fin 2) =>
    let r := d.upd.recs.get i
    let f := if !twinOk r.slot r.slotTwin then 1 else if !twinOk r.trial r.trialTwin then 2
      else if !twinOk r.floor r.floorTwin then 3 else 0
    if r.magicOk && r.crcOk && f != 0 then d.raise Ev.activeSetTwin i.val f r.seq 0 else d) d

/-- What the ROM decides at a boot: the drive with the set to run in force, or the cause of Recovery (R417). -/
def Dev.romChoice (d : Dev) : Dev ⊕ Nat :=
  let d0 := d.recTwins
  match d0.upd.active with
  | none => .inr 1
  | some r =>
    let invalid (d : Dev) (i : Fin 2) : Dev :=
      d.raise Ev.slotInvalid i.val (if !d.upd.slotOk i then 2 else 3) (d.upd.release i) 0
    if r.trial == 1 && decide (r.maxBoots ≤ r.boots) then
      let d1 := d0.revert 2
      if d1.upd.startable d1.upd.activeSlot then .inl d1 else .inr 2
    else
      let d1 : Dev := if r.trial == 1 then { d0 with upd := d0.upd.writeActive { r with boots := r.boots + 1 } } else d0
      let a := d1.upd.activeSlot
      if d1.upd.startable a then .inl d1
      else if r.trial == 1 then
        let d2 := (invalid d1 a).revert 2
        if d2.upd.startable d2.upd.activeSlot then .inl d2 else .inr 2
      else
        let o := d1.upd.otherSlot
        if d1.upd.startable o then
          .inl (invalid { d1 with upd := d1.upd.writeActive { r with
            slot := BitVec.ofNat 8 o.val, trial := 0, boots := 0, deadline := 0, release := d1.upd.release o,
            previous := d1.upd.release a, digest := pkgDigest (d1.upd.pkg o) } } a)
        else .inr 2

/-- A copy of the life-cycle record whose CRC passes and whose twin disagrees raises `EV_LC_TWIN` (R387). -/
def Dev.lcTwins (d : Dev) : Dev :=
  [(0 : Fin 2), 1].foldl (fun (d : Dev) (i : Fin 2) =>
    let c := d.sec.lc.get i
    if c.crcOk && !(twinOk c.state c.stateTwin && twinOk c.intent c.intentTwin) then
      d.raise Ev.lcTwin i.val c.state.toNat c.stateTwin.toNat c.seq
    else d) d

/-! ## Resets (R435) -/

/-- A controller reset: the wipes, then the start from step 6. `vane`: Vane restarts with it and the ROM chooses the set (R414). -/
def Dev.controllerReset (d : Dev) (code : Nat) (vane : Bool) : Dev :=
  let cuts := d.cutPatches
  let d1 := d.wipe
  let d2 : Dev := { d1 with par := { d1.par with startKind := 2, startCode := code }, upd := { d1.upd with startReported := false } }
  if vane then
    let (t, d3) := ({ d2 with mgmt := { d2.mgmt with conns := [] } }).draw
    let d4 := d3.raise Ev.vaneRestart (if code = Ev.vaneRestart.code then 1 else 3) (t.toNat % 300) 0 0
    match d4.romChoice with
    | .inl d5 => (d5.mirrorReset true).startCore cuts
    | .inr c => d4.enterRecovery c
  else (d2.mirrorReset false).startCore cuts

/-- Bays that a start still waits for: their checks run (R436 step 3). -/
def Dev.checksRun (d : Dev) : Bool :=
  (List.finRange 4).any (fun b => (d.bays.get b).state == .authenticating && !(d.bays.get b).latchOpen)

/-- Attaches what the checks have admitted: the bay's own cartridges again, others bound (R249, R389). -/
def Dev.attachAdmitted (d : Dev) : Dev :=
  (List.finRange 4).foldl (fun (d : Dev) (b : BayNo) =>
    if (d.bays.get b).state == .authenticated && d.attaches then
      (match (d.bays.get b).guest with
        | some f => if d.admission b f = .own then d.reattach b (d.par.run == .running) else d.bindBay b
        | none => d.reattach b (d.par.run == .running))
    else d) d

/-- The checks are over: the start goes on (R436 step 6). -/
def Dev.startGo (d : Dev) : Dev :=
  if d.par.run == .starting && !d.checksRun then
    (({ d with idx := { d.idx with cuts := [] } } : Dev).attachAdmitted.startCore d.idx.cuts).attachAdmitted
  else d

/-- The state of a bay when power comes: the checks of R239 begin where a cartridge is present. -/
def Bay.powered (b : Bay) : Bay :=
  let serving := b.state.serving || b.state == .quiesced
  { b with
    state := if b.present then .authenticating else if b.bound.isSome then .missing else .empty,
    resume := if b.state.serving then (if b.state == .attaching then .inService else b.state) else .inService,
    guest := match b.guest with
      | some f => some f
      | none => if serving || b.present then b.cart.map (fun c =>
          { cart := c, table := [], wear := b.wear, base := b.wearBase, retired := b.retired, journalSeq := (c.slots.get 0).journalSeq + (c.slots.get 1).journalSeq + 2 ^ 64 }) else none,
    guestState := .empty, railsOn := b.present && !b.latchOpen, held := false, quiesceSince := none, pollFails := 0 }

/-- A start with the steps of power-on (R425, R435, R436): Vane boots, the ROM chooses the set, the cartridge checks begin. `kind`:
that of `EV_RESET`. -/
def Dev.powerOn (d : Dev) (kind : Nat) : Dev :=
  let cuts := d.cutPatches
  let d0 := d.wipe
  let back := d0.pow.auxLost
  let dt : Dev := if back then
      ({ d0 with clk := { d0.clk with ns := d0.clk.persisted, slew := 0, slewStep := 0, ptpMaster := false } } : Dev).setSource .persisted 0
    else if d0.mgmt.vaneUp then d0 else d0.setSource .rtc 0
  let d1 : Dev := { dt with
    idx := { d0.idx with cuts := cuts },
    par := { d0.par with startKind := kind, startCode := 0, run := .starting },
    upd := { d0.upd with startReported := false },
    mgmt := { d0.mgmt with conns := [], vaneUp := true, pldmReceiver := none, pldmQueue := [], eid := 0 },
    pow := { d0.pow with
      bank := { Bank.reset with volts := d0.pow.bank.volts, temp := d0.pow.bank.temp }, pllOk := true, auxLost := false,
      inputs := [], limitCut := 0, nandShare := 4500, galeCeiling := 600, dispatchPm := 1000, thermalPm := 1000, floorScale := 1000,
      breach := false, groups := Vector.replicate 11 ThermGroup.reset },
    gale := { d0.gale with rows := [], masks := Gale.reset.masks, step := 600, tempStep := 600 } }
  match d1.lcTwins.romChoice with
  | .inr c => d1.lcTwins.enterRecovery c
  | .inl d2 =>
    let d3 : Dev := (List.finRange 4).foldl (fun (d : Dev) (b : BayNo) => if (d.bays.get b).state == .authenticating then d.challenge b else d)
      { d2.mirrorReset true with bays := d2.bays.map Bay.powered }
    let d4 := match d3.pow.failRecord with
      | some r => ({ d3 with pow := { d3.pow with failRecord := none } }).raise Ev.powerFailDone r.energy r.timeMs r.flushed r.lost
      | none => d3
    let d5 := match d4.pow.tripRecord with
      | some (g, p, t) => ({ d4 with pow := { d4.pow with tripRecord := none } }).raise Ev.thermalTrip g p (t % 2 ^ 32).toNat 0
      | none => d4
    d5.startGo

/-- A power-on start (R435, R436). -/
def Dev.powerOnStart (d : Dev) : Dev := d.powerOn 1

end Sys2Proof.Machine
end

