-- ==== Sys2Proof/Machine/Epochs.lean ====
section
/-! DEFINITION. Epochs (R153, R155, R156), the index checkpoint (R157), and the safe points of committed parameters (R443). -/

namespace Sys2Proof.Machine

/-! ## Safe points (R443) -/

/-- Applies the committed values whose parameters meet a test: each is in force from now on, with its event. -/
def Dev.applyCommitted (d : Dev) (p : Nat → Bool) : Dev :=
  let now := d.par.committed.filter (fun e => p e.1)
  let d1 : Dev := { d with par := { d.par with
    values := now.foldl (fun (l : List (Nat × Bytes)) (e : Nat × Bytes × Nat) => setEntry l e.1 e.2.1) d.par.values,
    committed := d.par.committed.filter (fun e => !p e.1) } }
  now.foldl (fun (d : Dev) (e : Nat × Bytes × Nat) => d.raise Ev.paramChange e.1 2 3 e.2.2) d1

/-! ## The close of an epoch's head (R155) -/

/-- The values of a bucket all lie on its home, so a move of it may end (R208, R253). -/
def Dev.moveOver (d : Dev) (b : Bucket) : Bool :=
  match b.movingFrom with
  | none => false
  | some _ => (d.liveEntries b).all (fun e => e.lost || e.loc == 0 || locBay e.loc == b.home) &&
      !d.med.batches.any (fun x => x.items.any (fun i => b.covers i.ns i.hash)) &&
      d.serves b.home

/-- Buckets with an unmerged record of epoch `cut` or earlier. -/
def Dev.dueBuckets (d : Dev) (cut : Nat) : List Bucket :=
  d.idx.buckets.filter (fun b => match d.oldestEpoch b with
    | some e => decide (e ≤ cut)
    | none => false)

/-- The epoch up to which a tail merges: `index.epoch_lag` behind, and one epoch more at a time while the log stays above
`index.log_merge_mark`. -/
def Dev.mergeCut (d : Dev) (cut : Nat) : Nat → Nat
  | 0 => cut
  | fuel + 1 =>
    let due := d.dueBuckets cut
    let left := (d.idx.log.filter (fun r => !due.any (fun b => b.covers r.ns r.hash))).length
    if d.pnum P.indexLogMergeMark * ringMax < left * 100 then d.mergeCut (cut + 1) fuel else cut

/-- Journal records of a bucket that are not committed: a page must not claim to include them (log entry 41). -/
def Dev.openRecs (d : Dev) (b : Bucket) : List JRec := d.idx.journal.filter (fun r => !r.committed && b.covers r.ns r.hash)

/-- A merged page of a bucket: the newest record below which every record of the bucket is included. -/
def Dev.pagesOf (d : Dev) (epoch : Nat) (b : Bucket) : List Bucket :=
  let low := (d.openRecs b).foldl (fun (m : Nat) (r : JRec) => min m (r.jseq - 1)) (2 ^ 64)
  (d.mergeBucket epoch b).map (fun (x : Bucket) => { x with mergedThrough := max b.mergedThrough (min low x.mergedThrough) })

/-- Writes an index page on its home: two wordlines of one die of the index stream, and the band's summary names it (R149, R198, R207,
R226). Only a merge that adds no entries, `freely`, may use the metadata margin (R224). Nothing where no place can be had: the bucket keeps its
page, and is merged again at a later epoch. -/
def Dev.placePage (d : Dev) (epoch : Nat) (freely : Bool) (b : Bucket) : Option (Bucket × Dev) :=
  let group := (epoch + b.lo / 2 ^ 32) % 8
  let bay := b.pageHome
  match d.alloc bay .index group 32 [] freely with
  | none => none
  | some (block, pos, d1) =>
    let y := d1.bays.get bay
    let loc := y.posLoc bay.val group block (y.placePos group block (pos / 32))
    some ({ b with pageLoc := loc },
      (d1.issuePage bay group block (pos / 32) (.page loc)).modBay bay (fun y => y.modBand group block (fun (x : Band) =>
        { x with pages := (b.ns, b.lo, b.hi) :: x.pages })))

/-- Writes the pages of one bucket, all of them or none. -/
def Dev.placeSplit (d : Dev) (epoch : Nat) (freely : Bool) : List Bucket → Option (List Bucket × Dev)
  | [] => some ([], d)
  | b :: rest =>
    match d.placePage epoch freely b with
    | none => none
    | some (x, d1) => match d1.placeSplit epoch freely rest with
      | some (xs, d2) => some (x :: xs, d2)
      | none => none

/-- A merge adds no entries: the pages together hold no more than those of the buckets that they replace (R224). -/
def Index.addsNone (i : Index) (bs : List Bucket) : Bool :=
  decide ((bs.map (fun b => b.entries.length)).sum ≤
    ((i.buckets.filter (fun b => bs.any (fun x => x.ns == b.ns && decide (x.lo ≤ b.hi) && decide (b.lo ≤ x.hi)))).map (fun b => b.entries.length)).sum)

/-- Writes the pages of each merged bucket, in order, and whether every one had a place; a bucket whose pages have none is left as it is. -/
def Dev.placePages (d : Dev) (epoch : Nat) : List (List Bucket) → List Bucket × Bool × Dev
  | [] => ([], true, d)
  | bs :: rest =>
    match d.placeSplit epoch (d.idx.addsNone bs) bs with
    | some (xs, d1) => let r := d1.placePages epoch rest; (xs ++ r.1, r.2.1, r.2.2)
    | none => let r := d.placePages epoch rest; (r.1, false, r.2.2)

/-- The page of a merged pair (R148); nothing where the log makes it too large. -/
def joinPages (a b : List Bucket) : Option Bucket :=
  match a, b with
  | [x], [y] =>
    if fitPair x y then
      some { x with hi := y.hi, entries := x.entries ++ y.entries, mergedThrough := min x.mergedThrough y.mergedThrough,
                    cached := x.cached && y.cached, dirty := x.dirty || y.dirty }
    else none
  | _, _ => none

/-- A bucket has a record in a journal band that a sanitise has found (R393 step 6). -/
def Dev.sanForces (d : Dev) (b : Bucket) : Bool :=
  (d.bucketLog b).any (fun r => d.sec.sanitise.any (fun s => s.erasing && s.scope == 1 && s.bandsLeft.any (fun x =>
    match (d.bays.get x.1).band? x.2.1 x.2.2 with
    | some y => y.stream == .journal && x.1 == r.bay && y.items.contains (r.ns, r.hash)
    | none => false)))

/-- The buckets a tail merges (R153, R155). One whose page is lost in both copies is not merged: what it held cannot be written anew (R150; log entry
238). -/
def Dev.tailSet (d : Dev) (all : Bool) : List Bucket :=
  let n := d.idx.head
  let low := n - d.pnum P.indexEpochLag
  let due := d.dueBuckets (if all then n else d.mergeCut low (n - low))
  d.idx.buckets.filter (fun b => !b.pageLost && (due.contains b || d.sanForces b))

/-- The pairs of buckets that a tail merges (R148, R224): while the map holds more than 62,914,560 buckets, or a cartridge's free metadata pages
run low. `more`: the buckets that the tail's splits add. -/
def Dev.tailPairs (d : Dev) (more : Nat) : List (Bucket × Bucket) :=
  let over_ := d.idx.buckets.length + more - 62914560
  let low := d.idx.buckets.any (fun b => d.metaLow b.home)
  if over_ = 0 ∧ !low then []
  else
    adjacentPairs (if low then d.idx.buckets.length else over_) d.idx.sorted

/-- The read-level sets of a cartridge's blocks are journalled (R230). -/
def Dev.saveLevels (d : Dev) : Dev :=
  (List.finRange 4).foldl (fun (d : Dev) (bay : BayNo) =>
    d.modBay bay (fun y => { y with bands := y.bands.map (fun x => { x with levelsSaved := x.levels }) })) d

/-- A bucket as an epoch-end record names it: a move that is not over leaves it homed on the cartridge that its page lies on, and what lies on
the other one is still to be moved back or on (R207, R251). -/
def Bucket.durable (b : Bucket) : Bucket :=
  match b.movingFrom with
  | some f => { b with home := b.pageHome, movingFrom := some (if b.pageHome == b.home then f else b.home) }
  | none => b

/-- Writes an item of the index stream of a running tail, in pieces of at most a band: its locations, and whether all of it had a place. -/
def Dev.writeSnap (d : Dev) (bays : List BayNo) (epoch : Nat) : Nat → Nat → List Nat × Bool × Dev
  | 0, n => ([], n == 0, d)
  | fuel + 1, n =>
    if n = 0 then ([], true, d)
    else
      let r := d.writeOn bays .index (epoch % 8) (min n 507904) false .page
      let r2 := r.2.2.writeSnap bays epoch fuel (n - 507904)
      (r.1 ++ r2.1, r.2.1 && r2.2.1, r2.2.2)

/-- Writes the bucket map on every cartridge in service (R155, R157), 16 bytes for each bucket (R148). -/
def Dev.writeMap (d : Dev) (epoch : Nat) : List Nat × Bool × Dev :=
  d.writeSnap d.serviceBays epoch 16 (32 * ceilDiv (16 * d.idx.buckets.length) 131072)

/-- Writes the fingerprint directory (R157): each bucket's extent on its home, 12 bits for each key. -/
def Dev.writeFps (d : Dev) (epoch : Nat) : List Nat × Bool × Dev :=
  d.serviceBays.foldl (fun (a : List Nat × Bool × Dev) (bay : BayNo) =>
    let n := ((d.idx.buckets.filter (·.home == bay)).map (fun b => b.entries.length)).sum
    let r := a.2.2.writeSnap [bay] epoch 64 (32 * ceilDiv (n * 3) 262144)
    (r.1 ++ a.1, r.2.1 && a.2.1, r.2.2)) ([], true, d)

/-- The snapshots of a tail begin to be written: the map where `index.map_snapshot_epochs` or a checkpoint asks for it, and the fingerprints of a
checkpoint, which is none where something of it has no place (R155, R157). -/
def Dev.snapTail (d : Dev) : Dev :=
  match d.idx.tail with
  | none => d
  | some t =>
    let due := t.checkpoint || decide (d.idx.snapEpoch + d.pnum P.indexMapSnapshotEpochs ≤ t.epoch)
    let (m, ok, d1) := if due then d.writeMap t.epoch else ([], true, d)
    let (f, ok2, d2) := if t.checkpoint then d1.writeFps t.epoch else ([], true, d1)
    { d2 with idx := { d2.idx with tail := some { t with snaps := m ++ f, checkpoint := t.checkpoint && ok && ok2 } } }

/-- Items of reserved metadata whose programs were exhausted are attempted again at an epoch's close (R468). -/
def Dev.retryReserved (d : Dev) : Dev :=
  let n := d.med.again
  if n = 0 then d
  else (List.range n).foldl (fun (d : Dev) _ => d.writeReserved d.serviceBays 1) { d with med := { d.med with again := 0 } }

/-- The wear maps of the cartridges in service are written at each epoch close (R241). -/
def Dev.writeMaps (d : Dev) : Dev := d.serviceBays.foldl Dev.writeWearMap d

/-- Closes the head: the tail of the closed epoch merges its buckets, and the next epoch opens. `all`: every bucket that holds a
log record, for a checkpoint (R157). -/
def Dev.closeHead (d : Dev) (all : Bool) : Dev :=
  let n := d.idx.head
  let d0 := (d.applyCommitted (fun p => p == P.mediaMetaMargin)).saveLevels
  let set := d0.tailSet all ++ (d0.idx.buckets.filter (fun b => d0.moveOver b && !b.pageLost)).filter (fun b => !(d0.tailSet all).contains b)
  let pages (b : Bucket) : List Bucket := (d0.pagesOf n b).map (fun (x : Bucket) => if d0.moveOver x then { x with movingFrom := none } else x)
  let made := set.map pages
  let joined := (d0.tailPairs ((made.map (·.length)).sum - set.length)).filterMap (fun p =>
    (joinPages (pages p.1) (pages p.2)).map (fun x => (p, x)))
  let rest := (set.filter (fun b => !joined.any (fun j => j.1.1 == b || j.1.2 == b))).map pages
  let (placed, all_, d1) := d0.placePages n (rest ++ joined.map (fun j => [j.2]))
  let d2 := (((d1.bump (.drive .ixMerges) set.length).bump (.drive .ixSplits) ((rest.map (·.length)).sum - rest.length)).bump
    (.drive .ixBucketMerges) joined.length).bump (.drive .ixEpochs) 1
  let d3 : Dev := { d2 with idx := { d2.idx with
    head := n + 1,
    tail := some { epoch := n, pages := placed, replayStart := d2.idx.nextJ, checkpoint := all && all_, snaps := [], ended := false, ends := [] } } }
  d3.snapTail.retryReserved.writeMaps

/-! ## Moves of buckets (R208, R253) -/

/-- Bytes charged on a bucket (R87): its values, those of writers still in Drift among them. -/
def Dev.bucketBytes (d : Dev) (b : Bucket) : Nat :=
  ((d.med.copies.filter (fun c => b.covers c.ns c.hash && d.charged c)).map (fun c => chunkBytes c.bytes.length)).sum

/-- The fill of a cartridge: the bytes charged on its buckets (R208). -/
def Dev.fill (d : Dev) (bay : BayNo) : Nat := ((d.idx.buckets.filter (fun b => b.on bay)).map d.bucketBytes).sum

/-- The least-full cartridge IN_SERVICE but for one; the lowest number among equals. -/
def Dev.leastFull (d : Dev) (but : Option BayNo) : Option BayNo :=
  ((d.baysIn (· == .inService)).filter (fun b => some b != but)).foldl (fun (m : Option BayNo) (b : BayNo) =>
    match m with
    | none => some b
    | some a => if d.fill b < d.fill a then some b else some a) none

/-- Relocates what a bucket on the move still has on the cartridge it leaves (R208). -/
def Dev.moveCopies (d : Dev) (kind : BatchKind) (b : Bucket) : Dev :=
  match b.movingFrom with
  | none => d
  | some f =>
    let cs := d.med.copies.filter (fun c => c.programmed && !c.dead && c.bay == f && b.covers c.ns c.hash && d.names c)
    if cs.isEmpty || d.med.batches.any (fun x => x.items.any (fun i => b.covers i.ns i.hash)) then d
    else d.beginBatch kind f b.home .cold (d.med.nextOp % 8) 0 5 cs

/-- Begins the move of a bucket: its new writes go to the new home from here on (R208). -/
def Dev.startMove (d : Dev) (kind : BatchKind) (b : Bucket) (to_ : BayNo) : Dev :=
  let m (x : Bucket) : Bucket := { x with home := to_, movingFrom := some b.home }
  (d.modBucket b.ns b.lo m).moveCopies kind (m b)

/-- The buckets of an evacuation move one after another: the next one begins when the one before has changed its home (R253). One that was on
the move at a restart goes on to where it was moving. -/
def Dev.evacNext (d : Dev) (bay : BayNo) : Dev :=
  if (d.bays.get bay).state == .evacuating then
    match d.idx.buckets.find? (fun b => b.movingFrom == some bay) with
    | some b => d.moveCopies .evacuate b
    | none => match d.idx.buckets.find? (fun b => b.home == bay), d.leastFull (some bay) with
      | some b, some t => d.startMove .evacuate b (b.movingFrom.getD t)
      | _, _ => d
  else d

/-- Moves go on: those of evacuations, and those of balance that have left something behind. -/
def Dev.movesOn (d : Dev) : Dev :=
  let d1 := (List.finRange 4).foldl Dev.evacNext d
  (d1.idx.buckets.filter (fun b => b.movingFrom.isSome)).foldl (fun (d : Dev) (b : Bucket) => d.moveCopies .balance b) d1

/-! ## The epoch-end record (R155, R156) -/

/-- Two ranges of one namespace meet. -/
def rangesMeet (a b : Bucket) : Bool := a.ns == b.ns && decide (a.lo ≤ b.hi) && decide (b.lo ≤ a.hi)

/-- The bucket map with pages installed: the state kept in DRAM (a lost-home mark, a mark for reconciliation, the cache) is that
of the bucket replaced; so is its home, where a move has begun since the page was made. -/
def installPages (old pages : List Bucket) : List Bucket :=
  let inst (p : Bucket) : Bucket :=
    match old.find? (fun b => rangesMeet b p) with
    | some b =>
      let q := { p with cached := b.cached, lastUsed := b.lastUsed, reading := b.reading, readId := b.readId, wanted := b.wanted, prefetched := b.prefetched, dirty := b.dirty, lostHome := b.lostHome }
      if p.home == b.home then q else { q with home := b.home, movingFrom := b.movingFrom }
    | none => p
  old.filter (fun b => !pages.any (fun p => rangesMeet b p)) ++
    (pages.filter (fun p => old.any (fun b => rangesMeet b p))).map inst

/-- The replay start: the lowest record not included in any page named (R155). -/
def Index.lowestOpen (i : Index) (bs : List Bucket) : Nat :=
  (i.journal.filter (fun r => i.needs bs r && decide (i.replayStart ≤ r.jseq))).foldl (fun (m : Nat) (r : JRec) => min m r.jseq)
    i.nextJ

/-- A page of a tail, as the log is pruned: the log keeps what the page does not include. -/
def keepLog (pages : List Bucket) (r : JRec) : Bool := !includedIn pages r

/-- The programs of the pages that the record of a tail is to name, or of its snapshots, have not all passed. -/
def Dev.tailBusy (d : Dev) : Bool :=
  match d.idx.tail with
  | some t => (t.pages ++ d.idx.buckets).any (fun p => d.programming (.page p.pageLoc)) || t.snaps.any (fun l => d.programming (.page l))
  | none => false

/-- The epoch-end records of a tail begin to be written, on every cartridge in service (R155, R207). -/
def Dev.markTail (d : Dev) : Dev :=
  match d.idx.tail with
  | none => d
  | some t =>
    if t.ended || d.tailBusy then d
    else
      let (ls, _, d1) := d.writeOn d.serviceBays .journal (t.epoch % 8) 1 true .mark
      { d1 with idx := { d1.idx with tail := some { t with ended := true, ends := ls } } }

/-- The epoch-end records of a tail are on medium. -/
def Dev.tailEnded (d : Dev) : Bool :=
  match d.idx.tail with
  | some t => t.ended && !d.tailBusy && !t.ends.any (fun l => d.programming (.mark l))
  | none => false

/-- The epoch-end record is on medium: its pages are named, their records leave the log, superseded pages may go, and a move ends
(R155, R156, R208, R253). -/
def Dev.endTail (d : Dev) : Dev :=
  match d.idx.tail with
  | none => d
  | some t =>
    let bs := installPages d.idx.buckets t.pages
    let rs := d.idx.lowestOpen bs
    let marks : List EndMark := t.ends.map (fun l => ⟨locBay l, t.epoch, rs, t.checkpoint, l⟩)
    let left := d.idx.buckets.filter (fun b => b.movingFrom.isSome && t.pages.any (fun p => rangesMeet b p && p.movingFrom.isNone && p.home == b.home))
    let d1 : Dev := { d with idx := { d.idx with
      buckets := bs, durable := bs.map Bucket.durable,
      changes := (bs.filter (fun b => !d.idx.durable.any (fun x => x.ns == b.ns && x.lo == b.lo && x.hi == b.hi && x.pageLoc == b.pageLoc))).map
        (fun b => (b.ns, b.lo, b.pageLoc)),
      endEpoch := t.epoch, replayStart := rs, checkpoint := t.checkpoint,
      marks := marks ++ d.idx.marks.filter (fun m => !marks.any (·.bay == m.bay)),
      snaps := if t.snaps.isEmpty then d.idx.snaps else t.snaps, snapEpoch := if t.snaps.isEmpty then d.idx.snapEpoch else t.epoch,
      log := d.idx.log.filter (keepLog t.pages), tail := none } }
    let d2 := left.foldl (fun (d : Dev) (b : Bucket) =>
      let n := d.bucketBytes b
      match b.movingFrom with
      | some f =>
        if (d.bays.get f).state == .evacuating then
          d.modBay f (fun y => { y with movedBuckets := y.movedBuckets + 1, movedBytes := y.movedBytes + n })
        else d.raise Ev.balanceMove b.ns.toNat f.val b.home.val (n / 2 ^ 20)
      | none => d) d1
    let d3 := d2.raise Ev.epochEnd t.epoch t.pages.length (rs % 2 ^ 32) 0
    ((if d3.idx.pressure then d3.checkPressure else d3).trimPages).fpDone d

/-- An evacuation with no bucket left ends: the bay is EVACUATED (R253). -/
def Dev.evacCheck (d : Dev) : Dev :=
  (List.finRange 4).foldl (fun (d : Dev) (b : BayNo) =>
    let y := d.bays.get b
    if y.state == .evacuating && !d.idx.buckets.any (fun k => k.home == b || k.movingFrom == some b) then
      ((d.modBay b (fun y => { y with state := .evacuated })).raise Ev.cartEvacDone b.val y.movedBuckets
        ((d.clk.tick - y.evacSince) / 1000000) 0).refreshMode 4
    else d) d

/-- The programs of an item of the index pass, the second wordlines of its places among them. -/
def Dev.passItem (d : Dev) (what : ProgWhat) : Dev :=
  let d1 := (d.med.progs.filter (·.what == what)).foldl Dev.passProg d
  (List.finRange 4).foldl (fun (d : Dev) (bay : BayNo) =>
    (d.bays.get bay).bands.foldl (fun (d : Dev) (x : Band) =>
      let mine := x.second.filter (·.2 == what)
      if mine.isEmpty then d
      else (d.modBay bay (fun b => b.modBand x.group x.block (fun y => { y with second := y.second.filter (·.2 != what) }))).countProgram
        bay .index (16 * mine.length)) d) d1

/-- A tail runs to its end within one command: its programs pass, its epoch-end records are written and pass. -/
def Dev.finishTail (d : Dev) : Dev :=
  let pass (d : Dev) : Dev := match d.idx.tail with
    | some t => ((((t.pages ++ d.idx.buckets).map (·.pageLoc)).filter (fun l => d.programming (.page l)) ++ t.snaps).dedup.foldl (fun (d : Dev) (l : Nat) => d.passItem (.page l)) d)
    | none => d
  let d1 := (pass d).markTail
  let d2 := match d1.idx.tail with
    | some t => t.ends.foldl (fun (d : Dev) (l : Nat) => d.passItem (.mark l)) d1
    | none => d1
  d2.endTail

/-- An index checkpoint, from the close of the open epoch to its epoch-end record (R157). -/
def Dev.checkpoint (d : Dev) : Dev := (d.finishTail.closeHead true).finishTail

/-! ## EPOCH_HEAD_CLOSE and EPOCH_END_RECORD_DURABLE -/

def epochHeadCloseEff (d : Dev) : Dev :=
  if d.par.run == .running && d.idx.tail.isNone && d.pow.rung == .clear then d.closeHead false else d

/-- EPOCH_HEAD_CLOSE (R155): the head closes unless the tail before it still runs. -/
def execEpochHeadClose (s : State) : Host.Outcome State Fault Refusal := s.run epochHeadCloseEff

def epochEndRecordDurableEff (d : Dev) : Dev :=
  let d1 := d.markTail
  let d2 := match d1.idx.tail with
    | some t => if d1.tailBusy then d else t.ends.foldl (fun (d : Dev) (l : Nat) => d.passItem (.mark l)) d1
    | none => d
  if d2.tailEnded then ((d2.endTail.evacCheck).movesOn).mediaAdvance else d

/-- EPOCH_END_RECORD_DURABLE (R155, R156): the epoch-end records of the tail, written once its pages and snapshots are on medium, are on medium
too. -/
def execEpochEndRecordDurable (s : State) : Host.Outcome State Fault Refusal := s.run epochEndRecordDurableEff

end Sys2Proof.Machine
end

