-- ==== Sys2Proof/Machine/PairLoss.lean ====
section
/-! DEFINITION. Loss of the partner (R299): the namespaces led here wait, SOLO and CLAIM are sent, reads and a handover under way
end. -/

namespace Sys2Proof.Machine

/-- A lead namespace becomes WAITING; its SOLO wait runs. -/
def Dev.enterWaiting (d : Dev) (n : BitVec 12) (since : Option Nat) : Dev :=
  (d.modMirror n (fun m => { m with waitSince := since, soloGranted := false })).setNsState n .waiting

/-- The lead sends SOLO where a namespace of it waits and a witness is configured. -/
def Dev.askSolo (d : Dev) : Dev :=
  if d.witnessed && d.mir.led.any (fun m => m.st == .waiting && !m.soloGranted) then d.witnessSend .solo false else d

/-- A handover ends with a status: sequencing resumes, the roles are unchanged. -/
def Dev.handoverEnd (d : Dev) (st : BitVec 16) : Dev :=
  match d.mir.handover with
  | none => d
  | some h =>
    let d1 : Dev := { d with mir := { d.mir with handover := none, reqs := d.mir.reqs.filter (fun q => q.msg != .handover) } }
    match d1.capBySeq h.seq with
    | some c => d1.finishFree c (Reply.plain st)
    | none => d1

/-- The partner reads under way end with the status this drive would have reported alone (R297, R298). -/
def Dev.endPartnerReads (d : Dev) : Dev :=
  let rs := d.mir.reads
  rs.foldl (fun (d : Dev) (r : PartnerRead) =>
    match d.capBySeq r.seq with
    | none => d
    | some c => if isReader c.hdr.opcode then d.endReader c (Reply.plain r.alone)
      else d.finishFree c (Reply.ver r.alone c.hdr.offset.toNat))
    { d with mir := { d.mir with reads := [] } }

/-- The drive follows some namespace. -/
def Mirror.followsAny (m : Mirror) : Bool := m.nss.any (fun x => !x.lead)

/-- An automatic claim is sent (R305). -/
def Dev.autoClaim (d : Dev) : Dev :=
  if d.mir.state == .peerLost && d.pflag P.mirrorAutoClaim && d.witnessed && d.mir.followsAny then d.witnessSend .claim false else d

/-- PEER_LOST is declared: 1 the link is down, 2 no packet (R299). -/
def Dev.peerLost (d : Dev) (cause : Nat) : Dev :=
  let led := d.mir.led
  let d1 : Dev := { d with mir := { d.mir with state := .peerLost, lostSince := some d.clk.tick, permitSince := none, unacked := [], held := [], keys := none } }
  let d2 := ((d1.raise Ev.peerLost cause led.length (d.mir.nss.length - led.length) 0).endPartnerReads).handoverEnd Status.unavailable
  let one (d : Dev) (m : MirrorNs) : Dev :=
    let x := (d.markListed m).modMirror m.ns (fun y => { y with listing := [] })
    if m.st == .solo || m.st == .waiting then x
    else if m.st == .fenced then (x.holdWriters m.ns).modMirror m.ns (fun y => { y with prev := .waiting, waitSince := some d.clk.tick, soloGranted := false })
    else x.enterWaiting m.ns (some d.clk.tick)
  let d3 := led.foldl one d2
  let d4 : Dev := { d3 with mir := { d3.mir with nss := d3.mir.nss.map (fun m => if m.lead then m else { m with listing := [] }) } }
  d4.askSolo.autoClaim

end Sys2Proof.Machine
end

