-- ==== Sys2Proof/Machine/Ladder.lean ====
section
/-! DEFINITION. The maintenance matrix (R445), the links going down (R60), the rungs entered and left below Haze (R314 to R319). -/

namespace Sys2Proof.Machine

/-! ## The maintenance compatibility matrix (R445) -/

/-- The activities of R445, in the order of its columns. -/
inductive Activity
  | dew | pat | gc | fold | gver | rsync | self | evac | fmt | sanN | sanD | act | lc
  deriving DecidableEq, Repr

/-- The column of an activity, 1 to 13. -/
def Activity.num : Activity → Nat
  | .dew => 1
  | .pat => 2
  | .gc => 3
  | .fold => 4
  | .gver => 5
  | .rsync => 6
  | .self => 7
  | .evac => 8
  | .fmt => 9
  | .sanN => 10
  | .sanD => 11
  | .act => 12
  | .lc => 13

/-- A cell of the matrix: runs together, waits, refused as unavailable, refused as busy; in the order of their strength. -/
inductive Cell
  | r | q | u | b
  deriving DecidableEq, Repr

/-- Strength of a cell. -/
def Cell.rank : Cell → Nat
  | .r => 0
  | .q => 1
  | .u => 2
  | .b => 3

/-- The row of a running activity, by starting activity. Two that cannot meet count as running together. -/
def matrixRow : Activity → List Cell
  | .dew | .pat | .gc | .fold | .gver => [.r, .r, .r, .r, .r, .r, .r, .r, .r, .r, .r, .r, .r]
  | .rsync => [.r, .r, .r, .r, .r, .r, .r, .r, .r, .r, .b, .r, .r]
  | .self => [.r, .r, .r, .r, .r, .r, .b, .r, .r, .r, .b, .b, .b]
  | .evac => [.r, .r, .r, .r, .r, .r, .r, .b, .r, .r, .u, .b, .b]
  | .fmt | .sanN => [.r, .r, .r, .r, .r, .r, .r, .r, .b, .b, .b, .b, .q]
  | .sanD => [.r, .q, .q, .q, .r, .r, .b, .b, .b, .b, .b, .b, .q]
  | .act | .lc => [.r, .q, .q, .q, .r, .q, .b, .b, .b, .b, .b, .b, .b]

/-- The cell of a running and a starting activity. -/
def matrixCell (running starting : Activity) : Cell := (matrixRow running)[starting.num - 1]?.getD .r

/-- A record of Deluge that is not complete. -/
def SanRec.open_ (r : SanRec) : Bool := r.state == 1 || r.state == 2

/-- An activation, a reversion or an entry to Recovery waits for its reset. -/
def Conf.activating (c : Conf) : Bool :=
  match c.pendingReset with
  | some (.activation _ _ _) | some .reversion | some (.recovery _) => true
  | _ => false

/-- An activity of the matrix that runs, of those whose rows decide anything. -/
def Dev.actRuns (d : Dev) : Activity → Bool
  | .dew | .pat | .gc | .fold | .gver => true
  | .rsync => d.mir.nss.any (fun m => m.st == .resync || m.st == .joining)
  | .self => d.par.selfTest.isSome
  | .evac => (List.finRange 4).any (fun b => (d.bays.get b).state == .evacuating || (d.bays.get b).state == .releasing ||
      ((d.bays.get b).state == .attaching && (d.bays.get b).opWaiting.isSome))
  | .fmt => d.sec.sanitise.any (fun r => r.open_ && r.opcodeLow == 7)
  | .sanN => d.sec.sanitise.any (fun r => r.open_ && r.opcodeLow == 8 && r.scope == 1)
  | .sanD => d.sec.sanitise.any (fun r => r.open_ && r.opcodeLow == 8 && r.scope == 2)
  | .act => d.par.activating
  | .lc => d.sec.run.isSome

/-- The activities that run, of those that can hold another back. -/
def Dev.running (d : Dev) : List Activity :=
  [.rsync, .self, .evac, .fmt, .sanN, .sanD, .act, .lc].filter (fun a => d.actRuns a)

/-- The strongest cell for a starting activity and the running activity it comes from. -/
def Dev.maintCell (d : Dev) (start : Activity) : Cell × Activity :=
  d.running.foldl (fun (best : Cell × Activity) (a : Activity) =>
    if best.1.rank < (matrixCell a start).rank then (matrixCell a start, a) else best) (.r, .dew)

/-- Consults the matrix for a starting activity; a cell other than R raises `EV_MAINT_REFUSED` (R445, R448). -/
def Dev.maint (d : Dev) (start : Activity) : Cell × Dev :=
  match d.maintCell start with
  | (.r, _) => (.r, d)
  | (.q, a) => (.q, d.raise Ev.maintRefused start.num a.num 2 0)
  | (.u, a) => (.u, d.raise Ev.maintRefused start.num a.num 3 0)
  | (.b, a) => (.b, d.raise Ev.maintRefused start.num a.num 1 0)

/-! ## Links (R60) -/

/-- A link's event source (R60). -/
def linkSrc (l : Link) : Nat := 257 + l.val

/-- Changes one link. -/
def Dev.modLink (d : Dev) (l : Link) (f : LinkState → LinkState) : Dev :=
  { d with net := { d.net with links := d.net.links.set l (f (d.net.links.get l)) } }

/-- A link goes down (R60): 1 loss of signal, 2 FEC rate, 3 retrain, 4 rung. With the peer link the partner is lost (R299). -/
def Dev.downLink (d : Dev) (l : Link) (cause : Nat) : Dev :=
  if (d.net.links.get l).up then
    let d1 := (d.modLink l (fun x => { x with up := false })).raise (Ev.linkDown (linkSrc l)) (d.net.links.get l).mode cause 0 0
    if l = 2 ∧ d.mir.state = .linked then d1.peerLost 1 else d1
  else d

/-- All links go down. -/
def Dev.downLinks (d : Dev) (cause : Nat) : Dev := (List.finRange 3).foldl (fun (d : Dev) (l : Link) => d.downLink l cause) d

/-! ## Idleness (R316) -/

/-- The drive is idle. -/
def Dev.idle (d : Dev) : Bool :=
  d.que.caps.isEmpty && d.net.sessions.all (fun s => s.replyQ.isEmpty) &&
    d.que.drift.all (fun v => v.onMedium) && d.med.progs.all (fun p => decide (5 ≤ progPriority p.stream)) &&
    (d.med.running ++ d.med.waiting).all (fun o => decide (5 ≤ o.priority)) && d.running.isEmpty

/-! ## Entry (R315, R317) -/

/-- The event of an entry (R337). -/
def Dev.rungEntered (d : Dev) (r : Rung) (cause : Nat) : Dev :=
  ({ d with pow := { d.pow with rung := r } }).raise Ev.rungEnter r.num cause (d.advertised r 0) (d.advertised r 1)

/-- The Frost actions (R317). -/
def Dev.frostActions (d : Dev) : Dev :=
  let d1 := d.rungNotice .frost
  let d2 := ({ d1 with par := { d1.par with closing := true } }).endAll 11
  let d3 := (List.finRange 4).foldl (fun (d : Dev) (b : BayNo) =>
    if d.inService b then (d.writeSlot b 2).quiesceSteps b else d) d2
  let d4 : Dev := { d3.persistTime with
    gale := { d3.galeStart with rows := [] },
    bays := d3.bays.map (fun (b : Bay) => { b with held := b.present && !b.latchOpen, railsOn := false }) }
  d4.downLinks 4

/-- The Glaze actions after those of Frost (R317): the checkpoint, the persisted time, Vane off. -/
def Dev.glazeActions (d : Dev) : Dev :=
  let d1 := d.checkpoint.persistTime
  { d1 with
    mgmt := { d1.mgmt with vaneUp := false, conns := [] } }

/-- Descends to a rung from the one above or any higher one, with the actions of those passed (R317). The Barograph is flushed
before the actions of Frost and Glaze (R361). -/
def Dev.descend (d : Dev) (r : Rung) (cause : Nat) : Dev :=
  let from_ := d.pow.rung.num
  let d0 := if 3 ≤ r.num then d.baroFlush 4 else d
  let d1 := if from_ < 1 ∧ 1 ≤ r.num then d0.rungNotice .haze else d0
  let d2 := if from_ < 2 ∧ 2 ≤ r.num then d1.rungNotice .fog else d1
  let d3 := if from_ < 3 ∧ 3 ≤ r.num then d2.frostActions else d2
  let d4 := if from_ < 4 ∧ 4 ≤ r.num then d3.glazeActions else d3
  d4.rungEntered r cause

/-! ## Exit (R318 to R320) -/

/-- A cartridge whose presence did not drop serves again; any other bay begins anew (R318). -/
def Dev.bayBack (d : Dev) (b : BayNo) : Dev :=
  let y := d.bays.get b
  if y.held then d.modBay b (fun y => { y with railsOn := y.state.serving })
  else if y.present then (d.modBay b (fun y => y.powered)).challenge b
  else if y.state.serving || y.state == .quiesced then
    (d.modBay b (fun y => { y with state := .missing, resume := .inService })).raise (Ev.cartRemoved (baySrc b)) 1 y.cutFailed y.cutLost 0
  else d

/-- Leaves Frost (R318). -/
def Dev.exitFrost (d : Dev) (trigger : Nat) : Dev :=
  let (us, d1) := d.measureExit .frost
  let d2 : Dev := { d1 with pow := { d1.pow with rung := .clear }, par := { d1.par with closing := false }, gale := d1.galeStart }
  let d3 := (List.finRange 4).foldl (fun (d : Dev) (b : BayNo) => d.bayBack b) d2
  (d3.raise Ev.rungExit 3 trigger us 0).refreshMode 2

/-- Leaves Glaze (R317, R320): Vane boots, volatile state is as after a reset, the index comes from its checkpoint. -/
def Dev.exitGlaze (d : Dev) (trigger : Nat) : Dev :=
  let (us, d1) := d.measureExit .glaze
  let d2 := d1.wipe
  let d3 : Dev := { d2 with
    mgmt := { d2.mgmt with vaneUp := true, conns := [], pldmReceiver := none, pldmQueue := [], eid := 0 },
    idx := { d2.idx with buckets := d2.idx.buckets.map (fun (b : Bucket) => { b with
      cached := false, reading := false, prefetched := false, fpValid := true, twinOnce := none }) } }
  let d4 := (List.finRange 4).foldl (fun (d : Dev) (b : BayNo) => d.bayBack b) d3.loadSettings
  let d5 := { d4 with gale := d4.galeStart }.recomputePools
  ((d5.raise Ev.rungExit 4 trigger us 0).setSource .rtc 0).refreshMode 2

/-- A wake trigger (R318): out of Haze, Fog, Frost or Glaze into Clear. A thermal stop holds the drive in Frost (R326). -/
def Dev.wake (d : Dev) (trigger : Nat) : Dev :=
  match d.pow.rung with
  | .clear => d
  | .haze | .fog => d.wakeLight trigger
  | .frost => if d.pow.stopped then d else d.exitFrost trigger
  | .glaze => d.exitGlaze trigger

/-- A wake trigger that needs the drive to be on (R318, R461). -/
def Dev.wakeIf (d : Dev) (trigger : Nat) : Dev :=
  if d.par.run == .running && d.pow.failing.isNone && d.pow.pwrEn then d.wake trigger else d

/-- Internal work that is due wakes the drive from Haze, Fog and Frost; from Glaze the RTC alarm does (R318). -/
def Dev.wakeWork (d : Dev) (due : Bool) : Dev := if due && d.pow.rung != .glaze then d.wakeIf 6 else d

/-! ## Clocks (R333) -/

/-- The clocks of the table. -/
inductive ClockName
  | crystal | pll | ckCore | ckDram | ckMedia | ckFab | ckSrch | ckMgmt | ckTick
  deriving DecidableEq, Repr

/-- How a clock stands. `lull`: CK_FAB for the port complex and the Lull buffer only; `phy`: from the management PHY's PLL; `rtc`: the
RTC counts at 1 kHz. -/
inductive ClockState
  | on | gated | off | lowPower | lull | phy | rtc
  deriving DecidableEq, Repr

/-- The clocks on a rung. -/
def Rung.clock (r : Rung) (c : ClockName) : ClockState :=
  match c, r with
  | .crystal, .glaze => .lowPower
  | .crystal, _ => .on
  | .pll, .frost | .pll, .glaze => .off
  | .pll, _ => .on
  | .ckTick, .frost => .phy
  | .ckTick, .glaze => .rtc
  | .ckTick, _ => .on
  | .ckMgmt, .frost => .phy
  | .ckMgmt, .glaze => .off
  | .ckMgmt, _ => .on
  | .ckSrch, .fog => .gated
  | .ckFab, .fog => .lull
  | .ckFab, .haze | .ckDram, .haze => .on
  | _, .clear => .on
  | _, .haze => .gated
  | _, _ => .off

end Sys2Proof.Machine
end

