-- ==== Sys2Proof/Machine/Reset.lean ====
section
/-! DEFINITION. What waits for a drain (R435): requested resets, activation (R414), life-cycle transitions (R388), the orderly
shutdown (R438), the thermal stop (R326); and the power-fail sequence (R330, R331). -/

namespace Sys2Proof.Machine

/-- Every buffered version is on medium. -/
def Dev.driftOut (d : Dev) : Bool := d.que.drift.all (fun v => v.onMedium)

/-- Capsules sequenced earlier have completed and early-acknowledged content is flushed; `me`: the capsule that waits for it. -/
def Dev.drained (d : Dev) (me : Option Nat) : Bool :=
  d.driftOut && d.que.caps.all (fun c => c.seq == 0 || me == some c.seq)

/-- Answers a capsule that has waited, if it still stands. -/
def Dev.answer (d : Dev) (seq : Option Nat) (r : Reply) : Dev :=
  match seq with
  | none => d
  | some s => match d.capBySeq s with
    | some c => d.finishFree c r
    | none => d

/-! ## Activation (R414) -/

/-- Steps 3 to 6 of an activation of the set in the inactive slot; `kind` and `who` name its source. -/
def Dev.activate (d : Dev) (seq : Option Nat) (kind who : Nat) : Dev :=
  match d.upd.active with
  | none => d
  | some r =>
    let d1 := d.baroFlush 4
    let slot := d1.upd.otherSlot
    let release := d1.upd.release slot
    let half := 1 - r.half % 2
    let trial := d1.pnum P.updateTrialH * 3600
    let now := d1.clk.ns
    let lease : Lease := match d1.upd.lease with
      | some l => { l with last := now }
      | none => { holder := ⟨kind, who⟩, since := now, last := now }
    let d2 : Dev := { d1 with
      par := d1.par.writeHalf half d1.par.gen d1.par.image,
      upd := { d1.upd.writeActive { r with
        slot := BitVec.ofNat 8 slot.val, trial := 1, boots := 0, maxBoots := d1.pnum P.updateBootAttempts, half := half,
        deadline := now + trial * 1000000000, release := release, previous := r.release, digest := pkgDigest (d1.upd.pkg slot) } with
          state := 4, lease := some lease,
          source := some (d1.upd.source.getD ⟨kind, who⟩), started := if d1.upd.started = 0 then now else d1.upd.started } }
    let d3 := (d2.answer seq (Reply.plain Status.ok)).raise Ev.updActivate release r.release slot.val trial
    (d3.endAll 13).controllerReset Ev.updActivate.code true

/-! ## Life-cycle transitions (R388) -/

/-- Steps 3 to 9 of a transition. -/
def Dev.lcFinish (d : Dev) (r : LcRun) : Dev :=
  let t := lcTarget r.op r.final
  let old := d.sec.lcByte
  let d1 := d.baroFlush 4
  let d2 : Dev := ({ d1 with sec := d1.sec.writeLc old t } : Dev).lcActs t r.payload
  let d3 := ({ d2 with sec := d2.sec.writeLc t 0 } : Dev).raise Ev.lcChange old.toNat t.toNat r.requester.toNat 1
  let d4 := (d3.answer (some r.seq) (Reply.okData (if r.op = 9 then zeroBytes 64 else []))).endAll 15
  ({ d4 with sec := { d4.sec with run := none } } : Dev).wipeLc.controllerReset Ev.lcChange.code false

/-- A transition may go on past step 2: DECOMMISSION waits for a sanitise that erases (R397). -/
def Dev.lcReady (d : Dev) (r : LcRun) : Bool := d.drained (some r.seq) && !(r.op == 10 && d.sec.sanitise.any SanRec.open_)

/-! ## The orderly shutdown (R438) -/

/-- Steps 3 and 4 of a shutdown: the event is raised before the flush that takes it to the persistent ring (log entry 44). -/
def Dev.shutdownEnd (d : Dev) (since : Nat) : Dev :=
  let d1 := d.checkpoint.raise Ev.shutdown 1 ((d.clk.tick - since) / 1000) 0 0
  let d2 := d1.baroFlush 4
  let d3 := (List.finRange 4).foldl (fun (d : Dev) (b : BayNo) => if d.inService b then d.writeSlot b 2 else d) d2
  let d4 := d3.persistTime.endAll 12
  let link (l : LinkState) : LinkState := { l with up := false }
  let d5 : Dev := { d4 with
    net := { d4.net with links := d4.net.links.map link },
    par := { d4.par with run := .off, shutdownSince := none, closing := false },
    mgmt := { d4.mgmt with vaneUp := false, conns := [], linkUp := false } }
  if d5.pow.pwrEn && d5.pow.p12v && d5.pow.aux3v3 then d5.powerOnStart else d5

/-! ## The power-fail sequence (R330, R331) -/

/-- The versions to be flushed: acknowledged early and not on medium, and their predecessors on each key (R329, R330). -/
def Queue.flushList (q : Queue) : List Nat :=
  (q.drift.filter (fun v => !v.onMedium && (v.early ||
    q.drift.any (fun w => w.early && !w.onMedium && w.ns == v.ns && w.hash == v.hash && decide (v.seq < w.seq))))).map (·.seq)

/-- The programs of a version: its value's and its journal record's. -/
def Dev.flushProgs (d : Dev) (l : List Nat) (p : Prog) : Bool :=
  match p.what with
  | .value s => l.contains s
  | .journal c => d.que.drift.any (fun v => l.contains v.seq && (d.jrec? v.jseq).any (·.ref == c))
  | _ => false

/-- The rows of a cartridge that are open, with their first pages and the pages of a wordline. -/
def Bay.openRows (b : Bay) : List ((Nat × Nat × Nat) × Nat) :=
  (b.bands.filter (fun x => x.isOpen && decide (b.rowStart x (b.rowAt x x.next) < x.next))).map (fun x =>
    ((x.group, x.block, b.rowAt x x.next), x.stream.wordlines * x.mode.pages))

/-- Step 8: the running parity of every open row, a page of 16 chunks for each of its pages, is programmed to the reserved stream at priority 1
(R211, R233, R330). -/
def Dev.saveRows (d : Dev) : Dev :=
  (List.finRange 4).foldl (fun (d : Dev) (bay : BayNo) =>
    let rows := (d.bays.get bay).openRows
    if d.inService bay && !rows.isEmpty then
      (((d.writeReserved [bay] (16 * (rows.map (·.2)).sum)).setPriority .reservedItem 1).passItem .reservedItem).modBay bay (fun b => { b with
        savedRows := rows.map (·.1) })
    else d) d

/-- Steps 8 to 10: the open rows' parity, the records of Vane, then the rails. In Frost and Glaze the Barograph ring is not flushed (R361). -/
def Dev.failEnd (d : Dev) (f : FailSeq) : Dev :=
  let d1 := if d.pow.rung.num ≤ 2 then ((d.saveRows.baroFlush 3).setPriority .reservedItem 1).passItem .reservedItem else d
  let (e, d2) := d1.draw
  let d3 : Dev := { d2 with
    pow := { d2.pow with
      failing := none, tripRecord := f.trip,
      failRecord := some { energy := e.toNat % 2 ^ 16, timeMs := (d2.clk.tick - f.since) / 1000, flushed := f.flushed, lost := f.lost } },
    par := { d2.par with run := f.thenHalt, shutdownSince := none, pendingReset := none, closing := false },
    mgmt := { d2.mgmt with vaneUp := d2.pow.aux3v3 && d2.pow.pwrEn, conns := if d2.pow.aux3v3 then d2.mgmt.conns else [] } }
  match f.thenHalt with
  | .haltedPll =>
    let (x, d4) := d3.draw
    if x.getLsbD 0 then
      ({ d4 with pow := { d4.pow with pllOk := true, failRecord := none } } : Dev).controllerReset Ev.pllUnlock.code false
    else { d4 with pow := { d4.pow with pllOk := false, failRecord := none }, mgmt := { d4.mgmt with vaneUp := true } }
  | .off =>
    if d3.pow.pwrEn && d3.pow.p12v && d3.pow.aux3v3 && !d3.pow.pwrFail then d3.powerOnStart else d3
  | _ => d3

/-- The sequence ends once every flushed writer is on medium or lost (step 7). -/
def Dev.failCheck (d : Dev) : Dev :=
  match d.pow.failing with
  | none => d
  | some f =>
    if f.flush.all (fun s => match d.ver? s with
      | some v => v.onMedium
      | none => true) then d.failEnd { f with flushed := f.flush.length - f.lost } else d

/-- Steps 1 to 4 of the sequence: sessions end without a CLOSE, links drop, everything but the flush and the programs that run is
abandoned. `thenHalt`: where the drive stands at the end. -/
def Dev.powerFail (d : Dev) (thenHalt : RunState) (trip : Option (Nat × Nat × Int)) : Dev :=
  match d.pow.failing with
  | some _ => d
  | none =>
    let l := d.que.flushList
    let link (x : LinkState) : LinkState := { x with up := false }
    let d1 := d.endAll 14
    let d2 : Dev := ({ d1 with net := { d1.net with links := d1.net.links.map link } } : Dev).raise Ev.powerFail d.pow.rung.num
      (d.que.earlyContent / 1048576) (d.que.earlyPredecessors / 1048576) 0
    let d3 := d2.abandonBatches (fun _ => true)
    let runs (id : Nat) : Bool := d3.med.running.any (fun o => o.id == id)
    let keep (p : Prog) : Bool := d3.flushProgs l p || runs p.id
    let ids := (d3.med.progs.filter keep).map (·.id)
    let flushIds := (d3.med.progs.filter (fun p => d3.flushProgs l p)).map (·.id)
    let d4 : Dev := { d3 with
      med := { d3.med with
        erases := [], reads := [], progs := d3.med.progs.filter keep,
        running := d3.med.running.filter (fun o => ids.contains o.id),
        waiting := (d3.med.waiting.filter (fun o => flushIds.contains o.id)).map (fun (o : GovOp) => { o with priority := 1 }) },
      pow := { d3.pow with
        failing := some { since := d3.clk.tick, flush := l, flushed := 0, lost := 0, thenHalt := thenHalt, trip := trip },
        bank := { d3.pow.bank with testRunning := false, testWaiters := [] } },
      par := { d3.par with shutdownSince := none, pendingReset := none } }
    d4.failCheck

/-! ## What is performed once the drain is over -/

/-- Performs the requested reset, transition, shutdown or thermal stop whose drain is over (R326, R388, R414, R435, R438). -/
def Dev.performPending (d : Dev) : Dev :=
  if d.pow.failing.isSome then d.failCheck
  else if d.par.run != .running then d
  else match d.par.pendingReset with
    | some .commit => if d.drained none then ((d.baroFlush 4).endAll 13).controllerReset 0 false else d
    | some (.integrity code region addr) =>
      if d.driftOut then
        ((d.raise Ev.integrityStop region (addr / 2 ^ 32) (addr % 2 ^ 32) 0).endAll 13).controllerReset code false
      else d
    | some (.activation s k w) => if d.drained s then d.activate s k w else d
    | some .trial => if d.driftOut then (d.endAll 13).controllerReset Ev.vaneRestart.code true else d
    | some .reversion => if d.drained none then ((d.baroFlush 4).endAll 13).controllerReset Ev.updReverted.code true else d
    | some (.recovery s) =>
      if d.drained s then (((d.baroFlush 4).answer s (Reply.plain Status.ok)).endAll 13).enterRecovery 3 else d
    | none => match d.sec.run with
      | some r => if d.lcReady r then d.lcFinish r else d
      | none => match d.par.shutdownSince with
        | some t => if d.drained none then d.shutdownEnd t else d
        | none =>
          if d.pow.stopped && decide (d.pow.rung.num ≤ 2) && d.driftOut then d.descend .frost 3 else d

/-- Starts an integrity stop (R274) unless one drains already; `code`: of the event that caused it. -/
def Dev.integrityStop (d : Dev) (code region addr : Nat) : Dev :=
  if d.par.run != .running || d.pow.failing.isSome then d
  else match d.par.pendingReset with
    | some (.integrity _ _ _) => d
    | _ => (({ d with par := { d.par with pendingReset := some (.integrity code region addr) } } : Dev).bump
        (.drive .integrityStops) 1).performPending

end Sys2Proof.Machine
end

