-- ==== Sys2Proof/Machine/Admin.lean ====
section
/-! DEFINITION. How the admin opcodes execute (R71, R122): dispatch, the block each carries, the reply. -/

namespace Sys2Proof.Machine

/-- Runs an admin opcode: `mine` says whether the sequenced capsule is the one that the row of the opcode table describes; a block
that no row of its opcode describes is answered by each of them. -/
def Dev.admin (d : Dev) (seq : Nat) (op : BitVec 16) (mine : Cap → Bool) (f : Cap → Dev → Dev) : Dev :=
  match d.capBySeq seq with
  | none => d
  | some c => if mine c then d.dispatch seq (fun h => h.opcode == op) f else d

/-- The op byte of a block is the row's, or none of the opcode's. -/
def opIs (known : List Nat) (op : Nat) (c : Cap) : Bool :=
  c.value.field 0 1 == op || !known.contains (c.value.field 0 1) || c.value.isEmpty

/-- A reply with a status alone to an admin opcode. -/
def Dev.fail (d : Dev) (c : Cap) (st : BitVec 16) : Dev := d.adminReply c (Reply.plain st)

/-- `OK` with data to an admin opcode. -/
def Dev.okWith (d : Dev) (c : Cap) (b : Bytes) : Dev := d.adminReply c (Reply.okData b)

/-- An admin opcode goes on unless a check fails with a status. -/
def Dev.check (d : Dev) (c : Cap) (st : Option (BitVec 16)) (f : Dev → Dev) : Dev :=
  match st with
  | some x => d.fail c x
  | none => f d

/-- A capsule takes an event's parameter for its credential (R378). -/
def Cap.cred (c : Cap) : Nat := c.tenant.toNat

/-- Rounds a length up to a multiple of eight bytes. -/
def pad8 (n : Nat) : Nat := 8 * ceilDiv n 8

end Sys2Proof.Machine
end

