-- ==== Sys2Proof/Machine/Settings.lean ====
section
/-! DEFINITION. `IDENTIFY` (R352), the parameters (R439 to R444) and the self-test (R446). -/

namespace Sys2Proof.Machine

/-! ## IDENTIFY (R352) -/

/-- The part_version of a part of a package's manifest (R402). -/
def partVersion (b : Bytes) (typ : Nat) : Nat :=
  ((List.range 5).foldl (fun (v : Nat) (i : Nat) => if b.field (0x40 + 64 * i) 1 == typ then b.field (0x44 + 64 * i) 4 else v) 0)

/-- The 256 bytes of `IDENTIFY` before the chain. -/
def Dev.identifyBlock (d : Dev) : Bytes :=
  let p := d.upd.pkg d.upd.activeSlot
  let bays := (List.finRange 4).foldl (fun (n : Nat) (b : BayNo) =>
    if (d.bays.get b).state == .inService then n + 2 ^ b.val else n) 0
  [0x46, 0x4B, 0x34, 0x2D, 0x41] ++ List.replicate 11 0x20 ++ natToBytesBE 16 Config.driveSerial.toNat ++ [0x42, d.sec.lcByte] ++
    natToBytesBE 1 d.par.mode ++ natToBytesBE 1 d.clk.source.rank ++ natToBytesBE 2 (d.pnum P.indexNodeId) ++
    natToBytesBE 2 bays ++ natToBytesBE 4 (partVersion p 1) ++ natToBytesBE 4 (partVersion p 2) ++ natToBytesBE 4 (partVersion p 3) ++
    natToBytesBE 4 (partVersion p 4) ++ natToBytesBE 4 (partVersion p 5) ++ natToBytesBE 4 (pkgSecver p) ++
    natToBytesBE 8 d.userCapacity ++ natToBytesBE 8 d.clk.ns ++ natToBytesBE 32 (Config.sha256 Config.identityChain).toNat ++
    natToBytesBE 4 Config.identityChain.length ++ zeroBytes 140

def identifyEff (seq : Nat) (d : Dev) : Dev :=
  d.admin seq Op.identify (fun _ => true) (fun c d => d.okWith c (d.identifyBlock ++ Config.identityChain))

/-- IDENTIFY (R352). -/
def execIdentify (seq : Nat) (s : State) : Host.Outcome State Fault Refusal := s.run (identifyEff seq)

/-! ## The entries of a block (R440) -/

/-- An entry of a request: ID, value_length, class, state and value. -/
structure PEntry where
  id : Nat
  len : Nat
  cls : Nat
  st : Nat
  value : Bytes
  deriving DecidableEq, Repr

/-- Reads `n` entries that fill a run of bytes; nothing where they do not. -/
def readEntries (bs : Bytes) : Nat → Option (List PEntry)
  | 0 => if bs.isEmpty then some [] else none
  | n + 1 =>
    let l := bs.field 4 2
    if bs.length < 8 + pad8 l then none
    else (readEntries (bs.drop (8 + pad8 l)) n).map (fun rest =>
      ⟨bs.field 0 4, l, bs.field 6 1, bs.field 7 1, (bs.drop 8).take l⟩ :: rest)

/-- An entry of a reply. -/
def putEntry (id cls st : Nat) (v : Bytes) : Bytes :=
  natToBytesBE 4 id ++ natToBytesBE 2 v.length ++ natToBytesBE 1 cls ++ natToBytesBE 1 st ++ v ++ zeroBytes (pad8 v.length - v.length)

/-- The 16 bytes of a reply to `SET_PARAM` and `COMMIT_STAGED`. -/
def Dev.settingsReply (d : Dev) (n : Nat) : Bytes := natToBytesBE 8 d.par.gen ++ natToBytesBE 4 n ++ zeroBytes 4

/-! ## GET_PARAM (R442) -/

/-- The value of a parameter as it reads: `mode.selftest_run` gives the kind that runs (R446). -/
def Dev.readValue (d : Dev) (id : Nat) : Bytes :=
  if id == P.modeSelftestRun then num8 (match d.par.selfTest with
    | some t => t.kind
    | none => 0)
  else d.par.value id

/-- The state byte of a parameter (R440). -/
def Dev.paramState (d : Dev) (r : PRow) : Nat :=
  (d.par.staged.any (fun e => e.1 == r.id)).toNat + 2 * (r.cls == 3 && d.par.selfTest.isSome).toNat +
    4 * (d.par.committed.any (fun e => e.1 == r.id)).toNat

/-- One entry of the reply. -/
def Dev.paramEntry (d : Dev) (staged : Bool) (r : PRow) : Bytes :=
  let v := if staged then (match d.par.staged.lookup r.id with
    | some v => v
    | none => d.readValue r.id) else d.readValue r.id
  putEntry r.id r.cls (d.paramState r) v

/-- The rows that a request names; nothing where one is unknown. -/
def rowsOf : List PEntry → Option (List PRow)
  | [] => some []
  | e :: rest => match paramRow e.id, rowsOf rest with
    | some r, some l => some (r :: l)
    | _, _ => none

/-- A request's entry is empty of everything but the ID. -/
def PEntry.bare (e : PEntry) : Bool := e.len == 0 && e.cls == 0 && e.st == 0

/-- `GET_PARAM` executes. -/
def getParamGo (c : Cap) (d : Dev) : Dev :=
  let b := c.value
  let n := b.field 0 2
  match if b.length < 8 then none else readEntries (b.drop 8) n with
  | none => d.fail c Status.badLength
  | some es =>
    if 1 < b.field 2 1 || !b.zeroAt 3 5 || 1024 < n || !es.all PEntry.bare then d.fail c Status.badField
    else match if n = 0 then some paramTable else rowsOf es with
      | none => d.fail c Status.badField
      | some rs => d.okWith c (natToBytesBE 2 rs.length ++ (b.drop 2).take 6 ++ rs.flatMap (d.paramEntry (b.field 2 1 == 1)))

def getParamEff (seq : Nat) (d : Dev) : Dev := d.admin seq Op.getParam (fun _ => true) getParamGo

/-- GET_PARAM (R442). -/
def execGetParam (seq : Nat) (s : State) : Host.Outcome State Fault Refusal := s.run (getParamEff seq)

/-! ## SET_PARAM (R441) -/

/-- What the entries before have done to what the checks look at: the values in force, the IDs named, whether a self-test runs. -/
structure PScan where
  values : List (Nat × Bytes)
  seen : List Nat
  testing : Bool

/-- The range that names another parameter: the urgent mark of folding lies above the low mark (R236). -/
def marksOk (c : Conf) (vs : List (Nat × Bytes)) (id : Nat) : Bool :=
  let v (i : Nat) : Nat := (({ c with values := vs } : Conf).value i).toNatBE
  !(id == P.mediaFoldLowMark || id == P.mediaFoldUrgentMark) || decide (v P.mediaFoldLowMark < v P.mediaFoldUrgentMark)

/-- Checks 1 to 3 on one entry, and the scan behind it; a start of a self-test is left to the matrix. -/
def scanEntryP (c : Conf) (a : PScan) (e : PEntry) : BitVec 16 ⊕ PScan :=
  match paramRow e.id with
  | none => .inl Status.badField
  | some r =>
    let vs := if r.cls == 2 then a.values else setEntry a.values e.id e.value
    if a.seen.contains e.id || e.cls != 0 || e.st != 0 then .inl Status.badField
    else if 256 < e.len || !r.kind.ok e.value || !marksOk c vs e.id then .inl Status.badField
    else if r.cls == 3 && a.testing then .inl Status.paramLocked
    else .inr ⟨vs, e.id :: a.seen,
      if e.id == P.modeSelftestRun then (a.testing || decide (1 ≤ e.value.toNatBE)) && e.value.toNatBE != 3 else a.testing⟩

/-- Checks every entry in order; the first that fails with its status and its index. -/
def Dev.scanBlock (d : Dev) (a : PScan) (i : Nat) : List PEntry → Option (BitVec 16 × PEntry × Nat) × Dev
  | [] => (none, d)
  | e :: rest =>
    match scanEntryP d.par a e with
    | .inl st => (some (st, e, i), d)
    | .inr a1 =>
      if e.id == P.modeSelftestRun && (e.value.toNatBE == 1 || e.value.toNatBE == 2) then
        match d.maint .self with
        | (.b, d1) => (some (Status.busyMaintenance, e, i), d1)
        | (_, d1) => d1.scanBlock a1 (i + 1) rest
      else d.scanBlock a1 (i + 1) rest

/-- A self-test ends: completed, or stopped (R446). -/
def Dev.selfTestEnd (d : Dev) (stopped : Bool) (faults : Nat) : Dev :=
  match d.par.selfTest with
  | none => d
  | some t =>
    ({ d with par := { d.par with selfTest := none } } : Dev).raise Ev.selftestDone (t.kind + if stopped then 2 else 0) t.scope
      faults ((d.clk.tick - t.since) / 1000000)

/-- `mode.selftest_run` is written (R446). How many faults a stopped test has found is a free value (log entry 2). The diagnostic windows in scope hold the test's pattern from here on (log entry 45). -/
def Dev.selfTestWrite (d : Dev) (v : Nat) : Dev :=
  if v == 3 then
    match d.par.selfTest with
    | some _ => (let (x, d1) := d.draw; d1.selfTestEnd true (x.toNat % 2 ^ 32))
    | none => d
  else if v == 1 || v == 2 then
    let scope := d.pnum P.modeSelftestScope
    { d with par := { d.par with selfTest := some ⟨v, scope, d.clk.tick⟩ },
             mem := if scope.testBit 4 then { d.mem with diag := [], diagSeed := Vector.replicate 2 (some (d.fresh + 1)) } else d.mem,
             fresh := d.fresh + 1 }
  else d

/-- What a value now in force sets going in its owner. -/
def Dev.paramApplied (d : Dev) (id : Nat) : Dev :=
  if id == P.queueEarlyAckEnable || id == P.queueEarlyAckLimit then d.refreshEarly
  else if id == P.transportPoolShares then d.recomputePools
  else if id == P.powerFloor then
    { d with pow := { d.pow with armed := min d.pow.armed (d.pnum P.powerFloor) } }
  else d

/-- Applies one entry of an accepted block. -/
def Dev.applyEntry (d : Dev) (cred : Nat) (e : PEntry) : Dev :=
  match paramRow e.id with
  | none => d
  | some r =>
    let d1 : Dev :=
      if r.cls == 2 then { d with par := { d.par with staged := setEntry d.par.staged e.id e.value } }
      else if e.id == P.modeSelftestRun then d.selfTestWrite e.value.toNatBE
      else ({ d with par := { d.par with values := setEntry d.par.values e.id e.value } } : Dev).paramApplied e.id
    d1.raise Ev.paramChange e.id r.cls 1 cred

/-- A row of an entry that is not STAGED. -/
def PEntry.live (e : PEntry) : Bool :=
  match paramRow e.id with
  | some r => r.cls != 2
  | none => false

/-- `SET_PARAM` executes. -/
def setParamGo (c : Cap) (d : Dev) : Dev :=
  let b := c.value
  match if b.length < 8 then none else readEntries (b.drop 8) (b.field 0 2) with
  | none => d.fail c Status.badLength
  | some es =>
    if b.field 0 2 == 0 || 1024 < b.field 0 2 || !b.zeroAt 2 6 then d.fail c Status.badField
    else match d.scanBlock ⟨d.par.values, [], d.par.selfTest.isSome⟩ 0 es with
      | (some (st, e, i), d1) => (d1.raise Ev.paramRefused e.id st.toNat c.cred i).fail c st
      | (none, d1) =>
        let d2 := es.foldl (fun (d : Dev) (e : PEntry) => d.applyEntry c.cred e) d1
        let d3 := if es.any PEntry.live then d2.writeSettings else d2
        d3.okWith c (d3.settingsReply d3.par.staged.length)

/-- The value that a block writes to `mode.selftest_run`; 0 where it writes none of 1, 2 and 3. -/
def Cap.selftestValue (c : Cap) : Nat :=
  match if c.value.length < 8 then none else readEntries (c.value.drop 8) (c.value.field 0 2) with
  | none => 0
  | some es => match es.find? (fun e => e.id == P.modeSelftestRun) with
    | some e => if e.value.toNatBE ≤ 3 then e.value.toNatBE else 0
    | none => 0

def setParamEff (seq : Nat) (d : Dev) : Dev := d.admin seq Op.setParam (fun c => c.selftestValue == 0) setParamGo

/-- SET_PARAM (R441). -/
def execSetParam (seq : Nat) (s : State) : Host.Outcome State Fault Refusal := s.run (setParamEff seq)

def selftestShortEff (seq : Nat) (d : Dev) : Dev := d.admin seq Op.setParam (fun c => c.selftestValue == 1) setParamGo

/-- SELFTEST_SHORT (R446): a `SET_PARAM` that writes `mode.selftest_run` 1. -/
def execSelftestShort (seq : Nat) (s : State) : Host.Outcome State Fault Refusal := s.run (selftestShortEff seq)

def selftestExtendedEff (seq : Nat) (d : Dev) : Dev := d.admin seq Op.setParam (fun c => c.selftestValue == 2) setParamGo

/-- SELFTEST_EXTENDED (R446): a `SET_PARAM` that writes `mode.selftest_run` 2. -/
def execSelftestExtended (seq : Nat) (s : State) : Host.Outcome State Fault Refusal := s.run (selftestExtendedEff seq)

def selftestStopEff (seq : Nat) (d : Dev) : Dev := d.admin seq Op.setParam (fun c => c.selftestValue == 3) setParamGo

/-- SELFTEST_STOP (R446): a `SET_PARAM` that writes `mode.selftest_run` 3. -/
def execSelftestStop (seq : Nat) (s : State) : Host.Outcome State Fault Refusal := s.run (selftestStopEff seq)

def selftestDoneEff (faults : Nat) (d : Dev) : Dev := d.selfTestEnd false faults

/-- SELFTEST_DONE (R446): the test that runs completes, with the faults it has found. -/
def execSelftestDone (faults : Nat) (s : State) : Host.Outcome State Fault Refusal := s.run (selftestDoneEff faults)

/-! ## COMMIT_STAGED (R443) -/

/-- The sum of the floors of the policy (R184). -/
def Policy.floorSum (p : Policy) : Nat := (p.tenants.map (·.floor)).sum

/-- The staged set passes checks 2 of R441 and R195. -/
def Dev.stagedOk (d : Dev) : Bool :=
  d.par.staged.all entryOk && (match d.par.staged.lookup P.galeFloorReferenceMbps with
    | some v => decide (d.pol.floorSum ≤ v.toNatBE)
    | none => true)

/-- The staged set becomes committed: the image is written, the set is empty (R443 steps 1 and 2). -/
def Dev.commitStaged (d : Dev) (cred : Nat) : Dev :=
  let st := d.par.staged.reverse
  let d1 : Dev := { d with par := { d.par with
    staged := [],
    committed := d.par.committed.filter (fun e => !st.any (fun x => x.1 == e.1)) ++ st.map (fun x => (x.1, x.2, cred)) } }
  st.foldl (fun (d : Dev) (x : Nat × Bytes) => d.raise Ev.paramChange x.1 2 2 cred) d1.writeSettings

/-- Parameters whose commit retrains data port 0, data port 1 or both (R443). -/
def retrains (p : Port) (id : Nat) : Bool :=
  [P.transportUdpPort, P.transportVlanId, P.transportPfcPriorities, P.transportEtsTable].contains id ||
    (if p = 0 then [P.transportPort0Mode, P.transportPort0Ipv4, P.transportPort0Ipv6].contains id
     else [P.transportPort1Mode, P.transportPort1Ipv4, P.transportPort1Ipv6].contains id)

/-- Parameters that apply at once (R443). -/
def appliesAtOnce (id : Nat) : Bool :=
  [P.transportSessionMax, P.transportPoolShares, P.queueEarlyAckLimit, P.indexMpUploadsMax, P.updateRecoveryServer,
    P.updateRecoveryFile].contains id

/-- A data port retrains (R59): its sessions end and its link goes down. -/
def Dev.retrain (d : Dev) (p : Port) : Dev := (d.endPort p 10).downLink p.castSucc 3

/-- The safe points that a commit itself reaches (R443). -/
def Dev.commitPoints (d : Dev) : Dev :=
  let ids := d.par.committed.map (·.1)
  let d1 := d.applyCommitted appliesAtOnce
  let d2 := (ids.filter appliesAtOnce).foldl (fun (d : Dev) (i : Nat) => d.paramApplied i) d1
  [(0 : Port), 1].foldl (fun (d : Dev) (p : Port) => if ids.any (retrains p) then d.retrain p else d) d2

/-- `COMMIT_STAGED` executes. -/
def commitGo (c : Cap) (d : Dev) : Dev :=
  match c.hdr.offset.toNat with
  | 0 =>
    if d.stagedOk then
      let n := d.par.staged.length
      let d1 := d.commitStaged c.cred
      (d1.okWith c (d1.settingsReply n)).commitPoints
    else d.fail c Status.badField
  | 1 =>
    if d.stagedOk then
      let n := d.par.staged.length
      let d1 := d.commitStaged c.cred
      let d2 := d1.okWith c (d1.settingsReply n)
      ({ d2 with par := { d2.par with pendingReset := some (d2.par.pendingReset.getD .commit) } } : Dev).performPending
    else d.fail c Status.badField
  | 2 =>
    let d1 : Dev := { d with par := { d.par with staged := [] } }
    d1.okWith c (d1.settingsReply 0)
  | _ => d.fail c Status.badField

/-- The scalar of the capsule is the row's, or none of the opcode's. -/
def scalarIs (n last : Nat) (c : Cap) : Bool := c.hdr.offset.toNat == n || decide (last < c.hdr.offset.toNat)

def commitStagedCommitEff (seq : Nat) (d : Dev) : Dev := d.admin seq Op.commitStaged (scalarIs 0 2) commitGo

/-- COMMIT_STAGED_COMMIT (R443). -/
def execCommitStagedCommit (seq : Nat) (s : State) : Host.Outcome State Fault Refusal := s.run (commitStagedCommitEff seq)

def commitAndResetEff (seq : Nat) (d : Dev) : Dev := d.admin seq Op.commitStaged (scalarIs 1 2) commitGo

/-- COMMIT_AND_RESET (R443). -/
def execCommitAndReset (seq : Nat) (s : State) : Host.Outcome State Fault Refusal := s.run (commitAndResetEff seq)

def commitStagedDiscardEff (seq : Nat) (d : Dev) : Dev := d.admin seq Op.commitStaged (scalarIs 2 2) commitGo

/-- COMMIT_STAGED_DISCARD (R443). -/
def execCommitStagedDiscard (seq : Nat) (s : State) : Host.Outcome State Fault Refusal := s.run (commitStagedDiscardEff seq)

end Sys2Proof.Machine
end

