-- ==== Sys2Proof/Machine/Namespaces.lean ====
section
/-! DEFINITION. `NS_CREATE` and `NS_DELETE` (R83 to R86), `FORMAT` and `SANITISE` (R391 to R396). -/

namespace Sys2Proof.Machine

/-! ## The namespace descriptor (R84, R85) -/

/-- The flags of a namespace as its descriptor shows them. -/
def Namespace.flags (n : Namespace) : Nat := n.saltSupplied.toNat + 2 * n.reserve.toNat + 4 * n.earlyAck.toNat

/-- The 64-byte descriptor. -/
def Namespace.descriptor (n : Namespace) : Bytes :=
  natToBytesBE 4 n.flags ++ zeroBytes 4 ++ natToBytesBE 8 n.capQuota ++ natToBytesBE 8 n.keyQuota ++ natToBytesBE 8 n.created ++
    natToBytesBE 32 n.salt.toNat

/-- The cartridges that take the buckets of a new namespace (R207). -/
def Dev.newHomes (d : Dev) : List BayNo := d.baysIn (· == .inService)

/-- The salt to use: the one supplied, or 32 random bytes. -/
def Dev.saltFor (d : Dev) (supplied : Bool) (b : Bytes) : BitVec 256 × Dev :=
  if supplied then (BitVec.ofNat 256 (b.field 0x20 32), d) else let (v, d1) := d.draw; (v.setWidth 256, d1)

/-- The status that an `NS_CREATE` is refused with (R84, R85). -/
def Dev.nsCreateCheck (d : Dev) (c : Cap) : Option (BitVec 16) :=
  let b := c.value
  if b.length != 64 then some Status.badLength
  else if (d.nsOf c.hdr.ns).isSome || 8 ≤ b.field 0 4 || b.field 8 8 % 4096 != 0 then some Status.badField
  else if (b.field 0 4).testBit 1 && decide (d.userCapacity < d.usage + b.field 8 8) then some Status.noSpace
  else none

/-- A namespace as a block asks for it. -/
def newNamespace (id : BitVec 12) (b : Bytes) (salt : BitVec 256) (key : BitVec 512) (now : Nat) : Namespace :=
  let f := b.field 0 4
  { id := id, salt := salt, atRestKey := key, capQuota := b.field 8 8, keyQuota := b.field 0x10 8, earlyAck := f.testBit 2,
    reserve := f.testBit 1, saltSupplied := f.testBit 0, created := now, charged := 0, keys := 0, held := 0, capLatched := false,
    keyLatched := false }

/-- Enters the buckets of a namespace in the map, durably. -/
def Dev.addBuckets (d : Dev) (n : BitVec 12) : Dev :=
  let bs := newBuckets n d.newHomes
  { d with idx := { d.idx with buckets := d.idx.buckets ++ bs, durable := d.idx.durable ++ bs } }

/-- `NS_CREATE` executes: its at-rest key is drawn and takes a slot of the cipher engine (R372, R376). -/
def nsCreateGo (c : Cap) (d : Dev) : Dev :=
  d.check c (d.nsCreateCheck c) (fun d =>
    let (salt, d0) := d.saltFor ((c.value.field 0 4).testBit 0) c.value
    let (key, d1) := d0.draw
    let n := newNamespace c.hdr.ns c.value salt key d1.clk.ns
    let d2 : Dev := { d1 with ns := d1.ns ++ [n], med := d1.med.setSlot n.id key }
    let d3 := (d2.addBuckets n.id).raise Ev.nsCreate n.id.toNat n.flags (min (n.capQuota / 2 ^ 30) 0xFFFFFFFF) (n.keyQuota % 2 ^ 32)
    (d3.keepRecord n.descriptor.length).okWith c n.descriptor)

def nsCreateEff (seq : Nat) (d : Dev) : Dev := d.admin seq Op.nsCreate (fun _ => true) nsCreateGo

/-- NS_CREATE (R85). -/
def execNsCreate (seq : Nat) (s : State) : Host.Outcome State Fault Refusal := s.run (nsCreateEff seq)

/-! ## What the capsules before it leave (R86 step 1, R392) -/

/-- Capsules on a namespace, or on every namespace, sequenced before another are not complete; or a secure deletion is not (R399), but for
what is left of one on a cartridge that is absent (R251). -/
def Dev.earlierWork (d : Dev) (s : Nat) (n : Option (BitVec 12)) : Bool :=
  d.que.caps.any (fun c => c.seq != 0 && decide (c.seq < s) && !isAdmin c.hdr.opcode && (n.isNone || n == some c.hdr.ns)) ||
    d.med.secures.any (fun j => (n.isNone || n == some j.ns) &&
      ((d.capBySeq j.seq).isSome || j.bands.isEmpty || j.bands.any (fun b => d.inService b.1)))

/-- The masks of the sweeps: namespace bits of the directory; type and namespace bits, type and tenant bits of the policy table (R177). -/
def maskDirNs : BitVec 144 := 0xFFF <<< 132
def maskPolNs : BitVec 144 := 0xF00000000FFF <<< 24
def maskPolTenant : BitVec 144 := 0xFFFFFFFFF <<< 36

/-- The entries of a table that the sweep of a namespace finds (R177). -/
def Gale.sweepNs (g : Gale) (t : GTable) (n : BitVec 12) : List Nat :=
  let mine (a : Nat) : Bool :=
    match g.wordAt t a with
    | some w => (t == .directory && w.extractLsb' 132 12 == n) || (t == .policy && w.extractLsb' 24 12 == n && w.extractLsb' 68 4 == 1)
    | none => false
  (g.rows.filter (fun r => tableOf r.addr == t && entryAddr r.addr == r.addr && mine r.addr)).map (·.addr)

/-- Invalidates the directory entries of a namespace, and its bindings where it goes for good (R177); MK1 and MK2 hold the masks
(log entry 213). -/
def Gale.dropNs (g : Gale) (n : BitVec 12) (bindings : Bool) : Gale :=
  let dead := g.sweepNs .directory n ++ (if bindings then g.sweepNs .policy n else [])
  let g1 := g.loadMask 1 maskDirNs
  { (if bindings then g1.loadMask 2 maskPolNs else g1) with
    rows := g.rows.map (fun (r : GRow) =>
      if dead.contains r.addr || (tableOf r.addr == .directory && r.addr % 2 == 1 && dead.contains (r.addr - 1)) then r.retired else r),
    dupKeys := g.dupKeys.filter (fun k => k.1 != n) }

/-- The sweeps of a namespace, counted (R177, R195). -/
def Dev.sweepNs (d : Dev) (n : BitVec 12) (bindings : Bool) : Dev :=
  let d1 := d.countSweep .directory (d.gale.sweepNs .directory n).length
  (if bindings then d1.countSweep .policy (d.gale.sweepNs .policy n).length else d1).modGale (fun g => g.dropNs n bindings)

/-- Takes everything of a namespace out of Drift, the index, the journal and the uploads; its copies on flash are dead, sealed under
a key that is gone (R86 steps 2 to 4, R377, R392). -/
def Dev.emptyNs (d : Dev) (n : BitVec 12) : Dev :=
  let d1 := (d.que.drift.filter (·.ns == n)).foldl (fun (d : Dev) (v : Version) =>
    ((d.dropProgs (.value v.seq)).dropProgs (.journal v.jseq)).removeVer v) d
  let d2 := (d1.idx.uploads.filter (·.ns == n)).foldl (fun (d : Dev) (u : Upload) => d.closeUpload u) d1
  let d3 := (d2.med.copies.filter (fun c => c.ns == n && !c.dead)).foldl (fun (d : Dev) (c : Copy) => d.killCopy c.loc c.gen) d2
  let other (b : Bucket) : Bool := b.ns != n
  let keep (r : JRec) : Bool := r.ns != n
  { d3 with
    idx := { d3.idx with
      buckets := d3.idx.buckets.filter other, durable := d3.idx.durable.filter other,
      tail := d3.idx.tail.map (fun (t : Tail) => { t with pages := t.pages.filter other }),
      journal := d3.idx.journal.filter keep, log := d3.idx.log.filter keep } }

/-! ## NS_DELETE (R86) -/

/-- The status that an `NS_DELETE` is refused with (R86, R290, R392). -/
def Dev.nsDeleteCheck (d : Dev) (c : Cap) : Option (BitVec 16) :=
  if c.value.length != 8 then some Status.badLength
  else if 2 ≤ c.value.toNatBE then some Status.badField
  else if (d.nsOf c.hdr.ns).isNone then some Status.notFound
  else if (d.mirror? c.hdr.ns).isSome || d.nsBusy c.hdr.ns c.seq then some Status.busyMaintenance
  else none

/-- The bands that hold only a namespace's data. -/
def Dev.onlyBands (d : Dev) (n : BitVec 12) : List (BayNo × Nat × Nat) :=
  (List.finRange 4).flatMap (fun b => if d.inService b then
    ((d.bays.get b).bands.filter (fun x => !x.stream.isMeta && !x.items.isEmpty && x.items.all (fun i => i.1 == n))).map
      (fun x => (b, x.group, x.block)) else [])

/-- Closes bands and makes them victims, so that they are erased as soon as nothing holds them. -/
def Dev.retireBands (d : Dev) (l : List (BayNo × Nat × Nat)) : Dev :=
  l.foldl (fun (d : Dev) (x : BayNo × Nat × Nat) =>
    (d.closeBand x.1 x.2.1 x.2.2).modBay x.1 (fun b => b.modBand x.2.1 x.2.2 (fun (y : Band) => { y with victim := true }))) d

/-- Steps 2 to 5 of `NS_DELETE`. -/
def Dev.nsDeleteRun (d : Dev) (c : Cap) : Dev :=
  let n := c.hdr.ns
  let wait := c.value.toNatBE == 1
  let keys := match d.nsOf n with
    | some x => x.keys
    | none => 0
  let bands := if wait then d.onlyBands n else []
  let d1 := ((d.sweepNs n true).emptyNs n).raise Ev.keyDestroyed n.toNat 1 0 0
  let d2 : Dev := { d1 with
    ns := d1.ns.filter (·.id != n), med := d1.med.clearSlot n,
    pol := { d1.pol with bindings := d1.pol.bindings.filter (·.ns != n) } }
  let d3 := (d2.raise Ev.nsDelete n.toNat (keys % 2 ^ 32) wait.toNat 0).retireBands bands |>.keepRecord 128
  if bands.isEmpty then (d3.okWith c []).mediaAdvance
  else
    (({ d3 with med := { d3.med with reclaims := d3.med.reclaims ++ [(c.seq, bands)] } } : Dev).modCap c (fun x =>
      { x with stage := .held })).mediaAdvance

/-- `NS_DELETE` executes, or waits for the capsules before it. -/
def nsDeleteGo (c : Cap) (d : Dev) : Dev :=
  d.check c (d.nsDeleteCheck c) (fun d => if d.earlierWork c.seq (some c.hdr.ns) then d else d.nsDeleteRun c)

/-- An admin opcode that may wait: its dispatch, or a further attempt of one dispatched before. -/
def Dev.adminWait (d : Dev) (seq : Nat) (op : BitVec 16) (mine : Cap → Bool) (f : Cap → Dev → Dev) : Dev :=
  match d.capBySeq seq with
  | none => d
  | some c =>
    if !mine c || c.hdr.opcode != op then d
    else if c.stage == .dispatched then f c d
    else d.dispatch seq (fun h => h.opcode == op) f

def nsDeleteEff (seq : Nat) (d : Dev) : Dev := d.adminWait seq Op.nsDelete (fun _ => true) nsDeleteGo

/-- NS_DELETE (R86). -/
def execNsDelete (seq : Nat) (s : State) : Host.Outcome State Fault Refusal := s.run (nsDeleteEff seq)

/-! ## FORMAT and SANITISE (R391 to R393) -/

/-- The activity of R445 that a request is. -/
def sanActivity (c : Cap) : Activity :=
  if c.hdr.opcode == Op.format then .fmt else if c.value.field 0 1 == 1 then .sanN else .sanD

/-- The fields of the block (R391). -/
def sanFieldsOk (c : Cap) : Bool :=
  let b := c.value
  let scope := b.field 0 1
  let action := b.field 1 1
  let flags := b.field 2 2
  let fmt := c.hdr.opcode == Op.format
  (scope == 1 || (scope == 2 && c.hdr.ns == 0)) && (action == 1 || (action == 2 && !fmt)) && decide (flags < 8) &&
    (!flags.testBit 2 || (!fmt && action == 2)) && (!flags.testBit 1 || (fmt && scope == 1)) && b.zeroAt 4 28

/-- Another request runs, or waits before this one. -/
def Dev.sanRuns (d : Dev) (s : Nat) : Bool :=
  d.sec.sanitise.any SanRec.open_ ||
    d.que.caps.any (fun c => (c.hdr.opcode == Op.format || c.hdr.opcode == Op.sanitise) && c.stage == .dispatched && decide (c.seq < s))

/-- The status a request is refused with before its steps (R391). -/
def Dev.sanCheckReq (d : Dev) (c : Cap) : Option (BitVec 16) :=
  if c.value.length != 32 then some Status.badLength
  else if !sanFieldsOk c then some Status.badField
  else if c.value.field 0 1 == 1 && (d.nsOf c.hdr.ns).isNone then some Status.notFound
  else if (if c.value.field 0 1 == 1 then (d.mirror? c.hdr.ns).isSome else !d.mir.nss.isEmpty) || d.sanRuns c.seq then
    some Status.busyMaintenance
  else none

/-- Consults the matrix for a request. -/
def Dev.sanMatrix (d : Dev) (c : Cap) : Option (BitVec 16) × Dev :=
  match d.maint (sanActivity c) with
  | (.b, d1) => (some Status.busyMaintenance, d1)
  | (.u, d1) => (some Status.unavailable, d1)
  | (_, d1) => (none, d1)

/-- The bands found for a namespace (R393 step 1). -/
def Dev.nsBands (d : Dev) (n : BitVec 12) : List (BayNo × Nat × Nat) :=
  (List.finRange 4).flatMap (fun b => if d.inService b then
    ((d.bays.get b).bands.filter (fun x => x.items.any (fun i => i.1 == n) || x.pages.any (fun p => p.1 == n))).map
      (fun x => (b, x.group, x.block)) else [])

/-- Live chunks of other namespaces in found bands of a cartridge. -/
def Dev.coChunks (d : Dev) (n : BitVec 12) (l : List (BayNo × Nat × Nat)) (bay : BayNo) : Nat :=
  ((d.med.copies.filter (fun c => c.ns != n && !c.dead && l.any (fun x => x.1 == bay && c.inBand bay x.2.1 x.2.2))).map
    (fun c => chunkCount c.bytes.length)).sum

/-- Relocation space can be reserved (R393 step 2): a QLC band takes at least 29 data dies. -/
def Dev.coFits (d : Dev) (n : BitVec 12) (l : List (BayNo × Nat × Nat)) : Bool :=
  (List.finRange 4).all (fun b => decide (d.coChunks n l b ≤ (d.bays.get b).freeMain * (4 * 1024 * 29 * 16)))

/-- A move holds data of the namespace: a BLOCK waits for it (R397). -/
def Dev.batchHolds (d : Dev) (n : Option (BitVec 12)) : Bool :=
  d.med.batches.any (fun b => b.items.any (fun i => n.isNone || n == some i.ns))

/-- Step 2 refuses a request (R393). -/
def Dev.sanRefuse (d : Dev) (c : Cap) (bands : List (BayNo × Nat × Nat)) : Option (BitVec 16) :=
  if c.value.field 1 1 != 2 then none
  else if c.value.field 0 1 == 1 then (if d.coFits c.hdr.ns bands then none else some Status.noSpace)
  else if (List.finRange 4).any (fun b => [BayState.missing, .failed, .evacuating].contains (d.bays.get b).state) then
    some Status.unavailable
  else none

/-- The new key, the new buckets and, where asked for, the new salt of an emptied namespace (R392). -/
def Dev.renewNs (d : Dev) (n : BitVec 12) (newSalt : Bool) : Dev :=
  let d0 := (d.sweepNs n false).emptyNs n
  let (salt, d1) := if newSalt then (let (v, x) := d0.draw; (some (v.setWidth 256), x)) else ((none : Option (BitVec 256)), d0)
  let (key, dk) := d1.draw
  let d2 : Dev := { dk with med := dk.med.setSlot n key }
  (d2.modNs n (fun x => { x with
    atRestKey := key, salt := salt.getD x.salt, charged := 0, keys := 0, held := 0, capLatched := false,
    keyLatched := false })).addBuckets n

/-- The cartridges with bands of a list, as the bits of bays_pending. -/
def bayBits (l : List (BayNo × Nat × Nat)) : BitVec 4 :=
  (List.finRange 4).foldl (fun (m : BitVec 4) (b : BayNo) => if l.any (fun x => x.1 == b) then m ||| ((1 : BitVec 4) <<< b.val) else m) 0

/-- Steps 1 to 7 of a request that is not refused (R393): a BLOCK leaves its erasing to Deluge, the others are complete at once. -/
def Dev.sanRun (d : Dev) (c : Cap) (bands : List (BayNo × Nat × Nat)) : Dev :=
  let b := c.value
  let scope := b.field 0 1
  let action := b.field 1 1
  let flags := b.field 2 2
  let wait := flags.testBit 0
  let low := if c.hdr.opcode == Op.format then 7 else 8
  let block := action == 2
  let nss := if scope == 1 then [c.hdr.ns] else d.ns.map (·.id)
  let d1 := d.raise Ev.sanitiseStart (c.seq % 2 ^ 32) (low * 256 + action) scope (if scope == 1 then c.hdr.ns.toNat else 0)
  let d2 := (if scope == 2 && block then d1.abandonBatches (fun _ => true) else d1).raise Ev.keyDestroyed
    (if scope == 1 then c.hdr.ns.toNat else 0xFFFF) (if low = 7 then 2 else 3) 0 0
  let d3 := nss.foldl (fun (d : Dev) (n : BitVec 12) => d.renewNs n (flags.testBit 1)) d2
  let d4 := bands.foldl (fun (d : Dev) (x : BayNo × Nat × Nat) => d.closeBand x.1 x.2.1 x.2.2) d3
  let r : SanRec :=
    { id := c.seq, start := d.clk.ns, finish := if block then 0 else d.clk.ns, opcodeLow := low, action := action, scope := scope,
      state := if block then 2 else 3, ns := if scope == 1 then c.hdr.ns else 0, baysPending := bayBits bands,
      bandsTotal := bands.length, bandsDone := 0, residue := 0, requester := c.tenant, relocated := 0,
      counterEnd := if scope == 2 then d.que.reservedEnd else 0, verify := flags.testBit 2, wait := wait, bandsLeft := bands }
  let d5 : Dev := ({ d4 with sec := { d4.sec with sanitise := (d4.sec.sanitise ++ [r]).drop (d4.sec.sanitise.length - 255) } } : Dev).keepRecord 64
  let data (st : Nat) : Bytes := natToBytesBE 8 c.seq ++ natToBytesBE 1 st ++ zeroBytes 7
  if block then
    let d6 := d5.refreshMode 5
    ((if wait then d6.modCap c (fun x => { x with stage := .held }) else d6.okWith c (data 2))).mediaAdvance
  else ((d5.raise Ev.sanitiseDone (c.seq % 2 ^ 32) 0 0 0).okWith c (data (if wait then 3 else 2))).mediaAdvance

/-- A request whose turn has come: step 2, then the rest. -/
def Dev.sanBegin (d : Dev) (c : Cap) : Dev :=
  let bands : List (BayNo × Nat × Nat) :=
    if c.value.field 1 1 != 2 then []
    else if c.value.field 0 1 == 1 then d.nsBands c.hdr.ns
    else (List.finRange 4).flatMap (fun b => if d.inService b then bandNums.map (fun x => (b, x.1, x.2)) else [])
  d.check c (d.sanRefuse c bands) (fun d => d.sanRun c bands)

/-- `FORMAT` and `SANITISE` execute: the checks at dispatch, then the wait for the capsules before (R392). `fresh`: the capsule has
just been dispatched. -/
def sanGo (fresh : Bool) (c : Cap) (d : Dev) : Dev :=
  let (st, d1) := if fresh then (match d.sanCheckReq c with
    | some x => (some x, d)
    | none => d.sanMatrix c) else ((none : Option (BitVec 16)), d)
  d1.check c st (fun d =>
    let n := if c.value.field 0 1 == 1 then some c.hdr.ns else none
    if d.earlierWork c.seq n || (c.value.field 1 1 == 2 && c.value.field 0 1 == 1 && d.batchHolds n) then d else d.sanBegin c)

/-- Runs a request: its dispatch, or a further attempt. Once a drive-scope `SANITISE` is accepted or refused, the promotions that waited for it
follow (R129, R434). -/
def Dev.sanAdmin (d : Dev) (seq : Nat) (op : BitVec 16) (mine : Cap → Bool) : Dev :=
  match d.capBySeq seq with
  | none => d
  | some c =>
    let d1 := d.adminWait seq op mine (sanGo (c.stage != .dispatched))
    if c.drainsAll && !(d1.capBySeq seq).any Cap.drainsAll then d1.promoteAll else d1

def formatClearEff (seq : Nat) (d : Dev) : Dev := d.sanAdmin seq Op.format (fun _ => true)

/-- FORMAT_CLEAR (R392). -/
def execFormatClear (seq : Nat) (s : State) : Host.Outcome State Fault Refusal := s.run (formatClearEff seq)

def sanitiseCryptoEff (seq : Nat) (d : Dev) : Dev := d.sanAdmin seq Op.sanitise (fun c => c.value.field 1 1 != 2)

/-- SANITISE_CRYPTO (R393): a `SANITISE` whose action is not BLOCK. -/
def execSanitiseCrypto (seq : Nat) (s : State) : Host.Outcome State Fault Refusal := s.run (sanitiseCryptoEff seq)

def sanitiseBlockEff (seq : Nat) (d : Dev) : Dev := d.sanAdmin seq Op.sanitise (fun c => c.value.field 1 1 != 1)

/-- SANITISE_BLOCK (R393): a `SANITISE` whose action is not CRYPTO. -/
def execSanitiseBlock (seq : Nat) (s : State) : Host.Outcome State Fault Refusal := s.run (sanitiseBlockEff seq)

end Sys2Proof.Machine
end

