-- ==== Sys2Proof/Machine/Logs.lean ====
section
/-! DEFINITION. `EVENT_SUBSCRIBE` (R356), the logs and `READ_LOG` (R364 to R368, R138, R257, R271, R276, R394, R426). -/

namespace Sys2Proof.Machine

/-! ## EVENT_SUBSCRIBE (R356) -/

/-- A subscription's 16 bytes, at the offsets of the block. -/
def Subscription.bytes (s : Subscription) : Bytes :=
  zeroBytes 1 ++ natToBytesBE 1 s.sev ++ zeroBytes 2 ++ natToBytesBE 2 s.srcLow ++ natToBytesBE 2 s.srcHigh ++
    natToBytesBE 2 s.code ++ zeroBytes 6

/-- The subscription that a block names. -/
def blockSub (b : Bytes) : Subscription := ⟨b.field 1 1, b.field 4 2, b.field 6 2, b.field 8 2⟩

/-- The subscriptions of a capsule's session. -/
def Dev.subsOf (d : Dev) (c : Cap) : List Subscription :=
  match d.session? c.sid with
  | some s => s.subs
  | none => []

/-- Sets the subscriptions of a capsule's session. -/
def Dev.setSubs (d : Dev) (c : Cap) (l : List Subscription) : Dev := d.modSession c.sid (fun s => { s with subs := l })

/-- The reply of every op. -/
def Dev.subsReply (d : Dev) (c : Cap) : Dev :=
  let l := d.subsOf c
  d.okWith c (natToBytesBE 4 l.length ++ l.flatMap Subscription.bytes)

/-- The checked fields and the range of a block. -/
def subFieldsOk (b : Bytes) : Bool :=
  b.zeroAt 2 2 && decide (b.field 4 2 < 4096) && decide (b.field 6 2 < 4096) && b.zeroAt 10 22 && decide (b.field 4 2 ≤ b.field 6 2) &&
    decide (1 ≤ b.field 0 1) && decide (b.field 0 1 ≤ 4)

/-- Executes a well-formed block. -/
def Dev.subscribeOp (d : Dev) (c : Cap) : Dev :=
  let b := c.value
  let x := blockSub b
  let l := d.subsOf c
  match b.field 0 1 with
  | 1 => if 16 ≤ l.length || 6 < x.sev then d.fail c Status.badField else (d.setSubs c (l ++ [x])).subsReply c
  | 2 => if l.contains x then (d.setSubs c (l.erase x)).subsReply c else d.fail c Status.badField
  | 3 => d.subsReply c
  | _ =>
    if !d.isOperator c.tenant then d.fail c Status.notPermitted
    else if 4 < x.sev then d.fail c Status.badField
    else
      let srcs := (List.range (x.srcHigh + 1 - x.srcLow)).map (fun i => (x.srcLow + i, x.sev))
      ({ d with ev := { d.ev with levels := srcs ++ d.ev.levels.filter (fun e => e.1 < x.srcLow || x.srcHigh < e.1) } } : Dev).subsReply c

/-- `EVENT_SUBSCRIBE` executes. -/
def subscribeGo (c : Cap) (d : Dev) : Dev :=
  if c.value.length != 32 then d.fail c Status.badLength
  else if !subFieldsOk c.value then d.fail c Status.badField
  else d.subscribeOp c

/-- The op bytes of `EVENT_SUBSCRIBE`. -/
abbrev subOps : List Nat := [1, 2, 3, 4]

def subscribeEff (seq : Nat) (d : Dev) : Dev := d.admin seq Op.eventSubscribe (opIs subOps 1) subscribeGo

/-- SUBSCRIBE (R356). -/
def execSubscribe (seq : Nat) (s : State) : Host.Outcome State Fault Refusal := s.run (subscribeEff seq)

def unsubscribeEff (seq : Nat) (d : Dev) : Dev := d.admin seq Op.eventSubscribe (opIs subOps 2) subscribeGo

/-- UNSUBSCRIBE (R356). -/
def execUnsubscribe (seq : Nat) (s : State) : Host.Outcome State Fault Refusal := s.run (unsubscribeEff seq)

def eventListEff (seq : Nat) (d : Dev) : Dev := d.admin seq Op.eventSubscribe (opIs subOps 3) subscribeGo

/-- EVENT_LIST (R356). -/
def execEventList (seq : Nat) (s : State) : Host.Outcome State Fault Refusal := s.run (eventListEff seq)

def setLevelEff (seq : Nat) (d : Dev) : Dev := d.admin seq Op.eventSubscribe (opIs subOps 4) subscribeGo

/-- SET_LEVEL (R356). -/
def execSetLevel (seq : Nat) (s : State) : Host.Outcome State Fault Refusal := s.run (setLevelEff seq)

/-! ## Entries of the logs -/

/-- Enters a record by its extended sequence, each once. -/
def insRec (r : Rec) : List Rec → List Rec
  | [] => [r]
  | x :: rest => if r.ext == x.ext then x :: rest else if r.ext < x.ext then r :: x :: rest else x :: insRec r rest

/-- The persistent ring as it is read: the copy that holds the higher flushed sequence (R362). -/
def Dev.persistent (d : Dev) : List Rec :=
  (List.finRange 4).foldl (fun (l : List Rec) (b : BayNo) =>
    let p := d.ev.pring.get b
    if d.inService b && decide ((l.head?.map (·.ext)).getD 0 < (p.head?.map (·.ext)).getD 0) then p else l) []

/-- The Barograph: the SRAM ring and the persistent ring as one sequence, oldest first (R366). -/
def Dev.barograph (d : Dev) : List Rec := (d.ev.ring.map (·.r) ++ d.persistent).foldl (fun (l : List Rec) (r : Rec) => insRec r l) []

/-- A CE table entry (R271). -/
def CeEntry.bytes (e : CeEntry) : Bytes :=
  natToBytesBE 1 e.cls ++ natToBytesBE 1 e.source ++ natToBytesBE 2 (min e.count 0xFFFF) ++ natToBytesBE 1 e.locus ++
    natToBytesBE 1 e.channel ++ zeroBytes 2 ++ natToBytesBE 8 e.address ++ natToBytesBE 8 e.first ++ natToBytesBE 8 e.lastTime

/-- A deferred-error entry (R138). -/
def Deferred.bytes (e : Deferred) : Bytes :=
  natToBytesBE 8 e.id ++ natToBytesBE 8 e.time ++ natToBytesBE 4 e.tenant.toNat ++ natToBytesBE 4 e.sid.toNat ++
    natToBytesBE 2 e.opcode.toNat ++ natToBytesBE 2 e.status.toNat ++ natToBytesBE 4 e.tag.toNat ++ natToBytesBE 8 e.version ++
    natToBytesBE 16 e.hash.toNat ++ natToBytesBE 4 e.ns.toNat ++ natToBytesBE 4 e.cause

/-- A sanitise progress record (R394). -/
def SanRec.bytes (r : SanRec) : Bytes :=
  natToBytesBE 8 r.id ++ natToBytesBE 8 r.start ++ natToBytesBE 8 r.finish ++ natToBytesBE 1 r.opcodeLow ++ natToBytesBE 1 r.action ++
    natToBytesBE 1 r.scope ++ natToBytesBE 1 r.state ++ natToBytesBE 2 r.ns.toNat ++ natToBytesBE 1 r.baysPending.toNat ++ zeroBytes 1 ++
    natToBytesBE 4 r.bandsTotal ++ natToBytesBE 4 r.bandsDone ++ natToBytesBE 4 r.residue ++ natToBytesBE 4 r.requester.toNat ++
    natToBytesBE 8 r.relocated ++ natToBytesBE 8 r.counterEnd

/-- The 40 bytes of a chunk bitmap (R407): bit n - 1 stands for chunk n. -/
def chunkBitmap (present : List Nat) : Bytes := natToBytesBE 40 ((present.dedup.map (fun n => 2 ^ (n - 1))).sum)

/-- An entry of log 0x06 (R426); `kind`: 1 current, 2 history. -/
def UpdEntry.bytes (e : UpdEntry) (kind : Nat) : Bytes :=
  natToBytesBE 8 e.seq ++ natToBytesBE 1 kind ++ natToBytesBE 1 e.state ++ natToBytesBE 1 e.outcome ++ natToBytesBE 1 e.kind ++
    natToBytesBE 4 e.cred ++ natToBytesBE 4 e.release ++ natToBytesBE 4 e.secver ++ natToBytesBE 4 e.chunkCount ++
    natToBytesBE 4 e.chunksPresent ++ natToBytesBE 16 e.digest.toNat ++ natToBytesBE 8 e.start ++ natToBytesBE 8 e.finish ++
    chunkBitmap e.bitmap ++ natToBytesBE 4 e.previous ++ natToBytesBE 4 e.floor ++ natToBytesBE 8 e.deadline ++ zeroBytes 8

/-- The bay as log 0x07 shows it: a cartridge not yet attached with its own figures, those of its valid slot; the drive has seen no wear of
it. -/
def Bay.shown (b : Bay) : Bay :=
  match b.guest with
  | some f =>
    if b.cart.isNone || [BayState.authenticating, .refused, .foreign, .authenticated].contains b.state then
      let s := (slotUsed f.cart).map (fun i => f.cart.slots.get i)
      { b.load f with wearDays := [], slotTime := (s.map (·.time)).getD 0, bindCount := (s.map (·.bindCount)).getD 0 }
    else b
  | none => b

/-- An entry of log 0x07 (R257). -/
def Dev.wearEntry (d : Dev) (bay : BayNo) : Bytes :=
  let b := (d.bays.get bay).shown
  match b.state, b.cart with
  | .empty, _ | _, none => natToBytesBE 1 bay.val ++ natToBytesBE 1 b.state.num ++ zeroBytes 126
  | st, some c =>
    let stored := match slotUsed c with
      | some i => (c.slots.get i).stored
      | none => 0
    natToBytesBE 1 bay.val ++ natToBytesBE 1 st.num ++ natToBytesBE 1 stored ++ natToBytesBE 1 b.reason ++
      natToBytesBE 2 b.failedDies.length ++ natToBytesBE 2 b.lifeLeft ++ natToBytesBE 16 c.serial.toNat ++ natToBytesBE 8 c.made.time ++
      natToBytesBE 8 b.totalWear ++ natToBytesBE 8 (lifeBudget c) ++ natToBytesBE 4 b.spare ++ natToBytesBE 4 c.made.spare ++
      natToBytesBE 4 (b.retired.filter (·.kind == 2)).length ++ natToBytesBE 4 b.projectedDays ++ natToBytesBE 8 b.hostBytes ++
      natToBytesBE 8 b.nandBytes ++ natToBytesBE 8 (d.fill bay) ++ natToBytesBE 4 b.powerOnHours ++
      natToBytesBE 4 (d.slcLimit bay) ++ natToBytesBE 8 b.slotTime ++ natToBytesBE 4 b.bindCount ++ zeroBytes 20

/-- An entry of log 0x08 (R368). -/
def Dev.histEntry (d : Dev) (t : Tenant) : Bytes :=
  natToBytesBE 4 t.id.toNat ++ natToBytesBE 4 t.floor ++ natToBytesBE 8 d.ev.histSince ++ zeroBytes 16 ++
    (List.range 12).flatMap (fun h =>
      (List.range 21).flatMap (fun k => natToBytesBE 8 (d.count (.hist t.id h k)).toNat) ++
        natToBytesBE 8 (d.count (.histSum t.id h)).toNat)

/-- The tenants in ascending order. -/
def insTenant (t : Tenant) : List Tenant → List Tenant
  | [] => [t]
  | x :: rest => if t.id < x.id then t :: x :: rest else x :: insTenant t rest

/-! ## READ_LOG (R364 to R366) -/

/-- The filter of logs 0x01 and 0x09 lets a record through. -/
def logFilter (b : Bytes) (r : Rec) : Bool :=
  let lo := b.field 0x10 2
  let hi := b.field 0x12 2
  decide (b.field 2 1 ≤ r.ev.sev) && ((lo == 0 && hi == 0) || (decide (lo ≤ r.ev.src) && decide (r.ev.src ≤ hi))) &&
    (b.field 0x14 2 == 0 || b.field 0x14 2 == r.ev.code) && (b.field 0x18 8 == 0 || decide (b.field 0x18 8 ≤ r.time)) &&
    (b.field 0x20 8 == 0 || decide (r.time ≤ b.field 0x20 8))

/-- Entry bytes of a log (R364). -/
def logEntrySize (log : Nat) : Nat :=
  if log == 4 || log == 5 then 64 else if log == 6 || log == 7 then 128 else if log == 8 then 2144 else 32

/-- Every entry of a log that a capsule may see, with its cursor, in the order of the log. -/
def Dev.logEntries (d : Dev) (c : Cap) : List (Nat × Bytes) :=
  let b := c.value
  let op := d.isOperator c.tenant
  match b.field 0 1 with
  | 1 => (d.barograph.filter (logFilter b)).map (fun r => (r.ext, r.encode))
  | 2 => d.mem.ce.zipIdx.map (fun e => (e.2, e.1.bytes))
  | 3 =>
    (d.mem.retired ++ ((List.finRange 4).filter d.inService).flatMap (fun x => (d.bays.get x).retired)).zipIdx.map
      (fun e => (e.2, retiredBytes e.1))
  | 4 => (d.que.deferred.filter (fun e => op || e.tenant == c.tenant)).map (fun e => (e.id, e.bytes))
  | 5 => d.sec.sanitise.map (fun r => (r.id, r.bytes))
  | 6 => (d.upd.nextEntry, (d.updEntry 0).bytes 1) :: d.upd.history.map (fun e => (e.seq, e.bytes 2))
  | 7 => (List.finRange 4).map (fun x => (x.val, d.wearEntry x))
  | 8 =>
    ((d.pol.tenants.filter (fun t => op || t.id == c.tenant)).foldl (fun (l : List Tenant) (t : Tenant) => insTenant t l) []).map
      (fun t => (t.id.toNat, d.histEntry t))
  | _ => (d.ev.vring.reverse.filter (logFilter b)).map (fun r => (r.ext, r.encode))

/-- The oldest cursor that a log still holds, for the logs that drop entries. -/
def Dev.logOldest (d : Dev) (log : Nat) : Option Nat :=
  match log with
  | 1 => d.barograph.head?.map (·.ext)
  | 4 => d.que.deferred.head?.map (·.id)
  | 6 => d.upd.history.head?.map (·.seq)
  | 9 => if 32768 ≤ d.ev.vring.length then d.ev.vring.getLast?.map (·.ext) else none
  | _ => none

/-- Entries from a cursor on that are no longer held. -/
def Dev.logSkipped (d : Dev) (log cursor : Nat) : Nat :=
  if cursor = 0 then 0 else match d.logOldest log with
    | some o => o - cursor
    | none => 0

/-- The header of a reply (R366). -/
def logHead (log n next skipped end_ : Nat) : Bytes :=
  natToBytesBE 1 log ++ zeroBytes 1 ++ natToBytesBE 2 (logEntrySize log) ++ natToBytesBE 4 n ++ natToBytesBE 8 next ++
    natToBytesBE 8 skipped ++ natToBytesBE 8 end_

/-- The status a `READ_LOG` is refused with (R364, R365). -/
def Dev.readLogCheck (d : Dev) (c : Cap) : Option (BitVec 16) :=
  let b := c.value
  let log := b.field 0 1
  let max := b.field 4 4
  if b.length != 64 then some Status.badLength
  else if !d.isOperator c.tenant && log != 4 && log != 8 then some Status.notPermitted
  else if log == 0 || 9 < log || !b.zeroAt 1 1 || 16 ≤ b.field 2 1 || !b.zeroAt 3 1 || 4096 ≤ b.field 0x10 2 || 4096 ≤ b.field 0x12 2 ||
      !b.zeroAt 0x16 2 || !b.zeroAt 0x28 24 || (max != 0 && (max < 4096 || 16777216 < max)) then some Status.badField
  else if log != 1 && log != 9 && !(b.zeroAt 2 1 && b.zeroAt 0x10 6 && b.zeroAt 0x18 16) then some Status.badField
  else none

/-- A tenant's session has read entries of log 0x04: its flags for them and their unread marks go (R139). -/
def Dev.readDeferred (d : Dev) (c : Cap) (ids : List Nat) : Dev :=
  let own (i : Nat) : Bool := d.que.deferred.any (fun e => e.id == i && e.tenant == c.tenant)
  let d1 := d.modSession c.sid (fun s => { s with deferred := s.deferred.filter (fun i => !ids.contains i) })
  { d1 with que := { d1.que with
    unread := d1.que.unread.filter (fun i => !(ids.contains i && own i)) } }

/-- The entries still to be returned: those from the cursor on, up to the end mark; the current entry of log 0x06 once, first. -/
def Dev.logLeft (d : Dev) (c : Cap) : List (Nat × Bytes) :=
  (d.logEntries c).filter (fun e =>
    if c.value.field 0 1 == 6 && e.1 == d.upd.nextEntry then c.replies == 0
    else decide (c.cursor ≤ e.1) && decide (e.1 ≤ c.visited))

/-- One reply of a `READ_LOG` (R366). -/
def Dev.readLogStep (d : Dev) (c : Cap) : Dev :=
  let b := c.value
  let log := b.field 0 1
  let max := if b.field 4 4 == 0 then 1048576 else b.field 4 4
  let left := d.logLeft c
  let n := (max - 32) / logEntrySize log
  let now := left.take n
  let grows := log == 1 || log == 9 || log == 4
  let end_ := if grows then c.visited else ((left.getLast?.map (·.1)).getD 0)
  let last := (now.getLast?.map (·.1)).getD (c.cursor - 1)
  let skipped := d.logSkipped log c.cursor
  if left.length ≤ n then
    let next := if grows then c.visited + 1 else last + 1
    let d1 := d.okWith c (logHead log now.length next skipped end_ ++ now.flatMap (·.2))
    if log == 4 then d1.readDeferred c (c.shown ++ now.map (·.1)) else d1
  else
    let next := if log == 6 && last == d.upd.nextEntry then c.cursor else last + 1
    (d.placeBytes c { Reply.okData (logHead log now.length next skipped end_ ++ now.flatMap (·.2)) with more := true }).modCap c
      (fun x => { x with cursor := next, replies := x.replies + 1, shown := x.shown ++ (if log == 4 then now.map (·.1) else []) })

/-- `READ_LOG` executes: its first reply, or a refusal. -/
def readLogGo (c : Cap) (d : Dev) : Dev :=
  if c.replies != 0 then d.readLogStep c
  else d.check c (d.readLogCheck c) (fun d =>
    let c1 := { c with cursor := c.value.field 8 8 }
    (d.modCap c (fun x => { x with cursor := c.value.field 8 8 })).readLogStep c1)

def readLogEff (seq : Nat) (d : Dev) : Dev := d.adminWait seq Op.readLog (fun _ => true) readLogGo

/-- READ_LOG (R365): its first reply, and each further one. -/
def execReadLog (seq : Nat) (s : State) : Host.Outcome State Fault Refusal := s.run (readLogEff seq)

end Sys2Proof.Machine
end

