-- ==== Sys2Proof/Machine/PowerCtl.lean ====
section
/-! DEFINITION. `POWER_CTL` (R321), the idle timers and wake triggers (R315 to R318), the capacitor state and its tests (R327,
R329, R335). -/

namespace Sys2Proof.Machine

/-! ## The hold-up bank (R327, R342) -/

/-- A sensor has failed (R342). -/
def Dev.sensorFailed (d : Dev) (id : Nat) : Bool := d.mgmt.sensors.any (fun s => s.id == id && s.fail != 0)

/-- The last test meets the conditions of HEALTHY. -/
def Bank.testOk (b : Bank) : Bool := decide (b.esr ≤ 300) && decide (64 ≤ capLimitMib (usableEnergy b.capacitance b.esr 3000))

/-- The capacitor state by its conditions (R327): UNTESTED until the first test has passed. -/
def Dev.capCondition (d : Dev) : CapState :=
  let b := d.pow.bank
  if !b.testedSinceOn then .untested
  else if b.testOk && (b.testRunning || decide (2900 ≤ b.volts)) && decide (b.temp < 65) && !b.chargerFault &&
    !d.sensorFailed 63 && !d.sensorFailed 64 && !d.sensorFailed 141 then .healthy
  else .unhealthy

/-- A capacitor state's value (R327). -/
def CapState.num : CapState → Nat
  | .untested => 0
  | .healthy => 1
  | .unhealthy => 2

/-- Puts the capacitor state in force; a change is an event, and Jetstream hears of it (R134, R327). `cause`: 1 test, 2 voltage,
3 temperature, 4 charger. -/
def Dev.refreshBank (d : Dev) (cause : Nat) : Dev :=
  let st := d.capCondition
  if st = d.pow.bank.state then d
  else
    (({ d with pow := { d.pow with bank := { d.pow.bank with state := st } } } : Dev).raise Ev.holdupState d.pow.bank.state.num
      st.num cause 0).refreshEarly

/-- The energy at 28.5 V covers the early-acknowledge content and P (R327). -/
def Dev.testMargin (d : Dev) : Bool :=
  decide (d.que.earlyContent + d.que.earlyPredecessors ≤
    capLimitMib (usableEnergy d.pow.bank.capacitance d.pow.bank.esr 2850) * 1048576)

/-- A test starts. -/
def Dev.startCapTest (d : Dev) : Dev :=
  { d with pow := { d.pow with bank := { d.pow.bank with testRunning := true, retryPending := false } } }

/-- A test due by the schedule starts, or is put off for want of energy (R327). -/
def Dev.scheduledCapTest (d : Dev) : Dev :=
  if !d.mgmt.vaneUp || d.pow.bank.testRunning || d.pow.failing.isSome then d
  else if d.testMargin then (d.wakeWork true).startCapTest
  else { d with pow := { d.pow with bank := { d.pow.bank with retryPending := true } } }

/-! ## POWER_CTL (R321) -/

/-- The highest thermal level in force, as the status reports it: a stop reads as THROTTLE. -/
def Power.thermalLevel (p : Power) : Nat := min 2 ((p.groups.toList.map (·.level)).foldl max 0)

/-- The power limit in force in 0.1 W (R322, R325, R342). -/
def Dev.powerLimit (d : Dev) : Nat :=
  if d.sensorFailed 101 || d.sensorFailed 121 then 450
  else min (d.pnum P.powerCapW * 10) (max 450 (d.pnum P.powerCapW * 10 - d.pow.limitCut))

/-- The mean input power over the last 100 ms in 0.1 W. -/
def Power.meanInput (p : Power) : Nat := p.inputs.sum / max 1 p.inputs.length

/-- Seconds left of a HOLD. -/
def Dev.holdLeft (d : Dev) : Nat :=
  match d.pow.holdUntil with
  | some t => ceilDiv (t - d.clk.tick) 1000000
  | none => 0

/-- The 64-byte status. -/
def Dev.powerStatus (d : Dev) : Bytes :=
  natToBytesBE 1 (d.pnum P.powerFloor) ++ natToBytesBE 1 d.pow.armed ++ natToBytesBE 1 d.pow.bank.state.num ++
    natToBytesBE 1 d.pow.thermalLevel ++ natToBytesBE 4 d.holdLeft ++ natToBytesBE 4 (d.advertised .haze 0) ++
    natToBytesBE 4 (d.advertised .fog 0) ++ natToBytesBE 4 (d.advertised .frost 0) ++ natToBytesBE 4 (d.advertised .frost 1) ++
    natToBytesBE 4 (d.advertised .glaze 0) ++ natToBytesBE 4 (d.advertised .glaze 1) ++ natToBytesBE 4 d.powerLimit ++
    natToBytesBE 4 d.pow.meanInput ++ natToBytesBE 4 d.nandGrant ++ natToBytesBE 4 d.pow.bank.capacitance ++
    natToBytesBE 4 d.pow.bank.esr ++ natToBytesBE 4 d.pow.bank.energyMj ++ natToBytesBE 4 (d.derivedLimit / 1048576) ++
    natToBytesBE 4 d.pow.floorScale

/-- The status a block is refused with. -/
def Dev.powerCtlCheck (d : Dev) (c : Cap) : Option (BitVec 16) :=
  let b := c.value
  let op := b.field 0 1
  if b.length != 16 then some Status.badLength
  else if !b.zeroAt 2 2 || op == 0 || decide (6 < op) then some Status.badField
  else if op == 2 && (b.field 1 1 == 0 || decide (d.pnum P.powerFloor < b.field 1 1)) then some Status.badField
  else if op != 2 && b.field 1 1 != 0 then some Status.badField
  else if op == 4 && decide (86400 < b.field 4 4) then some Status.badField
  else none

/-- Every op ends with the status. -/
def Dev.powerReply (d : Dev) (c : Cap) : Dev := d.okWith c d.powerStatus

/-- `CAP_TEST`: a test that runs already answers this op too. -/
def Dev.capTestOp (d : Dev) (c : Cap) : Dev :=
  let wait (d : Dev) : Dev :=
    { d with pow := { d.pow with bank := { d.pow.bank with testWaiters := d.pow.bank.testWaiters ++ [c.seq] } } }
  if d.pow.bank.testRunning then wait d
  else if d.testMargin then wait d.startCapTest
  else d.fail c Status.busyMaintenance

/-- Executes a well-formed block. -/
def Dev.powerOp (d : Dev) (c : Cap) : Dev :=
  let b := c.value
  match b.field 0 1 with
  | 2 => ({ d with pow := { d.pow with armed := b.field 1 1 } } : Dev).powerReply c
  | 3 => ({ d with pow := { d.pow with armed := 0 } } : Dev).powerReply c
  | 4 =>
    let until_ := if b.field 4 4 = 0 then none else some (d.clk.tick + b.field 4 4 * 1000000)
    ({ d with pow := { d.pow with holdUntil := until_ } } : Dev).powerReply c
  | 5 => d.capTestOp c
  | 6 => ({ d with pow := { d.pow with alarm := b.field 8 8 } } : Dev).powerReply c
  | _ => d.powerReply c

/-- `POWER_CTL` executes. -/
def powerCtlGo (c : Cap) (d : Dev) : Dev := d.check c (d.powerCtlCheck c) (fun (d : Dev) => d.powerOp c)

/-- The ops of `POWER_CTL`. -/
abbrev powerOps : List Nat := [1, 2, 3, 4, 5, 6]

def powerCtlStatusEff (seq : Nat) (d : Dev) : Dev := d.admin seq Op.powerCtl (opIs powerOps 1) powerCtlGo
/-- POWER_CTL_STATUS (R321). -/
def execPowerCtlStatus (seq : Nat) (s : State) : Host.Outcome State Fault Refusal := s.run (powerCtlStatusEff seq)

def descendEff (seq : Nat) (d : Dev) : Dev := d.admin seq Op.powerCtl (opIs powerOps 2) powerCtlGo
/-- DESCEND (R321). -/
def execDescend (seq : Nat) (s : State) : Host.Outcome State Fault Refusal := s.run (descendEff seq)

def powerCtlWakeEff (seq : Nat) (d : Dev) : Dev := d.admin seq Op.powerCtl (opIs powerOps 3) powerCtlGo
/-- POWER_CTL_WAKE (R321). -/
def execPowerCtlWake (seq : Nat) (s : State) : Host.Outcome State Fault Refusal := s.run (powerCtlWakeEff seq)

def holdEff (seq : Nat) (d : Dev) : Dev := d.admin seq Op.powerCtl (opIs powerOps 4) powerCtlGo
/-- HOLD (R321). -/
def execHold (seq : Nat) (s : State) : Host.Outcome State Fault Refusal := s.run (holdEff seq)

def capTestEff (seq : Nat) (d : Dev) : Dev := d.admin seq Op.powerCtl (opIs powerOps 5) powerCtlGo
/-- CAP_TEST (R321). -/
def execCapTest (seq : Nat) (s : State) : Host.Outcome State Fault Refusal := s.run (capTestEff seq)

def setAlarmEff (seq : Nat) (d : Dev) : Dev := d.admin seq Op.powerCtl (opIs powerOps 6) powerCtlGo
/-- SET_ALARM (R321). -/
def execSetAlarm (seq : Nat) (s : State) : Host.Outcome State Fault Refusal := s.run (setAlarmEff seq)

/-! ## Capacitor tests (R327) -/

/-- CAP_TEST_SCHEDULE (R327). -/
def execCapTestSchedule (s : State) : Host.Outcome State Fault Refusal := s.run Dev.scheduledCapTest

/-- A test put off is tried again after 60 s. -/
def capTestRetryEff (d : Dev) : Dev := if d.pow.bank.retryPending then d.scheduledCapTest else d
/-- CAP_TEST_RETRY (R327). -/
def execCapTestRetry (s : State) : Host.Outcome State Fault Refusal := s.run capTestRetryEff

/-- The test that runs ends with its measurements: the event, the state, the replies of the `CAP_TEST`s that wait. -/
def capTestDoneEff (m : CapMeasure) (d : Dev) : Dev :=
  if !d.pow.bank.testRunning then d
  else
    let b := d.pow.bank
    let b1 : Bank := { b with
      testRunning := false, testWaiters := [], esr := m.esr, capacitance := m.capacitance, chargerFault := m.chargerFault }
    let b2 : Bank := { b1 with testedSinceOn := b1.testedSinceOn || (b1.testOk && !b1.chargerFault) }
    let d1 : Dev := { d with pow := { d.pow with bank := b2 } }
    let d2 := (d1.raise Ev.holdupTest m.capacitance m.esr b2.energyMj (d1.derivedLimit / 1048576)).refreshBank
      (if m.chargerFault then 4 else 1)
    b.testWaiters.foldl (fun (d : Dev) (s : Nat) => d.answer (some s) (Reply.okData d.powerStatus)) d2

/-- CAP_TEST_DONE (R327). -/
def execCapTestDone (m : CapMeasure) (s : State) : Host.Outcome State Fault Refusal := s.run (capTestDoneEff m)

/-! ## The ladder (R315, R316, R321) -/

/-- The pair keeps the drive out of Fog (R315). -/
def Dev.pairAwake (d : Dev) : Bool := d.mir.state == .connecting || d.mir.state == .linked

/-- A descent by a timer may happen: the drive is idle, no HOLD runs, and the floor lies at or below the rung. -/
def Dev.mayDescend (d : Dev) (r : Rung) : Bool :=
  d.par.run == .running && d.pow.failing.isNone && d.idle && d.pow.holdUntil.isNone && decide (r.num ≤ d.pnum P.powerFloor) &&
    d.par.pendingReset.isNone && d.par.shutdownSince.isNone

def hazeIdleEff (d : Dev) : Dev := if d.pow.rung = .clear ∧ d.mayDescend .haze then d.descend .haze 1 else d
/-- HAZE_IDLE_TIMEOUT (R316). -/
def execHazeIdleTimeout (s : State) : Host.Outcome State Fault Refusal := s.run hazeIdleEff

def fogIdleEff (d : Dev) : Dev :=
  if d.pow.rung = .haze ∧ d.mayDescend .fog ∧ ¬ d.pairAwake then d.descend .fog 1 else d
/-- FOG_IDLE_TIMEOUT (R316). -/
def execFogIdleTimeout (s : State) : Host.Outcome State Fault Refusal := s.run fogIdleEff

/-- From Fog; a drive that its pair keeps out of Fog goes from Haze (R315). -/
def frostIdleEff (d : Dev) : Dev :=
  if (d.pow.rung = .fog ∨ (d.pow.rung = .haze ∧ d.pairAwake)) ∧ d.mayDescend .frost then d.descend .frost 1 else d
/-- FROST_IDLE_TIMEOUT (R316). -/
def execFrostIdleTimeout (s : State) : Host.Outcome State Fault Refusal := s.run frostIdleEff

def glazeIdleEff (d : Dev) : Dev :=
  if d.pow.rung = .frost ∧ d.mayDescend .glaze ∧ ¬ d.pow.stopped then d.descend .glaze 1 else d
/-- GLAZE_IDLE_TIMEOUT (R316). -/
def execGlazeIdleTimeout (s : State) : Host.Outcome State Fault Refusal := s.run glazeIdleEff

/-- The rung with a value. -/
def rungOf (n : Nat) : Rung :=
  match n with
  | 0 => .clear
  | 1 => .haze
  | 2 => .fog
  | 3 => .frost
  | _ => .glaze

/-- An armed descent begins once the drive is idle and no HOLD runs (R321, R335); a drive that its pair keeps out of Fog rests in
Haze. -/
def Dev.armedDescent (d : Dev) : Dev :=
  let r := rungOf d.pow.armed
  if d.pow.armed ≠ 0 ∧ d.pow.rung.num < d.pow.armed ∧ d.mayDescend r ∧ ¬ d.pow.stopped then
    let to_ := if r = .fog && d.pairAwake then Rung.haze else r
    ({ d with pow := { d.pow with armed := 0 } } : Dev).descend to_ 2
  else d

/-- HOLD_EXPIRY (R321). -/
def holdExpiryEff (d : Dev) : Dev := ({ d with pow := { d.pow with holdUntil := none } } : Dev).armedDescent
def execHoldExpiry (s : State) : Host.Outcome State Fault Refusal := s.run holdExpiryEff

def wakePinEff (d : Dev) : Dev := d.wakeIf 3
/-- WAKE_PIN (R318). -/
def execWakePin (s : State) : Host.Outcome State Fault Refusal := s.run wakePinEff

/-- The RTC alarm wakes from Frost and Glaze. In Glaze it is always set: to the earliest of the alarm of SET_ALARM, a patrol
deadline and the next capacitor test (R318), so there only an alarm of SET_ALARM that has come is over; on the other rungs it is the
alarm of SET_ALARM that fires (log entry 222). -/
def rtcAlarmEff (d : Dev) : Dev :=
  let over_ := d.pow.rung ≠ .glaze ∨ d.pow.alarm ≤ d.clk.ns
  let d1 : Dev := if over_ then { d with pow := { d.pow with alarm := 0 } } else d
  if d.pow.rung = .glaze ∨ (d.pow.rung = .frost ∧ d.pow.alarm ≠ 0) then d1.wakeIf 5 else d1
/-- RTC_ALARM (R318). -/
def execRtcAlarm (s : State) : Host.Outcome State Fault Refusal := s.run rtcAlarmEff

end Sys2Proof.Machine
end

