-- ==== Sys2Proof/Machine/PowerOps.lean ====
section
/-! DEFINITION. The power cap (R322 to R324), temperature (R190 to R192, R325, R326), the power-fail sequence (R330, R331), the
clocks (R334), and what happens on the rear connector (R435 to R438, R461). -/

namespace Sys2Proof.Machine

/-! ## The Gale step (R190 to R193, R323) -/

/-- `EV_GALE_FLOOR_SHORT` for each tenant whose share does not carry its floor (R193). The spec gives the measured mix of
operations no window: the operations per 64 KiB of payload are a free value (log entry 2). -/
def Dev.floorShorts (d : Dev) : Dev :=
  d.pol.tenants.foldl (fun (d : Dev) (t : Tenant) =>
    if t.floor = 0 then d
    else
      let (v, d1) := d.draw
      let need := t.floor * 1000000 / 65536 * (v.toNat % 2 ^ 16)
      let share := d1.floorShare t.floor
      if share < need then d1.raise Ev.galeFloorShort t.id.toNat t.floor (share / 1000) d1.gale.step else d1) d

/-- Puts the step in force that temperature and the power cap leave; a change runs the list of R192. -/
def Dev.applyStep (d : Dev) : Dev :=
  let new := min d.gale.tempStep d.pow.galeCeiling
  let old := d.gale.step
  if new = old then d
  else
    let d1 : Dev := { d with
      gale := { d.gale with step := new, stepSince := d.clk.tick },
      net := { d.net with pacedRaised := false } }
    let d2 := ((d1.bump (.galeStepMs old) ((d.clk.tick - d.gale.stepSince) / 1000)).applyCommitted
      (· == P.galeFloorReferenceMbps)).notifyAll .thermalStep (fun _ => natToBytesBE 4 new)
    (d2.raise Ev.galeStep new old d2.gale.hottest (d2.gale.hottestTemp % 2 ^ 32).toNat).floorShorts

/-- The step that a temperature asks for at once (R190). -/
def stepFor (offset : Nat) (t : Int) : Nat :=
  if 100 - offset < t then 75 else if 95 - offset < t then 150 else if 90 - offset < t then 300 else 600

/-- The temperature at or below which a step is left upward (R190). -/
def stepExit (step : Nat) : Int := if step = 300 then 85 else if step = 150 then 90 else 95

/-- The hottest Gale die decides the step (R190); the dwell of a step up runs while it is cool enough. -/
def Dev.galeTemp (d : Dev) (die : Nat) (t : Int) : Dev :=
  let o := d.pnum P.galeStepOffsetC
  let down := stepFor o t
  let ts := min d.gale.tempStep down
  let cool := decide (ts < 600) && decide (t ≤ stepExit ts - o)
  ({ d with gale := { d.gale with
    hottest := die, hottestTemp := t, tempStep := ts,
    dwellSince := if cool then (if ts = d.gale.tempStep then d.gale.dwellSince.or (some d.clk.tick) else some d.clk.tick) else none } } :
    Dev).applyStep

/-- One step up, with one dwell for each (R191). -/
def galeStepUpEff (d : Dev) : Dev :=
  match d.gale.dwellSince with
  | none => d
  | some _ =>
    let ts := min 600 (2 * d.gale.tempStep)
    let cool := decide (ts < 600) && decide (d.gale.hottestTemp ≤ stepExit ts - d.pnum P.galeStepOffsetC)
    ({ d with gale := { d.gale with tempStep := ts, dwellSince := if cool then some d.clk.tick else none } } : Dev).applyStep
/-- GALE_STEP_UP_DWELL (R191). -/
def execGaleStepUpDwell (s : State) : Host.Outcome State Fault Refusal := s.run galeStepUpEff

/-! ## The power cap (R322, R323) -/

/-- The last knob in use, 0 for none. -/
def Dev.knob (d : Dev) : Nat :=
  if d.pow.dispatchPm < 1000 then 3 else if d.pow.galeCeiling < 600 then 2
  else if d.nandGrant < d.pnum P.mediaNandBudgetW * 100 then 1 else 0

/-- `EV_CAP_BIND` where a knob later than before is in use. -/
def Dev.capBound (d : Dev) (before : Nat) : Dev :=
  if before < d.knob then d.raise Ev.capBind d.powerLimit d.knob d.nandGrant 0 else d

/-- Turns the first knob that is not fully turned. How far the NAND share and the dispatch rate go in one period is not stated: a
free value within the knob's range (log entry 2). -/
def Dev.turnKnob (d : Dev) : Dev :=
  let g := d.nandGrant
  if 1000 < g then
    let (v, d1) := d.draw
    ({ d1 with pow := { d1.pow with nandShare := 1000 + v.toNat % (g - 1000) } } : Dev).capBound d.knob
  else if 75 < d.pow.galeCeiling then
    (({ d with pow := { d.pow with galeCeiling := d.pow.galeCeiling / 2 } } : Dev).applyStep).capBound d.knob
  else if 50 < d.pow.dispatchPm then
    let (v, d1) := d.draw
    ({ d1 with pow := { d1.pow with dispatchPm := 50 + v.toNat % (d.pow.dispatchPm - 50) } } : Dev).capBound d.knob
  else d

/-- Releases one step of the last knob in use; the size of a step is free as above. -/
def Dev.releaseKnob (d : Dev) : Dev :=
  match d.knob with
  | 0 => d
  | 1 =>
    let top := d.pnum P.mediaNandBudgetW * 100
    let (v, d1) := d.draw
    let x := d.nandGrant + 1 + v.toNat % (top - d.nandGrant)
    { d1 with pow := { d1.pow with nandShare := if x = top then 4500 else x } }
  | 2 => ({ d with pow := { d.pow with galeCeiling := min 600 (2 * d.pow.galeCeiling) } } : Dev).applyStep
  | _ =>
    let (v, d1) := d.draw
    { d1 with pow := { d1.pow with dispatchPm := d.pow.dispatchPm + 1 + v.toNat % (1000 - d.pow.dispatchPm) } }

/-- Vane controls: it runs, and the rails are on. -/
def Dev.controls (d : Dev) : Bool :=
  d.mgmt.vaneUp && (d.par.run == .running || d.par.run == .starting) && d.pow.failing.isNone

/-- One control period: the input power joins the last 100, and a knob turns while it exceeds the limit. -/
def powerCapEff (input : Nat) (d : Dev) : Dev :=
  if !d.controls then d
  else
    let d1 : Dev := { d with pow := { d.pow with inputs := (input :: d.pow.inputs).take 100 } }
    if d1.powerLimit < input then d1.turnKnob else d1
/-- POWER_CAP_PERIOD (R322, R323). -/
def execPowerCapPeriod (inputTenthW : Nat) (s : State) : Host.Outcome State Fault Refusal := s.run (powerCapEff inputTenthW)

def knobReleaseEff (d : Dev) : Dev :=
  match d.pow.inputs with
  | [] => d
  | x :: _ => if d.controls && decide (x + 20 ≤ d.powerLimit) then d.releaseKnob else d
/-- KNOB_RELEASE_STEP (R323). -/
def execKnobReleaseStep (s : State) : Host.Outcome State Fault Refusal := s.run knobReleaseEff

def floorBreachRepeatEff (d : Dev) : Dev := if d.pow.breach then d.breachEvent else d
/-- FLOOR_BREACH_REPEAT (R324). -/
def execFloorBreachRepeat (s : State) : Host.Outcome State Fault Refusal := s.run floorBreachRepeatEff

/-! ## Temperature (R325, R326, R342) -/

/-- The sensor points of a group, by its index (R341): rows 1 to 7 of R325, then the cartridges. -/
def groupPoints (g : Nat) : List Nat :=
  match g with
  | 0 => (List.range 8).map (· + 1)
  | 1 => (List.range 8).map (· + 9)
  | 2 => (List.range 8).map (· + 17)
  | 3 => (List.range 24).map (· + 25)
  | 4 => (List.range 14).map (· + 49)
  | 5 => [63, 64]
  | 6 => [73]
  | n => (List.range 6).map (· + (25 + 6 * (n - 7)))

/-- The thresholds of a group in °C: WARN above, THROTTLE from, STOP above; none where the table has none. -/
def groupWarn (g : Nat) : Int :=
  match g with
  | 0 => 95
  | 1 => 85
  | 2 => 85
  | 3 => 70
  | 4 => 105
  | 5 => 60
  | _ => 38

def groupThrottle (o : Nat) (g : Nat) : Option Int :=
  match g with
  | 0 => some 100
  | 1 => some 88
  | 2 => some (90 - o)
  | 3 => some 72
  | 4 => some 110
  | 5 => some 65
  | _ => none

def groupStop (o : Nat) (g : Nat) : Option Int :=
  match g with
  | 0 => some 110
  | 1 => some 95
  | 2 => some (105 - o)
  | 3 => some 85
  | 4 => some 120
  | 5 => none
  | _ => some 50

/-- The group of a row of R325 or of a cartridge, as THROTTLE reads for a failed point (R342); the inlet reads just above WARN. -/
def failedReads (o : Nat) (g : Nat) : Int :=
  match groupThrottle o (if 7 ≤ g then 3 else g) with
  | some t => t
  | none => groupWarn g + 1

/-- The readings of a group's points in a sample, failed points as R342 says. -/
def Dev.groupReads (d : Dev) (temps : List (Nat × Int)) (g : Nat) : List (Nat × Int) :=
  let o := d.pnum P.galeStepOffsetC
  (groupPoints g).filterMap (fun p =>
    if d.sensorFailed p then some (p, failedReads o g)
    else (temps.find? (fun t => t.1 == p)).map (fun t => (p, t.2)))

/-- More than half of a group's points have failed: the group is at STOP (R342). -/
def Dev.groupLost (d : Dev) (g : Nat) : Bool :=
  decide ((groupPoints g).length < 2 * ((groupPoints g).filter d.sensorFailed).length) && decide (g < 6)

/-- The hottest of some readings. -/
def hottestOf : List (Nat × Int) → Option (Nat × Int)
  | [] => none
  | x :: rest => some (rest.foldl (fun (a b : Nat × Int) => if a.2 < b.2 then b else a) x)

/-- A temperature exceeds a threshold, if there is one. -/
def above (t : Int) (th : Option Int) : Bool :=
  match th with
  | some x => decide (x < t)
  | none => false

/-- The level a reading enters. -/
def levelFor (o g : Nat) (t : Int) : Nat :=
  match groupThrottle o g with
  | some x => if x ≤ t then 2 else if groupWarn g < t then 1 else 0
  | none => if groupWarn g < t then 1 else 0

/-- The threshold of a level. -/
def levelMark (o g level : Nat) : Int :=
  if level = 2 then (groupThrottle o g).getD (groupWarn g) else groupWarn g

/-- The cut of a group at a temperature in per mille, as `EV_THERMAL_THROTTLE` shows it. -/
def Dev.cutPm (d : Dev) (g : Nat) (t : Int) : Nat :=
  match g with
  | 0 => min 1000 (100 * (t - 100).toNat)
  | 1 => min 1000 (100 * (t - 88).toNat)
  | 2 => 1000 - d.gale.step * 1000 / 600
  | 3 => min 1000 (100 * (t - 72).toNat)
  | 4 => min (50 * (t - 110).toNat) (d.pnum P.powerCapW * 10 - 450) * 1000 / (d.pnum P.powerCapW * 10)
  | _ => 0

/-- The event of a level. -/
def Dev.levelEvent (d : Dev) (g level point : Nat) (t : Int) : Dev :=
  if level = 2 then d.raise Ev.thermalThrottle (g + 1) point (t % 2 ^ 32).toNat (d.cutPm g t)
  else d.raise Ev.thermalWarn (g + 1) point (t % 2 ^ 32).toNat (groupWarn g % 2 ^ 32).toNat

/-- Changes a group. -/
def Dev.setGroup (d : Dev) (g : Fin 11) (x : ThermGroup) : Dev := { d with pow := { d.pow with groups := d.pow.groups.set g x } }

/-- A group takes its readings: levels are entered at once, with their events. -/
def Dev.evalGroup (d : Dev) (temps : List (Nat × Int)) (g : Fin 11) : Dev :=
  match hottestOf (d.groupReads temps g.val) with
  | none => d
  | some (point, t) =>
    let o := d.pnum P.galeStepOffsetC
    let x := d.pow.groups.get g
    if 7 ≤ g.val then d.setGroup g { x with point := point, temp := t }
    else
      let new := max x.level (levelFor o g.val t)
      let below := if new ≠ 0 ∧ t ≤ levelMark o g.val new - 5 then x.belowSince.or (some d.clk.tick) else none
      let d1 := d.setGroup g { level := new, point := point, temp := t, belowSince := below }
      let d2 := if x.level < 1 ∧ 1 ≤ new then d1.levelEvent g.val 1 point t else d1
      let d3 := if x.level < 2 ∧ 2 ≤ new then d2.levelEvent g.val 2 point t else d2
      let d4 := if x.level = new ∧ new ≠ 0 ∧ point ≠ x.point then d3.levelEvent g.val new point t else d3
      if above t (groupStop o g.val) || d4.groupLost g.val then
        (if d4.pow.stopped then d4
         else ({ d4 with pow := { d4.pow with stopped := true, coolSince := none } } : Dev).raise Ev.thermalStop (g.val + 1) point
          (t % 2 ^ 32).toNat 0)
      else d4

/-- A cartridge that is not there has no temperature. -/
def Dev.dropCartTemps (d : Dev) : Dev :=
  { d with pow := { d.pow with groups := d.pow.groups.mapIdx (fun (i : Nat) (x : ThermGroup) =>
    if 7 ≤ i && !(d.bays.toList.map (fun (b : Bay) => b.present)).getD (i - 7) false then ThermGroup.reset else x) } }

/-- Every point is 10 °C below its group's STOP threshold (R326). -/
def Dev.allCool (d : Dev) : Bool :=
  let o := d.pnum P.galeStepOffsetC
  (List.range 7).all (fun g => !d.groupLost g && !above ((d.pow.groups.toList.map (·.temp)).getD g 0) ((groupStop o g).map (· - 10)))

/-- The actions of the throttles (R325): dispatch rate, power limit, capacitor state, Gale's step. -/
def Dev.throttle (d : Dev) : Dev :=
  let t (g : Fin 11) : Int := (d.pow.groups.get g).temp
  let cut := max (d.cutPm 0 (t 0)) (d.cutPm 1 (t 1))
  let d1 : Dev := { d with pow := { d.pow with
    thermalPm := 1000 - cut, limitCut := 50 * (t 4 - 110).toNat,
    bank := { d.pow.bank with temp := t 5 } } }
  (d1.refreshBank 3).galeTemp ((d1.pow.groups.get 2).point - 17) (t 2)

/-- A sample of the temperature points: the groups, the throttles, and a stop (R325, R326). -/
def thermalSampleEff (temps : List (Nat × Int)) (d : Dev) : Dev :=
  if !d.controls then d
  else
    let d0 := d.applyCommitted (· == P.galeStepOffsetC)
    let d1 := ((List.finRange 11).foldl (fun (d : Dev) (g : Fin 11) => d.evalGroup temps g) d0.dropCartTemps).throttle
    let d2 : Dev := { d1 with pow := { d1.pow with
      coolSince := if d1.pow.stopped && d1.allCool then d1.pow.coolSince.or (some d1.clk.tick) else none } }
    d2.performPending
/-- THERMAL_SAMPLE (R325). -/
def execThermalSample (temps : List (Nat × Int)) (s : State) : Host.Outcome State Fault Refusal := s.run (thermalSampleEff temps)

/-- A level is left once the reading has stayed 5 °C below its threshold (R325). -/
def thermalExitEff (group : Nat) (d : Dev) : Dev :=
  if h : group - 1 < 7 then
    let g : Fin 11 := ⟨group - 1, by omega⟩
    let x := d.pow.groups.get g
    if x.belowSince.isSome && x.level != 0 then
      let new := x.level - 1
      let o := d.pnum P.galeStepOffsetC
      d.setGroup g { x with
        level := new,
        belowSince := if new ≠ 0 ∧ x.temp ≤ levelMark o g.val new - 5 then some d.clk.tick else none }
    else d
  else d
/-- THERMAL_LEVEL_EXIT (R325). -/
def execThermalLevelExit (group : Nat) (s : State) : Host.Outcome State Fault Refusal := s.run (thermalExitEff group)

/-- The thermal stop is over (R326): the drive wakes to Clear; a descent armed to Glaze runs from Frost instead (R335). -/
def thermalStopRecoveryEff (d : Dev) : Dev :=
  if d.pow.stopped && d.pow.coolSince.isSome then
    let d1 : Dev := { d with pow := { d.pow with stopped := false, coolSince := none } }
    if d1.pow.rung = .frost then
      (if d1.pow.armed = 4 then
        (let d2 := d1.armedDescent
         if d2.pow.rung = .frost then d2.wake 6 else d2)
       else d1.wake 6)
    else d1
  else d
/-- THERMAL_STOP_RECOVERY (R326). -/
def execThermalStopRecovery (s : State) : Host.Outcome State Fault Refusal := s.run thermalStopRecoveryEff

/-! ## Power failure (R330, R331, R334, R461) -/

/-- Input power goes, by a warning of R330: the data path runs the sequence; a drive that only waits stops; in Glaze nothing runs. -/
def Dev.failNow (d : Dev) (thenHalt : RunState) (trip : Option (Nat × Nat × Int)) : Dev :=
  match d.par.run with
  | .off => d
  | .running | .starting =>
    if d.pow.rung = .glaze then { d with par := { d.par with run := thenHalt, closing := false } }
    else d.powerFail thenHalt trip
  | .recovery | .haltedTrip | .haltedPll =>
    { d with par := { d.par with run := if trip.isSome then .haltedTrip else .off },
             mgmt := { d.mgmt with vaneUp := d.pow.aux3v3 && d.pow.pwrEn, conns := if d.pow.aux3v3 then d.mgmt.conns else [] } }

def powerFailWarningEff (c : FailCause) (d : Dev) : Dev :=
  let d1 : Dev := match c with
    | .pwrFail => { d with pow := { d.pow with pwrFail := true } }
    | .inputLow => { d with pow := { d.pow with p12v := false } }
  d1.failNow .off none
/-- POWER_FAIL_WARNING (R330). -/
def execPowerFailWarning (c : FailCause) (s : State) : Host.Outcome State Fault Refusal := s.run (powerFailWarningEff c)

/-- The comparators trip (R326): the sequence, then the rails stay off until `PWR_EN` is cycled. -/
def thermalTripEff (group point : Nat) (temp : Int) (d : Dev) : Dev :=
  match d.pow.failing with
  | some f => { d with pow := { d.pow with failing := some { f with thenHalt := .haltedTrip, trip := some (group, point, temp) } } }
  | none => d.failNow .haltedTrip (some (group, point, temp))
/-- THERMAL_TRIP (R326). -/
def execThermalTrip (group point : Nat) (temp : Int) (s : State) : Host.Outcome State Fault Refusal :=
  s.run (thermalTripEff group point temp)

/-- The auxiliary rail goes (R461): Vane goes with it at the end of the sequence, and the time is lost (R349). -/
def aux3v3LowEff (d : Dev) : Dev :=
  let d1 : Dev := { d with pow := { d.pow with aux3v3 := false, auxLost := true } }
  if d1.par.run = .off then { d1 with mgmt := { d1.mgmt with vaneUp := false, conns := [] } } else d1.failNow .off none
/-- AUX_3V3_LOW (R461). -/
def execAux3v3Low (s : State) : Host.Outcome State Fault Refusal := s.run aux3v3LowEff

/-- The writers that the bank no longer carries (R331): those whose programs have not begun, and the later writers on their
keys. -/
def Dev.unflushed (d : Dev) (f : FailSeq) : List Nat :=
  let open_ := d.que.drift.filter (fun v => f.flush.contains v.seq && !v.onMedium)
  let late (v : Version) : Bool := d.med.progs.any (fun p => d.flushProgs [v.seq] p && d.med.waiting.any (fun o => o.id == p.id))
  let first := (open_.filter late).map (fun v => (v.ns, v.hash, v.seq))
  (d.que.drift.filter (fun v => !v.onMedium &&
    first.any (fun x => x.1 == v.ns && x.2.1 == v.hash && decide (x.2.2 ≤ v.seq)))).map (·.seq)

/-- The bank runs low before the flush has ended (R331): what has not begun is recorded as lost with cause POWER_LOST. -/
def holdupLowEff (d : Dev) : Dev :=
  match d.pow.failing with
  | none => d
  | some f =>
    let l := d.unflushed f
    let d1 := l.foldl (fun (d : Dev) (s : Nat) => match d.ver? s with
      | some v => if v.early then d.loseVer v Status.mediaError 2 else d.undoVer v v.charge v.refund
      | none => d) d
    let n := (l.filter f.flush.contains).length
    ({ d1 with pow := { d1.pow with failing := some { f with lost := f.lost + n } } } : Dev).failCheck
/-- HOLDUP_ENERGY_LOW (R331). -/
def execHoldupEnergyLow (s : State) : Host.Outcome State Fault Refusal := s.run holdupLowEff

/-- The root PLL loses lock (R334): the event, the sequence on its holdover, then a controller reset or a halt. -/
def pllUnlockEff (d : Dev) : Dev :=
  if (d.par.run = .running ∨ d.par.run = .starting) ∧ d.pow.rung.num ≤ 2 then
    (({ d with pow := { d.pow with pllOk := false } } : Dev).raise Ev.pllUnlock 1 0 0 0).failNow .haltedPll none
  else d
/-- PLL_UNLOCK (R334). -/
def execPllUnlock (s : State) : Host.Outcome State Fault Refusal := s.run pllUnlockEff

/-! ## Power on and off (R435, R436, R438, R461) -/

/-- The inputs allow a start. -/
def Power.inputsOk (p : Power) : Bool := p.pwrEn && p.p12v && p.aux3v3 && !p.pwrFail

/-- Starts from power-on where the rails are off and the inputs are there. -/
def Dev.startIfOff (d : Dev) : Dev :=
  if d.par.run == .off && d.pow.failing.isNone && d.pow.inputsOk then d.powerOnStart else d

/-- `PWR_EN` is asserted with the inputs present. The slot strap is sampled at a start only (R457). -/
def powerOnEff (slotId : BitVec 6) (d : Dev) : Dev :=
  let off := d.par.run == .off && d.pow.failing.isNone
  ({ d with pow := { d.pow with
    pwrEn := true, p12v := true, aux3v3 := true, pwrFail := false, slotId := if off then slotId else d.pow.slotId } } : Dev).startIfOff
/-- POWER_ON (R436). -/
def execPowerOn (slotId : BitVec 6) (s : State) : Host.Outcome State Fault Refusal := s.run (powerOnEff slotId)

/-- A lost input returns (R461). -/
def inputRestoredEff (p12v : Bool) (d : Dev) : Dev :=
  (if p12v then { d with pow := { d.pow with p12v := true, pwrFail := false } } else { d with pow := { d.pow with aux3v3 := true } } :
    Dev).startIfOff
/-- INPUT_RESTORED (R461). -/
def execInputRestored (p12v : Bool) (s : State) : Host.Outcome State Fault Refusal := s.run (inputRestoredEff p12v)

/-- An orderly shutdown begins (R438). -/
def Dev.shutdownStart (d : Dev) : Dev :=
  let ms := d.pnum P.modeShutdownMaxMs
  let d1 := d.notifyAll .sessionClosing (fun _ => natToBytesBE 4 Status.sessionExpired.toNat ++ natToBytesBE 4 ms)
  ({ d1 with par := { d1.par with shutdownSince := some d1.clk.tick, closing := true } } : Dev).performPending

/-- `PWR_EN` is deasserted (R438, R461): an orderly shutdown; a start stops at its next step; in Glaze the rails stay off. -/
def pwrEnDeassertEff (d : Dev) : Dev :=
  let d1 : Dev := { d with pow := { d.pow with pwrEn := false } }
  let off : Dev := { d1 with
    par := { d1.par with run := .off, closing := false },
    mgmt := { d1.mgmt with vaneUp := false, conns := [], linkUp := false } }
  if d1.pow.failing.isSome then d1
  else match d1.par.run with
    | .off | .starting | .recovery | .haltedTrip | .haltedPll => off
    | .running =>
      if d1.pow.rung = .glaze then off else if d1.par.shutdownSince.isSome then d1 else d1.shutdownStart
/-- PWR_EN_DEASSERT (R438). -/
def execPwrEnDeassert (s : State) : Host.Outcome State Fault Refusal := s.run pwrEnDeassertEff

/-- The shutdown has taken too long: the rest is abandoned and the power-fail sequence runs. -/
def shutdownLimitEff (d : Dev) : Dev :=
  match d.par.shutdownSince with
  | none => d
  | some t => (d.raise Ev.shutdown 2 ((d.clk.tick - t) / 1000) 0 0).failNow .off none
/-- SHUTDOWN_LIMIT (R438). -/
def execShutdownLimit (s : State) : Host.Outcome State Fault Refusal := s.run shutdownLimitEff

/-- The firmware supervisor (R437): the event and an integrity stop. Its region is that of the address of the core. -/
def fwWatchdogEff (core ms : Nat) (abort : Bool) (d : Dev) : Dev :=
  if d.par.run != .running then d
  else (d.raise Ev.fwWatchdog core ms (if abort then 2 else 1) 0).integrityStop Ev.fwWatchdog.code 0 0
/-- FW_WATCHDOG (R437). -/
def execFwWatchdog (core ms : Nat) (abort : Bool) (s : State) : Host.Outcome State Fault Refusal := s.run (fwWatchdogEff core ms abort)

/-- What Vane holds in its SRAM is gone after a restart: connections, the endpoint ID, the staged set (R346, R439). -/
def Dev.vaneFresh (d : Dev) : Dev :=
  { d with
    mgmt := { d.mgmt with conns := [], eid := 0, pldmReceiver := none, pldmQueue := [] },
    par := { d.par with staged := [] } }

/-- The Vane core restarts (R339): the capacitor state is UNHEALTHY until it is back. In TRIAL the restart counts as a failed start
and Vane resets the drive (R417), once what was acknowledged early is on medium (R136; log entry 211). -/
def vaneWatchdogEff (d : Dev) : Dev :=
  if !d.mgmt.vaneUp then d
  else if d.par.run == .running && d.upd.inTrial && d.pow.failing.isNone then
    ({ d.vaneFresh with par := { d.vaneFresh.par with pendingReset := some .trial } } : Dev).performPending
  else
    let st := d.pow.bank.state
    let dip : Dev := ({ d with pow := { d.pow with bank := { d.pow.bank with state := .unhealthy } } } : Dev).refreshEarly
    let back : Dev := ({ dip with pow := { dip.pow with bank := { dip.pow.bank with state := st } } } : Dev).vaneFresh
    let (v, d1) := back.draw
    (d1.raise Ev.vaneRestart 1 (v.toNat % 301) 0 0).refreshEarly
/-- VANE_WATCHDOG (R339). -/
def execVaneWatchdog (s : State) : Host.Outcome State Fault Refusal := s.run vaneWatchdogEff

/-- A start that does not report counts as failed (R417): Vane resets the drive, and the ROM chooses again. -/
def startReportTimeoutEff (d : Dev) : Dev :=
  if d.par.run != .starting || d.pow.failing.isSome then d
  else
    let d1 := d.wipe
    let d2 : Dev := { d1.vaneFresh with par := { d1.par with startKind := 2, startCode := 0 } }
    let (v, d3) := d2.draw
    let d4 := d3.raise Ev.vaneRestart 2 (v.toNat % 301) 0 0
    match d4.romChoice with
    | .inr c => d4.enterRecovery c
    | .inl d5 => (d5.mirrorReset true).startGo
/-- START_REPORT_TIMEOUT (R417). -/
def execStartReportTimeout (s : State) : Host.Outcome State Fault Refusal := s.run startReportTimeoutEff

end Sys2Proof.Machine
end

