-- ==== Sys2Proof/Machine/Updates.lean ====
section
/-! DEFINITION. Firmware update and Recovery (R400 to R425). -/

namespace Sys2Proof.Machine

/-! ## The package (R400 to R403, R406) -/

/-- A check of order 1 (R401, R406): magic, format, the reserved byte, signed_length and cert_length. -/
def hdrForm (b : Bytes) : Bool :=
  let cert := b.field 0x3A 2
  b.field 0 2 == 0x5557 && b.field 2 1 == 1 && b.field 3 1 == 0 && decide (1 ≤ cert) && decide (cert ≤ 4096) &&
    pkgSigned b == pad8 (0x180 + 32 * pkgChunks b + cert) && decide (pkgSigned b + 384 ≤ 65536)

/-- Entry `i` of the manifest (R402). -/
def manifestEntry (b : Bytes) (i : Nat) : Bytes := (b.drop (0x40 + 64 * i)).take 64

/-- A manifest entry's fields meet R402. -/
def entryForm (b : Bytes) (i : Nat) : Bool :=
  let e := manifestEntry b i
  let o := e.field 8 8
  let n := e.field 0x10 8
  e.field 0 1 == i + 1 && e.zeroAt 1 3 && e.zeroAt 0x18 8 && o % 4096 == 0 && decide (65536 ≤ o) && decide (1 ≤ n) &&
    decide (o + n ≤ pkgLength b)

/-- Two parts do not overlap. -/
def partsApart (b : Bytes) (i j : Nat) : Bool :=
  let x := manifestEntry b i
  let y := manifestEntry b j
  decide (x.field 8 8 + x.field 0x10 8 ≤ y.field 8 8) || decide (y.field 8 8 + y.field 0x10 8 ≤ x.field 8 8)

/-- Check 6 (R406): package_length, chunk_count and the manifest; zeros after the signature. -/
def hdrManifest (b : Bytes) : Bool :=
  let len := pkgLength b
  decide (65537 ≤ len) && decide (len ≤ 20905984) && pkgChunks b == ceilDiv (len - 65536) 65536 &&
    (List.range 5).all (entryForm b) &&
    (List.range 5).all (fun i => (List.range i).all (fun j => partsApart b i j)) &&
    (b.drop (pkgSigned b + 384)).all (· == 0)

/-- The checks 1 to 6 of R406 against a floor: nothing, or the status of the first that fails. -/
def hdrCheck (b : Bytes) (certOk signatureOk : Bool) (floor : Nat) : Option (BitVec 16) :=
  if !hdrForm b then some Status.imageRejected
  else if !(certOk && signatureOk) then some Status.imageRejected
  else if b.field 0x10 4 != 0x464B3441 || !(b.field 0x14 4).testBit 1 then some Status.imageBinding
  else if !(b.field 0x18 16 == 0 || b.field 0x18 16 == Config.driveSerial.toNat) then some Status.imageBinding
  else if pkgSecver b < floor then some Status.rollbackRefused
  else if !hdrManifest b then some Status.imageRejected
  else none

/-- The digest of body chunk `n`. -/
def chunkDigest (hdr : Bytes) (n : Nat) : Nat := hdr.field (0x180 + 32 * (n - 1)) 32

/-- A chunk is good (R403). -/
def chunkGood (hdr : Bytes) (n : Nat) (b : Bytes) : Bool := (Config.sha256 b).toNat == chunkDigest hdr n

/-- Length of body chunk `n`. -/
def chunkLength (hdr : Bytes) (n : Nat) : Nat := min 65536 (pkgLength hdr - 65536 * n)

/-- Every part of a package matches its manifest digest (R403). -/
def partsGood (pkg : Bytes) : Bool :=
  (List.range 5).all (fun i =>
    let e := manifestEntry pkg i
    (Config.sha256 ((pkg.drop (e.field 8 8)).take (e.field 0x10 8))).toNat == e.field 0x20 32)

/-- The staged package as a whole: the header region and its chunks in order. -/
def Staging.package (s : Staging) : Bytes :=
  s.header ++ (List.range (pkgChunks s.header)).flatMap (fun i => (s.chunks.lookup (i + 1)).getD [])

/-- Every chunk is present. -/
def Staging.complete (s : Staging) : Bool := (List.range (pkgChunks s.header)).all (fun i => s.chunks.any (fun c => c.1 == i + 1))

/-! ## Sources and the lease (R404, R408, R409) -/

/-- Credential ID of a source, for the events and the log. -/
def UpdSource.cred (s : UpdSource) : Nat := if s.kind = 1 then s.who else 0

/-- The source holds the lease. -/
def Update.holds (u : Update) (s : UpdSource) : Bool :=
  match u.lease with
  | some l => l.holder == s
  | none => false

/-- The source contributes. -/
def Update.contributes (u : Update) (s : UpdSource) : Bool := u.lease.isSome && u.contributors.contains s

/-- Progress of the holder. -/
def Dev.updProgress (d : Dev) (s : UpdSource) : Dev :=
  if d.upd.holds s then { d with upd := { d.upd with lease := d.upd.lease.map (fun (l : Lease) => { l with last := d.clk.ns }) } } else d

/-- The 48 bytes that name the holder (R409); zeros where no lease is in force. -/
def Update.busyData (u : Update) : Bytes :=
  let digest := (match u.staging with
    | some s => (pkgDigest s.header).toNat
    | none => 0)
  match u.lease with
  | some l =>
    natToBytesBE 1 l.holder.kind ++ natToBytesBE 1 u.state ++ zeroBytes 2 ++ natToBytesBE 4 l.holder.cred ++
      natToBytesBE 8 (if l.holder.kind = 2 then l.holder.who else 0) ++ natToBytesBE 16 digest ++ natToBytesBE 8 l.since ++
      natToBytesBE 8 l.last
  | none => zeroBytes 1 ++ natToBytesBE 1 u.state ++ zeroBytes 14 ++ natToBytesBE 16 digest ++ zeroBytes 16

/-- The reply for a status: that of `UPDATE_BUSY` names the holder. -/
def Update.reply (u : Update) (st : BitVec 16) : Reply :=
  if st = Status.updateBusy then { Reply.plain st with data := u.busyData } else Reply.plain st

/-- An opcode other than `UPD_BEGIN` and `UPD_CONFIRM` is turned away for the lease (R408). In IDLE there is none. -/
def Update.leaseRefuses (u : Update) (s : UpdSource) (chunk : Bool) : Bool :=
  u.state != 0 && !(u.holds s || (chunk && u.contributes s))

/-! ## Delivery (R406 to R411) -/

/-- Marks the inactive slot empty where an earlier install filled it. -/
def Dev.dropInstalled (d : Dev) : Dev :=
  if d.upd.state = 3 then { d with upd := { d.upd with slots := d.upd.slots.set d.upd.otherSlot none } } else d

/-- A header accepted as from IDLE. -/
def Dev.acceptHeader (d : Dev) (s : UpdSource) (hdr : Bytes) : Dev :=
  let now := d.clk.ns
  ({ d with upd := { d.upd with
    state := 1, staging := some ⟨hdr, []⟩, lease := some ⟨s, now, now⟩, contributors := [], source := some s, started := now } } :
    Dev).raise Ev.updBegin s.kind s.cred (pkgRelease hdr) (pkgSecver hdr)

/-- The reply data of `UPD_BEGIN` (R407). -/
def Dev.beginData (d : Dev) (s : UpdSource) : Bytes :=
  let u := d.upd
  natToBytesBE 1 u.state ++ natToBytesBE 1 (if u.holds s then 1 else 2) ++ zeroBytes 2 ++ natToBytesBE 4 u.present.length ++
    natToBytesBE 8 ((match u.lease with
      | some l => l.last
      | none => 0) + d.pnum P.updateLeaseLapseH * 3600000000000) ++ chunkBitmap u.present ++ zeroBytes 40

/-- `UPD_BEGIN` from a source: the checks, then the relation of the header to the staged one (R406, R408). -/
def Dev.updBeginBy (d : Dev) (s : UpdSource) (hdr : Bytes) (certOk signatureOk : Bool) : BitVec 16 × Dev :=
  let refuse (st : BitVec 16) : BitVec 16 × Dev := (st, d.raise Ev.updRefused st.toNat s.kind s.cred (pkgRelease hdr))
  match hdrCheck hdr certOk signatureOk d.upd.floor with
  | some st => refuse st
  | none =>
    let u := d.upd
    if u.state = 4 then (if u.holds s then (Status.badField, d) else refuse Status.updateBusy)
    else match (if u.state = 0 then none else u.staging) with
      | none => (Status.ok, d.acceptHeader s hdr)
      | some st =>
        if st.header = hdr then
          (if u.lease.isNone then
            (Status.ok, { d with upd := { u with lease := some ⟨s, d.clk.ns, d.clk.ns⟩, contributors := [], source := some s } })
          else if u.holds s then (Status.ok, d.updProgress s)
          else (Status.ok, { d with upd := { u with
            contributors := if u.contributors.contains s then u.contributors else u.contributors ++ [s] } }))
        else if u.lease.isNone || u.holds s then (Status.ok, ((d.dropInstalled).endUpdate 6).acceptHeader s hdr)
        else refuse Status.updateBusy

/-- `UPD_CHUNK` from a source (R410). -/
def Dev.updChunkBy (d : Dev) (s : UpdSource) (offset : Nat) (b : Bytes) : BitVec 16 × Dev :=
  let u := d.upd
  if u.leaseRefuses s true then (Status.updateBusy, d)
  else if u.state = 0 || u.state = 4 then (Status.badField, d)
  else match u.staging with
    | none => (Status.badField, d)
    | some st =>
      let n := offset / 65536
      if offset % 65536 ≠ 0 || n = 0 || pkgLength st.header ≤ offset then (Status.badField, d)
      else if b.length ≠ chunkLength st.header n then (Status.badLength, d)
      else if !chunkGood st.header n b then (Status.imageRejected, d.raise Ev.updChunkBad n s.kind s.cred 0)
      else if st.chunks.any (fun c => c.1 == n) then (Status.ok, d.updProgress s)
      else
        let st1 : Staging := { st with chunks := st.chunks ++ [(n, b)] }
        let d1 := ({ d with upd := { u with staging := some st1 } } : Dev).updProgress s
        if st1.complete then
          let since := (match u.lease with
            | some l => (d.clk.ns - l.since) / 1000000000
            | none => 0)
          (Status.ok, ({ d1 with upd := { d1.upd with state := 2 } } : Dev).raise Ev.updStaged (pkgRelease st.header)
            (pkgChunks st.header) since 0)
        else (Status.ok, d1)

/-- Installs the staged package in a slot if it is intact (R411); a chunk that is not good is dropped. -/
def Dev.install (d : Dev) (st : Staging) (slot : Fin 2) : Bool × Dev :=
  let good := st.chunks.filter (fun c => chunkGood st.header c.1 c.2)
  if good.length = st.chunks.length && st.complete && partsGood st.package then
    (true, { d with upd := { d.upd with slots := d.upd.slots.set slot (some ⟨st.package, true⟩) } })
  else (false, { d with upd := { d.upd with state := 1, staging := some { st with chunks := good } } })

/-- `UPD_VERIFY` from a source (R411). -/
def Dev.updVerifyBy (d : Dev) (s : UpdSource) : BitVec 16 × Dev :=
  let u := d.upd
  if u.leaseRefuses s false then (Status.updateBusy, d)
  else match u.state, u.staging with
    | 1, some _ => (Status.imageIncomplete, d)
    | 2, some st =>
      (match d.install st u.otherSlot with
        | (true, d1) =>
          let (t, d2) := (({ d1 with upd := { d1.upd with state := 3 } } : Dev).updProgress s).draw
          (Status.ok, d2.raise Ev.updVerified (pkgRelease st.header) u.otherSlot.val (t.toNat % 900001) 0)
        | (false, d1) => (Status.imageRejected, d1))
    | 3, some _ => if u.slotOk u.otherSlot then (Status.ok, d.updProgress s) else (Status.imageRejected, d)
    | _, _ => (Status.badField, d)

/-! ## Activation, confirmation, cancellation (R413, R418 to R420) -/

/-- The checks of `UPD_ACTIVATE` (R413), with the work of `UPD_VERIFY` where the package is staged. -/
def Dev.activateCheck (d : Dev) (s : UpdSource) (offset : Nat) : Option (BitVec 16) × Dev :=
  let u := d.upd
  if u.leaseRefuses s false then (some Status.updateBusy, d)
  else if 2 < offset then (some Status.badField, d)
  else if u.state = 4 || (offset = 0 && u.state = 0) || (offset = 1 && u.state ≠ 0) then (some Status.badField, d)
  else if offset = 0 && u.state = 1 then (some Status.imageIncomplete, d)
  else if offset = 1 && !u.slotOk u.otherSlot then (some Status.imageIncomplete, d)
  else match d.maint .act with
    | (.r, _) =>
      let (st, d1) := if offset = 0 && u.state = 2 then d.updVerifyBy s else (Status.ok, d)
      if st ≠ Status.ok then (some st, d1)
      else if offset ≠ 2 && pkgSecver (d1.upd.pkg d1.upd.otherSlot) < d1.upd.floor then (some Status.rollbackRefused, d1)
      else (none, d1.updProgress s)
    | (_, d1) => (some Status.busyMaintenance, d1)

/-- Starts an activation, or the entry to Recovery; the reset follows the drain (R414, R435). -/
def Dev.activateBy (d : Dev) (s : UpdSource) (offset : Nat) (seq : Option Nat) : Dev :=
  ({ d with par := { d.par with
    pendingReset := some (if offset = 2 then .recovery seq else .activation seq s.kind s.who) } } : Dev).performPending

/-- The reset of a reversion follows the drain; an integrity stop that drains takes it over. -/
def Dev.revertReset (d : Dev) : Dev :=
  match d.par.pendingReset with
  | some (.integrity _ _ _) => d
  | _ => ({ d with par := { d.par with pendingReset := some .reversion } } : Dev).performPending

/-- Confirms a set in trial (R418). -/
def Dev.confirm (d : Dev) : Dev :=
  match d.upd.active with
  | none => d
  | some r =>
    if r.trial ≠ 1 then d
    else
      let floor := max r.floor.toNat (pkgSecver (d.upd.pkg d.upd.activeSlot))
      let d1 : Dev := { d with upd := d.upd.writeActive { r with trial := 0, deadline := 0, floor := BitVec.ofNat 32 floor } }
      (d1.endUpdate 1).raise Ev.updConfirmed r.release floor 0 0

/-- The source that a capsule is. -/
def Cap.source (c : Cap) : UpdSource := ⟨1, c.tenant.toNat⟩

/-- `UPD_CANCEL` executes (R420). -/
def updCancelGo (c : Cap) (d : Dev) : Dev :=
  let u := d.upd
  let release := pkgRelease u.subject
  if u.state = 0 then d.fail c Status.badField
  else if u.leaseRefuses c.source false then d.adminReply c (u.reply Status.updateBusy)
  else if u.state = 4 then
    let d1 := d.adminReply c (Reply.plain Status.ok)
    ((d1.raise Ev.updCancelled release 4 0 0).revert 3).revertReset
  else ((d.dropInstalled.endUpdate 5).adminReply c (Reply.plain Status.ok)).raise Ev.updCancelled release u.state 0 0

/-! ## The opcodes -/

/-- `UPD_BEGIN` executes. -/
def updBeginGo (certOk signatureOk : Bool) (c : Cap) (d : Dev) : Dev :=
  if c.value.length ≠ 65536 then d.fail c Status.badLength
  else match d.updBeginBy c.source c.value certOk signatureOk with
    | (st, d1) => d1.adminReply c (if st = Status.ok then Reply.okData (d1.beginData c.source) else d1.upd.reply st)

def updBeginEff (seq : Nat) (certOk signatureOk : Bool) (d : Dev) : Dev :=
  d.admin seq Op.updBegin (fun _ => true) (updBeginGo certOk signatureOk)
/-- UPD_BEGIN (R406). -/
def execUpdBegin (seq : Nat) (certOk signatureOk : Bool) (s : State) : Host.Outcome State Fault Refusal :=
  s.run (updBeginEff seq certOk signatureOk)

/-- An update opcode ends with a status. -/
def Dev.updEnd (c : Cap) (r : BitVec 16 × Dev) : Dev := r.2.adminReply c (r.2.upd.reply r.1)

/-- `UPD_CHUNK` executes. -/
def updChunkGo (c : Cap) (d : Dev) : Dev := Dev.updEnd c (d.updChunkBy c.source c.hdr.offset.toNat c.value)

def updChunkEff (seq : Nat) (d : Dev) : Dev := d.admin seq Op.updChunk (fun _ => true) updChunkGo
/-- UPD_CHUNK (R410). -/
def execUpdChunk (seq : Nat) (s : State) : Host.Outcome State Fault Refusal := s.run (updChunkEff seq)

/-- `UPD_VERIFY` executes. -/
def updVerifyGo (c : Cap) (d : Dev) : Dev := Dev.updEnd c (d.updVerifyBy c.source)

def updVerifyEff (seq : Nat) (d : Dev) : Dev := d.admin seq Op.updVerify (fun _ => true) updVerifyGo
/-- UPD_VERIFY (R411). -/
def execUpdVerify (seq : Nat) (s : State) : Host.Outcome State Fault Refusal := s.run (updVerifyEff seq)

/-- `UPD_ACTIVATE` executes: a refusal, or the reset follows the drain and brings the reply. -/
def updActivateGo (c : Cap) (d : Dev) : Dev :=
  match d.activateCheck c.source c.hdr.offset.toNat with
  | (some st, d1) => Dev.updEnd c (st, d1)
  | (none, d1) => d1.activateBy c.source c.hdr.offset.toNat (some c.seq)

/-- The scalar of `UPD_ACTIVATE` is the row's, or none that it knows. -/
def activateIs (n : Nat) (c : Cap) : Bool := c.hdr.offset.toNat == n || decide (2 < c.hdr.offset.toNat)

def updActivateStagedSetEff (seq : Nat) (d : Dev) : Dev := d.admin seq Op.updActivate (activateIs 0) updActivateGo
/-- UPD_ACTIVATE_STAGED_SET (R414). -/
def execUpdActivateStagedSet (seq : Nat) (s : State) : Host.Outcome State Fault Refusal := s.run (updActivateStagedSetEff seq)

def updActivateOtherSlotEff (seq : Nat) (d : Dev) : Dev := d.admin seq Op.updActivate (activateIs 1) updActivateGo
/-- UPD_ACTIVATE_OTHER_SLOT (R413). -/
def execUpdActivateOtherSlot (seq : Nat) (s : State) : Host.Outcome State Fault Refusal := s.run (updActivateOtherSlotEff seq)

def updActivateRecoveryEff (seq : Nat) (d : Dev) : Dev := d.admin seq Op.updActivate (activateIs 2) updActivateGo
/-- UPD_ACTIVATE_RECOVERY (R423). -/
def execUpdActivateRecovery (seq : Nat) (s : State) : Host.Outcome State Fault Refusal := s.run (updActivateRecoveryEff seq)

/-- `UPD_CONFIRM` executes: `OK` in every state. -/
def updConfirmGo (c : Cap) (d : Dev) : Dev := (d.confirm).adminReply c (Reply.plain Status.ok)

def updConfirmEff (seq : Nat) (d : Dev) : Dev := d.admin seq Op.updConfirm (fun _ => true) updConfirmGo
/-- UPD_CONFIRM (R418). -/
def execUpdConfirm (seq : Nat) (s : State) : Host.Outcome State Fault Refusal := s.run (updConfirmEff seq)

def updCancelEff (seq : Nat) (d : Dev) : Dev := d.admin seq Op.updCancel (fun _ => true) updCancelGo
/-- UPD_CANCEL (R420). -/
def execUpdCancel (seq : Nat) (s : State) : Host.Outcome State Fault Refusal := s.run (updCancelEff seq)

/-- The lease lapses (R408): the staged chunks are kept. Not in TRIAL. -/
def updLeaseLapseEff (d : Dev) : Dev :=
  match d.upd.lease with
  | none => d
  | some l =>
    if d.upd.state = 4 then d
    else ({ d with upd := { d.upd with lease := none, contributors := [] } } : Dev).raise Ev.updLeaseLapse l.holder.kind l.holder.cred
      d.upd.present.length (pkgChunks d.upd.subject)
/-- UPD_LEASE_LAPSE (R408). -/
def execUpdLeaseLapse (s : State) : Host.Outcome State Fault Refusal := s.run updLeaseLapseEff

/-- The deadline of a trial passes (R419). -/
def trialDeadlineEff (d : Dev) : Dev :=
  if d.upd.inTrial && d.par.run == .running then (d.revert 1).revertReset else d
/-- TRIAL_DEADLINE (R419). -/
def execTrialDeadline (s : State) : Host.Outcome State Fault Refusal := s.run trialDeadlineEff

/-! ## Recovery (R423 to R425) -/

/-- A stored setting as the ROM reads it: from the half that the active-set record names, if it is readable, else the default. -/
def Dev.storedParam (d : Dev) (id : Nat) : Bytes :=
  match d.upd.active with
  | none => ({ d.par with values := [] } : Conf).value id
  | some r =>
    let v := d.par.copies (r.half % 2)
    match copyUse v with
    | some i => ({ d.par with values := (v.get i).entries } : Conf).value id
    | none => ({ d.par with values := [] } : Conf).value id

/-- The floor of order 5 in Recovery (R424). -/
def Update.recoveryFloor (u : Update) : Nat :=
  match u.active with
  | some r => r.floor.toNat
  | none => max (if u.slotOk 0 then pkgSecver (u.pkg 0) else 0) (if u.slotOk 1 then pkgSecver (u.pkg 1) else 0)

/-- Changes the download. -/
def Dev.setTftp (d : Dev) (t : Tftp) : Dev := { d with upd := { d.upd with tftp := some t } }

/-- An attempt ends: the next follows after 30 s. -/
def Dev.tftpFail (d : Dev) (t : Tftp) : Dev := d.setTftp { t with waiting := true, received := [], nextBlock := 1, done := 0 }

/-- An attempt begins: the request for the file, where the server is known. -/
def Dev.tftpStart (d : Dev) (t : Tftp) : Dev :=
  let t1 : Tftp := { t with waiting := false, received := [], nextBlock := 1, done := 0, blocksize := 0 }
  match t.server with
  | some s => (d.setTftp t1).emitOut (.tftpRequest s t.file 1468)
  | none => (d.setTftp t1).emitOut .dhcpRequest

/-- DHCP answers (R343, R424): the address; in Recovery the server and the file, else those of the settings. -/
def dhcpReplyEff (addr : Nat) (server : Option Nat) (file : Option Bytes) (d : Dev) : Dev :=
  let d1 : Dev := { d with mgmt := { d.mgmt with address := some addr } }
  match d.par.run, d.upd.tftp with
  | .recovery, some t =>
    let own := d.storedParam P.updateRecoveryServer
    let s := server.or (if own.isEmpty then none else some own.toNatBE)
    let t1 : Tftp := { t with server := s, file := file.getD (d.storedParam P.updateRecoveryFile) }
    if s.isNone then d1.tftpFail t1 else d1.tftpStart t1
  | .recovery, none => d
  | _, _ => if d.mgmt.vaneUp && d.mgmt.linkUp && d.pflag P.mgmtAddrMode && d.pow.rung != .glaze then d1 else d
/-- DHCP_REPLY (R424). -/
def execDhcpReply (addr : Nat) (server : Option Nat) (file : Option Bytes) (s : State) : Host.Outcome State Fault Refusal :=
  s.run (dhcpReplyEff addr server file)

/-- The package is in staging: it is installed and the drive starts from it (R425). -/
def Dev.recoveryInstall (d : Dev) (t : Tftp) (st : Staging) (blocks : Nat) : Dev :=
  let slot : Fin 2 := if d.upd.active.isNone then 0 else d.upd.otherSlot
  let other : Fin 2 := if slot = 0 then 1 else 0
  match d.install st slot with
  | (false, d1) => ({ d1 with upd := { d1.upd with state := 0 } } : Dev).tftpFail t
  | (true, d1) =>
    let r := d.upd.active.getD ActiveRec.reset
    let pkg := st.package
    let floor := d.upd.recoveryFloor
    let back := d1.upd.slotOk other && decide (floor ≤ pkgSecver (d1.upd.pkg other))
    let now := d1.clk.ns
    let base : ActiveRec := { r with
      slot := BitVec.ofNat 8 slot.val, boots := 0, floor := BitVec.ofNat 32 floor, release := pkgRelease pkg, previous := d1.upd.release other, digest := pkgDigest pkg }
    let d2 : Dev := if back then
        { d1 with upd := { d1.upd.writeActive { base with
            trial := 1, maxBoots := (d.storedParam P.updateBootAttempts).toNatBE,
            deadline := now + (d.storedParam P.updateTrialH).toNatBE * 3600000000000 } with
              state := 4, lease := none, contributors := [], source := some ⟨3, t.server.getD 0⟩, started := now } }
      else
        ({ d1 with upd := { d1.upd.writeActive { base with
            trial := 0, deadline := 0, floor := BitVec.ofNat 32 (max floor (pkgSecver pkg)) } with
              source := some ⟨3, t.server.getD 0⟩, started := now } } : Dev).endUpdate 7
    let d3 : Dev := { d2 with upd := { d2.upd with tftp := none, staging := none } }
    (d3.raise Ev.recoveryInstall (pkgRelease pkg) slot.val blocks t.blocksize).powerOn 3

/-- The chunks that have come, from `t.done` on (R424): each is checked and stored; a bad one ends the attempt. -/
def Dev.recoveryChunks (d : Dev) (t : Tftp) (st : Staging) (last : Bool) : Nat → Option (Tftp × Staging) × Dev
  | 0 => (some (t, st), d)
  | fuel + 1 =>
    let n := t.done
    let len := chunkLength st.header n
    let b := (t.received.drop (65536 * n)).take 65536
    if pkgChunks st.header < n || b.length < len then (some (t, st), d)
    else if !chunkGood st.header n (b.take len) then (none, d.raise Ev.updChunkBad n 3 0 0)
    else
      let st1 : Staging := if st.chunks.any (fun c => c.1 == n) then st else { st with chunks := st.chunks ++ [(n, b.take len)] }
      ({ d with upd := { d.upd with staging := some st1 } } : Dev).recoveryChunks { t with done := n + 1 } st1 last fuel

/-- A block of the download (R424). The length of block 1 is the block size that the server has taken (log entry 46). -/
def tftpBlockEff (n : Nat) (bytes : Bytes) (certOk signatureOk : Bool) (d : Dev) : Dev :=
  match d.par.run, d.upd.tftp with
  | .recovery, some t =>
    if t.waiting || t.server.isNone then d
    else if n + 1 = t.nextBlock then d.emitOut (.tftpAck n)
    else if n ≠ t.nextBlock then d
    else
      let size := if n = 1 then bytes.length else t.blocksize
      if size < 512 || 1468 < size || size < bytes.length then d.tftpFail t
      else
        let last := decide (bytes.length < size)
        let t1 : Tftp := { t with blocksize := size, nextBlock := n + 1, received := t.received ++ bytes }
        let d1 := (d.setTftp t1).emitOut (.tftpAck n)
        if t1.received.length < 65536 then (if last then d1.tftpFail t1 else d1)
        else
          let hdr := t1.received.take 65536
          let bad := if t.done = 0 then hdrCheck hdr certOk signatureOk d.upd.recoveryFloor else none
          match bad with
          | some st => (d1.raise Ev.updRefused st.toNat 3 0 (pkgRelease hdr)).tftpFail t1
          | none =>
            let st : Staging := match d1.upd.staging with
              | some s => if s.header = hdr then s else ⟨hdr, []⟩
              | none => ⟨hdr, []⟩
            let t2 : Tftp := { t1 with done := max 1 t1.done }
            (match ({ d1 with upd := { d1.upd with staging := some st } } : Dev).recoveryChunks t2 st last 319 with
              | (none, d2) => d2.tftpFail t2
              | (some (t3, st1), d2) =>
                if st1.complete && decide (pkgLength hdr ≤ t3.received.length) then d2.recoveryInstall t3 st1 n
                else if last then d2.tftpFail t3
                else d2.setTftp t3)
  | _, _ => d
/-- TFTP_BLOCK (R424). -/
def execTftpBlock (n : Nat) (bytes : Bytes) (certOk signatureOk : Bool) (s : State) : Host.Outcome State Fault Refusal :=
  s.run (tftpBlockEff n bytes certOk signatureOk)

/-- 30 s have passed since a failed attempt. -/
def tftpRetryEff (d : Dev) : Dev :=
  match d.par.run, d.upd.tftp with
  | .recovery, some t => if t.waiting then d.tftpStart t else d
  | _, _ => d
/-- TFTP_RETRY_TIMER (R424). -/
def execTftpRetryTimer (s : State) : Host.Outcome State Fault Refusal := s.run tftpRetryEff

end Sys2Proof.Machine
end

