-- ==== Sys2Proof/Machine/CartOps.lean ====
section
/-! DEFINITION. Evacuation, release and replacement of cartridges (R252 to R255): `CART_EVACUATE` and `CART_RELEASE`. -/

namespace Sys2Proof.Machine

/-! ## The block and its reply (R252) -/

/-- The bay a block names. -/
def blockBay (b : Bytes) : BayNo := BitVec.toFin (BitVec.ofNat 2 (b.field 0 1))

/-- The serial a block names. -/
def blockSerial (b : Bytes) : BitVec 128 := BitVec.ofNat 128 (b.field 8 16)

/-- The checked fields that are zero, and the bay's range. -/
def cartFieldsOk (b : Bytes) : Bool := b.zeroAt 2 6 && b.zeroAt 0x18 8 && decide (b.field 0 1 < 4)

/-- The serial of the cartridge that an op names: the bound one where it is owed, the one that waits where the bay shows it, else the
one in the bay. -/
def Bay.named (b : Bay) : Option (BitVec 128) :=
  match b.state with
  | .missing | .failed => b.bound
  | .foreign | .refused | .authenticated | .authenticating => match b.guest with
    | some f => some f.cart.serial
    | none => b.cart.map (·.serial)
  | _ => b.cart.map (·.serial)

/-- The buckets that count on a cartridge. -/
def Dev.bucketsOn (d : Dev) (bay : BayNo) : List Bucket := d.idx.buckets.filter (fun b => b.on bay)

/-- The reply's 32 bytes. The seconds are an estimate the spec gives no formula for (log entry 2). -/
def Dev.cartReply (d : Dev) (bay : BayNo) : Bytes :=
  let y := d.bays.get bay
  let left := d.fill bay
  natToBytesBE 1 bay.val ++ natToBytesBE 1 y.state.num ++ zeroBytes 2 ++ natToBytesBE 4 (d.bucketsOn bay).length ++
    natToBytesBE 8 left ++ natToBytesBE 8 y.movedBytes ++
    natToBytesBE 4 (if y.state == .evacuating then Config.estimateSeconds left (d.pnum P.cartEvacShare) else 0) ++ zeroBytes 4

/-- `OK` with the reply of a bay. -/
def Dev.cartOk (d : Dev) (c : Cap) (bay : BayNo) : Dev := d.okWith c (d.cartReply bay)

/-- The checks every op but CLEAR_LOST makes: length, fields, serial, state. -/
def Dev.cartCheck (d : Dev) (c : Cap) (states : BayState → Bool) : Option (BitVec 16) :=
  let b := c.value
  if b.length != 32 then some Status.badLength
  else
    let y := d.bays.get (blockBay b)
    if !cartFieldsOk b || y.named != some (blockSerial b) || !states y.state then some Status.badField else none

/-! ## CART_EVACUATE (R253) -/

/-- User capacity of a cartridge not charged (R212, R253): 6,736 bands of 7.75 GiB in all. -/
def Dev.unchargedOn (d : Dev) (bay : BayNo) : Nat := 6736 * 8321499136 - d.fill bay

/-- The other cartridges in service. -/
def Dev.otherBays (d : Dev) (bay : BayNo) : List BayNo := (List.finRange 4).filter (fun b => b != bay && d.inService b)

/-- Another bay is EVACUATING, RELEASING or QUIESCED. -/
def Dev.bayBusy (d : Dev) (bay : BayNo) : Bool :=
  (List.finRange 4).any (fun b => b != bay && [BayState.evacuating, .releasing, .quiesced].contains (d.bays.get b).state)

/-- An op that the matrix of R445 may hold back: its column has no other cells than R and B. -/
def Dev.evacMatrix (d : Dev) (c : Cap) (f : Dev → Dev) : Dev :=
  match d.maint .evac with
  | (.r, _) => f d
  | (_, d1) => d1.fail c Status.busyMaintenance

/-- START past its checks on the block. -/
def Dev.evacStart (d : Dev) (c : Cap) : Dev :=
  let bay := blockBay c.value
  if ((d.otherBays bay).map d.unchargedOn).sum < d.fill bay then d.fail c Status.noSpace
  else d.evacMatrix c (fun (d : Dev) =>
    if d.bayBusy bay then d.fail c Status.busyMaintenance
    else
      let n := (d.bucketsOn bay).length
      let bytes := d.fill bay
      let d1 := d.modBay bay (fun y => { y with
        state := .evacuating, movedBuckets := 0, movedBytes := 0, evacSince := d.clk.tick })
      let d2 := (d1.raise Ev.cartEvacStart bay.val n (bytes / 2 ^ 30)
        (Config.estimateSeconds bytes (d.pnum P.cartEvacShare))).refreshMode 4
      (d2.cartOk c bay).movesOn.evacCheck)

/-- `CART_EVACUATE` executes. -/
def evacuateGo (c : Cap) (d : Dev) : Dev :=
  let bay := blockBay c.value
  match c.value.field 1 1 with
  | 1 => d.check c (d.cartCheck c (· == .inService)) (fun (d : Dev) => d.evacStart c)
  | 2 => d.check c (d.cartCheck c (fun _ => true)) (fun (d : Dev) => d.cartOk c bay)
  | 3 => d.check c (d.cartCheck c (· == .evacuating)) (fun (d : Dev) =>
      ((d.modBay bay (fun y => { y with state := .inService })).refreshMode 4).cartOk c bay)
  | _ => d.fail c (if c.value.length != 32 then Status.badLength else Status.badField)

def evacuateStartEff (seq : Nat) (d : Dev) : Dev := d.admin seq Op.cartEvacuate (opIs [1, 2, 3] 1) evacuateGo

/-- EVACUATE_START (R253). -/
def execEvacuateStart (seq : Nat) (s : State) : Host.Outcome State Fault Refusal := s.run (evacuateStartEff seq)

def evacuateStatusEff (seq : Nat) (d : Dev) : Dev := d.admin seq Op.cartEvacuate (opIs [1, 2, 3] 2) evacuateGo

/-- EVACUATE_STATUS (R253). -/
def execEvacuateStatus (seq : Nat) (s : State) : Host.Outcome State Fault Refusal := s.run (evacuateStatusEff seq)

def evacuateCancelEff (seq : Nat) (d : Dev) : Dev := d.admin seq Op.cartEvacuate (opIs [1, 2, 3] 3) evacuateGo

/-- EVACUATE_CANCEL (R253): a bucket whose move has begun completes it. -/
def execEvacuateCancel (seq : Nat) (s : State) : Host.Outcome State Fault Refusal := s.run (evacuateCancelEff seq)

/-! ## CART_RELEASE: RELEASE and RECLAIM (R253, R255) -/

/-- Begins RELEASE; its reply waits for the end of the erase. -/
def Dev.releaseStart (d : Dev) (c : Cap) (bay : BayNo) : Dev :=
  ((d.modBay bay (fun y => { y with state := .releasing, opWaiting := some c.seq })).refreshMode 4).eraseWhole bay .release

/-- The capsule that waits for the bay's op answers with the bay as it stands. -/
def Dev.answerBayOp (d : Dev) (bay : BayNo) (seq : Option Nat) : Dev :=
  match seq.bind d.capBySeq with
  | some c => d.cartOk c bay
  | none => d

/-- The metadata set is erased: RELEASE completes. -/
def Dev.releaseDone (d : Dev) (bay : BayNo) : Dev :=
  let y := d.bays.get bay
  if y.state == .releasing then ((d.releaseBay bay).refreshMode 4).answerBayOp bay y.opWaiting else d

/-- Wear counts of a cartridge whose map cannot be read: its total spread over the good blocks (R248 step 9). -/
def spreadWear (total good : Nat) : List (Nat × Nat × Nat) := bandNums.map (fun b => (b.1, b.2, total / max 1 good))

/-- Wear counts after every block of a cartridge has been erased once. -/
def erasedWear (w : List (Nat × Nat × Nat)) : List (Nat × Nat × Nat) :=
  bandNums.map (fun b => (b.1, b.2, ((w.find? (fun x => x.1 == b.1 && x.2.1 == b.2)).map (·.2.2)).getD 0 + 1))

/-- What a reclaimed cartridge shows: its wear map as read, every block erased once more. -/
def reclaimed (f : CartFacts) : CartFacts :=
  match slotUsed f.cart with
  | none => f
  | some i =>
    let s := f.cart.slots.get i
    let good := mapGood f s
    { f with wear := erasedWear (if good then f.wear else spreadWear s.totalWear f.cart.made.goodBlocks), base := if good then f.base else [] }

/-- The drive that bound the cartridge before. -/
def formerDrive (f : CartFacts) : BitVec 128 := match slotUsed f.cart with
  | some i => (f.cart.slots.get i).driveSerial
  | none => 0

/-- Begins RECLAIM, or begins it again after a stop. -/
def Dev.reclaimStart (d : Dev) (seq : Option Nat) (bay : BayNo) : Dev :=
  (d.modBay bay (fun y => { y with
    state := .attaching, opWaiting := seq, reclaiming := y.guest.map (·.cart.serial), evacSince := d.clk.tick, railsOn := true })).eraseWhole bay .reclaim

/-- The cartridge is erased: it is bound, and RECLAIM completes. -/
def Dev.reclaimDone (d : Dev) (bay : BayNo) : Dev :=
  let y := d.bays.get bay
  match y.reclaiming, y.guest with
  | some _, some f =>
    let d1 := (d.modBay bay (fun y =>
      let z := { y with opWaiting := none, reclaiming := none }.load (reclaimed f)
      { z with mapWear := some ⟨z.wear, z.wearBase, z.retired⟩ })).bindBay bay
    (d1.raise (Ev.cartReclaim (baySrc bay)) (serialHead (formerDrive f)) ((d.clk.tick - y.evacSince) / 1000000) 0 0).answerBayOp bay
      y.opWaiting
  | _, _ => d

/-- A RELEASE cut by a stop goes on (R255). -/
def Dev.releasesOn (d : Dev) : Dev :=
  (List.finRange 4).foldl (fun (d : Dev) (b : BayNo) =>
    if (d.bays.get b).state == .releasing && (d.bays.get b).railsOn then d.eraseWhole b .release else d) d

/-! ## CART_RELEASE: FORGET and CLEAR_LOST (R253, R254) -/

/-- A bucket recreated empty on another cartridge: dirty where the namespace is mirrored (R309), with the lost-home mark of a serial
where this drive leads it or nobody mirrors it (R254, R309). -/
def Bucket.recreated (b : Bucket) (to_ : BayNo) (mirrored follows : Bool) (serial : BitVec 128) (upTo : Nat) : Bucket :=
  { b with home := to_, entries := [], mergedThrough := upTo, cached := true, reading := false, prefetched := false, fpValid := true,
           twinOnce := none, pageLost := false, movingFrom := none, dirty := b.dirty || mirrored,
           lostHome := if follows then b.lostHome else (serial :: b.lostHome).dedup }

/-- A namespace is mirrored on this drive. -/
def Dev.mirrored (d : Dev) (n : BitVec 12) : Bool := (d.mirror? n).isSome

/-- The keys of a bucket that was moving onto a forgotten cartridge and whose newest value lay there are lost (R137); it stays where
it moves from. -/
def Dev.unmove (d : Dev) (bay : BayNo) (b : Bucket) : Dev :=
  match b.movingFrom with
  | none => d
  | some f =>
    let gone := (d.liveEntries b).filter (fun e => !e.lost && e.loc != 0 && locBay e.loc == bay)
    (gone.foldl (fun (d : Dev) (e : Entry) => d.commitNew (mkRec .lost b.ns e.hash e.key e.version 0 0 0 f none)) d).modBucket b.ns b.lo
      (fun x => { x with home := f, movingFrom := none })

/-- Takes everything that lay on a cartridge out of the media, the uploads and the journal. A secure deletion that has copies to remove on
another cartridge as well goes on there. -/
def Dev.dropBay (d : Dev) (bay : BayNo) : Dev :=
  let js := d.med.secures.filter (fun j => (j.bay == bay || j.bands.any (fun b => b.1 == bay)) && j.bands.all (fun b => b.1 == bay))
  let d1 : Dev := { d.stopDies bay with
    idx := { d.idx with
      uploads := d.idx.uploads.map (fun (u : Upload) => { u with parts := u.parts.filter (·.bay != bay) }),
      journal := d.idx.journal.filter (·.bay != bay), log := d.idx.log.filter (·.bay != bay),
      marks := d.idx.marks.filter (·.bay != bay) },
    ev := { d.ev with pring := d.ev.pring.set bay [] } }
  let d2 : Dev := { d1 with med := { d1.med with
    copies := d1.med.copies.filter (·.bay != bay), secures := (d1.med.secures.filter (fun j => !js.any (·.seq == j.seq))).map (fun (j : SecureJob) => { j with
      bands := j.bands.filter (fun b => b.1 != bay), roomMain := j.roomMain.filter (fun b => b.1 != bay),
      roomMeta := j.roomMeta.filter (fun b => b.1 != bay) }) } }
  js.foldl (fun (d : Dev) (j : SecureJob) => match d.capBySeq j.seq with
    | some c => d.finishFree c (Reply.plain Status.unavailable)
    | none => d) d2

/-- The bay after FORGET: EMPTY, or as a cartridge shows that waits in it; its bind_count stays. -/
def Bay.forgotten (b : Bay) (moved : Nat) : Bay :=
  { b with
    state := if b.guest.isSome then b.guestState else .empty, guestState := .empty, cart := none, bound := none, bands := [], wear := [],
    retired := [], failedDies := [], failRuns := [], rebuilds := [], wearDays := [], spare := 0, spareWarned := 0, lifeRaised := 0,
    movedBytes := b.movedBytes + moved, reason := 0, held := false, resume := .inService, reclaiming := none, failCause := 0, wearBase := [], newSlots := [],
    mapWear := none, bindings := [] }

/-- The slot of FORGET (R243): written where the cartridge is in the bay and its authenticator answers, a FAILED one whose channel stopped; it
stays in the bay as one that is not the bay's own. -/
def Dev.forgetSlot (d : Dev) (bay : BayNo) : Dev :=
  let b := d.bays.get bay
  if b.present && b.guest.isNone && b.failCause == 3 then
    (d.writeSlot bay 2).modBay bay (fun y => { y with
      guest := y.cart.map (fun c => ⟨c, [], y.wear, y.wearBase, y.retired, d.lastJseq bay⟩), guestState := .empty })
  else d

/-- FORGET past its checks. -/
def Dev.forget (d : Dev) (c : Cap) (bay : BayNo) (serial : BitVec 128) : Dev :=
  let bs := d.bucketsOn bay
  let moved := d.fill bay
  match d.leastFull none with
  | none => if bs.isEmpty then
        ((((d.forgetSlot bay).dropBay bay).modBay bay (fun y => y.forgotten moved)).raise Ev.cartForget bay.val 0 0 0 |>.refreshMode 2).cartOk c bay
      else d.fail c Status.unavailable
  | some _ =>
    let d0 := (d.idx.buckets.filter (fun b => b.home == bay && b.movingFrom.isSome)).foldl (fun (d : Dev) (b : Bucket) => d.unmove bay b)
      (d.abandonBatches (fun x => x.fromBay == bay || x.toBay == bay))
    let mine (r : JRec) : Bool := bs.any (fun b => b.covers r.ns r.hash)
    let d1 := bs.foldl (fun (d : Dev) (b : Bucket) =>
      let f (x : Bucket) : Bucket := x.recreated ((d.leastFull none).getD bay) (d.mirrored b.ns) (d.follows b.ns) serial (d.idx.nextJ - 1)
      let all (l : List Bucket) : List Bucket := l.map (fun x => if x.ns == b.ns && x.lo == b.lo then f x else x)
      { d with idx := { d.idx with
        buckets := all d.idx.buckets,
        durable := d.idx.durable.filter (fun x => !rangesMeet x b) ++ (all [b]),
        tail := d.idx.tail.map (fun (t : Tail) => { t with pages := t.pages.filter (fun x => !rangesMeet x b) }) } }) d0
    let d2 : Dev := { d1 with
      idx := { d1.idx with journal := d1.idx.journal.filter (fun r => !mine r), log := d1.idx.log.filter (fun r => !mine r) },
      med := { d1.med with copies := d1.med.copies.filter (fun x => !bs.any (fun b => b.covers x.ns x.hash)) } }
    let d3 := ((((d2.forgetSlot bay).dropBay bay).modBay bay (fun y => y.forgotten moved)).recount).writeBindings
    let re := (bs.filter (fun b => d.mirrored b.ns)).length
    ((d3.raise Ev.cartForget bay.val bs.length (bs.length - re) re).refreshMode 2).cartOk c bay

/-- Removes the lost-home marks of a serial. -/
def Dev.clearLost (d : Dev) (serial : BitVec 128) : Dev :=
  let f (b : Bucket) : Bucket := { b with lostHome := b.lostHome.filter (· != serial) }
  { d with idx := { d.idx with
    buckets := d.idx.buckets.map f, durable := d.idx.durable.map f,
    tail := d.idx.tail.map (fun (t : Tail) => { t with pages := t.pages.map f }) } }

/-- RELEASE is allowed: EVACUATED, or IN_SERVICE with no bucket home. -/
def Dev.releasable (d : Dev) (bay : BayNo) (s : BayState) : Bool :=
  s == .evacuated || (s == .inService && !d.idx.buckets.any (fun b => b.home == bay || b.movingFrom == some bay))

/-- Namespaces led here, with their home on a cartridge and IN_SYNC with the partner: FORGET hands them over first (R309). -/
def Dev.forgetHands (d : Dev) (bay : BayNo) : List (BitVec 12) :=
  (d.mir.nss.filter (fun m => m.lead && m.st == .inSync && d.linked && (d.bucketsOn bay).any (fun b => b.ns == m.ns))).map (·.ns)

/-- FORGET begins: the handover first where the partner is IN_SYNC. -/
def Dev.forgetStart (d : Dev) (c : Cap) (bay : BayNo) : Dev :=
  if (d.forgetHands bay).isEmpty then d.forget c bay (blockSerial c.value)
  else if d.mir.handover.isSome then d.fail c Status.unavailable
  else { d with mir := { d.mir with handover := some ⟨c.seq, d.forgetHands bay, none⟩ } }

/-- `CART_RELEASE` executes. -/
def cartReleaseGo (c : Cap) (d : Dev) : Dev :=
  let bay := blockBay c.value
  match c.value.field 1 1 with
  | 1 => d.check c (d.cartCheck c (d.releasable bay)) (fun (d : Dev) => d.evacMatrix c (fun (d : Dev) => d.releaseStart c bay))
  | 2 => d.check c (d.cartCheck c (fun s => s == .missing || s == .failed)) (fun (d : Dev) => d.forgetStart c bay)
  | 3 => d.check c (d.cartCheck c (· == .foreign)) (fun (d : Dev) =>
      d.evacMatrix c (fun (d : Dev) => d.reclaimStart (some c.seq) bay))
  | 4 =>
    if c.value.length != 32 then d.fail c Status.badLength
    else if !(c.value.zeroAt 2 6 && c.value.zeroAt 0x18 8) then d.fail c Status.badField
    else (d.clearLost (blockSerial c.value)).cartOk c bay
  | _ => d.fail c (if c.value.length != 32 then Status.badLength else Status.badField)

def cartReleaseEff (seq : Nat) (d : Dev) : Dev := d.admin seq Op.cartRelease (opIs [1, 2, 3, 4] 1) cartReleaseGo

/-- CART_RELEASE (R253): RELEASE. -/
def execCartRelease (seq : Nat) (s : State) : Host.Outcome State Fault Refusal := s.run (cartReleaseEff seq)

def cartForgetEff (seq : Nat) (d : Dev) : Dev := d.admin seq Op.cartRelease (opIs [1, 2, 3, 4] 2) cartReleaseGo

/-- CART_FORGET (R253). -/
def execCartForget (seq : Nat) (s : State) : Host.Outcome State Fault Refusal := s.run (cartForgetEff seq)

def cartReclaimEff (seq : Nat) (d : Dev) : Dev := d.admin seq Op.cartRelease (opIs [1, 2, 3, 4] 3) cartReleaseGo

/-- CART_RECLAIM (R253). -/
def execCartReclaim (seq : Nat) (s : State) : Host.Outcome State Fault Refusal := s.run (cartReclaimEff seq)

def clearLostEff (seq : Nat) (d : Dev) : Dev := d.admin seq Op.cartRelease (opIs [1, 2, 3, 4] 4) cartReleaseGo

/-- CLEAR_LOST (R253, R254). -/
def execClearLost (seq : Nat) (s : State) : Host.Outcome State Fault Refusal := s.run (clearLostEff seq)

end Sys2Proof.Machine
end

