-- ==== Sys2Proof/Machine/GaleOps.lean ====
section
/-! DEFINITION. Gale at work (07_gale_search): results with soft errors (R173, R186, R188), the verifier (R189), a die that fails. -/

namespace Sys2Proof.Machine

/-! ## Rows, owner records and repairs -/

/-- The rows of an entry. -/
def entryRows (t : GTable) (a : Nat) : List Nat := if t == .policy then [a] else [a, a + 1]

/-- An owner record holds a word (R177): a version or a part buffered in Drift, a session, a binding. -/
def Dev.ownsWord (d : Dev) (t : GTable) (w : BitVec 144) : Bool :=
  match t with
  | .directory => d.que.drift.any (fun v => keyWord v.ns v.hash == w) ||
      d.idx.uploads.any (fun u => u.parts.any (fun p => !p.onMedium && partWord u.ns u.id (p.offset / 4096) == w))
  | .session => d.net.sessions.any (fun s => sessionWord s.addr s.uport == w)
  | .policy => d.pol.bindings.any (fun b => bindingWord b.tenant b.ns == w)

/-- The entry at an address has an owner record. -/
def Dev.owned (d : Dev) (addr : Nat) : Bool :=
  let t := tableOf addr
  match d.gale.ownWord t (entryAddr addr) with
  | some w => d.ownsWord t w
  | none => false

/-- Raises `EV_GALE_REPAIR` and counts it: kind 1 die row, 2 shadow, 3 orphan row. -/
def Dev.galeRepaired (d : Dev) (addr kind : Nat) : Dev :=
  (d.bump (.galeRepair kind) 1).raise Ev.galeRepair addr (tblNum (tableOf addr)) kind 0

/-- A row is rewritten from its owner record, or invalidated where it has none (R189). -/
def Dev.repairRow (d : Dev) (addr : Nat) : Dev :=
  match d.gale.rows.find? (fun r => r.addr == addr) with
  | none => d
  | some r =>
    if d.owned addr then (d.modGale (fun g => g.writeRow addr r.shadow)).galeRepaired addr 1
    else (d.modGale (fun g => g.invalidate addr)).galeRepaired addr 3

/-- A die of Gale answers. -/
def Gale.answers (g : Gale) (addr : Nat) : Bool := !g.failed.contains (addr / 65536)

/-- Upsets one row; a row never written holds arbitrary bits (R269; log entry 2). -/
def Dev.upsetRow (d : Dev) (u : Upset) : Dev :=
  let base : GRow × Dev := match d.gale.rows.find? (fun r => r.addr == u.addr) with
    | some r => (r, d)
    | none => let (v, x) := d.draw
      ({ addr := u.addr, data := v.setWidth 72, valid := false, parity := (v >>> 72).setWidth 2, shadow := 0, twin := ~~~ 0 }, x)
  let r := base.1
  let n : GRow := { r with
    data := r.data ^^^ u.mask.setWidth 72, valid := r.valid != u.mask.getLsbD 72, parity := r.parity ^^^ u.mask.extractLsb' 73 2 }
  base.2.modGale (fun g => { g with rows := n :: g.rows.filter (·.addr != u.addr) })

/-! ## GALE_RESULT (R173, R179, R186, R188) -/

/-- A row fails its parity. -/
def GRow.perr (r : GRow) : Bool := r.parity != rowParity r.data

/-- The rows that take part in a compare of a table from an address on: valid rows of its blocks, on dies that answer. -/
def Gale.partakes (g : Gale) (t : GTable) (start : Nat) : List GRow :=
  g.rows.filter (fun r => r.valid && tableOf r.addr == t && g.answers r.addr && decide (start ≤ r.addr))

/-- Ascending order of addresses. -/
def insAddr (a : Nat) : List Nat → List Nat
  | [] => [a]
  | b :: rest => if a < b then a :: b :: rest else if a == b then b :: rest else b :: insAddr a rest

/-- The addresses of the entries that match a key under a mask, from an address on, lowest first (R173, R175). -/
def Gale.matches_ (g : Gale) (t : GTable) (start : Nat) (key mask : BitVec 144) : List Nat :=
  let m : BitVec 144 := if t == .policy then (mask.setWidth 72).setWidth 144 else mask
  (((g.partakes t start).map (·.addr)).filter (fun a => entryAddr a == a && (match g.wordAt t a with
    | some w => (w ^^^ key) &&& m == 0
    | none => false))).foldl (fun (l : List Nat) (a : Nat) => insAddr a l) []

/-- A row fails a compare: the die raises `EV_GALE_PERR` and the row is repaired (R188). -/
def Dev.perrRow (d : Dev) (addr : Nat) : Dev :=
  (d.raise (Ev.galePerr (1025 + addr / 65536)) addr (tblNum (tableOf addr)) 0 0).repairRow addr

/-- A result with PERR, the rows that failed (R195): counted once, and every row is repaired. -/
def Dev.perrRows (d : Dev) (bad : List Nat) : Dev :=
  if bad.isEmpty then d else bad.foldl (fun (d : Dev) (a : Nat) => d.perrRow a) (d.bump (.drive .galePerr) 1)

/-- The rows of an entry that differ from the shadow are rewritten (R186 steps 3 and 4). -/
def Dev.agree (d : Dev) (t : GTable) (a : Nat) : Dev :=
  (entryRows t a).foldl (fun (d : Dev) (x : Nat) =>
    match d.gale.rows.find? (fun r => r.addr == x) with
    | some r => if r.data == r.shadow && d.owned x then d else d.repairRow x
    | none => d) d

/-- The capsule a search is made for: by session and tag. -/
def Dev.searchCap (d : Dev) (by_ : Option (BitVec 32 × BitVec 32)) : Option Cap :=
  match by_ with
  | some (sid, tag) => d.que.caps.find? (fun c => c.sid == sid && c.tag == tag)
  | none => none

/-- Two or more owner records hold one word (R186 step 6): the operation fails. The refusal counts at no check (log entry 214). -/
def Dev.duplicate (d : Dev) (t : GTable) (key : BitVec 144) (by_ : Option (BitVec 32 × BitVec 32)) (a b : Nat) : Dev :=
  match t with
  | .directory =>
    let n : BitVec 12 := key.extractLsb' 132 12
    let h : BitVec 128 := key.extractLsb' 4 128
    let d1 := d.raise Ev.galeDuplicate 1 a b n.toNat
    d1.modGale (fun g => { g with dupKeys := ((n, h) :: g.dupKeys).dedup })
  | .session =>
    let owners := d.net.sessions.filter (fun s => sessionWord s.addr s.uport == key)
    let d1 := d.raise Ev.galeDuplicate 2 a b (match owners with
      | x :: _ => x.tenant.toNat
      | [] => 0)
    owners.foldl (fun (d : Dev) (s : Session) =>
      d.endSession s.sid 8 true) d1
  | .policy =>
    let bs := d.pol.bindings.filter (fun b => bindingWord b.tenant b.ns == key.setWidth 144)
    let d1 := d.raise Ev.galeDuplicate 3 a b (match bs with
      | x :: _ => x.tenant.toNat
      | [] => 0)
    let d2 : Dev := { d1 with
      pol := { d1.pol with bindings := d1.pol.bindings.filter (fun x => !bs.contains x) }, gale := (d1.gale.invalidate a).invalidate b }
    match d2.searchCap by_ with
    | some c => if c.seq = 0 && bs.any (fun x => x.tenant == c.tenant && x.ns == c.hdr.ns) then d2.refuse c Status.integrityFault else d2
    | none => d2

/-- The results of a word's SEARCH_FROMs that visit the matches after the first: the last has no MULTI (R174, R195). -/
def Dev.countVisits (d : Dev) (t : GTable) (k : Nat) : Dev :=
  ((d.bump (.galeSearch t) (k - 1)).bump (.galeHit t) (k - 1)).countMulti (k - 2)

/-- A result with MULTI: firmware visits every match (R186). -/
def Dev.multiHit (d : Dev) (t : GTable) (key : BitVec 144) (by_ : Option (BitVec 32 × BitVec 32)) (ms : List Nat) : Dev :=
  let d1 := ms.foldl (fun (d : Dev) (a : Nat) => d.agree t a) (d.countVisits t ms.length)
  let good := ms.filter (fun a => d.gale.ownWord t a == some key && d.ownsWord t key)
  let low := ms.headD 0
  match good with
  | [_] => d1.raise Ev.galeMultiHit (tblNum t) low ms.length 1
  | a :: b :: _ => (d1.raise Ev.galeMultiHit (tblNum t) low ms.length 2).duplicate t key by_ a b
  | [] => d1

/-- A capsule whose search is not used is handed to firmware (R15, R186, R188). -/
def Dev.handSearch (d : Dev) (by_ : Option (BitVec 32 × BitVec 32)) (why : FwCause) : Dev :=
  match d.searchCap by_ with
  | some c => d.handCap c why
  | none => d

/-- A result of a search under MK0, made for a capsule or for a packet: upsets have come before it. What the search is for goes on with what
the owner records say, which is what the data path of this model reads; a search for a capsule or a packet is counted by the command that
makes it, any other one here (R195). -/
def galeResultEff (t : GTable) (key : BitVec 144) (by_ : Option (BitVec 32 × BitVec 32)) (upsets : List Upset) (d : Dev) : Dev :=
  if d.par.run == .running && d.pow.rung == .clear then
    let d0 := upsets.foldl Dev.upsetRow d
    let ms := d0.gale.matches_ t 0 key (d0.gale.masks.get 0)
    let bad := ((d0.gale.partakes t 0).filter GRow.perr).map (·.addr)
    let da := if by_.isNone && t != .session then d0.countSearch t (!ms.isEmpty) else d0
    let d1 := (if bad.isEmpty then da else da.handSearch by_ .galePerr).perrRows bad
    match ms with
    | [] => d1
    | [a] =>
      if bad.isEmpty && !(d0.gale.ownWord t a == some key && d0.ownsWord t key) then
        (entryRows t a).foldl (fun (d : Dev) (x : Nat) =>
          match d.gale.rows.find? (fun r => r.addr == x) with
          | some r => if r.data == r.shadow && d.owned x then d else d.perrRow x
          | none => d) ((d1.bump (.drive .galeConfirmFail) 1).handSearch by_ .galePerr)
      else d1
    | _ => ((d1.countMulti 1).handSearch by_ .galeMulti).multiHit t key by_ ms
  else d

/-- GALE_RESULT (R173). -/
def execGaleResult (t : GTable) (key : GaleSearch) (upsets : List Upset) (s : State) : Host.Outcome State Fault Refusal :=
  s.run (galeResultEff t key.word key.asker upsets)

/-! ## The verifier (R189) -/

/-- The next row the verifier reads: the one in use with the lowest address from its place on. -/
def Gale.nextRow (g : Gale) (start : Nat) : Option Nat :=
  (g.rows.filter (fun r => r.live && g.answers r.addr && decide (start ≤ r.addr))).foldl (fun (m : Option Nat) (r : GRow) =>
    match m with
    | none => some r.addr
    | some a => some (min a r.addr)) none

/-- The READ of a row finds it other than its owner record says, or with wrong parity (R189). -/
def GRow.wrong (r : GRow) (u : VerifierUpset) : Bool := u.row != 0 || r.data != r.shadow || r.perr || !r.valid

/-- Compares one row with its shadow and its owner record, its parity bits with them; the upsets have come before. Answers the repairs made. -/
def Dev.verifyRow (d : Dev) (addr : Nat) (u : VerifierUpset) : Nat × Dev :=
  match d.gale.rows.find? (fun r => r.addr == addr) with
  | none => (0, d)
  | some r0 =>
    let own := r0.shadow
    let d0 := d.upsetRow ⟨addr, u.row⟩
    if !d.owned addr then (1, (d0.modGale (fun g => g.invalidate addr)).galeRepaired addr 3)
    else
      let twinBad := u.shadow != u.twin
      let d1 := if twinBad then d0.raise Ev.galeShadowTwin addr (tblNum (tableOf addr)) 0 0
        else if u.shadow != 0 then d0.galeRepaired addr 2 else d0
      let rowBad := r0.wrong u
      let d2 := if rowBad then d1.galeRepaired addr 1 else d1
      (rowBad.toNat + (!twinBad && u.shadow != 0).toNat, d2.modGale (fun g => g.writeRow addr own))

/-- A die of Gale fails: `EV_GALE_DIE_FAIL` with its last operation, and every session ends (R189). -/
def Dev.galeDieEnds (d : Dev) (die op : Nat) : Dev :=
  ((d.modGale (fun g => { g with failed := die :: g.failed })).raise (Ev.galeDieFail (1025 + die)) die op 0 0).endAll 8

/-- What a READ of the verifier says of the die: one that fails on a row repaired before, often enough (log entry 246), fails the die with READ
as its last operation (R174, R189). -/
def Dev.rowRead (d : Dev) (addr : Nat) (wrong : Bool) : Dev :=
  let die := addr / 65536
  if !wrong then d.modGale (fun g => { g with repaired := g.repaired.filter (· != addr) })
  else if !d.gale.repaired.contains addr then d.modGale (fun g => { g with repaired := addr :: g.repaired })
  else
    let d1 := d.modGale (fun g => { g with refails := die :: g.refails })
    if 2 + Config.galeReadFails ≤ d1.gale.refails.count die then d1.galeDieEnds die 5 else d1

/-- A lap is complete: `EV_GALE_LAP`. -/
def Dev.galeLapEnd (d : Dev) : Dev :=
  let g := d.gale
  let d1 := (d.raise Ev.galeLap ((d.clk.tick - g.lapStart) / 1000) g.lapRows g.lapSkipped g.lapRepairs).bump (.drive .galeLaps) 1
  d1.modGale (fun g => { g with lapAt := 0, lapStart := d.clk.tick, lapRows := 0, lapSkipped := 0, lapRepairs := 0 })

/-- One row of the verifier; a row written before the comparison is skipped for this lap (R187). -/
def galeVerifierEff (u : VerifierUpset) (d : Dev) : Dev :=
  if d.par.run == .running && d.pow.rung == .clear then
    match d.gale.nextRow d.gale.lapAt with
    | none => d.galeLapEnd
    | some a =>
      let (n, d1) := if u.written then (0, d) else d.verifyRow a u
      let d2 := d1.modGale (fun g => { g with
        lapAt := a + 1, lapRows := g.lapRows + (!u.written).toNat, lapSkipped := g.lapSkipped + u.written.toNat, lapRepairs := g.lapRepairs + n })
      let d3 := match d2.gale.nextRow (a + 1) with
        | none => d2.galeLapEnd
        | some _ => d2
      if u.written then d3 else d3.rowRead a (d.gale.rows.any (fun r => r.addr == a && r.wrong u))
  else d

/-- GALE_VERIFIER_READ (R189). -/
def execGaleVerifierRead (u : VerifierUpset) (s : State) : Host.Outcome State Fault Refusal := s.run (galeVerifierEff u)

/-! ## A die that stops answering (R189) -/

/-- The last operation of the die is not known to this model: a free value (log entry 2). -/
def galeDieEff (die : Fin 8) (d : Dev) : Dev :=
  if d.gale.failed.contains die.val || !(d.par.run == .running) then d
  else
    let (v, d1) := d.draw
    d1.galeDieEnds die.val (1 + v.toNat % 7)

/-- GALE_DIE_NO_ANSWER (R189): every session ends, and INITs are refused with CLOSING. -/
def execGaleDieNoAnswer (die : Fin 8) (s : State) : Host.Outcome State Fault Refusal := s.run (galeDieEff die)

end Sys2Proof.Machine
end

