-- ==== Sys2Proof/Machine/Integrity.lean ====
section
/-! DEFINITION. The memories (10_integrity_ecc): correctable and uncorrectable errors, row-group retirement, narrow writes, Dew. -/

namespace Sys2Proof.Machine

/-! ## The CE table (R271) -/

/-- The source of a memory class's events (R284). -/
def memSrc (cls : Nat) : Nat := if cls == 1 then 1793 else 1794

/-- Bytes of a row group: 32 DRAM rows of one channel (R275). -/
abbrev rowGroupBytes : Nat := 262144

/-- The lower entry by count, then by last_time. -/
def CeEntry.before (a b : CeEntry) : Bool := decide (a.count < b.count) || (a.count == b.count && decide (a.lastTime < b.lastTime))

/-- The entry that a full table gives up. -/
def ceVictim : List CeEntry → Option CeEntry
  | [] => none
  | a :: rest => match ceVictim rest with
    | some b => if b.before a then some b else some a
    | none => some a

/-- Enters a correction in the CE table; `quiet`: one of a diagnostic window, which raises `EV_DIAG` only (R271, R280). -/
def Dev.recordCe (d : Dev) (cls source addr locus : Nat) (quiet : Bool) : Dev :=
  let m := d.mem
  let now := d.clk.ns
  if m.ce.any (fun e => e.cls == cls && e.address == addr) then
    { d with mem := { m with ce := m.ce.map (fun (e : CeEntry) =>
      if e.cls == cls && e.address == addr then { e with count := min 65535 (e.count + 1), lastTime := now } else e) } }
  else
    let n : CeEntry := { cls := cls, source := source, count := 1, locus := locus,
                         channel := if cls == 1 then (Config.dramChannel addr).val else 0, address := addr, first := now, lastTime := now }
    if m.ce.length < 64 then { d with mem := { m with ce := m.ce ++ [n] } }
    else match ceVictim m.ce with
      | none => d
      | some v =>
        let d1 : Dev := { d with mem := { m with
          ce := m.ce.filter (fun e => !(e.cls == v.cls && e.address == v.address)) ++ [n],
          ceFullRaised := m.ceFullRaised || !quiet } }
        if m.ceFullRaised || quiet then d1 else d1.raise Ev.ceTableFull 64 v.count 0 0

/-! ## Retirement of row groups (R273, R275) -/

/-- Corrections since a row group was last retired, in the last 24 h, by distinct lines. -/
def Dev.groupCes (d : Dev) (group : Nat) : Nat :=
  let since := (d.mem.retired.filter (·.target == group)).foldl (fun (m : Nat) (r : RetiredRec) => max m r.time) 0
  let day := 86400000000000
  ((d.mem.ce.filter (fun e => e.cls == 1 && e.address / rowGroupBytes * rowGroupBytes == group && decide (d.clk.ns ≤ e.lastTime + day) &&
    (d.mem.retired.all (·.target != group) || decide (since < e.lastTime)))).map (·.address / 64)).dedup.length

/-- Retires the row group of an address: the entry, the copy, the event; with no spare left it stays in service. `cause`: 1 CE
threshold, 2 UE. -/
def Dev.retireRow (d : Dev) (addr cause : Nat) : Dev :=
  let group := addr / rowGroupBytes * rowGroupBytes
  let n := d.mem.retired.length
  if 4096 ≤ n then d
  else
    let left := 4096 - (n + 1)
    let r : RetiredRec := { kind := 1, cause := cause, seqNo := n + 1, time := d.clk.ns, target := group, remaining := left }
    let d1 : Dev := { d with mem := { d.mem with retired := d.mem.retired ++ [r], remapFull := left == 0 } }
    let d2 := d1.raise Ev.dramRowRetired (group / 2 ^ 32) (group % 2 ^ 32) cause left
    if left == 0 then d2.raise Ev.dramRemapFull (n + 1) 0 0 0 else d2

/-- A line known to hold a UE is poisoned (R273). -/
def Dev.poison (d : Dev) (addr : Nat) : Dev :=
  let l := addr / 64 * 64
  if d.mem.poisoned.contains l then d
  else ({ d with mem := { d.mem with poisoned := l :: d.mem.poisoned } } : Dev).bump (.drive .poisoned) 1

/-- Lines that no longer hold what was poisoned there: a whole-line write has replaced them (R273). -/
def Dev.unpoison (d : Dev) (p : Nat → Bool) : Dev := { d with mem := { d.mem with poisoned := d.mem.poisoned.filter (fun l => !p l) } }

/-- A DRAM line with a UE: its row group is retired and the line poisoned. A poisoned line is known already, unless the drive's own data has
been written over it since, which is a free value (log entry 232). -/
def Dev.ueLine (d : Dev) (addr : Nat) : Dev :=
  if d.mem.poisoned.contains (addr / 64 * 64) then
    let (v, d1) := d.draw
    if v.getLsbD 0 then d1.retireRow addr 2 else d1
  else (d.retireRow addr 2).poison addr

/-! ## Correctable errors (R270) -/

/-- Corrections of the diagnostic windows raise `EV_DIAG` and nothing else (R280); op 0: found by no op of `DIAG`. -/
def Dev.diagEvent (d : Dev) (op target outcome addr : Nat) : Dev := d.raise Ev.diag op target outcome (addr % 2 ^ 32)

/-- A correction that is entered in the table: the conditions of retirement are evaluated (R271, R275). -/
def Dev.enterCe (d : Dev) (cls source addr locus : Nat) : Dev :=
  let d1 := d.recordCe cls source addr locus false
  let group := addr / rowGroupBytes * rowGroupBytes
  if cls == 1 && decide (d.pnum P.integrityRowRetireCe ≤ d1.groupCes group) then d1.retireRow addr 1 else d1

/-- `EV_MEM_CE`, at most once per second per class, with the corrections since. -/
def Dev.ceEvent (d : Dev) (cls addr : Nat) : Dev :=
  d.raiseHeld (Ev.memCe (memSrc cls)) cls (fun n => (cls, addr / 2 ^ 32, addr % 2 ^ 32, n))

/-- The CE mode of a class: 1 RECORD. -/
def Dev.ceRecords (d : Dev) (cls : Nat) : Bool :=
  d.pnum (if cls == 1 then P.integrityCeModeDram else P.integrityCeModeSram) == 1

/-- The memories are powered and in use. -/
def Dev.memOn (d : Dev) : Bool := (d.par.run == .running || d.par.run == .starting) && d.pow.rung != .glaze

/-- A correctable error on a demand read. One on a FIFO or the main path is counted only. A line that decodes is poisoned no more. -/
def memCeEff (e : MemErr) (d : Dev) : Dev :=
  if !d.memOn then d
  else
    let d0 := d.bump (.memCe e.cls 1) 1
    let d1 := if e.cls == 1 && !e.transit then d0.unpoison (fun l => l == e.address / 64 * 64) else d0
    if e.transit then d1
    else if e.region == .window then
      (if d.ceRecords e.cls then d1.recordCe e.cls 1 e.address e.locus true else d1).diagEvent 0 e.cls 1 e.address
    else
      let d2 := d1.ceEvent e.cls e.address
      if d.ceRecords e.cls then d2.enterCe e.cls 1 e.address e.locus else d2

/-- MEM_CE (R270). -/
def execMemCe (e : MemErr) (s : State) : Host.Outcome State Fault Refusal := s.run (memCeEff e)

/-! ## Uncorrectable errors (R272) -/

/-- The row of R272 that a region belongs to, from 1. -/
def regionRow : Region → Nat
  | .drift _ _ => 1
  | .valueCache _ _ | .indexCache _ _ => 2
  | .fingerprints _ _ => 3
  | .galeShadow _ => 4
  | .sessionState _ => 5
  | .policy => 6
  | .counters | .histograms => 7
  | .staging _ => 8
  | .receive => 9
  | .reassembly _ => 10
  | .lull => 11
  | .baroRing _ => 12
  | .unbuildable => 13
  | .window => 0

/-- A counter of the latency histograms. -/
def Ctr.isHist : Ctr → Bool
  | .hist _ _ _ | .histSum _ _ => true
  | _ => false

/-- What the row of a region does. A read whose data stood in media staging SRAM is not decoded, and its next step reads the flash again. -/
def Dev.regionUe (d : Dev) (r : Region) (code addr : Nat) : Dev :=
  match r with
  | .drift seq chunk => d.driftUe seq chunk
  | .valueCache loc gen => { d with med := d.med.uncache loc gen }
  | .indexCache n lo => d.modBucket n lo (fun b => { b with cached := false })
  | .fingerprints n lo => d.modBucket n lo (fun b => { b with fpValid := false })
  | .galeShadow a => if d.gale.rows.any (fun r => r.addr == a && r.valid) then d.galeRepaired a 2 else d
  | .sessionState sid => d.endSession sid 7 true
  | .counters => { d with ctr := d.ctr.filter (fun c => c.1.isHist) }
  | .histograms => { d with ctr := d.ctr.filter (fun c => !c.1.isHist), ev := { d.ev with histSince := d.clk.ns } }
  | .staging id => match d.med.reads.find? (fun x => x.id == id && x.arrived.isSome) with
    | some x => (d.modRead id (fun y => { y with arrived := none })).issueOps id (locBay x.loc) (d.readDies x.loc x.gen x.want) .read 2
    | none => d
  | .reassembly sid => d.endSession sid 7 false
  | .lull => { d with net := { d.net with lull := d.net.lull.tail } }
  | .unbuildable => d.integrityStop code (regionRow r) addr
  | .policy | .receive | .baroRing _ | .window => d

/-- The record of the Barograph ring that the error has taken, if any, leaves the ring. -/
def Dev.dropRecord (d : Dev) (r : Region) : Dev :=
  match r with
  | .baroRing ext => { d with ev := { d.ev with ring := d.ev.ring.filter (fun x => x.r.ext != ext) } }
  | _ => d

/-- An uncorrectable error on a read by its owner, `src` 1, or by Dew, 2. -/
def Dev.ueHandled (d : Dev) (src : Nat) (e : MemErr) : Dev :=
  let d1 := d.bump (.memUe e.cls src) 1
  if e.region == .window then d1.diagEvent 0 e.cls 2 e.address
  else
    let d2 := (d1.dropRecord e.region).raise (Ev.memUe (memSrc e.cls)) e.cls (e.address / 2 ^ 32) (e.address % 2 ^ 32) (regionRow e.region)
    (if e.cls == 1 && !e.transit then d2.ueLine e.address else d2).regionUe e.region Ev.integrityStop.code e.address

def memUeEff (e : MemErr) (d : Dev) : Dev := if d.memOn then d.ueHandled 1 e else d

/-- MEM_UE (R272). -/
def execMemUe (e : MemErr) (s : State) : Host.Outcome State Fault Refusal := s.run (memUeEff e)

/-! ## NARROW_WRITE and Dew (R267, R279) -/

/-- Bytes of DRAM, spare rows included (R23); the SRAM's addresses lie above them: DESIGN CHOICE, log entry 4. -/
abbrev dramBytes : Nat := 137438953472

/-- A write is narrower than the code word of its target, or not aligned to it (R267): 64 bytes in DRAM, 8 in SRAM. -/
def narrow (addr width : Nat) : Bool :=
  let n := if addr < dramBytes then 64 else 8
  addr % n != 0 || width % n != 0

/-- A write from outside the hardware engines meets a memory controller (R267). One of whole lines is accepted, and takes the place of what
was poisoned (R273); of a narrower one nothing is written, and the requester has a bus error. -/
def narrowWriteEff (requester addr width : Nat) (d : Dev) : Dev :=
  if !d.memOn then d
  else if narrow addr width then d.raise Ev.narrowWrite requester (addr / 2 ^ 32) (addr % 2 ^ 32) width
  else d.unpoison (fun l => decide (addr ≤ l) && decide (l < addr + width))

/-- NARROW_WRITE (R267). -/
def execNarrowWrite (requester addr width : Nat) (s : State) : Host.Outcome State Fault Refusal := s.run (narrowWriteEff requester addr width)

/-- DRAM lines of a lap: 128 GiB, spare row groups included (R23, R279). -/
abbrev dewLines : Nat := 2147483648

/-- SRAM words of a lap: the 96 MiB of R24. -/
abbrev dewWords : Nat := 12582912

/-- Dew's SRAM pointer moves to a word; SRAM laps run in parallel and are not reported (log entry 217). -/
def Dev.dewSramTo (d : Dev) (w : Nat) : Dev := { d with mem := { d.mem with dewSram := w % dewWords } }

/-- Dew moves on by some lines; a lap that ends is reported. -/
def Dev.dewMove (d : Dev) (n : Nat) : Dev :=
  let a := d.mem.dewAddr + n
  if a < dewLines then { d with mem := { d.mem with dewAddr := a } }
  else
    let s := (d.clk.tick - d.mem.dewLapStart) / 1000000
    let d1 := (d.raise Ev.dewLap s d.mem.dewCe d.mem.dewUe 0).bump (.drive .dewLaps) 1
    { d1 with mem := { d1.mem with
      dewAddr := a - dewLines, dewLapStart := d.clk.tick, dewCe := 0, dewUe := 0, dewSlowRaised := false, dewLastLap := s },
              ctr := (.drive .dewLastLap, BitVec.ofNat 64 s) :: d1.ctr.filter (fun x => x.1 != .drive .dewLastLap) }

/-- A correctable error that Dew finds: always written back and recorded (R270), but for the diagnostic windows. -/
def Dev.dewCorrect (d : Dev) (cls addr locus : Nat) (r : Region) : Dev :=
  let d1 := ({ d with mem := { d.mem with dewCe := d.mem.dewCe + 1 } } : Dev).bump (.memCe cls 2) 1
  if r == .window then (d1.recordCe cls 2 addr locus true).diagEvent 0 cls 1 addr
  else (d1.ceEvent cls addr).enterCe cls 2 addr locus

/-- An uncorrectable error that Dew finds. -/
def Dev.dewStuck (d : Dev) (cls addr : Nat) (r : Region) : Dev :=
  ({ d with mem := { d.mem with dewUe := d.mem.dewUe + 1 } } : Dev).ueHandled 2
    { cls := cls, transit := false, address := addr, locus := 0xFF, region := r }

/-! ## The diagnostic windows (R265, R266, R280) -/

/-- Bytes of a target's line or word, its check bytes, and the bytes of its window: 1 DRAM, 2 SRAM. -/
def cellBytes (target : Nat) : Nat := if target == 1 then 64 else 8
def checkLen (target : Nat) : Nat := if target == 1 then 16 else 1
def windowBytes (target : Nat) : Nat := if target == 1 then 1048576 else 4096

/-- XOR of bytes, position by position. -/
def xorBytes (a b : Bytes) : Bytes := List.zipWith (· ^^^ ·) a b

/-- The code's check bytes of data as encoded. -/
def encodeCheck (target : Nat) (b : Bytes) : Bytes := if target == 1 then Config.rsCheck b else [Config.hsiaoCheck b]

/-- The line or word at an offset of a window: as LINE_WRITE left it, else as the fill or firmware left it (R268, R269, R446). -/
def Dev.cell (d : Dev) (target addr : Nat) : DiagCell :=
  match d.mem.diag.find? (fun c => c.target == target && c.address == addr) with
  | some c => c
  | none =>
    let b := match d.mem.diagSeed.get (if target == 1 then 0 else 1) with
      | none => zeroBytes (cellBytes target)
      | some s => (List.range (cellBytes target)).map (fun i => Config.unwrittenByte (2 * s + (if target == 1 then 0 else 1)) (addr + i))
    { target := target, address := addr, data := b, flipData := zeroBytes (cellBytes target), flipCheck := zeroBytes (checkLen target) }

/-- Data and check bytes as stored. -/
def DiagCell.rawData (c : DiagCell) : Bytes := xorBytes c.data c.flipData
def DiagCell.rawCheck (c : DiagCell) : Bytes := xorBytes ((encodeCheck c.target c.data).take (checkLen c.target) ++
  zeroBytes (checkLen c.target - (encodeCheck c.target c.data).length)) c.flipCheck

/-- The device of a data or check byte of a DRAM line (R265). -/
def byteDevice (i : Nat) : Nat :=
  if i < 64 then (if i % 8 < 4 then i % 8 else i % 8 + 1) else if i % 2 = 0 then 4 else 9

/-- Positions of the bytes that are not zero: check bytes count on from 64. -/
def flipped (a b : Bytes) : List Nat :=
  ((List.range a.length).filter (fun i => a[i]? != some 0)) ++ ((List.range b.length).filter (fun i => b[i]? != some 0)).map (· + 64)

/-- What the normal decoder makes of a line or word: outcome 0 clean, 1 corrected, 2 uncorrectable, with locus and data. -/
structure Decoded where
  outcome : Nat
  locus : Nat
  data : Bytes
  deriving DecidableEq, Repr

/-- A correction of DRAM bytes is accepted in one device, or up to four bytes (R265). -/
def acceptBytes (ps : List Nat) : Bool :=
  decide (ps.length ≤ 4) || ((ps.map byteDevice).dedup.length == 1)

/-- The lowest device of a correction (R271). -/
def firstDevice (ps : List Nat) : Nat := (ps.map byteDevice).foldl min 9

/-- The DRAM decoder: up to 8 byte errors are found. With more, which codeword it comes to, if any, is the code's affair (log entry 3); but
codewords differ in 17 bytes at least, so that `e` errors leave none nearer than `17 - e`, and it corrects 8 bytes at most. -/
def DiagCell.decodeDram (c : DiagCell) : Decoded :=
  let ps := flipped c.flipData c.flipCheck
  if ps.isEmpty then ⟨0, 0xFF, c.data⟩
  else if ps.length ≤ 8 then (if acceptBytes ps then ⟨1, firstDevice ps, c.data⟩ else ⟨2, 0xFF, c.rawData⟩)
  else match Config.rsDecode c.rawData c.rawCheck with
    | some (b, qs) =>
      if qs.length + ps.length < 17 ∨ 8 < qs.dedup.length then ⟨2, 0xFF, c.rawData⟩
      else if qs.isEmpty then ⟨0, 0xFF, b⟩ else if acceptBytes qs then ⟨1, firstDevice qs, b⟩ else ⟨2, 0xFF, c.rawData⟩
    | none => ⟨2, 0xFF, c.rawData⟩

/-- The bits set in a run of bytes: bit i of byte n counts as 8 n + i. -/
def setBits (b : Bytes) : List Nat :=
  (List.range b.length).flatMap (fun n => ((List.range 8).filter (fun i => (b.getD n 0).getLsbD i)).map (fun i => 8 * n + i))

/-- The SRAM decoder: one bit is corrected, two are detected (R266); with more, what it finds is the code's affair. -/
def DiagCell.decodeSram (c : DiagCell) : Decoded :=
  match setBits (c.flipData ++ c.flipCheck) with
  | [] => ⟨0, 0xFF, c.data⟩
  | [i] => ⟨1, i, c.data⟩
  | [_, _] => ⟨2, 0xFF, c.rawData⟩
  | _ => match Config.hsiaoDecode c.rawData (c.rawCheck.headD 0) with
    | some (b, some i) => ⟨1, i, b⟩
    | some (b, none) => ⟨0, 0xFF, b⟩
    | none => ⟨2, 0xFF, c.rawData⟩

/-- The decoder of a line or word. -/
def DiagCell.decode (c : DiagCell) : Decoded := if c.target == 1 then c.decodeDram else c.decodeSram

/-- The cells of the diagnostic windows that Dew reads on its way over `n` lines or words. -/
def Dev.dewCells (d : Dev) (n : Nat) : List DiagCell :=
  d.mem.diag.filter (fun c =>
    let x := Config.windowBase c.target + c.address
    if c.target == 1 then decide (64 * d.mem.dewAddr ≤ x) && decide (x < 64 * (d.mem.dewAddr + n))
    else decide (8 * d.mem.dewSram ≤ x) && decide (x < 8 * (d.mem.dewSram + n)))

/-- What Dew finds on its way over lines that it reports clean (R279): a line of a diagnostic window as it stands, which is checked and not
written back; a line that was poisoned is poisoned no more. -/
def Dev.dewClean (d : Dev) (n : Nat) : Dev :=
  (d.dewCells n).foldl (fun (d : Dev) (c : DiagCell) =>
    let r := c.decode
    let x := Config.windowBase c.target + c.address
    if r.outcome = 1 then d.dewCorrect c.target x r.locus .window
    else if r.outcome = 2 then d.dewStuck c.target x .window else d)
    (d.unpoison (fun l => decide (64 * d.mem.dewAddr ≤ l) && decide (l < 64 * (d.mem.dewAddr + n))))

/-- Dew reads in Clear only. -/
def Dev.dewRuns (d : Dev) : Bool := d.par.run == .running && d.pow.rung == .clear

def dewReadEff (f : DewFinding) (d : Dev) : Dev :=
  if !d.dewRuns then d
  else match f with
    | .clean n => let d1 := d.dewClean n
      (d1.dewSramTo (d1.mem.dewSram + n)).dewMove n
    | .ce (some a) locus r => (d.dewCorrect 2 a locus r).dewSramTo (a / 8 + 1)
    | .ce none locus r => (d.dewCorrect 1 (64 * d.mem.dewAddr) locus r).dewMove 1
    | .ue (some a) r => (d.dewSramTo (a / 8 + 1)).dewStuck 2 a r
    | .ue none r => (d.dewStuck 1 (64 * d.mem.dewAddr) r).dewMove 1

/-- DEW_READ (R279). -/
def execDewRead (e : DewFinding) (s : State) : Host.Outcome State Fault Refusal := s.run (dewReadEff e)

def dewLapSlowEff (d : Dev) : Dev :=
  if d.dewRuns && !d.mem.dewSlowRaised then
    ({ d with mem := { d.mem with dewSlowRaised := true } } : Dev).raise Ev.dewLapSlow ((d.clk.tick - d.mem.dewLapStart) / 3600000000)
      (d.mem.dewAddr * 1000 / dewLines) 0 0
  else d

/-- DEW_LAP_SLOW (R279): the lap passes `integrity.dew_lap_warn_h`. -/
def execDewLapSlow (s : State) : Host.Outcome State Fault Refusal := s.run dewLapSlowEff

end Sys2Proof.Machine
end

