-- ==== Sys2Proof/Machine/Diag.lean ====
section
/-! DEFINITION. `DIAG` (R280, R281), `POLICY_WRITE` (R182 to R184), `RING_LOAD` (R114). -/

namespace Sys2Proof.Machine

/-! ## DIAG: the block and the reply -/

/-- The fields of the block. -/
def Cap.dOp (c : Cap) : Nat := c.value.field 0 1
def Cap.dTarget (c : Cap) : Nat := c.value.field 1 1
def Cap.dAddr (c : Cap) : Nat := c.value.field 8 8

/-- The checks of the block. -/
def diagCheck (c : Cap) : Option (BitVec 16) :=
  if c.value.length != 160 then some Status.badLength
  else if !c.value.zeroAt 2 6 || c.dOp == 0 || decide (7 < c.dOp) then some Status.badField
  else if c.dOp ≤ 5 then
    (if (c.dTarget == 1 || c.dTarget == 2) && decide (c.dAddr < windowBytes c.dTarget) && c.dAddr % cellBytes c.dTarget == 0 then none
     else some Status.badField)
  else if 1 ≤ c.dTarget ∧ c.dTarget ≤ 3 ∧ c.dAddr < 524288 then none
  else some Status.badField

/-- The reply's 96 bytes. -/
def diagReply (op outcome locus channel galeAddr : Nat) (data check : Bytes) : Bytes :=
  natToBytesBE 1 op ++ natToBytesBE 1 outcome ++ natToBytesBE 1 locus ++ natToBytesBE 1 channel ++ natToBytesBE 4 galeAddr ++ zeroBytes 8 ++
    (data ++ zeroBytes (64 - data.length)) ++ (check ++ zeroBytes (16 - check.length))

/-- An op ends: `EV_DIAG` and the reply. -/
def Dev.diagEnd (d : Dev) (c : Cap) (outcome locus channel galeAddr : Nat) (data check : Bytes) : Dev :=
  (d.diagEvent c.dOp c.dTarget outcome c.dAddr).okWith c (diagReply c.dOp outcome locus channel galeAddr data check)

/-- Physical address of a line or word of a window. -/
def Cap.dPhys (c : Cap) : Nat := Config.windowBase c.dTarget + c.dAddr

/-- The DRAM channel that holds the line. -/
def Cap.dChannel (c : Cap) : Nat := if c.dTarget == 1 then (Config.dramChannel c.dPhys).val else 0

/-- The mask armed for a target. -/
def Memory.mask (m : Memory) (target : Nat) : Option DiagMask := if target == 1 then m.maskDram else m.maskSram
def Memory.setMask (m : Memory) (target : Nat) (x : Option DiagMask) : Memory :=
  if target == 1 then { m with maskDram := x } else { m with maskSram := x }

/-- FLIP_ARM. -/
def Dev.flipArm (d : Dev) (c : Cap) : Dev :=
  let n := cellBytes c.dTarget
  let x : DiagMask := { address := c.dAddr, data := (c.value.drop 0x10).take n, check := (c.value.drop 0x50).take (checkLen c.dTarget) }
  ({ d with mem := d.mem.setMask c.dTarget (some x) } : Dev).diagEnd c 0 0xFF c.dChannel 0 [] []

/-- FLIP_DISARM. -/
def Dev.flipDisarm (d : Dev) (c : Cap) : Dev :=
  ({ d with mem := d.mem.setMask c.dTarget none } : Dev).diagEnd c 0 0xFF c.dChannel 0 [] []

/-- LINE_WRITE: an armed mask of the line or word is used up. -/
def Dev.lineWrite (d : Dev) (c : Cap) : Dev :=
  let n := cellBytes c.dTarget
  let armed := match d.mem.mask c.dTarget with
    | some x => if x.address == c.dAddr then some x else none
    | none => none
  let cell : DiagCell := { target := c.dTarget, address := c.dAddr, data := (c.value.drop 0x60).take n,
                           flipData := (match armed with
                             | some x => x.data
                             | none => zeroBytes n),
                           flipCheck := (match armed with
                             | some x => x.check
                             | none => zeroBytes (checkLen c.dTarget)) }
  let m := if armed.isSome then d.mem.setMask c.dTarget none else d.mem
  ({ d with mem := { m with
    diag := cell :: m.diag.filter (fun x => !(x.target == c.dTarget && x.address == c.dAddr)) } } : Dev).diagEnd c 0 0xFF c.dChannel 0 [] []

/-- LINE_READ: the outcome of the normal decoder; a correction is recorded with source 3. -/
def Dev.lineRead (d : Dev) (c : Cap) : Dev :=
  let r := (d.cell c.dTarget c.dAddr).decode
  let d1 := match r.outcome with
    | 1 => (d.bump (.memCe c.dTarget 3) 1).recordCe c.dTarget 3 c.dPhys r.locus true
    | 2 => d.bump (.memUe c.dTarget 3) 1
    | _ => d
  d1.diagEnd c r.outcome r.locus c.dChannel 0 r.data []

/-- RAW_READ. -/
def Dev.rawRead (d : Dev) (c : Cap) : Dev :=
  let x := d.cell c.dTarget c.dAddr
  d.diagEnd c 0 0xFF c.dChannel 0 x.rawData x.rawCheck

/-- GALE_READ: a row that no one has written holds arbitrary bits (log entry 2). -/
def Dev.galeRead (d : Dev) (c : Cap) : Dev :=
  let r : (BitVec 72 × Bool × BitVec 2) × Dev := match d.gale.rows.find? (fun r => r.addr == c.dAddr) with
    | some r => ((r.data, r.valid, r.parity), d)
    | none => let (v, x) := d.draw
      ((v.setWidth 72, false, v.extractLsb' 72 2), x.modGale (fun g => { g with
        rows := ⟨c.dAddr, v.setWidth 72, false, v.extractLsb' 72 2, 0, ~~~ 0⟩ :: g.rows }))
  r.2.diagEnd c 0 0xFF 0 c.dAddr (natToBytesBE 9 r.1.1.toNat ++ natToBytesBE 1 (4 * r.1.2.1.toNat + r.1.2.2.toNat)) []

/-- The table of a Gale op's target. -/
def tableNum (n : Nat) : GTable := if n == 1 then .directory else if n == 2 then .session else .policy

/-- GALE_SEARCH: SEARCH_FROM under MK15, which the block loads; a row that fails its parity is repaired (R188, R280). -/
def Dev.galeSearchOp (d : Dev) (c : Cap) : Dev :=
  let t := tableNum c.dTarget
  let key := BitVec.ofNat 144 (c.value.field 0x10 18)
  let mask := BitVec.ofNat 144 (c.value.field 0x22 18)
  let d1 := d.modGale (fun g => g.loadMask 15 mask)
  let ms := d1.gale.matches_ t c.dAddr key mask
  let bad := ((d1.gale.partakes t c.dAddr).filter GRow.perr).map (·.addr)
  let d2 := d1.countSearch t (!ms.isEmpty)
  let d3 := (if 1 < ms.length then d2.countMulti 1 else d2).perrRows bad
  d3.diagEnd c ((!ms.isEmpty).toNat + 2 * (decide (1 < ms.length)).toNat + 4 * (!bad.isEmpty).toNat) 0xFF 0 (ms.headD 0) [] []

/-- `DIAG` executes. -/
def diagGo (c : Cap) (d : Dev) : Dev :=
  d.check c (diagCheck c) (fun (d : Dev) =>
    match c.dOp with
    | 1 => d.flipArm c
    | 2 => d.flipDisarm c
    | 3 => d.lineWrite c
    | 4 => d.lineRead c
    | 5 => d.rawRead c
    | 6 => d.galeRead c
    | _ => d.galeSearchOp c)

/-- The ops of `DIAG`. -/
abbrev diagOps : List Nat := [1, 2, 3, 4, 5, 6, 7]
def flipArmEff (seq : Nat) (d : Dev) : Dev := d.admin seq Op.diag (opIs diagOps 1) diagGo

/-- FLIP_ARM (R280). -/
def execFlipArm (seq : Nat) (s : State) : Host.Outcome State Fault Refusal := s.run (flipArmEff seq)

def flipDisarmEff (seq : Nat) (d : Dev) : Dev := d.admin seq Op.diag (opIs diagOps 2) diagGo

/-- FLIP_DISARM (R280). -/
def execFlipDisarm (seq : Nat) (s : State) : Host.Outcome State Fault Refusal := s.run (flipDisarmEff seq)

def lineWriteEff (seq : Nat) (d : Dev) : Dev := d.admin seq Op.diag (opIs diagOps 3) diagGo

/-- LINE_WRITE (R280). -/
def execLineWrite (seq : Nat) (s : State) : Host.Outcome State Fault Refusal := s.run (lineWriteEff seq)

def lineReadEff (seq : Nat) (d : Dev) : Dev := d.admin seq Op.diag (opIs diagOps 4) diagGo

/-- LINE_READ (R280). -/
def execLineRead (seq : Nat) (s : State) : Host.Outcome State Fault Refusal := s.run (lineReadEff seq)

def rawReadEff (seq : Nat) (d : Dev) : Dev := d.admin seq Op.diag (opIs diagOps 5) diagGo

/-- RAW_READ (R280). -/
def execRawRead (seq : Nat) (s : State) : Host.Outcome State Fault Refusal := s.run (rawReadEff seq)

def galeReadEff (seq : Nat) (d : Dev) : Dev := d.admin seq Op.diag (opIs diagOps 6) diagGo

/-- GALE_READ (R280). -/
def execGaleRead (seq : Nat) (s : State) : Host.Outcome State Fault Refusal := s.run (galeReadEff seq)

def galeSearchEff (seq : Nat) (d : Dev) : Dev := d.admin seq Op.diag (opIs diagOps 7) diagGo

/-- GALE_SEARCH (R280). -/
def execGaleSearch (seq : Nat) (s : State) : Host.Outcome State Fault Refusal := s.run (galeSearchEff seq)

/-! ## POLICY_WRITE (R182 to R184) -/

/-- An operation entry. -/
structure PolOp where
  op : Nat
  action : Nat
  nsWord : Nat
  tenant : Nat
  permit : BitVec 64
  floor : Nat
  ops : Nat
  bytes : Nat
  interval : Nat
  zeros : Bool
  deriving DecidableEq, Repr

/-- Reads an entry. -/
def polOp (b : Bytes) : PolOp :=
  { op := b.field 0 1, action := b.field 1 1, nsWord := b.field 2 2, tenant := b.field 4 4, permit := BitVec.ofNat 64 (b.field 8 8),
    floor := b.field 0x10 4, ops := b.field 0x14 4, bytes := b.field 0x18 4, interval := b.field 0x1C 4, zeros := b.zeroAt 0x20 32 }

/-- Permit bits of a tenant record: `IDENTIFY`, `GET_PARAM`, `READ_LOG`, `EVENT_SUBSCRIBE`, `ATTEST`. -/
def adminBits : List Nat := [33, 34, 41, 42, 56]

/-- Permit bits of a binding; bit 17 is ignored. -/
def dataBits : List Nat := [1, 2, 3, 4, 5, 6, 7, 8, 9, 10, 11, 16, 17]

/-- Every set bit of a word from `lo` below `hi` is one of a list. -/
def onlyBits (w : BitVec 64) (lo hi : Nat) (l : List Nat) : Bool :=
  ((List.range hi).filter (fun i => decide (lo ≤ i))).all (fun i => !w.getLsbD i || l.contains i)

/-- Limits, action and interval agree (R183). -/
def PolOp.limitsOk (o : PolOp) : Bool :=
  if o.action == 0 then o.ops == 0 && o.bytes == 0 && o.interval == 0
  else (o.action == 1 || o.action == 2) && (o.ops != 0 || o.bytes != 0) && decide (1 ≤ o.interval) && decide (o.interval ≤ 60000)

/-- The tenant word is a tenant's. -/
def PolOp.tenantOk (o : PolOp) : Bool := decide (1 ≤ o.tenant) && decide (o.tenant ≤ 0xFFFFFFFE)

/-- Fields that SET_TENANT alone uses are zero. -/
def PolOp.noLimits (o : PolOp) : Bool := o.action == 0 && o.floor == 0 && o.ops == 0 && o.bytes == 0 && o.interval == 0

/-- The entry's fields are allowed for its op (R183). -/
def PolOp.fieldsOk (o : PolOp) : Bool :=
  o.zeros && o.tenantOk &&
    (match o.op with
    | 1 => o.nsWord == 0 && o.permit.setWidth 32 == (0 : BitVec 32) && onlyBits o.permit 32 64 adminBits && o.limitsOk
    | 2 => o.nsWord == 0 && o.permit == 0 && o.noLimits
    | 3 => decide (o.nsWord < 4096) && onlyBits o.permit 0 64 dataBits && o.noLimits
    | 4 => decide (o.nsWord < 4096) && o.permit == 0 && o.noLimits
    | _ => false)

/-- A tenant's record as an entry sets it; its buckets begin full (log entry 52). -/
def PolOp.record (o : PolOp) (now : Nat) : Tenant :=
  let t : Tenant := { id := BitVec.ofNat 32 o.tenant, action := o.action, adminPermit := (o.permit >>> 32).setWidth 32, floor := o.floor,
                      opsLimit := o.ops, bytesLimit := o.bytes, intervalMs := o.interval, opsLevel := 0, bytesLevel := 0, refilled := now }
  { t with opsLevel := t.opsSize, bytesLevel := t.bytesSize }

/-- Applies one entry to a policy; nothing where it is refused (R184). `exists_`: the namespaces that exist. -/
def PolOp.apply (o : PolOp) (exists_ : BitVec 12 → Bool) (now : Nat) (p : Policy) : Option Policy :=
  let t : BitVec 32 := BitVec.ofNat 32 o.tenant
  let n : BitVec 12 := BitVec.ofNat 12 o.nsWord
  let known := (p.tenant t).isSome
  if !o.fieldsOk then none
  else match o.op with
    | 1 => some { p with tenants := p.tenants.filter (fun x => x.id != t) ++ [o.record now] }
    | 2 => if known then
        some { p with tenants := p.tenants.filter (fun x => x.id != t), bindings := p.bindings.filter (fun b => b.tenant != t) } else none
    | 3 => if known && exists_ n && !p.bound t n then
        some { p with bindings := p.bindings ++ [⟨t, n, o.permit.setWidth 32 &&& 0xFFFDFFFF⟩] } else none
    | _ => if p.bound t n then some { p with bindings := p.bindings.filter (fun b => !(b.tenant == t && b.ns == n)) } else none

/-- The entries of a block, evaluated in order. -/
def polRun (exists_ : BitVec 12 → Bool) (now : Nat) : List PolOp → Policy → Option Policy
  | [], p => some p
  | o :: rest, p => match o.apply exists_ now p with
    | some q => polRun exists_ now rest q
    | none => none

/-- How many bindings the sweep of each DELETE_TENANT of a block finds (R177). -/
def polSweeps (exists_ : BitVec 12 → Bool) (now : Nat) : List PolOp → Policy → List Nat
  | [], _ => []
  | o :: rest, p => match o.apply exists_ now p with
    | some q => (if o.op == 2 then [(p.bindings.filter (fun b => b.tenant.toNat == o.tenant)).length] else []) ++ polSweeps exists_ now rest q
    | none => []

/-- The entries of a block. -/
def polOps (b : Bytes) (n : Nat) : List PolOp := (List.range n).map (fun i => polOp ((b.drop (16 + 64 * i)).take 64))

/-- A SET_TENANT names no operator's ID (R378). -/
def Dev.tenantFree (d : Dev) (o : PolOp) : Bool := o.op != 1 || !d.isOperator (BitVec.ofNat 32 o.tenant)

/-- The credentials after a block: DELETE_TENANT takes the tenant's away (R379). -/
def credsLeft (l : List Cred) (os : List PolOp) : List Cred :=
  l.filter (fun c => c.operator || !os.any (fun o => o.op == 2 && o.tenant == c.id.toNat))

/-- The value of a numeric parameter once its committed value applies (R443). -/
def Dev.nextNum (d : Dev) (id : Nat) : Nat :=
  match d.par.committed.find? (fun e => e.1 == id) with
  | some e => e.2.1.toNatBE
  | none => d.pnum id

/-- The policy that a block leads to; nothing where it is refused: the floors are held to the reference that the recomputation of the shares
puts in force (R184, R195). -/
def Dev.policyOf (d : Dev) (b : Bytes) : Option Policy :=
  let n := b.field 0 2
  if n == 0 || decide (1023 < n) || !b.zeroAt 2 14 || !(polOps b n).all d.tenantFree then none
  else match polRun (fun n => (d.nsOf n).isSome) d.clk.tick (polOps b n) d.pol with
    | none => none
    | some p =>
      if 65536 < p.bindings.length ∨ 16384 < p.tenants.length ∨ d.nextNum P.galeFloorReferenceMbps < p.floorSum then none else some p

/-- Gale's policy table after a change of the bindings: entries gone are invalidated, new ones written. -/
def Gale.rebind (g : Gale) (old new : List Binding) : Gale :=
  let w (b : Binding) : BitVec 144 := bindingWord b.tenant b.ns
  let gone := old.filter (fun b => !new.any (fun x => x.tenant == b.tenant && x.ns == b.ns))
  let made := new.filter (fun b => !old.any (fun x => x.tenant == b.tenant && x.ns == b.ns))
  made.foldl (fun (g : Gale) (b : Binding) => g.insert .policy (w b)) (gone.foldl (fun (g : Gale) (b : Binding) => g.remove .policy (w b)) g)

/-- `POLICY_WRITE` executes. A committed `gale.floor_reference_mbps` comes in force with the shares it recomputes (R195). -/
def policyWriteGo (c : Cap) (d : Dev) : Dev :=
  let n := c.value.field 0 2
  if c.value.length != 16 + 64 * n then d.fail c Status.badLength
  else match d.policyOf c.value with
    | none => d.fail c Status.badField
    | some p =>
      let ds := (polSweeps (fun n => (d.nsOf n).isSome) d.clk.tick (polOps c.value n) d.pol).foldl (fun (x : Dev) (k : Nat) => x.countSweep .policy k) d
      let d1 := (({ ds with
        pol := { p with gen := d.pol.gen + 1 }, sec := { d.sec with creds := credsLeft d.sec.creds (polOps c.value n) } } : Dev).modGale (fun g =>
          (if (polOps c.value n).any (fun o => o.op == 2) then g.loadMask 3 maskPolTenant else g).rebind d.pol.bindings p.bindings)
        ).applyCommitted (· == P.galeFloorReferenceMbps)
      let d2 := d1.raise Ev.policyWrite ((d.pol.gen + 1) % 2 ^ 32) n p.bindings.length p.tenants.length
      (d2.keepRecord (64 * (p.bindings.length + p.tenants.length))).okWith c (natToBytesBE 8 (d.pol.gen + 1) ++ natToBytesBE 4 p.bindings.length ++ natToBytesBE 4 p.tenants.length)

def policyWriteEff (seq : Nat) (d : Dev) : Dev := d.admin seq Op.policyWrite (fun _ => true) policyWriteGo

/-- POLICY_WRITE (R184). -/
def execPolicyWrite (seq : Nat) (s : State) : Host.Outcome State Fault Refusal := s.run (policyWriteEff seq)

/-! ## RING_LOAD (R114) -/

/-- A node whose keys this drive serves: its own or, paired, its partner's (R115). -/
def Dev.ownNode (d : Dev) (n : BitVec 16) : Bool :=
  n.toNat == d.pnum P.indexNodeId || (d.mir.state != .unpaired && n == d.mir.partnerNode)

/-- `RING_LOAD` executes. -/
def ringLoadGo (c : Cap) (d : Dev) : Dev :=
  let b := c.value
  if ringStatus d.ring.epoch b == Status.ok then
    let r := ringOf b
    ((({ d with ring := r } : Dev).raise Ev.ringLoad (r.epoch % 2 ^ 32) r.points.length
      ((r.points.filter (fun p => d.ownNode p.2)).length) 0).keepRecord b.length).fail c
      Status.ok
  else d.fail c (ringStatus d.ring.epoch b)

def ringLoadEff (seq : Nat) (d : Dev) : Dev := d.admin seq Op.ringLoad (fun _ => true) ringLoadGo

/-- RING_LOAD (R114). -/
def execRingLoad (seq : Nat) (s : State) : Host.Outcome State Fault Refusal := s.run (ringLoadEff seq)

end Sys2Proof.Machine
end

