-- ==== Sys2Proof/Machine/Attest.lean ====
section
/-! DEFINITION. `ATTEST` (R379 to R389): chain, measurements, credentials, authorities, and the start of a life-cycle transition. -/

namespace Sys2Proof.Machine

/-! ## The block (R380) -/

/-- The fields of the header. -/
def Cap.aOp (c : Cap) : Nat := c.value.field 0 1
def Cap.aFlag (c : Cap) : Bool := (c.value.field 1 1).testBit 0
def Cap.aCred (c : Cap) : BitVec 32 := BitVec.ofNat 32 (c.value.field 4 4)
def Cap.aPayload (c : Cap) : Bytes := c.value.drop 64

/-- The length of the payload an op carries (R381). -/
def attestLen (op : Nat) (p : Bytes) : Nat :=
  match op with
  | 3 => 32
  | 7 => 4 + p.field 0 4
  | 8 => 40 + p.field 4 4
  | 10 => 32
  | _ => 0

/-- Who may send an op: anyone; operators and a tenant for itself; operators; the provisioning credential. -/
inductive AttestBy
  | any | own | operator | provisioning
  deriving DecidableEq, Repr

/-- The senders of an op. -/
def attestBy (op : Nat) : AttestBy :=
  if op ≤ 2 then .any else if op ≤ 4 then .own else if op = 8 ∨ op = 11 then .provisioning else .operator

/-- Life-cycle states in which an op is allowed. -/
def attestIn (op : Nat) (s : LcState) : Bool :=
  if op ≤ 2 then true
  else if op ≤ 7 ∨ op = 10 then s == .provisioned || s == .owned
  else if op = 8 then s == .blank || s == .decommissioned
  else if op = 9 then s == .provisioned
  else s == .decommissioned

/-- The sender's credential may send the op. -/
def Dev.attestMay (d : Dev) (c : Cap) : Bool :=
  match attestBy c.aOp with
  | .any => true
  | .own => d.isOperator c.tenant || (c.tenant != provisioningId && c.aCred == c.tenant && !c.aFlag)
  | .operator => d.isOperator c.tenant
  | .provisioning => c.tenant == provisioningId

/-- A tenant sends the capsule. -/
def Dev.byTenant (d : Dev) (c : Cap) : Bool := c.tenant != provisioningId && !d.isOperator c.tenant

/-- The checked fields are zero: those of the header that the op does not use. -/
def attestFields (c : Cap) : Bool :=
  let op := c.aOp
  c.value.zeroAt 2 2 && c.value.zeroAt 0x28 24 && decide (c.value.field 1 1 < 2) && (!c.aFlag || op == 3 || op == 10) &&
    (c.aCred == 0 || [3, 4, 5, 6, 8].contains op) && (op == 2 || c.value.zeroAt 8 32)

/-- The checks on every op. -/
def Dev.attestCheck (d : Dev) (c : Cap) : Option (BitVec 16) :=
  let op := c.aOp
  if c.value.length < 64 then some Status.badLength
  else if op == 0 || decide (11 < op) then some Status.badField
  else if c.aPayload.length != attestLen op c.aPayload then some Status.badLength
  else if d.byTenant c && attestBy op == .operator then some Status.notPermitted
  else if !attestFields c || !d.attestMay c || !attestIn op d.sec.lcState then some Status.badField
  else none

/-! ## CHAIN and MEASURE (R373, R383) -/

/-- `EV_ATTEST` for an op. -/
def Dev.attestEvent (d : Dev) (c : Cap) : Dev := d.raise Ev.attest 1 c.cred c.aOp 0

/-- DMTF type of a measurement (R382). -/
def measureType (i : Nat) : Nat := if i = 1 then 0 else if i ≤ 6 then 1 else if i ≤ 9 then 3 else 2

/-- The report's bytes before the signature. -/
def Dev.reportHead (d : Dev) (nonce : Bytes) : Bytes :=
  natToBytesBE 1 10 ++ zeroBytes 7 ++ nonce ++ natToBytesBE 8 d.clk.ns ++
    [1, 2, 3, 4, 5, 6, 7, 8, 9, 10].flatMap (fun i =>
      natToBytesBE 1 i ++ natToBytesBE 1 (measureType i) ++ zeroBytes 6 ++ natToBytesBE 32 (d.measurement i).toNat)

/-- ASCII "fk4a atst1". -/
def atstPrefix : Bytes := [0x66, 0x6B, 0x34, 0x61, 0x20, 0x61, 0x74, 0x73, 0x74, 0x31]

/-- The measurement report (R383). -/
def Dev.report (d : Dev) (nonce : Bytes) : Bytes × Dev :=
  let h := d.reportHead nonce
  let sig := Config.identitySign d.fresh (natToBytesBE 32 (Config.sha256 (atstPrefix ++ h)).toNat)
  (h ++ natToBytesBE 384 sig.toNat, d.draw.2)

/-- CHAIN. -/
def Dev.attestChain (d : Dev) (c : Cap) : Dev := (d.attestEvent c).okWith c Config.identityChain

/-- MEASURE. -/
def Dev.attestMeasure (d : Dev) (c : Cap) : Dev :=
  let r := d.report ((c.value.drop 8).take 32)
  (r.2.attestEvent c).okWith c r.1

/-! ## Credentials (R378, R379) -/

/-- The credential with an ID. -/
def Dev.cred? (d : Dev) (id : BitVec 32) : Option Cred := d.sec.creds.find? (·.id == id)

/-- Changes the credentials. -/
def Dev.setCreds (d : Dev) (f : List Cred → List Cred) : Dev := { d with sec := { d.sec with creds := f d.sec.creds } }

/-- `EV_CRED_CHANGE`: kind 1 operator, 2 tenant, 0 none. -/
def Dev.credEvent (d : Dev) (c : Cap) (kind : Nat) : Dev :=
  d.raise Ev.credChange (if c.aOp = 8 then c.aPayload.field 0 4 else c.aCred.toNat) c.aOp kind 0

/-- The number of a credential's kind. -/
def Cred.kind (x : Cred) : Nat := if x.operator then 1 else 2

/-- Stages a key in a credential. -/
def Dev.stageKey (d : Dev) (c : Cap) (x : Cred) : Dev :=
  let k := BitVec.ofNat 256 (c.aPayload.field 0 32)
  let y : Cred := { x with staged := some k, stagedAt := d.clk.tick }
  ((d.setCreds (fun l => l.filter (fun z => z.id != x.id) ++ [y])).credEvent c x.kind).okWith c []

/-- CRED_STAGE. -/
def Dev.credStage (d : Dev) (c : Cap) : Dev :=
  let id := c.aCred
  let tenant := (d.pol.tenant id).isSome
  let ops := (d.sec.creds.filter (·.operator)).length
  if id == 0 || id == provisioningId then d.fail c Status.badField
  else match d.cred? id with
    | some x => if c.aFlag && !x.operator then d.fail c Status.badField else d.stageKey c x
    | none =>
      if (c.aFlag && (tenant || decide (32 ≤ ops))) || (!c.aFlag && !tenant) then d.fail c Status.badField
      else d.stageKey c { id := id, operator := c.aFlag, active := none, staged := none, stagedAt := 0, activated := 0 }

/-- CRED_ACTIVATE. -/
def Dev.credActivate (d : Dev) (c : Cap) : Dev :=
  match d.cred? c.aCred with
  | none => d.fail c Status.badField
  | some x => match x.staged with
    | none => d.fail c Status.badField
    | some k =>
      let y : Cred := { x with active := some k, staged := none, stagedAt := 0, activated := d.clk.ns }
      ((d.setCreds (fun l => l.map (fun z => if z.id == x.id then y else z))).credEvent c x.kind).okWith c []

/-- CRED_DELETE: the reply is placed before the sessions of the credential end. -/
def Dev.credDelete (d : Dev) (c : Cap) : Dev :=
  match d.cred? c.aCred with
  | none => d.fail c Status.badField
  | some x =>
    if x.operator && (d.sec.creds.filter (·.operator)).length == 1 then d.fail c Status.badField
    else
      let d1 := ((d.setCreds (fun l => l.filter (fun z => z.id != x.id))).credEvent c x.kind).okWith c []
      (d1.net.sessions.filter (·.tenant == x.id)).foldl (fun (d : Dev) (s : Session) => d.endSession s.sid 9 true) d1

/-- Ascending order of IDs. -/
def insCred (x : Cred) : List Cred → List Cred
  | [] => [x]
  | y :: rest => if x.id.toNat < y.id.toNat then x :: y :: rest else y :: insCred x rest

/-- An entry of CRED_LIST. -/
def Cred.bytes (x : Cred) : Bytes :=
  natToBytesBE 4 x.id.toNat ++ natToBytesBE 1 x.kind ++ natToBytesBE 1 (x.active.isSome.toNat + 2 * x.staged.isSome.toNat) ++ zeroBytes 2 ++
    natToBytesBE 8 x.activated

/-- CRED_LIST. -/
def Dev.credListOp (d : Dev) (c : Cap) : Dev :=
  (d.attestEvent c).okWith c ((d.sec.creds.foldl (fun (l : List Cred) (x : Cred) => insCred x l) []).flatMap Cred.bytes)

/-- AUTHORITY_SET: management connections are closed. The certificates' syntax is not looked at (log entry 53). -/
def Dev.authoritySetOp (d : Dev) (c : Cap) : Dev :=
  let a := c.aPayload.drop 4
  if a.isEmpty || decide (16384 < a.length) then d.fail c Status.badField
  else ((({ d with
    sec := { d.sec with authorities := a }, mgmt := { d.mgmt with conns := [] } } : Dev).credEvent c 0)).okWith c []

/-! ## Transitions: step 1 of R388 -/

/-- A cartridge is AUTHENTICATED or IN_SERVICE. -/
def Dev.anyAdmitted (d : Dev) : Bool :=
  (List.finRange 4).any (fun b => [BayState.authenticated, .inService].contains (d.bays.get b).state)

/-- The payload of PROVISION and DECOMMISSION, and what TAKE_OWNERSHIP needs (R381, R386, R388). -/
def Dev.lcStep1 (d : Dev) (c : Cap) : Option (BitVec 16) :=
  let p := c.aPayload
  match c.aOp with
  | 8 =>
    let id := p.field 0 4
    if id = 0 ∨ 0xFFFFFFFE < id ∨ p.field 4 4 = 0 ∨ 16384 < p.field 4 4 then some Status.badField else none
  | 9 => if d.anyAdmitted then none else some Status.unavailable
  | 10 => if p.zeroAt 0 32 != c.aFlag then some Status.badField else none
  | _ => none

/-- A quiesce runs (R397). -/
def Dev.quiesces (d : Dev) : Bool := (List.finRange 4).any (fun b => (d.bays.get b).quiesceSince.isSome || (d.bays.get b).state == .quiesced)

/-- A transition begins: sequencing stops, and it waits for the drain (R388 step 2). -/
def Dev.lcBegin (d : Dev) (c : Cap) : Dev :=
  let d1 := if c.aOp = 8 ∨ c.aOp = 10 then d.credEvent c 0 else d.attestEvent c
  ({ d1 with sec := { d1.sec with
    run := some { seq := c.seq, op := c.aOp, final := c.aFlag, payload := c.aPayload, requester := c.tenant } } } : Dev).performPending

/-- Consults the matrix of R445 for a transition; where its cell is Q it waits at step 2 (R397). -/
def Dev.lcStart (d : Dev) (c : Cap) : Dev :=
  match d.lcStep1 c with
  | some st => d.fail c st
  | none =>
    if c.aOp == 10 && d.quiesces then d.fail c Status.busyMaintenance
    else match d.maint .lc with
      | (.b, d1) | (.u, d1) => d1.fail c Status.busyMaintenance
      | (_, d1) => d1.lcBegin c

/-- `ATTEST` executes. -/
def attestGo (c : Cap) (d : Dev) : Dev :=
  d.check c (d.attestCheck c) (fun (d : Dev) =>
    match c.aOp with
    | 1 => d.attestChain c
    | 2 => d.attestMeasure c
    | 3 => d.credStage c
    | 4 => d.credActivate c
    | 5 => d.credDelete c
    | 6 => d.credListOp c
    | 7 => d.authoritySetOp c
    | _ => d.lcStart c)

/-- The ops of `ATTEST`. -/
abbrev attestOps : List Nat := [1, 2, 3, 4, 5, 6, 7, 8, 9, 10, 11]
def chainEff (seq : Nat) (d : Dev) : Dev := d.admin seq Op.attest (opIs attestOps 1) attestGo

/-- CHAIN (R381). -/
def execChain (seq : Nat) (s : State) : Host.Outcome State Fault Refusal := s.run (chainEff seq)

def measureEff (seq : Nat) (d : Dev) : Dev := d.admin seq Op.attest (opIs attestOps 2) attestGo

/-- MEASURE (R383). -/
def execMeasure (seq : Nat) (s : State) : Host.Outcome State Fault Refusal := s.run (measureEff seq)

def credStageEff (seq : Nat) (d : Dev) : Dev := d.admin seq Op.attest (opIs attestOps 3) attestGo

/-- CRED_STAGE (R379). -/
def execCredStage (seq : Nat) (s : State) : Host.Outcome State Fault Refusal := s.run (credStageEff seq)

def credActivateEff (seq : Nat) (d : Dev) : Dev := d.admin seq Op.attest (opIs attestOps 4) attestGo

/-- CRED_ACTIVATE (R379). -/
def execCredActivate (seq : Nat) (s : State) : Host.Outcome State Fault Refusal := s.run (credActivateEff seq)

def credDeleteEff (seq : Nat) (d : Dev) : Dev := d.admin seq Op.attest (opIs attestOps 5) attestGo

/-- CRED_DELETE (R379). -/
def execCredDelete (seq : Nat) (s : State) : Host.Outcome State Fault Refusal := s.run (credDeleteEff seq)

def credListEff (seq : Nat) (d : Dev) : Dev := d.admin seq Op.attest (opIs attestOps 6) attestGo

/-- CRED_LIST (R381). -/
def execCredList (seq : Nat) (s : State) : Host.Outcome State Fault Refusal := s.run (credListEff seq)

def authoritySetEff (seq : Nat) (d : Dev) : Dev := d.admin seq Op.attest (opIs attestOps 7) attestGo

/-- AUTHORITY_SET (R381). -/
def execAuthoritySet (seq : Nat) (s : State) : Host.Outcome State Fault Refusal := s.run (authoritySetEff seq)

def provisionEff (seq : Nat) (d : Dev) : Dev := d.admin seq Op.attest (opIs attestOps 8) attestGo

/-- PROVISION (R389). -/
def execProvision (seq : Nat) (s : State) : Host.Outcome State Fault Refusal := s.run (provisionEff seq)

def takeOwnershipEff (seq : Nat) (d : Dev) : Dev := d.admin seq Op.attest (opIs attestOps 9) attestGo

/-- TAKE_OWNERSHIP (R389). -/
def execTakeOwnership (seq : Nat) (s : State) : Host.Outcome State Fault Refusal := s.run (takeOwnershipEff seq)

def decommissionEff (seq : Nat) (d : Dev) : Dev := d.admin seq Op.attest (opIs attestOps 10) attestGo

/-- DECOMMISSION (R389). -/
def execDecommission (seq : Nat) (s : State) : Host.Outcome State Fault Refusal := s.run (decommissionEff seq)

def retireEff (seq : Nat) (d : Dev) : Dev := d.admin seq Op.attest (opIs attestOps 11) attestGo

/-- RETIRE (R389). -/
def execRetire (seq : Nat) (s : State) : Host.Outcome State Fault Refusal := s.run (retireEff seq)

/-! ## STAGED_CRED_EXPIRY (R379) -/

/-- The staged key of a credential is lost; a credential without an active key is gone with it. -/
def stagedCredEff (id : BitVec 32) (d : Dev) : Dev :=
  match d.cred? id with
  | none => d
  | some x => match x.staged with
    | none => d
    | some _ =>
      (d.setCreds (fun l => unstage (l.filter (fun z => z.id == id)) ++ l.filter (fun z => z.id != id))).raise Ev.credStageExpired id.toNat
        0 0 0

/-- STAGED_CRED_EXPIRY (R379). -/
def execStagedCredExpiry (id : BitVec 32) (s : State) : Host.Outcome State Fault Refusal := s.run (stagedCredEff id)

end Sys2Proof.Machine
end

