-- ==== Sys2Proof/Machine/Transport.lean ====
section
/-! DEFINITION. The commands of Squall (02_transport): frames that are not FWP, the handshake, the packets of a session, the
acknowledgement and retransmission rules, and the transport timers. Links coming up and going down are in Links.lean. -/

namespace Sys2Proof.Machine

/-! ## Frames other than FWP (R32, R33, R56) -/

/-- The port holds an IPv4 address. -/
def Dev.ownsIpv4 (d : Dev) (p : Port) (a : BitVec 32) : Bool :=
  let v := d.par.value (ipv4Param p)
  v.length == 40 && v.field 12 4 == a.toNat

/-- The port holds an IPv6 address: its global one or its link-local one. -/
def Dev.ownsIpv6 (d : Dev) (p : Port) (a : Addr) : Bool :=
  let v := d.par.value (ipv6Param p)
  (v.length == 40 && v.field 0 16 == a.toNat) || a == linkLocal (Config.portMac p.val)

/-- A frame addressed to the drive reaches Squall: the drive wakes from Haze and Fog (R56, R318). -/
def Dev.onFrame (d : Dev) (p : Port) (f : Dev → Dev) : Dev := if d.hears p then f (d.wakeLight 1) else d

/-- ARP (R33): answered for the port's own address. The Lull buffer answers in Fog without a wake (R56). -/
def arpEff (p : Port) (target sender : BitVec 32) (d : Dev) : Dev :=
  if d.hears p && d.ownsIpv4 p target then
    (if d.pow.rung = .fog then d else d.wakeLight 1).emitOut (.arpReply p target sender)
  else d

/-- Neighbour Discovery (R33): a solicitation for an address of the port is answered, in Fog by the Lull buffer without a wake; any
other message to the drive is a frame like another (R56). -/
def ndEff (p : Port) (target : Addr) (solicitation : Bool) (d : Dev) : Dev :=
  if solicitation then
    if d.hears p && d.ownsIpv6 p target then
      (if d.pow.rung = .fog then d else d.wakeLight 1).emitOut (.ndAdvert p target true)
    else d
  else d.onFrame p id

/-- The bytes of an echo reply: on a data port the packet of R32; R343 gives none for the management port. -/
def Dev.echoBytes (d : Dev) (p : EchoPort) (src : Addr) (payload : Bytes) : Bytes :=
  match p with
  | .data q => d.echoFrame q (d.dscp 0 * 4) src payload
  | .mgmt => []

/-- Answers an echo request while the window of its port allows (R33, R343, R467). -/
def Dev.echo (d : Dev) (p : EchoPort) (subject limit : Nat) (src : Addr) (payload : Bytes) : Dev :=
  match d.window (rateKey 0x10001 subject) limit with
  | (true, d1) => d1.emitOut (.echoReply p src payload (d1.echoBytes p src payload))
  | (false, d1) => d1

/-- An echo request: at most 1,000 answers per second on a data port (R33), 100 on the management port, which is served from Clear to
Frost (R343). -/
def echoEff (p : EchoPort) (src : Addr) (payload : Bytes) (d : Dev) : Dev :=
  match p with
  | .data q => d.onFrame q (fun d => d.echo p q.val 1000 src payload)
  | .mgmt => if d.mgmt.vaneUp && d.mgmt.linkUp && d.pow.rung != .glaze then d.echo p 2 100 src payload else d

/-- The counter of a dropped frame (R58). -/
def faultCtr : FrameFault → PortCtr
  | .l2 => .l2Drop
  | .ip => .ipDrop
  | .fragment => .fragDrop
  | .ipOptions => .optDrop
  | .udpChecksum => .udpCsum
  | .otherPort => .otherDrop
  | .malformed => .fwpMalformed

/-- Checks 1 of R58: the FCS, the length and the VLAN rules of R30. -/
def Dev.l2Ok (d : Dev) (f : RawFrame) : Bool :=
  f.fcsOk && decide (64 ≤ f.len) && decide (f.len ≤ 9216) &&
    (match f.vids with
      | [] => true
      | [v] => v == 0 || v == d.pnum P.transportVlanId
      | _ => false)

/-- Check 2 of R58 on an IP header: version, header checksum, an address of this port. -/
def Dev.ipOk (d : Dev) (p : Port) (h : IpHead) : Bool :=
  if h.version = 4 then h.sumOk && h.dst >>> 32 == 0xFFFF && d.ownsIpv4 p (h.dst.setWidth 32)
  else h.version == 6 && d.ownsIpv6 p h.dst

/-- Check 6 of R58: the length, the version and the type of a FWP packet (R34, R35). An INIT of another version is an `INIT` command
and no drop. -/
def fwpOk (b : Bytes) : Bool :=
  match PktType.ofCode (b.field 0 1) with
  | none => false
  | some t => decide ((if t.isProtected then 64 else 48) ≤ b.length) && (b.field 1 1 == 1 || t == .init)

/-- The first of checks 1 to 6 of R58 that a frame fails. A frame that is not IP and no frame of R33 is other traffic. An IPv6 extension
header counts with the options: DESIGN CHOICE, log entry 185. A known packet type that only the drive sends passes these checks and is
ignored without a count, since R35 and R58 name no action for it: DESIGN CHOICE, log entry 225. -/
def Dev.frameFault (d : Dev) (p : Port) (f : RawFrame) : Option FrameFault :=
  if !d.l2Ok f then some .l2
  else match f.ip with
    | none => some .otherPort
    | some h =>
      if !d.ipOk p h then some .ip
      else if h.version = 4 ∧ h.fragment then some .fragment
      else if (h.version = 4 ∧ h.options) ∨ (h.version = 6 ∧ h.extension) then some .ipOptions
      else if !h.known then some .otherPort
      else if f.udpSum = .wrong ∨ (f.udpSum = .zero ∧ h.version = 6) then some .udpChecksum
      else if f.udpPort ≠ d.pnum P.transportUdpPort then some .otherPort
      else if !fwpOk f.fwp then some .malformed
      else none

/-- A frame that fails one of checks 1 to 6 is dropped and counted (R30, R33, R58, R285). One that came whole to this port's MAC address
wakes the drive (R56). -/
def frameDropEff (f : FramePort) (d : Dev) : Dev :=
  match f with
  | .data p x =>
      match d.frameFault p x with
      | some y =>
        if d.hears p then
          (if x.toPort && y != .l2 then d.wakeLight 1 else d).bump (.port p (faultCtr y)) 1
        else d
      | none => d
  | .peer => if (d.net.links.get 2).up then d.bump (.port 0 .peerDrop) 1 else d

/-! ## The handshake (R39 to R45) -/

/-- A packet outside a session, which no key seals (R35); the CLOSE of a tombstone, whose keys are destroyed, goes so as well (R46):
DESIGN CHOICE, log entry 186. -/
def Dev.bare (d : Dev) (p : Port) (a : Addr) (u : BitVec 16) (typ : PktType) (sid : BitVec 32) (pl : Bytes) : Dev :=
  d.wire (d.framed none
    { port := p, addr := a, uport := u, typ := typ, sid := sid, psn := 0, first := false, last := false,
      ackValid := false, keyPhase := false, ece := false, cumAck := 0, sack := 0, streamOffset := 0, creditLimit := 0,
      dscp := d.dscp 0, pcp := d.pcp 0, ect := d.pflag P.transportEcnEnable, vid := d.txVid, payload := pl, frame := [] })

/-- A REJECT with a reason, at most 1,000 per second per port (R45). -/
def Dev.reject (d : Dev) (k : InitPacket) (reason : Nat) : Dev :=
  match d.window (rateKey 0x10005 k.port.val) 1000 with
  | (true, d1) => d1.bare k.port k.addr k.uport .reject 0 (natToBytesBE 2 reason)
  | (false, d1) => d1

/-- Segment sizes (R40). -/
def segSizes : List Nat := [1024, 2048, 4096, 8192]

/-- The content of an INIT is well formed (R40). A version byte of 0, no version at all, is not: DESIGN CHOICE, log entry 187. -/
def initOk (b : Bytes) : Bool :=
  b.field 0 1 != 0 && segSizes.contains (b.field 2 2) && b.field 0x28 1 == 0x04

/-- The reason an INIT is refused with, in the order of R45. The INITs that wait for step 4 count as sessions, here and in
`EV_SESSION_LIMIT`: each becomes a half-open session. DESIGN CHOICE, log entry 188. -/
def Dev.initRefusal (d : Dev) (k : InitPacket) : Option Nat :=
  if d.par.closing || !d.gale.failed.isEmpty then some 5
  else if d.net.holdoffs.contains k.addr then some 3
  else if d.pnum P.transportSessionMax ≤ d.net.sessions.length + d.net.shakes.length then some 2
  else if 1024 ≤ d.net.shakes.length then some 3
  else if !initOk k.payload then some 4
  else none

/-- INIT (R39 step 1, R45, R58 checks 6 and 7). One whose source has a session already passes the search without a miss: it is dropped
and counted `rx_no_session`. DESIGN CHOICE, log entry 189. -/
def initEff (k : InitPacket) (d : Dev) : Dev :=
  d.onFrame k.port (fun d =>
    if k.payload.length + 48 < 1200 then d.bump (.port k.port .fwpMalformed) 1
    else if k.fwpVersion != 1 then (d.bump (.port k.port .fwpMalformed) 1).reject k 1
    else
      let hit := (d.gale.find .session (sessionWord k.addr k.uport)).isSome
      let d := d.countSearch .session hit
      if hit then d.bump (.port k.port .noSession) 1
      else match d.initRefusal k with
        | some 2 => (d.raise Ev.sessionLimit (d.net.sessions.length + d.net.shakes.length) (d.pnum P.transportSessionMax) 0 0
            ).reject k 2
        | some r => d.reject k r
        | none => { d with net := { d.net with shakes := d.net.shakes ++ [⟨k⟩] } })

/-- A session ID not in use: non-zero, not of an open session or a tombstone (R41). -/
def Net.freeSid (n : Net) (x : Nat) : Nat → BitVec 32
  | 0 => BitVec.ofNat 32 x
  | fuel + 1 =>
    let v := BitVec.ofNat 32 x
    if v == 0 || n.sessions.any (·.sid == v) || n.tombs.any (·.sid == v) then n.freeSid (x + 1) fuel else v

/-- INIT_REPLY bytes 0x00 to 0xBF (R41). -/
def initReplyHead (seg : Nat) (sid : BitVec 32) (nonce : BitVec 256) (key : Bytes) (chain : BitVec 256) (node : Nat) : Bytes :=
  [0x01, 0x00] ++ natToBytesBE 2 seg ++ natToBytesBE 4 sid.toNat ++ natToBytesBE 32 nonce.toNat ++ key ++ zeroBytes 7 ++
    natToBytesBE 32 chain.toNat ++ natToBytesBE 2 node ++ zeroBytes 14

/-- A half-open session (R39 step 4). -/
def halfOpen (k : InitPacket) (sid : BitVec 32) (seg : Nat) (transcript : BitVec 256) (keys : SessKeys) : Session :=
  { sid := sid, port := k.port, addr := k.addr, uport := k.uport, stage := .halfOpen, tenant := 0, segSize := seg, idleS := 0,
    transcript := transcript, keys := keys, rxCum := 0, rxGot := [], rxPhase := false, rxPrevUntil := none, dataSinceAck := 0,
    ackDue := false, lastCe := false, eceOwed := false, txNext := 0, txPhase := false, txPhaseStart := 0,
    txPhaseAcked := false, unacked := [], peerCum := 0, srtt := none, rttvar := 0, rto := 1000, expiries := 0,
    cwnd := 128 * seg, alpha := 0, winEnd := 0, winAcked := 0, winEce := 0, hostLimit := 0, replyPos := 0, replyQ := [],
    stalledSince := none, released := 0, seqPos := 0, ended := [], refused := [], early := [], overruns := [], subs := [], deferred := [],
    noticeQ := [] }

/-- The half-open entry and the INIT_REPLY of a handshake (R39 steps 3 and 4, R41, R43). The nonce, the ephemeral private key and the
session ID are free values; the private key is kept nowhere. -/
def Dev.openHalf (d : Dev) (k : InitPacket) : Dev :=
  let (r0, d1) := d.draw
  let (r1, d2) := d1.draw
  let (r2, d3) := d2.draw
  let priv := r1.setWidth 384
  let pub := Config.p384Point priv
  let seg := min (k.payload.field 2 2) (d3.pnum P.transportSegmentSize)
  let sid := d3.net.freeSid (r2.toNat % 2 ^ 32) (d3.net.sessions.length + d3.net.tombs.length + 1)
  let key : Bytes := 0x04 :: (natToBytesBE 48 pub.1.toNat ++ natToBytesBE 48 pub.2.toNat)
  let nonce := r0.setWidth 256
  let head := initReplyHead seg sid nonce key (Config.sha256 Config.identityChain) (d3.pnum P.indexNodeId)
  let th := Config.sha256 (k.payload ++ head)
  let sig := Config.identitySign d3.fresh (natToBytesBE 32 th.toNat)
  let keys := deriveKeys (Config.ecdhX priv ((k.payload.drop 0x28).take 97)) ((k.payload.drop 8).take 32) nonce th
  let d4 := { d3 with
    net := { d3.net with sessions := d3.net.sessions ++ [halfOpen k sid seg th keys] },
    gale := d3.gale.insert .session (sessionWord k.addr k.uport) }
  d4.bare k.port k.addr k.uport .initReply sid (head ++ natToBytesBE 384 sig.toNat)

/-- The handshake at the head of the queue is signed (R39 step 4), or its public key proves invalid at step 3 (R45). A second INIT of one
source that has a session by then is dropped (R58 check 7). -/
def initDoneEff (pointOk : Bool) (d : Dev) : Dev :=
  match d.net.shakes with
  | [] => d
  | h :: rest =>
    let d1 := { d with net := { d.net with shakes := rest } }
    if !pointOk then d1.reject h.pkt 4
    else if (d1.gale.find .session (sessionWord h.pkt.addr h.pkt.uport)).isSome then d1.bump (.port h.pkt.port .noSession) 1
    else d1.openHalf h.pkt

/-- The keys a credential may prove (R378, R379): the active one first. With no valid life-cycle record, only the provisioning
and the operator credentials (R387). -/
def Dev.authKeys (d : Dev) (id : BitVec 32) : List (BitVec 256) :=
  if id == provisioningId then
    if d.sec.lcState = .blank ∨ d.sec.lcState = .decommissioned ∨ d.sec.lcState = .invalid then d.sec.provisioning.toList else []
  else if d.sec.lcState = .invalid then
    (d.sec.creds.filter (fun c => c.id == id && c.operator)).flatMap (fun c => c.active.toList ++ c.staged.toList)
  else if d.sec.lcState = .provisioned ∨ d.sec.lcState = .owned then
    (d.sec.creds.filter (fun c => c.id == id && (c.operator || d.sec.lcState == .owned))).flatMap
      (fun c => c.active.toList ++ c.staged.toList)
  else []

/-- The message an AUTH proof covers (R42): "fwp1 auth", the transcript hash, the tenant ID. -/
def authMessage (th : BitVec 256) (t : BitVec 32) : Bytes :=
  [0x66, 0x77, 0x70, 0x31, 0x20, 0x61, 0x75, 0x74, 0x68] ++ natToBytesBE 32 th.toNat ++ natToBytesBE 4 t.toNat

/-- An activation or a reversion runs, or a life-cycle transition (R45). -/
def Dev.authBarred (d : Dev) : Bool :=
  d.sec.run.isSome || (match d.par.pendingReset with
    | some (.activation _ _ _) | some .reversion => true
    | _ => false)

/-- The status of an AUTH (R42, R45). -/
def Dev.authStatus (d : Dev) (s : Session) (k : AuthPacket) : BitVec 16 :=
  if !(d.authKeys k.tenant).any (fun key => Config.hmac (natToBytesBE 32 key.toNat) (authMessage s.transcript k.tenant) == k.proof)
  then Status.authFailed
  else if d.authBarred then Status.wrongMode
  else if k.tenant != provisioningId && !d.isOperator k.tenant &&
      decide (d.pnum P.transportSessionsPerTenantMax ≤ (d.liveSessions.filter (·.tenant == k.tenant)).length) then
    Status.notPermitted
  else Status.ok

/-- The AUTH_REPLY payload (R42). -/
def authReplyBytes (st : BitVec 16) (idle : Nat) : Bytes :=
  natToBytesBE 2 st.toNat ++ natToBytesBE 2 (~~~ st).toNat ++ natToBytesBE 4 idle ++ natToBytesBE 8 262144

/-- Entries of log 0x04 a new session of a tenant has to be told of (R139): those whose flag has passed to the tenant, and
those unread since the last reset. -/
def Dev.inheritedDeferred (d : Dev) (t : BitVec 32) : List Nat :=
  ((d.que.deferred.filter (fun e => e.tenant == t &&
    (d.que.passed.contains e.id || (d.que.bootUnread.contains e.id && d.que.unread.contains e.id)))).map (·.id))

/-- A failed AUTH: counted against its source address, which is held off after eight within 60 s (R45). The failures that count are those
whose proof does not verify; the event is raised for each refusal. DESIGN CHOICE, log entry 190. -/
def Dev.authFailed (d : Dev) (k : AuthPacket) (st : BitVec 16) : Dev :=
  let d1 := d.raise Ev.authFail k.tenant.toNat (k.addr.toNat % 2 ^ 32) st.toNat 0
  if st == Status.authFailed then
    let l := (k.addr, d.clk.tick) :: d1.net.authFails.filter (fun e => decide (d.clk.tick < e.2 + 60000000))
    let d2 := { d1 with net := { d1.net with authFails := l } }
    if 8 ≤ (l.filter (·.1 == k.addr)).length && !d2.net.holdoffs.contains k.addr then
      { d2 with net := { d2.net with holdoffs := k.addr :: d2.net.holdoffs } }
    else d2
  else d1

/-- The session that a Gale search and the checks of check 7 of R58 find. -/
def Dev.sessionFor (d : Dev) (a : Addr) (u : BitVec 16) (p : Port) (sid : BitVec 32) : Option Session :=
  if (d.gale.find .session (sessionWord a u)).isSome then
    d.net.sessions.find? (fun s => s.addr == a && s.uport == u && s.sid == sid && s.port == p)
  else none

/-- A packet that meets no session: counted; where the search misses and it matches a tombstone, it is answered with a CLOSE, at most
once per second (R46, R58 check 7, R180, R467). -/
def Dev.missSession (d : Dev) (p : Port) (a : Addr) (u : BitVec 16) (sid : BitVec 32) : Dev :=
  let d1 := d.bump (.port p .noSession) 1
  if (d1.gale.find .session (sessionWord a u)).isNone && d1.net.tombs.any (fun t => t.sid == sid && t.addr == a && t.uport == u) then
    match d1.holdOff (rateKey 0x10014 sid.toNat) with
    | (true, _, d2) => d2.bare p a u .close sid (closeBytes Status.sessionExpired)
    | (false, _, d2) => d2
  else d1

/-- A packet whose tag does not verify (R44). -/
def Dev.aeadFail (d : Dev) (p : Port) (sid : BitVec 32) : Dev :=
  (d.bump (.port p .aeadFail) 1).raiseHeld Ev.aeadFail sid.toNat (fun n => (sid.toNat, n, 0, 0))

/-- An accepted AUTH establishes the session (R39 step 6, R42); its header gives the first credit_limit of the host (R34, R53). -/
def Dev.establish (d : Dev) (s : Session) (k : AuthPacket) : Dev :=
  let idle := d.pnum P.transportIdleTimeoutS
  let d1 := d.modSession s.sid (fun x =>
    { x with stage := .established, tenant := k.tenant, idleS := idle, rxCum := 1, deferred := d.inheritedDeferred k.tenant,
             hostLimit := max x.hostLimit k.creditLimit.toNat, lastCe := k.ce, eceOwed := k.ce })
  let d2 := d1.sendPacket s.sid .authReply 0 0 false false (authReplyBytes Status.ok idle) 0
  (d2.raise Ev.sessionOpen s.sid.toNat k.tenant.toNat s.port.val s.segSize).recomputePools

/-- AUTH (R42, R45, R58 checks 7 to 10). On an established session it is a duplicate of PSN 0; with another PSN on a half-open session it
is dropped and counted `rx_fwp_malformed`: DESIGN CHOICE, log entry 191. -/
def authEff (k : AuthPacket) (d : Dev) : Dev :=
  d.onFrame k.port (fun d =>
    let o := d.sessionFor k.addr k.uport k.port k.sid
    let d := d.countSearch .session (d.gale.find .session (sessionWord k.addr k.uport)).isSome
    match o with
    | none => d.missSession k.port k.addr k.uport k.sid
    | some s =>
      if s.rxCum + 4096 ≤ k.psn.toNat then d.bump (.port k.port .psnWindow) 1
      else if !s.opens .auth (authPacket k) then d.aeadFail k.port s.sid
      else if s.live then (d.bump (.port k.port .dup) 1).sendAck s.sid
      else if k.psn != 0 then d.bump (.port k.port .fwpMalformed) 1
      else
        let st := d.authStatus s k
        if st == Status.ok then d.establish s k
        else
          let d1 := d.modSession s.sid (fun x => { x with rxCum := 1 })
          let d2 := d1.sendPacket s.sid .authReply 0 0 false false
            (authReplyBytes st (d1.pnum P.transportIdleTimeoutS)) 0
          (d2.removeSession s).authFailed k st)

/-! ## Acknowledgement (R36 to R38, R54) -/

/-- The receive point after the PSNs recorded. -/
def Session.settle (s : Session) : Nat → Session
  | 0 => s
  | fuel + 1 =>
    if s.rxGot.contains s.rxCum then
      { s with rxCum := s.rxCum + 1, rxGot := s.rxGot.filter (fun p => p != s.rxCum) }.settle fuel
    else s

/-- Records a PSN, and drops the previous key once `cum_ack` has passed the first PSN of the phase (R34, R44). -/
def Session.record (s : Session) (psn : Nat) : Session :=
  let s1 := { s with rxGot := psn :: s.rxGot }.settle (s.rxGot.length + 1)
  match s1.rxPrevUntil with
  | some f => if f < s1.rxCum then { s1 with rxPrevUntil := none, keys := { s1.keys with h2dPrev := none } } else s1
  | none => s1

/-- The host's next phase begins: its next key is derived and the current one kept (R44). -/
def Session.nextRxKey (s : Session) (psn : Nat) (phase : Bool) : Session :=
  { s with rxPhase := phase, rxPrevUntil := some psn,
           keys := { s.keys with h2dKey := nextKey s.keys.h2dKey, h2dPrev := some s.keys.h2dKey } }

/-- The receive key phase after a packet (R44): a packet of the other phase starts it, unless it was sealed under the key
kept from before. -/
def Session.phase (s : Session) (psn : Nat) (phase : Bool) : Session :=
  if phase == s.rxPhase then
    match s.rxPrevUntil with
    | some f => if psn < f then { s with rxPrevUntil := some psn } else s
    | none => s
  else match s.rxPrevUntil with
    | some f => if psn < f then s else s.nextRxKey psn phase
    | none => s.nextRxKey psn phase

/-- The RTO of a session within its limits (R38), in µs. -/
def Dev.clampRto (d : Dev) (x : Nat) : Nat :=
  min (d.pnum P.transportRtoMaxMs * 1000) (max (d.pnum P.transportRtoMinUs) x)

/-- One RTT sample (R38; the gains of RFC 6298), in µs. -/
def Session.sample (s : Session) (r : Nat) (clamp : Nat → Nat) : Session :=
  match s.srtt with
  | none => { s with srtt := some r, rttvar := r / 2, rto := clamp (r + 4 * (r / 2)) }
  | some t =>
    let v := (3 * s.rttvar + (if t ≤ r then r - t else t - r)) / 4
    let t1 := (7 * t + r) / 8
    { s with srtt := some t1, rttvar := v, rto := clamp (t1 + 4 * v) }

/-- The congestion window after an acknowledgement of `n` packets, at the end of a window of data (R54). -/
def Session.window (s : Session) (ecn : Bool) (cap : Nat) : Session :=
  if s.peerCum < s.winEnd || s.winAcked == 0 then s
  else
    let f : Rat := (if ecn then (s.winEce : Rat) else 0) / (s.winAcked : Rat)
    let a := (15 / 16 : Rat) * s.alpha + (1 / 16 : Rat) * f
    let w := if ecn && s.winEce != 0 then ((s.cwnd : Rat) * (1 - a / 2)).floor.toNat else s.cwnd + s.segSize
    { s with alpha := a, cwnd := min cap (max (2 * s.segSize) w), winEnd := s.txNext, winAcked := 0, winEce := 0 }

/-- What an acknowledgement covers (R34): a PSN below `cum`, or marked in `sack`. -/
def acked (cum : Nat) (sack : BitVec 64) (psn : Nat) : Bool :=
  decide (psn < cum) || (decide (cum < psn) && decide (psn ≤ cum + 64) && sack.getLsbD (psn - cum - 1))

/-- The session after an acknowledgement (R36 to R38, R54). -/
def Session.takeAck (s : Session) (cum : Nat) (sack : BitVec 64) (ece ecn : Bool) (now cap : Nat) (clamp : Nat → Nat) :
    Session :=
  let cum := min cum s.txNext
  let new : List TxPacket := s.unacked.filter (fun t => !t.sacked && acked cum sack t.pkt.psn)
  let s1 := { s with
    unacked := (s.unacked.filter (fun (t : TxPacket) => decide (cum ≤ t.pkt.psn))).map
      (fun (t : TxPacket) => if acked cum sack t.pkt.psn then { t with sacked := true } else t),
    expiries := if s.peerCum < cum then 0 else s.expiries,
    peerCum := max s.peerCum cum,
    txPhaseAcked := s.txPhaseAcked || new.any (fun (t : TxPacket) => decide (s.txPhaseStart ≤ t.pkt.psn)),
    winAcked := s.winAcked + new.length,
    winEce := s.winEce + (if ece && ecn then new.length else 0) }
  let s2 := match (new.filter (fun t => !t.resent)).getLast? with
    | some t => s1.sample (now - t.sentAt) clamp
    | none => s1
  s2.window ecn cap

/-- Packets declared lost by three acknowledgements above them (R38): sent once more here, then by the timer. R38 does not say whether
the acknowledgements above a packet count anew after its retransmission; here only the timer declares it lost again. DESIGN CHOICE, log
entry 226. -/
def Session.lost (s : Session) : List TxPacket :=
  s.unacked.filter (fun t => !t.sacked && !t.resent &&
    decide (3 ≤ (s.unacked.filter (fun u => u.sacked && decide (t.pkt.psn < u.pkt.psn))).length))

/-- Sends an exact copy of a packet (R36). -/
def Dev.resend (d : Dev) (sid : BitVec 32) (k : OutPacket) : Dev :=
  ((d.modSession sid (fun s => { s with unacked := s.unacked.map (fun t =>
      if t.pkt.psn == k.psn then { t with resent := true, sentAt := d.clk.tick } else t) })).bump
    (.session sid .resent) 1).wire k

/-- Takes the acknowledgement, the credit and the ECN echo of a received packet (R36, R53, R54). -/
def Dev.takeAck (d : Dev) (s : Session) (k : Packet) : Dev :=
  let ecn := d.pflag P.transportEcnEnable
  let lim (x : Session) : Session := { x with hostLimit := max x.hostLimit k.creditLimit.toNat }
  let d1 := if k.ackValid then
      d.modSession s.sid (fun x => lim (x.takeAck k.cumAck.toNat k.sack k.ece ecn d.clk.tick
        (d.pnum P.transportTxInflightMax) d.clampRto))
    else d.modSession s.sid lim
  let d2 := if k.ece && k.ackValid then d1.bump (.session s.sid .ece) 1 else d1
  let d3 := match d2.session? s.sid with
    | some x => x.lost.foldl (fun (d : Dev) (t : TxPacket) => d.resend s.sid t.pkt) d2
    | none => d2
  d3.pump s.sid

/-- Marks the acknowledgement a received packet calls for, and sends it where it is due at once (R37). -/
def Dev.ackFor (d : Dev) (s : Session) (k : Packet) (isData : Bool) : Dev :=
  let n := s.dataSinceAck + (if isData then 1 else 0)
  let d1 := d.modSession s.sid (fun x => { x with dataSinceAck := n, ackDue := true, lastCe := k.ce,
                                                  eceOwed := x.eceOwed || k.ce })
  if 2 ≤ n || s.rxCum < k.psn.toNat || k.ce != s.lastCe || d.pnum P.transportDelayedAckUs == 0 then d1.sendAck s.sid else d1

/-! ## Packets of a session -/

/-- A packet that has passed checks 7 to 10 of R58 is recorded, its acknowledgement taken, and its own effect follows. -/
def Dev.accept (d : Dev) (s : Session) (k : Packet) (isData : Bool) (f : Session → Dev → Dev) : Dev :=
  let d1 := d.modSession s.sid (fun x => (x.phase k.psn.toNat k.keyPhase).record k.psn.toNat)
  let d2 := (d1.bump (.session s.sid .pktRx) 1).bump (.session s.sid .byteRx) (64 + k.payload.length)
  let d3 := (d2.ackFor s k isData).takeAck s k
  match d3.session? s.sid with
  | some s1 => f s1 d3
  | none => d3

/-- A DATA packet beyond the credit limit (R47): dropped and unacknowledged; too many within a second end the session. The event counts
the overruns of the last second: DESIGN CHOICE, log entry 192. -/
def Dev.overrun (d : Dev) (s : Session) : Dev :=
  let l := d.clk.tick :: s.overruns.filter (fun t => decide (d.clk.tick < t + 1000000))
  let d1 := (d.bump (.port s.port .creditOverrun) 1).modSession s.sid (fun x => { x with overruns := l })
  let d2 := d1.raise Ev.creditOverrun s.sid.toNat l.length 0 0
  if 16 < l.length then d2.endSession s.sid 5 true else d2

/-- Bytes of Squall's reassembly and retransmission buffers (R24). -/
abbrev squallBytes : Nat := 16777216

/-- Bytes in Squall's buffers: packets not yet acknowledged, segments held for a first segment, and capsules that wait in Squall for
their pool or their directory entry (R36, R50, R51, R58). -/
def Dev.squallUse (d : Dev) : Nat :=
  (d.net.sessions.map (fun s => ((s.unacked.map (fun (t : TxPacket) => t.pkt.payload.length)).sum +
    (s.early.map (fun (e : Segment) => e.bytes.length)).sum))).sum +
  ((d.que.caps.filter (fun c => c.awaitBorrow || c.awaitDir)).map (fun c =>
    (c.segs.map (fun (e : Nat × Bytes) => e.2.length)).sum + c.key.length + c.value.length)).sum

/-- Checks 7 to 11 of R58 on a protected packet of an established session; `f` is the packet's own effect. A DATA packet that finds no
buffer space is dropped (R24, R55). -/
def Dev.takePacket (d : Dev) (k : Packet) (typ : PktType) (f : Session → Dev → Dev) : Dev :=
  let isData := typ == .data
  let o := d.sessionFor k.addr k.uport k.port k.sid
  let d := d.countSearch .session (d.gale.find .session (sessionWord k.addr k.uport)).isSome
  match o with
  | none => d.missSession k.port k.addr k.uport k.sid
  | some s =>
    if s.rxCum + 4096 ≤ k.psn.toNat then d.bump (.port k.port .psnWindow) 1
    else if !s.opens typ k then d.aeadFail k.port s.sid
    else if !s.live then d
    else if k.psn.toNat < s.rxCum || s.rxGot.contains k.psn.toNat then (d.bump (.port k.port .dup) 1).sendAck s.sid
    else if isData && decide (d.creditLimit s < k.streamOffset.toNat + k.payload.length) then d.overrun s
    else if isData && decide (squallBytes < d.squallUse + k.payload.length) then d
    else d.accept s k isData f

/-- Bytes of the Lull buffer (R24), and those of the frames it holds: 64 bytes of FWP header and tag and the payload of each. -/
abbrev lullBytes : Nat := 4194304
def Net.lullUse (n : Net) : Nat := (n.lull.map (fun (k : Packet) => 64 + k.payload.length)).sum

/-- A protected packet arrives; in Fog the Lull buffer holds it until the drive is awake, and drops it when it is full (R24, R55,
R56). -/
def Dev.onPacket (d : Dev) (k : Packet) (typ : PktType) (f : Session → Dev → Dev) : Dev :=
  if d.hears k.port then
    if d.pow.rung = .fog then
      if lullBytes < d.net.lullUse + 64 + k.payload.length then d.wakeLight 1
      else
      let d1 := { d with net := { d.net with lull := d.net.lull ++ [k] } }.wakeLight 1
      { d1 with net := { d1.net with lull := d1.net.lull.filter (· != k) } }.takePacket k typ f
    else (d.wakeLight 1).takePacket k typ f
  else d

/-- DATA: its segment goes to capsule assembly (R47, R58). -/
def dataEff (k : Packet) (d : Dev) : Dev :=
  d.onPacket k .data (fun s d => d.assemble s ⟨k.streamOffset.toNat, k.payload, k.first, k.last⟩)

/-- ACK and KEEPALIVE carry no payload (R35). -/
def ackEff (k : Packet) (d : Dev) : Dev := d.onPacket k .ack (fun _ d => d)
def keepaliveEff (k : Packet) (d : Dev) : Dev := d.onPacket k .keepalive (fun _ d => d)

/-- CLOSE from the host (R46 cause 1). -/
def closeEff (k : Packet) (d : Dev) : Dev := d.onPacket k .close (fun s d => d.endSession s.sid 1 true)

/-! ## Priority flow control (R55) -/

/-- The µs that a number of pause quanta of 512 bit times lasts at a line rate in Gb/s, rounded up to a tick (R55, R28). -/
def quantaUs (quanta gbps : Nat) : Nat := ceilDiv (quanta * 512) (max 1 gbps * 1000)

/-- A received PFC frame: of the priorities it names, those with a non-zero time pause for it, those with zero time go on (R55). -/
def pfcFrameEff (p : Port) (enable : BitVec 8) (quanta : Vector (BitVec 16) 8) (d : Dev) : Dev :=
  if d.hears p then
    let until_ (i : Fin 8) : Nat :=
      if enable.getLsbD i.val then d.clk.tick + quantaUs (quanta.get i).toNat (d.net.links.get p.castSucc).mode
      else (d.net.pfcPaused.get p).get i
    { d with net := { d.net with pfcPaused := d.net.pfcPaused.set p (Vector.ofFn until_) } }.releaseHeld
  else d

/-- The marks of R55 in per mille: pause above, release below. -/
def pfcMarks (lull : Bool) : Nat × Nat := if lull then (750, 500) else (900, 500)

/-- The priorities that a PFC parameter enables. -/
def Dev.pfcPriorities (d : Dev) : List Nat := (List.range 8).filter (d.pnum P.transportPfcPriorities).testBit

/-- The 40 µs renewal with the fill of a buffer in per mille (R55): a pause is sent above the mark and renewed until the fill
is below the release mark; the end of an episode raises `EV_PFC_TX` for each enabled priority. At release a PFC frame with zero quanta goes
at once, where R55 leaves open whether the last pause runs out instead: DESIGN CHOICE, log entry 227. -/
def pfcRenewEff (p : Port) (lull : Bool) (fill : Nat) (d : Dev) : Dev :=
  let en := BitVec.ofNat 8 (d.pnum P.transportPfcPriorities)
  if d.hears p && en != 0 && (lull == (d.pow.rung == .fog)) then
    match d.net.pfcTx.get p with
    | none =>
      if (pfcMarks lull).1 < fill then
        { d with net := { d.net with pfcTx := d.net.pfcTx.set p (some ⟨d.clk.tick, lull.toNat⟩) } }.emitOut (.pfc p en 0xFFFF)
      else d
    | some e =>
      if (pfcMarks lull).2 ≤ fill then d.emitOut (.pfc p en 0xFFFF)
      else
        let d1 := { d with net := { d.net with pfcTx := d.net.pfcTx.set p none } }.emitOut (.pfc p en 0)
        d.pfcPriorities.foldl (fun d i => d.raise (Ev.pfcTx (257 + p.val)) i (d.clk.tick - e.since) e.buffer 0) d1
  else d

/-! ## Timers -/

/-- The delayed acknowledgement is due (R37). -/
def delayedAckEff (sid : BitVec 32) (d : Dev) : Dev :=
  match d.session? sid with
  | some s => if s.ackDue && s.live then d.sendAck sid else d
  | none => d

/-- A session's retransmission timer expires (R38, R54). -/
def Dev.sessionRto (d : Dev) (sid : BitVec 32) : Dev :=
  match d.session? sid with
  | none => d
  | some s =>
    match s.unacked.find? (fun t => !t.sacked) with
    | none => d
    | some t =>
      let d1 := (d.bump (.session sid .rto) 1).modSession sid (fun x =>
        { x with expiries := x.expiries + 1, rto := d.clampRto (2 * x.rto), cwnd := 2 * x.segSize })
      if d.pnum P.transportRetxLimit ≤ s.expiries + 1 then (d1.raise Ev.retxLimit sid.toNat s.rto 0 0).endSession sid 3 true
      else d1.resend sid t.pkt

/-- The drive's next key phase (R44): after 2^30 packets, once a packet of the current phase has been acknowledged; the prefix is kept
and the PSN goes on. -/
def keyPhaseEff (sid : BitVec 32) (d : Dev) : Dev :=
  d.modSession sid (fun s =>
    if s.txPhaseAcked && decide (s.txPhaseStart + 2 ^ 30 ≤ s.txNext) then
      { s with txPhase := !s.txPhase, txPhaseStart := s.txNext, txPhaseAcked := false,
               keys := { s.keys with d2hKey := nextKey s.keys.d2hKey } }
    else s)

/-- A half-open session without a valid AUTH within 1 s is removed (R45). -/
def halfOpenTimeoutEff (sid : BitVec 32) (d : Dev) : Dev :=
  match d.session? sid with
  | some s => if s.live then d else d.removeSession s
  | none => d

/-- The hold-off of a source address ends (R45). -/
def holdoffExpiryEff (a : Addr) (d : Dev) : Dev :=
  { d with net := { d.net with holdoffs := d.net.holdoffs.filter (· != a),
                               authFails := d.net.authFails.filter (fun e => e.1 != a) } }

/-- No valid packet for the idle timeout (R46 cause 2). -/
def idleTimeoutEff (sid : BitVec 32) (d : Dev) : Dev :=
  match d.session? sid with
  | some s => if s.live then d.endSession sid 2 true else d
  | none => d

/-- A tombstone expires (R46). -/
def tombstoneExpiryEff (sid : BitVec 32) (d : Dev) : Dev :=
  { d with net := { d.net with tombs := d.net.tombs.filter (·.sid != sid) } }

/-- Reply bytes of a session that are not yet in packets. -/
def Session.waiting (s : Session) : Nat := (s.replyQ.map (·.bytes.length)).sum

/-- No reply byte could be sent for the reply stall time (R53, R46 cause 4). -/
def replyStallEff (sid : BitVec 32) (d : Dev) : Dev :=
  match d.session? sid with
  | some s =>
    if s.live && s.stalledSince.isSome then (d.raise Ev.replyStall sid.toNat s.waiting 0 0).endSession sid 4 true else d
  | none => d

/-! ## Meanings -/

/-- `ARP_REQUEST` (R33). -/
def execArpRequest (p : Port) (target sender : BitVec 32) (s : State) : Host.Outcome State Fault Refusal :=
  s.run (arpEff p target sender)
/-- `NEIGHBOUR_DISCOVERY` (R33). -/
def execNeighbourDiscovery (p : Port) (target : Addr) (solicitation : Bool) (s : State) : Host.Outcome State Fault Refusal :=
  s.run (ndEff p target solicitation)
/-- `ICMP_ECHO_REQUEST` (R33). -/
def execIcmpEchoRequest (p : EchoPort) (src : Addr) (payload : Bytes) (s : State) : Host.Outcome State Fault Refusal :=
  s.run (echoEff p src payload)
/-- `OTHER_FRAME_DROP` (R58). -/
def execOtherFrameDrop (f : FramePort) (s : State) : Host.Outcome State Fault Refusal := s.run (frameDropEff f)
/-- `INIT` (R40). -/
def execInit (k : InitPacket) (s : State) : Host.Outcome State Fault Refusal := s.run (initEff k)
/-- `INIT_SIGNATURE_DONE` (R39). -/
def execInitSignatureDone (pointOk : Bool) (s : State) : Host.Outcome State Fault Refusal := s.run (initDoneEff pointOk)
/-- `AUTH` (R42). -/
def execAuth (k : AuthPacket) (s : State) : Host.Outcome State Fault Refusal := s.run (authEff k)
/-- `DATA` (R47). -/
def execData (k : Packet) (s : State) : Host.Outcome State Fault Refusal := s.run (dataEff k)
/-- `ACK` (R37). -/
def execAck (k : Packet) (s : State) : Host.Outcome State Fault Refusal := s.run (ackEff k)
/-- `KEEPALIVE` (R35). -/
def execKeepalive (k : Packet) (s : State) : Host.Outcome State Fault Refusal := s.run (keepaliveEff k)
/-- `CLOSE` (R46). -/
def execClose (k : Packet) (s : State) : Host.Outcome State Fault Refusal := s.run (closeEff k)
/-- `PFC_FRAME` (R55). -/
def execPfcFrame (p : Port) (enable : BitVec 8) (quanta : Vector (BitVec 16) 8) (s : State) : Host.Outcome State Fault Refusal :=
  s.run (pfcFrameEff p enable quanta)
/-- `PFC_PAUSE_RENEW` (R55). -/
def execPfcPauseRenew (p : Port) (lull : Bool) (fill : Nat) (s : State) : Host.Outcome State Fault Refusal :=
  s.run (pfcRenewEff p lull fill)
/-- `DELAYED_ACK_TIMEOUT` (R37). -/
def execDelayedAckTimeout (sid : BitVec 32) (s : State) : Host.Outcome State Fault Refusal := s.run (delayedAckEff sid)
/-- `KEY_PHASE_UPDATE` (R44). -/
def execKeyPhaseUpdate (sid : BitVec 32) (s : State) : Host.Outcome State Fault Refusal := s.run (keyPhaseEff sid)
/-- `HALF_OPEN_TIMEOUT` (R45). -/
def execHalfOpenTimeout (sid : BitVec 32) (s : State) : Host.Outcome State Fault Refusal := s.run (halfOpenTimeoutEff sid)
/-- `AUTH_HOLDOFF_EXPIRY` (R45). -/
def execAuthHoldoffExpiry (a : Addr) (s : State) : Host.Outcome State Fault Refusal := s.run (holdoffExpiryEff a)
/-- `IDLE_TIMEOUT` (R46). -/
def execIdleTimeout (sid : BitVec 32) (s : State) : Host.Outcome State Fault Refusal := s.run (idleTimeoutEff sid)
/-- `TOMBSTONE_EXPIRY` (R46). -/
def execTombstoneExpiry (sid : BitVec 32) (s : State) : Host.Outcome State Fault Refusal := s.run (tombstoneExpiryEff sid)
/-- `REPLY_STALL_TIMEOUT` (R53). -/
def execReplyStallTimeout (sid : BitVec 32) (s : State) : Host.Outcome State Fault Refusal := s.run (replyStallEff sid)
/-- `CREDIT_BORROW_GRANT` (R50). -/
def execCreditBorrowGrant (cls : Fin 5) (s : State) : Host.Outcome State Fault Refusal := s.run (fun d => d.grantBorrow cls)
/-- `BORROW_WAIT_TIMEOUT` (R50). -/
def execBorrowWaitTimeout (sid tag : BitVec 32) (s : State) : Host.Outcome State Fault Refusal :=
  s.run (fun d => d.expireBorrow sid tag)
/-- `DIRECTORY_ENTRY_GRANT` (R51). -/
def execDirectoryEntryGrant (sid tag : BitVec 32) (s : State) : Host.Outcome State Fault Refusal :=
  s.run (fun d => d.grantEntry sid tag)

end Sys2Proof.Machine
end

