-- ==== Sys2Proof/Machine/PairLink.lean ====
section
/-! DEFINITION. The pair at work (11_mirror_pair): the writers that wait for the follower, loss of the partner and the SOLO wait
(R299, R303, R304), handover (R306), promotion (R305), reconciliation (R308, R309), the frames on the peer link (R286). -/

namespace Sys2Proof.Machine

/-! ## The writers of a mirrored namespace that wait for the follower (R295, R303) -/

/-- The writers of a namespace that the follower has not reported applied. -/
def Dev.waiters (d : Dev) (n : BitVec 12) : List Version := d.que.drift.filter (fun v => v.ns == n && v.mirrorWait)

/-- A writer waits for the follower no longer: it completes once it is at its own point (R295). -/
def Dev.freeWaiter (d : Dev) (v : Version) : Dev :=
  let d1 := d.modVer v.seq (fun x => { x with mirrorWait := false })
  if v.onMedium && !v.secure then d1.completeVer v.seq else d1

/-- A writer fails with `UNAVAILABLE` at the end of the SOLO wait (R303): what it has left on the lead stays (R136). -/
def Dev.failWaiter (d : Dev) (v : Version) : Dev :=
  let d1 := (d.modVer v.seq (fun x => { x with mirrorWait := false })).endWait v false
  (match d1.capBySeq v.seq with
    | some c => d1.finish c (Reply.plain Status.unavailable)
    | none => d1).ripen v.ns v.hash

/-- A secure deletion that the follower has not reported done waits for both drives (R310). -/
def MirrorNs.securing (m : MirrorNs) (v : Nat) : Bool := m.securePending.any (·.version == v)

/-- The parts of a namespace's uploads whose `MP_PART` waits for the follower, with their upload (R295). -/
def Dev.waitingParts (d : Dev) (n : BitVec 12) : List (Nat × Part) :=
  (d.idx.uploads.filter (·.ns == n)).flatMap (fun u => (u.parts.filter (·.mirrorWait)).map (fun p => (u.id, p)))

/-- An `MP_PART` waits for the follower no longer: it is answered once its part is on medium (R295), or with a status. -/
def Dev.freePart (d : Dev) (x : Nat × Part) (st : Option (BitVec 16)) : Dev :=
  let d1 := d.modPart x.1 x.2.seq (fun p => { p with mirrorWait := false })
  match d1.capBySeq x.2.seq with
  | some c => if st.isSome || x.2.onMedium then d1.finishFree c (Reply.plain (st.getD Status.ok)) else d1
  | none => d1

/-- The writers of a namespace with the numbers that `done` names wait no longer. -/
def Dev.freeSome (d : Dev) (n : BitVec 12) (done : Nat → Bool) : Dev :=
  let d1 := ((d.waiters n).filter (fun v => done v.seq)).foldl (fun (d : Dev) (v : Version) => d.freeWaiter v) d
  ((d1.waitingParts n).filter (fun x => done x.2.seq)).foldl (fun (d : Dev) (x : Nat × Part) => d.freePart x none) d1

/-- The writers of a namespace are acknowledged on the lead alone. -/
def Dev.freeWaiters (d : Dev) (m : MirrorNs) : Dev := d.freeSome m.ns (fun v => !m.securing v)

/-- The writers that the follower has reported applied, while the namespace acknowledged none (R304), wait no longer. -/
def Dev.freeApplied (d : Dev) (m : MirrorNs) : Dev :=
  d.freeSome m.ns (fun v => !m.securing v && !m.unapplied.any (·.version == v) && !m.failedKeys.any (·.2 == v))

/-- The writers of a namespace fail at the end of the SOLO wait (R303). -/
def Dev.failWaiters (d : Dev) (n : BitVec 12) : Dev :=
  let d1 := (d.waiters n).foldl (fun (d : Dev) (v : Version) => d.failWaiter v) d
  (d1.waitingParts n).foldl (fun (d : Dev) (x : Nat × Part) => d.freePart x (some Status.unavailable)) d1

/-! ## Buckets to reconcile (R308, R309) -/

/-- The dirty buckets of a namespace. -/
def Dev.dirtyBuckets (d : Dev) (n : BitVec 12) : List Bucket := d.idx.buckets.filter (fun b => b.ns == n && b.dirty)

/-- Every bucket of a namespace becomes dirty. -/
def Dev.dirtyAll (d : Dev) (n : BitVec 12) : Dev :=
  { d with idx := { d.idx with buckets := d.idx.buckets.map (fun b => if b.ns == n then { b with dirty := true } else b) } }

/-- No bucket of a namespace is dirty any more. -/
def Dev.cleanAll (d : Dev) (n : BitVec 12) : Dev :=
  { d with idx := { d.idx with buckets := d.idx.buckets.map (fun b => if b.ns == n then { b with dirty := false } else b) } }

/-- A reconciliation begins: its figures start anew. -/
def Dev.beginResync (d : Dev) (n : BitVec 12) (st : NsState) : Dev :=
  (d.modMirror n (fun m => { m with resyncBuckets := 0, resyncBytes := 0, resyncSince := d.clk.tick, diverged := 0, divergedLow := 0,
                                    divergedHigh := 0 })).setNsState n st

/-- RELEASE once no namespace led here is held by the SOLO record (R304, R308). -/
def Dev.releaseSolo (d : Dev) : Dev :=
  if d.mir.soloRecord && !d.mir.led.any (fun m => m.st == .solo || m.st == .resync || m.st == .joining) then
    d.witnessSend .release false else d

/-- A lead namespace whose dirty buckets are all reconciled becomes IN_SYNC (R308). -/
def Dev.resyncCheck (d : Dev) (n : BitVec 12) : Dev :=
  match d.mirror? n with
  | none => d
  | some m =>
    if m.lead && d.linked && (m.st == .joining || m.st == .resync) && (d.dirtyBuckets n).isEmpty && m.listing.isEmpty &&
        m.failedKeys.isEmpty then
      let d1 := ((d.modMirror n (fun x => { x with refusedNew := false })).setNsState n .inSync).freeApplied m
      (d1.raise Ev.resyncDone n.toNat m.resyncBuckets (m.resyncBytes / 2 ^ 30) ((d.clk.tick - m.resyncSince) / 1000000)).releaseSolo
    else d

/-! ## SOLO (R303, R304) -/

/-- The SOLO wait in µs. -/
def Dev.soloWait (d : Dev) : Nat := 1000 * max (d.pnum P.mirrorSoloWaitMs) (2 * d.pnum P.mirrorPeerLossMs)

/-- WAITING namespaces whose wait is over and that a grant covers are acknowledged alone; the partner's copies are STALE. -/
def Dev.soloGo (d : Dev) : Dev :=
  let ms := d.mir.led.filter (fun m => m.st == .waiting && m.soloGranted && m.waitSince.isNone)
  if ms.isEmpty then d
  else
    let d1 := ms.foldl (fun (d : Dev) (m : MirrorNs) =>
      ((d.modMirror m.ns (fun x => { x with refusedNew := false })).setNsState m.ns .solo).freeWaiters m) d
    d1.raise Ev.solo (d.mir.epoch % 2 ^ 32) ms.length 0 0

/-- WAITING namespaces whose wait is over and that no grant can cover any more: their writers fail, and new writes are refused. -/
def Dev.soloFail (d : Dev) : Dev :=
  (d.mir.led.filter (fun m => m.st == .waiting && !m.soloGranted && m.waitSince.isNone && !m.refusedNew)).foldl
    (fun (d : Dev) (m : MirrorNs) =>
      (d.failWaiters m.ns).modMirror m.ns (fun x => { x with refusedNew := true })) d

/-- What the witness has decided, or not, is acted on. -/
def Dev.soloOn (d : Dev) : Dev :=
  let d1 := d.soloGo
  if d1.mir.reqs.any (·.msg == .solo) then d1 else d1.soloFail

/-! ## The 64 bytes of MIRROR_CTL's reply (R291) -/

/-- Bytes of values not yet applied. -/
def Dev.lagBytes (d : Dev) (m : MirrorNs) : Nat :=
  if m.lead then (m.unapplied.map (·.valueLength)).sum
  else ((d.que.drift.filter (fun v => v.ns == m.ns && !v.onMedium)).map (fun v => (v.content.getD []).length)).sum

/-- The reply of `MIRROR_CTL`; the seconds are an estimate the spec gives no formula for (log entry 2). -/
def Dev.mirrorReply (d : Dev) (n : BitVec 12) : Bytes :=
  let m := d.mirror? n
  let lag := match m with
    | some x => x.newest - x.watermark
    | none => 0
  let bytes := match m with
    | some x => d.lagBytes x
    | none => 0
  let st := match m with
    | some x => x.st
    | none => .unmirrored
  natToBytesBE 1 d.mir.state.num ++ natToBytesBE 1 (roleNum m) ++ natToBytesBE 1 st.num ++
    natToBytesBE 1 (match m with
      | some x => x.sync.toNat
      | none => 0) ++ natToBytesBE 2 d.mir.partnerNode.toNat ++ zeroBytes 2 ++ natToBytesBE 8 d.mir.epoch ++
    natToBytesBE 16 d.mir.partnerSerial.toNat ++ natToBytesBE 8 lag ++ natToBytesBE 8 bytes ++
    natToBytesBE 4 (d.dirtyBuckets n).length ++
    natToBytesBE 4 (if (d.dirtyBuckets n).isEmpty then 0 else Config.estimateSeconds (d.dirtyBuckets n).length
      (d.pnum P.mirrorResyncShare)) ++
    natToBytesBE 8 (match d.mir.leaseUntil with
      | some t => (t - d.clk.tick) / 1000
      | none => 0)

/-- The followers' watermark covers every resolved writer of the namespaces (R306 step 2). -/
def Dev.handoverReady (d : Dev) (h : HandoverRun) : Bool :=
  h.nss.all (fun n => match d.mirror? n with
    | some m => m.lead && m.unapplied.isEmpty && m.st == .inSync
    | none => false) && !d.que.caps.any (fun c => c.unresolved && h.nss.contains c.hdr.ns)

/-- Steps 4 and 5: the role record is sent, and this drive follows. -/
def Dev.handoverDone (d : Dev) (epoch : Nat) : Dev :=
  match d.mir.handover with
  | none => d
  | some h =>
    let d1 := h.nss.foldl (fun (d : Dev) (n : BitVec 12) => d.modMirror n (fun m =>
      { m with lead := false, watermark := m.newest, listing := [], failedKeys := [], lagWarned := false })) d
    let d2 : Dev := { d1 with mir := { d1.mir with handover := none, epoch := epoch, epochSeen := max d.mir.epochSeen epoch } }
    let d3 := d2.cwSendRole (h.nss.map (fun n => ⟨n, .lead⟩)) epoch
    match d3.capBySeq h.seq with
    | none => d3
    | some c =>
      if c.hdr.opcode == Op.cartRelease then d3.forget c (blockBay c.value) (blockSerial c.value)
      else d3.okWith c (d3.mirrorReply c.hdr.ns)

/-- A handover goes on: once the follower covers everything, the witness decides, or the roles are exchanged at once. -/
def Dev.handoverOn (d : Dev) : Dev :=
  match d.mir.handover with
  | none => d
  | some h =>
    if h.witnessSince.isSome || !d.linked || !d.handoverReady h then d
    else if d.witnessed then
      ({ d with mir := { d.mir with handover := some { h with witnessSince := some d.clk.tick } } } : Dev).witnessSend .handover false
    else d.handoverDone (d.mir.epoch + 1)

/-! ## Frames on the peer link (R286) -/

/-- The receive point after the PSNs recorded. -/
def cwSettle (cum : Nat) (got : List Nat) : Nat → Nat × List Nat
  | 0 => (cum, got)
  | fuel + 1 => if got.contains cum then cwSettle (cum + 1) (got.filter (· != cum)) fuel else (cum, got)

/-- Records `n` consecutive PSNs. -/
def Dev.cwRecord (d : Dev) (psn n : Nat) : Dev :=
  let got := (List.range n).map (fun i => psn + i) ++ d.mir.rxGot
  let (cum, rest) := cwSettle d.mir.rxCum got (got.length + 1)
  { d with mir := { d.mir with rxCum := cum, rxGot := rest } }

/-- A PSN not received before and within the window of R36. -/
def Dev.cwNew (d : Dev) (psn : Nat) : Bool :=
  decide (d.mir.rxCum ≤ psn) && decide (psn < d.mir.rxCum + 4096) && !d.mir.rxGot.contains psn

/-- Sends an ACK (R37). -/
def Dev.cwSendAck (d : Dev) : Dev := d.cwSend .ack cwCtl [] (.cwAck d.mir.rxCum d.committedOut)

/-- The RTO of the peer link before the first sample (R38), in µs. -/
abbrev cwFirstRto : Nat := 1000

/-- One RTT sample (R38). -/
def Dev.cwSample (d : Dev) (r : Nat) : Dev :=
  match d.mir.srtt with
  | none => { d with mir := { d.mir with srtt := some r, rttvar := r / 2, rto := d.clampRto (r + 4 * (r / 2)) } }
  | some t =>
    let v := (3 * d.mir.rttvar + (if t ≤ r then r - t else t - r)) / 4
    let t1 := (7 * t + r) / 8
    { d with mir := { d.mir with srtt := some t1, rttvar := v, rto := d.clampRto (t1 + 4 * v) } }

/-- Takes the acknowledgement of a frame: what it covers, an RTT sample, and the frames that three later ones have overtaken are
sent again, each once in this way (R38; log entry 226). -/
def Dev.cwTakeAck (d : Dev) (h : CwHdr) : Dev :=
  let m := d.mir
  let one (t : CwSent) : CwSent := if acked h.cumAck h.sack t.psn then { t with sacked := true } else t
  let new := m.unacked.filter (fun t => acked h.cumAck h.sack t.psn && !t.sacked)
  let d1 : Dev := { d with mir := { m with
    unacked := (m.unacked.map one).filter (fun t => decide (h.cumAck ≤ t.psn)), peerCum := max m.peerCum h.cumAck,
    expiries := if m.peerCum < h.cumAck then 0 else m.expiries } }
  let d2 := match (new.filter (fun t => !t.resent)).getLast? with
    | some t => d1.cwSample (d.clk.tick - t.sentAt)
    | none => d1
  let late := d2.mir.unacked.filter (fun t => !t.sacked && !t.resent &&
    decide (3 ≤ (d2.mir.unacked.filter (fun u => u.sacked && decide (t.psn < u.psn))).length))
  let d3 : Dev := { d2 with mir := { d2.mir with unacked := d2.mir.unacked.map (fun t =>
    if late.any (fun u => u.psn == t.psn) then { t with resent := true } else t) } }
  d3.emitOuts (late.map (fun t => .cwResend t.psn t.frame))

/-- What every new frame brings (R286, R288, R297): a heartbeat; acknowledgement; epoch, credit and `committed`; with a HEARTBEAT or
an ACK, a read permit that counts from the moment the heartbeat of its hb_echo was sent. -/
def Dev.cwTake (d : Dev) (h : CwHdr) (permits : Bool) : Dev :=
  let m := d.mir
  let echoed := (m.hbSent.find? (fun x => x.1 == h.hbEcho)).map (·.2)
  let d1 : Dev := { d with mir := { m with
    lastRx := d.clk.tick, epochSeen := max m.epochSeen h.epoch, peerCredit := max m.peerCredit h.creditLimit,
    hbPeer := max m.hbPeer h.hbSeq, committed := if h.committed = 0 then 0 else max m.committed h.committed,
    permitSince := match permits, echoed with
      | true, some t => some (max t (m.permitSince.getD 0))
      | _, _ => m.permitSince } }
  d1.cwTakeAck h

/-- A PSN received before (R36). -/
def Dev.cwDup (d : Dev) (psn : Nat) : Bool := decide (psn < d.mir.rxCum + 4096) && !d.cwNew psn

/-- A control frame of the partner (R286): HEARTBEAT and ACK. One received before, and one beyond a gap, prompts an ACK at once (R36, R37); one
beyond the window is dropped. -/
def Dev.cwControl (d : Dev) (h : CwHdr) : Dev :=
  if !d.linked then d
  else if d.cwNew h.psn then
    let d1 := ((d.cwTake h true).cwRecord h.psn 1).cwPump
    if h.psn = d.mir.rxCum then d1 else d1.cwSendAck
  else if d.cwDup h.psn then d.cwSendAck
  else d

/-- Sends a HEARTBEAT (R288). -/
def Dev.cwBeat (d : Dev) : Dev :=
  let s := d.mir.hbSeq + 1
  let keep := d.mir.hbSent.filter (fun x => decide (d.clk.tick ≤ x.2 + 1000 * d.pnum P.mirrorPeerLossMs))
  let d1 : Dev := { d with mir := { d.mir with hbSeq := s, hbSent := (s, d.clk.tick) :: keep } }
  d1.cwSend .heartbeat cwCtl [] (.cwHeartbeat s d.mir.hbPeer d.committedOut)

/-- The partner's retransmission timer (R38): the oldest frame not acknowledged is sent again, and the RTO doubles. After
`transport.retx_limit` expiries without an advance of `cum_ack`, the partner is lost, as one that is not heard any more: DEDUCED, log entry 60. -/
def Dev.cwRto (d : Dev) : Dev :=
  match d.linked, d.mir.unacked.find? (fun t => !t.sacked) with
  | true, some t =>
    let m := d.mir
    if d.pnum P.transportRetxLimit ≤ m.expiries + 1 then d.peerLost 2
    else ({ d with mir := { m with
      expiries := m.expiries + 1, rto := d.clampRto (2 * m.rto),
      unacked := m.unacked.map (fun u => if u.psn == t.psn then { u with resent := true } else u) } } : Dev).emitOut (.cwResend t.psn t.frame)
  | _, _ => d

/-! ## The link comes up: HELLO (R287, R307) -/

/-- The peer link is up. -/
def Dev.peerUp (d : Dev) : Bool := (d.net.links.get 2).up

/-- A P-384 public key, uncompressed (R41). -/
def pointOf (priv : BitVec 384) : Bytes :=
  0x04 :: (natToBytesBE 48 (Config.p384Point priv).1.toNat ++ natToBytesBE 48 (Config.p384Point priv).2.toNat)

/-- The body of this drive's HELLO. -/
def Dev.ownHello (d : Dev) (x : BitVec 256 × BitVec 384) : Bytes :=
  helloBody Config.identityChain x.1 (pointOf x.2) (d.pnum P.indexNodeId)

/-- The SHA-256 of both HELLO bodies, that of the lower serial first (R287; log entry 218). -/
def helloHash (own peer : Bytes) (low : Bool) : BitVec 256 := Config.sha256 (if low then own ++ peer else peer ++ own)

/-- This drive's serial sorts lower than the partner's (R286). -/
def Dev.isLow (d : Dev) : Bool := decide (Config.driveSerial.toNat < d.mir.partnerSerial.toNat)

/-- Sends a HELLO on a link that is up, if the drive is paired (R287): its nonce and its ephemeral key are drawn anew. -/
def Dev.sendHello (d : Dev) : Dev :=
  if d.peerUp && d.mir.state != .unpaired then
    let (n, d1) := d.draw
    let (k, d2) := d1.draw
    let x := (n.setWidth 256, k.setWidth 384)
    let b := d2.ownHello x
    let sig := Config.identitySign d2.fresh (natToBytesBE 32 (helloHash b d2.mir.peerHello d2.isLow).toNat)
    let body := b ++ natToBytesBE 384 sig.toNat
    (({ d2 with mir := { d2.mir with hello := some x } } : Dev).cwBare .hello body).emitOut (.cwHello d.mir.epoch body)
  else d

/-- The keys of the link from this drive's HELLO and the partner's (R286). -/
def Dev.cwKeysOf (d : Dev) (h : CwHello) : Option CwKeys :=
  d.mir.hello.map (fun x =>
    let th := helloHash (d.ownHello x) (helloBody h.chain h.nonce h.point h.node.toNat) d.isLow
    let s := Config.ecdhX x.2 h.point
    if d.isLow then cwDerive s true x.1 h.nonce th else cwDerive s false h.nonce x.1 th)

/-- The first check of R287 that a HELLO fails. -/
def Dev.helloFails (d : Dev) (h : CwHello) : Option Nat :=
  if !h.chainOk then some 1
  else if h.serial != d.mir.partnerSerial then some 2
  else if h.pairId != d.mir.pairId then some 3
  else if !h.signatureOk then some 4
  else none

/-- This drive follows a namespace that the partner leads, from now on; its copy is reconciled (R307). Its own writers that no
follower has applied fail, and their buckets are reconciled. -/
def Dev.yieldLead (d : Dev) (n : BitVec 12) : Dev :=
  match d.mirror? n with
  | none => d
  | some m =>
    let d1 := if m.lead then d.failWaiters n else d
    let d2 := if m.lead then m.unapplied.foldl (fun (d : Dev) (r : RepRec) => d.markDirty n r.hash) d1 else d1
    (d2.modMirror n (fun x => { x with
      lead := false, unapplied := [], securePending := [], listing := [], failedKeys := [], waitSince := none, soloGranted := false,
      refusedNew := false, lower := true })).beginResync n .resync

/-- The partner keeps the lead of a namespace that both claim (R307): the higher epoch; among equal epochs the higher version
acknowledged, then the lower serial. -/
def Dev.partnerKeeps (d : Dev) (h : CwHello) (m : MirrorNs) (acked_ : Nat) : Bool :=
  if d.mir.epoch != h.epoch then decide (d.mir.epoch < h.epoch)
  else if m.acked != acked_ then decide (m.acked < acked_)
  else decide (h.serial.toNat < Config.driveSerial.toNat)

/-- The roles after a HELLO (R307). A namespace that both claim and that stays here is reconciled as a whole. -/
def Dev.helloRole (h : CwHello) (d : Dev) (x : BitVec 12 × Nat) : Dev :=
  match d.mirror? x.1 with
  | none => d
  | some m =>
    if m.lead then (if d.partnerKeeps h m x.2 then d.yieldLead x.1 else d.dirtyAll x.1)
    else if d.mir.epoch < h.epoch then d.yieldLead x.1
    else d

/-- A record that is still to be sent: its version lies in Drift, or its upload is open. -/
def Dev.recHeld (d : Dev) (r : RepRec) : Bool :=
  (d.ver? r.version).isSome || ((r.kind == 5 || r.kind == 6) && d.idx.uploads.any (·.id == r.uploadId))

/-- A namespace led here after the link has returned (R309): the records still held are sent, secure deletions first (R310); what was
lost is reconciled. -/
def Dev.returnNs (d : Dev) (m : MirrorNs) : Dev :=
  let keep := m.unapplied.filter (fun r => r.kind != 4 && d.recHeld r)
  let gone := m.unapplied.filter (fun r => r.kind != 4 && !d.recHeld r)
  let d1 := (gone.foldl (fun (d : Dev) (r : RepRec) => d.markDirty m.ns r.hash) d).modMirror m.ns (fun x => { x with
    unapplied := (m.securePending ++ keep).map (fun r => { r with sent := false }), failedKeys := [], waitSince := none,
    soloGranted := false, refusedNew := false, lower := false })
  let d2 := m.failedKeys.foldl (fun (d : Dev) (k : BitVec 128 × Nat) => d.markDirty m.ns k.1) d1
  let dirty := !(d2.dirtyBuckets m.ns).isEmpty
  let d3 := if m.sync then d2.freeApplied m else d2.freeWaiters m
  if m.st == .fenced then d3.modMirror m.ns (fun x => { x with prev := if dirty then .resync else .inSync })
  else if m.st == .joining || m.prev == .joining then (if m.st == .joining then d3 else d3.setNsState m.ns .joining)
  else if dirty then (if m.st == .resync then d3 else d3.beginResync m.ns .resync)
  else d3.setNsState m.ns .inSync

/-- A PROMOTE that waits for its CLAIM ends with a status (R305). -/
def Dev.endPromote (d : Dev) (st : BitVec 16) : Dev :=
  match d.mir.promote with
  | none => d
  | some p =>
    let d1 : Dev := { d with mir := { d.mir with promote := none } }
    match d1.capBySeq p.seq with
    | some c => d1.finishFree c (if st == Status.ok then Reply.okData (d1.mirrorReply c.hdr.ns) else Reply.plain st)
    | none => d1

/-- What the follower is told of the namespaces led here: that it follows, and in which mode (R290). -/
def MirrorNs.told (m : MirrorNs) : RoleEntry := ⟨m.ns, .follow m.sync m.lossy⟩

/-- HELLO complete: the pair is LINKED (R287, R288); the epochs decide the roles, and what was missed is sent or reconciled (R307,
R309). A namespace that this drive follows and the partner does not lead has been unjoined there. -/
def Dev.link (d : Dev) (h : CwHello) : Dev :=
  let m := d.mir
  let d1 : Dev := { d with mir := { m with
    state := .linked, lostSince := none, helloRetry := false, partnerNode := h.node,
    peerHello := helloBody h.chain h.nonce h.point h.node.toNat, keys := d.cwKeysOf h, hello := none, rxPos := 0, held := [], txNext := 0, rxCum := 0, rxGot := [],
    unacked := [], peerCum := 0, rto := cwFirstRto, srtt := none, rttvar := 0, expiries := 0, streamPos := 0, peerCredit := 0,
    hbSent := [], hbPeer := 0, lastRx := d.clk.tick, committed := 0, permitSince := none,
    epochSeen := max m.epochSeen h.epoch, reqs := m.reqs.filter (fun q => q.msg != .solo && q.msg != .claim) } }
  let d2 := h.leads.foldl (Dev.helloRole h) d1
  let d3 : Dev := { d2 with mir := { d2.mir with
    epoch := max m.epoch h.epoch, nss := d2.mir.nss.filter (fun x => x.lead || h.leads.any (fun y => y.1 == x.ns)) } }
  let d4 := ((d3.raise Ev.peerLinked (serialHead h.serial) (d3.mir.epoch % 2 ^ 32) h.node.toNat 0).endPromote Status.unavailable)
  let d5 := d4.mir.led.foldl Dev.returnNs (if d4.mir.led.isEmpty then d4 else d4.cwSendRole (d4.mir.led.map MirrorNs.told) d4.mir.epoch)
  (d5.mir.led.foldl (fun (d : Dev) (x : MirrorNs) => d.resyncCheck x.ns) d5).releaseSolo.cwPump

/-- A HELLO of the partner arrives (R287). One that arrives while LINKED comes after a reset of the partner: a peer loss first
(R311), and a HELLO of this drive with a new key. -/
def Dev.hello (d : Dev) (h : CwHello) : Dev :=
  if d.par.run != .running || !d.peerUp || d.mir.state == .unpaired then d
  else match d.helloFails h with
    | some n => { d with mir := { d.mir with helloRetry := true } }.raise Ev.peerAuthFail n 0 0 0 |>.cwBare .close [] |>.emitOut .cwClose
    | none =>
      let d1 := if d.linked then d.peerLost 2 else d
      (if d1.mir.hello.isNone then d1.sendHello else d1).link h

/-! ## Promotion (R305) -/

/-- The namespaces named are led here from now on. Kinds: 1 handover, 2 claim, 3 forced. A claimed namespace waits for SOLO; a forced
one is FENCED until the witness grants, or is acknowledged alone where there is none (log entry 61). -/
def Dev.takeLead (d : Dev) (ns : List (BitVec 12)) (kind : Nat) : Dev :=
  let ms := d.mir.nss.filter (fun m => !m.lead && ns.contains m.ns)
  let one (d : Dev) (m : MirrorNs) : Dev :=
    let d1 := d.modMirror m.ns (fun x => { x with
      lead := true, unapplied := [], securePending := [], listing := [], failedKeys := [], lower := false, soloGranted := false,
      refusedNew := false, watermark := x.newest })
    if kind = 1 then d1.setNsState m.ns .inSync
    else
      let since := match d.mir.lostSince with
        | some t => if t + d.soloWait ≤ d.clk.tick then none else some t
        | none => none
      if kind = 2 then d1.enterWaiting m.ns since
      else if d.witnessed then
        (d1.setNsState m.ns .fenced).modMirror m.ns (fun x => { x with prev := .waiting, waitSince := none })
      else d1.setNsState m.ns .solo
  (ms.foldl one d).raise Ev.promoted kind ms.length (d.mir.epoch % 2 ^ 32) 0

/-- The namespaces an automatic claim takes (R305). -/
def MirrorNs.autoTaken (m : MirrorNs) : Bool := !m.lead && ((m.st == .inSync && m.sync) || (!m.sync && m.lossy))

/-- A CLAIM has been granted (R305). -/
def Dev.claimGranted (d : Dev) : Dev :=
  if d.mir.state != .peerLost then d.endPromote Status.unavailable
  else
    let ns := match d.mir.promote with
      | some p => (d.mir.nss.filter (fun m => !m.lead && (p.nss.isNone || p.nss == some m.ns))).map (·.ns)
      | none => (d.mir.nss.filter MirrorNs.autoTaken).map (·.ns)
    ((d.takeLead ns 2).askSolo).endPromote Status.ok

end Sys2Proof.Machine
end

