-- ==== Sys2Proof/Machine/MirrorCtl.lean ====
section
/-! DEFINITION. `MIRROR_CTL` (R289 to R291, R305, R306) and the witness (R300 to R303). -/

namespace Sys2Proof.Machine

/-! ## The block (R289) -/

def Cap.mOp (c : Cap) : Nat := c.value.field 0 1
def Cap.mBit (c : Cap) (i : Nat) : Bool := (c.value.field 1 1).testBit i

/-- The checks every op makes: the length, the checked fields, namespace 0 for a pair-level op. -/
def mirrorBlock (c : Cap) : Option (BitVec 16) :=
  if c.value.length != (if c.mOp == 9 then 448 else 64) then some Status.badLength
  else if c.mOp == 0 || decide (9 < c.mOp) || decide (16 ≤ c.value.field 1 1) || !c.value.zeroAt 2 6 || !c.value.zeroAt 0x20 32 then
    some Status.badField
  else if (c.mOp == 1 || c.mOp == 2 || c.mOp == 9) && c.hdr.ns != 0 then some Status.badField
  else none

/-- `OK` with the reply of R291. -/
def Dev.mirrorOk (d : Dev) (c : Cap) : Dev := d.okWith c (d.mirrorReply c.hdr.ns)

/-- Runs an op whose block is in order. -/
def Dev.mirrorOp (d : Dev) (c : Cap) (f : Dev → Dev) : Dev := d.check c (mirrorBlock c) f

/-- A namespace op that the lead alone takes: `NOT_LEAD` on the follower, `BAD_FIELD` where the namespace is not mirrored. -/
def Dev.leadOp (d : Dev) (c : Cap) (f : MirrorNs → Dev) : Dev :=
  match d.mirror? c.hdr.ns with
  | none => d.fail c Status.badField
  | some m => if m.lead then f m else d.fail c Status.notLead

/-! ## PAIR, UNPAIR, WITNESS_KEY, STATUS -/

def pairGo (c : Cap) (d : Dev) : Dev :=
  d.mirrorOp c (fun (d : Dev) =>
    if d.mir.state != .unpaired || c.value.field 0x18 8 == 0 then d.fail c Status.badField
    else
      let d1 : Dev := { d with mir := { d.mir with
        state := .connecting, partnerSerial := BitVec.ofNat 128 (c.value.field 8 16), pairId := BitVec.ofNat 64 (c.value.field 0x18 8) } }
      d1.sendHello.mirrorOk c)

def unpairGo (c : Cap) (d : Dev) : Dev :=
  d.mirrorOp c (fun (d : Dev) =>
    if d.mir.state == .unpaired || !d.mir.nss.isEmpty then d.fail c Status.badField
    else
      let d1 : Dev := if d.linked then d.cwSend .close cwCtl [] .cwClose else d
      let d2 : Dev := { d1 with mir := { d1.mir with
        state := .unpaired, partnerSerial := 0, pairId := 0, partnerNode := 0, lostSince := none, helloRetry := false, unacked := [],
        permitSince := none, held := [], reqs := [], leaseUntil := none, soloRecord := false, fenced := false, reads := [] } }
      d2.mirrorOk c)

def witnessKeyGo (c : Cap) (d : Dev) : Dev :=
  d.mirrorOp c (fun (d : Dev) =>
    ({ d with mir := { d.mir with witnessKey := some (BitVec.ofNat 3072 (c.value.field 0x40 384)) } } : Dev).mirrorOk c)

def mirrorStatusGo (c : Cap) (d : Dev) : Dev := d.mirrorOp c (fun (d : Dev) => d.mirrorOk c)

/-! ## JOIN, UNJOIN, SET_MODE -/

/-- The newest version of a namespace held here. -/
def Dev.newestOf (d : Dev) (n : BitVec 12) : Nat :=
  ((d.que.drift.filter (·.ns == n)).map (·.seq) ++ (d.idx.log.filter (·.ns == n)).map (·.version) ++
    (d.idx.buckets.filter (·.ns == n)).flatMap (fun b => b.entries.map (·.version))).foldl max 0

/-- A namespace as JOIN mirrors it. -/
def joined (n : BitVec 12) (lead sync lossy : Bool) (newest now : Nat) : MirrorNs :=
  { ns := n, lead := lead, st := .unmirrored, prev := .unmirrored, sync := sync, lossy := lossy, watermark := 0, newest := newest,
    acked := 0, unapplied := [], securePending := [], listing := [], failedKeys := [], waitSince := none, soloGranted := false,
    refusedNew := false, lagWarned := false, resyncBuckets := 0, resyncBytes := 0, resyncSince := now, diverged := 0,
    divergedLow := 0, divergedHigh := 0, lower := false }

/-- Mirrors a namespace: JOINING. -/
def Dev.joinNs (d : Dev) (n : BitVec 12) (lead sync lossy : Bool) : Dev :=
  ({ d with mir := { d.mir with nss := d.mir.nss ++ [joined n lead sync lossy (d.newestOf n) d.clk.tick] } } : Dev).setNsState n .joining

/-- JOIN; `fits`: the partner has the namespace with the same ID and salt, and its copy holds no keys. -/
def joinGo (fits : Bool) (c : Cap) (d : Dev) : Dev :=
  d.mirrorOp c (fun (d : Dev) =>
    match d.mirror? c.hdr.ns, d.nsOf c.hdr.ns with
    | some m, _ => d.fail c (if m.lead then Status.badField else Status.notLead)
    | none, none => d.fail c Status.badField
    | none, some _ =>
      if !d.linked || !fits then d.fail c Status.badField
      else (((d.dirtyAll c.hdr.ns).joinNs c.hdr.ns true (c.mBit 0) (c.mBit 1)).cwSendRole [⟨c.hdr.ns, .follow (c.mBit 0) (c.mBit 1)⟩] d.mir.epoch
        ).mirrorOk c)

/-- A namespace is ordinary again, with its present content; its writers wait for nobody. -/
def Dev.unmirror (d : Dev) (m : MirrorNs) : Dev :=
  let d1 := (d.setNsState m.ns .unmirrored).cleanAll m.ns
  let d2 : Dev := { d1 with mir := { d1.mir with nss := d1.mir.nss.filter (·.ns != m.ns) } }
  d2.freeSome m.ns (fun _ => true)

def unjoinGo (c : Cap) (d : Dev) : Dev :=
  d.mirrorOp c (fun (d : Dev) => d.leadOp c (fun m =>
    if d.handoverHolds m.ns then d.fail c Status.badField
    else
      let d1 := if d.linked then d.cwSendRole [⟨m.ns, .ordinary⟩] d.mir.epoch else d
      (d1.unmirror m).releaseSolo.mirrorOk c))

def setModeGo (c : Cap) (d : Dev) : Dev :=
  d.mirrorOp c (fun (d : Dev) => d.leadOp c (fun m =>
    if m.st == .inSync || m.st == .resync then
      let d1 := if d.linked then d.cwSendRole [⟨m.ns, .follow (c.mBit 0) (c.mBit 1 && !c.mBit 0)⟩] d.mir.epoch else d
      (d1.modMirror m.ns (fun x => { x with sync := c.mBit 0, lossy := c.mBit 1 && !c.mBit 0 })).mirrorOk c
    else d.fail c Status.badField))

/-! ## HANDOVER (R306) -/

/-- The namespaces a HANDOVER names; nothing where its state does not allow it. The partner's lease is checked by the witness. -/
def Dev.handoverNs (d : Dev) (c : Cap) : Option (List (BitVec 12)) :=
  let ms := if c.mBit 2 then d.mir.led else d.mir.led.filter (·.ns == c.hdr.ns)
  if !d.linked || ms.isEmpty || d.mir.handover.isSome || ms.any (fun m => m.st != .inSync) then none else some (ms.map (·.ns))

def handoverGo (c : Cap) (d : Dev) : Dev :=
  d.mirrorOp c (fun (d : Dev) =>
    if !c.mBit 2 && d.follows c.hdr.ns then d.fail c Status.notLead
    else match d.handoverNs c with
      | none => d.fail c Status.badField
      | some ns => ({ d with mir := { d.mir with handover := some ⟨c.seq, ns, none⟩ } } : Dev).handoverOn)

/-- No answer of the witness within 1 s (R306 step 3). -/
def handoverTimeoutEff (d : Dev) : Dev :=
  match d.mir.handover with
  | none => d
  | some h => match h.witnessSince with
    | none => d
    | some t => (d.raise Ev.witnessUnreachable 5 ((d.clk.tick - t) / 1000) 0 0).handoverEnd Status.unavailable

/-! ## PROMOTE (R305) -/

/-- A PROMOTE is allowed: a follower in PEER_LOST, for every namespace or for one that it follows. -/
def Dev.mayPromote (d : Dev) (c : Cap) : Bool :=
  d.mir.state == .peerLost && (if c.mBit 2 then d.mir.followsAny else d.follows c.hdr.ns)

/-- PROMOTE sends CLAIM; the capsule waits for the answer. Without a witness there is nobody to ask (log entry 62). -/
def promoteGo (c : Cap) (d : Dev) : Dev :=
  d.mirrorOp c (fun (d : Dev) =>
    if !d.mayPromote c || d.mir.promote.isSome then d.fail c Status.badField
    else if !d.witnessed then d.fail c Status.unavailable
    else ({ d with mir := { d.mir with promote := some ⟨c.seq, if c.mBit 2 then none else some c.hdr.ns⟩ } } : Dev).witnessSend
      .claim false)

/-- PROMOTE with FORCE: the loss has lasted at least `mirror.lease_ms`. -/
def promoteForceGo (c : Cap) (d : Dev) : Dev :=
  d.mirrorOp c (fun (d : Dev) =>
    let long := match d.mir.lostSince with
      | some t => decide (t + 1000 * d.pnum P.mirrorLeaseMs ≤ d.clk.tick)
      | none => false
    if d.mir.state != .peerLost || !d.mir.followsAny || !long then d.fail c Status.badField
    else
      let e := max d.mir.epoch d.mir.epochSeen + 1
      let d1 : Dev := { d with mir := { d.mir with epoch := e, epochSeen := e } }
      let d2 := d1.takeLead ((d.mir.nss.filter (fun m => !m.lead)).map (·.ns)) 3
      (if d2.witnessed then ({ d2 with mir := { d2.mir with fenced := true } } : Dev).witnessSend .renew true else d2).mirrorOk c)

/-! ## The rows -/

/-- The ops of `MIRROR_CTL`. -/
abbrev mirrorOps : List Nat := [1, 2, 3, 4, 5, 6, 7, 8, 9]

def pairEff (seq : Nat) (d : Dev) : Dev := d.admin seq Op.mirrorCtl (opIs mirrorOps 1) pairGo
/-- PAIR (R290). -/
def execPair (seq : Nat) (s : State) : Host.Outcome State Fault Refusal := s.run (pairEff seq)

def unpairEff (seq : Nat) (d : Dev) : Dev := d.admin seq Op.mirrorCtl (opIs mirrorOps 2) unpairGo
/-- UNPAIR (R290). -/
def execUnpair (seq : Nat) (s : State) : Host.Outcome State Fault Refusal := s.run (unpairEff seq)

def joinEff (seq : Nat) (fits : Bool) (d : Dev) : Dev := d.admin seq Op.mirrorCtl (opIs mirrorOps 3) (joinGo fits)
/-- JOIN (R290). -/
def execJoin (seq : Nat) (fits : Bool) (s : State) : Host.Outcome State Fault Refusal := s.run (joinEff seq fits)

def unjoinEff (seq : Nat) (d : Dev) : Dev := d.admin seq Op.mirrorCtl (opIs mirrorOps 4) unjoinGo
/-- UNJOIN (R290). -/
def execUnjoin (seq : Nat) (s : State) : Host.Outcome State Fault Refusal := s.run (unjoinEff seq)

def setModeEff (seq : Nat) (d : Dev) : Dev := d.admin seq Op.mirrorCtl (opIs mirrorOps 5) setModeGo
/-- SET_MODE (R290). -/
def execSetMode (seq : Nat) (s : State) : Host.Outcome State Fault Refusal := s.run (setModeEff seq)

def handoverEff (seq : Nat) (d : Dev) : Dev := d.admin seq Op.mirrorCtl (opIs mirrorOps 6) handoverGo
/-- HANDOVER (R306). -/
def execHandover (seq : Nat) (s : State) : Host.Outcome State Fault Refusal := s.run (handoverEff seq)

/-- HANDOVER_WITNESS_TIMEOUT (R306). -/
def execHandoverWitnessTimeout (s : State) : Host.Outcome State Fault Refusal := s.run handoverTimeoutEff

def promoteEff (seq : Nat) (d : Dev) : Dev := d.admin seq Op.mirrorCtl (fun c => opIs mirrorOps 7 c && !c.mBit 3) promoteGo
/-- PROMOTE (R305). -/
def execPromote (seq : Nat) (s : State) : Host.Outcome State Fault Refusal := s.run (promoteEff seq)

def promoteForceEff (seq : Nat) (d : Dev) : Dev := d.admin seq Op.mirrorCtl (fun c => opIs mirrorOps 7 c && c.mBit 3) promoteForceGo
/-- PROMOTE_FORCE (R305). -/
def execPromoteForce (seq : Nat) (s : State) : Host.Outcome State Fault Refusal := s.run (promoteForceEff seq)

def mirrorStatusEff (seq : Nat) (d : Dev) : Dev := d.admin seq Op.mirrorCtl (opIs mirrorOps 8) mirrorStatusGo
/-- MIRROR_STATUS (R291). -/
def execMirrorStatus (seq : Nat) (s : State) : Host.Outcome State Fault Refusal := s.run (mirrorStatusEff seq)

def witnessKeyEff (seq : Nat) (d : Dev) : Dev := d.admin seq Op.mirrorCtl (opIs mirrorOps 9) witnessKeyGo
/-- WITNESS_KEY (R290). -/
def execWitnessKey (seq : Nat) (s : State) : Host.Outcome State Fault Refusal := s.run (witnessKeyEff seq)

/-! ## The witness (R300 to R305) -/

/-- The parameters of the witness client that a RENEW puts in force (R312; log entry 63). -/
def renewParam (p : Nat) : Bool := p == P.mirrorLeaseMs || p == P.mirrorWitnessAddr || p == P.mirrorWitnessPort

/-- Sends RENEW; a forced one that waits for its grant stays forced (R302, R305). -/
def Dev.renew (d : Dev) : Dev :=
  let d1 := d.applyCommitted renewParam
  if d1.witnessed then d1.witnessSend .renew (d.mir.reqs.any (fun q => q.msg == .renew && q.forced)) else d1

/-- `mirror.lease_ms` / 4 has passed (R302). -/
def leaseRenewEff (d : Dev) : Dev :=
  if d.par.run == .running && d.mir.state != .unpaired && (d.witnessed || (d.par.committed.any (fun x => x.1 == P.mirrorWitnessAddr))) then
    d.renew else d

/-- 0.9 × lease_ms has passed since the last RENEW that was granted (R302). -/
def leaseExpiryEff (d : Dev) : Dev := if d.mir.state != .unpaired && d.mir.leaseUntil.isSome then d.fence else d

/-- The SOLO wait ends (R303, R304). -/
def soloWaitEff (d : Dev) : Dev :=
  let one (m : MirrorNs) : MirrorNs := if m.lead && m.st == .waiting then { m with waitSince := none } else m
  ({ d with mir := { d.mir with nss := d.mir.nss.map one } } : Dev).soloOn

/-- A follower in PEER_LOST claims again (R305). -/
def claimTimerEff (d : Dev) : Dev := d.autoClaim

/-- Requests not yet answered are sent again, unchanged (R300); after 1 s without an answer that is reported, once a second
(log entry 64). -/
def witnessRetransmitEff (d : Dev) : Dev :=
  let again (q : WitReq) : WitReq := { q with tries := q.tries + 1 }
  let d1 : Dev := { d with mir := { d.mir with reqs := d.mir.reqs.map again } }
  d.mir.reqs.foldl (fun (d : Dev) (q : WitReq) =>
    let d2 := d.emitWitness q
    if (q.tries + 1) % 10 = 0 then d2.raise Ev.witnessUnreachable q.msg.num ((d.clk.tick - q.sentAt) / 1000) 0 0 else d2) d1

/-- The request that a reply answers: the nonce matches and the signature is valid under the stored key (R300). -/
def Dev.answered (d : Dev) (r : WitReply) : Option WitReq :=
  if r.signatureOk && d.mir.witnessKey.isSome then d.mir.reqs.find? (fun q => q.nonce == r.nonce) else none

/-- PEER_SOLO in a reply: the copies that this drive follows are STALE (R300, R303). -/
def Dev.notePeerSolo (d : Dev) (r : WitReply) : Dev :=
  if r.peerSolo && !d.linked then
    (d.mir.nss.filter (fun m => !m.lead)).foldl (fun (d : Dev) (m : MirrorNs) => d.setNsState m.ns .stale) d
  else d

/-- A lease runs for 0.9 × its length from the moment of the request (R302). -/
def Dev.takeLease (d : Dev) (q : WitReq) (r : WitReply) : Dev :=
  { d with mir := { d.mir with leaseUntil := some (q.sentAt + 900 * r.leaseMs), lastGrant := d.clk.tick } }

/-- FENCED namespaces return to the state before (R302); one whose partner is lost asks for SOLO (R303). -/
def Dev.unfence (d : Dev) : Dev :=
  let fs := d.mir.led.filter (·.st == .fenced)
  let d1 : Dev := { d with mir := { d.mir with fenced := false } }
  let d2 := fs.foldl (fun (d : Dev) (m : MirrorNs) =>
    let d3 := d.setNsState m.ns m.prev
    if m.prev == .solo then d3.freeWaiters m else d3) d1
  if fs.any (·.prev == .waiting) then d2.askSolo else d2

/-- A GRANT: its epoch is adopted (R302), and the drive acts on it. -/
def witnessGrantEff (r : WitReply) (d : Dev) : Dev :=
  match d.answered r with
  | none => d
  | some q =>
    let d1 : Dev := { d with mir := { d.mir with
      reqs := d.mir.reqs.filter (fun x => x.nonce != q.nonce), epoch := r.epoch, epochSeen := max d.mir.epochSeen r.epoch } }
    let d2 := d1.notePeerSolo r
    match q.msg with
    | .renew => (d2.takeLease q r).unfence
    | .solo =>
      let one (m : MirrorNs) : MirrorNs := if m.lead && m.st == .waiting then { m with soloGranted := true } else m
      ({ d2 with mir := { d2.mir with soloRecord := true, nss := d2.mir.nss.map one } } : Dev).soloOn
    | .claim => (d2.takeLease q r).claimGranted
    | .release => { d2 with mir := { d2.mir with soloRecord := false } }
    | .handover => (d2.takeLease q r).handoverDone r.epoch

/-- A REFUSE: `EV_WITNESS_REFUSED`, and the drive acts on it. -/
def witnessRefuseEff (r : WitReply) (d : Dev) : Dev :=
  match d.answered r with
  | none => d
  | some q =>
    let d1 : Dev := { d with mir := { d.mir with reqs := d.mir.reqs.filter (fun x => x.nonce != q.nonce) } }
    let d2 := (d1.raise Ev.witnessRefused q.msg.num r.reason (r.epoch % 2 ^ 32) 0).notePeerSolo r
    match q.msg with
    | .solo => d2.soloOn
    | .claim => d2.endPromote Status.unavailable
    | .handover => d2.handoverEnd Status.unavailable
    | .renew | .release => d2

/-- LEASE_RENEW_TIMER (R302). -/
def execLeaseRenewTimer (s : State) : Host.Outcome State Fault Refusal := s.run leaseRenewEff
/-- LEASE_EXPIRY (R302). -/
def execLeaseExpiry (s : State) : Host.Outcome State Fault Refusal := s.run leaseExpiryEff
/-- SOLO_WAIT_EXPIRY (R303). -/
def execSoloWaitExpiry (s : State) : Host.Outcome State Fault Refusal := s.run soloWaitEff
/-- CLAIM_TIMER (R305). -/
def execClaimTimer (s : State) : Host.Outcome State Fault Refusal := s.run claimTimerEff
/-- WITNESS_RETRANSMIT (R300). -/
def execWitnessRetransmit (s : State) : Host.Outcome State Fault Refusal := s.run witnessRetransmitEff
/-- WITNESS_GRANT (R301). -/
def execWitnessGrant (r : WitReply) (s : State) : Host.Outcome State Fault Refusal := s.run (witnessGrantEff r)
/-- WITNESS_REFUSE (R301). -/
def execWitnessRefuse (r : WitReply) (s : State) : Host.Outcome State Fault Refusal := s.run (witnessRefuseEff r)

end Sys2Proof.Machine
end

