-- ==== Sys2Proof/Machine/Crosswind.lean ====
section
/-! DEFINITION. Crosswind: the control frames (R286 to R288), the replication records (R293 to R295), reconciliation (R308),
partner reads (R297, R298), the role record (R306). -/

namespace Sys2Proof.Machine

/-! ## The control frames -/

/-- HELLO (R287). -/
def execHello (h : CwHello) (s : State) : Host.Outcome State Fault Refusal := s.run (fun (d : Dev) => d.hello h)

/-- 10 s after a failed HELLO it is sent again (R287). -/
def helloRetryEff (d : Dev) : Dev :=
  if d.mir.helloRetry then { d with mir := { d.mir with helloRetry := false } }.sendHello else d

/-- HELLO_RETRY_TIMER (R287). -/
def execHelloRetryTimer (s : State) : Host.Outcome State Fault Refusal := s.run helloRetryEff

/-- The partner closes the link after a HELLO it refused (R287): no packet follows until a HELLO is complete, so the loss is declared;
the HELLO is sent again after 10 s. -/
def cwCloseEff (d : Dev) : Dev :=
  if d.mir.state == .unpaired || !d.peerUp then d
  else
    let d1 : Dev := { d with mir := { d.mir with helloRetry := true } }
    if d1.linked then d1.peerLost 2 else d1

/-- CW_CLOSE (R287). -/
def execCwClose (s : State) : Host.Outcome State Fault Refusal := s.run cwCloseEff

/-- `mirror.heartbeat_us` has passed (R288). -/
def heartbeatTimerEff (d : Dev) : Dev := if d.linked then d.cwBeat else d

/-- HEARTBEAT_TIMER (R288). -/
def execHeartbeatTimer (s : State) : Host.Outcome State Fault Refusal := s.run heartbeatTimerEff

/-- No packet for `mirror.peer_loss_ms` (R299). -/
def peerLossEff (d : Dev) : Dev := if d.linked then d.peerLost 2 else d

/-- PEER_LOSS_TIMEOUT (R299). -/
def execPeerLossTimeout (s : State) : Host.Outcome State Fault Refusal := s.run peerLossEff

/-! ## Records on the follower (R294) -/

/-- The version of a key's state (R294). -/
def Dev.keyVersion (d : Dev) (n : BitVec 12) (h : BitVec 128) : Nat :=
  match d.driftBelow n h (2 ^ 64) with
  | some v => v.seq
  | none => match d.logRec n h with
    | some r => r.version
    | none => match d.lookFull n h with
      | .present v _ _ _ _ => v
      | .lost v _ => v
      | _ => 0

/-- The state of a key that a record is applied to; nothing where another key has its hash (R90). -/
def Dev.recState (d : Dev) (n : BitVec 12) (h : BitVec 128) (key : Bytes) : Option KState :=
  match d.driftBelow n h (2 ^ 64) with
  | some v => if v.key == key then some v.state else none
  | none => match (d.lookFull n h).base key with
    | .state k => some k
    | .collision => none
    | _ => some .absent

/-- The status a record fails to apply with whatever it carries (R294): the mode, a home that is absent or quiesced. -/
def Dev.applyStatus (d : Dev) (n : BitVec 12) (h : BitVec 128) : Option (BitVec 16) :=
  match modeRefusal d.par.mode (d.par.mode == 5) Op.put 0 with
  | some st => some st
  | none => match d.bucketOf n h with
    | none => some Status.notFound
    | some b => if d.homeAbsent b || d.bucketAway b (2 ^ 64) then some Status.unavailable else none

/-- The follower's counter stays above every version it applies (R119, R294). -/
def Dev.raiseCounter (d : Dev) (v : Nat) : Dev :=
  { d with que := { d.que with nextSeq := max d.que.nextSeq (v + 1), reservedEnd := max d.que.reservedEnd (v + 1) } }

/-- Enters an applied record in Drift, as a writer with the lead's version (R294, R126); nothing where it waits for SLC space. -/
def Dev.applyWrite (d : Dev) (s : Namespace) (r : CwRec) (h : BitVec 128) (k : KState) (opcode : BitVec 16) (p : Plan)
    (secure : Bool) (upload : Option Nat) : Option Dev :=
  let bay := d.homeOf s.id h
  let group := r.version % 8
  let gen := d.genAfter s.id h r.key r.version
  let len := (p.content.getD []).length
  let x := if p.content.isNone || upload.isSome then 0 else chunkBytes len
  let y := k.charge
  let newKey := p.content.isSome && (k == .absent || k == .lostHome)
  match d.binds s h r.key.length x y newKey with
  | .none =>
    match d.placeValue bay .hot group p.segs s h r.key r.version gen (p.content.getD []) p.bad (.value r.version) with
    | none => none
    | some (loc, d1) =>
      let kind := if p.content.isNone then JKind.deletion else .value
      match d1.journal bay group (mkRec kind s.id h r.key r.version loc gen len bay (some r.version)) with
      | none => none
      | some (j, d2) =>
        let v : Version := {
          ns := s.id, hash := h, key := r.key, seq := r.version, content := p.content, checks := p.checks, bad := p.bad, opcode := opcode, sid := 0,
          start := 0, tag := 0, tenant := 0, early := false, done := false, onMedium := false, units := p.units, charge := x,
          refund := y, provisional := false, newKey := newKey, counted := k != .absent && k != .lostHome,
          uncond := opcode != Op.patch, secure := secure,
          onLost := match k with
            | .lost l => some l
            | _ => none,
          upload := upload, loc := loc, gen := gen, bay := bay, jseq := j, mirrorWait := false }
        some ((d2.takeCharge s.id x y newKey).addVer v)
  | b => some ((d.bindEvents s b).applyFail s.id h r.version Status.noSpace)

/-- The number of a record's version is in use by a capsule or a version of another namespace here: the record waits (log
entry 67). -/
def Dev.numberTaken (d : Dev) (v : Nat) : Bool := d.que.caps.any (·.seq == v) || d.que.drift.any (·.seq == v)

/-- A bucket that a lead has lost with its cartridge, and pulls from the partner's copy (R309). -/
def Dev.pulls (d : Dev) (n : BitVec 12) (h : BitVec 128) : Bool :=
  match d.bucketOf n h with
  | some b => b.dirty && !b.lostHome.isEmpty
  | none => false

/-- A record arrives for a key (R294): it is applied only if its version exceeds that of the key's state, and otherwise acknowledged
and discarded. A lead takes only what it pulls. -/
def Dev.onRecord (r : CwRec) (pull : Bool) (f : Namespace → BitVec 128 → KState → Dev → Option Dev) (d : Dev) : Option Dev :=
  match d.mirror? r.ns, d.nsOf r.ns with
  | some m, some s =>
    let h := keyHash s.salt r.key
    if m.lead && !(pull && d.pulls r.ns h) then some d
    else
      let d1 := (d.raiseCounter r.version).modMirror r.ns (fun x => { x with newest := max x.newest r.version })
      if d.que.drift.any (fun v => v.ns == r.ns && v.seq == r.version) then some d1
      else if r.version ≤ d.keyVersion r.ns h then some (d1.reportApplied r.ns r.version)
      else if d.numberTaken r.version then none
      else match d1.applyStatus r.ns h, d1.recState r.ns h r.key with
        | some st, _ => some (d1.applyFail r.ns h r.version st)
        | none, none => some ((d1.collisionEvent r.ns h).applyFail r.ns h r.version Status.integrityFault)
        | none, some k => f s h k d1
  | _, _ => some d

/-- A follower's copy with nothing outstanding becomes IN_SYNC at a moment that the lead does not tell it (log entry 68); what the
reconciliation of R307 has replaced or deleted is reported (R313). -/
def Dev.followSync (d : Dev) (n : BitVec 12) : Dev :=
  match d.mirror? n with
  | none => d
  | some m =>
    if m.lead || !m.listing.isEmpty || !(m.st == .joining || m.st == .resync) then d
    else
      let (v, d1) := d.draw
      if v.getLsbD 0 then
        let d2 := ((d1.modMirror n (fun x => { x with lower := false, diverged := 0 })).cleanAll n).setNsState n .inSync
        if m.diverged = 0 then d2
        else d2.raise Ev.mirrorDiverged n.toNat m.diverged (m.divergedLow % 2 ^ 32) (m.divergedHigh % 2 ^ 32)
      else d1

/-- The follower's buckets in a range that lack nothing of it are reconciled (R291, R308). -/
def Dev.listClean (d : Dev) (n : BitVec 12) (lo hi : Nat) : Dev :=
  let lacks (b : Bucket) : Bool := (d.mirror? n).any (fun m => m.listing.any (fun h => b.covers n (BitVec.ofNat 128 h)))
  let clean (b : Bucket) : Bucket :=
    if b.ns == n && decide (lo ≤ b.lo) && decide (b.hi ≤ hi) && !lacks b then { b with dirty := false } else b
  { d with idx := { d.idx with buckets := d.idx.buckets.map clean } }

/-- A key that was asked for with WANT has been sent (R308): its bucket, if it lacks nothing more, is reconciled. -/
def Dev.gotWanted (d : Dev) (n : BitVec 12) (h : BitVec 128) : Dev :=
  match d.mirror? n with
  | none => d
  | some m =>
    if !m.lead && m.listing.contains h.toNat then
      let d1 := d.modMirror n (fun x => { x with listing := x.listing.filter (· != h.toNat) })
      (match d1.bucketOf n h with
        | some b => d1.listClean n b.lo b.hi
        | none => d1).followSync n
    else d

def valueRun (r : CwRec) (d : Dev) : Option Dev := (d.onRecord r true (fun s k st d =>
    d.applyWrite s r k st Op.put ⟨some r.data, chunkChecks r.data, [], segsOf (chunkCount r.data.length), 0⟩ false none)).map
      (fun (d : Dev) => d.gotWanted r.ns (d.hashOf r.ns r.key))

/-- A PATCH is applied on the follower's own copy (R293). -/
def Dev.patchApply (r : CwRec) (s : Namespace) (h : BitVec 128) (k : KState) (d : Dev) : Option Dev :=
  match k with
  | .present _ _ _ =>
    match d.patchPlan s.id h r.key r.version r.offset r.data with
    | .inr st => some (d.applyFail s.id h r.version st)
    | .inl p => d.applyWrite s r h k Op.patch p false none
  | _ => some (d.applyFail s.id h r.version (if k = .absent then Status.notFound else Status.mediaError))

def patchRun (r : CwRec) (d : Dev) : Option Dev := d.onRecord r false (fun s k st d => Dev.patchApply r s k st d)

/-- A deletion is applied; of an absent key nothing is left to do. -/
def Dev.deleteApply (r : CwRec) (s : Namespace) (h : BitVec 128) (k : KState) (d : Dev) : Option Dev :=
  if k == .absent then some (d.reportApplied s.id r.version) else d.applyWrite s r h k Op.delete ⟨none, [], [], [], 0⟩ false none

def deleteRun (r : CwRec) (d : Dev) : Option Dev := d.onRecord r false (fun s k st d => Dev.deleteApply r s k st d)

/-- A SECURE_DELETE is executed under R225, and reported done when the last found band has been erased (R310). -/
def Dev.secureApply (r : CwRec) (s : Namespace) (h : BitVec 128) (k : KState) (d : Dev) : Option Dev :=
  if k == .absent then some (d.secureStart r.version s.id h Status.ok) else d.applyWrite s r h k Op.delete ⟨none, [], [], [], 0⟩ true none

def secureDeleteRun (r : CwRec) (d : Dev) : Option Dev := d.onRecord r false (fun s k st d => Dev.secureApply r s k st d)

/-- A record of an upload arrives on the follower (R293). -/
def Dev.onUpload (r : CwRec) (f : Namespace → BitVec 128 → Dev → Option Dev) (d : Dev) : Option Dev :=
  match d.mirror? r.ns, d.nsOf r.ns with
  | some m, some s =>
    if m.lead then some d
    else
      let h := keyHash s.salt r.key
      let d1 := (d.raiseCounter r.version).modMirror r.ns (fun x => { x with newest := max x.newest r.version })
      match d1.applyStatus r.ns h with
      | some st => some (d1.applyFail r.ns h r.version st)
      | none => f s h d1
  | _, _ => some d

/-- The upload of a record. -/
def Dev.recUpload (d : Dev) (r : CwRec) : Option Upload := d.idx.uploads.find? (fun u => u.id == r.uploadId && u.ns == r.ns)

/-- Opens the upload on the follower; the record does not name its tenant (log entry 69). -/
def Dev.mpBeginApply (r : CwRec) (s : Namespace) (h : BitVec 128) (d : Dev) : Option Dev :=
  if (d.recUpload r).isSome then some (d.reportApplied r.ns r.version)
  else match d.binds s h r.key.length (uploadReserve r.valueLength) 0 false with
    | .none =>
      let u : Upload := {
        id := r.uploadId, ns := r.ns, key := r.key, hash := h, tenant := 0, declared := r.valueLength, marginUsed := 0, parts := [],
        lastUse := d.clk.tick }
      some (({ d with idx := { d.idx with uploads := d.idx.uploads ++ [u] } }.takeCharge r.ns (uploadReserve r.valueLength) 0 false
        ).reportApplied r.ns r.version)
    | b => some ((d.bindEvents s b).applyFail r.ns h r.version Status.noSpace)

def mpBeginRun (r : CwRec) (d : Dev) : Option Dev := d.onUpload r (fun s k d => Dev.mpBeginApply r s k d)

/-- Stores a part on the follower; it is reported applied when its programs have passed. -/
def Dev.mpPartApply (r : CwRec) (h : BitVec 128) (d : Dev) : Option Dev :=
  match d.recUpload r with
  | none => some (d.applyFail r.ns h r.version Status.notFound)
  | some u =>
    if u.parts.any (·.seq == r.version) then some d
    else if d.numberTaken r.version then none
    else match d.placePart u r.version r.offset r.data (chunkChecks r.data) with
      | .inl d1 => some d1
      | .inr _ => none

def mpPartRun (r : CwRec) (d : Dev) : Option Dev := d.onUpload r (fun _ k d => Dev.mpPartApply r k d)

/-- Commits the upload on the follower from its own parts. -/
def Dev.mpCommitApply (r : CwRec) (s : Namespace) (h : BitVec 128) (k : KState) (d : Dev) : Option Dev :=
  match d.recUpload r with
  | none => some (d.applyFail s.id h r.version Status.notFound)
  | some u => match winners u.parts (List.range (chunkCount r.valueLength)) with
    | none => some (d.applyFail s.id h r.version Status.notFound)
    | some ws =>
      if d.partsAbsent u then some (d.applyFail s.id h r.version Status.unavailable)
      else
        let b := commitBytes r.valueLength ws
        d.applyWrite s r h k Op.mpCommit ⟨some b, commitChecks b ws, [], d.commitSegs (partRuns ws), 0⟩ false (some u.id)

def mpCommitRun (r : CwRec) (d : Dev) : Option Dev := d.onRecord r false (fun s k st d => Dev.mpCommitApply r s k st d)

/-- Closes the upload on the follower. -/
def Dev.mpCancelApply (r : CwRec) (d : Dev) : Option Dev :=
  some ((match d.recUpload r with
    | some u => d.closeUpload u
    | none => d).reportApplied r.ns r.version)

def mpCancelRun (r : CwRec) (d : Dev) : Option Dev := d.onUpload r (fun _ _ d => Dev.mpCancelApply r d)

/-- A key of a mirrored namespace is lost on the lead: it is put in the lost state here (R137, R308). -/
def Dev.lostApply (r : CwRec) (s : Namespace) (h : BitVec 128) (k : KState) (d : Dev) : Option Dev :=
  if (d.driftBelow s.id h (2 ^ 64)).isSome then none
  else
    let new := k == .absent || k == .lostHome
    let d1 := match d.lookFull s.id h with
      | .present _ loc gen _ _ => d.killCopy loc gen
      | _ => d
    let d2 := d1.modNs s.id (fun x => { x with
      charged := x.charged - k.charge, keys := x.keys + new.toNat, held := x.held + new.toNat })
    some ((d2.commitNew (mkRec .lost s.id h r.key r.version 0 0 0 (d2.homeOf s.id h) none)).reportApplied s.id r.version)

def lostRun (r : CwRec) (d : Dev) : Option Dev := (d.onRecord r true (fun s k st d => Dev.lostApply r s k st d)).map
    (fun (d : Dev) => d.gotWanted r.ns (d.hashOf r.ns r.key))

/-! ## Reconciliation (R308) -/

/-- A key hash lies in a range of high-64 values. -/
def hashIn (lo hi : Nat) (h : BitVec 128) : Bool := decide (lo ≤ high64 h) && decide (high64 h ≤ hi)

/-- The keys present in a range with their newest versions, as a capture under R160 gives them. -/
def Dev.keysIn (d : Dev) (n : BitVec 12) (lo hi : Nat) : List (BitVec 128 × Nat) :=
  let stored := ((d.idx.buckets.filter (fun b => b.ns == n && decide (b.lo ≤ hi) && decide (lo ≤ b.hi))).flatMap d.liveEntries).map
    (fun e => (e.hash, e.version))
  let buffered := ((d.que.drift.filter (fun v => v.ns == n)).map (·.hash)).dedup
  let new := buffered.filterMap (fun h => match d.driftBelow n h (2 ^ 64) with
    | some v => if v.content.isSome then some (h, v.seq) else none
    | none => none)
  ((stored.filter (fun x => !buffered.contains x.1)) ++ new).filter (fun x => hashIn lo hi x.1)

/-- Deletes an entry that the lead's list does not hold (R308 step 3). -/
def Dev.unlist (d : Dev) (n : BitVec 12) (h : BitVec 128) (version : Nat) : Dev :=
  match d.lookFull n h with
  | .present _ loc gen len key =>
    let d1 := (d.killCopy loc gen).modNs n (fun x => { x with charged := x.charged - chunkBytes len, keys := x.keys - 1, held := x.held - 1 })
    d1.commitNew (mkRec .deletion n h key version 0 0 0 (d1.homeOf n h) none)
  | .lost _ key =>
    let d1 := d.modNs n (fun x => { x with keys := x.keys - 1, held := x.held - 1 })
    d1.commitNew (mkRec .deletion n h key version 0 0 0 (d1.homeOf n h) none)
  | _ => d

/-- Counts a record that a reconciliation under R307 replaces or deletes here. -/
def MirrorNs.diverge (m : MirrorNs) (version : Nat) : MirrorNs :=
  if m.lower && version != 0 then
    { m with diverged := m.diverged + 1, divergedLow := if m.diverged = 0 then version else min m.divergedLow version,
             divergedHigh := max m.divergedHigh version }
  else m

/-- Answers a LIST with WANT. -/
def Dev.sendWant (d : Dev) (n : BitVec 12) (hs : List (BitVec 128)) : Dev :=
  d.cwSend .data n.toNat (cwRecBytes 11 n 0 0 0 0 [] (hs.flatMap (fun h => natToBytesBE 16 h.toNat))) (.cwWant n hs)

/-- The lead's list of a range on the follower (R308 step 3); a version of the range up to the snapshot point that still lies in Drift
reaches the medium first. -/
def Dev.followList (d : Dev) (m : MirrorNs) (snapshot lo hi : Nat) (es : List (BitVec 128 × Nat)) : Option Dev :=
  let own := d.keysIn m.ns lo hi
  if d.que.drift.any (fun v => v.ns == m.ns && decide (v.seq ≤ snapshot) && hashIn lo hi v.hash) then none
  else
    let gone := own.filter (fun x => decide (x.2 ≤ snapshot) && !es.any (fun e => e.1 == x.1))
    let want := es.filter (fun e => decide (d.keyVersion m.ns e.1 ≤ snapshot) && d.keyVersion m.ns e.1 != e.2)
    let d1 := if m.st == .joining || m.st == .resync then d else d.beginResync m.ns .resync
    let d2 := gone.foldl (fun (d : Dev) (x : BitVec 128 × Nat) => (d.unlist m.ns x.1 x.2).modMirror m.ns (·.diverge x.2)) d1
    let d3 := want.foldl (fun (d : Dev) (e : BitVec 128 × Nat) =>
      let v := if own.any (fun x => x.1 == e.1) then d.keyVersion m.ns e.1 else 0
      d.modMirror m.ns (·.diverge v)) d2
    let d4 := d3.modMirror m.ns (fun x => { x with
      listing := x.listing ++ want.map (fun e => e.1.toNat), failedKeys := x.failedKeys.filter (fun k => !hashIn lo hi k.1) })
    some (((d4.sendWant m.ns (want.map (·.1))).listClean m.ns lo hi).followSync m.ns)

/-- The partner's list of a range that a lead has lost (R309): what is absent here is asked for; a bucket that lacks nothing is
reconciled. -/
def Dev.pullList (d : Dev) (n : BitVec 12) (lo hi : Nat) (es : List (BitVec 128 × Nat)) : Dev :=
  let want := es.filter (fun e => d.pulls n e.1 && d.keyVersion n e.1 == 0)
  let clean (b : Bucket) : Bucket :=
    if b.ns == n && !b.lostHome.isEmpty && decide (lo ≤ b.lo) && decide (b.hi ≤ hi) && !want.any (fun e => b.covers n e.1) then
      { b with dirty := false } else b
  (({ d with idx := { d.idx with buckets := d.idx.buckets.map clean } } : Dev).sendWant n (want.map (·.1))).resyncCheck n

def listRun (n : BitVec 12) (snapshot lo hi : Nat) (es : List (BitVec 128 × Nat)) (d : Dev) : Option Dev :=
  match d.mirror? n with
  | none => some d
  | some m => if m.lead then some (d.pullList n lo hi es) else d.followList m snapshot lo hi es

/-- The record that brings a wanted key: VALUE or LOST; nothing where the key is gone. -/
def Dev.wantedRec (d : Dev) (n : BitVec 12) (h : BitVec 128) : Option RepRec :=
  let mk (kind : Nat) (key : Bytes) (version len : Nat) : RepRec :=
    { kind := kind, ns := n, key := key, hash := h, version := version, valueLength := len, len := len, offset := 0, uploadId := 0,
      sent := false, at_ := d.clk.tick }
  match d.driftBelow n h (2 ^ 64) with
  | some v => match v.content with
    | some b => some (mk 1 v.key v.seq b.length)
    | none => none
  | none => match d.lookFull n h with
    | .present v _ _ len key => some (mk 1 key v len)
    | .lost v key => some (mk 9 key v 0)
    | _ => none

/-- The lead sends the wanted keys: the oldest list out has been answered, and its bucket is reconciled (R308 step 4). -/
def Dev.leadWant (d : Dev) (m : MirrorNs) (hs : List (BitVec 128)) : Dev :=
  let rs := hs.filterMap (d.wantedRec m.ns)
  let clean (lo : Nat) (b : Bucket) : Bucket := if b.ns == m.ns && decide (b.lo ≤ lo) && decide (lo ≤ b.hi) then { b with dirty := false } else b
  let d1 : Dev := match m.listing with
    | [] => d
    | lo :: _ => { d with idx := { d.idx with buckets := d.idx.buckets.map (clean lo) } }
  let d2 := d1.modMirror m.ns (fun x => { x with
    listing := x.listing.drop 1, unapplied := x.unapplied ++ rs, resyncBytes := x.resyncBytes + (rs.map (·.len)).sum })
  (d2.cwPumpNs m.ns).resyncCheck m.ns

/-- A follower sends its copy of the keys that a lead pulls. -/
def Dev.followWant (d : Dev) (n : BitVec 12) (hs : List (BitVec 128)) : Dev :=
  (hs.filterMap (d.wantedRec n)).foldl (fun (d : Dev) (r : RepRec) => d.cwPut r) d

def wantRun (n : BitVec 12) (hs : List (BitVec 128)) (d : Dev) : Option Dev :=
  match d.mirror? n with
  | none => some d
  | some m => some (if m.lead then d.leadWant m hs else d.followWant n hs)

/-- Sends LIST for a bucket, with the snapshot point: every version assigned so far (R308 steps 1 and 2). -/
def Dev.sendList (d : Dev) (b : Bucket) : Dev :=
  let es := d.keysIn b.ns b.lo b.hi
  let x := es.flatMap (fun e => natToBytesBE 16 e.1.toNat ++ natToBytesBE 8 e.2)
  d.cwSend .data b.ns.toNat (cwRecBytes 10 b.ns (d.que.nextSeq - 1) b.hi b.lo 0 [] x) (.cwList b.ns (d.que.nextSeq - 1) b.lo b.hi es)

/-- Starts the reconciliation of a bucket: a dirty one, or one with a failed record whose cause has cleared (R309). A bucket that the
lead pulls is listed by the follower instead; a follower lists what it is named (log entry 70). -/
def Dev.resyncBucket (d : Dev) (m : MirrorNs) (b : Bucket) : Dev :=
  let failed := m.failedKeys.any (fun k => b.covers m.ns k.1)
  if !m.lead then d.sendList b
  else if !(b.dirty || failed) || m.listing.contains b.lo || !b.lostHome.isEmpty || m.st == .fenced then d
  else
    let d1 := if m.st == .joining || m.st == .resync then d else (d.beginResync m.ns .resync).freeApplied m
    let d2 := d1.modMirror m.ns (fun x => { x with
      failedKeys := x.failedKeys.filter (fun k => !b.covers m.ns k.1), listing := x.listing ++ [b.lo], waitSince := none,
      resyncBuckets := x.resyncBuckets + 1 })
    (d2.modBucket m.ns b.lo (fun x => { x with dirty := true })).sendList b

def resyncBucketEff (n : BitVec 12) (lo : BitVec 64) (d : Dev) : Dev :=
  if !d.linked || d.par.run != .running then d
  else match d.maint .rsync with
    | (.r, _) => match d.mirror? n, d.idx.buckets.find? (fun b => b.ns == n && b.lo == lo.toNat) with
      | some m, some b => if d.homeAbsent b || b.pageLost then d else d.resyncBucket m b
      | _, _ => d
    | (_, d1) => d1

/-- RESYNC_BUCKET (R308). -/
def execResyncBucket (n : BitVec 12) (lo : BitVec 64) (s : State) : Host.Outcome State Fault Refusal := s.run (resyncBucketEff n lo)

/-! ## APPLIED on the lead (R295, R304) -/

/-- The key hash of a version that the follower could not apply. -/
def Dev.hashOfVersion (d : Dev) (m : MirrorNs) (v : Nat) : Option (BitVec 128) :=
  match m.unapplied.find? (·.version == v) with
  | some r => some r.hash
  | none => match d.que.drift.find? (fun x => x.ns == m.ns && x.seq == v) with
    | some x => some x.hash
    | none => (d.idx.log.find? (fun r => r.ns == m.ns && r.version == v)).map (·.hash)

/-- An apply failure (R304): a synchronous namespace waits as on a peer loss, with the link up; in an asynchronous one the bucket is
reconciled. -/
def Dev.applyFailed (d : Dev) (m : MirrorNs) (v : Nat) : Dev :=
  let hs := (d.hashOfVersion m v).toList
  let d1 := d.modMirror m.ns (fun x => { x with unapplied := x.unapplied.filter (·.version != v) })
  if m.sync then
    let d2 := d1.modMirror m.ns (fun x => { x with failedKeys := x.failedKeys ++ hs.map (fun h => (h, v)) })
    if m.st == .waiting || m.st == .solo || m.st == .fenced then d2 else (d2.enterWaiting m.ns (some d.clk.tick)).askSolo
  else
    let d2 := hs.foldl (fun (d : Dev) (h : BitVec 128) => d.markDirty m.ns h) d1
    if m.st == .inSync then d2.beginResync m.ns .resync else d2

/-- APPLIED (R295): what it covers is applied on both drives, and its writers wait no longer. In a namespace that waits after an apply failure they
stay unacknowledged, and the failed record's own writer is not covered by any watermark (R304). -/
def Dev.takeApplied (d : Dev) (n : BitVec 12) (watermark : Nat) (vs : List Nat) (failed : Option (Nat × Nat)) : Dev :=
  match d.mirror? n with
  | none => d
  | some m =>
    if !m.lead then d
    else
      let done (v : Nat) : Bool := (decide (v ≤ watermark) || vs.contains v) && !m.failedKeys.any (·.2 == v)
      let left := m.unapplied.filter (fun r => !done r.version)
      let d1 := d.modMirror n (fun x => { x with
        unapplied := left, securePending := x.securePending.filter (fun r => !done r.version), watermark := max x.watermark watermark,
        lagWarned := x.lagWarned && !left.isEmpty })
      let d2 := if m.st == .waiting then d1 else d1.freeSome n done
      let d3 := match failed with
        | some (v, _) => d2.applyFailed m v
        | none => d2
      (d3.resyncCheck n).handoverOn

/-- The lag of an asynchronous namespace passes `mirror.async_lag_warn_ms` (R312, R313): the age of the oldest record not applied. -/
def asyncLagEff (n : BitVec 12) (d : Dev) : Dev :=
  match d.mirror? n with
  | none => d
  | some m => match m.unapplied with
    | [] => d
    | r :: _ =>
      if m.lead && !m.sync && !m.lagWarned then
        (d.modMirror n (fun x => { x with lagWarned := true })).raise Ev.asyncLag n.toNat ((d.clk.tick - r.at_) / 1000)
          (d.lagBytes m / 2 ^ 20) 0
      else d

/-- ASYNC_LAG_WARN (R313). -/
def execAsyncLagWarn (n : BitVec 12) (s : State) : Host.Outcome State Fault Refusal := s.run (asyncLagEff n)

/-! ## Partner reads (R297, R298) -/

/-- The capsule of a read that the follower has forwarded. It comes over no session, and its class is NORMAL (log entry 65). -/
def partnerCap (id : Nat) (n : BitVec 12) (opcode : BitVec 16) (key : Bytes) (offset len : Nat) : Cap :=
  { sid := 0, tag := BitVec.ofNat 32 id, start := id, len := 0,
    hdr := {
      magic := 0, version := 1, hdrLen := 128, opcode := opcode, opcodeTwin := ~~~ opcode, flags := 0, tag := BitVec.ofNat 32 id,
      nsWord := n.setWidth 32, nsTwin := ~~~ (n.setWidth 32), keyLen := BitVec.ofNat 16 key.length,
      keyLenTwin := ~~~ (BitVec.ofNat 16 key.length), cls := 2, valueLen := BitVec.ofNat 64 len,
      valueLenTwin := ~~~ (BitVec.ofNat 64 len), offset := BitVec.ofNat 64 offset, expVersion := 0, token := 0, valueCrc := 0,
      hdrCrc := 0 },
    segs := [], hdrChecked := true, stage := .assembled, awaitBorrow := false, awaitDir := false, delayed := false, slcWait := false, hotWait := false,
    tenant := 0, key := key, value := [], checks := [], seq := 0, stamp := 0, cls := 2, limitPaid := true, tokenChecked := false, pageWait := false,
    captured := none, tokenStale := false, cursor := 0,
    visited := 0, replies := 0, window := 0, shown := [], copied := none, abortOf := none, forwarded := false, partner := some id }

/-- The content of a key at exactly a version, if this drive has that state and can read it (R298). -/
def Dev.contentAt (d : Dev) (n : BitVec 12) (h : BitVec 128) (version : Nat) : Option Bytes :=
  match d.driftBelow n h (2 ^ 64) with
  | some v => if v.seq = version ∧ v.bad.isEmpty then v.content else none
  | none => match d.lookFull n h with
    | .present v loc gen _ _ => match d.copyAt loc gen with
      | some c => if v = version ∧ c.bad.isEmpty ∧ c.badHeads.isEmpty ∧ d.serves c.bay then some (d.plainOf c) else none
      | none => none
    | _ => none

/-- A chunk of a buffered version that fails its check as it is sent (R261): of the version that answers a read at exactly `version`. -/
def Dev.sentFail (d : Dev) (n : BitVec 12) (h : BitVec 128) (offset len version : Nat) : Option (Version × Nat) :=
  match d.driftBelow n h (2 ^ 64) with
  | some v =>
    let b := v.content.getD []
    if v.seq = version then (checkFail b v.checks (chunksOf offset (if len = 0 then b.length - offset else len))).map (fun i => (v, i)) else none
  | none => none

/-- Answers a read at exactly a version (R298): the value, or `NOT_FOUND`. -/
def Dev.answerAt (d : Dev) (id : Nat) (n : BitVec 12) (opcode : BitVec 16) (key : Bytes) (offset len version : Nat) : Dev :=
  let h := d.hashOf n key
  match d.contentAt n h version with
  | none => d.cwAnswer id Status.notFound 0 []
  | some b =>
    if opcode == Op.exists_ then d.cwAnswer id Status.ok version (natToBytesBE 8 b.length)
    else if b.length < offset + len then d.cwAnswer id Status.badLength 0 []
    else match d.sentFail n h offset len version with
      | some (v, i) => (((d.checkFails n version i 2).driftUe v.seq i).cwAnswer id Status.notFound 0 [])
      | none => d.cwAnswer id Status.ok version ((b.drop offset).take (if len = 0 then b.length - offset else len))

/-- A read of the partner (R297, R298): at the newest state in the lead's own ingress order, or at exactly a version. As it begins to wait it
promotes the writers it waits for (R129); a scan refused names its cursor (R74). -/
def readRun (id : Nat) (n : BitVec 12) (opcode : BitVec 16) (key : Bytes) (offset len : Nat) (version : Option Nat) (d : Dev) : Option Dev :=
  let notLead : Dev := d.cwAnswer id Status.notLead (if opcode == Op.scanPrefix then offset else 0) []
  match version with
  | some v => some (d.answerAt id n opcode key offset len v)
  | none => match d.mirror? n with
    | some m =>
      if !m.lead then some notLead
      else if !d.sequencing || d.stall.isSome then none
      else
        let (c, d1) := ({ d with que := { d.que with caps := d.que.caps ++ [partnerCap id n opcode key offset len] } } : Dev).stampCap
          (partnerCap id n opcode key offset len)
        some (d1.promote c)
    | none => some notLead

/-- The token of a relayed reply is this drive's own, where it holds the version (R110, R297). -/
def Dev.ownToken (d : Dev) (n : BitVec 12) (h : BitVec 128) (version : Nat) : Option (BitVec 128) :=
  match d.lookFull n h with
  | .present v loc gen _ _ => if v = version then d.token n h loc gen else none
  | _ => none

/-- The reply that a forwarded capsule gets. -/
def Dev.relayed (d : Dev) (c : Cap) (p : PartnerRead) (st : BitVec 16) (version : Nat) (data : Bytes) : Reply :=
  let good := st == Status.ok || st == Status.tokenStale
  if p.version.isSome && !(good && p.version == some version) then Reply.plain p.alone
  else if good && c.hdr.opcode == Op.exists_ then { Reply.ver st version with len := some data.toNatBE }
  else if good && c.hdr.opcode == Op.get then
    { Reply.ver st version with data := data, token := d.ownToken c.hdr.ns (d.capHash c) version }
  else { Reply.ver st version with data := data }

/-- The partner's answer to a read arrives (R297, R298). -/
def answerRun (id : Nat) (st : BitVec 16) (version : Nat) (data : Bytes) (d : Dev) : Dev :=
  match d.mir.reads.find? (·.id == id) with
  | none => d
  | some p =>
    let d1 : Dev := { d with mir := { d.mir with reads := d.mir.reads.filter (·.id != id) } }
    match d1.capBySeq p.seq with
    | none => d1
    | some c =>
      let r := d1.relayed c p st version data
      if isReader c.hdr.opcode then d1.endReader c r else d1.finishFree c r

/-! ## The role record (R290, R306) -/

/-- A namespace that the partner leads is followed from now on, in a mode, or is ordinary again (R290). -/
def Dev.takeRole (d : Dev) (e : RoleEntry) : Dev :=
  match e.role, d.mirror? e.ns with
  | .follow sync lossy, none => if (d.nsOf e.ns).isSome then (d.dirtyAll e.ns).joinNs e.ns false sync lossy else d
  | .follow sync lossy, some m => if m.lead then d else d.modMirror e.ns (fun x => { x with sync := sync, lossy := lossy })
  | .ordinary, some m => if m.lead then d else d.unmirror m
  | _, _ => d

/-- The lead's role record: this drive leads the namespaces handed over and adopts the epoch (R306); it follows others, or no longer. -/
def roleRun (rs : List RoleEntry) (epoch : Nat) (d : Dev) : Dev :=
  let led := (rs.filter (fun e => e.role == .lead)).map (·.ns)
  let d1 := rs.foldl (fun (d : Dev) (e : RoleEntry) => d.takeRole e) d
  if led.isEmpty then d1
  else ({ d1 with mir := { d1.mir with epoch := epoch, epochSeen := max d1.mir.epochSeen epoch } } : Dev).takeLead led 1

/-! ## Arrival (R36, R37, R286) -/

/-- The size of a record in the stream (R293). -/
def recBytes (r : CwRec) : Nat := 48 + r.key.length + r.data.length

/-- The bytes of a message. -/
def CwMsg.size : CwMsg → Nat
  | .value r | .patch r | .delete r | .secureDelete r | .mpBegin r | .mpPart r | .mpCommit r | .mpCancel r | .lost r => recBytes r
  | .list _ _ _ _ es => 48 + 24 * es.length
  | .want _ hs => 48 + 16 * hs.length
  | .applied _ _ vs failed => 56 + 8 * vs.length + (if failed.isSome then 10 else 0)
  | .read _ _ _ key _ _ _ => 48 + key.length
  | .answer _ _ _ data => 48 + data.length
  | .role rs _ => 48 + 8 * rs.length

/-- The replication stream of a message; a control message has none (R286). -/
def CwMsg.stream : CwMsg → Option (BitVec 12)
  | .value r | .patch r | .delete r | .secureDelete r | .mpBegin r | .mpPart r | .mpCommit r | .mpCancel r | .lost r => some r.ns
  | .list n _ _ _ _ | .want n _ | .applied n _ _ _ => some n
  | .read .. | .answer .. | .role .. => none

/-- Takes a message; nothing where it has to wait. -/
def CwMsg.run : CwMsg → Dev → Option Dev
  | .value r, d => valueRun r d
  | .patch r, d => patchRun r d
  | .delete r, d => deleteRun r d
  | .secureDelete r, d => secureDeleteRun r d
  | .mpBegin r, d => mpBeginRun r d
  | .mpPart r, d => mpPartRun r d
  | .mpCommit r, d => mpCommitRun r d
  | .mpCancel r, d => mpCancelRun r d
  | .lost r, d => lostRun r d
  | .list n snapshot lo hi es, d => listRun n snapshot lo hi es d
  | .want n hs, d => wantRun n hs d
  | .applied n w vs failed, d => some (d.takeApplied n w vs failed)
  | .read id n opcode key offset len version, d => readRun id n opcode key offset len version d
  | .answer id st version data, d => some (answerRun id st version data d)
  | .role rs epoch, d => some (roleRun rs epoch d)

/-- A message leaves those held; one of a replication stream has been taken off the partner's credit (R286). -/
def Dev.unhold (d : Dev) (x : CwHeld) : Dev :=
  { d with mir := { d.mir with held := d.mir.held.filter (·.psn != x.psn),
                               rxPos := d.mir.rxPos + (if x.msg.stream.isSome then x.msg.size else 0) } }

/-- Takes the messages held whose turn has come: in PSN order, none beyond a gap, and none of a stream in which an earlier one has to wait
(`blocked`). -/
def Dev.cwDrainList (blocked : List (BitVec 12)) (d : Dev) : List CwHeld → Dev
  | [] => d
  | x :: rest =>
    if d.mir.rxCum ≤ x.psn then d
    else if x.msg.stream.any blocked.contains then d.cwDrainList blocked rest
    else match x.msg.run (d.unhold x) with
      | some d1 => d1.cwDrainList blocked rest
      | none => d.cwDrainList (x.msg.stream.toList ++ blocked) rest

/-- Takes what can be taken of the messages held. -/
def Dev.cwDrain (d : Dev) : Dev := d.cwDrainList [] d.mir.held

/-- A message takes its place among those held, by its PSN. -/
def orderHeld (x : CwHeld) : List CwHeld → List CwHeld
  | [] => [x]
  | y :: rest => if x.psn < y.psn then x :: y :: rest else y :: orderHeld x rest

/-- A DATA frame, or the frames of one record, arrives (R286, R293): its PSNs are recorded and acknowledged at once, a duplicate prompts an ACK, one
beyond the window is dropped (R36, R37). The messages are taken in PSN order: log entry 60. -/
def Dev.cwArrive (d : Dev) (h : CwHdr) (x : CwMsg) : Dev :=
  if !d.linked then d
  else if d.cwNew h.psn then
    let d1 := (d.cwTake h false).cwRecord h.psn (max 1 (ceilDiv x.size 8192))
    let d2 : Dev := { d1 with mir := { d1.mir with held := orderHeld ⟨h.psn, x⟩ d1.mir.held } }
    d2.cwDrain.cwSendAck.cwPump
  else if d.cwDup h.psn then (d.cwTake h false).cwSendAck
  else d

/-- A control frame arrives (R286): it may close a gap, and what was held up may go on. -/
def cwControlEff (h : CwHdr) (d : Dev) : Dev := (d.cwControl h).cwDrain

/-- CW_ACK (R286). -/
def execCwAck (h : CwHdr) (s : State) : Host.Outcome State Fault Refusal := s.run (cwControlEff h)

/-- HEARTBEAT (R288). -/
def execHeartbeat (h : CwHdr) (s : State) : Host.Outcome State Fault Refusal := s.run (cwControlEff h)

/-- VALUE_RECORD (R294). -/
def execValueRecord (h : CwHdr) (r : CwRec) (s : State) : Host.Outcome State Fault Refusal := s.run (fun (d : Dev) => d.cwArrive h (.value r))

/-- PATCH_RECORD (R294). -/
def execPatchRecord (h : CwHdr) (r : CwRec) (s : State) : Host.Outcome State Fault Refusal := s.run (fun (d : Dev) => d.cwArrive h (.patch r))

/-- DELETE_RECORD (R294). -/
def execDeleteRecord (h : CwHdr) (r : CwRec) (s : State) : Host.Outcome State Fault Refusal := s.run (fun (d : Dev) => d.cwArrive h (.delete r))

/-- SECURE_DELETE_RECORD (R310). -/
def execSecureDeleteRecord (h : CwHdr) (r : CwRec) (s : State) : Host.Outcome State Fault Refusal := s.run (fun (d : Dev) => d.cwArrive h (.secureDelete r))

/-- MP_BEGIN_RECORD (R293). -/
def execMpBeginRecord (h : CwHdr) (r : CwRec) (s : State) : Host.Outcome State Fault Refusal := s.run (fun (d : Dev) => d.cwArrive h (.mpBegin r))

/-- MP_PART_RECORD (R293). -/
def execMpPartRecord (h : CwHdr) (r : CwRec) (s : State) : Host.Outcome State Fault Refusal := s.run (fun (d : Dev) => d.cwArrive h (.mpPart r))

/-- MP_COMMIT_RECORD (R294). -/
def execMpCommitRecord (h : CwHdr) (r : CwRec) (s : State) : Host.Outcome State Fault Refusal := s.run (fun (d : Dev) => d.cwArrive h (.mpCommit r))

/-- MP_CANCEL_RECORD (R293). -/
def execMpCancelRecord (h : CwHdr) (r : CwRec) (s : State) : Host.Outcome State Fault Refusal := s.run (fun (d : Dev) => d.cwArrive h (.mpCancel r))

/-- LOST_RECORD (R308). -/
def execLostRecord (h : CwHdr) (r : CwRec) (s : State) : Host.Outcome State Fault Refusal := s.run (fun (d : Dev) => d.cwArrive h (.lost r))

/-- LIST_RECORD (R308). -/
def execListRecord (h : CwHdr) (n : BitVec 12) (snapshot lo hi : Nat) (es : List (BitVec 128 × Nat)) (s : State) :
    Host.Outcome State Fault Refusal :=
  s.run (fun (d : Dev) => d.cwArrive h (.list n snapshot lo hi es))

/-- WANT_RECORD (R308). -/
def execWantRecord (h : CwHdr) (n : BitVec 12) (hs : List (BitVec 128)) (s : State) : Host.Outcome State Fault Refusal :=
  s.run (fun (d : Dev) => d.cwArrive h (.want n hs))

/-- APPLIED_RECORD (R295). -/
def execAppliedRecord (h : CwHdr) (n : BitVec 12) (watermark : Nat) (vs : List Nat) (failed : Option (Nat × Nat)) (s : State) :
    Host.Outcome State Fault Refusal :=
  s.run (fun (d : Dev) => d.cwArrive h (.applied n watermark vs failed))

/-- PARTNER_READ (R297). -/
def execPartnerRead (h : CwHdr) (id : Nat) (n : BitVec 12) (opcode : BitVec 16) (key : Bytes) (offset len : Nat) (version : Option Nat)
    (s : State) : Host.Outcome State Fault Refusal :=
  s.run (fun (d : Dev) => d.cwArrive h (.read id n opcode key offset len version))

/-- PARTNER_READ_REPLY (R298). -/
def execPartnerReadReply (h : CwHdr) (id : Nat) (st : BitVec 16) (version : Nat) (data : Bytes) (s : State) :
    Host.Outcome State Fault Refusal :=
  s.run (fun (d : Dev) => d.cwArrive h (.answer id st version data))

/-- ROLE_RECORD (R306). -/
def execRoleRecord (h : CwHdr) (roles : List RoleEntry) (epoch : Nat) (s : State) : Host.Outcome State Fault Refusal :=
  s.run (fun (d : Dev) => d.cwArrive h (.role roles epoch))

end Sys2Proof.Machine
end

