-- ==== Sys2Proof/Machine/Media.lean ====
section
/-! DEFINITION. Monsoon at work: die reads, programs and erases that complete (R131, R214, R227, R263, R468), failing blocks and dies
(R219, R221, R222), fold, garbage collection, balance, patrol and the governor (R208, R211, R213, R217, R229, R233). -/

namespace Sys2Proof.Machine

/-- The drive runs and is awake: its background work goes on. -/
def Dev.awake (d : Dev) : Bool := d.par.run == .running && d.pow.rung == .clear && d.pow.failing.isNone

/-! ## Reads (R263) -/

/-- The runs of failing statuses of a die (R221), with one of its own taken out. -/
def Bay.clearRun (b : Bay) (die : Nat) : Bay := { b with failRuns := b.failRuns.filter (·.1 != die) }

/-- A value that needed rebuild is relocated once it has been served (R220). -/
def Dev.moveRebuilt (d : Dev) (loc gen : Nat) : Dev :=
  match d.copyAt loc gen with
  | some c =>
    if d.names c && !d.med.batches.any (fun b => b.items.any (fun i => i.fromLoc == loc && i.fromGen == gen)) then
      d.beginBatch .rebuild c.bay c.bay .cold c.group c.block 2 [c]
    else d
  | none => d

/-- The journal chunk that confirms a reader's key has been read (R152): the reader ends, or waits for its value; a chunk that no rebuild recovers, or
whose header fails, confirms nothing, and the read fails: DESIGN CHOICE, log entry 245. -/
def Dev.keyRead (d : Dev) (k : KeyRead) (o : ReadReport) : Dev :=
  let d0 : Dev := { d with med := { d.med with keyReads := d.med.keyReads.filter (·.id != k.id) } }
  let d1 := (d0.countReads [k.loc]).reportEffects k.seq (fun _ => k.loc) o
  match d1.capBySeq k.seq with
  | none => d1
  | some c => match c.captured, o.outcome with
    | some (.value v _ _ _), .lost _ => d1.orPartner c (some v) Status.mediaError
    | some (.value v _ _ _), .badHead _ _ _ => d1.orPartner c (some v) Status.integrityFault
    | some (.value v loc gen len), _ => d1.answerValue c (d1.capHash c) v loc gen len
    | _, _ => d1

/-- A read of a value has completed: what the reader captured is served; a speculative read that comes before the capture waits in staging
SRAM; a squashed one leaves nothing but what it showed of the flash (R163, R164, R263). A `PATCH` goes on to resolve (R277). A read of a
batch takes the batch on (R213). -/
def nandReadDoneEff (id : Nat) (o : ReadReport) (d : Dev) : Dev :=
  if !d.opRuns id then d
  else match d.med.reads.find? (·.id == id) with
  | none => match d.med.batches.find? (fun b => b.reads.any (·.1 == id)), d.med.keyReads.find? (·.id == id) with
    | none, none => d
    | none, some k => ((d.endOp id).keyRead k o).mediaAdvance
    | some b, _ => ((d.endOp id).batchRead b id o).mediaAdvance
  | some r =>
    let d1 := (d.endOp id).countReads (d.readLocs r.loc r.gen r.want)
    let unused (d : Dev) : Dev := match d.copyFor r.loc r.gen with
      | some cp => (d.reportEffects 0 (cp.chunkLoc d) (cp.report d r.want o)).dropRead id
      | none => d.dropRead id
    if r.squashed.isSome then unused d1
    else match d1.capBySeq r.seq with
      | none => unused d1
      | some c =>
        if isWriter c.hdr.opcode then (d1.copyRead r c o).mediaAdvance
        else match c.captured with
        | some (.value v loc gen _) =>
          if d1.keyPending r.seq then d1.modRead id (fun x => { x with arrived := some o })
          else if loc = r.loc ∧ gen = r.gen then
            let d2 := d1.serveRead r c v loc gen o
            (if o.outcome == .rebuilt || o.others.any (fun x => x.2 == .rebuilt) then d2.moveRebuilt loc gen else d2).mediaAdvance
          else unused d1
        | _ => if r.source.isSome then d1.modRead id (fun x => { x with arrived := some o }) else unused d1

/-- NAND_READ_DONE (R263). -/
def execNandReadDone (id : Nat) (o : ReadReport) (s : State) : Host.Outcome State Fault Refusal := s.run (nandReadDoneEff id o)

/-! ## Where an item's chunks lie -/

/-- The die position and the plane of a write position. -/
def Bay.posDie (b : Bay) (group block pos : Nat) : Nat × Nat :=
  let l := b.posLoc 0 group block pos
  (locDie l % 32, l / 2 ^ 35 % 4)

/-- The chunk numbers of a copy that lie in the blocks a test names: group, block, die position, plane. -/
def Dev.chunksWhere (d : Dev) (c : Copy) (p : Nat → Nat → Nat × Nat → Bool) : List Nat :=
  let b := d.bays.get c.bay
  (c.runs.foldl (fun (a : Nat × List Nat) (r : Nat × Nat) =>
    let g := locGroup r.1
    let k := locBlock r.1
    let pos := b.locPos r.1
    (a.1 + r.2, a.2 ++ ((List.range r.2).filter (fun i => p g k (b.posDie g k (pos + i)))).map (fun i => a.1 + i))) (0, [])).2

/-- A copy has a chunk on a die of a group. -/
def Dev.onDie (d : Dev) (c : Copy) (group die : Nat) : Bool := !(d.chunksWhere c (fun g _ x => g == group && x.1 == die)).isEmpty

/-- The locations of the chunks of some runs. -/
def Dev.runLocs (d : Dev) (runs : List (Nat × Nat)) : List Nat :=
  runs.flatMap (fun r =>
    let b := d.bays.get (locBay r.1)
    (List.range r.2).map (fun i => b.posLoc (locBay r.1).val (locGroup r.1) (locBlock r.1) (b.locPos r.1 + i)))

/-- The locations of a copy's chunks, the MAP chunk among them. -/
def Dev.copyLocs (d : Dev) (c : Copy) : List Nat := d.runLocs c.runs ++ (if c.mapLoc = 0 then [] else [c.mapLoc])

/-- The locations of what an item programs; nothing for one that fills whole pages. -/
def Dev.itemLocs (d : Dev) (what : ProgWhat) : List Nat :=
  match what with
  | .value s => match (d.ver? s).bind (fun v => d.copyAt v.loc v.gen) with
    | some c => d.copyLocs c
    | none => []
  | .journal l | .mark l => [l]
  | .part u s => ((d.idx.uploads.filter (·.id == u)).flatMap (fun x => x.parts.filter (·.seq == s))).flatMap (fun p => d.runLocs p.runs)
  | .partMove u s => ((d.idx.uploads.filter (·.id == u)).flatMap (fun x => x.parts.filter (·.seq == s))).flatMap (fun p => d.runLocs p.moving)
  | .batch id => ((d.med.batches.filter (·.id == id)).flatMap (·.items)).flatMap (fun i => match d.copyAt i.toLoc i.toGen with
    | some c => d.copyLocs c
    | none => [])
  | _ => []

/-- A location lies in the wordline of a program, on its die. -/
def Dev.inProg (d : Dev) (p : Prog) (l : Nat) : Bool :=
  let pages := match (d.bays.get p.bay).band? p.group p.block with
    | some x => x.mode.pages
    | none => 1
  locBay l == p.bay && locGroup l == p.group && locBlock l == p.block && locPage l / pages * pages == p.page && locDie l % 32 == p.die

/-- The planes that a program writes. -/
def Dev.progPlanes (d : Dev) (p : Prog) : List Nat :=
  match (((d.itemLocs p.what).filter (d.inProg p)).map (fun l => l / 2 ^ 35 % 4)).dedup with
  | [] => [0, 1, 2, 3]
  | l => l

/-! ## Programs that pass (R131, R211) -/

/-- Takes a program off the list. -/
def Dev.dropProg (d : Dev) (id : Nat) : Dev :=
  Dev.endOp { d with med := { d.med with progs := d.med.progs.filter (·.id != id) } } id

/-- The row of a program stands complete and no data program of its wordline is outstanding: its parity page is programmed (R211). -/
def Dev.rowParity (d : Dev) (p : Prog) : Dev :=
  match (d.bays.get p.bay).band? p.group p.block with
  | none => d
  | some x =>
    let r := p.page / x.mode.pages / x.stream.wordlines
    if (d.bays.get p.bay).rowStart x (r + 1) ≤ x.next ∧ !d.rowBusy p.bay p.group p.block p.page then
      d.issueProg p.bay p.stream ((d.bays.get p.bay).parityDie p.group p.block) 0 p.group p.block p.page (.parity p.group p.block p.page) 0 []
    else d

/-- A program of an item has passed, perhaps its last (R131): journal records may be committed, a part is on medium or moved, the epoch-end
records of a tail are written (R155). -/
def Dev.itemPassed (d : Dev) (p : Prog) : Dev :=
  if d.programming p.what then d
  else match p.what with
    | .journal l => (d.chunkPassed l).partsOn
    | .part _ _ => d.partsOn
    | .partMove u s => d.partMoved u s true
    | .page _ => d.markTail
    | _ => d

def nandProgramPassEff (id : Nat) (d : Dev) : Dev :=
  match d.med.progs.find? (·.id == id) with
  | none => d
  | some p =>
    if !d.opRuns id then d
    else
      let d1 := ((d.dropProg id).countProgram p.bay p.stream p.chunks).modBay p.bay (fun b => b.clearRun (32 * p.group + p.die))
      let d2 := (match p.what with
        | .parity _ _ _ => d1
        | _ => d1.rowParity p).itemPassed p
      let d3 := d2.mediaAdvance
      if d3.pow.failing.isSome then d3.failCheck else d3

/-- NAND_PROGRAM_PASS (R131). -/
def execNandProgramPass (id : Nat) (s : State) : Host.Outcome State Fault Refusal := s.run (nandProgramPassEff id)

/-! ## Programs that fail (R219, R468) -/

/-- The programs issued from an operation number on carry an item's retries on. -/
def Dev.carryTries (d : Dev) (since tries : Nat) (tried : List Nat) : Dev :=
  { d with med := { d.med with progs := d.med.progs.map (fun p =>
    if since ≤ p.id then { p with tries := tries, groupsTried := tried } else p) } }

/-- A value is programmed again in another group (R468 step 2): its runs are single (R205), so it moves whole (log entry 71). -/
def Dev.retryValue (d : Dev) (seq g : Nat) : Option Dev :=
  match d.ver? seq with
  | none => none
  | some v => match d.copyAt v.loc v.gen with
    | none => none
    | some c =>
      let b := v.content.getD []
      let d1 := (d.killCopy v.loc v.gen).dropProgs (.value seq)
      match checkFail b v.checks (List.range (chunkCount b.length)) with
      | some i => some ((d.checkFails v.ns v.seq i 1).endVer seq Status.mediaError 3)
      | none =>
      match d1.placeRuns c.bay .hot g [(v.ns, v.hash)] (.value seq) (segsOf (chunkCount c.bytes.length)) with
      | some ((loc, n) :: more, m, d2) =>
        let c1 : Copy := { c with group := g, block := locBlock loc, loc := loc, runs := (loc, n) :: more, mapLoc := m,
                                  heads := [⟨chunkCount c.bytes.length, c.version, c.gen, c.bytes.length⟩] }
        let d3 : Dev := { d2 with med := { d2.med with copies := d2.med.copies ++ [c1] } }
        some ((d3.modVer seq (fun x => { x with loc := loc })).modRec v.jseq (fun r => { r with loc := loc }))
      | _ => none

/-- A journal chunk is programmed again in another group, with all its records. -/
def Dev.retryJournal (d : Dev) (l g : Nat) : Option Dev :=
  let rs := d.idx.journal.filter (·.ref == l)
  match (d.dropProgs (.journal l)).alloc (locBay l) .journal g 1 (rs.flatMap JRec.item) true with
  | none => none
  | some (block, pos, d1) =>
    let new := (d1.bays.get (locBay l)).posLoc (locBay l).val g block pos
    let d2 := d1.issueRun (locBay l) .journal g block pos 1 (.journal new)
    some { d2 with idx := { d2.idx with
      journal := d2.idx.journal.map (fun r => if r.ref == l then { r with ref := new } else r),
      staging := d2.idx.staging.map (fun x => if x == l then new else x) } }

/-- An epoch-end record is programmed again in another group (R468). -/
def Dev.retryMark (d : Dev) (l g : Nat) : Option Dev :=
  match (d.dropProgs (.mark l)).alloc (locBay l) .journal g 1 [] true with
  | none => none
  | some (block, pos, d1) =>
    let new := (d1.bays.get (locBay l)).posLoc (locBay l).val g block pos
    let d2 := d1.issueRun (locBay l) .journal g block pos 1 (.mark new)
    some { d2 with idx := { d2.idx with
      tail := d2.idx.tail.map (fun (t : Tail) => { t with ends := t.ends.map (fun x => if x == l then new else x) }),
      marks := d2.idx.marks.map (fun (m : EndMark) => if m.loc == l then { m with loc := new } else m) } }

/-- A part is programmed again in another group; its chunks meet the cipher again (R261). -/
def Dev.retryPart (d : Dev) (u seq g : Nat) : Option Dev :=
  match d.idx.uploads.find? (·.id == u) with
  | none => none
  | some x => match x.parts.find? (·.seq == seq) with
    | none => none
    | some p => match checkFail p.bytes p.checks (List.range (chunkCount p.bytes.length)) with
      | some i => some ((d.checkFails x.ns seq i 1).failPart x p Status.mediaError)
      | none =>
      match (d.dropProgs (.part u seq)).placeSegs p.bay .hot g [(x.ns, x.hash)] (.part u seq) false (segsOf (chunkCount p.bytes.length)) with
      | none => none
      | some (runs, d1) =>
        let d2 := d1.modUpload u (fun y => { y with parts := y.parts.map (fun q => if q.seq == seq then { q with runs := runs } else q) })
        some (match d2.partRec seq with
          | some r => d2.modRec r.jseq (fun r => { r with loc := (runs.map (·.1)).headD 0 })
          | none => d2)

/-- Drops the programs of one place of an index band: its die in the two wordlines of a row (R198). -/
def Dev.dropPlace (d : Dev) (p : Prog) : Dev :=
  let mine (q : Prog) : Bool := q.what == p.what && q.bay == p.bay && q.group == p.group && q.block == p.block && q.page / 2 == p.page / 2 && q.die == p.die
  let k := ((d.bays.get p.bay).dataDies p.group p.block).idxOf p.die
  ((d.med.progs.filter mine).foldl (fun (d : Dev) (q : Prog) => d.dropProg q.id) d).modBay p.bay (fun b =>
    b.modBand p.group p.block (fun x => { x with second := x.second.filter (fun y => !(y.1 == k && y.2 == p.what)) }))

/-- What a place of the index stream holds is programmed again in another group: a page, or a piece of a snapshot or a summary (R468). -/
def Dev.retryPage (d : Dev) (p : Prog) (l g : Nat) : Option Dev :=
  let page := d.idx.pagesNow.any (·.pageLoc == l)
  match (d.dropPlace p).alloc p.bay .index g 32 [] true with
  | none => none
  | some (block, pos, d1) =>
    if !page then some (d1.issuePage p.bay g block (pos / 32) (.page l))
    else
      let b := d1.bays.get p.bay
      let new := b.posLoc p.bay.val g block (b.placePos g block (pos / 32))
      let mv (k : Bucket) : Bucket := if k.pageLoc == l then { k with pageLoc := new } else k
      let d2 := (d1.issuePage p.bay g block (pos / 32) (.page new)).modBay p.bay (fun y => y.modBand g block (fun (x : Band) =>
        { x with pages := (d.idx.pagesNow.filter (fun k => k.pageLoc == l)).map (fun k => (k.ns, k.lo, k.hi)) ++ x.pages }))
      some { d2 with idx := { d2.idx with
        buckets := d2.idx.buckets.map mv, tail := d2.idx.tail.map (fun (t : Tail) => { t with pages := t.pages.map mv }) } }

/-- A piece of reserved metadata is programmed again in another group (R468). -/
def Dev.retryItem (d : Dev) (p : Prog) (g : Nat) : Option Dev :=
  match d.alloc p.bay .reserved g (max 1 p.chunks) [] true with
  | none => none
  | some (block, pos, d1) => some (d1.issueRun p.bay .reserved g block pos (max 1 p.chunks) p.what)

/-- One retry of an item in a group. -/
def Dev.retryIn (d : Dev) (p : Prog) (g : Nat) : Option Dev :=
  match p.what with
  | .value s => d.retryValue s g
  | .journal l => d.retryJournal l g
  | .mark l => d.retryMark l g
  | .part u s => d.retryPart u s g
  | .page l => d.retryPage p l g
  | .reservedItem => d.retryItem p g
  | _ => none

/-- The first group that takes a retry. -/
def Dev.retryFirst (d : Dev) (p : Prog) : List Nat → Option (Nat × Dev)
  | [] => none
  | g :: rest => match d.retryIn p g with
    | some d1 => some (g, d1)
    | none => d.retryFirst p rest

/-- A program is exhausted (R468 step 4). What an index page, an epoch-end record or an item of reserved metadata would have replaced stays in
force, and it is attempted again at the next epoch. -/
def Dev.exhausted (d : Dev) (what : ProgWhat) : Dev :=
  match what with
  | .value s => d.endVer s Status.mediaError 1
  | .journal l => (d.idx.journal.filter (fun r => r.ref == l && !r.committed)).foldl (fun (d : Dev) (r : JRec) =>
      match r.kind, r.writer with
      | .part, some s => match d.idx.uploads.findSome? (fun u => (u.parts.find? (·.seq == s)).map (fun p => (u, p))) with
        | some (u, p) => d.failPart u p Status.mediaError
        | none => d.dropRec r.jseq
      | _, some s => d.endVer s Status.mediaError 1
      | _, none => d.dropRec r.jseq) (d.dropProgs what)
  | .page l => d.cancelPage l
  | .mark l => d.cancelMark l
  | .reservedItem => { d with med := { d.med with again := d.med.again + 1 } }
  | .partMove u s => (d.dropProgs what).partMoved u s false
  | .part u s => match d.idx.uploads.find? (·.id == u) with
    | some x => match x.parts.find? (·.seq == s) with
      | some p => d.failPart x p Status.mediaError
      | none => d.dropProgs what
    | none => d.dropProgs what
  | _ => d.dropProgs what

/-- A program outside a batch fails (R468 steps 2 to 4): up to three retries, each in a group not tried before. -/
def Dev.retryProg (d : Dev) (p : Prog) : Dev :=
  let free := (List.range 8).filter (fun g => !p.groupsTried.contains g)
  if 3 ≤ p.tries then d.exhausted p.what
  else match d.retryFirst p free with
    | none => d.exhausted p.what
    | some (g, d1) => d1.carryTries d.med.nextOp (p.tries + 1) (p.groupsTried ++ [g])

/-- The other items that have a chunk in the failed page: those of writers not yet on medium, journal chunks that staging holds, parts (R468 step 2). -/
def Dev.pageSharers (d : Dev) (p : Prog) (plane : Nat) : List ProgWhat :=
  let all_ := d.que.drift.map (fun v => (ProgWhat.value v.seq, !v.onMedium)) ++
    d.idx.uploads.flatMap (fun u => u.parts.map (fun q => (ProgWhat.part u.id q.seq, !q.onMedium))) ++
    d.idx.staging.map (fun l => (ProgWhat.journal l, !d.chunkSettled l)) ++ ((match d.idx.tail with
      | some t => t.ends
      | none => []).map (fun l => (ProgWhat.mark l, true)))
  (all_.filter (fun x => x.2 && x.1 != p.what && (d.itemLocs x.1).any (fun l => d.inProg p l && l / 2 ^ 35 % 4 == plane))).map (·.1)

/-- The failed page is programmed again, whatever items it held (R468 step 2); each keeps the retries of its own. -/
def Dev.retryPages (d : Dev) (p : Prog) (plane : Nat) : Dev :=
  (d.pageSharers p plane).foldl (fun (d : Dev) (w : ProgWhat) =>
    let own := (d.med.progs.find? (·.what == w)).getD { p with tries := 0, groupsTried := [p.group] }
    d.retryProg { own with what := w }) (d.retryProg p)

/-- The band's live data leaves it before the failing block leaves service (R222): it is marked, and takes no more data but that of a batch, which
leaves the block's places empty (R219). A closed band takes none anyway (log entry 205). -/
def Dev.leaveBand (d : Dev) (bay : BayNo) (group block : Nat) (shut : Bool) : Dev :=
  (if shut then d.closeBand bay group block else d).modBay bay (fun b => b.modBand group block (fun x => { x with refresh := true }))

/-- Readers that captured a copy in a failed block read the source instead, which is still there (R218, R219): their speculative reads are
squashed with cause 3; so do readers that come later. -/
def Dev.recapture (d : Dev) (c : Copy) : Dev :=
  match d.med.copies.find? (fun x => x.ns == c.ns && x.hash == c.hash && x.version == c.version && nextGen x.gen == c.gen) with
  | none => d
  | some src =>
    let hit (k : Cap) : Bool := match k.captured with
      | some (.value _ loc gen _) => loc == c.loc && gen == c.gen
      | _ => false
    (d.que.caps.filter hit).foldl (fun (d : Dev) (k : Cap) =>
      let k1 : Cap := match k.captured with
        | some (.value v _ _ n) => { k with captured := some (.value v src.loc src.gen n) }
        | _ => k
      let d1 := match d.med.reads.find? (fun r => r.seq == k.seq && r.squashed.isNone) with
        | some r => if r.confirming then d.squash r 3 else d.dropRead r.id
        | none => d
      (d1.modCap k (fun _ => k1)).issueRead k1 src.loc src.gen (src.withMap ((List.range
        (rangeChunks k.hdr c.bytes.length)).map (· + k.hdr.offset.toNat / 4096))) none false)
      (d.modCopy c.loc c.gen (fun x => { x with fallback := some (src.loc, src.gen) }))

/-- The first location of a run once a place of its band is left empty: the positions stay, and their locations change (R202, R219). -/
def repacked (was now : Bay) (bay : BayNo) (l : Nat) : Nat := now.posLoc bay.val (locGroup l) (locBlock l) (was.locPos l)

/-- The rows of a batch that are still to be programmed are packed anew without the place of the failed block (R219 step 2); a value that no longer
fits the band is withheld. -/
def Dev.repack (d : Dev) (was : Bay) (b : Batch) (p : Prog) : Dev :=
  let now := d.bays.get p.bay
  match now.band? p.group p.block with
  | none => d
  | some x =>
    let mine (l : Nat) : Bool := l != 0 && locBay l == p.bay && locGroup l == p.group && locBlock l == p.block
    let mv (l : Nat) : Nat := if mine l then repacked was now p.bay l else l
    let slots := now.bandSlots p.group p.block x.mode
    let fits (c : Copy) : Bool := (c.runs ++ (if c.mapLoc = 0 then [] else [(c.mapLoc, 1)])).all (fun r => !mine r.1 || decide (was.locPos r.1 + r.2 ≤ slots))
    let ours (c : Copy) : Bool := b.items.any (fun i => i.toLoc == c.loc && i.toGen == c.gen)
    let out (i : BatchItem) : Bool := match d.copyAt i.toLoc i.toGen with
      | some c => !fits c
      | none => false
    let row (r : Nat × Nat × Nat × Nat) : Nat × Nat × Nat × Nat :=
      if r.1 == p.group && r.2.1 == p.block then (r.1, r.2.1, r.2.2.1, min slots (now.rowStart x (now.rowAt x (r.2.2.2 - 1) + 1))) else r
    let rows := b.rows.map row
    let d1 := d.modBatch b.id (fun y => { y with
      items := y.items.map (fun i => { i with toLoc := mv i.toLoc, withheld := i.withheld || out i }), rows := rows })
    let d2 : Dev := { d1 with med := { d1.med with copies := d1.med.copies.map (fun c =>
      if ours c then { c with loc := mv c.loc, runs := c.runs.map (fun r => (mv r.1, r.2)), mapLoc := mv c.mapLoc } else c) } }
    let ends := (rows.filter (fun r => r.1 == p.group && r.2.1 == p.block)).map (·.2.2.2)
    d2.modBay p.bay (fun y => y.modBand p.group p.block (fun x => { x with
      next := ends.foldl max (now.pageStart p.group p.block (p.page + x.mode.pages)) }))

/-- A program of a batch fails in a block of its target band (R219): values with a chunk in the block are withheld, or relocated again by the next
batch from their sources, to which their readers turn; the rows to come leave the block's place empty. Which wordlines of the block do not decode is
a free value (log entry 2). A later batch of the same target begins anew: DESIGN CHOICE, log entry 205. -/
def Dev.batchFail (d : Dev) (p : Prog) (id plane : Nat) : Dev :=
  match (d.bays.get p.bay).band? p.group p.block, d.med.batches.find? (·.id == id) with
  | some x, some b =>
    let pages := x.mode.pages
    let w := p.page / pages
    let (v, d0) := d.draw
    let hit (c : Copy) : Bool := (d.copyLocs c).any (fun l => locBay l == p.bay && locGroup l == p.group && locBlock l == p.block &&
      decide (locPage l / pages ≤ w) && locDie l % 32 == p.die && l / 2 ^ 35 % 4 == plane)
    let held (i : BatchItem) : Bool := match d.copyAt i.toLoc i.toGen with
      | some c => hit c
      | none => false
    let d1 := (d0.med.batches.filter (fun y => decide (id < y.id) && y.toBay == p.bay && y.stream == b.stream && y.group == p.group &&
      y.stage != .committing)).foldl (fun (d : Dev) (y : Batch) => d.dropBatch y) d0
    let d2 := d1.modBatch id (fun y => { y with items := y.items.map (fun i => if held i then { i with withheld := true } else i) })
    let d3 := d2.modBay p.bay (fun y => y.modBand p.group p.block (fun z => { z with gaps := z.gaps ++ [((w + 1) * pages, p.die, plane)] }))
    let d4 := match d3.med.batches.find? (·.id == id) with
      | some y => d3.repack (d2.bays.get p.bay) y p
      | none => d3
    let again := d4.med.copies.filter (fun c => c.programmed && !c.dead && hit c && d4.names c)
    let d5 := again.foldl Dev.recapture d4
    let first := v.toNat % (w + 1)
    let count := v.toNat / 2 ^ 32 % (w + 2 - first)
    if count = 0 then d5
    else
      (d5.modBay p.bay (fun y => y.modBand p.group p.block (fun z =>
        { z with unprotected := (z.unprotected ++ (List.range (count * pages)).map (fun i => first * pages + i)).dedup }))).raise Ev.rowUnprotected
        p.bay.val (bandNum p.group p.block) first count
  | _, _ => d

/-- A parity page fails: its row is unprotected, with every page of its wordline. -/
def Dev.parityFail (d : Dev) (p : Prog) : Dev :=
  let pages := match (d.bays.get p.bay).band? p.group p.block with
    | some x => x.mode.pages
    | none => 1
  (d.modBay p.bay (fun b => b.modBand p.group p.block (fun x =>
    { x with unprotected := ((List.range pages).map (p.page + ·) ++ x.unprotected).dedup }))).raise
    Ev.rowUnprotected p.bay.val (bandNum p.group p.block) (p.page / pages) 1

/-- What follows the failure of a program, by what it carried. -/
def Dev.progLost (d : Dev) (p : Prog) (plane : Nat) : Dev :=
  match p.what with
  | .batch id => d.batchFail p id plane
  | .parity _ _ _ => d.parityFail p
  | .partMove u s => (d.dropProgs p.what).partMoved u s false
  | _ => d.retryPages p plane

/-! ## Die failure (R221) -/

/-- The chunks of the values of a group that lie on two failed dies cannot be rebuilt, in the bands whose rows hold both. -/
def Dev.twoDies (d : Dev) (bay : BayNo) (group d1 d2 : Nat) : Dev :=
  let both (k : Nat) : Bool := ((d.bays.get bay).rowDies group k).contains d1 && ((d.bays.get bay).rowDies group k).contains d2
  let upd (c : Copy) : Copy :=
    if c.bay == bay then
      { c with bad := (c.bad ++ d.chunksWhere c (fun g k x => g == group && (x.1 == d1 || x.1 == d2) && both k)).dedup } else c
  { d with med := { d.med with copies := d.med.copies.map upd } }

/-- The index pages, journal chunks, summaries, snapshots and the epoch-end record that lie on a failed die are rebuilt into other places of their
streams; what lies on two failed dies of its rows is lost (R198, R220, R221). -/
def Dev.rebuildMeta (d : Dev) (bay : BayNo) (n : Nat) : Dev :=
  let on (l : Nat) : Bool := l != 0 && locBay l == bay && locDie l == n
  let pages := (((d.idx.pagesNow.filter (fun k => on k.pageLoc)).map (·.pageLoc)).dedup)
  let d1 := pages.foldl (fun (d : Dev) (l : Nat) =>
    if d.dieLost l then { d with idx := { d.idx with buckets := d.idx.buckets.map (fun k => if k.pageLoc == l then { k with pageLost := true } else k) } }
    else d.rewritePage bay false l) d
  let refs := (((d.idx.journal.filter (fun r => on r.ref && r.programmed && d.idx.needs d.idx.durable r)).map (·.ref)).dedup)
  let d2 := refs.foldl (fun (d : Dev) (l : Nat) => if d.dieLost l then d else d.moveChunk bay false l) d1
  let d3 := ((d.bays.get bay).bands.filter (fun x => on x.summaryLoc)).foldl (fun (d : Dev) (x : Band) => d.writeSummary bay x) d2
  let d4 : Dev := if d3.idx.snaps.any on then { d3 with idx := { d3.idx with snapEpoch := 0 } } else d3
  if d4.idx.marks.any (fun m => on m.loc) then (d4.dropMark bay).copyEnd bay else d4

/-- A die is failed (R221, R276): 3,728 blocks of spare capacity go, later bands of its group are written without it, and its open
bands are closed; what was being programmed on it is programmed elsewhere, and a batch that fills one of them begins anew. What lies on it is
rebuilt, the running parity of its open rows included (R211). -/
def Dev.dieFails (d : Dev) (bay : BayNo) (group die : Nat) : Dev :=
  let n := 32 * group + die
  let b := d.bays.get bay
  if b.failedDies.any (·.1 == n) then d
  else
    let left := b.spare - 3728
    let e : RetiredRec := ⟨3, 7, nextRetSeq b.retired 3, d.clk.ns, locOf bay.val (die / 4) (4 * group + die % 4) 0 0 0 0, left⟩
    let others := b.failedDies.filter (fun x => x.1 / 32 == group && !x.2)
    let da := d.abandonBatches (fun x => x.toBay == bay && x.group == group && x.stage != .committing)
    let mine := da.med.progs.filter (fun p => p.bay == bay && p.group == group && p.die == die)
    let d1 := (((da.bays.get bay).bands.filter (fun x => x.isOpen && x.group == group)).foldl (fun (d : Dev) (x : Band) => d.closeBand bay x.group x.block) da
      ).modBay bay (fun y => { y with spare := left, retired := y.retired ++ [e], failedDies := y.failedDies ++ [(n, false)], failRuns := y.failRuns.filter (·.1 != n) })
    let d2 := (d1.raise Ev.dieFailed bay.val (8 * bay.val + die / 4) (4 * group + die % 4) left).writeSlot bay 2
    let d3 := others.foldl (fun (d : Dev) (x : Nat × Bool) => d.twoDies bay group (x.1 % 32) die) d2
    let d4 := mine.foldl (fun (d : Dev) (p : Prog) => (d.dropProg p.id).progLost p 0) d3
    (d4.rebuildMeta bay n).spareFell bay

/-- A failing status of a die is counted; the third in a row fails the die. -/
def Dev.countFail (d : Dev) (bay : BayNo) (group die : Nat) : Dev :=
  let n := 32 * group + die
  let d1 := d.modBay bay (fun b => { b with failRuns := bumpNat b.failRuns n })
  if 3 ≤ ((d1.bays.get bay).failRuns.lookup n).getD 0 then d1.dieFails bay group die else d1

/-- What a program carried is a batch's or a part's on the move. -/
def ProgWhat.moves : ProgWhat → Bool
  | .batch _ | .partMove _ _ => true
  | _ => false

/-- A program fails in a block of its die, in one of the planes it writes, which is a free value (log entry 2). -/
def nandProgramFailEff (id : Nat) (d : Dev) : Dev :=
  match d.med.progs.find? (·.id == id) with
  | none => d
  | some p =>
    if !d.opRuns id then d
    else
      let (v, d0) := d.draw
      let planes := d.progPlanes p
      let plane := planes.getD (v.toNat % max 1 planes.length) 0
      let d1 := (d0.dropProg id).countFail p.bay p.group p.die
      let d2 := if (d1.bays.get p.bay).failedDies.any (·.1 == 32 * p.group + p.die) then d1
        else (d1.retireBlock p.bay (blockLoc p.bay p.group p.die plane p.block) 1).leaveBand p.bay p.group p.block (!p.what.moves)
      let d3 := (d2.progLost p plane).mediaAdvance
      if d3.pow.failing.isSome then d3.failCheck else d3

/-- NAND_PROGRAM_FAIL (R219, R221, R468). -/
def execNandProgramFail (id : Nat) (s : State) : Host.Outcome State Fault Refusal := s.run (nandProgramFailEff id)

/-- A die, or a whole channel of a cartridge, gives no answer (R221, R251). -/
def dieStopsEff (bay : BayNo) (die : Nat) (channel : Bool) (d : Dev) : Dev :=
  if !(d.bays.get bay).state.serving || decide (256 ≤ die) then d
  else if channel then d.loseCart bay true 3 (die % 32 / 4)
  else (d.dieFails bay (die / 32) (die % 32)).mediaAdvance

/-- DIE_STOPS_ANSWERING (R221). -/
def execDieStopsAnswering (bay : BayNo) (die : Nat) (channel : Bool) (s : State) : Host.Outcome State Fault Refusal :=
  s.run (dieStopsEff bay die channel)

/-! ## Erases (R214, R227) -/

/-- The blocks of an erased band whose own wear is above the cartridge's rated limit are retired (R222); spare blocks take their places in the
erased band. -/
def Dev.wearLimit (d : Dev) (bay : BayNo) (group block : Nat) : Dev :=
  match (d.bays.get bay).cart with
  | none => d
  | some c =>
    let b := d.bays.get bay
    let worn (pl : Nat) : Bool := decide (c.made.ratedUnits < b.blockWear group block pl) && !b.emptySlots.contains (group, block, pl) &&
      !b.newSlots.contains (group, block, pl)
    (((List.range 128).filter (fun i => worn (128 * group + i))).foldl (fun (d : Dev) (i : Nat) =>
      d.retireBlock bay (blockLoc bay group (i / 4) (i % 4) block) 4) d).modBay bay (fun b => b.takeSpares group block)

/-- The locations in a block of what an erase was to remove: the copies of the key or of the namespace, by their chunks (R225, R227). -/
def Dev.heldIn (d : Dev) (e : Erase) (die plane : Nat) : List Nat :=
  let mine (c : Copy) : Bool := match e.why with
    | .secure s => d.med.secures.any (fun j => j.seq == s && j.ns == c.ns && j.hash == c.hash)
    | .sanitise r => d.sec.sanitise.any (fun x => x.id == r && (x.scope == 2 || x.ns == c.ns))
    | _ => false
  ((d.med.copies.filter mine).flatMap d.copyLocs).filter (fun l =>
    locBay l == e.bay && locGroup l == e.group && locBlock l == e.block && locDie l % 32 == die && l / 2 ^ 35 % 4 == plane)

/-- The namespace that a secure deletion or a sanitise is about. -/
def Dev.eraseNs (d : Dev) (why : EraseFor) : Nat :=
  match why with
  | .secure s => ((d.med.secures.find? (·.seq == s)).map (·.ns.toNat)).getD 0
  | .sanitise r => ((d.sec.sanitise.find? (·.id == r)).map (·.ns.toNat)).getD 0
  | _ => 0

/-- One block of a band fails to erase (R222, R227): its die's failure is counted, its wordlines are programmed with zeros in SLC mode, the block is
retired, and for a secure deletion or a sanitise every page that held a copy is read back. Whether a codeword still decodes is a free value (log
entry 2); in a metadata band, so is the page. -/
def Dev.blockEraseFails (d : Dev) (e : Erase) (die plane : Nat) : Bool × Dev :=
  let (v, d0) := d.draw
  let loc := blockLoc e.bay e.group die plane e.block
  let zero (b : Bay) : Bay := { b with nandBytes := b.nandBytes + 1024 * 4 * 4096 }
  let d1 := ((d0.countFail e.bay e.group die).modBay e.bay zero).retireBlock e.bay loc 2
  let held := if e.block < 128 then [loc + v.toNat / 256 % 1024 * 2 ^ 12 + v.toNat / 2 ^ 20 % 4 * 2 ^ 10] else d.heldIn e die plane
  match e.why with
  | .secure _ | .sanitise _ =>
    if v.getLsbD 7 && !held.isEmpty then
      let at_ := held.getD (v.toNat / 256 % max 1 held.length) loc
      (true, d1.raise Ev.secureResidue (d.eraseNs e.why) (at_ / 2 ^ 16) (at_ % 2 ^ 16) 0)
    else (false, d1)
  | _ => (false, d1)

/-- A band fails to erase (R227). Which of its blocks have failed, at least one, is not said (log entry 2). -/
def Dev.eraseFails (d : Dev) (e : Erase) : Bool × Dev :=
  let (v, d0) := d.draw
  let dies := (d.bays.get e.bay).rowDies e.group e.block
  let first := v.toNat % max 1 (4 * dies.length)
  let bad := (List.range (4 * dies.length)).filter (fun i => i == first || v.getLsbD (64 + i))
  bad.foldl (fun (a : Bool × Dev) (i : Nat) =>
    let r := a.2.blockEraseFails e (dies.getD (i / 4) 0) (i % 4)
    (a.1 || r.1, r.2)) (false, d0)

/-- With VERIFY, Deluge reads wordline 0 and the last wordline of every block of an erased band (R395): what the reads find is not said
(log entry 2). -/
def Dev.readBack (d : Dev) (e : Erase) : Bool × Dev :=
  match e.why with
  | .sanitise r =>
    if d.sec.sanitise.any (fun x => x.id == r && x.verify) then (let (v, d1) := d.draw; (v.getLsbD 0, d1)) else (true, d)
  | _ => (true, d)

/-- The wear of an erased band is journalled on the cartridge's own stream (R241). -/
def Dev.journalWear (d : Dev) (bay : BayNo) (group block : Nat) : Dev :=
  if d.inService bay then d.journalItem (mkRec .wear 0 0 [] ((d.bays.get bay).bandUnits group block) (blockLoc bay group 0 0 block) 0 0 bay none) else d

/-- An erase is complete (R214), or has failed (R227). -/
def nandEraseDoneEff (id : Nat) (ok : Bool) (d : Dev) : Dev :=
  match d.med.erases.find? (·.id == id) with
  | none => d
  | some e =>
    if !d.opRuns id then d
    else
      let d1 := Dev.endOp { d with med := { d.med with erases := d.med.erases.filter (·.id != id) } } id
      match e.why with
      | .release => d1.releaseDone e.bay
      | .reclaim => d1.reclaimDone e.bay
      | _ =>
        let clear (b : Bay) : Bay := (List.range 32).foldl (fun b p => b.clearRun (32 * e.group + p)) b
        let back := if ok then d1.readBack e else (false, d1)
        let r := if back.1 then (false, back.2.modBay e.bay clear) else back.2.eraseFails e
        let d2 := ((r.2.bandErased e.bay e.group e.block).wearLimit e.bay e.group e.block).journalWear e.bay e.group e.block
        (d2.bandGone e.bay (e.group, e.block) r.1).mediaAdvance

/-- NAND_ERASE_DONE (R214). -/
def execNandEraseDone (id : Nat) (ok : Bool) (s : State) : Host.Outcome State Fault Refusal := s.run (nandEraseDoneEff id ok)

/-! ## The governor and the rows (R211, R233) -/

/-- GOVERNOR_ADMIT (R233). -/
def execGovernorAdmit (bay : BayNo) (s : State) : Host.Outcome State Fault Refusal := s.run (fun (d : Dev) => d.governorAdmit bay)

/-- `media.row_close_us` after a row's first page (R211): the rest of the row stays unwritten and its parity page is programmed. -/
def rowCloseEff (bay : BayNo) (group block : Nat) (d : Dev) : Dev :=
  match (d.bays.get bay).band? group block with
  | none => d
  | some x => if x.isOpen then d.padRow bay group block else d

/-- ROW_CLOSE_TIMEOUT (R211). -/
def execRowCloseTimeout (bay : BayNo) (group block : Nat) (s : State) : Host.Outcome State Fault Refusal :=
  s.run (rowCloseEff bay group block)

/-! ## Fold (R213, R214) -/

/-- A copy is on the move already. -/
def Dev.moving (d : Dev) (c : Copy) : Bool := d.med.batches.any (fun b => b.items.any (fun i => i.takes c))

/-- Whole values until the rows of a batch are full; the first one always. -/
def takeRows (budget : Nat) : Nat → List Copy → List Copy
  | _, [] => []
  | used, c :: rest =>
    let n := chunkCount c.bytes.length
    if used ≠ 0 ∧ budget < used + n then [] else c :: takeRows budget (used + n) rest

/-- Chunks of a batch (R213). -/
def Dev.batchChunks (d : Dev) : Nat := d.pnum P.mediaFoldBatchRows * 1984

/-- A value folds to the warm stream: its key was rewritten within `media.warm_age_s` of the version replaced (R210). -/
def Dev.warm (d : Dev) (c : Copy) : Bool :=
  match c.gap with
  | some g => decide (g ≤ d.pnum P.mediaWarmAgeS * 1000000)
  | none => false

/-- The live values of the SLC region, from its oldest bands on (R213 stage 1). -/
def Dev.foldable (d : Dev) (bay : BayNo) : List Copy :=
  let bs := ((d.bays.get bay).bands.filter (fun x => decide (128 ≤ x.block) && x.mode == .slc && !x.erasing)).mergeSort
    (fun a b => decide (a.openedAt ≤ b.openedAt))
  (bs.flatMap (fun x => (d.liveIn bay x.group x.block).filter (fun c => !d.moving c))).dedup

/-- The priority of a fold (R214, R233): write priority above the urgent mark, background priority above the low mark; below it a fold waits
for all else: DESIGN CHOICE, log entry 209. -/
def Dev.foldPriority (d : Dev) (bay : BayNo) : Nat :=
  if d.slcAbove bay (d.pnum P.mediaFoldUrgentMark) then 4 else if d.slcAbove bay (d.pnum P.mediaFoldLowMark) then 5 else 6

/-- A fold at write priority is due (R214, R318). -/
def Dev.foldDue (d : Dev) (bay : BayNo) : Bool :=
  d.inService bay && d.par.mode != 5 && d.foldPriority bay == 4 && !(d.foldable bay).isEmpty

/-- Chunks that a fold may still place on the cold stream of a die group: with 464 free bands or fewer it fills the open band only, since the
headroom is for garbage collection (R209). -/
def Dev.foldRoom (d : Dev) (bay : BayNo) (st : Stream) (group : Nat) : Nat :=
  let b := d.bays.get bay
  if st != .cold || decide (464 + d.roomHeldOn bay < b.freeMain) then d.batchChunks
  else match b.openBand? .cold group with
    | some x => min d.batchChunks (b.bandSlots group x.block x.mode - x.next)
    | none => 0

/-- One fold batch of a drive that is awake. -/
def Dev.foldBatch (d : Dev) (bay : BayNo) : Dev :=
  if !d.awake || !d.inService bay || d.par.mode == 5 then d
  else match d.maint .fold with
    | (.r, _) =>
      match d.foldable bay with
      | [] => d
      | c :: rest =>
        let w := d.warm c
        let st := if w then Stream.warm else .cold
        let room := d.foldRoom bay st c.group
        if room < d.batchChunks && room < c.count + 1 then d
        else d.beginBatch .fold bay bay st c.group 0 (d.foldPriority bay) (takeRows room 0 (c :: rest.filter (fun x => d.warm x == w)))
    | (_, d1) => d1

def foldBatchEff (bay : BayNo) (d : Dev) : Dev := (d.wakeWork (d.foldDue bay)).foldBatch bay
/-- FOLD_BATCH (R213). -/
def execFoldBatch (bay : BayNo) (s : State) : Host.Outcome State Fault Refusal := s.run (foldBatchEff bay)

/-! ## Garbage collection (R216 to R218) -/

/-- Nanoseconds of a day. -/
abbrev dayNs : Nat := 86400000000000

/-- Live chunks of a band (R217). -/
def Dev.liveChunks (d : Dev) (bay : BayNo) (x : Band) : Nat :=
  ((d.liveIn bay x.group x.block).map (fun c => (d.chunksWhere c (fun g k _ => g == x.group && k == x.block)).length)).sum

/-- A victim's score, dead share × (1 + age in days / 30), as a numerator over its chunk positions times 30 days. The spec does not say from what
moment a band's age counts: from its opening, DESIGN CHOICE, log entry 239. -/
def Dev.gcScore (d : Dev) (bay : BayNo) (x : Band) : Nat × Nat :=
  let slots := (d.bays.get bay).bandSlots x.group x.block x.mode
  ((slots - d.liveChunks bay x) * (30 * dayNs + (d.clk.ns - x.openedAt)), slots)

/-- One score is below another. -/
def scoreBelow (a b : Nat × Nat) : Bool := decide (a.1 * b.2 < b.1 * a.2)

/-- A young band with old data (R216): its wear is more than `media.wear_gap` below the cartridge mean. -/
def Dev.youngBand (d : Dev) (bay : BayNo) (x : Band) : Bool :=
  let b := d.bays.get bay
  decide ((b.wearOf x.group x.block + d.pnum P.mediaWearGap) * 7456 < b.totalWear / 128) && decide (x.lastWrite + 30 * dayNs ≤ d.clk.ns)

/-- A band holds live values of a failed die that awaits its rebuild (R221). -/
def Dev.onFailed (d : Dev) (bay : BayNo) (x : Band) : Bool :=
  ((d.bays.get bay).failedDies.filter (fun y => !y.2 && y.1 / 32 == x.group)).any (fun y =>
    (d.liveIn bay x.group x.block).any (fun c => d.onDie c x.group (y.1 % 32)))

/-- A closed main band that GC may take. -/
def Band.closedMain (x : Band) : Bool := !x.isOpen && !x.erasing && decide (128 ≤ x.block) && decide (0 < x.next)

/-- The victim (R217): the bands taken first, then one begun before, then the highest score. On a Read-Only drive only what has to
leave a failing block moves (R223). -/
def Dev.gcVictim (d : Dev) (bay : BayNo) : Option Band :=
  let bs := (d.bays.get bay).bands.filter Band.closedMain
  let some_ (x : Band) : Bool := (d.liveIn bay x.group x.block).any (fun c => !d.moving c && c.badHeads.isEmpty)
  match bs.find? (fun x => (x.refresh || d.onFailed bay x || !x.gaps.isEmpty || (!x.unprotected.isEmpty && x.mode == .qlc)) && some_ x) with
  | some x => some x
  | none =>
    if d.par.mode == 5 then none
    else match bs.find? (fun x => x.victim && some_ x) with
      | some x => some x
      | none => match bs.find? (fun x => x.mode == .qlc && !x.victim && d.youngBand bay x) with
        | some x => some x
        | none => (bs.filter (fun x => x.mode == .qlc && !x.victim)).foldl (fun (m : Option Band) (x : Band) =>
            match m with
            | none => if 0 < (d.gcScore bay x).1 then some x else none
            | some y => if scoreBelow (d.gcScore bay y) (d.gcScore bay x) then some x else some y) none

/-- The rebuilds of failed dies that have nothing left to move are complete (R221). -/
def Dev.rebuildsDone (d : Dev) (bay : BayNo) : Dev :=
  d.modBay bay (fun b => { b with failedDies := b.failedDies.map (fun y =>
    (y.1, y.2 || !d.med.copies.any (fun c => c.bay == bay && c.programmed && !c.dead && d.onDie c (y.1 / 32) (y.1 % 32)))) })

/-- The priority of garbage collection, and the event of one that is raised (R217). -/
def Dev.gcPriority (d : Dev) (bay : BayNo) : Nat × Dev :=
  let free := (d.bays.get bay).freeMain
  if free < 32 then (2, d.raise Ev.gcUrgent bay.val free 2 0)
  else if free < d.pnum P.mediaGcLowMark then (4, d.raise Ev.gcUrgent bay.val free 1 0)
  else (5, d)

/-- The data of a young band moves to a worn one (R216): the cold stream's next band is the free one with the highest wear. -/
def Dev.openWorn (d : Dev) (bay : BayNo) (group : Nat) : Dev :=
  let d1 := match (d.bays.get bay).openBand? .cold group with
    | some y => d.closeBand bay group y.block
    | none => d
  match d1.openPicked bay .cold group ((d1.bays.get bay).pickWorn .cold group) with
  | some (_, d2) => d2
  | none => d1

/-- Garbage collection at write or read priority is due (R217, R318). -/
def Dev.gcDue (d : Dev) (bay : BayNo) : Bool :=
  d.inService bay && decide ((d.bays.get bay).freeMain < d.pnum P.mediaGcLowMark) && (d.gcVictim bay).isSome

/-- Metadata bands that are marked for refresh are cleared: what they hold goes to other places of their streams (R222, R231). -/
def Dev.refreshMeta (d : Dev) (bay : BayNo) : Dev :=
  ((d.bays.get bay).bands.filter (fun x => x.refresh && !x.isOpen && !x.erasing && decide (x.block < 128))).foldl (fun (d : Dev) (x : Band) =>
    d.clearBand bay (x.group, x.block) false 5) d

/-- The values that a failed block of a target band makes garbage collection relocate again, each with its source (R219 steps 4 and 5). -/
def Dev.againPairs (d : Dev) (bay : BayNo) : List (Copy × Copy) :=
  d.med.copies.filterMap (fun c =>
    if c.bay == bay && c.programmed && !c.dead && !d.moving c && d.names c then
      c.fallback.bind (fun f => (d.copyFor f.1 f.2).map (fun src => (src, c)))
    else none)

/-- One batch of garbage collection of a drive that is awake. -/
def Dev.gcBatch (d : Dev) (bay : BayNo) : Dev :=
  if !d.awake || !d.inService bay then d
  else match d.maint .gc with
    | (.r, _) =>
      let d0 := (d.rebuildsDone bay).refreshMeta bay
      match d0.againPairs bay with
      | (src, c) :: rest =>
        let (prio, d1) := d0.gcPriority bay
        d1.beginPairs .gc bay bay .cold c.group c.block prio ((src, c) :: rest.filter (fun x => x.2.group == c.group))
      | [] =>
      match d0.gcVictim bay with
      | none => d0
      | some x =>
        if d0.batchFull bay .cold x.group then d0
        else
          let (prio, d1) := d0.gcPriority bay
          let d2 := d1.modBay bay (fun b => b.modBand x.group x.block (fun y => { y with victim := true }))
          let d3 := if d.youngBand bay x && !x.victim then d2.openWorn bay x.group else d2
          let cs := takeRows d3.batchChunks 0 ((d3.liveIn bay x.group x.block).filter (fun c => !d3.moving c))
          let kind := if d.onFailed bay x then BatchKind.rebuild else .gc
          (d3.beginBatch kind bay bay .cold x.group x.block prio cs).eraseDead bay
    | (_, d1) => d1

def gcBatchEff (bay : BayNo) (d : Dev) : Dev := (d.wakeWork (d.gcDue bay)).gcBatch bay
/-- GC_BATCH (R217). -/
def execGcBatch (bay : BayNo) (s : State) : Host.Outcome State Fault Refusal := s.run (gcBatchEff bay)

/-! ## Balance (R208) -/

/-- The fullest cartridge in service. -/
def Dev.mostFull (d : Dev) : Option BayNo :=
  (d.baysIn (· == .inService)).foldl (fun (m : Option BayNo) (b : BayNo) =>
    match m with
    | none => some b
    | some a => if d.fill a < d.fill b then some b else some a) none

/-- The fill of a cartridge exceeds the mean by more than `media.balance_gap` per cent of a cartridge's user capacity. -/
def Dev.unbalanced (d : Dev) (bay : BayNo) : Bool :=
  let bs := d.baysIn (· == .inService)
  decide ((bs.map d.fill).sum / max 1 bs.length + d.pnum P.mediaBalanceGap * (6736 * 8321499136) / 100 < d.fill bay)

def balanceMoveEff (d : Dev) : Dev :=
  if !d.awake || d.par.mode == 5 || d.idx.buckets.any (fun b => b.movingFrom.isSome) then d
  else match d.maint .gc with
    | (.r, _) => match d.mostFull with
      | none => d
      | some f => match d.leastFull (some f), d.idx.buckets.find? (fun b => b.home == f && decide (0 < d.bucketBytes b)) with
        | some t, some b => if d.unbalanced f then d.startMove .balance b t else d
        | _, _ => d
    | (_, d1) => d1

/-- BALANCE_MOVE (R208). -/
def execBalanceMove (s : State) : Host.Outcome State Fault Refusal := s.run balanceMoveEff

/-! ## Patrol (R229 to R231) -/

/-- The pages of a band that have been programmed. -/
def Dev.bandPages (d : Dev) (bay : BayNo) (x : Band) : Nat :=
  let b := d.bays.get bay
  if x.next = 0 then 0
  else if x.gaps.isEmpty then x.next / max 1 ((b.dataDies x.group x.block).length * 16)
  else locPage (b.posLoc bay.val x.group x.block (x.next - 1)) + 1

/-- Every programmed page has been read in the lap. -/
def Dev.patrolOver (d : Dev) (bay : BayNo) : Bool :=
  let b := d.bays.get bay
  b.bands.all (fun x => (List.range (d.bandPages bay x)).all (fun r => b.patrolRows.contains (x.group, x.block, r)))

/-- The band is marked for refresh. -/
def Dev.marked (d : Dev) (bay : BayNo) (group block : Nat) : Bool := ((d.bays.get bay).band? group block).any (·.refresh)

/-- What a patrol read finds at one codeword (R231, R264): many iterations; a generation that its twin contradicts, which makes the chunk
unreadable; a codeword that no rebuild recovers. Patrol has no captured state and applies orders 1 to 3 only. -/
def Dev.patrolFinds (d : Dev) (bay : BayNo) (x : Band) (loc : Nat) (o : ReadOutcome) : Dev :=
  let mark (f : Copy → Nat → Copy) (d : Dev) : Dev := { d with med := { d.med with copies := d.med.copies.map (fun c =>
    match d.placeIn loc c.runs with
    | some i => f c i
    | none => c) } }
  match o with
  | .ok n => if iterationLimit * 80 < n * 100 then d.markRefresh bay x.group x.block 2 else d
  | .badHead _ _ k => if k ≤ 3 then ((mark (fun c i => c.markHead i 3) d).genTwinAt loc).bump (.headerFail 3) 1 else d
  | .lost _ => mark Copy.markLost d
  | _ => d

/-- An outcome of a patrol read as the row allows it: no chunk of an unprotected row is rebuilt (R219, R220). -/
def Dev.patrolOutcome (d : Dev) (loc : Nat) (i : Nat) (o : ReadOutcome) : ReadOutcome :=
  if o == .rebuilt && d.unprotectedAt loc then .lost i else o

/-- A host read under way on a codeword that patrol retries takes the outcome of that one retry sequence (R263). -/
def Dev.shareRetry (d : Dev) (loc : Nat) (o : ReadOutcome) : Dev :=
  if readStep o = 0 then d
  else
    let one (r : Read) : Read := match (d.copyFor r.loc r.gen).bind (fun c => d.placeIn loc c.runs) with
      | some i => if r.want.contains i ∧ r.arrived.isNone then { r with shared := r.shared ++ [(i, match o with
          | .lost _ => .lost i
          | .badHead _ n k => .badHead i n k
          | x => x)] } else r
      | none => r
    { d with med := { d.med with reads := d.med.reads.map one } }

/-- A lap ends with its event, and the next begins. -/
def Dev.patrolLap (d : Dev) (bay : BayNo) : Dev :=
  if d.patrolOver bay then
    let b := d.bays.get bay
    (d.modBay bay (fun y => { y with patrolRows := [], patrolSince := d.clk.tick, patrolMarked := 0 })).raise Ev.patrolLap bay.val
      ((d.clk.tick - b.patrolSince) / 3600000000) b.patrolMarked 0
  else d

/-- The patrol read of a row of a band, as one operation on all its dies. -/
def Bay.patrolOp (b : Bay) (bay : BayNo) (group block : Nat) : GovOp :=
  ⟨0, bay, 8, (b.rowDies group block).map (fun p => 32 * group + p), .read, 6, 0⟩

/-- The patrol read of a row of a band may begin: no operation of its cartridge waits (R229, R233: the lowest priority), its dies are free or busy
with what a read suspends (R200), and the budget holds a read on each die (R232). -/
def Dev.patrolMay (d : Dev) (bay : BayNo) (group block : Nat) : Bool :=
  let o := (d.bays.get bay).patrolOp bay group block
  !d.med.waiting.any (·.bay == bay) && !d.dieBusy o && !d.throttledOut bay &&
    decide (d.med.power bay + DieOp.read.cost * o.dies.length ≤ d.nandBudget bay)

/-- The operations that a patrol read finds on its dies are suspended while it lasts, once more each (R200). -/
def Dev.patrolSuspends (d : Dev) (bay : BayNo) (group block : Nat) : Dev :=
  let o := (d.bays.get bay).patrolOp bay group block
  { d with med := { d.med with running := d.med.running.map (fun r => if r.meets o then { r with suspends := r.suspends + 1 } else r) } }

/-- Patrol reads one page stripe of a band on all its dies (R229): each block read is counted (R231). -/
def Dev.patrolRow (d : Dev) (bay : BayNo) (group block row : Nat) : Dev :=
  ((d.bays.get bay).rowDies group block).foldl (fun (d : Dev) (p : Nat) =>
    (List.range 4).foldl (fun (d : Dev) (pl : Nat) => d.countRead (blockLoc bay group p pl block + row * 2 ^ 12)) d) d

/-- The lap of a cartridge lies within one day of its period (R229, R318). -/
def Dev.patrolDue (d : Dev) (bay : BayNo) : Bool :=
  d.inService bay &&
    decide ((d.pnum P.mediaPatrolDays - 1) * 86400000000 ≤ d.clk.tick - (d.bays.get bay).patrolSince)

/-- One patrol read of a drive that is awake. -/
def Dev.patrolRead (d : Dev) (bay : BayNo) (group block row : Nat) (o : ReadReport) : Dev :=
  if !d.awake || !d.inService bay then d
  else match (d.bays.get bay).band? group block with
    | none => d
    | some x =>
      if x.erasing || decide (d.bandPages bay x ≤ row) || !d.patrolMay bay group block then d
      else match d.maint .pat with
        | (.r, _) =>
          let b := d.bays.get bay
          let n := max 1 (b.pageStart group block (row + 1) - b.pageStart group block row)
          let loc (i : Nat) : Nat := b.posLoc bay.val group block (b.pageStart group block row + i % n)
          let fix (i : Nat) (o : ReadOutcome) : ReadOutcome := d.patrolOutcome (loc i) i o
          let r : ReadReport := { o with outcome := fix (reportChunk o) o.outcome, at_ := reportChunk o,
                                         others := o.others.map (fun y => (y.1, fix y.1 y.2)) }
          let found := ((reportChunk r, r.outcome) :: r.others).foldl (fun (d : Dev) (y : Nat × ReadOutcome) =>
            (d.patrolFinds bay x (loc y.1) y.2).shareRetry (loc y.1) y.2) (((d.patrolSuspends bay group block).patrolRow bay group block row).reportEffects 0 loc r)
          let d1 := if x.mode == .slc && decide (128 ≤ x.block) && decide (x.openedAt + 90 * dayNs ≤ d.clk.ns) then
              found.markRefresh bay x.group x.block 4 else found
          let new := d1.marked bay group block && !d.marked bay group block
          (d1.modBay bay (fun b => { b with
            patrolRows := ((group, block, row) :: b.patrolRows).dedup, patrolMarked := b.patrolMarked + new.toNat })).patrolLap bay
        | (_, d1) => d1

def patrolReadEff (bay : BayNo) (group block row : Nat) (o : ReadReport) (d : Dev) : Dev :=
  (d.wakeWork (d.patrolDue bay)).patrolRead bay group block row o
/-- PATROL_READ (R229). -/
def execPatrolRead (bay : BayNo) (group block row : Nat) (o : ReadReport) (s : State) : Host.Outcome State Fault Refusal :=
  s.run (patrolReadEff bay group block row o)

/-! ## Index pages and Forecast (R147, R150, R159, R167) -/

/-- An entry of a bucket changes. -/
def Bucket.modEntry (b : Bucket) (h : BitVec 128) (f : Entry → Entry) : Bucket :=
  { b with entries := b.entries.map (fun e => if e.hash == h then f e else e) }

/-- The page is cached and searched. -/
def Dev.pageCached (d : Dev) (b : Bucket) (f : Bucket → Bucket) : Dev :=
  let d1 := (d.endPageRead b).modBucket b.ns b.lo (fun x => { f x with cached := true, lastUsed := d.clk.tick })
  (d1.trimPages.capturePage b.ns b.lo b.hi)

/-- A twin as read that disagrees with its location: which one is a free value. -/
def badTwinOf (loc : Nat) (v : BitVec 48) : BitVec 48 := if v == locTwin loc then v ^^^ 1 else v

/-- An index page read completes (R147, R150). A page whose CRC fails is recovered as a media read; a page that cannot be recovered
loses its keys. -/
def indexPageReadDoneEff (n : BitVec 12) (lo : BitVec 64) (o : PageOutcome) (d : Dev) : Dev :=
  match d.idx.buckets.find? (fun b => b.ns == n && b.lo == lo.toNat && b.reading && (b.readId == 0 || d.opRuns b.readId)) with
  | none => d
  | some b =>
    match o with
    | .good => d.pageCached b (fun x => { x with twinOnce := none })
    | .crcRecovered => (d.rebuiltAt b.pageLoc true).pageCached b (fun x => { x with twinOnce := none })
    | .crcLost =>
      ((d.endPageRead b).modBucket n b.lo (fun x => { x with pageLost := true, twinOnce := none })).capturePage n b.lo b.hi
    | .twinBad h =>
      if !b.entries.any (·.hash == h) then d.pageCached b (fun x => { x with twinOnce := none })
      else if b.twinOnce == some h then
        let t := d.draw
        (t.2.raise Ev.indexTwin n.toNat (h.toNat / 2 ^ 96) 2 0).pageCached b (fun x =>
          { (x.modEntry h (fun e => { e with twin := badTwinOf e.loc (t.1.setWidth 48) })) with twinOnce := none })
      else
        (b.wanted.foldl (fun (d : Dev) (s : Nat) => d.readPage n b.lo s)
          ((d.endPageRead b).modBucket n b.lo (fun x => { x with twinOnce := some h }))).raise Ev.indexTwin n.toNat (h.toNat / 2 ^ 96) 1 0

/-- INDEX_PAGE_READ_DONE (R147). -/
def execIndexPageReadDone (n : BitVec 12) (lo : BitVec 64) (o : PageOutcome) (s : State) : Host.Outcome State Fault Refusal :=
  s.run (indexPageReadDoneEff n lo o)

/-- One step of the fingerprint rebuild (R159): the page is read and the bucket's fingerprints are written; at the end
`EV_FP_REBUILD_DONE`. -/
def fpRebuildStepEff (n : BitVec 12) (lo : BitVec 64) (d : Dev) : Dev :=
  match d.idx.buckets.find? (fun b => b.ns == n && b.lo == lo.toNat && !b.fpValid) with
  | none => d
  | some b =>
    if !d.awake || d.homeAbsent b || b.pageLost then d
    else ((if b.cached || b.pageLoc = 0 then d else d.countRead b.pageLoc).modBucket n b.lo (fun x => { x with fpValid := true })).fpDone d

/-- FP_REBUILD_STEP (R159). -/
def execFpRebuildStep (n : BitVec 12) (lo : BitVec 64) (s : State) : Host.Outcome State Fault Refusal := s.run (fpRebuildStepEff n lo)

/-- A tenant's window ends (R167): speculation that missed too often is suspended for the next one; a suspended tenant whose token
checks would have met the ratio resumes. A window without token checks keeps the suspension: DESIGN CHOICE, log entry 240. -/
def Dev.windowEnd (d : Dev) (w : SpecWindow) : Dev :=
  let limit := d.pnum P.forecastSquashRatioMax
  let much := decide (1000 < w.issued) && decide (limit * w.issued < 100 * w.missed)
  let met := decide (100 * w.tokensStale ≤ limit * w.tokens) && decide (0 < w.tokens)
  let next := if w.suspended then !met else much
  let d1 := d.modSpec w.tenant (fun x => { x with issued := 0, missed := 0, tokens := 0, tokensStale := 0, suspended := next })
  if !w.suspended && next then
    (d1.raise Ev.forecastSuspend w.tenant.toNat (1000 * w.missed / w.issued) w.issued 0).bump (.drive .fcSuspended) 1
  else if w.suspended && !next then d1.raise Ev.forecastResume w.tenant.toNat 0 0 0
  else d1

def forecastWindowEff (d : Dev) : Dev :=
  if d.par.run != .running then d
  else d.med.spec.foldl (fun (d : Dev) (w : SpecWindow) => d.windowEnd w) d

/-- FORECAST_SUSPEND_WINDOW (R167). -/
def execForecastSuspendWindow (s : State) : Host.Outcome State Fault Refusal := s.run forecastWindowEff

end Sys2Proof.Machine
end

