-- ==== Sys2Proof/Machine/Links.lean ====
section
/-! DEFINITION. The links and their modules (R28, R29, R60, R443), and the retransmission timers (R38, R286). -/

namespace Sys2Proof.Machine

/-- A retransmission timer expires: a session's (R38) or that of the peer link (R286). -/
def rtoExpiryEff (t : RtoTarget) (d : Dev) : Dev :=
  match t with
  | .session sid => d.sessionRto sid
  | .peer => d.cwRto

/-- RTO_EXPIRY (R38). -/
def execRtoExpiry (t : RtoTarget) (s : State) : Host.Outcome State Fault Refusal := s.run (rtoExpiryEff t)

/-- The most power a module may declare, in 0.1 W (R29). -/
abbrev modulePowerMax : Nat := 120

/-- A module is inserted (R29): one that declares more than 12 W is held in low-power mode and reported. -/
def moduleInsertEff (l : Link) (power : Nat) (d : Dev) : Dev :=
  if (d.net.links.get l).module.isSome then d
  else
    let refused := decide (modulePowerMax < power)
    let d1 := d.modLink l (fun x => { x with module := some power, refused := refused })
    if refused && d.mgmt.vaneUp then d1.raise Ev.moduleRefused l.val power 0 0 else d1

/-- MODULE_INSERT (R29). -/
def execModuleInsert (l : Link) (powerTenthW : Nat) (s : State) : Host.Outcome State Fault Refusal := s.run (moduleInsertEff l powerTenthW)

/-- A module is removed: its link goes down with it (R455). -/
def moduleRemoveEff (l : Link) (d : Dev) : Dev :=
  (d.downLink l 1).modLink l (fun x => { x with module := none, refused := false })

/-- MODULE_REMOVE (R455). -/
def execModuleRemove (l : Link) (s : State) : Host.Outcome State Fault Refusal := s.run (moduleRemoveEff l)

/-- A link may come up: its module is there and admitted, and the rung keeps the cages on (R29, R317). -/
def Dev.linkMay (d : Dev) (l : Link) : Bool :=
  let x := d.net.links.get l
  x.module.isSome && !x.refused && !x.up && (d.par.run == .running || d.par.run == .starting) &&
    (d.pow.rung == .clear || d.pow.rung == .haze || d.pow.rung == .fog)

/-- The mode of a link in Gb/s: a data port's parameter, 200GbE on the peer port (R28). -/
def Dev.linkMode (d : Dev) (l : Link) : Nat :=
  if l = 0 then d.pnum P.transportPort0Mode else if l = 1 then d.pnum P.transportPort1Mode else 200

/-- A link comes up after a training of `us` µs (R29). A retrain is the safe point of the port parameters (R443); on the peer link a
paired drive says HELLO (R287). -/
def linkUpEff (l : Link) (us pmd : Nat) (d : Dev) : Dev :=
  if d.linkMay l then
    let d0 := if h : l.val < 2 then d.applyCommitted (retrains ⟨l.val, h⟩) else d
    let mode := d0.linkMode l
    let d1 := (d0.modLink l (fun x => { x with up := true, mode := mode, linkUpUs := us })).raise (Ev.linkUp (linkSrc l)) mode us pmd 0
    if l = 2 then d1.sendHello else d1
  else d

/-- LINK_UP (R29). -/
def execLinkUp (l : Link) (us pmd : Nat) (s : State) : Host.Outcome State Fault Refusal := s.run (linkUpEff l us pmd)

/-- The cause of `EV_LINK_DOWN` (R60). -/
def LinkCause.num (c : LinkCause) : Nat :=
  match c with
  | .lossOfSignal => 1
  | .fecRate => 2

/-- LINK_DOWN (R60). -/
def execLinkDown (l : Link) (cause : LinkCause) (s : State) : Host.Outcome State Fault Refusal :=
  s.run (fun (d : Dev) => d.downLink l (LinkCause.num cause))

end Sys2Proof.Machine
end

