-- ==== Sys2Proof/Machine/CartEvents.lean ====
section
/-! DEFINITION. What happens to a cartridge in its bay: insertion and the checks (R239, R240, R245, R248), the latch and the quiesce
(R250), removal and surprise loss (R251), the wear record's timer (R243) and its LED (R256). -/

namespace Sys2Proof.Machine

/-- The drive powers its bays: it starts or runs, on a rung above Frost (R249, R317, R423). -/
def Dev.bayPower (d : Dev) : Bool :=
  (d.par.run == .running || d.par.run == .starting) && d.pow.failing.isNone &&
    (d.pow.rung == .clear || d.pow.rung == .haze || d.pow.rung == .fog)

/-! ## Insertion (R248) -/

/-- The bay still owes its bound cartridge: what is inserted is a guest of it (R245). -/
def Bay.owes (b : Bay) : Bool := b.bound.isSome && (b.state == .missing || b.state == .failed)

/-- The checks of R239 begin, or wait for the latch. -/
def Bay.toCheck (b : Bay) : Bay :=
  let b1 : Bay := { b with reason := 0, railsOn := !b.latchOpen }
  if b.owes then { b1 with guestState := .authenticating } else { b1 with state := .authenticating }

/-- A presence line asserts. Below Fog, and while the rails are off, it is recorded only (R249). -/
def presenceAssertEff (bay : BayNo) (c : CartFacts) (d : Dev) : Dev :=
  if (d.bays.get bay).present then d
  else
    let d1 := d.modBay bay (fun b => { b with present := true, held := false, guest := some c, guestState := .empty, pollFails := 0 })
    if d1.bayPower then ((d1.wakeIf 7).challenge bay).modBay bay Bay.toCheck else d1

/-- CART_PRESENCE_ASSERT (R248). -/
def execCartPresenceAssert (bay : BayNo) (c : CartFacts) (s : State) : Host.Outcome State Fault Refusal := s.run (presenceAssertEff bay c)

/-! ## The checks (R239, R240) -/

/-- The checks of R239 run on the cartridge in the bay. -/
def Dev.checking (d : Dev) (bay : BayNo) : Bool :=
  let b := d.bays.get bay
  d.bayPower && b.present && !b.latchOpen && (b.state == .authenticating || b.guestState == .authenticating)

/-- What the cartridge in the bay shows. -/
def Dev.facts (d : Dev) (bay : BayNo) : Option CartFacts :=
  let b := d.bays.get bay
  match b.guest, b.cart with
  | some f, _ => some f
  | none, some c => some { cart := c, table := [], wear := b.wear, base := b.wearBase, retired := b.retired, journalSeq := d.lastJseq bay }
  | none, none => none

/-- Stored state and bind_count of the valid slot used, 0 for both where no slot is valid (R248). -/
def usedSlot (f : CartFacts) : Nat × Nat :=
  match slotUsed f.cart with
  | some i => ((f.cart.slots.get i).stored, (f.cart.slots.get i).bindCount)
  | none => (0, 0)

/-- Where the checks leave a cartridge that does not serve: in its bay's state, or beside a bay that owes its bound cartridge (R247). -/
def Bay.leftAs (b : Bay) (s : BayState) (reason : Nat) : Bay :=
  if b.bound.isSome then
    { b with state := if b.state == .failed then .failed else .missing, guestState := s, reason := reason, railsOn := false }
  else { b with state := s, guestState := .empty, reason := reason, railsOn := s == .authenticated }

/-- A cartridge is refused (R240): it is not powered further and never written. -/
def Dev.refuseCart (d : Dev) (bay : BayNo) (f : CartFacts) (reason : Nat) : Dev :=
  ((d.modBay bay (fun b => b.leftAs .refused reason)).raise (Ev.cartRefused (baySrc bay)) reason (usedSlot f).1
    (serialHead f.cart.serial) (serialNext f.cart.serial)).refreshMode 2

/-- `EV_CART_RECORD_TWIN` for a slot. `use`: 1 the other slot is used, 2 the record is rebuilt (R243); the spec gives no value where
neither holds (log entry 2). -/
def Dev.recordTwin (d : Dev) (bay : BayNo) (f : CartFacts) (i : Fin 2) (use : Option Nat) : Dev :=
  match use with
  | some u => d.raise (Ev.cartRecordTwin (baySrc bay)) i.val (slotFault (f.cart.slots.get i)) u 0
  | none =>
    let (v, d1) := d.draw
    d1.raise (Ev.cartRecordTwin (baySrc bay)) i.val (slotFault (f.cart.slots.get i)) (v.toNat % 2 ^ 32) 0

/-- Slots whose CRC is correct and whose twin disagrees are reported, unless the record is going to be rebuilt (R243). -/
def Dev.slotTwinEvents (d : Dev) (bay : BayNo) (f : CartFacts) : Dev :=
  let used := (slotUsed f.cart).isSome
  if !used && (d.bays.get bay).bound == some f.cart.serial then d
  else [(0 : Fin 2), 1].foldl (fun (d : Dev) (i : Fin 2) =>
    let s := f.cart.slots.get i
    if s.crcOk && !slotTwins s then d.recordTwin bay f i (if used then some 1 else none) else d) d

/-- A cartridge that is the bay's own is admitted: attached again now, at the end of the start, or once the mode allows (R249). One
without a valid slot has its record rebuilt and written (R243). -/
def Dev.admitOwn (d : Dev) (bay : BayNo) (f : CartFacts) : Dev :=
  let rebuilt := (slotUsed f.cart).isNone
  let d0 := if rebuilt then (((d.recordTwin bay f 0 (some 2)).recordTwin bay f 1 (some 2)).modBay bay (fun b =>
    { b with cart := some f.cart, guest := none })).writeSlot bay 2 else d
  let d1 := d0.modBay bay (fun b => { b with state := .authenticated, guestState := .empty, reason := 0 })
  if d1.par.run == .running && d1.attaches then d1.reattach bay (!(d1.bays.get bay).held) else d1

/-- A cartridge to bind is admitted: bound at once where the bay is free and the mode allows it, else it waits (R245, R249). -/
def Dev.admitBind (d : Dev) (bay : BayNo) : Dev :=
  let d1 := d.modBay bay (fun b => b.leftAs .authenticated 0)
  if (d1.bays.get bay).bound.isNone && d1.par.run == .running && d1.attaches then d1.bindBay bay else d1

/-- A cartridge of another drive, or one that this drive's record does not name (R245); a RECLAIM that a stop has cut begins again
(R255). -/
def Dev.admitForeign (d : Dev) (bay : BayNo) (f : CartFacts) : Dev :=
  if (d.bays.get bay).reclaiming == some f.cart.serial then d.reclaimStart none bay
  else
    let u := usedSlot f
    ((d.modBay bay (fun b => b.leftAs .foreign 0)).raise (Ev.cartForeign (baySrc bay)) (serialHead (formerDrive f)) u.2
      (serialHead f.cart.serial) (serialNext f.cart.serial)).refreshMode 2

/-- Checks 5 and 6 of R239, with the event of step 8 of R248. A cartridge to bind whose media parameter table does not hash to that of its
manufacture record (step 9) is refused with DIE_MISMATCH, DESIGN CHOICE, log entry 241. -/
def Dev.admitCart (d : Dev) (bay : BayNo) (f : CartFacts) : Dev :=
  let u := usedSlot f
  let d1 := (d.slotTwinEvents bay f).raise (Ev.cartInserted (baySrc bay)) u.1 u.2 (serialHead f.cart.serial) (serialNext f.cart.serial)
  match d1.admission bay f with
  | .own => d1.admitOwn bay f
  | .bind => if Config.sha256 f.table == f.cart.made.tableHash then d1.admitBind bay else d1.refuseCart bay f 4
  | .foreign => d1.admitForeign bay f
  | .refuse r => d1.refuseCart bay f r

/-- The model and hardware revision are ones that the running firmware supports (R239 check 1): revision B at least (R244; log entry 241). -/
def Dev.madeOk (d : Dev) (m : MadeRec) : Bool :=
  m.model == ascii "IVC-64Q" && ((0x42 : Byte) :: Config.moreRevisions (d.upd.pkg d.upd.activeSlot)).contains m.hwRev

/-- All 256 dies answer, and their unique IDs hash to the die inventory hash (R238, R239 check 4). -/
def diesOk (a : CartAnswer) (m : MadeRec) : Bool :=
  a.dieIds.length == 256 && a.dieIds.all (·.isSome) && Config.sha256 (a.dieIds.flatMap (fun x => x.getD [])) == m.dieHash

/-- The first of the checks 1 to 4 that fails (R239, R240). -/
def Dev.firstRefusal (d : Dev) (bay : BayNo) (f : CartFacts) (a : CartAnswer) : Option Nat :=
  if !(a.chainOk && d.madeOk f.cart.made) then some 1
  else if a.signed != some ((d.bays.get bay).challenged bay f.cart) then some 2
  else if Config.revoked (d.upd.pkg d.upd.activeSlot) f.cart.serial then some 3
  else if !diesOk a f.cart.made then some 4
  else none

def cartAuthResponseEff (bay : BayNo) (a : CartAnswer) (d : Dev) : Dev :=
  if !d.checking bay then d
  else match d.facts bay with
    | none => d
    | some f => (match d.firstRefusal bay f a with
      | some r => d.refuseCart bay f r
      | none => d.admitCart bay f).startGo

/-- CART_AUTH_RESPONSE (R239). -/
def execCartAuthResponse (bay : BayNo) (a : CartAnswer) (s : State) : Host.Outcome State Fault Refusal := s.run (cartAuthResponseEff bay a)

/-- The authenticator has not answered within 2 s (R240): reason SIGNATURE. -/
def cartAuthTimeoutEff (bay : BayNo) (d : Dev) : Dev :=
  if !d.checking bay then d
  else match d.facts bay with
    | none => d
    | some f => (d.refuseCart bay f 2).startGo

/-- CART_AUTH_TIMEOUT (R240). -/
def execCartAuthTimeout (bay : BayNo) (s : State) : Host.Outcome State Fault Refusal := s.run (cartAuthTimeoutEff bay)

/-! ## The latch (R250) -/

/-- A quiesced cartridge whose latch has closed again is authenticated again; its presence never dropped, so no replay follows. -/
def Dev.recheck (d : Dev) (bay : BayNo) : Dev :=
  (d.challenge bay).modBay bay (fun b => { b with state := .authenticating, guest := d.facts bay, guestState := .empty, held := true, railsOn := true, reason := 0 })

/-- The quiesce is over (R250); a latch closed in the meantime starts the checks. -/
def Dev.quiesceDone (d : Dev) (bay : BayNo) : Dev :=
  let d1 := d.quiesceEnd bay
  if (d1.bays.get bay).latchOpen then d1 else d1.recheck bay

/-- Quiesces whose work is done end; one that a RELEASE has overtaken is over (R255). -/
def Dev.quiescesOn (d : Dev) : Dev :=
  (List.finRange 4).foldl (fun (d : Dev) (b : BayNo) =>
    let y := d.bays.get b
    if y.quiesceSince.isNone || y.state == .releasing then d
    else if !y.state.serving then d.modBay b (fun y => { y with quiesceSince := none })
    else if d.quiesceBusy b then d else d.quiesceDone b) d

/-- A latch opens: a quiesce starts where the cartridge serves; the checks wait, rails off. -/
def latchOpenEff (bay : BayNo) (d : Dev) : Dev :=
  let b := d.bays.get bay
  if b.latchOpen then d
  else
    let d1 := d.modBay bay (fun b => { b with latchOpen := true })
    if !b.present || !d.bayPower then d1
    else match b.state with
      | .inService | .evacuating | .evacuated | .releasing =>
        (d1.modBay bay (fun b => { b with
          quiesceSince := some d.clk.tick, quiesceSeq := d.que.nextSeq - 1, quiesceWriters := d.openWriters bay, cutFailed := 0,
          cutLost := 0 })).quiescesOn
      | .authenticating => d1.modBay bay (fun b => { b with railsOn := false })
      | _ => if b.guestState == .authenticating then d1.modBay bay (fun b => { b with railsOn := false }) else d1

/-- CART_LATCH_OPEN (R250). -/
def execCartLatchOpen (bay : BayNo) (s : State) : Host.Outcome State Fault Refusal := s.run (latchOpenEff bay)

/-- A latch closes: the checks begin or go on (R248, R250). -/
def latchCloseEff (bay : BayNo) (d : Dev) : Dev :=
  let b := d.bays.get bay
  if !b.latchOpen then d
  else
    let d1 := d.modBay bay (fun b => { b with latchOpen := false })
    if !b.present || !d.bayPower then d1
    else if b.state == .quiesced then d1.recheck bay
    else if b.state == .authenticating || b.guestState == .authenticating then d1.modBay bay (fun b => { b with railsOn := true })
    else d1

/-- CART_LATCH_CLOSE (R248). -/
def execCartLatchClose (bay : BayNo) (s : State) : Host.Outcome State Fault Refusal := s.run (latchCloseEff bay)

/-- 700 ms after the latch opened, what still runs ends as at a surprise loss, and the quiesce goes on (R250); a RELEASE that has not
completed leaves the bay MISSING (R255). -/
def quiesceDeadlineEff (bay : BayNo) (d : Dev) : Dev :=
  let b := d.bays.get bay
  if b.quiesceSince.isNone || !d.bayPower then d
  else if b.state == .releasing then d.surprise bay false 0 0
  else if !b.state.serving then d
  else if d.quiesceBusy bay then
    let (f, l, d1) := (d.modBay bay (fun y => { y with state := .quiesced })).loseWork bay
    ((d1.modBay bay (fun y => { y with
      state := b.state, cutFailed := f, cutLost := l, quiesceWriters := y.quiesceWriters - (f + l) })).quiesceDone bay).mediaAdvance
  else d.quiesceDone bay

/-- QUIESCE_DEADLINE (R250). -/
def execQuiesceDeadline (bay : BayNo) (s : State) : Host.Outcome State Fault Refusal := s.run (quiesceDeadlineEff bay)

/-! ## Removal and loss (R250, R251) -/

/-- A presence line drops: after a quiesce without loss, else a surprise loss, that of a bound cartridge whose checks run again too. Below Fog it is recorded (R318). -/
def presenceDropEff (bay : BayNo) (d : Dev) : Dev :=
  let b := d.bays.get bay
  if !b.present then d
  else if !d.bayPower then d.modBay bay (fun b => if b.state.serving || b.state == .quiesced then
      { b with present := false, held := false } else b.emptied)
  else if b.state.serving || (b.bound.isSome && (b.state == .authenticating || b.state == .authenticated)) then
    (d.loseCart bay false 0 0).startGo
  else
    let d1 := d.modBay bay Bay.emptied
    let d2 := if b.state == .quiesced then d1.raise (Ev.cartRemoved (baySrc bay)) 1 b.cutFailed b.cutLost 0 else d1
    (d2.refreshMode 2).startGo

/-- CART_PRESENCE_DROP (R251). -/
def execCartPresenceDrop (bay : BayNo) (s : State) : Host.Outcome State Fault Refusal := s.run (presenceDropEff bay)

/-- A liveness poll, once a second: the third failure in a row is a loss. -/
def livenessPollEff (bay : BayNo) (answered : Bool) (d : Dev) : Dev :=
  let b := d.bays.get bay
  if !b.state.serving || !d.bayPower then d
  else if answered then d.modBay bay (fun b => { b with pollFails := 0 })
  else if 3 ≤ b.pollFails + 1 then d.loseCart bay true 2 0
  else d.modBay bay (fun b => { b with pollFails := b.pollFails + 1 })

/-- CART_LIVENESS_POLL (R251). -/
def execCartLivenessPoll (bay : BayNo) (answered : Bool) (s : State) : Host.Outcome State Fault Refusal :=
  s.run (livenessPollEff bay answered)

/-- A cartridge rail faults. -/
def railFaultEff (bay : BayNo) (d : Dev) : Dev :=
  if (d.bays.get bay).state.serving && d.bayPower then d.loseCart bay true 1 0 else d

/-- CART_RAIL_FAULT (R251). -/
def execCartRailFault (bay : BayNo) (s : State) : Host.Outcome State Fault Refusal := s.run (railFaultEff bay)

/-! ## Timers (R243, R256) -/

/-- Every `cart.wear_sync_h` hours a wear-record slot is written; the work wakes the drive (R318). -/
def wearSyncEff (bay : BayNo) (d : Dev) : Dev :=
  if (d.bays.get bay).state.serving then
    let d1 := if d.pow.rung == .glaze then d else d.wakeIf 6
    if d1.bayPower then d1.writeSlot bay 2 else d1
  else d

/-- WEAR_SYNC_TIMER (R243). -/
def execWearSyncTimer (bay : BayNo) (s : State) : Host.Outcome State Fault Refusal := s.run (wearSyncEff bay)

/-- CART_LOCATE_EXPIRY (R256): 60 s of locating are over. -/
def execCartLocateExpiry (bay : BayNo) (s : State) : Host.Outcome State Fault Refusal :=
  s.run (fun (d : Dev) => d.modBay bay (fun b => { b with locate := false }))

end Sys2Proof.Machine
end

