-- ==== Sys2Proof/Machine/Sensors.lean ====
section
/-! DEFINITION. Vane's sensors (R341, R342), drive time (R349 to R351) and the Barograph's flushes by count, severity and age (R361). -/

namespace Sys2Proof.Machine

/-! ## Sensors (R341) -/

/-- Nominal voltage in mV and current full scale in mA of a rail (R341). -/
def railNominal (r : Nat) : Nat := [12000, 3300, 3300, 750, 900, 1200, 1100, 1800, 800, 1000, 12000, 12000, 12000, 12000].getD (r - 1) 0
def railFullScale (r : Nat) : Nat :=
  [15000, 2000, 12000, 40000, 10000, 10000, 12000, 2000, 10000, 1000, 2000, 2000, 2000, 2000].getD (r - 1) 0

/-- mV of a step of a rail's voltage sensor. -/
def railStep (r : Nat) : Nat := if r = 1 then 10 else 1

/-- A numeric sensor's range in units of its resolution; none for a state sensor or an ID that no sensor has (R341). -/
def sensorRange (id : Nat) : Option (Int × Int) :=
  if 1 ≤ id ∧ id ≤ 8 ∨ 17 ≤ id ∧ id ≤ 24 then some (-160, 600)
  else if 9 ≤ id ∧ id ≤ 16 then some (-160, 500)
  else if 25 ≤ id ∧ id ≤ 48 ∨ 63 ≤ id ∧ id ≤ 64 ∨ 68 ≤ id ∧ id ≤ 72 then some (-80, 250)
  else if 49 ≤ id ∧ id ≤ 62 then some (-80, 300)
  else if 65 ≤ id ∧ id ≤ 67 then some (-40, 125)
  else if id = 73 then some (-160, 340)
  else if 101 ≤ id ∧ id ≤ 114 then some (0, railNominal (id - 100) * 133 / (100 * railStep (id - 100)))
  else if 121 ≤ id ∧ id ≤ 134 then some (0, 4096)
  else if id = 141 then some (0, 3500)
  else if id = 142 then some (0, 200000)
  else if id = 143 then some (0, 2000)
  else none

/-- The state sensors (R341). -/
def isStateSensor (id : Nat) : Bool := decide (151 ≤ id) && decide (id ≤ 161)

/-- A temperature sensor's units per °C (R341). -/
def sensorUnits (id : Nat) : Nat :=
  if id ≤ 24 ∨ id = 73 then 4 else if 65 ≤ id ∧ id ≤ 67 then 1 else 2

/-- The group of R325 that a temperature point belongs to. -/
def sensorGroup (id : Nat) : Option Nat := (List.range 7).find? (fun g => (groupPoints g).contains id)

/-- The TRIP threshold of a group in °C (R325). -/
def groupTrip (o : Nat) (g : Nat) : Option Int :=
  match g with
  | 0 => some 120
  | 1 => some 105
  | 2 => some (115 - o)
  | 3 => some 90
  | 4 => some 125
  | _ => none

/-- WARN, STOP and TRIP of a temperature point in its own units (R345, R347). -/
def Dev.sensorLimits (d : Dev) (id : Nat) : List (Option Int) :=
  match sensorGroup id with
  | none => [none, none, none]
  | some g =>
    let o := d.pnum P.galeStepOffsetC
    let u : Int := sensorUnits id
    [some (groupWarn g * u), (groupStop o g).map (· * u), (groupTrip o g).map (· * u)]

/-- How many of its limits a reading exceeds: the level a threshold crossing reports. -/
def Dev.sensorLevel (d : Dev) (id : Nat) (v : Int) : Nat := ((d.sensorLimits id).filter (above v)).length

/-- A sensor as it was last read. -/
def Dev.sensor (d : Dev) (id : Nat) : SensorState :=
  (d.mgmt.sensors.find? (·.id == id)).getD { id := id, value := 0, fail := 0, same := 0, outSince := none, raised := false }

/-- The reading of a state sensor (R341). -/
def Dev.stateSensor (d : Dev) (id : Nat) : Nat :=
  let bay (n : Nat) (f : Bay → Bool) : Nat := ((d.bays.toList.map f).getD n false).toNat
  if id = 159 then d.pow.bank.state.num
  else if id = 160 then d.pow.rung.num
  else if id = 161 then d.pow.pwrFail.toNat
  else if 155 ≤ id then bay (id - 155) (fun (b : Bay) => b.latchOpen)
  else bay (id - 151) (fun (b : Bay) => b.present)

/-- Periods with the same value after which a point is stuck (R342). -/
abbrev stuckPeriods : Nat := 100

/-- Another point of the sensor's group has changed within those periods. -/
def Dev.groupMoves (d : Dev) (id : Nat) : Bool :=
  match sensorGroup id with
  | none => false
  | some g => (groupPoints g).any (fun p => p != id && d.mgmt.sensors.any (fun s => s.id == p && decide (s.same < stuckPeriods)))

/-- Which failure a reading shows (R342): 0 none, 1 no answer, 2 out of range, 3 stuck. -/
def Dev.sensorFault (d : Dev) (id same : Nat) (r : SensorReading) : Nat :=
  match r with
  | .noAnswer => 1
  | .value v => match sensorRange id with
    | none => 0
    | some (lo, hi) => if v < lo ∨ hi < v then 2 else if stuckPeriods ≤ same ∧ d.groupMoves id then 3 else 0

/-- Stores what a sensor shows. -/
def Dev.setSensor (d : Dev) (s : SensorState) : Dev :=
  { d with mgmt := { d.mgmt with sensors := s :: d.mgmt.sensors.filter (·.id != s.id) } }

/-- A reading enters the sensor's record; a failure that is new is an event, a crossed limit is sent to the PLDM receiver (R342,
R348). -/
def Dev.readSensor (d : Dev) (id : Nat) (r : SensorReading) : Dev :=
  let old := d.sensor id
  let v := match r with
    | .value v => v
    | .noAnswer => old.value
  let same := if v = old.value then old.same + 1 else 0
  let f := d.sensorFault id same r
  let d1 := d.setSensor { old with value := v, same := same, fail := f }
  let d2 := if f ≠ 0 ∧ f ≠ old.fail then d1.raise Ev.sensorFail id f 0 0 else d1
  let l := d.sensorLevel id v
  if f = 0 ∧ l ≠ d.sensorLevel id old.value then d2.queuePldm (.sensor id l) else d2

/-- A rail outside ±8 % of its nominal voltage (R342). -/
def railOut (rail mv : Nat) : Bool :=
  decide (railNominal rail * 108 < mv * 100) || decide (mv * 100 < railNominal rail * 92)

/-- The current of a rail in mA, as its sensor last showed it. -/
def Dev.railCurrent (d : Dev) (rail : Nat) : Nat := (d.sensor (120 + rail)).value.toNat * railFullScale rail / 4096

/-- A rail's voltage: outside its limits for 10 ms is an event (R342). -/
def Dev.railCheck (d : Dev) (rail : Nat) : Dev :=
  let s := d.sensor (100 + rail)
  let mv := s.value.toNat * railStep rail
  if s.fail != 0 then d
  else if railOut rail mv then
    let since := s.outSince.getD d.clk.tick
    if since + 10000 ≤ d.clk.tick ∧ !s.raised then
      (d.setSensor { s with outSince := some since, raised := true }).raise Ev.railLimit rail mv (d.railCurrent rail) (railNominal rail)
    else d.setSensor { s with outSince := some since }
  else d.setSensor { s with outSince := none, raised := false }

/-- The 12 V input below 11.0 V is a power-fail warning (R330, R342). -/
def Dev.inputCheck (d : Dev) : Dev :=
  let s := d.sensor 101
  if s.fail == 0 && decide (s.value < 1100) then powerFailWarningEff .inputLow d else d

/-- A sample of a sensor: its record, and what R342 makes of it. -/
def sensorSampleEff (id : Nat) (r : SensorReading) (d : Dev) : Dev :=
  if !d.mgmt.vaneUp || (sensorRange id).isNone then d
  else
    let d1 := d.readSensor id r
    if id = 141 then
      ({ d1 with pow := { d1.pow with bank := { d1.pow.bank with volts := (d1.sensor 141).value.toNat } } } : Dev).refreshBank 2
    else if id = 63 ∨ id = 64 then d1.refreshBank 3
    else if id = 101 then (d1.railCheck 1).inputCheck
    else if 102 ≤ id ∧ id ≤ 114 then d1.railCheck (id - 100)
    else d1

/-- SENSOR_SAMPLE (R342). -/
def execSensorSample (id : Nat) (reading : SensorReading) (s : State) : Host.Outcome State Fault Refusal := s.run (sensorSampleEff id reading)

/-! ## Time (R349 to R351) -/

/-- A correction of drive time by `delta` ns (R350): forward by more than 1 s it is a step, else it is slewed; time never moves back. -/
def Dev.correct (d : Dev) (delta : Int) : Dev :=
  if 1000000000 < delta then
    { d with clk := { d.clk with ns := d.clk.ns + delta.toNat, slew := 0, slewStep := 0 } }
  else
    let d1 : Dev := { d with clk := { d.clk with slew := delta, slewStep := 0 } }
    if delta < -1000000000 then
      d1.raise Ev.timeAhead (delta.natAbs / 1000000) (delta.natAbs / (1000 * d.pnum P.mgmtTimeSlewPpm)) 0 0
    else d1

/-- The time is set by a host (R349): refused while PTP is LOCKED. In HOLDOVER the correction applies and the source, which ranks
higher, stays. Answers whether it was taken. -/
def Dev.hostTime (d : Dev) (ns : Nat) : Bool × Dev :=
  if d.clk.source = .ptpLocked then (false, d)
  else
    let delta : Int := (ns : Int) - d.clk.ns
    let d1 := d.correct delta
    (true, if d.clk.source = .ptpHoldover then d1 else d1.setSource .host (delta / 1000000))

/-- The port that `mgmt.ptp_port` selects: none is the management port (R351). -/
def Dev.ptpOn (d : Dev) (p : Option Port) : Bool :=
  match p with
  | none => d.pnum P.mgmtPtpPort == 1 && d.mgmt.linkUp && d.mgmt.vaneUp
  | some q => d.pnum P.mgmtPtpPort == 2 + q.val && d.portUp q

/-- A Sync with its measured offset from the time transmitter: the time is corrected; within ±1 µs for 16 s the clock is LOCKED. -/
def Dev.ptpSync (d : Dev) (p : Option Port) (offset : Int) : Dev :=
  if !d.clk.ptpMaster then d
  else
    let since := if offset.natAbs ≤ 1000 then some (d.clk.ptpWithinSince.getD d.clk.tick) else none
    let d1 := ({ d with clk := { d.clk with ptpWithinSince := since } } : Dev).emitOut (.ptpDelayReq p)
    let d2 := d1.correct (-offset)
    match since with
    | some t => if t + 16000000 ≤ d.clk.tick then d2.setSource .ptpLocked (-offset / 1000000) else d2
    | none => d2

/-- A PTP message (R351): on another port it is other traffic (R33). A frame for the drive on a data port wakes it (R318). -/
def ptpMessageEff (p : Option Port) (m : PtpMsg) (d : Dev) : Dev :=
  if d.ptpOn p then
    let d1 := if p.isSome then d.wakeIf 1 else d
    match m with
    | .announce ok => if ok then { d1 with clk := { d1.clk with ptpMaster := true } } else d1
    | .sync offset => d1.ptpSync p offset
    | .other => d1
  else match p with
    | some q => if d.portUp q then d.bump (.port q .otherDrop) 1 else d
    | none => d

/-- PTP_MESSAGE (R351). -/
def execPtpMessage (p : Option Port) (m : PtpMsg) (s : State) : Host.Outcome State Fault Refusal := s.run (ptpMessageEff p m)

/-- No announce for three intervals (R351): a LOCKED clock goes to HOLDOVER. -/
def ptpTimeoutEff (d : Dev) : Dev :=
  if !d.clk.ptpMaster then d
  else
    let d1 : Dev := { d with clk := { d.clk with ptpMaster := false, ptpWithinSince := none } }
    if d.clk.source = .ptpLocked then d1.setSource .ptpHoldover 0 else d1

/-- PTP_ANNOUNCE_TIMEOUT (R351). -/
def execPtpAnnounceTimeout (s : State) : Host.Outcome State Fault Refusal := s.run ptpTimeoutEff

/-- The persisted time is written at most once every 10 minutes (R349). -/
def persistedTimeEff (d : Dev) : Dev :=
  if !d.mgmt.vaneUp then d
  else match d.clk.persistedAt with
    | some t => if t + 600000000 ≤ d.clk.tick then d.persistTime else d
    | none => d.persistTime

/-- PERSISTED_TIME_WRITE (R349). -/
def execPersistedTimeWrite (s : State) : Host.Outcome State Fault Refusal := s.run persistedTimeEff

/-! ## Flushes of the Barograph ring (R361) -/

/-- The records not yet flushed. -/
def Events.unflushed (e : Events) : List Rec := (e.ring.filter (fun x => !x.flushed)).map (·.r)

/-- A flush by severity or by count, in Clear only. -/
def baroFlushEff (d : Dev) : Dev :=
  if !d.awake then d
  else if d.ev.unflushed.any (fun r => decide (4 ≤ r.ev.sev)) then d.baroFlush 1
  else if 32768 ≤ d.ev.unflushed.length then d.baroFlush 2
  else d

/-- BARO_FLUSH (R361). -/
def execBaroFlush (s : State) : Host.Outcome State Fault Refusal := s.run baroFlushEff

/-- A flush by age, in Clear only. -/
def baroFlushAgeEff (d : Dev) : Dev := if d.awake && !d.ev.unflushed.isEmpty then d.baroFlush 5 else d

/-- BARO_FLUSH_AGE (R361). -/
def execBaroFlushAge (s : State) : Host.Outcome State Fault Refusal := s.run baroFlushAgeEff

end Sys2Proof.Machine
end

