-- ==== Sys2Proof/Machine/Redfish.lean ====
section
/-! DEFINITION. The management port (R343, R344) and Redfish (R345, R350, R421, R433). The body of a resource is shaped by the DMTF
schema (log entry 3): it is the schema's function of the path and of the values that R345 names. -/

namespace Sys2Proof.Machine

/-! ## The port (R343) -/

/-- The safe point of the management parameters (R370): all but `mgmt.smbus_addr` and the LIVE ones. -/
def mgmtRetrains (id : Nat) : Bool :=
  [P.mgmtAddrMode, P.mgmtIpv4, P.mgmtIpv6, P.mgmtHttpsPort, P.mgmtPtpPort, P.mgmtPtpDomain].contains id

/-- The management link comes up, or trains anew: committed changes apply, and connections end with them (R370). -/
def Dev.mgmtUp (d : Dev) (speed : Nat) : Dev :=
  let applies := d.par.committed.any (fun e => mgmtRetrains e.1)
  let d1 := d.applyCommitted mgmtRetrains
  let d2 : Dev := { d1 with mgmt := { d1.mgmt with linkUp := true, linkSpeed := speed, conns := if applies then [] else d1.mgmt.conns } }
  let d3 := d2.raise Ev.mgmtLink 1 speed 0 0
  if d3.pnum P.mgmtAddrMode == 1 then d3.emitOut .dhcpRequest else d3

/-- The management link changes. -/
def mgmtLinkEff (up : Bool) (speed : Nat) (d : Dev) : Dev :=
  if !d.mgmt.vaneUp then d
  else if up then d.mgmtUp speed
  else if d.mgmt.linkUp then ({ d with mgmt := { d.mgmt with linkUp := false } } : Dev).raise Ev.mgmtLink 2 d.mgmt.linkSpeed 0 0
  else d

/-- MGMT_LINK_CHANGE (R343). -/
def execMgmtLinkChange (up : Bool) (speed : Nat) (s : State) : Host.Outcome State Fault Refusal := s.run (mgmtLinkEff up speed)

/-- HTTPS is served: Vane runs and the port is up; not in Recovery (R343, R423). -/
def Dev.httpsUp (d : Dev) : Bool := d.mgmt.vaneUp && d.mgmt.linkUp && d.par.run != .recovery

/-- Retired mode (R433). -/
def Dev.retired (d : Dev) : Bool := d.par.mode == 8

/-- A client connects (R344): at most 16 connections; TLS and an operator's certificate, but for Retired mode, which asks for none
(R433). -/
def httpsConnectEff (k : CertChain) (d : Dev) : Dev :=
  if !d.httpsUp || decide (16 ≤ d.mgmt.conns.length) then d
  else if !k.tlsOk then d.raise Ev.mgmtAuthFail k.addr.toNat 1 0 0
  else if !k.certOk && !d.retired then d.raise Ev.mgmtAuthFail k.addr.toNat 2 0 0
  else
    let c : HttpConn := { id := d.mgmt.nextConn, authenticated := k.certOk && !d.retired, digest := k.digest, sse := none }
    { d with mgmt := { d.mgmt with conns := d.mgmt.conns ++ [c], nextConn := d.mgmt.nextConn + 1 } }

/-- HTTPS_CONNECT (R344). -/
def execHttpsConnect (chain : CertChain) (s : State) : Host.Outcome State Fault Refusal := s.run (httpsConnectEff chain)

/-! ## Requests (R345, R433) -/

/-- Answers a request. -/
def Dev.http (d : Dev) (c status : Nat) (body : Bytes) : Dev := d.emitOut (.http c status body)

/-- A request on a connection: one without a certificate is answered 403 but for the resources of R433 (`pub`). -/
def Dev.request (d : Dev) (c : Nat) (pub : Bool) (f : HttpConn → Dev → Dev) : Dev :=
  match d.mgmt.conns.find? (·.id == c) with
  | none => d
  | some k => if !d.httpsUp then d else if k.authenticated || pub then f k d else d.http c 403 []

/-- A GET of a resource: its number in the table of R345, and the values it reports. -/
def Dev.getResource (d : Dev) (c : Nat) (pub : Bool) (n : Nat) (values : Dev → List Nat) : Dev :=
  d.request c pub (fun _ (d : Dev) => d.http c 200 (Config.redfishBody n (values d)))

/-- The bytes of a log as values. -/
def bytesNat (b : Bytes) : List Nat := b.map (·.toNat)

def serviceRootGetEff (c : Nat) (d : Dev) : Dev := d.getResource c true 1 (fun _ => [])
/-- REDFISH_SERVICE_ROOT_GET (R345). -/
def execRedfishServiceRootGet (c : Nat) (s : State) : Host.Outcome State Fault Refusal := s.run (serviceRootGetEff c)

/-- A run state's number in the reports. -/
def RunState.num : RunState → Nat
  | .off => 0
  | .starting => 1
  | .running => 2
  | .recovery => 3
  | .haltedTrip => 4
  | .haltedPll => 5

/-- Serial, model, revision, rung, mode, power state, the slot's ordinal and the locate indicator (R345, R457). -/
def Dev.chassisValues (d : Dev) : List Nat :=
  [Config.driveSerial.toNat, 0x464B342D41, 0x42, d.pow.rung.num, d.par.mode, d.par.run.num, d.pow.slotId.toNat, d.mgmt.locateLed.toNat]

def chassisGetEff (c : Nat) (d : Dev) : Dev := d.getResource c true 2 Dev.chassisValues
/-- CHASSIS_GET (R345). -/
def execChassisGet (c : Nat) (s : State) : Host.Outcome State Fault Refusal := s.run (chassisGetEff c)

/-- PATCH of `LocationIndicatorActive` (R345, R454). -/
def chassisPatchEff (c : Nat) (on : Bool) (d : Dev) : Dev :=
  d.request c false (fun _ (d : Dev) =>
    ({ d with mgmt := { d.mgmt with locateLed := on } } : Dev).http c 200 (Config.redfishBody 2 [on.toNat]))
/-- CHASSIS_PATCH (R345). -/
def execChassisPatch (c : Nat) (on : Bool) (s : State) : Host.Outcome State Fault Refusal := s.run (chassisPatchEff c on)

/-- An integer as a value of a report: 32-bit two's complement. -/
def intValue (v : Int) : Nat := (v % 2 ^ 32).toNat

/-- The reading of a sensor with its failure and its limits; a limit that the sensor has not is absent. -/
def Dev.sensorValues (d : Dev) (id : Nat) : List Nat :=
  if isStateSensor id then [id, d.stateSensor id]
  else [id, intValue (d.sensor id).value, (d.sensor id).fail] ++ (d.sensorLimits id).flatMap (fun l => match l with
    | some x => [1, intValue x]
    | none => [0])

/-- A sensor of R341 exists. -/
def sensorExists (id : Nat) : Bool := (sensorRange id).isSome || isStateSensor id

def sensorGetEff (c id : Nat) (d : Dev) : Dev :=
  d.request c false (fun _ (d : Dev) =>
    if sensorExists id then d.http c 200 (Config.redfishBody 3 (d.sensorValues id)) else d.http c 404 [])
/-- SENSOR_GET (R345). -/
def execSensorGet (c id : Nat) (s : State) : Host.Outcome State Fault Refusal := s.run (sensorGetEff c id)

/-- The groups' levels with their hottest point and its temperature (R325). -/
def Dev.thermalValues (d : Dev) : List Nat := d.pow.groups.toList.flatMap (fun g => [g.level, g.point, intValue g.temp])

def thermalSubsystemGetEff (c : Nat) (d : Dev) : Dev := d.getResource c false 4 Dev.thermalValues
/-- THERMAL_SUBSYSTEM_GET (R345). -/
def execThermalSubsystemGet (c : Nat) (s : State) : Host.Outcome State Fault Refusal := s.run (thermalSubsystemGetEff c)

/-- Limit in force, input power, floor scale, capacitor state: from the `POWER_CTL` status (R321). -/
def Dev.powerValues (d : Dev) : List Nat := [d.powerLimit, d.pow.meanInput, d.pow.floorScale, d.pow.bank.state.num]

def powerSubsystemGetEff (c : Nat) (d : Dev) : Dev := d.getResource c false 5 Dev.powerValues
/-- POWER_SUBSYSTEM_GET (R345). -/
def execPowerSubsystemGet (c : Nat) (s : State) : Host.Outcome State Fault Refusal := s.run (powerSubsystemGetEff c)

/-- The management-port wake (R318, R345). -/
def fiernPowerWakeEff (c : Nat) (d : Dev) : Dev := d.request c false (fun _ (d : Dev) => (d.wakeIf 4).http c 200 [])
/-- FIERNPOWER_WAKE (R345). -/
def execFiernPowerWake (c : Nat) (s : State) : Host.Outcome State Fault Refusal := s.run (fiernPowerWakeEff c)

/-- A counter's name as numbers: its kind, then what it is a counter of. -/
def Ctr.code : Ctr → List Nat
  | .port p c => [0, p.val, c.ctorIdx]
  | .session s c => [1, s.toNat, c.ctorIdx]
  | .capChk s n => [2, s.toNat, n]
  | .ns n c => [3, n.toNat, c.ctorIdx]
  | .classCaps c => [4, c, 0]
  | .classUnits c => [5, c, 0]
  | .tenantCaps t => [6, t.toNat, 0]
  | .tenantUnits t => [7, t.toNat, 0]
  | .drive c => [8, c.ctorIdx, 0]
  | .squash k => [9, k, 0]
  | .galeSearch t => [10, t.ctorIdx, 0]
  | .galeHit t => [11, t.ctorIdx, 0]
  | .galeMiss t => [12, t.ctorIdx, 0]
  | .galeRepair k => [13, k, 0]
  | .galeStepMs k => [14, k, 0]
  | .cart b c => [15, b.val, c.ctorIdx]
  | .programmed b s => [16, b.val, s.ctorIdx]
  | .govWaitUs b p => [17, b.val, p]
  | .memCe k s => [18, k, s]
  | .memUe k s => [19, k, s]
  | .retryStep b k => [20, b.val, k]
  | .headerFail o => [21, o, 0]
  | .hist t h k => [22, t.toNat, 32 * h + k]
  | .histSum t h => [23, t.toNat, h]

/-- Every counter that has moved, with its name, the others read 0; the keys held, bytes charged and open uploads of
each namespace (R116); the residence at the step of Gale in force (R195); of each cartridge its retired blocks, spare capacity, SLC limit and
occupancy (R236). -/
def Dev.counterValues (d : Dev) : List Nat :=
  d.ctr.flatMap (fun x => x.1.code ++ [x.2.toNat]) ++
    d.ns.flatMap (fun n => [n.held, n.charged, (d.idx.uploads.filter (fun u => u.ns == n.id)).length]) ++
    [(d.count (.galeStepMs d.gale.step)).toNat + (d.clk.tick - d.gale.stepSince) / 1000] ++
    (List.finRange 4).flatMap (fun b => [((d.bays.get b).retired.filter (·.kind == 2)).length, (d.bays.get b).spare, d.slcLimit b,
      (d.bays.get b).slcBands])

def countersGetEff (c : Nat) (d : Dev) : Dev := d.getResource c false 7 Dev.counterValues
/-- COUNTERS_GET (R345). -/
def execCountersGet (c : Nat) (s : State) : Host.Outcome State Fault Refusal := s.run (countersGetEff c)

def driveBayGetEff (c : Nat) (bay : BayNo) (d : Dev) : Dev :=
  d.getResource c false (16 + bay.val) (fun (d : Dev) => bytesNat (d.wearEntry bay))
/-- DRIVE_BAY_GET (R345): the entry of log 0x07. -/
def execDriveBayGet (c : Nat) (bay : BayNo) (s : State) : Host.Outcome State Fault Refusal := s.run (driveBayGetEff c bay)

/-- Firmware versions, time source and time (R345). -/
def Dev.managerValues (d : Dev) : List Nat :=
  let p := d.upd.pkg d.upd.activeSlot
  [partVersion p 1, partVersion p 2, partVersion p 3, partVersion p 4, partVersion p 5, d.clk.source.rank, d.clk.ns]

def managerGetEff (c : Nat) (d : Dev) : Dev := d.getResource c true 9 Dev.managerValues
/-- MANAGER_GET (R345). -/
def execManagerGet (c : Nat) (s : State) : Host.Outcome State Fault Refusal := s.run (managerGetEff c)

/-- PATCH of `DateTime` (R349, R350): refused with 409 while PTP is LOCKED. -/
def managerPatchEff (c ns : Nat) (d : Dev) : Dev :=
  d.request c false (fun _ (d : Dev) => match d.hostTime ns with
    | (true, d1) => d1.http c 200 (Config.redfishBody 9 [ns])
    | (false, d1) => d1.http c 409 [])
/-- MANAGER_PATCH_DATETIME (R350). -/
def execManagerPatchDatetime (c : Nat) (ns : Nat) (s : State) : Host.Outcome State Fault Refusal := s.run (managerPatchEff c ns)

/-- The addresses of the port. -/
def Dev.ethernetValues (d : Dev) : List Nat :=
  [d.mgmt.linkUp.toNat, d.mgmt.linkSpeed, d.pnum P.mgmtAddrMode, d.pnum P.mgmtIpv4, d.pnum P.mgmtIpv6, d.mgmt.address.getD 0]

def ethernetGetEff (c : Nat) (d : Dev) : Dev := d.getResource c false 10 Dev.ethernetValues
/-- ETHERNET_INTERFACE_GET (R345). -/
def execEthernetInterfaceGet (c : Nat) (s : State) : Host.Outcome State Fault Refusal := s.run (ethernetGetEff c)

/-- The properties that PATCH of the interface takes. -/
def isAddress (id : Nat) : Bool := [P.mgmtAddrMode, P.mgmtIpv4, P.mgmtIpv6].contains id

/-- Stages and commits addresses as the STAGED parameters they are; nothing else that is staged is touched (R345, R370). -/
def Dev.patchAddresses (d : Dev) (l : List (Nat × Bytes)) : Dev :=
  let d1 : Dev := { d with par := { d.par with
    committed := d.par.committed.filter (fun e => !l.any (fun x => x.1 == e.1)) ++ l.map (fun x => (x.1, x.2, 0)) } }
  l.foldl (fun (d : Dev) (x : Nat × Bytes) => (d.raise Ev.paramChange x.1 2 1 0).raise Ev.paramChange x.1 2 2 0) d1.writeSettings

/-- PATCH of the interface (R345): addresses only; any other property, or a value out of range, is 400. -/
def ethernetPatchEff (c : Nat) (l : List (Nat × Bytes)) (d : Dev) : Dev :=
  d.request c false (fun _ (d : Dev) =>
    if l.all (fun e => isAddress e.1 && entryOk e) then (d.patchAddresses l).http c 200 [] else d.http c 400 [])
/-- ETHERNET_INTERFACE_PATCH (R345). -/
def execEthernetInterfacePatch (c : Nat) (settings : List (Nat × Bytes)) (s : State) : Host.Outcome State Fault Refusal :=
  s.run (ethernetPatchEff c settings)

/-- Records of a log with `$skip` and `$top`, `$top` at most 1,000. -/
def Dev.getRecords (d : Dev) (c n skip top : Nat) (l : Dev → List Rec) : Dev :=
  d.request c true (fun _ (d : Dev) =>
    if 1000 < top then d.http c 400 []
    else d.http c 200 (Config.redfishBody n (bytesNat ((((l d).drop skip).take top).flatMap Rec.encode))))

def barographGetEff (c skip top : Nat) (d : Dev) : Dev := d.getRecords c 11 skip top Dev.barograph
/-- BAROGRAPH_ENTRIES_GET (R345). -/
def execBarographEntriesGet (c skip top : Nat) (s : State) : Host.Outcome State Fault Refusal := s.run (barographGetEff c skip top)

def vaneRingGetEff (c skip top : Nat) (d : Dev) : Dev := d.getRecords c 12 skip top (fun (d : Dev) => d.ev.vring.reverse)
/-- VANE_RING_ENTRIES_GET (R345). -/
def execVaneRingEntriesGet (c skip top : Nat) (s : State) : Host.Outcome State Fault Refusal := s.run (vaneRingGetEff c skip top)

/-- A collection present in Retired mode only (R433). -/
def Dev.retiredOnly (d : Dev) (c n : Nat) (values : Dev → List Nat) : Dev :=
  d.request c true (fun _ (d : Dev) =>
    if d.retired then d.http c 200 (Config.redfishBody n (values d)) else d.http c 404 [])

/-- Every entry of log 0x03 (R276). -/
def Dev.retirements (d : Dev) : Bytes :=
  (d.mem.retired ++ ((List.finRange 4).filter d.inService).flatMap (fun b => (d.bays.get b).retired)).flatMap retiredBytes

def retirementGetEff (c : Nat) (d : Dev) : Dev := d.retiredOnly c 13 (fun (d : Dev) => bytesNat d.retirements)
/-- RETIREMENT_ENTRIES_GET (R433). -/
def execRetirementEntriesGet (c : Nat) (s : State) : Host.Outcome State Fault Refusal := s.run (retirementGetEff c)

/-- Every entry of log 0x06: the current one, then the history (R426). -/
def Dev.updateEntries (d : Dev) : Bytes :=
  (d.updEntry 0).bytes 1 ++ d.upd.history.flatMap (fun e => e.bytes 2)

def updateStatusGetEff (c : Nat) (d : Dev) : Dev := d.retiredOnly c 14 (fun (d : Dev) => bytesNat d.updateEntries)
/-- UPDATE_STATUS_ENTRIES_GET (R433). -/
def execUpdateStatusEntriesGet (c : Nat) (s : State) : Host.Outcome State Fault Refusal := s.run (updateStatusGetEff c)

/-- The connection becomes an event stream with its filter (R345, R355). -/
def eventSseEff (c minSev : Nat) (src : Option Nat) (d : Dev) : Dev :=
  d.request c false (fun _ (d : Dev) =>
    ({ d with mgmt := { d.mgmt with conns := d.mgmt.conns.map (fun (k : HttpConn) =>
      if k.id == c then { k with sse := some (minSev, src) } else k) } } : Dev).http c 200 [])
/-- EVENT_SERVICE_SSE (R345). -/
def execEventServiceSse (c : Nat) (minSev : Nat) (src : Option Nat) (s : State) : Host.Outcome State Fault Refusal :=
  s.run (eventSseEff c minSev src)

def updateServiceGetEff (c : Nat) (d : Dev) : Dev := d.getResource c false 15 (fun (d : Dev) => [d.upd.state])
/-- UPDATE_SERVICE_GET (R345). -/
def execUpdateServiceGet (c : Nat) (s : State) : Host.Outcome State Fault Refusal := s.run (updateServiceGetEff c)

/-! ## The push (R421) -/

/-- The HTTP status of a status (R421). One that its table does not name is a bad request. -/
def pushStatus (st : BitVec 16) : Nat :=
  if st == Status.ok then 202 else if st == Status.updateBusy then 409 else if st == Status.busyMaintenance then 503 else 400

/-- Every `UPD_CHUNK` of a package, until one is not `OK`. -/
def Dev.pushChunks (d : Dev) (s : UpdSource) (pkg : Bytes) : List Nat → BitVec 16 × Dev
  | [] => (Status.ok, d)
  | n :: rest =>
    match d.updChunkBy s (65536 * n) ((pkg.drop (65536 * n)).take (chunkLength pkg n)) with
    | (st, d1) => if st = Status.ok then d1.pushChunks s pkg rest else (st, d1)

/-- A push runs `UPD_BEGIN`, every `UPD_CHUNK` and `UPD_VERIFY`, then, if it is immediate, the checks of `UPD_ACTIVATE`. -/
def Dev.push (d : Dev) (s : UpdSource) (pkg : Bytes) (immediate certOk signatureOk : Bool) : BitVec 16 × Dev :=
  match d.updBeginBy s (pkg.take 65536) certOk signatureOk with
  | (st, d1) =>
    if st ≠ Status.ok then (st, d1)
    else match d1.pushChunks s pkg ((List.range (pkgChunks pkg)).map (· + 1)) with
      | (st, d2) =>
        if st ≠ Status.ok then (st, d2)
        else match d2.updVerifyBy s with
          | (st, d3) =>
            if st ≠ Status.ok || !immediate then (st, d3)
            else match d3.activateCheck s 0 with
              | (some st, d4) => (st, d4)
              | (none, d4) => (Status.ok, d4)

/-- A push on a connection: source kind 2, named by the client's certificate (R404). The answer leaves before the reset of an
immediate activation. -/
def multipartPushEff (c : Nat) (pkg : Bytes) (immediate certOk signatureOk : Bool) (d : Dev) : Dev :=
  d.request c false (fun k (d : Dev) =>
    if d.par.run != .running then d.http c 503 []
    else
      let s : UpdSource := ⟨2, k.digest⟩
      match d.push s pkg immediate certOk signatureOk with
      | (st, d1) =>
        let d2 := d1.http c (pushStatus st) (if st == Status.updateBusy then d1.upd.busyData else [])
        if st = Status.ok ∧ immediate then d2.activateBy s 0 none else d2)

/-- MULTIPART_HTTP_PUSH (R421). -/
def execMultipartHttpPush (c : Nat) (package : Bytes) (immediate certOk signatureOk : Bool) (s : State) :
    Host.Outcome State Fault Refusal :=
  s.run (multipartPushEff c package immediate certOk signatureOk)

/-- Any other request: 405, 404 and 400 (R345). -/
def badRequestStatus (r : BadRequest) : Nat :=
  match r with
  | .method => 405
  | .path => 404
  | .property => 400

def redfishOtherEff (c : Nat) (r : BadRequest) (d : Dev) : Dev := d.request c false (fun _ (d : Dev) => d.http c (badRequestStatus r) [])
/-- REDFISH_OTHER_REQUEST (R345). -/
def execRedfishOtherRequest (c : Nat) (r : BadRequest) (s : State) : Host.Outcome State Fault Refusal := s.run (redfishOtherEff c r)

end Sys2Proof.Machine
end

