-- ==== Sys2Proof/Machine/Sideband.lean ====
section
/-! DEFINITION. The SMBus sideband: MCTP control (R346), PLDM (R347, R348) and SPDM (R384). What a response carries beyond the values
named here is the DMTF standards' own (log entry 3). -/

namespace Sys2Proof.Machine

/-! ## MCTP control (R346) -/

/-- The sideband is served: Vane runs (Clear to Frost). -/
def Dev.sideband (d : Dev) (f : Dev → Dev) : Dev := if d.mgmt.vaneUp then f d else d

/-- PLDM and SPDM are not answered in Recovery, where only MCTP control is (R423). -/
def Dev.sidebandFull (d : Dev) (f : Dev → Dev) : Dev := if d.mgmt.vaneUp && d.par.run != .recovery then f d else d

/-- An MCTP control response with its completion code. -/
def Dev.mctp (d : Dev) (code cc : Nat) (body : Bytes) : Dev := d.emitOut (.mctp code cc body)

/-- Set Endpoint ID: the event, and the safe point of `mgmt.smbus_addr` (R370). -/
def setEndpointIdEff (eid : BitVec 8) (d : Dev) : Dev :=
  d.sideband (fun (d : Dev) =>
    let d1 := ({ d with mgmt := { d.mgmt with eid := eid.toNat } } : Dev).raise Ev.sidebandEid eid.toNat d.mgmt.smbusAddr 0 0
    let d2 := (d1.mctp 1 0 [eid]).applyCommitted (· == P.mgmtSmbusAddr)
    { d2 with mgmt := { d2.mgmt with smbusAddr := d2.pnum P.mgmtSmbusAddr } })
/-- SET_ENDPOINT_ID (R346). -/
def execSetEndpointId (eid : BitVec 8) (s : State) : Host.Outcome State Fault Refusal := s.run (setEndpointIdEff eid)

def getEndpointIdEff (d : Dev) : Dev := d.sideband (fun (d : Dev) => d.mctp 2 0 (natToBytesBE 1 d.mgmt.eid))
/-- GET_ENDPOINT_ID (R346). -/
def execGetEndpointId (s : State) : Host.Outcome State Fault Refusal := s.run getEndpointIdEff

/-- The MCTP message types that the endpoint supports (R346). -/
def mctpTypes : Bytes := [0x00, 0x01, 0x05]

/-- Completion code of a message type that is not supported (DSP0236). PRESUMED, log entry 3. -/
abbrev mctpBadType : Nat := 0x80

def getMctpVersionEff (t : BitVec 8) (d : Dev) : Dev :=
  d.sideband (fun (d : Dev) =>
    if mctpTypes.contains t then d.mctp 4 0 (Config.dmtfResponse 4 t.toNat) else d.mctp 4 mctpBadType [])
/-- GET_MCTP_VERSION_SUPPORT (R346). -/
def execGetMctpVersionSupport (msgType : BitVec 8) (s : State) : Host.Outcome State Fault Refusal := s.run (getMctpVersionEff msgType)

def getMessageTypesEff (d : Dev) : Dev := d.sideband (fun (d : Dev) => d.mctp 5 0 mctpTypes)
/-- GET_MESSAGE_TYPE_SUPPORT (R346). -/
def execGetMessageTypeSupport (s : State) : Host.Outcome State Fault Refusal := s.run getMessageTypesEff

/-! ## PLDM (R347) -/

/-- A PLDM response: type and command as one number, completion code, body. -/
def Dev.pldm (d : Dev) (typ cmd cc : Nat) (body : Bytes) : Dev := d.emitOut (.pldm (256 * typ + cmd) cc body)

/-- Completion codes of DSP0240 and DSP0248. PRESUMED, log entry 3. -/
abbrev pldmUnsupported : Nat := 0x05
abbrev pldmBadType : Nat := 0x80
abbrev pldmBadSensor : Nat := 0x80
abbrev pldmBadHandle : Nat := 0x82

def getTidEff (d : Dev) : Dev := d.sidebandFull (fun (d : Dev) => d.pldm 0 2 0 (Config.dmtfResponse 2 0))
/-- GET_TID (R347). -/
def execGetTid (s : State) : Host.Outcome State Fault Refusal := s.run getTidEff

/-- The PLDM types served: base and platform monitoring (R347). -/
def pldmTypes : Bytes := [0, 2]

def getPldmVersionEff (t : BitVec 8) (d : Dev) : Dev :=
  d.sidebandFull (fun (d : Dev) =>
    if pldmTypes.contains t then d.pldm 0 3 0 (Config.dmtfResponse 3 t.toNat) else d.pldm 0 3 pldmBadType [])
/-- GET_PLDM_VERSION (R347). -/
def execGetPldmVersion (typ : BitVec 8) (s : State) : Host.Outcome State Fault Refusal := s.run (getPldmVersionEff typ)

def getPldmTypesEff (d : Dev) : Dev := d.sidebandFull (fun (d : Dev) => d.pldm 0 4 0 pldmTypes)
/-- GET_PLDM_TYPES (R347). -/
def execGetPldmTypes (s : State) : Host.Outcome State Fault Refusal := s.run getPldmTypesEff

/-- The commands of a type (R347), by their codes in DSP0240 and DSP0248. PRESUMED codes, log entry 3. -/
def pldmCommands (t : BitVec 8) : Option Bytes :=
  if t = 0 then some [0x02, 0x03, 0x04, 0x05]
  else if t = 2 then some [0x04, 0x0A, 0x11, 0x21, 0x39, 0x50, 0x51]
  else none

def getPldmCommandsEff (t : BitVec 8) (d : Dev) : Dev :=
  d.sidebandFull (fun (d : Dev) => match pldmCommands t with
    | some l => d.pldm 0 5 0 l
    | none => d.pldm 0 5 pldmBadType [])
/-- GET_PLDM_COMMANDS (R347). -/
def execGetPldmCommands (typ : BitVec 8) (s : State) : Host.Outcome State Fault Refusal := s.run (getPldmCommandsEff typ)

/-- The PDR repository (R347): a record for each sensor of R341, then the two effecters. -/
inductive Pdr
  | numeric (sensor : Nat)
  | state (sensor : Nat)
  | effecter (id : Nat)
  deriving DecidableEq, Repr

def pdrs : List Pdr :=
  ((List.range 162).filter (fun i => (sensorRange i).isSome)).map Pdr.numeric ++
    ((List.range 162).filter isStateSensor).map Pdr.state ++ [.effecter 1, .effecter 2]

/-- A record with the thresholds that R347 gives it: upper warning, critical and fatal. -/
def Dev.pdrBytes (d : Dev) (p : Pdr) : Bytes :=
  match p with
  | .numeric id => natToBytesBE 1 1 ++ natToBytesBE 2 id ++ (d.sensorLimits id).flatMap (fun l => match l with
      | some x => natToBytesBE 1 1 ++ natToBytesBE 4 (intValue x)
      | none => natToBytesBE 1 0)
  | .state id => natToBytesBE 1 2 ++ natToBytesBE 2 id
  | .effecter id => natToBytesBE 1 3 ++ natToBytesBE 2 id

def getPdrInfoEff (d : Dev) : Dev := d.sidebandFull (fun (d : Dev) => d.pldm 2 0x50 0 (natToBytesBE 4 pdrs.length))
/-- GET_PDR_REPOSITORY_INFO (R347). -/
def execGetPdrRepositoryInfo (s : State) : Host.Outcome State Fault Refusal := s.run getPdrInfoEff

/-- The record with a handle, numbered from 1; 0 is the first (log entry 3). -/
def getPdrEff (handle : Nat) (d : Dev) : Dev :=
  d.sidebandFull (fun (d : Dev) => match pdrs[handle - 1]? with
    | some p => d.pldm 2 0x51 0 (d.pdrBytes p)
    | none => d.pldm 2 0x51 pldmBadHandle [])
/-- GET_PDR (R347). -/
def execGetPdr (handle : Nat) (s : State) : Host.Outcome State Fault Refusal := s.run (getPdrEff handle)

def getSensorReadingEff (id : Nat) (d : Dev) : Dev :=
  d.sidebandFull (fun (d : Dev) =>
    if (sensorRange id).isSome then
      d.pldm 2 0x11 0 (natToBytesBE 1 (d.sensor id).fail ++ natToBytesBE 1 (d.sensorLevel id (d.sensor id).value) ++
        natToBytesBE 4 (intValue (d.sensor id).value))
    else d.pldm 2 0x11 pldmBadSensor [])
/-- GET_SENSOR_READING (R347). -/
def execGetSensorReading (sensor : Nat) (s : State) : Host.Outcome State Fault Refusal := s.run (getSensorReadingEff sensor)

def getStateSensorEff (id : Nat) (d : Dev) : Dev :=
  d.sidebandFull (fun (d : Dev) =>
    if isStateSensor id then d.pldm 2 0x21 0 (natToBytesBE 1 (d.stateSensor id)) else d.pldm 2 0x21 pldmBadSensor [])
/-- GET_STATE_SENSOR_READINGS (R347). -/
def execGetStateSensorReadings (sensor : Nat) (s : State) : Host.Outcome State Fault Refusal := s.run (getStateSensorEff sensor)

/-- Effecter 1 set to state 2: the sideband wake (R318, R347). -/
def effecterWakeEff (d : Dev) : Dev := d.sidebandFull (fun (d : Dev) => (d.wakeIf 4).pldm 2 0x39 0 [])
/-- EFFECTER_WAKE (R347). -/
def execEffecterWake (s : State) : Host.Outcome State Fault Refusal := s.run effecterWakeEff

/-- Effecter 2: the locate LED, on for 60 s or off (R347, R454). -/
def effecterLocateEff (on : Bool) (d : Dev) : Dev :=
  d.sidebandFull (fun (d : Dev) => ({ d with mgmt := { d.mgmt with locateTimed := on } } : Dev).pldm 2 0x39 0 [])
/-- EFFECTER_LOCATE (R347). -/
def execEffecterLocate (on : Bool) (s : State) : Host.Outcome State Fault Refusal := s.run (effecterLocateEff on)

/-- LOCATE_EXPIRY (R454): the 60 s of the effecter are over. -/
def execLocateExpiry (s : State) : Host.Outcome State Fault Refusal :=
  s.run (fun (d : Dev) => { d with mgmt := { d.mgmt with locateTimed := false } })

def setEventReceiverEff (a : Nat) (d : Dev) : Dev :=
  d.sidebandFull (fun (d : Dev) => ({ d with mgmt := { d.mgmt with pldmReceiver := some a } } : Dev).pldm 2 0x04 0 [])
/-- SET_EVENT_RECEIVER (R348). -/
def execSetEventReceiver (addr : Nat) (s : State) : Host.Outcome State Fault Refusal := s.run (setEventReceiverEff addr)

/-- The receiver has accepted the message sent last; the next one of the queue is sent (R348). -/
def platformAcceptEff (d : Dev) : Dev :=
  d.sidebandFull (fun (d : Dev) =>
    let q := d.mgmt.pldmQueue.tail
    let d1 : Dev := { d with mgmt := { d.mgmt with pldmQueue := q } }
    match q with
    | [] => d1
    | e :: _ => d1.emitOut (.pldmEvent e))
/-- PLATFORM_EVENT_ACCEPT (R348). -/
def execPlatformEventAccept (s : State) : Host.Outcome State Fault Refusal := s.run platformAcceptEff

def pldmUnsupportedEff (typ cmd : BitVec 8) (d : Dev) : Dev :=
  d.sidebandFull (fun (d : Dev) => d.pldm typ.toNat cmd.toNat pldmUnsupported [])
/-- PLDM_UNSUPPORTED_COMMAND (R347): ERROR_UNSUPPORTED_PLDM_CMD. -/
def execPldmUnsupportedCommand (typ cmd : BitVec 8) (s : State) : Host.Outcome State Fault Refusal := s.run (pldmUnsupportedEff typ cmd)

/-! ## SPDM (R384) -/

/-- An SPDM response: its code and its content. -/
def Dev.spdm (d : Dev) (code : Nat) (body : Bytes) : Dev := d.emitOut (.spdm code body)

/-- Codes of DSP0274: of a request its response's is 0x80 less. PRESUMED, log entry 3. -/
abbrev spdmError : Nat := 0x7F
abbrev spdmInvalidRequest : Nat := 0x01
abbrev spdmUnsupported : Nat := 0x07

/-- `EV_ATTEST` of a request that is served (R399). -/
def Dev.spdmEvent (d : Dev) (code : Nat) : Dev := d.raise Ev.attest 2 0 code 0

def getVersionEff (d : Dev) : Dev := d.sidebandFull (fun (d : Dev) => (d.spdmEvent 0x84).spdm 0x04 (Config.dmtfResponse 0x84 0x12))
/-- GET_VERSION (R384): 1.2 only. -/
def execGetVersion (s : State) : Host.Outcome State Fault Refusal := s.run getVersionEff

def getCapabilitiesEff (d : Dev) : Dev := d.sidebandFull (fun (d : Dev) => (d.spdmEvent 0xE1).spdm 0x61 (Config.dmtfResponse 0xE1 4096))
/-- GET_CAPABILITIES (R384). -/
def execGetCapabilities (s : State) : Host.Outcome State Fault Refusal := s.run getCapabilitiesEff

def negotiateEff (d : Dev) : Dev := d.sidebandFull (fun (d : Dev) => (d.spdmEvent 0xE3).spdm 0x63 (Config.dmtfResponse 0xE3 0))
/-- NEGOTIATE_ALGORITHMS (R384): TPM_ALG_RSAPSS_3072 and TPM_ALG_SHA_256. -/
def execNegotiateAlgorithms (s : State) : Host.Outcome State Fault Refusal := s.run negotiateEff

/-- The digest of the chain in slot 0. -/
def chainDigest : Bytes := natToBytesBE 32 (Config.sha256 Config.identityChain).toNat

def getDigestsEff (d : Dev) : Dev := d.sidebandFull (fun (d : Dev) => (d.spdmEvent 0x81).spdm 0x01 chainDigest)
/-- GET_DIGESTS (R384). -/
def execGetDigests (s : State) : Host.Outcome State Fault Refusal := s.run getDigestsEff

def getCertificateEff (offset length : Nat) (d : Dev) : Dev :=
  d.sidebandFull (fun (d : Dev) =>
    if Config.identityChain.length ≤ offset then d.spdm spdmError [spdmInvalidRequest]
    else (d.spdmEvent 0x82).spdm 0x02 ((Config.identityChain.drop offset).take length))
/-- GET_CERTIFICATE (R384): slot 0 holds the identity chain. -/
def execGetCertificate (offset length : Nat) (s : State) : Host.Outcome State Fault Refusal := s.run (getCertificateEff offset length)

/-- A signature of the identity key over a nonce and what is reported with it. -/
def Dev.signed (d : Dev) (body : Bytes) (nonce : BitVec 256) : Bytes × Dev :=
  let sig := Config.identitySign d.fresh (natToBytesBE 32 nonce.toNat ++ body)
  (body ++ natToBytesBE 384 sig.toNat, d.draw.2)

def challengeEff (nonce : BitVec 256) (d : Dev) : Dev :=
  d.sidebandFull (fun (d : Dev) =>
    let r := d.signed chainDigest nonce
    (r.2.spdmEvent 0x83).spdm 0x03 r.1)
/-- CHALLENGE (R384). -/
def execChallenge (nonce : BitVec 256) (s : State) : Host.Outcome State Fault Refusal := s.run (challengeEff nonce)

/-- A measurement block: index, type and digest (R382). -/
def Dev.measureBlock (d : Dev) (i : Nat) : Bytes :=
  natToBytesBE 1 i ++ natToBytesBE 1 (measureType i) ++ natToBytesBE 32 (d.measurement i).toNat

/-- The blocks that an index asks for: 0 the count alone, 255 all, else one. -/
def Dev.measureBlocks (d : Dev) (i : Nat) : Option Bytes :=
  if i = 0 then some (natToBytesBE 1 10)
  else if i = 255 then some ([1, 2, 3, 4, 5, 6, 7, 8, 9, 10].flatMap d.measureBlock)
  else if i ≤ 10 then some (d.measureBlock i)
  else none

def getMeasurementsEff (i : Nat) (nonce : BitVec 256) (d : Dev) : Dev :=
  d.sidebandFull (fun (d : Dev) => match d.measureBlocks i with
    | none => d.spdm spdmError [spdmInvalidRequest]
    | some b =>
      let r := d.signed b nonce
      (r.2.spdmEvent 0xE0).spdm 0x60 r.1)
/-- GET_MEASUREMENTS (R384). -/
def execGetMeasurements (index : Nat) (nonce : BitVec 256) (s : State) : Host.Outcome State Fault Refusal :=
  s.run (getMeasurementsEff index nonce)

def spdmUnsupportedEff (code : BitVec 8) (d : Dev) : Dev := d.sidebandFull (fun (d : Dev) => d.spdm spdmError [spdmUnsupported, code])
/-- SPDM_UNSUPPORTED_REQUEST (R384): ERROR with code UnsupportedRequest. -/
def execSpdmUnsupportedRequest (code : BitVec 8) (s : State) : Host.Outcome State Fault Refusal := s.run (spdmUnsupportedEff code)

end Sys2Proof.Machine
end

