-- ==== Sys2Proof/Machine/Virrad.lean ====
section
/-! DEFINITION. The operator's tool `virrad` (R58, R85, R168, R256, R318, R349) and the indicators (R256, R453 to R455). -/

namespace Sys2Proof.Machine

/-! ## virrad -/

/-- Vane answers the tool; not in Recovery, where the management port serves the download alone (R423). -/
def Dev.tool (d : Dev) (f : Dev → Dev) : Dev := if d.mgmt.vaneUp && d.par.run != .recovery then f d else d

/-- What the tool prints. -/
def Dev.print (d : Dev) (l : List Nat) : Dev := d.emitOut (.virrad l)

/-- The descriptor of an existing namespace (R85). -/
def virradNsShowEff (n : BitVec 12) (d : Dev) : Dev :=
  d.tool (fun (d : Dev) => match d.nsOf n with
    | some x => d.print (bytesNat x.descriptor)
    | none => d.print [])
/-- VIRRAD_NS_SHOW (R85). -/
def execVirradNsShow (ns : BitVec 12) (s : State) : Host.Outcome State Fault Refusal := s.run (virradNsShowEff ns)

/-- A cartridge's LED shows where it is, for 60 s (R256). -/
def virradCartLocateEff (bay : BayNo) (d : Dev) : Dev := d.tool (fun (d : Dev) => d.modBay bay (fun b => { b with locate := true }))
/-- VIRRAD_CART_LOCATE (R256). -/
def execVirradCartLocate (bay : BayNo) (s : State) : Host.Outcome State Fault Refusal := s.run (virradCartLocateEff bay)

/-- The time is set; refused while PTP is LOCKED, as the Redfish set is (R349). -/
def virradTimeSetEff (ns : Nat) (d : Dev) : Dev :=
  d.tool (fun (d : Dev) => match d.hostTime ns with
    | (true, d1) => d1.print [200]
    | (false, d1) => d1.print [409])
/-- VIRRAD_TIME_SET (R349). -/
def execVirradTimeSet (ns : Nat) (s : State) : Host.Outcome State Fault Refusal := s.run (virradTimeSetEff ns)

def virradPowerWakeEff (d : Dev) : Dev := d.tool (fun (d : Dev) => d.wakeIf 4)
/-- VIRRAD_POWER_WAKE (R318). -/
def execVirradPowerWake (s : State) : Host.Outcome State Fault Refusal := s.run virradPowerWakeEff

/-- The counters of a port (R33, R58). -/
def portCtrs : List PortCtr :=
  [.l2Drop, .ipDrop, .fragDrop, .optDrop, .udpCsum, .otherDrop, .fwpMalformed, .noSession, .psnWindow, .aeadFail, .dup, .creditOverrun,
   .segmentErr, .peerDrop]

/-- The values of some counters. -/
def Dev.counts (d : Dev) (l : List Ctr) : List Nat := l.map (fun c => (d.count c).toNat)

def virradPortStatsEff (p : Port) (d : Dev) : Dev := d.tool (fun (d : Dev) => d.print (d.counts (portCtrs.map (fun c => Ctr.port p c))))
/-- VIRRAD_PORT_STATS (R58). -/
def execVirradPortStats (p : Port) (s : State) : Host.Outcome State Fault Refusal := s.run (virradPortStatsEff p)

/-- The counters of a session (R58, R77). -/
def sessCtrs (sid : BitVec 32) : List Ctr :=
  ([.pktTx, .pktRx, .byteTx, .byteRx, .resent, .rto, .ece, .stallUs, .borrowRefused, .noticeDrop] : List SessCtr).map (Ctr.session sid) ++
    ((List.range 18).map (· + 1)).map (Ctr.capChk sid)

def virradSessionStatsEff (sid : BitVec 32) (d : Dev) : Dev := d.tool (fun (d : Dev) => d.print (d.counts (sessCtrs sid)))
/-- VIRRAD_SESSION_STATS (R58). -/
def execVirradSessionStats (sid : BitVec 32) (s : State) : Host.Outcome State Fault Refusal := s.run (virradSessionStatsEff sid)

/-- The index's counters (R168). -/
def indexCtrs : List Ctr :=
  ([.ixLogHits, .ixCacheHits, .ixPageReads, .ixFpNegative, .ixFpFalsePass, .ixMerges, .ixSplits, .ixBucketMerges, .ixEpochs, .ixPrefetchUsed,
    .ixPrefetchUnused] : List DrvCtr).map Ctr.drive

def virradIndexStatsEff (d : Dev) : Dev := d.tool (fun (d : Dev) => d.print (d.counts indexCtrs))
/-- VIRRAD_INDEX_STATS (R168). -/
def execVirradIndexStats (s : State) : Host.Outcome State Fault Refusal := s.run virradIndexStatsEff

/-- Forecast's counters (R164, R168). -/
def forecastCtrs : List Ctr :=
  ([.fcToken, .fcCache, .fcLog, .fcConfirmed, .fcWithdrawn, .fcNoPrediction, .fcSuspended] : List DrvCtr).map Ctr.drive ++
    [1, 2, 3, 4, 5, 6].map Ctr.squash

def virradForecastStatsEff (d : Dev) : Dev := d.tool (fun (d : Dev) => d.print (d.counts forecastCtrs))
/-- VIRRAD_FORECAST_STATS (R168). -/
def execVirradForecastStats (s : State) : Host.Outcome State Fault Refusal := s.run virradForecastStatsEff

/-! ## Indicators: what the LEDs and `ALERT#` show, as functions of the state -/

/-- A colour and how it shows. -/
inductive Led
  | off
  | greenSteady | green2Hz | green1Hz | greenHalfHz | greenFlash | greenTraffic
  | amberSteady | amber2Hz | amber1Hz | amberHalfHz | amberFlash
  | alternating | blue1Hz
  deriving DecidableEq, Repr

/-- A cartridge's LED (R256). -/
def Bay.led (b : Bay) : Led :=
  if !b.present then .off
  else if b.locate then .alternating
  else match (if b.owes && b.guestState != .empty then b.guestState else b.state) with
    | .authenticating | .attaching => .green2Hz
    | .inService => .greenSteady
    | .evacuating | .releasing => .greenHalfHz
    | .evacuated | .authenticated => .greenFlash
    | .refused => .amber2Hz
    | .foreign => .amberHalfHz
    | .released | .quiesced | .failed => .amberSteady
    | .missing | .empty => .off

/-- The STATUS LED (R453): the first row that applies. -/
def Dev.statusLed (d : Dev) : Led :=
  if d.par.run == .off || d.pow.rung == .glaze || !d.pow.p12v then .off
  else if d.par.run == .haltedPll || !d.gale.failed.isEmpty || d.sec.lcUse.isNone then .amber2Hz
  else if d.pow.stopped || d.par.run == .haltedTrip then .amberSteady
  else if d.par.run == .recovery then .alternating
  else if d.par.run == .starting || d.par.mode == 7 then .green1Hz
  else if d.par.mode == 8 then .amberFlash
  else if d.par.mode == 4 || d.par.mode == 5 || d.pow.bank.state == .unhealthy || d.mem.remapFull then .amberHalfHz
  else if d.pow.rung == .frost then .greenFlash
  else .greenSteady

/-- The LOCATE LED (R454). -/
def Dev.locateShown (d : Dev) : Led := if d.pow.rung != .glaze && (d.mgmt.locateLed || d.mgmt.locateTimed) then .blue1Hz else .off

/-- A cage's link LED (R455). `traffic`: within the last 50 ms. -/
def Dev.linkLed (d : Dev) (l : Link) (traffic : Bool) : Led :=
  let x := d.net.links.get l
  if x.refused then .amberSteady
  else if x.module.isNone || d.pow.rung == .frost || d.pow.rung == .glaze then .off
  else if !x.up then .amber1Hz
  else if traffic then .greenTraffic
  else .greenSteady

/-- `ALERT#` is asserted while a PLDM message is unsent (R348). -/
def Dev.alert (d : Dev) : Bool := !d.mgmt.pldmQueue.isEmpty

end Sys2Proof.Machine
end

