-- ==== Sys2Proof/Machine/Dispatch.lean ====
section
/-! DEFINITION. One arm per command: a direct call of its meaning. -/

namespace Sys2Proof.Machine

def exec (i : Instr) (s : State) : Host.Outcome State Fault Refusal :=
  match i with
  | .arpRequest p target sender => Sys2Proof.Machine.execArpRequest p target sender s
  | .neighbourDiscovery p target solicitation => Sys2Proof.Machine.execNeighbourDiscovery p target solicitation s
  | .icmpEchoRequest p src payload => Sys2Proof.Machine.execIcmpEchoRequest p src payload s
  | .ptpMessage p m => Sys2Proof.Machine.execPtpMessage p m s
  | .otherFrameDrop f => Sys2Proof.Machine.execOtherFrameDrop f s
  | .init k => Sys2Proof.Machine.execInit k s
  | .initSignatureDone pointOk => Sys2Proof.Machine.execInitSignatureDone pointOk s
  | .auth k => Sys2Proof.Machine.execAuth k s
  | .data k => Sys2Proof.Machine.execData k s
  | .ack k => Sys2Proof.Machine.execAck k s
  | .keepalive k => Sys2Proof.Machine.execKeepalive k s
  | .close k => Sys2Proof.Machine.execClose k s
  | .pfcFrame p enable quanta => Sys2Proof.Machine.execPfcFrame p enable quanta s
  | .pfcPauseRenew p lull fill => Sys2Proof.Machine.execPfcPauseRenew p lull fill s
  | .delayedAckTimeout sid => Sys2Proof.Machine.execDelayedAckTimeout sid s
  | .rtoExpiry t => Sys2Proof.Machine.execRtoExpiry t s
  | .keyPhaseUpdate sid => Sys2Proof.Machine.execKeyPhaseUpdate sid s
  | .halfOpenTimeout sid => Sys2Proof.Machine.execHalfOpenTimeout sid s
  | .authHoldoffExpiry a => Sys2Proof.Machine.execAuthHoldoffExpiry a s
  | .idleTimeout sid => Sys2Proof.Machine.execIdleTimeout sid s
  | .tombstoneExpiry sid => Sys2Proof.Machine.execTombstoneExpiry sid s
  | .replyStallTimeout sid => Sys2Proof.Machine.execReplyStallTimeout sid s
  | .creditBorrowGrant cls => Sys2Proof.Machine.execCreditBorrowGrant cls s
  | .borrowWaitTimeout sid tag => Sys2Proof.Machine.execBorrowWaitTimeout sid tag s
  | .directoryEntryGrant sid tag => Sys2Proof.Machine.execDirectoryEntryGrant sid tag s
  | .moduleInsert l powerTenthW => Sys2Proof.Machine.execModuleInsert l powerTenthW s
  | .linkUp l us pmd => Sys2Proof.Machine.execLinkUp l us pmd s
  | .linkDown l cause => Sys2Proof.Machine.execLinkDown l cause s
  | .capsuleSequence sid tag => Sys2Proof.Machine.execCapsuleSequence sid tag s
  | .get seq => Sys2Proof.Machine.execGet seq s
  | .put seq => Sys2Proof.Machine.execPut seq s
  | .delete seq => Sys2Proof.Machine.execDelete seq s
  | .secureDelete seq => Sys2Proof.Machine.execSecureDelete seq s
  | .exists_ seq => Sys2Proof.Machine.execExists seq s
  | .casPut seq => Sys2Proof.Machine.execCasPut seq s
  | .patch seq => Sys2Proof.Machine.execPatch seq s
  | .scanPrefix seq => Sys2Proof.Machine.execScanPrefix seq s
  | .mpBegin seq => Sys2Proof.Machine.execMpBegin seq s
  | .mpPart seq => Sys2Proof.Machine.execMpPart seq s
  | .mpCommit seq => Sys2Proof.Machine.execMpCommit seq s
  | .mpCancel seq => Sys2Proof.Machine.execMpCancel seq s
  | .flush seq => Sys2Proof.Machine.execFlush seq s
  | .flushComplete seq => Sys2Proof.Machine.execFlushComplete seq s
  | .abort sid tag => Sys2Proof.Machine.execAbort sid tag s
  | .abortReplyRelease sid tag => Sys2Proof.Machine.execAbortReplyRelease sid tag s
  | .writerResolve seq group => Sys2Proof.Machine.execWriterResolve seq group s
  | .readerReplyPlace seq => Sys2Proof.Machine.execReaderReplyPlace seq s
  | .journalRecordCommit jseq => Sys2Proof.Machine.execJournalRecordCommit jseq s
  | .shareWindowEnd => Sys2Proof.Machine.execShareWindowEnd s
  | .mpIdleTimeout upload => Sys2Proof.Machine.execMpIdleTimeout upload s
  | .identify seq => Sys2Proof.Machine.execIdentify seq s
  | .getParam seq => Sys2Proof.Machine.execGetParam seq s
  | .setParam seq => Sys2Proof.Machine.execSetParam seq s
  | .commitStagedCommit seq => Sys2Proof.Machine.execCommitStagedCommit seq s
  | .commitAndReset seq => Sys2Proof.Machine.execCommitAndReset seq s
  | .commitStagedDiscard seq => Sys2Proof.Machine.execCommitStagedDiscard seq s
  | .selftestShort seq => Sys2Proof.Machine.execSelftestShort seq s
  | .selftestExtended seq => Sys2Proof.Machine.execSelftestExtended seq s
  | .selftestStop seq => Sys2Proof.Machine.execSelftestStop seq s
  | .selftestDone faults => Sys2Proof.Machine.execSelftestDone faults s
  | .nsCreate seq => Sys2Proof.Machine.execNsCreate seq s
  | .nsDelete seq => Sys2Proof.Machine.execNsDelete seq s
  | .formatClear seq => Sys2Proof.Machine.execFormatClear seq s
  | .sanitiseCrypto seq => Sys2Proof.Machine.execSanitiseCrypto seq s
  | .sanitiseBlock seq => Sys2Proof.Machine.execSanitiseBlock seq s
  | .readLog seq => Sys2Proof.Machine.execReadLog seq s
  | .subscribe seq => Sys2Proof.Machine.execSubscribe seq s
  | .unsubscribe seq => Sys2Proof.Machine.execUnsubscribe seq s
  | .eventList seq => Sys2Proof.Machine.execEventList seq s
  | .setLevel seq => Sys2Proof.Machine.execSetLevel seq s
  | .powerCtlStatus seq => Sys2Proof.Machine.execPowerCtlStatus seq s
  | .descend seq => Sys2Proof.Machine.execDescend seq s
  | .powerCtlWake seq => Sys2Proof.Machine.execPowerCtlWake seq s
  | .hold seq => Sys2Proof.Machine.execHold seq s
  | .capTest seq => Sys2Proof.Machine.execCapTest seq s
  | .setAlarm seq => Sys2Proof.Machine.execSetAlarm seq s
  | .updBegin seq certOk signatureOk => Sys2Proof.Machine.execUpdBegin seq certOk signatureOk s
  | .updChunk seq => Sys2Proof.Machine.execUpdChunk seq s
  | .updVerify seq => Sys2Proof.Machine.execUpdVerify seq s
  | .updActivateStagedSet seq => Sys2Proof.Machine.execUpdActivateStagedSet seq s
  | .updActivateOtherSlot seq => Sys2Proof.Machine.execUpdActivateOtherSlot seq s
  | .updActivateRecovery seq => Sys2Proof.Machine.execUpdActivateRecovery seq s
  | .updConfirm seq => Sys2Proof.Machine.execUpdConfirm seq s
  | .updCancel seq => Sys2Proof.Machine.execUpdCancel seq s
  | .evacuateStart seq => Sys2Proof.Machine.execEvacuateStart seq s
  | .evacuateStatus seq => Sys2Proof.Machine.execEvacuateStatus seq s
  | .evacuateCancel seq => Sys2Proof.Machine.execEvacuateCancel seq s
  | .cartRelease seq => Sys2Proof.Machine.execCartRelease seq s
  | .cartForget seq => Sys2Proof.Machine.execCartForget seq s
  | .cartReclaim seq => Sys2Proof.Machine.execCartReclaim seq s
  | .clearLost seq => Sys2Proof.Machine.execClearLost seq s
  | .policyWrite seq => Sys2Proof.Machine.execPolicyWrite seq s
  | .flipArm seq => Sys2Proof.Machine.execFlipArm seq s
  | .flipDisarm seq => Sys2Proof.Machine.execFlipDisarm seq s
  | .lineWrite seq => Sys2Proof.Machine.execLineWrite seq s
  | .lineRead seq => Sys2Proof.Machine.execLineRead seq s
  | .rawRead seq => Sys2Proof.Machine.execRawRead seq s
  | .galeRead seq => Sys2Proof.Machine.execGaleRead seq s
  | .galeSearch seq => Sys2Proof.Machine.execGaleSearch seq s
  | .ringLoad seq => Sys2Proof.Machine.execRingLoad seq s
  | .pair seq => Sys2Proof.Machine.execPair seq s
  | .unpair seq => Sys2Proof.Machine.execUnpair seq s
  | .join seq partnerFits => Sys2Proof.Machine.execJoin seq partnerFits s
  | .unjoin seq => Sys2Proof.Machine.execUnjoin seq s
  | .setMode seq => Sys2Proof.Machine.execSetMode seq s
  | .handover seq => Sys2Proof.Machine.execHandover seq s
  | .handoverWitnessTimeout => Sys2Proof.Machine.execHandoverWitnessTimeout s
  | .promote seq => Sys2Proof.Machine.execPromote seq s
  | .promoteForce seq => Sys2Proof.Machine.execPromoteForce seq s
  | .mirrorStatus seq => Sys2Proof.Machine.execMirrorStatus seq s
  | .witnessKey seq => Sys2Proof.Machine.execWitnessKey seq s
  | .chain seq => Sys2Proof.Machine.execChain seq s
  | .measure seq => Sys2Proof.Machine.execMeasure seq s
  | .credStage seq => Sys2Proof.Machine.execCredStage seq s
  | .credActivate seq => Sys2Proof.Machine.execCredActivate seq s
  | .credDelete seq => Sys2Proof.Machine.execCredDelete seq s
  | .credList seq => Sys2Proof.Machine.execCredList seq s
  | .authoritySet seq => Sys2Proof.Machine.execAuthoritySet seq s
  | .provision seq => Sys2Proof.Machine.execProvision seq s
  | .takeOwnership seq => Sys2Proof.Machine.execTakeOwnership seq s
  | .decommission seq => Sys2Proof.Machine.execDecommission seq s
  | .retire seq => Sys2Proof.Machine.execRetire seq s
  | .galeResult t key upsets => Sys2Proof.Machine.execGaleResult t key upsets s
  | .galeVerifierRead u => Sys2Proof.Machine.execGaleVerifierRead u s
  | .galeStepUpDwell => Sys2Proof.Machine.execGaleStepUpDwell s
  | .epochHeadClose => Sys2Proof.Machine.execEpochHeadClose s
  | .epochEndRecordDurable => Sys2Proof.Machine.execEpochEndRecordDurable s
  | .indexPageReadDone ns lo o => Sys2Proof.Machine.execIndexPageReadDone ns lo o s
  | .fpRebuildStep ns lo => Sys2Proof.Machine.execFpRebuildStep ns lo s
  | .forecastSuspendWindow => Sys2Proof.Machine.execForecastSuspendWindow s
  | .nandReadDone read o => Sys2Proof.Machine.execNandReadDone read o s
  | .nandProgramPass prog => Sys2Proof.Machine.execNandProgramPass prog s
  | .nandProgramFail prog => Sys2Proof.Machine.execNandProgramFail prog s
  | .nandEraseDone erase ok => Sys2Proof.Machine.execNandEraseDone erase ok s
  | .governorAdmit bay => Sys2Proof.Machine.execGovernorAdmit bay s
  | .rowCloseTimeout bay group block => Sys2Proof.Machine.execRowCloseTimeout bay group block s
  | .foldBatch bay => Sys2Proof.Machine.execFoldBatch bay s
  | .gcBatch bay => Sys2Proof.Machine.execGcBatch bay s
  | .balanceMove => Sys2Proof.Machine.execBalanceMove s
  | .patrolRead bay group block row o => Sys2Proof.Machine.execPatrolRead bay group block row o s
  | .cartPresenceAssert bay c => Sys2Proof.Machine.execCartPresenceAssert bay c s
  | .cartLatchClose bay => Sys2Proof.Machine.execCartLatchClose bay s
  | .cartAuthResponse bay a => Sys2Proof.Machine.execCartAuthResponse bay a s
  | .cartAuthTimeout bay => Sys2Proof.Machine.execCartAuthTimeout bay s
  | .cartLatchOpen bay => Sys2Proof.Machine.execCartLatchOpen bay s
  | .quiesceDeadline bay => Sys2Proof.Machine.execQuiesceDeadline bay s
  | .cartPresenceDrop bay => Sys2Proof.Machine.execCartPresenceDrop bay s
  | .cartLivenessPoll bay answered => Sys2Proof.Machine.execCartLivenessPoll bay answered s
  | .cartRailFault bay => Sys2Proof.Machine.execCartRailFault bay s
  | .wearSyncTimer bay => Sys2Proof.Machine.execWearSyncTimer bay s
  | .cartLocateExpiry bay => Sys2Proof.Machine.execCartLocateExpiry bay s
  | .memCe e => Sys2Proof.Machine.execMemCe e s
  | .memUe e => Sys2Proof.Machine.execMemUe e s
  | .narrowWrite requester addr width => Sys2Proof.Machine.execNarrowWrite requester addr width s
  | .dewRead e => Sys2Proof.Machine.execDewRead e s
  | .dewLapSlow => Sys2Proof.Machine.execDewLapSlow s
  | .hello h => Sys2Proof.Machine.execHello h s
  | .helloRetryTimer => Sys2Proof.Machine.execHelloRetryTimer s
  | .cwAck h => Sys2Proof.Machine.execCwAck h s
  | .cwClose => Sys2Proof.Machine.execCwClose s
  | .heartbeat h => Sys2Proof.Machine.execHeartbeat h s
  | .heartbeatTimer => Sys2Proof.Machine.execHeartbeatTimer s
  | .valueRecord h r => Sys2Proof.Machine.execValueRecord h r s
  | .patchRecord h r => Sys2Proof.Machine.execPatchRecord h r s
  | .deleteRecord h r => Sys2Proof.Machine.execDeleteRecord h r s
  | .secureDeleteRecord h r => Sys2Proof.Machine.execSecureDeleteRecord h r s
  | .mpBeginRecord h r => Sys2Proof.Machine.execMpBeginRecord h r s
  | .mpPartRecord h r => Sys2Proof.Machine.execMpPartRecord h r s
  | .mpCommitRecord h r => Sys2Proof.Machine.execMpCommitRecord h r s
  | .mpCancelRecord h r => Sys2Proof.Machine.execMpCancelRecord h r s
  | .lostRecord h r => Sys2Proof.Machine.execLostRecord h r s
  | .listRecord h ns snapshot lo hi entries => Sys2Proof.Machine.execListRecord h ns snapshot lo hi entries s
  | .wantRecord h ns hashes => Sys2Proof.Machine.execWantRecord h ns hashes s
  | .appliedRecord h ns watermark versions failed => Sys2Proof.Machine.execAppliedRecord h ns watermark versions failed s
  | .peerLossTimeout => Sys2Proof.Machine.execPeerLossTimeout s
  | .leaseRenewTimer => Sys2Proof.Machine.execLeaseRenewTimer s
  | .leaseExpiry => Sys2Proof.Machine.execLeaseExpiry s
  | .soloWaitExpiry => Sys2Proof.Machine.execSoloWaitExpiry s
  | .claimTimer => Sys2Proof.Machine.execClaimTimer s
  | .witnessRetransmit => Sys2Proof.Machine.execWitnessRetransmit s
  | .witnessGrant r => Sys2Proof.Machine.execWitnessGrant r s
  | .witnessRefuse r => Sys2Proof.Machine.execWitnessRefuse r s
  | .resyncBucket ns lo => Sys2Proof.Machine.execResyncBucket ns lo s
  | .hazeIdleTimeout => Sys2Proof.Machine.execHazeIdleTimeout s
  | .fogIdleTimeout => Sys2Proof.Machine.execFogIdleTimeout s
  | .frostIdleTimeout => Sys2Proof.Machine.execFrostIdleTimeout s
  | .glazeIdleTimeout => Sys2Proof.Machine.execGlazeIdleTimeout s
  | .wakePin => Sys2Proof.Machine.execWakePin s
  | .rtcAlarm => Sys2Proof.Machine.execRtcAlarm s
  | .holdExpiry => Sys2Proof.Machine.execHoldExpiry s
  | .powerCapPeriod inputTenthW => Sys2Proof.Machine.execPowerCapPeriod inputTenthW s
  | .knobReleaseStep => Sys2Proof.Machine.execKnobReleaseStep s
  | .floorBreachRepeat => Sys2Proof.Machine.execFloorBreachRepeat s
  | .thermalSample temps => Sys2Proof.Machine.execThermalSample temps s
  | .thermalLevelExit group => Sys2Proof.Machine.execThermalLevelExit group s
  | .thermalStopRecovery => Sys2Proof.Machine.execThermalStopRecovery s
  | .thermalTrip group point temp => Sys2Proof.Machine.execThermalTrip group point temp s
  | .capTestSchedule => Sys2Proof.Machine.execCapTestSchedule s
  | .capTestDone m => Sys2Proof.Machine.execCapTestDone m s
  | .capTestRetry => Sys2Proof.Machine.execCapTestRetry s
  | .powerFailWarning c => Sys2Proof.Machine.execPowerFailWarning c s
  | .holdupEnergyLow => Sys2Proof.Machine.execHoldupEnergyLow s
  | .pllUnlock => Sys2Proof.Machine.execPllUnlock s
  | .aux3v3Low => Sys2Proof.Machine.execAux3v3Low s
  | .powerOn slotId => Sys2Proof.Machine.execPowerOn slotId s
  | .pwrEnDeassert => Sys2Proof.Machine.execPwrEnDeassert s
  | .shutdownLimit => Sys2Proof.Machine.execShutdownLimit s
  | .fwWatchdog core ms abort => Sys2Proof.Machine.execFwWatchdog core ms abort s
  | .vaneWatchdog => Sys2Proof.Machine.execVaneWatchdog s
  | .startReportTimeout => Sys2Proof.Machine.execStartReportTimeout s
  | .sensorSample id reading => Sys2Proof.Machine.execSensorSample id reading s
  | .ptpAnnounceTimeout => Sys2Proof.Machine.execPtpAnnounceTimeout s
  | .persistedTimeWrite => Sys2Proof.Machine.execPersistedTimeWrite s
  | .baroFlush => Sys2Proof.Machine.execBaroFlush s
  | .baroFlushAge => Sys2Proof.Machine.execBaroFlushAge s
  | .stagedCredExpiry id => Sys2Proof.Machine.execStagedCredExpiry id s
  | .updLeaseLapse => Sys2Proof.Machine.execUpdLeaseLapse s
  | .trialDeadline => Sys2Proof.Machine.execTrialDeadline s
  | .tftpBlock n bytes certOk signatureOk => Sys2Proof.Machine.execTftpBlock n bytes certOk signatureOk s
  | .tftpRetryTimer => Sys2Proof.Machine.execTftpRetryTimer s
  | .httpsConnect chain => Sys2Proof.Machine.execHttpsConnect chain s
  | .mgmtLinkChange up speed => Sys2Proof.Machine.execMgmtLinkChange up speed s
  | .redfishServiceRootGet c => Sys2Proof.Machine.execRedfishServiceRootGet c s
  | .chassisGet c => Sys2Proof.Machine.execChassisGet c s
  | .chassisPatch c on => Sys2Proof.Machine.execChassisPatch c on s
  | .sensorGet c id => Sys2Proof.Machine.execSensorGet c id s
  | .thermalSubsystemGet c => Sys2Proof.Machine.execThermalSubsystemGet c s
  | .powerSubsystemGet c => Sys2Proof.Machine.execPowerSubsystemGet c s
  | .fiernPowerWake c => Sys2Proof.Machine.execFiernPowerWake c s
  | .countersGet c => Sys2Proof.Machine.execCountersGet c s
  | .driveBayGet c bay => Sys2Proof.Machine.execDriveBayGet c bay s
  | .managerGet c => Sys2Proof.Machine.execManagerGet c s
  | .managerPatchDatetime c ns => Sys2Proof.Machine.execManagerPatchDatetime c ns s
  | .ethernetInterfaceGet c => Sys2Proof.Machine.execEthernetInterfaceGet c s
  | .ethernetInterfacePatch c settings => Sys2Proof.Machine.execEthernetInterfacePatch c settings s
  | .barographEntriesGet c skip top => Sys2Proof.Machine.execBarographEntriesGet c skip top s
  | .vaneRingEntriesGet c skip top => Sys2Proof.Machine.execVaneRingEntriesGet c skip top s
  | .retirementEntriesGet c => Sys2Proof.Machine.execRetirementEntriesGet c s
  | .updateStatusEntriesGet c => Sys2Proof.Machine.execUpdateStatusEntriesGet c s
  | .eventServiceSse c minSev src => Sys2Proof.Machine.execEventServiceSse c minSev src s
  | .updateServiceGet c => Sys2Proof.Machine.execUpdateServiceGet c s
  | .multipartHttpPush c package immediate certOk signatureOk => Sys2Proof.Machine.execMultipartHttpPush c package immediate certOk signatureOk s
  | .redfishOtherRequest c r => Sys2Proof.Machine.execRedfishOtherRequest c r s
  | .setEndpointId eid => Sys2Proof.Machine.execSetEndpointId eid s
  | .getEndpointId => Sys2Proof.Machine.execGetEndpointId s
  | .getMctpVersionSupport msgType => Sys2Proof.Machine.execGetMctpVersionSupport msgType s
  | .getMessageTypeSupport => Sys2Proof.Machine.execGetMessageTypeSupport s
  | .getTid => Sys2Proof.Machine.execGetTid s
  | .getPldmVersion typ => Sys2Proof.Machine.execGetPldmVersion typ s
  | .getPldmTypes => Sys2Proof.Machine.execGetPldmTypes s
  | .getPldmCommands typ => Sys2Proof.Machine.execGetPldmCommands typ s
  | .getPdrRepositoryInfo => Sys2Proof.Machine.execGetPdrRepositoryInfo s
  | .getPdr handle => Sys2Proof.Machine.execGetPdr handle s
  | .getSensorReading sensor => Sys2Proof.Machine.execGetSensorReading sensor s
  | .getStateSensorReadings sensor => Sys2Proof.Machine.execGetStateSensorReadings sensor s
  | .effecterWake => Sys2Proof.Machine.execEffecterWake s
  | .effecterLocate on => Sys2Proof.Machine.execEffecterLocate on s
  | .setEventReceiver addr => Sys2Proof.Machine.execSetEventReceiver addr s
  | .platformEventAccept => Sys2Proof.Machine.execPlatformEventAccept s
  | .locateExpiry => Sys2Proof.Machine.execLocateExpiry s
  | .getVersion => Sys2Proof.Machine.execGetVersion s
  | .getCapabilities => Sys2Proof.Machine.execGetCapabilities s
  | .negotiateAlgorithms => Sys2Proof.Machine.execNegotiateAlgorithms s
  | .getDigests => Sys2Proof.Machine.execGetDigests s
  | .getCertificate offset length => Sys2Proof.Machine.execGetCertificate offset length s
  | .challenge nonce => Sys2Proof.Machine.execChallenge nonce s
  | .getMeasurements index nonce => Sys2Proof.Machine.execGetMeasurements index nonce s
  | .virradNsShow ns => Sys2Proof.Machine.execVirradNsShow ns s
  | .virradCartLocate bay => Sys2Proof.Machine.execVirradCartLocate bay s
  | .virradTimeSet ns => Sys2Proof.Machine.execVirradTimeSet ns s
  | .virradPowerWake => Sys2Proof.Machine.execVirradPowerWake s
  | .virradPortStats p => Sys2Proof.Machine.execVirradPortStats p s
  | .virradSessionStats sid => Sys2Proof.Machine.execVirradSessionStats sid s
  | .virradIndexStats => Sys2Proof.Machine.execVirradIndexStats s
  | .virradForecastStats => Sys2Proof.Machine.execVirradForecastStats s
  | .inputRestored p12v => Sys2Proof.Machine.execInputRestored p12v s
  | .dhcpReply addr server file => Sys2Proof.Machine.execDhcpReply addr server file s
  | .moduleRemove l => Sys2Proof.Machine.execModuleRemove l s
  | .dieStopsAnswering bay die channel => Sys2Proof.Machine.execDieStopsAnswering bay die channel s
  | .galeDieNoAnswer die => Sys2Proof.Machine.execGaleDieNoAnswer die s
  | .asyncLagWarn ns => Sys2Proof.Machine.execAsyncLagWarn ns s
  | .partnerRead h id ns opcode key offset len version => Sys2Proof.Machine.execPartnerRead h id ns opcode key offset len version s
  | .partnerReadReply h id status version data => Sys2Proof.Machine.execPartnerReadReply h id status version data s
  | .roleRecord h roles epoch => Sys2Proof.Machine.execRoleRecord h roles epoch s
  | .pldmUnsupportedCommand typ cmd => Sys2Proof.Machine.execPldmUnsupportedCommand typ cmd s
  | .spdmUnsupportedRequest code => Sys2Proof.Machine.execSpdmUnsupportedRequest code s

end Sys2Proof.Machine
end

