-- ==== Sys2Proof/Machine/Tick.lean ====
section
/-! DEFINITION. A tick of CK_TICK: what the drive does when no command waits (R21, R349, R350). DESIGN CHOICE, log entry 5. -/

namespace Sys2Proof.Machine

/-- The nanoseconds of slew a tick may take: `mgmt.time_slew_ppm` counted up in thousandths (R350). -/
def slewShare (c : Clock) (ppm : Nat) : Nat × Nat :=
  if c.slew = 0 then (0, 0) else ((c.slewStep + ppm) / 1000, (c.slewStep + ppm) % 1000)

/-- Drive time after one tick of 1 µs, with a share of the correction still to be slewed (R349, R350). -/
def Clock.advance (c : Clock) (ppm : Nat) : Clock :=
  let p := slewShare c ppm
  let m := min p.1 c.slew.natAbs
  let ns := if 0 ≤ c.slew then c.ns + 1000 + m else c.ns + 1000 - m
  { c with tick := c.tick + 1, ns := ns, slewStep := p.2,
           slew := if 0 ≤ c.slew then c.slew - m else c.slew + m }

/-- Microseconds of a day. -/
abbrev dayUs : Nat := 86400000000

/-- The wear totals of now and of the 30 days before, kept for the projection (R244). -/
def Bay.sampleWear (b : Bay) : Bay := if b.cart.isSome then { b with wearDays := (b.totalWear :: b.wearDays).take 31 } else b

/-- An hour with the rails on is counted (R242). -/
def Bay.hour (b : Bay) : Bay := if b.railsOn then { b with powerOnHours := b.powerOnHours + 1 } else b

/-- Drive time passes; hours with the rails on are counted, and once a day the wear totals are kept. -/
def Dev.pass (d : Dev) : Dev :=
  let c := d.clk.advance (d.pnum P.mgmtTimeSlewPpm)
  let b1 := if c.tick % 3600000000 = 0 then d.bays.map Bay.hour else d.bays
  { d with clk := c, bays := if c.tick % dayUs = 0 then b1.map Bay.sampleWear else b1 }

/-- What goes on while the drive runs and is awake, as soon as it can: bucket moves, releases, quiesces and handovers whose work is
done, Deluge, records for the partner (R250, R253, R255, R293, R306, R393). -/
def Dev.goOn (d : Dev) : Dev :=
  if d.pow.rung == .clear then (((((d.sanAll).movesOn).releasesOn).quiescesOn).handoverOn).cwPump else d.quiescesOn

/-- One tick of the drive: the governor's waits are counted (R236); packets whose pause has ended go (R55); what waits for a drain that is over by now is performed (R435); work that can go on does, and cartridges
that it held back are attached (R249, R396); an armed descent begins once the drive is idle (R321). -/
def Dev.tick (d : Dev) : Dev :=
  let d1 := d.pass.governorTick.releaseHeld.performPending
  if d1.par.run == .running && d1.pow.failing.isNone then d1.goOn.attachAdmitted.armedDescent else d1

end Sys2Proof.Machine
end

