-- ==== Sys2Proof/Safety.lean ====
section
/-! DEFINITION. The terms in which the claims speak: what a command sends out, when a capsule is answered, when a capsule may be
executed, and the invariant on the reported mode. -/

namespace Sys2Proof.Machine

/-- Between two states of the drive, something leaves it: the outputs of the later state are new ones before the old ones, and
`o` is among the new ones. -/
def emits (d d' : Dev) (o : Out) : Prop := ∃ new, d'.out = new ++ d.out ∧ o ∈ new

/-- A packet leaves on its port, or joins those that wait while its priority is paused; it is lost where the link is down (R55). -/
def goesOut (d d' : Dev) (k : OutPacket) : Prop :=
  if d.paused k.port k.pcp then k ∈ d'.net.held else d.portUp k.port = true → emits d d' (.packet k)

/-- A request goes to the witness, at its address and port (R300). -/
def asked (d d' : Dev) (q : WitReq) : Prop :=
  emits d d' (.witness (d.par.value P.mirrorWitnessAddr) (d.pnum P.mirrorWitnessPort) q.msg q.nonce q.forced q.bytes)

/-- A new request goes to the witness: its bytes hold the lease asked for, the pair's ID and epoch under a signature of the drive (R300). -/
def requested (d d' : Dev) (q : WitReq) : Prop :=
  asked d d' q ∧ ∃ salt, q.bytes = d.witnessBytes q.msg q.nonce q.forced salt

/-- Between two states of the drive a capsule gets its final reply, with a status, a key version and reply data, and the capsule is
done: none at its place in its session's stream is left, so its tag is free (R68, R72). -/
def answered (d d' : Dev) (c : Cap) (st : BitVec 16) (version : Nat) (data : Bytes) : Prop :=
  emits d d' (.reply c.sid c.tag st version true data) ∧ ∀ x ∈ d'.que.caps, ¬ (x.sid = c.sid ∧ x.start = c.start)

/-- A capsule of this drive's own hosts is sequenced under a number with an opcode, its session stands, and the queues let it be
dispatched now (R118, R122, R123). -/
abbrev ready (d : Dev) (seq : Nat) (op : BitVec 16) (c : Cap) : Prop :=
  d.capBySeq seq = some c ∧ c.hdr.opcode = op ∧ d.mayDispatch c = true ∧ c.partner = none ∧ (d.session? c.sid).isSome = true

/-- The drive reports the mode it is in, if it has one to report (R431). -/
abbrev settled (d : Dev) : Prop := d.reports = true → d.par.mode = d.modeNow

/-- The capsule at a session's stream position, as it stands in a later state. -/
abbrev capNow (d : Dev) (c x : Cap) : Prop := x ∈ d.que.caps ∧ x.sid = c.sid ∧ x.start = c.start

/-- A protected packet reaches an established session: the port hears, the drive is in Clear, Gale and the session table name the
session, its tag verifies, and its PSN lies in the window and is new (R58 checks 7 to 10). -/
abbrev arrives (d : Dev) (t : PktType) (k : Packet) (x : Session) : Prop :=
  d.hears k.port = true ∧ d.pow.rung = .clear ∧ d.sessionFor k.addr k.uport k.port k.sid = some x ∧ x.live = true ∧
    x.opens t k = true ∧ x.rxCum ≤ k.psn.toNat ∧ k.psn.toNat < x.rxCum + 4096 ∧ x.rxGot.contains k.psn.toNat = false

/-- Nothing holds back or turns away a reader of a capsule's key: its turn has come, its namespace serves reads here and is not under
maintenance, and no duplicate entry of the key is known (R127, R186, R297, R393). -/
abbrev openKey (d : Dev) (c : Cap) : Prop :=
  d.turn c = true ∧ d.mirrorGate c.hdr.ns false false = none ∧ d.followerServes c.hdr.ns = true ∧
    d.turnedAway c.hdr.ns (d.capHash c) c.seq = false ∧ d.gale.dupKeys.contains (c.hdr.ns, d.capHash c) = false ∧
    d.nsBusy c.hdr.ns c.seq = false ∧ d.follows c.hdr.ns = false

/-- No batch, secure deletion, reclaim or sanitise is under way and no power-fail sequence runs: a die operation that completes brings
nothing further of theirs about. -/
abbrev quiet (d : Dev) : Prop :=
  d.med.batches = [] ∧ d.med.secures = [] ∧ d.med.reclaims = [] ∧ d.sec.sanitise = [] ∧ d.pow.failing = none

/-- Every band that is closed has its summary, so none is written now (R226). -/
abbrev summed (d : Dev) : Prop :=
  ∀ (bay : BayNo) (x : Band), x ∈ (d.bays.get bay).bands → x.isOpen = true ∨ x.erasing = true ∨ x.summaryLoc ≠ 0

/-- No capsule waits to read. -/
abbrev noReaders (d : Dev) : Prop := ∀ x ∈ d.que.caps, isReader x.hdr.opcode = false

/-- No capsule, buffered version, upload or reader is in the drive. -/
abbrev noWork (d : Dev) : Prop := quiet d ∧ d.que.caps = [] ∧ d.que.drift = [] ∧ d.idx.uploads = []

/-- A capsule carries a block of `SET_PARAM` with the one entry `e`, which the scan of the block admits (R441). -/
abbrev setsOne (d : Dev) (c : Cap) (e : PEntry) : Prop :=
  8 ≤ c.value.length ∧ c.value.field 0 2 = 1 ∧ readEntries (c.value.drop 8) 1 = some [e] ∧ c.value.zeroAt 2 6 = true ∧
    (d.scanBlock ⟨d.par.values, [], d.par.selfTest.isSome⟩ 0 [e]).1 = none

/-- The reply of `SET_PARAM` and `COMMIT_STAGED`: the settings generation and a count (R443). -/
abbrev settingsAnswer (gen n : Nat) : Bytes := natToBytesBE 8 gen ++ natToBytesBE 4 n ++ zeroBytes 4

/-- A life-cycle transition may begin, and the drive is drained but for its capsule, so it goes through at once (R388). -/
abbrev transits (d : Dev) (seq op : Nat) (c : Cap) : Prop :=
  ready d seq Op.attest c ∧ d.attestCheck c = none ∧ c.aOp = op ∧ d.lcStep1 c = none ∧
    ((d.maintCell .lc).1 = .r ∨ (d.maintCell .lc).1 = .q) ∧ d.par.run = .running ∧ d.par.pendingReset = none ∧
    d.pow.failing = none ∧ d.drained (some seq) = true ∧ ∀ x ∈ d.que.caps, x.seq = seq → x = c

/-- A life-cycle transition has been made: the state is the target's, none is under way, its capsule is answered (R388). -/
abbrev transited (d d' : Dev) (c : Cap) (target : BitVec 8) (data : Bytes) : Prop :=
  d'.sec.lcByte = target ∧ d'.sec.run = none ∧ answered d d' c Status.ok 0 data

/-- The drive as it takes a message of the partner that comes in its turn, while none is held back (R286). -/
abbrev framed (d : Dev) (h : CwHdr) (x : CwMsg) : Dev :=
  let d1 := (d.cwTake h false).cwRecord h.psn (max 1 (ceilDiv x.size 8192))
  ({ d1 with mir := { d1.mir with held := [⟨h.psn, x⟩] } } : Dev).unhold ⟨h.psn, x⟩

/-- A frame of the partner comes in its turn over the linked pair, and none is held back. -/
abbrev inTurn (d : Dev) (h : CwHdr) : Prop := d.linked = true ∧ h.psn = d.mir.rxCum ∧ d.mir.held = []

/-- The state that a replication record is applied to: its frames are taken, and the counter and the newest version seen of its
namespace cover its version (R119, R294). -/
abbrev recordAt (d : Dev) (h : CwHdr) (k : CwRec → CwMsg) (r : CwRec) : Dev :=
  ((framed d h (k r)).raiseCounter r.version).modMirror r.ns (fun x => { x with newest := max x.newest r.version })

/-- A replication record comes in its turn over the linked pair for a namespace that this drive follows (R293). -/
abbrev follower (d : Dev) (h : CwHdr) (n : BitVec 12) (m : MirrorNs) (s : Namespace) : Prop :=
  inTurn d h ∧ d.mirror? n = some m ∧ m.lead = false ∧ d.nsOf n = some s

/-- The record is newer than what is known of its key, which is in the state `k`, and nothing keeps it from being applied (R294). -/
abbrev newer (d : Dev) (h : CwHdr) (x : CwRec → CwMsg) (r : CwRec) (s : Namespace) (k : KState) : Prop :=
  d.que.drift.any (fun v => v.ns == r.ns && v.seq == r.version) = false ∧ d.keyVersion r.ns (keyHash s.salt r.key) < r.version ∧
    d.numberTaken r.version = false ∧ (recordAt d h x r).applyStatus r.ns (keyHash s.salt r.key) = none ∧
    (recordAt d h x r).recState r.ns (keyHash s.salt r.key) r.key = some k

/-- A record that leaves content `p` (or nothing) under its key finds room: the quotas hold and there is a place for it (R126). -/
abbrev placed (d : Dev) (r : CwRec) (s : Namespace) (k : KState) (op : BitVec 16) (p : Plan) (secure : Bool) (u : Option Nat) : Prop :=
  d.binds s (keyHash s.salt r.key) r.key.length (if p.content.isNone || u.isSome then 0 else chunkBytes (p.content.getD []).length) k.charge
      (p.content.isSome && (k == .absent || k == .lostHome)) = .none ∧
    (d.applyWrite s r (keyHash s.salt r.key) k op p secure u).isSome = true

/-- Drift holds the version of a record, with its content. -/
abbrev buffers (d : Dev) (r : CwRec) (b : Option Bytes) : Prop :=
  ∃ v ∈ d.que.drift, v.ns = r.ns ∧ v.seq = r.version ∧ v.key = r.key ∧ v.content = b

/-! ## Kinds of commands, for the frames -/

/-- The commands of management, of the sideband and of the session timers that hold no work: they touch nothing stored. -/
def isManagement : Instr → Bool
  | .pfcFrame .. | .pfcPauseRenew .. | .delayedAckTimeout .. | .keyPhaseUpdate .. | .authHoldoffExpiry ..
    | .tombstoneExpiry .. | .moduleInsert .. | .selftestDone .. | .floorBreachRepeat
    | .ptpAnnounceTimeout | .persistedTimeWrite | .httpsConnect .. | .mgmtLinkChange ..
    | .redfishServiceRootGet .. | .chassisGet .. | .chassisPatch .. | .sensorGet .. | .thermalSubsystemGet ..
    | .powerSubsystemGet .. | .countersGet .. | .driveBayGet .. | .managerGet .. | .managerPatchDatetime ..
    | .ethernetInterfaceGet .. | .ethernetInterfacePatch .. | .barographEntriesGet .. | .vaneRingEntriesGet ..
    | .retirementEntriesGet .. | .updateStatusEntriesGet .. | .eventServiceSse .. | .updateServiceGet ..
    | .redfishOtherRequest .. | .setEndpointId .. | .getEndpointId | .getMctpVersionSupport .. | .getMessageTypeSupport
    | .getTid | .getPldmVersion .. | .getPldmTypes | .getPldmCommands .. | .getPdrRepositoryInfo | .getPdr ..
    | .getSensorReading .. | .getStateSensorReadings .. | .effecterLocate .. | .setEventReceiver .. | .platformEventAccept
    | .locateExpiry | .getVersion | .getCapabilities | .negotiateAlgorithms | .getDigests | .getCertificate ..
    | .virradNsShow .. | .virradTimeSet .. | .virradPortStats .. | .virradSessionStats .. | .virradIndexStats
    | .virradForecastStats | .pldmUnsupportedCommand .. | .spdmUnsupportedRequest .. => true
  | _ => false

/-- Admin opcodes that read, subscribe, pair or flush. -/
def isAdminQuery : Instr → Bool
  | .flush .. | .flushComplete .. | .abortReplyRelease .. | .identify .. | .getParam .. | .readLog .. | .subscribe ..
    | .unsubscribe .. | .eventList .. | .setLevel .. | .pair .. | .unpair .. | .setMode .. | .handoverWitnessTimeout
    | .mirrorStatus .. | .witnessKey .. => true
  | _ => false

/-- The dispatch of a writer, and the grants that a capsule waits for. -/
def isWriterTurn : Instr → Bool
  | .creditBorrowGrant .. | .borrowWaitTimeout .. | .directoryEntryGrant .. | .put .. | .delete .. | .secureDelete ..
    | .casPut .. | .patch .. | .mpCommit .. => true
  | _ => false

/-- The ops of `POWER_CTL` and the steps of the hold-up test, of the knobs and of the thermal levels. -/
def isPowerOp : Instr → Bool
  | .powerCtlStatus .. | .descend .. | .powerCtlWake .. | .hold .. | .capTest .. | .setAlarm .. | .powerCapPeriod ..
    | .knobReleaseStep | .thermalLevelExit .. | .capTestDone .. => true
  | _ => false

/-- The ops of `DIAG`. -/
def isDiagOp : Instr → Bool
  | .flipArm .. | .flipDisarm .. | .lineWrite .. | .lineRead .. | .rawRead .. | .galeRead .. | .galeSearch .. => true
  | _ => false

/-- Delivery and confirmation of an update. -/
def isUpdateStep : Instr → Bool
  | .updBegin .. | .updChunk .. | .updVerify .. | .updConfirm .. | .updLeaseLapse | .tftpRetryTimer | .dhcpReply .. => true
  | _ => false

/-- Frames and packets, and the ends of sessions. -/
def isTransport : Instr → Bool
  | .arpRequest .. | .neighbourDiscovery .. | .icmpEchoRequest .. | .otherFrameDrop .. | .init .. | .initSignatureDone ..
    | .auth .. | .data .. | .ack .. | .keepalive .. | .close .. | .halfOpenTimeout .. | .idleTimeout ..
    | .replyStallTimeout .. => true
  | _ => false

/-- Control frames and timers of the pair. -/
def isPairStep : Instr → Bool
  | .helloRetryTimer | .cwAck .. | .heartbeat .. | .heartbeatTimer | .leaseRenewTimer | .claimTimer
    | .witnessRetransmit | .asyncLagWarn .. => true
  | _ => false

/-- Monsoon, Isobar and the sensors of a bay. -/
def isMediaStep : Instr → Bool
  | .epochHeadClose | .fpRebuildStep .. | .forecastSuspendWindow | .governorAdmit .. | .rowCloseTimeout ..
    | .balanceMove | .cartLatchClose .. | .cartLatchOpen .. | .cartLocateExpiry ..
    | .virradCartLocate .. => true
  | _ => false

/-- Monsoon's own work on the bands: in Haze to Glaze it brings the drive to Clear first (R314). -/
def isBandWork : Instr → Bool
  | .foldBatch .. | .gcBatch .. | .patrolRead .. => true
  | _ => false

/-- A capacitor test that falls due: in Haze to Glaze it brings the drive to Clear first (R327). -/
def isTestDue : Instr → Bool
  | .capTestSchedule | .capTestRetry => true
  | _ => false

/-- Readers, writers once resolved, uploads, replication records, and what completes them. -/
def isDataPath : Instr → Bool
  | .get .. | .exists_ .. | .scanPrefix .. | .mpBegin .. | .mpPart .. | .mpCancel .. | .writerResolve ..
    | .readerReplyPlace .. | .journalRecordCommit .. | .mpIdleTimeout .. | .nsCreate .. | .evacuateStart ..
    | .evacuateStatus .. | .evacuateCancel .. | .epochEndRecordDurable | .indexPageReadDone .. | .nandReadDone ..
    | .valueRecord .. | .patchRecord .. | .deleteRecord .. | .secureDeleteRecord .. | .mpBeginRecord .. | .mpPartRecord ..
    | .mpCommitRecord .. | .mpCancelRecord .. | .lostRecord .. | .listRecord .. | .wantRecord .. | .appliedRecord ..
    | .resyncBucket .. | .roleRecord .. | .partnerRead .. | .partnerReadReply .. => true
  | _ => false

/-- The Barograph's flushes, which write reserved metadata to the cartridges. -/
def isFlush : Instr → Bool
  | .baroFlush | .baroFlushAge => true
  | _ => false

/-- The stored data, the pair, security and updates are the same. -/
abbrev sameStore (d d' : Dev) : Prop :=
  d'.ns = d.ns ∧ d'.idx = d.idx ∧ d'.med = d.med ∧ d'.bays = d.bays ∧ d'.pol = d.pol ∧ d'.sec = d.sec ∧ d'.ring = d.ring

/-- The stored data are the same but for the speculative reads in flight, which an end of a session squashes (R163). -/
abbrev sameButReads (d d' : Dev) : Prop :=
  sameStore d { d' with med := d.med } ∧
    d'.med = { d.med with reads := d'.med.reads, waiting := d'.med.waiting }

/-- An event has been entered in the Barograph after the numbers that a state had given out. -/
def logged (d d' : Dev) (e : Ev) : Prop := ∃ x ∈ d'.ev.ring, x.r.ev = e ∧ d.ev.nextExt ≤ x.r.ext

end Sys2Proof.Machine
end

