-- ==== Sys2Proof/Certificates/Slice0/Obligations.lean ====
section
/-! DEFINITION. The statements about the drive. Each says, for every state and operands that meet its hypotheses, that a command
answers a next state and what that state holds; the frames say what a kind of command leaves unchanged. -/

open Sys2Proof Sys2Proof.Machine

/-! ## Frames, handshake and sessions (02_transport) -/

/-- Frames other than FWP: `ARP_REQUEST` and `NEIGHBOUR_DISCOVERY` for an address the port owns and, within its rate, `ICMP_ECHO_REQUEST`
are answered on a port that hears, and `OTHER_FRAME_DROP` moves the port's counter of its check by one.
Modules and links: `MODULE_INSERT` refuses a module of more than 12 W, `LINK_UP` brings up a link that may come up, `LINK_DOWN`
takes it down, `MODULE_REMOVE` empties the cage. -/
def Obligations.FramesAndLinks : Prop :=
  (∀ (s : State) (p : Port) (target sender : BitVec 32), s.dev.hears p = true → s.dev.ownsIpv4 p target = true →
    ∃ t, exec (.arpRequest p target sender) s = .next t ∧ emits s.dev t.dev (.arpReply p target sender)) ∧
  (∀ (s : State) (p : Port) (target : Addr), s.dev.hears p = true → s.dev.ownsIpv6 p target = true →
    ∃ t, exec (.neighbourDiscovery p target true) s = .next t ∧ emits s.dev t.dev (.ndAdvert p target true)) ∧
  (∀ (s : State) (p : Port) (src : Addr) (b : Bytes), s.dev.hears p = true → s.dev.pow.rung = .clear →
    (s.dev.window (rateKey 0x10001 p.val) 1000).1 = true →
    ∃ t, exec (.icmpEchoRequest (.data p) src b) s = .next t ∧ emits s.dev t.dev (.echoReply (.data p) src b (s.dev.echoFrame p (s.dev.dscp 0 * 4) src b))) ∧
  (∀ (s : State) (src : Addr) (b : Bytes), s.dev.mgmt.vaneUp = true → s.dev.mgmt.linkUp = true → s.dev.pow.rung ≠ .glaze →
    (s.dev.window (rateKey 0x10001 2) 100).1 = true →
    ∃ t, exec (.icmpEchoRequest .mgmt src b) s = .next t ∧ emits s.dev t.dev (.echoReply .mgmt src b [])) ∧
  (∀ (s : State) (p : Port) (x : RawFrame) (f : FrameFault), s.dev.hears p = true → s.dev.pow.rung = .clear → settled s.dev →
    s.dev.frameFault p x = some f →
    ∃ t, exec (.otherFrameDrop (.data p x)) s = .next t ∧
      t.dev.count (.port p (faultCtr f)) = s.dev.count (.port p (faultCtr f)) + 1) ∧
  (∀ (s : State), (s.dev.net.links.get 2).up = true → settled s.dev →
    ∃ t, exec (.otherFrameDrop .peer) s = .next t ∧ t.dev.count (.port 0 .peerDrop) = s.dev.count (.port 0 .peerDrop) + 1) ∧
  (∀ (s : State) (l : Link) (w : Nat), (s.dev.net.links.get l).module = none →
    ∃ t, exec (.moduleInsert l w) s = .next t ∧ (t.dev.net.links.get l).module = some w ∧
      (t.dev.net.links.get l).refused = decide (120 < w)) ∧
  (∀ (s : State) (l : Link) (us pmd : Nat), s.dev.linkMay l = true →
    ∃ t, exec (.linkUp l us pmd) s = .next t ∧ (t.dev.net.links.get l).up = true ∧ (t.dev.net.links.get l).linkUpUs = us) ∧
  (∀ (s : State) (l : Link) (cause : LinkCause), (s.dev.net.links.get l).up = true →
    ∃ t, exec (.linkDown l cause) s = .next t ∧ (t.dev.net.links.get l).up = false) ∧
  (∀ (s : State) (l : Link), ∃ t, exec (.moduleRemove l) s = .next t ∧ (t.dev.net.links.get l).module = none ∧
    (t.dev.net.links.get l).up = false)

/-- The handshake: an `INIT` that no reason of R45 refuses joins the handshake queue; `INIT_SIGNATURE_DONE` with a valid point turns
the head of the queue into a half-open session; an `AUTH` whose status is `OK` establishes the half-open session for its tenant. -/
def Obligations.HandshakeEstablishes : Prop :=
  (∀ (s : State) (k : InitPacket), s.dev.hears k.port = true → s.dev.pow.rung = .clear → settled s.dev →
    1200 ≤ k.payload.length + 48 → k.fwpVersion = 1 → s.dev.gale.find .session (sessionWord k.addr k.uport) = none →
    s.dev.initRefusal k = none →
    ∃ t, exec (.init k) s = .next t ∧ t.dev.net.shakes = s.dev.net.shakes ++ [⟨k⟩]) ∧
  (∀ (s : State) (h : Handshake) (rest : List Handshake), s.dev.net.shakes = h :: rest → settled s.dev →
    s.dev.gale.find .session (sessionWord h.pkt.addr h.pkt.uport) = none →
    ∃ t, exec (.initSignatureDone true) s = .next t ∧ t.dev.net.shakes = rest ∧
      ∃ y ∈ t.dev.net.sessions, y.stage = .halfOpen ∧ y.port = h.pkt.port ∧ y.addr = h.pkt.addr ∧ y.uport = h.pkt.uport) ∧
  (∀ (s : State) (k : AuthPacket) (x : Session), s.dev.hears k.port = true → s.dev.pow.rung = .clear →
    s.dev.sessionFor k.addr k.uport k.port k.sid = some x → x.stage = .halfOpen → x.rxCum = 0 → k.psn = 0 →
    x.opens .auth (authPacket k) = true → s.dev.authStatus x k = Status.ok →
    ∃ t, exec (.auth k) s = .next t ∧
      ∃ y ∈ t.dev.net.sessions, y.sid = x.sid ∧ y.stage = .established ∧ y.tenant = k.tenant ∧ k.creditLimit.toNat ≤ y.hostLimit)

/-- Packets of an established session: a `DATA` packet with the first of several segments of a capsule that passes its checks and
fits the session's reserve opens that capsule; `ACK` and `KEEPALIVE` raise the host's credit limit to what they carry; `CLOSE` ends
the session. -/
def Obligations.SessionPacketsTakeEffect : Prop :=
  (∀ (s : State) (k : Packet) (x : Session) (c : Cap) (r : OpRow), arrives s.dev .data k x →
    k.streamOffset.toNat + k.payload.length ≤ s.dev.creditLimit x → s.dev.capAt x.sid k.streamOffset.toNat = none →
    x.refusedAt k.streamOffset.toNat = none → x.past k.streamOffset.toNat = false → k.first = true → x.early = [] →
    s.dev.squallUse + k.payload.length ≤ squallBytes → s.dev.placing x.sid c.tag = false →
    (∀ y ∈ s.dev.net.sessions, y.sid = x.sid → y = x) →
    c = newCap x ⟨k.streamOffset.toNat, k.payload, k.first, k.last⟩ (Hdr.parse k.payload) →
    96 + c.hdr.keyLen.toNat ≤ k.payload.length → k.payload.length < c.len →
    c.hdr.magic = 0x4657 → c.hdr.version = 1 → c.hdr.hdrLen = 12 → twinOk c.hdr.keyLen c.hdr.keyLenTwin = true →
    twinOk c.hdr.valueLen c.hdr.valueLenTwin = true → twinOk c.hdr.opcode c.hdr.opcodeTwin = true →
    twinOk c.hdr.nsWord c.hdr.nsTwin = true → opRow c.hdr.opcode = some r → lengthsOk r c.hdr = true →
    firstSegOk x.segSize c.len ⟨k.streamOffset.toNat, k.payload, k.first, k.last⟩ = true →
    s.dev.capByTag x.sid c.tag = none → c.hdr.opcode ≠ Op.abort → s.dev.net.reserveFits x.sid c.len = true →
    headerCrc c k.payload = c.hdr.hdrCrc → fieldsOk c.hdr = true →
    ∃ t, exec (.data k) s = .next t ∧
      ∃ y, capNow t.dev c y ∧ y.tag = c.tag ∧ y.hdr = c.hdr ∧ y.hdrChecked = true ∧ y.stage = .receiving) ∧
  (∀ (s : State) (k : Packet) (x : Session), arrives s.dev .ack k x →
    ∃ t, exec (.ack k) s = .next t ∧ ∃ y ∈ t.dev.net.sessions, y.sid = x.sid ∧ k.creditLimit.toNat ≤ y.hostLimit) ∧
  (∀ (s : State) (k : Packet) (x : Session), arrives s.dev .keepalive k x →
    ∃ t, exec (.keepalive k) s = .next t ∧ ∃ y ∈ t.dev.net.sessions, y.sid = x.sid ∧ k.creditLimit.toNat ≤ y.hostLimit) ∧
  (∀ (s : State) (k : Packet) (x : Session), arrives s.dev .close k x →
    ∃ t, exec (.close k) s = .next t ∧ ∀ y ∈ t.dev.net.sessions, y.sid ≠ x.sid)

/-- Flow control and the timers of a sender: a received `PFC_FRAME` pauses each priority it enables for its quanta and leaves the others;
`PFC_PAUSE_RENEW` above the mark begins a pause, repeats it until the fill is below the release mark, and then ends it; a due
acknowledgement is sent; `RTO_EXPIRY` sends the oldest packet not acknowledged again, of a session with a window of two segments and the
RTO doubled; `KEY_PHASE_UPDATE` starts the next key phase with the next key. -/
def Obligations.FlowControlAndSendTimers : Prop :=
  (∀ (s : State) (p : Port) (enable : BitVec 8) (quanta : Vector (BitVec 16) 8), s.dev.hears p = true →
    ∃ t, exec (.pfcFrame p enable quanta) s = .next t ∧ ∀ i : Fin 8, (t.dev.net.pfcPaused.get p).get i =
      if enable.getLsbD i.val then s.dev.clk.tick + quantaUs (quanta.get i).toNat (s.dev.net.links.get p.castSucc).mode
      else (s.dev.net.pfcPaused.get p).get i) ∧
  (∀ (s : State) (p : Port) (lull : Bool) (fill : Nat), s.dev.hears p = true →
    BitVec.ofNat 8 (s.dev.pnum P.transportPfcPriorities) ≠ 0 → lull = (s.dev.pow.rung == .fog) → s.dev.net.pfcTx.get p = none →
    (pfcMarks lull).1 < fill →
    ∃ t, exec (.pfcPauseRenew p lull fill) s = .next t ∧ (t.dev.net.pfcTx.get p).isSome = true ∧
      emits s.dev t.dev (.pfc p (BitVec.ofNat 8 (s.dev.pnum P.transportPfcPriorities)) 0xFFFF)) ∧
  (∀ (s : State) (p : Port) (lull : Bool) (fill : Nat), s.dev.hears p = true →
    BitVec.ofNat 8 (s.dev.pnum P.transportPfcPriorities) ≠ 0 → lull = (s.dev.pow.rung == .fog) →
    (s.dev.net.pfcTx.get p).isSome = true → (pfcMarks lull).2 ≤ fill →
    ∃ t, exec (.pfcPauseRenew p lull fill) s = .next t ∧ t.dev.net.pfcTx.get p = s.dev.net.pfcTx.get p ∧
      emits s.dev t.dev (.pfc p (BitVec.ofNat 8 (s.dev.pnum P.transportPfcPriorities)) 0xFFFF)) ∧
  (∀ (s : State) (p : Port) (lull : Bool) (fill : Nat), s.dev.hears p = true →
    BitVec.ofNat 8 (s.dev.pnum P.transportPfcPriorities) ≠ 0 → lull = (s.dev.pow.rung == .fog) →
    (s.dev.net.pfcTx.get p).isSome = true → fill < (pfcMarks lull).2 →
    ∃ t, exec (.pfcPauseRenew p lull fill) s = .next t ∧ t.dev.net.pfcTx.get p = none ∧
      emits s.dev t.dev (.pfc p (BitVec.ofNat 8 (s.dev.pnum P.transportPfcPriorities)) 0)) ∧
  (∀ (s : State) (sid : BitVec 32) (x : Session), s.dev.session? sid = some x → x.ackDue = true → x.live = true →
    x.psnOpen = true → settled s.dev →
    ∃ t, exec (.delayedAckTimeout sid) s = .next t ∧
      (∃ y ∈ t.dev.net.sessions, y.sid = sid ∧ y.ackDue = false ∧ y.txNext = x.txNext + 1) ∧
      goesOut s.dev t.dev (s.dev.packetOf x .ack 0 x.txNext 0 false false [])) ∧
  (∀ (s : State) (sid : BitVec 32) (x : Session) (k : TxPacket), s.dev.session? sid = some x →
    x.unacked.find? (fun t => !t.sacked) = some k → x.expiries + 1 < s.dev.pnum P.transportRetxLimit →
    ∃ t, exec (.rtoExpiry (.session sid)) s = .next t ∧
      (∃ y ∈ t.dev.net.sessions, y.sid = sid ∧ y.expiries = x.expiries + 1 ∧ y.cwnd = 2 * x.segSize ∧
        y.rto = s.dev.clampRto (2 * x.rto)) ∧ goesOut s.dev t.dev k.pkt) ∧
  (∀ (s : State) (k : CwSent), s.dev.mir.unacked.find? (fun f => !f.sacked) = some k → s.dev.linked = true →
    s.dev.mir.expiries + 1 < s.dev.pnum P.transportRetxLimit →
    ∃ t, exec (.rtoExpiry .peer) s = .next t ∧ emits s.dev t.dev (.cwResend k.psn k.frame)) ∧
  (∀ (s : State) (sid : BitVec 32) (x : Session), s.dev.session? sid = some x → x.txPhaseAcked = true →
    x.txPhaseStart + 2 ^ 30 ≤ x.txNext →
    ∃ t, exec (.keyPhaseUpdate sid) s = .next t ∧ ∃ y ∈ t.dev.net.sessions, y.sid = sid ∧ y.txPhase = !x.txPhase ∧
      y.txPhaseStart = x.txNext ∧ y.keys.d2hKey = nextKey x.keys.d2hKey)

/-- The timers that end something of a session: `HALF_OPEN_TIMEOUT`, `IDLE_TIMEOUT` and `REPLY_STALL_TIMEOUT` leave no session under
the ID; `AUTH_HOLDOFF_EXPIRY` frees the source address; `TOMBSTONE_EXPIRY` leaves no tombstone of the ID.
Credit and directory entries: a `CREDIT_BORROW_GRANT` that fits the pool and the pacing takes the first waiting capsule out of
the wait; `BORROW_WAIT_TIMEOUT` answers it `NO_CREDIT`; `DIRECTORY_ENTRY_GRANT` completes the assembly of a write. -/
def Obligations.SessionTimersAndCreditWaits : Prop :=
  (∀ (s : State) (sid : BitVec 32) (x : Session), s.dev.session? sid = some x → x.live = false →
    ∃ t, exec (.halfOpenTimeout sid) s = .next t ∧ ∀ y ∈ t.dev.net.sessions, y.sid ≠ sid) ∧
  (∀ (s : State) (a : Addr), ∃ t, exec (.authHoldoffExpiry a) s = .next t ∧ a ∉ t.dev.net.holdoffs) ∧
  (∀ (s : State) (sid : BitVec 32) (x : Session), s.dev.session? sid = some x → x.live = true →
    ∃ t, exec (.idleTimeout sid) s = .next t ∧ ∀ y ∈ t.dev.net.sessions, y.sid ≠ sid) ∧
  (∀ (s : State) (sid : BitVec 32), ∃ t, exec (.tombstoneExpiry sid) s = .next t ∧ ∀ y ∈ t.dev.net.tombs, y.sid ≠ sid) ∧
  (∀ (s : State) (sid : BitVec 32) (x : Session), s.dev.session? sid = some x → x.live = true → x.stalledSince.isSome = true →
    ∃ t, exec (.replyStallTimeout sid) s = .next t ∧ ∀ y ∈ t.dev.net.sessions, y.sid ≠ sid) ∧
  (∀ (s : State) (cls : Fin 5) (w : BorrowWait) (c : Cap) (x : Session),
    s.dev.net.borrowQ.find? (fun w => poolClass w.cls == cls) = some w →
    s.dev.que.caps.find? (fun c => c.sid == w.sid && c.start == w.start) = some c → s.dev.session? w.sid = some x →
    s.dev.net.poolFits cls w.len = true → (s.dev.pace c.tenant (extensionOps c.hdr x.segSize)).1 = true →
    ∃ t, exec (.creditBorrowGrant cls) s = .next t ∧ ∀ y ∈ t.dev.net.borrowQ, ¬ (y.sid = w.sid ∧ y.start = w.start)) ∧
  (∀ (s : State) (sid tag : BitVec 32) (c : Cap), s.dev.capByTag sid tag = some c → c.awaitBorrow = true →
    (s.dev.session? sid).isSome = true →
    ∃ t, exec (.borrowWaitTimeout sid tag) s = .next t ∧ answered s.dev t.dev c Status.noCredit 0 []) ∧
  (∀ (s : State) (sid tag : BitVec 32) (c : Cap), s.dev.capByTag sid tag = some c → c.awaitDir = true →
    (s.dev.takeEntry c).isSome = true →
    ∃ t, exec (.directoryEntryGrant sid tag) s = .next t ∧ ∃ y, capNow t.dev c y ∧ y.stage = .assembled)

/-- Sequencing: an assembled capsule that passes checks 13 to 19 takes the next ingress sequence number; an `ABORT` catches a capsule
not yet sequenced, which is answered `ABORTED`; the reply of a held `ABORT` is released once its target is done. -/
def Obligations.SequencingAndAbort : Prop :=
  (∀ (s : State) (sid tag : BitVec 32) (c : Cap),
    s.dev.que.caps.find? (fun c => c.sid == sid && c.tag == tag && s.dev.mayPass c) = some c → c.hdr.opcode ≠ Op.abort →
    s.dev.jetCheck c = none → s.dev.limitCheck c ≠ .delay → s.dev.stall = none →
    ∃ t, exec (.capsuleSequence sid tag) s = .next t ∧ t.dev.que.nextSeq = s.dev.que.nextSeq + 1 ∧
      ∃ y, capNow t.dev c y ∧ y.seq = s.dev.que.nextSeq ∧ y.stage = .sequenced ∧ y.stamp = s.dev.clk.tick) ∧
  (∀ (s : State) (sid tag : BitVec 32) (c x : Cap),
    s.dev.que.caps.find? (fun c => c.sid == sid && c.tag == tag && c.hdr.opcode == Op.abort && s.dev.mayPass c) = some c →
    s.dev.jetCheck c = none → s.dev.stall = none → c.partner = none → (s.dev.session? sid).isSome = true →
    s.dev.que.caps.find? (fun t => t.sid == c.sid && t.tag == c.hdr.offset.setWidth 32 && t.start != c.start) = some x →
    x.seq = 0 → x.stage = .assembled → x.hdr.opcode ≠ Op.abort → s.dev.placing x.sid x.tag = false →
    ∃ t, exec (.abort sid tag) s = .next t ∧ answered s.dev t.dev x Status.aborted 0 [] ∧
      answered s.dev t.dev c Status.abortOutcome 1 []) ∧
  (∀ (s : State) (sid tag : BitVec 32) (c : Cap), s.dev.heldAbort sid tag = some c → c.partner = none →
    (s.dev.session? sid).isSome = true →
    ∃ t, exec (.abortReplyRelease sid tag) s = .next t ∧ answered s.dev t.dev c Status.abortOutcome 2 [])

/-! ## Data opcodes (04_data_model, 05_queueing_completion) -/

/-- Readers: a `GET` and an `EXISTS` whose key has a completed version in Drift answer `OK` with its version, the `GET` with the bytes
of the range asked for; `READER_REPLY_PLACE` answers a reader that captured a version before it was complete. -/
def Obligations.ReadersAnswerFromDrift : Prop :=
  (∀ (s : State) (seq : Nat) (c : Cap) (v : Version) (b : Bytes) (o n : Nat), ready s.dev seq Op.get c → openKey s.dev c →
    (∀ x ∈ s.dev.que.caps, x.sid = c.sid → x = c) → s.dev.driftBelow c.hdr.ns (s.dev.capHash c) c.seq = some v →
    v.key = c.key → v.done = true → v.content = some b → rangeOf c.hdr b.length = some (o, n) → rangeBad v.bad o n = false →
    checkFail b v.checks (chunksOf o n) = none →
    ∃ t, exec (.get seq) s = .next t ∧ answered s.dev t.dev c Status.ok v.seq ((b.drop o).take n)) ∧
  (∀ (s : State) (seq : Nat) (c : Cap) (v : Version) (b : Bytes), ready s.dev seq Op.exists_ c → openKey s.dev c →
    (∀ x ∈ s.dev.que.caps, x.sid = c.sid → x = c) → s.dev.driftBelow c.hdr.ns (s.dev.capHash c) c.seq = some v →
    v.key = c.key → v.done = true → v.content = some b →
    ∃ t, exec (.exists_ seq) s = .next t ∧ answered s.dev t.dev c Status.ok v.seq []) ∧
  (∀ (s : State) (seq : Nat) (c : Cap) (v : Version) (b : Bytes) (o n : Nat), s.dev.capBySeq seq = some c →
    c.hdr.opcode = Op.get → c.stage = .dispatched → c.forwarded = false → c.partner = none →
    (s.dev.session? c.sid).isSome = true → c.captured = some (.buffered v.seq) → s.dev.ver? v.seq = some v → v.done = true →
    s.dev.follows v.ns = false → s.dev.nsBusy c.hdr.ns c.seq = false → v.content = some b →
    rangeOf c.hdr b.length = some (o, n) → rangeBad v.bad o n = false → checkFail b v.checks (chunksOf o n) = none →
    ∃ t, exec (.readerReplyPlace seq) s = .next t ∧ answered s.dev t.dev c Status.ok v.seq ((b.drop o).take n))

/-- Writers are dispatched: `PUT`, `CAS_PUT`, `PATCH`, `MP_COMMIT`, `DELETE` without SECURE and `SECURE_DELETE` leave their class queue
and wait for their turn, and no version enters or leaves Drift. -/
def Obligations.WritersAreDispatched : Prop :=
  (∀ (s : State) (seq : Nat) (c : Cap), ready s.dev seq Op.put c →
    ∃ t, exec (.put seq) s = .next t ∧ (∃ y, capNow t.dev c y ∧ y.seq = seq ∧ y.stage = .dispatched) ∧
      t.dev.que.drift = s.dev.que.drift) ∧
  (∀ (s : State) (seq : Nat) (c : Cap), ready s.dev seq Op.casPut c →
    ∃ t, exec (.casPut seq) s = .next t ∧ (∃ y, capNow t.dev c y ∧ y.seq = seq ∧ y.stage = .dispatched) ∧
      t.dev.que.drift = s.dev.que.drift) ∧
  (∀ (s : State) (seq : Nat) (c : Cap), ready s.dev seq Op.patch c →
    ∃ t, exec (.patch seq) s = .next t ∧ (∃ y, capNow t.dev c y ∧ y.seq = seq ∧ y.stage = .dispatched) ∧
      t.dev.que.drift = s.dev.que.drift) ∧
  (∀ (s : State) (seq : Nat) (c : Cap), ready s.dev seq Op.mpCommit c →
    ∃ t, exec (.mpCommit seq) s = .next t ∧ (∃ y, capNow t.dev c y ∧ y.seq = seq ∧ y.stage = .dispatched) ∧
      t.dev.que.drift = s.dev.que.drift) ∧
  (∀ (s : State) (seq : Nat) (c : Cap), ready s.dev seq Op.delete c → c.hdr.flag Flag.secure = false →
    ∃ t, exec (.delete seq) s = .next t ∧ (∃ y, capNow t.dev c y ∧ y.seq = seq ∧ y.stage = .dispatched) ∧
      t.dev.que.drift = s.dev.que.drift) ∧
  (∀ (s : State) (seq : Nat) (c : Cap), ready s.dev seq Op.delete c → c.hdr.flag Flag.secure = true →
    ∃ t, exec (.secureDelete seq) s = .next t ∧ (∃ y, capNow t.dev c y ∧ y.seq = seq ∧ y.stage = .dispatched) ∧
      t.dev.que.drift = s.dev.que.drift)

/-- Writers resolve and commit: an unconditional `DELETE` of a key that Drift or the index holds enters Drift as a deletion when
`WRITER_RESOLVE` comes; `JOURNAL_RECORD_COMMIT` leaves the writer of the record on medium. -/
def Obligations.WritersResolveAndCommit : Prop :=
  (∀ (s : State) (seq : Nat) (group : Fin 8) (c : Cap) (n : Namespace) (v len g : Nat), s.dev.capBySeq seq = some c →
    c.hdr.opcode = Op.delete → c.hdr.flag Flag.secure = false → c.hdr.expVersion = 0 → c.stage = .dispatched →
    s.dev.turn c = true → s.dev.nsOf c.hdr.ns = some n → n.id = c.hdr.ns → noReaders s.dev →
    (∀ x ∈ s.dev.que.caps, x.seq = seq → x = c) → s.dev.mirror? n.id = none →
    s.dev.turnedAway n.id (s.dev.capHash c) seq = false →
    s.dev.base n.id (s.dev.capHash c) c.key seq = .state (.present v len g) → s.dev.nsBusy n.id seq = false →
    s.dev.secureHolds (s.dev.homeOf n.id (s.dev.capHash c)) = false →
    (s.dev.journal (s.dev.homeOf n.id (s.dev.capHash c)) group.val (mkRec .deletion n.id (s.dev.capHash c) c.key seq 0
      (s.dev.genAfter n.id (s.dev.capHash c) c.key seq) 0 (s.dev.homeOf n.id (s.dev.capHash c)) (some seq))).isSome = true →
    ∃ t, exec (.writerResolve seq group) s = .next t ∧
      ∃ w ∈ t.dev.que.drift, w.seq = seq ∧ w.ns = n.id ∧ w.hash = s.dev.capHash c ∧ w.content = none) ∧
  (∀ (s : State) (jseq q : Nat) (r : JRec) (v : Version), s.dev.jrec? jseq = some r → r.writer = some q →
    s.dev.ver? q = some v → s.dev.mayCommit r v = true → s.dev.meetsOther v = false → v.secure = false → quiet s.dev →
    ∃ t, exec (.journalRecordCommit jseq) s = .next t ∧ ∀ w ∈ t.dev.que.drift, w.seq = q → w.onMedium = true)

/-- Uploads: `MP_BEGIN` opens one under its ingress sequence number, `MP_PART` adds a part to it, `MP_CANCEL` and `MP_IDLE_TIMEOUT` leave
none of that number. -/
def Obligations.UploadsOpenAndClose : Prop :=
  (∀ (s : State) (seq : Nat) (c : Cap) (n : Namespace), ready s.dev seq Op.mpBegin c →
    s.dev.mirrorGate c.hdr.ns true false = none → s.dev.nsOf c.hdr.ns = some n → c.hdr.valueLen.toNat ≤ 4294967296 →
    s.dev.nsBusy c.hdr.ns c.seq = false → s.dev.idx.uploads.length < s.dev.pnum P.indexMpUploadsMax →
    s.dev.binds n (s.dev.capHash c) 0 (uploadReserve c.hdr.valueLen.toNat) 0 false = .none →
    s.dev.serves (s.dev.homeOf c.hdr.ns (s.dev.capHash c)) = true → s.dev.turnedAway c.hdr.ns (s.dev.capHash c) c.seq = false →
    ∃ t, exec (.mpBegin seq) s = .next t ∧ answered s.dev t.dev c Status.ok seq [] ∧
      ∃ u ∈ t.dev.idx.uploads, u.id = seq ∧ u.key = c.key ∧ u.declared = c.hdr.valueLen.toNat ∧ u.parts = []) ∧
  (∀ (s : State) (seq : Nat) (c : Cap) (u : Upload), ready s.dev seq Op.mpPart c →
    s.dev.mirrorGate c.hdr.ns true false = none → s.dev.uploadOf c = some u →
    s.dev.serves (s.dev.homeOf u.ns u.hash) = true → s.dev.turnedAway u.ns u.hash c.seq = false →
    partCheck u c.hdr.offset.toNat c.value.length = Status.ok → s.dev.nsBusy c.hdr.ns c.seq = false →
    checkFail c.value c.checks (List.range (chunkCount c.value.length)) = none →
    s.dev.secureHolds (s.dev.homeOf u.ns u.hash) = false →
    (s.dev.placePart u c.seq c.hdr.offset.toNat c.value c.checks).isLeft = true →
    ∃ t, exec (.mpPart seq) s = .next t ∧ ∃ x ∈ t.dev.idx.uploads, x.id = u.id ∧
      ∃ p ∈ x.parts, p.seq = seq ∧ p.offset = c.hdr.offset.toNat ∧ p.bytes = c.value ∧ p.checks = c.checks) ∧
  (∀ (s : State) (seq : Nat) (c : Cap) (u : Upload), ready s.dev seq Op.mpCancel c →
    s.dev.mirrorGate c.hdr.ns true false = none → s.dev.uploadOf c = some u → s.dev.nsBusy c.hdr.ns c.seq = false →
    s.dev.que.drift.any (fun v => v.upload == some u.id) = false → (∀ p ∈ u.parts, p.onMedium = true ∧ p.mirrorWait = false) →
    ∃ t, exec (.mpCancel seq) s = .next t ∧ answered s.dev t.dev c Status.ok 0 [] ∧ ∀ x ∈ t.dev.idx.uploads, x.id ≠ u.id) ∧
  (∀ (s : State) (u : Upload), s.dev.idx.uploads.find? (·.id == u.id) = some u →
    s.dev.que.drift.any (fun v => v.upload == some u.id) = false → (∀ p ∈ u.parts, p.onMedium = true ∧ p.mirrorWait = false) →
    ∃ t, exec (.mpIdleTimeout u.id) s = .next t ∧ ∀ x ∈ t.dev.idx.uploads, x.id ≠ u.id)

/-- `FLUSH` waits; `FLUSH_COMPLETE` answers it once no earlier writer of the namespace is outstanding, with `DEFERRED_ERROR` where a
covered writer was lost; `SCAN_PREFIX` whose walk ends answers its last reply with cursor 0; `SHARE_WINDOW_END` empties the window. -/
def Obligations.FlushScanAndShareWindow : Prop :=
  (∀ (s : State) (seq : Nat) (c : Cap), ready s.dev seq Op.flush c → s.dev.mirrorGate c.hdr.ns false false = none →
    s.dev.nsBusy c.hdr.ns c.seq = false →
    ∃ t, exec (.flush seq) s = .next t ∧ (⟨seq, c.hdr.ns, c.tenant⟩ : FlushWait) ∈ t.dev.que.flushes) ∧
  (∀ (s : State) (seq : Nat) (c : Cap) (f : FlushWait), s.dev.que.flushes.find? (·.seq == seq) = some f →
    s.dev.capBySeq seq = some c → c.partner = none → (s.dev.session? c.sid).isSome = true → s.dev.flushWaits f.ns seq = false →
    ∃ t, exec (.flushComplete seq) s = .next t ∧
      answered s.dev t.dev c (if s.dev.flushLost f then Status.deferredError else Status.ok) 0 []) ∧
  (∀ (s : State) (seq : Nat) (c : Cap) (a : ScanAcc), ready s.dev seq Op.scanPrefix c →
    s.dev.mirrorGate c.hdr.ns false false = none → s.dev.followerServes c.hdr.ns = true → s.dev.nsBusy c.hdr.ns c.seq = false →
    s.dev.scanHeld { c with cursor := c.hdr.offset.toNat } (2 ^ 64) (s.dev.scanBuckets c.hdr.ns c.hdr.offset.toNat) = false →
    s.dev.scanWalk c.seq c.key c.hdr.offset.toNat
      (if c.hdr.valueLen == 0 then s.dev.pnum P.indexScanReplyDefault else c.hdr.valueLen.toNat) (s.dev.pnum P.indexScanBudget)
      ⟨[], c.visited, c.hdr.offset.toNat, c.visited, c.hdr.offset.toNat⟩ (s.dev.scanBuckets c.hdr.ns c.hdr.offset.toNat) =
      (a, .stop .go) →
    ∃ t, exec (.scanPrefix seq) s = .next t ∧ answered s.dev t.dev c Status.ok 0 a.bytes) ∧
  (∀ (s : State), ∃ t, exec .shareWindowEnd s = .next t ∧ t.dev.que.winUrgent = 0 ∧ t.dev.que.winAll = 0 ∧
    t.dev.que.winTenant = [])

/-! ## Media, index and Gale (06_forecast_index, 07_gale_search, 08_media_management) -/

/-- Die operations that complete: `NAND_READ_DONE` of a read decoded at once serves the `GET` that captured its location; after
`NAND_PROGRAM_PASS` the program is done, and the records of a journal chunk whose last program it was are programmed; a parity program of
`NAND_PROGRAM_FAIL` is done and leaves its row unprotected; after `NAND_ERASE_DONE` the erase is done and the band is free. -/
def Obligations.DieOperationsComplete : Prop :=
  (∀ (s : State) (id it at_ loc gen v len : Nat) (r : Read) (c : Cap) (cp : Copy) (o n : Nat),
    s.dev.med.reads.find? (·.id == id) = some r → s.dev.opRuns id = true → r.squashed = none → r.loc = loc → r.gen = gen →
    r.shared = [] → s.dev.keyPending r.seq = false →
    s.dev.capBySeq r.seq = some c → c.hdr.opcode = Op.get → c.captured = some (.value v loc gen len) → c.tokenStale = false →
    c.partner = none → (s.dev.session? c.sid).isSome = true → s.dev.copyFor loc gen = some cp → cp.bad = [] →
    cp.badHeads = [] → rangeOf c.hdr cp.bytes.length = some (o, n) → r.rest = 0 → quiet s.dev →
    ∃ t, exec (.nandReadDone id { outcome := .ok it, at_ := at_ }) s = .next t ∧ answered s.dev t.dev c Status.ok v (((s.dev.plainOf cp).drop o).take n)) ∧
  (∀ (s : State) (p : Prog), s.dev.med.progs.find? (·.id == p.id) = some p → s.dev.opRuns p.id = true →
    p.id < s.dev.med.nextOp → quiet s.dev →
    ∃ t, exec (.nandProgramPass p.id) s = .next t ∧ (∀ q ∈ t.dev.med.progs, q.id ≠ p.id) ∧
      (∀ o ∈ t.dev.med.running, o.id ≠ p.id) ∧
      (∀ l : Nat, p.what = .journal l → (∀ q ∈ s.dev.med.progs, q.what = p.what → q.id = p.id) →
        ∀ r ∈ t.dev.idx.journal, r.ref = l → r.programmed = true)) ∧
  (∀ (s : State) (p : Prog) (g b w : Nat) (x : Band), s.dev.med.progs.find? (·.id == p.id) = some p →
    s.dev.opRuns p.id = true → p.what = .parity g b w → p.id < s.dev.med.nextOp → quiet s.dev →
    ((s.dev.bays.get p.bay).failRuns.lookup (32 * p.group + p.die)).getD 0 + 1 < 3 →
    (s.dev.bays.get p.bay).band? p.group p.block = some x →
    ∃ t, exec (.nandProgramFail p.id) s = .next t ∧ (∀ q ∈ t.dev.med.progs, q.id ≠ p.id) ∧
      ∃ y ∈ (t.dev.bays.get p.bay).bands, y.group = p.group ∧ y.block = p.block ∧ p.page ∈ y.unprotected) ∧
  (∀ (s : State) (e : Erase), s.dev.med.erases.find? (·.id == e.id) = some e → s.dev.opRuns e.id = true → e.why = .gc →
    e.id < s.dev.med.nextOp → quiet s.dev → summed s.dev →
    ∃ t, exec (.nandEraseDone e.id true) s = .next t ∧ (∀ x ∈ t.dev.med.erases, x.id ≠ e.id) ∧
      (t.dev.bays.get e.bay).band? e.group e.block = none)

/-- Monsoon's own commands: `GOVERNOR_ADMIT` lets the first waiting die operation run when the budget holds it; `ROW_CLOSE_TIMEOUT` moves
an open row to its end; `FOLD_BATCH` begins a batch; `GC_BATCH` marks its victim; `BALANCE_MOVE` gives a bucket a new home;
`PATROL_READ` counts the page read, or the lap is over; `DIE_STOPS_ANSWERING` lists the die as failed. -/
def Obligations.MonsoonBackgroundWork : Prop :=
  (∀ (s : State) (bay : BayNo) (o : GovOp), s.dev.nextOp? bay = some o → s.dev.budgetHolds o = true →
    ∃ t, exec (.governorAdmit bay) s = .next t ∧ o ∈ t.dev.med.running ∧ ∀ x ∈ t.dev.med.waiting, x.id ≠ o.id) ∧
  (∀ (s : State) (bay : BayNo) (group block : Nat) (x : Band), (s.dev.bays.get bay).band? group block = some x →
    x.isOpen = true → (s.dev.bays.get bay).rowSlots x ≠ 0 → x.next % (s.dev.bays.get bay).rowSlots x ≠ 0 →
    ∃ t, exec (.rowCloseTimeout bay group block) s = .next t ∧
      ((t.dev.bays.get bay).band? group block).map (·.next) =
        some ((x.next / (s.dev.bays.get bay).rowSlots x + 1) * (s.dev.bays.get bay).rowSlots x)) ∧
  (∀ (s : State) (bay : BayNo) (c : Copy) (rest : List Copy), s.dev.awake = true → s.dev.inService bay = true →
    s.dev.par.mode ≠ 5 → (s.dev.maintCell .fold).1 = .r →
    s.dev.foldable bay = c :: rest → s.dev.batchFull bay (if s.dev.warm c then .warm else .cold) c.group = false →
    (s.dev.batchChunks ≤ s.dev.foldRoom bay (if s.dev.warm c then .warm else .cold) c.group ∨
      c.count < s.dev.foldRoom bay (if s.dev.warm c then .warm else .cold) c.group) →
    (s.dev.opId.2.moveAll bay (if s.dev.warm c then .warm else .cold) c.group false
      ((takeRows (s.dev.foldRoom bay (if s.dev.warm c then .warm else .cold) c.group) 0
        (c :: rest.filter (fun x => s.dev.warm x == s.dev.warm c))).map (fun x => (x, x)))).1 ≠ [] →
    ∃ t, exec (.foldBatch bay) s = .next t ∧
      ∃ b ∈ t.dev.med.batches, b.kind = .fold ∧ b.fromBay = bay ∧ b.toBay = bay ∧ b.id = s.dev.opId.1) ∧
  (∀ (s : State) (bay : BayNo) (x : Band), s.dev.awake = true → s.dev.inService bay = true → (s.dev.maintCell .gc).1 = .r →
    ((s.dev.rebuildsDone bay).refreshMeta bay).againPairs bay = [] →
    ((s.dev.rebuildsDone bay).refreshMeta bay).gcVictim bay = some x →
    ((s.dev.rebuildsDone bay).refreshMeta bay).batchFull bay .cold x.group = false →
    ∃ t, exec (.gcBatch bay) s = .next t ∧
      ∃ y ∈ (t.dev.bays.get bay).bands, y.group = x.group ∧ y.block = x.block ∧ y.victim = true) ∧
  (∀ (s : State) (f g : BayNo) (b : Bucket), s.dev.awake = true → s.dev.par.mode ≠ 5 →
    s.dev.idx.buckets.any (fun b => b.movingFrom.isSome) = false → (s.dev.maintCell .gc).1 = .r → s.dev.mostFull = some f →
    s.dev.leastFull (some f) = some g →
    s.dev.idx.buckets.find? (fun b => b.home == f && decide (0 < s.dev.bucketBytes b)) = some b → s.dev.unbalanced f = true →
    ∃ t, exec .balanceMove s = .next t ∧
      ∃ y ∈ t.dev.idx.buckets, y.ns = b.ns ∧ y.lo = b.lo ∧ y.home = g ∧ y.movingFrom = some f) ∧
  (∀ (s : State) (bay : BayNo) (group block row : Nat) (o : ReadReport) (x : Band), s.dev.awake = true →
    s.dev.inService bay = true → (s.dev.bays.get bay).band? group block = some x → x.erasing = false →
    row < s.dev.bandPages bay x → s.dev.patrolMay bay group block = true → (s.dev.maintCell .pat).1 = .r →
    ∃ t, exec (.patrolRead bay group block row o) s = .next t ∧
      ((group, block, row) ∈ (t.dev.bays.get bay).patrolRows ∨
        ((t.dev.bays.get bay).patrolRows = [] ∧ (t.dev.bays.get bay).patrolSince = s.dev.clk.tick))) ∧
  (∀ (s : State) (bay : BayNo) (die : Nat), (s.dev.bays.get bay).state.serving = true → die < 256 →
    s.dev.med.progs = [] → quiet s.dev →
    ∃ t, exec (.dieStopsAnswering bay die false) s = .next t ∧ (t.dev.bays.get bay).failedDies.any (·.1 == die) = true)

/-- Isobar and Forecast: a head closes and its tail begins; the epoch-end record ends the tail; a page read is cached; a fingerprint
column is rebuilt; the speculation windows begin anew. -/
def Obligations.IsobarAndForecastAdvance : Prop :=
  (∀ (s : State), s.dev.par.run = .running → s.dev.idx.tail = none → s.dev.pow.rung = .clear →
    ∃ t, exec .epochHeadClose s = .next t ∧ t.dev.idx.head = s.dev.idx.head + 1 ∧
      ∃ x, t.dev.idx.tail = some x ∧ x.epoch = s.dev.idx.head) ∧
  (∀ (s : State) (x : Tail), s.dev.idx.tail = some x → s.dev.tailBusy = false → quiet s.dev →
    ∃ t, exec .epochEndRecordDurable s = .next t ∧ t.dev.idx.tail = none ∧ t.dev.idx.endEpoch = x.epoch) ∧
  (∀ (s : State) (n : BitVec 12) (lo : BitVec 64) (b : Bucket),
    s.dev.idx.buckets.find? (fun b => b.ns == n && b.lo == lo.toNat && b.reading) = some b → noReaders s.dev →
    (b.readId = 0 ∨ s.dev.opRuns b.readId = true) → s.dev.idx.buckets.length ≤ pageCacheMax →
    ∃ t, exec (.indexPageReadDone n lo .good) s = .next t ∧
      ∃ y ∈ t.dev.idx.buckets, y.ns = n ∧ y.lo = lo.toNat ∧ y.cached = true ∧ y.reading = false) ∧
  (∀ (s : State) (n : BitVec 12) (lo : BitVec 64) (b : Bucket),
    s.dev.idx.buckets.find? (fun b => b.ns == n && b.lo == lo.toNat && !b.fpValid) = some b → s.dev.awake = true →
    s.dev.homeAbsent b = false → b.pageLost = false →
    ∃ t, exec (.fpRebuildStep n lo) s = .next t ∧ ∃ y ∈ t.dev.idx.buckets, y.ns = n ∧ y.lo = lo.toNat ∧ y.fpValid = true) ∧
  (∀ (s : State), s.dev.par.run = .running →
    ∃ t, exec .forecastSuspendWindow s = .next t ∧ ∀ w ∈ t.dev.med.spec, w.issued = 0 ∧ w.missed = 0)

/-- Gale: a search with one match that its owner confirms is counted as a search and as a hit where no capsule and no packet asked for it (one
that a command makes is counted by that command), and the word's entry stays as it is; a verifier read moves the lap on; a step up takes one
step; a die that does not answer is failed and every session ends. -/
def Obligations.GaleOperationsTakeEffect : Prop :=
  (∀ (s : State) (g : GTable) (key : GaleSearch) (a : Nat), s.dev.par.run = .running →
    s.dev.pow.rung = .clear → settled s.dev →
    (s.dev.gale.partakes g 0).filter GRow.perr = [] → s.dev.gale.matches_ g 0 key.word (s.dev.gale.masks.get 0) = [a] →
    s.dev.gale.ownWord g a = some key.word → s.dev.ownsWord g key.word = true →
    ∃ t, exec (.galeResult g key []) s = .next t ∧ t.dev.gale = s.dev.gale ∧
      (key.asker = none → g ≠ .session → t.dev.count (.galeSearch g) = s.dev.count (.galeSearch g) + 1 ∧
        t.dev.count (.galeHit g) = s.dev.count (.galeHit g) + 1) ∧
      ((key.asker.isSome = true ∨ g = .session) → t.dev.count (.galeSearch g) = s.dev.count (.galeSearch g))) ∧
  (∀ (s : State) (u : VerifierUpset) (a b : Nat), s.dev.par.run = .running → s.dev.pow.rung = .clear →
    s.dev.gale.nextRow s.dev.gale.lapAt = some a →
    (if u.written then s.dev else (s.dev.verifyRow a u).2).gale.nextRow (a + 1) = some b →
    ∃ t, exec (.galeVerifierRead u) s = .next t ∧ t.dev.gale.lapAt = a + 1) ∧
  (∀ (s : State) (k : Nat), s.dev.gale.dwellSince = some k →
    ∃ t, exec .galeStepUpDwell s = .next t ∧ t.dev.gale.tempStep = min 600 (2 * s.dev.gale.tempStep)) ∧
  (∀ (s : State) (die : Fin 8), s.dev.par.run = .running → s.dev.gale.failed.contains die.val = false →
    ∃ t, exec (.galeDieNoAnswer die) s = .next t ∧ die.val ∈ t.dev.gale.failed ∧ t.dev.net.sessions = [])

/-! ## Memories and cartridges (09_cartridges, 10_integrity_ecc) -/

/-- The memories: a correctable error is counted; an uncorrectable one in the value cache drops the entry and poisons its DRAM line; a
narrow write is an event and writes nothing, a write of whole lines takes the place of what was poisoned in them; Dew moves on over clean lines, and a slow lap is reported once. -/
def Obligations.MemoryErrorsAreHandled : Prop :=
  (∀ (s : State) (e : MemErr), s.dev.memOn = true → e.transit = true → settled s.dev →
    ∃ t, exec (.memCe e) s = .next t ∧ t.dev.count (.memCe e.cls 1) = s.dev.count (.memCe e.cls 1) + 1) ∧
  (∀ (s : State) (e : MemErr) (loc gen : Nat), s.dev.memOn = true → e.cls = 1 → e.transit = false →
    e.region = .valueCache loc gen →
    ∃ t, exec (.memUe e) s = .next t ∧ (∀ x ∈ t.dev.med.valueCache, ¬ (x.loc = loc ∧ x.gen = gen)) ∧ e.address / 64 * 64 ∈ t.dev.mem.poisoned) ∧
  (∀ (s : State) (req addr width : Nat), s.dev.memOn = true → settled s.dev → narrow addr width = true →
    s.dev.level Ev.narrowWrite.src ≤ Ev.narrowWrite.sev → s.dev.ev.ring.length < 65000 →
    ∃ t, exec (.narrowWrite req addr width) s = .next t ∧ logged s.dev t.dev Ev.narrowWrite ∧ t.dev.mem = s.dev.mem) ∧
  (∀ (s : State) (req addr width : Nat), s.dev.memOn = true → narrow addr width = false →
    ∃ t, exec (.narrowWrite req addr width) s = .next t ∧ sameStore s.dev t.dev ∧ t.dev.que = s.dev.que ∧ t.dev.pow = s.dev.pow ∧
      t.dev.upd = s.dev.upd ∧ ∀ l, l ∈ t.dev.mem.poisoned ↔ l ∈ s.dev.mem.poisoned ∧ ¬ (addr ≤ l ∧ l < addr + width)) ∧
  (∀ (s : State) (n : Nat), s.dev.dewRuns = true → s.dev.mem.dewAddr + n < dewLines →
    ∃ t, exec (.dewRead (.clean n)) s = .next t ∧ t.dev.mem.dewAddr = s.dev.mem.dewAddr + n) ∧
  (∀ (s : State), s.dev.dewRuns = true → settled s.dev → s.dev.ev.ring.length < 65000 →
    ∃ t, exec .dewLapSlow s = .next t ∧ t.dev.mem.dewSlowRaised = true ∧
      (s.dev.mem.dewSlowRaised = false → s.dev.level Ev.dewLapSlow.src ≤ Ev.dewLapSlow.sev → logged s.dev t.dev Ev.dewLapSlow) ∧
      (s.dev.mem.dewSlowRaised = true → t.dev.ev = s.dev.ev))

/-- A cartridge comes: its presence and what it shows are recorded; the latch closes; a NEW cartridge whose checks pass is bound to a
free bay and put in service, or refused with reason 3 where its serial is revoked; one that does not answer is refused with reason 2. -/
def Obligations.CartridgesAreAdmitted : Prop :=
  (∀ (s : State) (bay : BayNo) (f : CartFacts), (s.dev.bays.get bay).present = false →
    ∃ t, exec (.cartPresenceAssert bay f) s = .next t ∧ (t.dev.bays.get bay).present = true ∧
      (t.dev.bays.get bay).guest = some f) ∧
  (∀ (s : State) (bay : BayNo), (s.dev.bays.get bay).latchOpen = true →
    ∃ t, exec (.cartLatchClose bay) s = .next t ∧ (t.dev.bays.get bay).latchOpen = false) ∧
  (∀ (s : State) (bay : BayNo) (f : CartFacts) (i : Fin 2) (ids : List Bytes), s.dev.checking bay = true → s.dev.par.run = .running →
    s.dev.facts bay = some f → (s.dev.bays.get bay).guest = some f → (s.dev.bays.get bay).bound = none →
    s.dev.attaches = true → slotUsed f.cart = some i → (f.cart.slots.get i).stored = 1 → s.dev.madeOk f.cart.made = true →
    Config.sha256 f.table = f.cart.made.tableHash → Config.sha256 (ids.flatMap id) = f.cart.made.dieHash → ids.length = 256 →
    ∃ t, exec (.cartAuthResponse bay ⟨true, some ((s.dev.bays.get bay).challenged bay f.cart), ids.map some⟩) s = .next t ∧
      (Config.revoked (s.dev.upd.pkg s.dev.upd.activeSlot) f.cart.serial = false →
        (t.dev.bays.get bay).state = .inService ∧ (t.dev.bays.get bay).bound = some f.cart.serial ∧
        (t.dev.bays.get bay).bindCount = (s.dev.bays.get bay).bindCount + 1) ∧
      (Config.revoked (s.dev.upd.pkg s.dev.upd.activeSlot) f.cart.serial = true →
        (t.dev.bays.get bay).state = .refused ∧ (t.dev.bays.get bay).reason = 3)) ∧
  (∀ (s : State) (bay : BayNo) (f : CartFacts), s.dev.checking bay = true → s.dev.par.run = .running →
    s.dev.facts bay = some f →
    ∃ t, exec (.cartAuthTimeout bay) s = .next t ∧ (t.dev.bays.get bay).reason = 2 ∧
      ((t.dev.bays.get bay).state = .refused ∨ (t.dev.bays.get bay).guestState = .refused))

/-- A cartridge goes: the latch opens; an idle quiesce ends QUIESCED at its deadline; a cartridge that does not serve may be removed; a
liveness poll counts failures and forgets them at an answer; a rail fault leaves the bay FAILED.
The wear record's timer writes the slot that was not read last; the cartridge LED is lit by virrad and goes out at its expiry. -/
def Obligations.CartridgesLeaveAndAreMarked : Prop :=
  (∀ (s : State) (bay : BayNo), (s.dev.bays.get bay).latchOpen = false →
    ∃ t, exec (.cartLatchOpen bay) s = .next t ∧ (t.dev.bays.get bay).latchOpen = true) ∧
  (∀ (s : State) (bay : BayNo), (s.dev.bays.get bay).quiesceSince.isSome = true → s.dev.bayPower = true →
    (s.dev.bays.get bay).state = .inService → s.dev.quiesceBusy bay = false → (s.dev.bays.get bay).latchOpen = true →
    ∃ t, exec (.quiesceDeadline bay) s = .next t ∧ (t.dev.bays.get bay).state = .quiesced ∧
      (t.dev.bays.get bay).quiesceSince = none) ∧
  (∀ (s : State) (bay : BayNo), (s.dev.bays.get bay).present = true → (s.dev.bays.get bay).state.serving = false →
    s.dev.par.run = .running →
    ∃ t, exec (.cartPresenceDrop bay) s = .next t ∧ (t.dev.bays.get bay).present = false) ∧
  (∀ (s : State) (bay : BayNo), (s.dev.bays.get bay).state.serving = true → s.dev.bayPower = true →
    ∃ t, exec (.cartLivenessPoll bay true) s = .next t ∧ (t.dev.bays.get bay).pollFails = 0) ∧
  (∀ (s : State) (bay : BayNo), (s.dev.bays.get bay).state.serving = true → s.dev.bayPower = true →
    (s.dev.bays.get bay).pollFails + 1 < 3 →
    ∃ t, exec (.cartLivenessPoll bay false) s = .next t ∧
      (t.dev.bays.get bay).pollFails = (s.dev.bays.get bay).pollFails + 1) ∧
  (∀ (s : State) (bay : BayNo), (s.dev.bays.get bay).state.serving = true → s.dev.bayPower = true → noWork s.dev →
    (s.dev.bays.get bay).opWaiting = none →
    ∃ t, exec (.cartRailFault bay) s = .next t ∧ (t.dev.bays.get bay).state = .failed) ∧
  (∀ (s : State) (bay : BayNo) (c : Cartridge), (s.dev.bays.get bay).state.serving = true → s.dev.bayPower = true →
    s.dev.pow.rung = .clear → (s.dev.bays.get bay).cart = some c →
    ∃ t, exec (.wearSyncTimer bay) s = .next t ∧ (t.dev.bays.get bay).slotTime = s.dev.clk.ns ∧
      ∃ x, (t.dev.bays.get bay).cart = some x ∧
        ∀ i, i ≠ (s.dev.bays.get bay).slotRead → (x.slots.get i).stored = 2 ∧ (x.slots.get i).crcOk = true) ∧
  (∀ (s : State) (bay : BayNo), s.dev.mgmt.vaneUp = true → s.dev.par.run ≠ .recovery →
    ∃ t, exec (.virradCartLocate bay) s = .next t ∧ (t.dev.bays.get bay).locate = true) ∧
  (∀ (s : State) (bay : BayNo), ∃ t, exec (.cartLocateExpiry bay) s = .next t ∧ (t.dev.bays.get bay).locate = false)

/-! ## Power, clocks, thermal (12_power_clocks_thermal) -/

/-- The six ops of `POWER_CTL`, on a block that R321 admits: `STATUS` answers the power status; `DESCEND` arms a rung; `WAKE` disarms;
`HOLD` holds the rungs until its time; `CAP_TEST` waits for the running test; `SET_ALARM` sets the RTC alarm. -/
def Obligations.PowerControlOpsTakeEffect : Prop :=
  (∀ (s : State) (seq : Nat) (c : Cap), ready s.dev seq Op.powerCtl c → s.dev.powerCtlCheck c = none → c.value.field 0 1 = 1 →
    ∃ t, exec (.powerCtlStatus seq) s = .next t ∧ answered s.dev t.dev c Status.ok 0 s.dev.powerStatus ∧
      t.dev.pow = s.dev.pow) ∧
  (∀ (s : State) (seq : Nat) (c : Cap), ready s.dev seq Op.powerCtl c → s.dev.powerCtlCheck c = none → c.value.field 0 1 = 2 →
    ∃ t, exec (.descend seq) s = .next t ∧ t.dev.pow = { s.dev.pow with armed := c.value.field 1 1 } ∧
      ∃ b, answered s.dev t.dev c Status.ok 0 b) ∧
  (∀ (s : State) (seq : Nat) (c : Cap), ready s.dev seq Op.powerCtl c → s.dev.powerCtlCheck c = none → c.value.field 0 1 = 3 →
    ∃ t, exec (.powerCtlWake seq) s = .next t ∧ t.dev.pow = { s.dev.pow with armed := 0 } ∧
      ∃ b, answered s.dev t.dev c Status.ok 0 b) ∧
  (∀ (s : State) (seq : Nat) (c : Cap), ready s.dev seq Op.powerCtl c → s.dev.powerCtlCheck c = none → c.value.field 0 1 = 4 →
    ∃ t, exec (.hold seq) s = .next t ∧
      t.dev.pow = { s.dev.pow with
        holdUntil := if c.value.field 4 4 = 0 then none else some (s.dev.clk.tick + c.value.field 4 4 * 1000000) } ∧
      ∃ b, answered s.dev t.dev c Status.ok 0 b) ∧
  (∀ (s : State) (seq : Nat) (c : Cap), ready s.dev seq Op.powerCtl c → s.dev.powerCtlCheck c = none → c.value.field 0 1 = 5 →
    (s.dev.pow.bank.testRunning = true ∨ s.dev.testMargin = true) →
    ∃ t, exec (.capTest seq) s = .next t ∧ t.dev.pow.bank.testRunning = true ∧
      t.dev.pow.bank.testWaiters = s.dev.pow.bank.testWaiters ++ [seq]) ∧
  (∀ (s : State) (seq : Nat) (c : Cap), ready s.dev seq Op.powerCtl c → s.dev.powerCtlCheck c = none → c.value.field 0 1 = 6 →
    ∃ t, exec (.setAlarm seq) s = .next t ∧ t.dev.pow = { s.dev.pow with alarm := c.value.field 8 8 } ∧
      ∃ b, answered s.dev t.dev c Status.ok 0 b)

/-- The ladder: an idle drive that may descend takes the next rung down; the end of a hold lets an armed descent go; `WAKE#` brings the drive
back to Clear from every rung, a due RTC alarm from Frost and Glaze.
The hold-up bank's test: it starts when its margin holds, is retried later otherwise, and its end records what was measured. -/
def Obligations.RungsAndCapacitorTest : Prop :=
  (∀ (s : State), s.dev.pow.rung = .clear → s.dev.mayDescend .haze = true →
    ∃ t, exec .hazeIdleTimeout s = .next t ∧ t.dev.pow.rung = .haze) ∧
  (∀ (s : State), s.dev.pow.rung = .haze → s.dev.mayDescend .fog = true → s.dev.pairAwake = false →
    ∃ t, exec .fogIdleTimeout s = .next t ∧ t.dev.pow.rung = .fog) ∧
  (∀ (s : State), s.dev.pow.rung = .fog → s.dev.mayDescend .frost = true →
    ∃ t, exec .frostIdleTimeout s = .next t ∧ t.dev.pow.rung = .frost ∧ t.dev.net.sessions = []) ∧
  (∀ (s : State), s.dev.pow.rung = .frost → s.dev.mayDescend .glaze = true → s.dev.pow.stopped = false →
    ∃ t, exec .glazeIdleTimeout s = .next t ∧ t.dev.pow.rung = .glaze ∧ t.dev.mgmt.vaneUp = false) ∧
  (∀ (s : State), s.dev.pow.armed = 0 →
    ∃ t, exec .holdExpiry s = .next t ∧ t.dev.pow.holdUntil = none) ∧
  (∀ (s : State), s.dev.pow.armed ≠ 0 → s.dev.pow.armed ≤ 4 → s.dev.pow.rung.num < s.dev.pow.armed →
    ({ s.dev with pow := { s.dev.pow with holdUntil := none } } : Dev).mayDescend (rungOf s.dev.pow.armed) = true →
    s.dev.pow.stopped = false → s.dev.pairAwake = false →
    ∃ t, exec .holdExpiry s = .next t ∧ t.dev.pow.rung = rungOf s.dev.pow.armed ∧ t.dev.pow.armed = 0) ∧
  (∀ (s : State), s.dev.par.run = .running → s.dev.pow.failing = none → s.dev.pow.pwrEn = true →
    (s.dev.pow.rung = .frost → s.dev.pow.stopped = false) →
    ∃ t, exec .wakePin s = .next t ∧ t.dev.pow.rung = .clear) ∧
  (∀ (s : State), s.dev.pow.alarm ≠ 0 → s.dev.par.run = .running → s.dev.pow.failing = none → s.dev.pow.pwrEn = true →
    s.dev.pow.stopped = false → s.dev.pow.alarm ≤ s.dev.clk.ns →
    ∃ t, exec .rtcAlarm s = .next t ∧ t.dev.pow.alarm = 0 ∧
      ((s.dev.pow.rung = .frost ∨ s.dev.pow.rung = .glaze) → t.dev.pow.rung = .clear)) ∧
  (∀ (s : State), s.dev.mgmt.vaneUp = true → s.dev.pow.bank.testRunning = false → s.dev.pow.failing = none →
    ∃ t, exec .capTestSchedule s = .next t ∧
      (s.dev.testMargin = true → t.dev.pow.bank.testRunning = true ∧ t.dev.pow.bank.retryPending = false) ∧
      (s.dev.testMargin = false → t.dev.pow.bank.testRunning = false ∧ t.dev.pow.bank.retryPending = true)) ∧
  (∀ (s : State), s.dev.mgmt.vaneUp = true → s.dev.pow.bank.testRunning = false → s.dev.pow.failing = none →
    s.dev.pow.bank.retryPending = true → s.dev.testMargin = true →
    ∃ t, exec .capTestRetry s = .next t ∧ t.dev.pow.bank.testRunning = true ∧ t.dev.pow.bank.retryPending = false) ∧
  (∀ (s : State) (m : CapMeasure), s.dev.pow.bank.testRunning = true →
    ∃ t, exec (.capTestDone m) s = .next t ∧ t.dev.pow.bank.testRunning = false ∧ t.dev.pow.bank.testWaiters = [] ∧
      t.dev.pow.bank.esr = m.esr ∧ t.dev.pow.bank.capacitance = m.capacitance ∧ t.dev.pow.bank.chargerFault = m.chargerFault)

/-- The power cap and the thermal groups: each period's input power is kept; a knob is released step by step; a breach is reported
again; a group's hottest reading is kept; a level is left one at a time; a cooled stop ends. -/
def Obligations.PowerCapAndThermalLevels : Prop :=
  (∀ (s : State) (input : Nat), s.dev.controls = true →
    ∃ t, exec (.powerCapPeriod input) s = .next t ∧ t.dev.pow.inputs = (input :: s.dev.pow.inputs).take 100) ∧
  (∀ (s : State) (x : Nat) (rest : List Nat), s.dev.pow.inputs = x :: rest → s.dev.controls = true → x + 20 ≤ s.dev.powerLimit →
    s.dev.pow.dispatchPm = 1000 → s.dev.pow.galeCeiling < 600 →
    ∃ t, exec .knobReleaseStep s = .next t ∧ t.dev.pow.galeCeiling = min 600 (2 * s.dev.pow.galeCeiling)) ∧
  (∀ (s : State), s.dev.pow.breach = true → settled s.dev → s.dev.level Ev.floorBreach.src ≤ Ev.floorBreach.sev →
    s.dev.ev.ring.length < 65000 → ∃ t, exec .floorBreachRepeat s = .next t ∧ logged s.dev t.dev Ev.floorBreach) ∧
  (∀ (s : State) (temps : List (Nat × Int)) (g : Fin 11) (p : Nat) (x : Int), s.dev.controls = true →
    s.dev.par.pendingReset = none → s.dev.sec.run = none → s.dev.par.shutdownSince = none →
    hottestOf ((s.dev.applyCommitted (· == P.galeStepOffsetC)).groupReads temps g.val) = some (p, x) →
    ∃ t, exec (.thermalSample temps) s = .next t ∧ (t.dev.pow.groups.get g).temp = x ∧ (t.dev.pow.groups.get g).point = p) ∧
  (∀ (s : State) (g : Fin 7), (s.dev.pow.groups.get (g.castLE (by decide))).belowSince.isSome = true →
    (s.dev.pow.groups.get (g.castLE (by decide))).level ≠ 0 →
    ∃ t, exec (.thermalLevelExit (g.val + 1)) s = .next t ∧
      (t.dev.pow.groups.get (g.castLE (by decide))).level = (s.dev.pow.groups.get (g.castLE (by decide))).level - 1) ∧
  (∀ (s : State), s.dev.pow.stopped = true → s.dev.pow.coolSince.isSome = true →
    ∃ t, exec .thermalStopRecovery s = .next t ∧ t.dev.pow.stopped = false ∧ t.dev.pow.coolSince = none)

/-- What takes the drive down: a power-fail warning, a thermal trip, a fallen auxiliary rail and an unlocked PLL begin the power-fail
sequence, or end it at once, and every session ends; energy that runs out gives up what is not on the medium. -/
def Obligations.PowerFailureBegins : Prop :=
  (∀ (s : State) (c : FailCause), s.dev.par.run = .running → s.dev.pow.rung ≠ .glaze → s.dev.pow.failing = none →
    ∃ t, exec (.powerFailWarning c) s = .next t ∧ (t.dev.pow.failing.isSome = true ∨ t.dev.par.run = .off) ∧
      t.dev.net.sessions = [] ∧ (c = .pwrFail → t.dev.pow.pwrFail = true) ∧ (c = .inputLow → t.dev.pow.p12v = false)) ∧
  (∀ (s : State) (g p : Nat) (x : Int), s.dev.par.run = .running → s.dev.pow.rung ≠ .glaze → s.dev.pow.failing = none →
    ∃ t, exec (.thermalTrip g p x) s = .next t ∧ t.dev.net.sessions = [] ∧
      ((∃ f, t.dev.pow.failing = some f ∧ f.thenHalt = .haltedTrip ∧ f.trip = some (g, p, x)) ∨
        (t.dev.par.run = .haltedTrip ∧ t.dev.pow.tripRecord = some (g, p, x)))) ∧
  (∀ (s : State), s.dev.par.run = .running → s.dev.pow.rung ≠ .glaze → s.dev.pow.failing = none →
    ∃ t, exec .aux3v3Low s = .next t ∧ t.dev.pow.aux3v3 = false ∧ t.dev.pow.auxLost = true ∧ t.dev.net.sessions = [] ∧
      (t.dev.pow.failing.isSome = true ∨ t.dev.par.run = .off)) ∧
  (∀ (s : State) (f : FailSeq), s.dev.pow.failing = some f →
    ∃ t, exec .holdupEnergyLow s = .next t ∧ ∀ v ∈ t.dev.que.drift, v.seq ∉ s.dev.unflushed f) ∧
  (∀ (s : State), s.dev.par.run = .running → s.dev.pow.rung.num ≤ 2 → s.dev.pow.failing = none →
    ∃ t, exec .pllUnlock s = .next t ∧ t.dev.net.sessions = [] ∧
      ((∃ f, t.dev.pow.failing = some f ∧ f.thenHalt = .haltedPll ∧ t.dev.pow.pllOk = false) ∨ t.dev.par.run = .haltedPll ∨
        (t.dev.par.startKind = 2 ∧ t.dev.par.startCode = Ev.pllUnlock.code)))

/-- Power on and off and the watchdogs: `POWER_ON` starts a drive that is off; an input returns; `PWR_EN` low ends it in order or at once;
the shutdown limit, the two watchdogs and a start that does not report take their course. -/
def Obligations.PowerOnOffAndWatchdogs : Prop :=
  (∀ (s : State) (slot : BitVec 6), s.dev.par.run = .off → s.dev.pow.failing = none →
    ∃ t, exec (.powerOn slot) s = .next t ∧ t.dev.par.run ≠ .off ∧ t.dev.pow.slotId = slot ∧ t.dev.pow.pwrEn = true) ∧
  (∀ (s : State), s.dev.par.run ≠ .off →
    (∃ t, exec (.inputRestored true) s = .next t ∧ t.dev.pow.p12v = true ∧ t.dev.pow.pwrFail = false) ∧
    ∃ t, exec (.inputRestored false) s = .next t ∧ t.dev.pow.aux3v3 = true) ∧
  (∀ (s : State), s.dev.pow.failing = none → s.dev.par.run ≠ .running →
    ∃ t, exec .pwrEnDeassert s = .next t ∧ t.dev.pow.pwrEn = false ∧ t.dev.par.run = .off ∧ t.dev.mgmt.vaneUp = false) ∧
  (∀ (s : State), s.dev.pow.failing = none → s.dev.par.run = .running → s.dev.pow.rung ≠ .glaze → s.dev.par.pendingReset = none →
    s.dev.sec.run = none → s.dev.par.shutdownSince = none →
    ∃ t, exec .pwrEnDeassert s = .next t ∧ t.dev.pow.pwrEn = false ∧
      (t.dev.par.run = .off ∨ t.dev.par.shutdownSince = some s.dev.clk.tick)) ∧
  (∀ (s : State), s.dev.par.shutdownSince.isSome = true → s.dev.par.run = .running → s.dev.pow.rung ≠ .glaze →
    s.dev.pow.failing = none →
    ∃ t, exec .shutdownLimit s = .next t ∧ t.dev.par.shutdownSince = none ∧ t.dev.net.sessions = []) ∧
  (∀ (s : State) (core ms : Nat) (a : Bool), s.dev.par.run = .running → s.dev.pow.failing = none → s.dev.par.pendingReset = none →
    ∃ t, exec (.fwWatchdog core ms a) s = .next t ∧
      (t.dev.par.pendingReset = some (.integrity Ev.fwWatchdog.code 0 0) ∨
        (t.dev.par.startKind = 2 ∧ t.dev.par.startCode = Ev.fwWatchdog.code))) ∧
  (∀ (s : State), s.dev.mgmt.vaneUp = true → s.dev.upd.inTrial = false →
    ∃ t, exec .vaneWatchdog s = .next t ∧ t.dev.mgmt.conns = [] ∧ t.dev.mgmt.eid = 0 ∧ t.dev.par.staged = []) ∧
  (∀ (s : State), s.dev.par.run = .starting → s.dev.pow.failing = none →
    ∃ t, exec .startReportTimeout s = .next t ∧
      ((t.dev.par.run = .recovery ∧ t.dev.par.startKind = 3) ∨ (t.dev.par.startKind = 2 ∧ t.dev.par.startCode = 0)))

/-! ## Sensors, time and records of the drive (13_management_events) -/

/-- Sensors, time and the Barograph: a sensor reading is kept; an accepted announce names a master and the announce timeout ends it; the
time is persisted; a flush puts the waiting records, newest first, into the ring of each bay it writes. -/
def Obligations.SensorsTimeAndBarograph : Prop :=
  (∀ (s : State) (id : Nat) (v : BitVec 32), s.dev.mgmt.vaneUp = true → (sensorRange id).isSome = true →
    ∃ t, exec (.sensorSample id (.value (v.toNat : Int))) s = .next t ∧ (t.dev.sensor id).value = v.toNat) ∧
  (∀ (s : State) (p : Option Port), s.dev.ptpOn p = true →
    ∃ t, exec (.ptpMessage p (.announce true)) s = .next t ∧ t.dev.clk.ptpMaster = true) ∧
  (∀ (s : State), s.dev.clk.ptpMaster = true →
    ∃ t, exec .ptpAnnounceTimeout s = .next t ∧ t.dev.clk.ptpMaster = false ∧
      t.dev.clk.source = (if s.dev.clk.source = .ptpLocked then TimeSource.ptpHoldover else s.dev.clk.source)) ∧
  (∀ (s : State), s.dev.mgmt.vaneUp = true → (∀ k, s.dev.clk.persistedAt = some k → k + 600000000 ≤ s.dev.clk.tick) →
    ∃ t, exec .persistedTimeWrite s = .next t ∧ t.dev.clk.persisted = s.dev.clk.ns ∧
      t.dev.clk.persistedAt = some s.dev.clk.tick) ∧
  (∀ (s : State) (bay : BayNo), s.dev.awake = true → s.dev.ev.unflushed.any (fun r => decide (4 ≤ r.ev.sev)) = true →
    s.dev.ev.dropped = 0 → bay ∈ s.dev.flushBays →
    ∃ t, exec .baroFlush s = .next t ∧ t.dev.ev.pring.get bay = (s.dev.ev.unflushed ++ s.dev.ev.pring.get bay).take 16777216) ∧
  (∀ (s : State) (bay : BayNo), s.dev.awake = true → s.dev.ev.unflushed ≠ [] → s.dev.ev.dropped = 0 → bay ∈ s.dev.flushBays →
    ∃ t, exec .baroFlushAge s = .next t ∧ t.dev.ev.pring.get bay = (s.dev.ev.unflushed ++ s.dev.ev.pring.get bay).take 16777216)

/-! ## Settings, namespaces, sanitise and logs (16_modes_reset_config, 04_data_model, 14_security_lifecycle_sanitise) -/

/-- Identification and parameters: `IDENTIFY` answers the identify block and the identity certificates; `GET_PARAM` the entries asked for;
`SET_PARAM` stages an entry of class 2 and puts every other one in force. -/
def Obligations.ParametersAreReadAndSet : Prop :=
  (∀ (s : State) (seq : Nat) (c : Cap), ready s.dev seq Op.identify c →
    ∃ t, exec (.identify seq) s = .next t ∧ answered s.dev t.dev c Status.ok 0 (s.dev.identifyBlock ++ Config.identityChain)) ∧
  (∀ (s : State) (seq : Nat) (c : Cap) (es : List PEntry) (rs : List PRow), ready s.dev seq Op.getParam c →
    8 ≤ c.value.length → readEntries (c.value.drop 8) (c.value.field 0 2) = some es → c.value.field 2 1 ≤ 1 →
    c.value.zeroAt 3 5 = true → c.value.field 0 2 ≤ 1024 → es.all PEntry.bare = true →
    (if c.value.field 0 2 = 0 then some paramTable else rowsOf es) = some rs →
    ∃ t, exec (.getParam seq) s = .next t ∧
      answered s.dev t.dev c Status.ok 0 (natToBytesBE 2 rs.length ++ (c.value.drop 2).take 6 ++
        rs.flatMap (s.dev.paramEntry (c.value.field 2 1 == 1)))) ∧
  (∀ (s : State) (seq : Nat) (c : Cap) (e : PEntry) (r : PRow), ready s.dev seq Op.setParam c → setsOne s.dev c e →
    c.selftestValue = 0 → paramRow e.id = some r → r.cls = 2 →
    ∃ t, exec (.setParam seq) s = .next t ∧ t.dev.par.staged = setEntry s.dev.par.staged e.id e.value ∧
      t.dev.par.values = s.dev.par.values ∧ ∃ b, answered s.dev t.dev c Status.ok 0 b) ∧
  (∀ (s : State) (seq : Nat) (c : Cap) (e : PEntry) (r : PRow), ready s.dev seq Op.setParam c → setsOne s.dev c e →
    c.selftestValue = 0 → paramRow e.id = some r → r.cls ≠ 2 → e.id ≠ P.modeSelftestRun →
    ∃ t, exec (.setParam seq) s = .next t ∧ t.dev.par.values = setEntry s.dev.par.values e.id e.value ∧
      t.dev.par.staged = s.dev.par.staged ∧ ∃ b, answered s.dev t.dev c Status.ok 0 b)

/-- The self-test and the staged set: `SELFTEST_SHORT` (1 written to `mode.selftest_run`) starts the short test of the scope in force and
`SELFTEST_EXTENDED` (2) the extended one, `SELFTEST_STOP` (3) stops the test that runs, each answered with the settings generation and the
count staged; `SELFTEST_DONE` completes it; the end of a test is an event. `COMMIT_STAGED_COMMIT` empties the staged set into the settings
image and answers its generation and the count: each value is in force where its safe point is at once, and else committed under the
capsule's credential. `COMMIT_AND_RESET` commits likewise and leaves its reset pending while Drift drains; on a drained drive the reset follows.
`COMMIT_STAGED_DISCARD` empties the staged set and changes no value committed or in force. -/
def Obligations.SelfTestAndStagedSet : Prop :=
  (∀ (s : State) (seq : Nat) (c : Cap) (e : PEntry), ready s.dev seq Op.setParam c → setsOne s.dev c e →
    e.id = P.modeSelftestRun → e.value.toNatBE = 1 →
    ∃ t, exec (.selftestShort seq) s = .next t ∧
      t.dev.par.selfTest = some ⟨1, s.dev.pnum P.modeSelftestScope, s.dev.clk.tick⟩ ∧ t.dev.par.staged = s.dev.par.staged ∧
      answered s.dev t.dev c Status.ok 0 (settingsAnswer (s.dev.par.gen + 1) s.dev.par.staged.length)) ∧
  (∀ (s : State) (seq : Nat) (c : Cap) (e : PEntry), ready s.dev seq Op.setParam c → setsOne s.dev c e →
    e.id = P.modeSelftestRun → e.value.toNatBE = 2 →
    ∃ t, exec (.selftestExtended seq) s = .next t ∧
      t.dev.par.selfTest = some ⟨2, s.dev.pnum P.modeSelftestScope, s.dev.clk.tick⟩ ∧ t.dev.par.staged = s.dev.par.staged ∧
      answered s.dev t.dev c Status.ok 0 (settingsAnswer (s.dev.par.gen + 1) s.dev.par.staged.length)) ∧
  (∀ (s : State) (seq : Nat) (c : Cap) (e : PEntry), ready s.dev seq Op.setParam c → setsOne s.dev c e →
    e.id = P.modeSelftestRun → e.value.toNatBE = 3 → s.dev.ev.ring.length < 65000 →
    ∃ t, exec (.selftestStop seq) s = .next t ∧ t.dev.par.selfTest = none ∧ t.dev.par.staged = s.dev.par.staged ∧
      (s.dev.par.selfTest.isSome = true → s.dev.level Ev.selftestDone.src ≤ Ev.selftestDone.sev →
        logged s.dev t.dev Ev.selftestDone) ∧
      answered s.dev t.dev c Status.ok 0 (settingsAnswer (s.dev.par.gen + 1) s.dev.par.staged.length)) ∧
  (∀ (s : State) (x : SelfTest) (faults : Nat), s.dev.par.selfTest = some x → s.dev.ev.ring.length < 65000 →
    ∃ t, exec (.selftestDone faults) s = .next t ∧ t.dev.par.selfTest = none ∧
      (s.dev.level Ev.selftestDone.src ≤ Ev.selftestDone.sev → logged s.dev t.dev Ev.selftestDone)) ∧
  (∀ (s : State) (seq : Nat) (c : Cap), ready s.dev seq Op.commitStaged c → c.hdr.offset = 0 → s.dev.stagedOk = true →
    ∃ t, exec (.commitStagedCommit seq) s = .next t ∧ t.dev.par.staged = [] ∧ t.dev.par.gen = s.dev.par.gen + 1 ∧
      ((s.dev.par.staged.map (·.1)).Nodup → ∀ e ∈ s.dev.par.staged,
        if appliesAtOnce e.1 = true then t.dev.par.value e.1 = e.2 else (e.1, e.2, c.cred) ∈ t.dev.par.committed) ∧
      answered s.dev t.dev c Status.ok 0 (settingsAnswer (s.dev.par.gen + 1) s.dev.par.staged.length)) ∧
  (∀ (s : State) (seq : Nat) (c : Cap), ready s.dev seq Op.commitStaged c → c.hdr.offset = 1 → s.dev.stagedOk = true →
    s.dev.par.pendingReset = none → s.dev.driftOut = false → s.dev.pow.failing = none →
    ∃ t, exec (.commitAndReset seq) s = .next t ∧ t.dev.par.staged = [] ∧ t.dev.par.pendingReset = some .commit ∧
      (∀ e ∈ s.dev.par.staged, (e.1, e.2, c.cred) ∈ t.dev.par.committed) ∧
      answered s.dev t.dev c Status.ok 0 (settingsAnswer (s.dev.par.gen + 1) s.dev.par.staged.length)) ∧
  (∀ (s : State) (seq : Nat) (c : Cap), ready s.dev seq Op.commitStaged c → c.hdr.offset = 1 → s.dev.stagedOk = true →
    s.dev.par.run = .running → s.dev.par.pendingReset = none → s.dev.drained (some seq) = true → s.dev.pow.failing = none →
    (∀ x ∈ s.dev.que.caps, x.seq = seq → x = c) →
    ∃ t, exec (.commitAndReset seq) s = .next t ∧ t.dev.par.staged = [] ∧ t.dev.par.startKind = 2 ∧ t.dev.par.startCode = 0 ∧
      t.dev.net.sessions = [] ∧
      answered s.dev t.dev c Status.ok 0 (settingsAnswer (s.dev.par.gen + 1) s.dev.par.staged.length)) ∧
  (∀ (s : State) (seq : Nat) (c : Cap), ready s.dev seq Op.commitStaged c → c.hdr.offset = 2 →
    ∃ t, exec (.commitStagedDiscard seq) s = .next t ∧ t.dev.par.staged = [] ∧ t.dev.par.committed = s.dev.par.committed ∧
      t.dev.par.values = s.dev.par.values ∧ answered s.dev t.dev c Status.ok 0 (settingsAnswer s.dev.par.gen 0))

/-- Namespaces: `NS_CREATE` that no check refuses makes an empty namespace with the quotas asked for and answers its descriptor;
`NS_DELETE` that waits for nothing removes the namespace.
`POLICY_WRITE` and `RING_LOAD`: a block whose operations all hold replaces the policy under the next generation; a later epoch with
rising points replaces the ring. -/
def Obligations.NamespacesPolicyAndRing : Prop :=
  (∀ (s : State) (seq : Nat) (c : Cap), ready s.dev seq Op.nsCreate c → s.dev.nsCreateCheck c = none →
    ∃ t, exec (.nsCreate seq) s = .next t ∧ ∃ n, t.dev.ns = s.dev.ns ++ [n] ∧ n.id = c.hdr.ns ∧ n.capQuota = c.value.field 8 8 ∧
      n.keyQuota = c.value.field 0x10 8 ∧ n.charged = 0 ∧ n.keys = 0 ∧
      (∃ k, s.dev.fresh ≤ k ∧ n.atRestKey = Config.freeValue k) ∧ t.dev.med.slotKey n.id = n.atRestKey ∧
      answered s.dev t.dev c Status.ok 0 n.descriptor) ∧
  (∀ (s : State) (seq : Nat) (c : Cap), ready s.dev seq Op.nsDelete c → s.dev.nsDeleteCheck c = none →
    s.dev.earlierWork c.seq (some c.hdr.ns) = false → c.value.toNatBE = 0 →
    ∃ t, exec (.nsDelete seq) s = .next t ∧ (∀ n ∈ t.dev.ns, n.id ≠ c.hdr.ns) ∧ answered s.dev t.dev c Status.ok 0 []) ∧
  (∀ (s : State) (seq : Nat) (c : Cap) (p : Policy), ready s.dev seq Op.policyWrite c →
    c.value.length = 16 + 64 * c.value.field 0 2 → s.dev.policyOf c.value = some p →
    ∃ t, exec (.policyWrite seq) s = .next t ∧ t.dev.pol.tenants = p.tenants ∧ t.dev.pol.bindings = p.bindings ∧
      t.dev.pol.gen = s.dev.pol.gen + 1 ∧ answered s.dev t.dev c Status.ok 0
        (natToBytesBE 8 (s.dev.pol.gen + 1) ++ natToBytesBE 4 p.bindings.length ++ natToBytesBE 4 p.tenants.length)) ∧
  (∀ (s : State) (seq : Nat) (c : Cap), ready s.dev seq Op.ringLoad c → c.value.length = 16 + 8 * c.value.field 8 4 →
    s.dev.ring.epoch < c.value.field 0 8 → 0 < c.value.field 8 4 → c.value.field 8 4 ≤ 262144 → c.value.zeroAt 12 4 = true →
    pointsOk (ringPoints c.value (c.value.field 8 4)) = true →
    ∃ t, exec (.ringLoad seq) s = .next t ∧ t.dev.ring.epoch = c.value.field 0 8 ∧
      t.dev.ring.points = (ringPoints c.value (c.value.field 8 4)).map (fun p => (p.1, p.2.1)) ∧
      answered s.dev t.dev c Status.ok 0 [])

/-- `FORMAT` and `SANITISE` that no check refuses and that wait for nothing enter a record in the sanitise log, done at once for a
crypto action, and leave every namespace of their scope with a new key. -/
def Obligations.SanitiseIsRecorded : Prop :=
  (∀ (s : State) (seq : Nat) (c : Cap), ready s.dev seq Op.format c → s.dev.sanCheckReq c = none →
    ((s.dev.maintCell (sanActivity c)).1 = .r ∨ (s.dev.maintCell (sanActivity c)).1 = .q) →
    s.dev.earlierWork c.seq (if c.value.field 0 1 == 1 then some c.hdr.ns else none) = false →
    ∃ t, exec (.formatClear seq) s = .next t ∧
      (∃ r ∈ t.dev.sec.sanitise, r.id = seq ∧ r.opcodeLow = 7 ∧ r.action = 1 ∧ r.scope = c.value.field 0 1 ∧ r.state = 3 ∧
        r.requester = c.tenant) ∧
      (∀ n ∈ t.dev.ns, (c.value.field 0 1 = 1 → n.id = c.hdr.ns) → ∃ k, s.dev.fresh ≤ k ∧ n.atRestKey = Config.freeValue k)) ∧
  (∀ (s : State) (seq : Nat) (c : Cap), ready s.dev seq Op.sanitise c → s.dev.sanCheckReq c = none → c.value.field 1 1 = 1 →
    ((s.dev.maintCell (sanActivity c)).1 = .r ∨ (s.dev.maintCell (sanActivity c)).1 = .q) →
    s.dev.earlierWork c.seq (if c.value.field 0 1 == 1 then some c.hdr.ns else none) = false →
    ∃ t, exec (.sanitiseCrypto seq) s = .next t ∧
      (∃ r ∈ t.dev.sec.sanitise, r.id = seq ∧ r.opcodeLow = 8 ∧ r.action = 1 ∧ r.scope = c.value.field 0 1 ∧ r.state = 3 ∧
        r.requester = c.tenant) ∧
      (∀ n ∈ t.dev.ns, (c.value.field 0 1 = 1 → n.id = c.hdr.ns) → ∃ k, s.dev.fresh ≤ k ∧ n.atRestKey = Config.freeValue k)) ∧
  (∀ (s : State) (seq : Nat) (c : Cap), ready s.dev seq Op.sanitise c → s.dev.sanCheckReq c = none → c.value.field 1 1 = 2 →
    ((s.dev.maintCell (sanActivity c)).1 = .r ∨ (s.dev.maintCell (sanActivity c)).1 = .q) →
    s.dev.earlierWork c.seq (if c.value.field 0 1 == 1 then some c.hdr.ns else none) = false →
    (c.value.field 0 1 = 1 → s.dev.batchHolds (some c.hdr.ns) = false ∧ s.dev.coFits c.hdr.ns (s.dev.nsBands c.hdr.ns) = true) →
    (c.value.field 0 1 = 2 → ∀ b, [BayState.missing, .failed, .evacuating].contains (s.dev.bays.get b).state = false) →
    ∃ t, exec (.sanitiseBlock seq) s = .next t ∧
      (∃ r ∈ t.dev.sec.sanitise, r.id = seq ∧ r.opcodeLow = 8 ∧ r.action = 2 ∧ r.scope = c.value.field 0 1 ∧
        r.requester = c.tenant) ∧
      (∀ n ∈ t.dev.ns, (c.value.field 0 1 = 1 → n.id = c.hdr.ns) → ∃ k, s.dev.fresh ≤ k ∧ n.atRestKey = Config.freeValue k))

/-- Logs and subscriptions: `READ_LOG` answers the header and the entries that are left when they fit one reply; `EVENT_SUBSCRIBE`
adds, removes and lists the session's subscriptions and sets the recording level of its sources. -/
def Obligations.LogsAndSubscriptions : Prop :=
  (∀ (s : State) (seq : Nat) (c : Cap), ready s.dev seq Op.readLog c → s.dev.readLogCheck c = none → c.replies = 0 →
    (s.dev.logLeft { c with cursor := c.value.field 8 8 }).length ≤
      ((if c.value.field 4 4 == 0 then 1048576 else c.value.field 4 4) - 32) / logEntrySize (c.value.field 0 1) →
    ∃ t, exec (.readLog seq) s = .next t ∧ ∃ next skipped last,
      answered s.dev t.dev c Status.ok 0 (logHead (c.value.field 0 1)
        (s.dev.logLeft { c with cursor := c.value.field 8 8 }).length next skipped last ++
          (s.dev.logLeft { c with cursor := c.value.field 8 8 }).flatMap (·.2))) ∧
  (∀ (s : State) (seq : Nat) (c : Cap), ready s.dev seq Op.eventSubscribe c → c.value.length = 32 → subFieldsOk c.value = true →
    c.value.field 0 1 = 1 → (s.dev.subsOf c).length < 16 → (blockSub c.value).sev ≤ 6 →
    ∃ t, exec (.subscribe seq) s = .next t ∧
      ∃ y ∈ t.dev.net.sessions, y.sid = c.sid ∧ y.subs = s.dev.subsOf c ++ [blockSub c.value]) ∧
  (∀ (s : State) (seq : Nat) (c : Cap), ready s.dev seq Op.eventSubscribe c → c.value.length = 32 → subFieldsOk c.value = true →
    c.value.field 0 1 = 2 → (s.dev.subsOf c).contains (blockSub c.value) = true →
    ∃ t, exec (.unsubscribe seq) s = .next t ∧
      ∃ y ∈ t.dev.net.sessions, y.sid = c.sid ∧ y.subs = (s.dev.subsOf c).erase (blockSub c.value)) ∧
  (∀ (s : State) (seq : Nat) (c : Cap), ready s.dev seq Op.eventSubscribe c → c.value.length = 32 → subFieldsOk c.value = true →
    c.value.field 0 1 = 3 →
    ∃ t, exec (.eventList seq) s = .next t ∧ answered s.dev t.dev c Status.ok 0
      (natToBytesBE 4 (s.dev.subsOf c).length ++ (s.dev.subsOf c).flatMap Subscription.bytes)) ∧
  (∀ (s : State) (seq : Nat) (c : Cap) (k : Nat), ready s.dev seq Op.eventSubscribe c → c.value.length = 32 →
    subFieldsOk c.value = true → c.value.field 0 1 = 4 → s.dev.isOperator c.tenant = true → (blockSub c.value).sev ≤ 4 →
    (blockSub c.value).srcLow ≤ k → k ≤ (blockSub c.value).srcHigh →
    ∃ t, exec (.setLevel seq) s = .next t ∧ t.dev.level k = (blockSub c.value).sev)

/-! ## Firmware update and Recovery (15_firmware_update) -/

/-- Delivery: `UPD_BEGIN` from IDLE opens the lease on the header's package; a chunk whose digest matches is staged and one whose digest
does not is refused; `UPD_VERIFY` installs a package that is intact and drops back to RECEIVING otherwise; an idle lease lapses. -/
def Obligations.UpdatesAreDelivered : Prop :=
  (∀ (s : State) (seq : Nat) (c : Cap) (certOk signatureOk : Bool), ready s.dev seq Op.updBegin c → c.value.length = 65536 →
    hdrCheck c.value certOk signatureOk s.dev.upd.floor = none → s.dev.upd.state = 0 →
    ∃ t, exec (.updBegin seq certOk signatureOk) s = .next t ∧ t.dev.upd.state = 1 ∧ t.dev.upd.staging = some ⟨c.value, []⟩ ∧
      t.dev.upd.lease = some ⟨c.source, s.dev.clk.ns, s.dev.clk.ns⟩ ∧ ∃ b, answered s.dev t.dev c Status.ok 0 b) ∧
  (∀ (s : State) (seq n : Nat) (c : Cap) (st : Staging), ready s.dev seq Op.updChunk c → s.dev.upd.state = 1 →
    s.dev.upd.staging = some st → s.dev.upd.holds c.source = true → c.hdr.offset.toNat = 65536 * n → 0 < n →
    65536 * n < pkgLength st.header → c.value.length = chunkLength st.header n → st.chunks.any (fun x => x.1 == n) = false →
    ∃ t, exec (.updChunk seq) s = .next t ∧
      (chunkGood st.header n c.value = true → t.dev.upd.staging = some ⟨st.header, st.chunks ++ [(n, c.value)]⟩ ∧
        answered s.dev t.dev c Status.ok 0 []) ∧
      (chunkGood st.header n c.value = false → t.dev.upd.staging = some st ∧
        answered s.dev t.dev c Status.imageRejected 0 [])) ∧
  (∀ (s : State) (seq : Nat) (c : Cap) (st : Staging), ready s.dev seq Op.updVerify c → s.dev.upd.state = 2 →
    s.dev.upd.staging = some st → s.dev.upd.holds c.source = true →
    ∃ t, exec (.updVerify seq) s = .next t ∧
      ((s.dev.install st s.dev.upd.otherSlot).1 = true → t.dev.upd.state = 3 ∧
        t.dev.upd.slots.get s.dev.upd.otherSlot = some ⟨st.package, true⟩ ∧ answered s.dev t.dev c Status.ok 0 []) ∧
      ((s.dev.install st s.dev.upd.otherSlot).1 = false → t.dev.upd.state = 1 ∧
        answered s.dev t.dev c Status.imageRejected 0 [])) ∧
  (∀ (s : State) (l : Lease), s.dev.upd.lease = some l → s.dev.upd.state ≠ 4 →
    ∃ t, exec .updLeaseLapse s = .next t ∧ t.dev.upd.lease = none ∧ t.dev.upd.contributors = [] ∧
      t.dev.upd.staging = s.dev.upd.staging)

/-- Activation and trial: the three forms of `UPD_ACTIVATE` leave their reset pending while Drift drains; `UPD_CONFIRM` ends the trial;
`UPD_CANCEL` ends an update not yet in trial; the trial's deadline begins a reversion. -/
def Obligations.UpdatesAreActivated : Prop :=
  (∀ (s : State) (seq : Nat) (c : Cap), ready s.dev seq Op.updActivate c → c.hdr.offset = 0 → s.dev.upd.state = 3 →
    s.dev.upd.holds c.source = true → (s.dev.maintCell .act).1 = .r →
    s.dev.upd.floor ≤ pkgSecver (s.dev.upd.pkg s.dev.upd.otherSlot) → s.dev.driftOut = false → s.dev.pow.failing = none →
    ∃ t, exec (.updActivateStagedSet seq) s = .next t ∧
      t.dev.par.pendingReset = some (.activation (some seq) c.source.kind c.source.who)) ∧
  (∀ (s : State) (seq : Nat) (c : Cap), ready s.dev seq Op.updActivate c → c.hdr.offset = 1 → s.dev.upd.state = 0 →
    s.dev.upd.slotOk s.dev.upd.otherSlot = true → (s.dev.maintCell .act).1 = .r →
    s.dev.upd.floor ≤ pkgSecver (s.dev.upd.pkg s.dev.upd.otherSlot) → s.dev.driftOut = false → s.dev.pow.failing = none →
    ∃ t, exec (.updActivateOtherSlot seq) s = .next t ∧
      t.dev.par.pendingReset = some (.activation (some seq) c.source.kind c.source.who)) ∧
  (∀ (s : State) (seq : Nat) (c : Cap), ready s.dev seq Op.updActivate c → c.hdr.offset = 2 → s.dev.upd.state ≠ 4 →
    s.dev.upd.leaseRefuses c.source false = false → (s.dev.maintCell .act).1 = .r → s.dev.driftOut = false →
    s.dev.pow.failing = none →
    ∃ t, exec (.updActivateRecovery seq) s = .next t ∧ t.dev.par.pendingReset = some (.recovery (some seq))) ∧
  (∀ (s : State) (seq : Nat) (c : Cap), ready s.dev seq Op.updConfirm c → s.dev.upd.inTrial = true →
    ∃ t, exec (.updConfirm seq) s = .next t ∧ t.dev.upd.inTrial = false ∧ t.dev.upd.state = 0 ∧
      answered s.dev t.dev c Status.ok 0 []) ∧
  (∀ (s : State) (seq : Nat) (c : Cap), ready s.dev seq Op.updCancel c → s.dev.upd.state = 1 ∨ s.dev.upd.state = 2 →
    s.dev.upd.holds c.source = true →
    ∃ t, exec (.updCancel seq) s = .next t ∧ t.dev.upd.state = 0 ∧ t.dev.upd.staging = none ∧ t.dev.upd.lease = none ∧
      answered s.dev t.dev c Status.ok 0 []) ∧
  (∀ (s : State), s.dev.upd.inTrial = true → s.dev.par.run = .running → s.dev.driftOut = false → s.dev.pow.failing = none →
    s.dev.par.pendingReset = none →
    ∃ t, exec .trialDeadline s = .next t ∧ t.dev.par.pendingReset = some .reversion ∧ t.dev.upd.inTrial = false)

/-- Network boot in Recovery: the block waited for is taken and acknowledged, the block before it only acknowledged; the retry timer
starts over; a DHCP reply gives the drive its address. -/
def Obligations.RecoveryLoadsByTftp : Prop :=
  (∀ (s : State) (x : Tftp) (b : Bytes) (certOk signatureOk : Bool), s.dev.par.run = .recovery → s.dev.upd.tftp = some x →
    x.waiting = false → x.server.isSome = true → (x.nextBlock = 1 ∨ x.blocksize = b.length) → 512 ≤ b.length → b.length ≤ 1468 →
    x.received.length + b.length < 65536 →
    ∃ t, exec (.tftpBlock x.nextBlock b certOk signatureOk) s = .next t ∧ emits s.dev t.dev (.tftpAck x.nextBlock) ∧
      t.dev.upd.tftp = some { x with blocksize := b.length, nextBlock := x.nextBlock + 1, received := x.received ++ b }) ∧
  (∀ (s : State) (x : Tftp) (n : Nat) (b : Bytes) (certOk signatureOk : Bool), s.dev.par.run = .recovery →
    s.dev.upd.tftp = some x → x.waiting = false → x.server.isSome = true → n + 1 = x.nextBlock →
    ∃ t, exec (.tftpBlock n b certOk signatureOk) s = .next t ∧ emits s.dev t.dev (.tftpAck n) ∧ t.dev.upd.tftp = some x) ∧
  (∀ (s : State) (x : Tftp) (srv : Nat), s.dev.par.run = .recovery → s.dev.upd.tftp = some x → x.waiting = true →
    x.server = some srv →
    ∃ t, exec .tftpRetryTimer s = .next t ∧ emits s.dev t.dev (.tftpRequest srv x.file 1468) ∧
      ∃ y, t.dev.upd.tftp = some y ∧ y.waiting = false ∧ y.nextBlock = 1 ∧ y.received = []) ∧
  (∀ (s : State) (x : Tftp) (addr : Nat) (srv : Option Nat) (file : Option Bytes),
    (s.dev.par.run = .recovery ∧ s.dev.upd.tftp = some x) ∨ (s.dev.par.run = .running ∧ s.dev.mgmt.vaneUp = true ∧
      s.dev.mgmt.linkUp = true ∧ s.dev.pflag P.mgmtAddrMode = true ∧ s.dev.pow.rung ≠ .glaze) →
    ∃ t, exec (.dhcpReply addr srv file) s = .next t ∧ t.dev.mgmt.address = some addr)

/-! ## Cartridge operations, policy, the ring (09_cartridges, 05_queueing_completion, 04_data_model) -/

/-- The ops of `CART_EVACUATE` and `CART_RELEASE` on a block that they admit: evacuation begins, is reported, is cancelled; a release
begins; a missing cartridge is forgotten; a foreign one is reclaimed; the lost marks of a serial are cleared. -/
def Obligations.CartridgeOpsTakeEffect : Prop :=
  (∀ (s : State) (seq : Nat) (c : Cap), ready s.dev seq Op.cartEvacuate c → c.value.field 1 1 = 1 →
    s.dev.cartCheck c (· == .inService) = none → (s.dev.maintCell .evac).1 = .r → s.dev.bayBusy (blockBay c.value) = false →
    s.dev.fill (blockBay c.value) ≤ ((s.dev.otherBays (blockBay c.value)).map s.dev.unchargedOn).sum →
    ∃ t, exec (.evacuateStart seq) s = .next t ∧ ((t.dev.bays.get (blockBay c.value)).state = .evacuating ∨
      (t.dev.bays.get (blockBay c.value)).state = .evacuated) ∧ ∃ b, answered s.dev t.dev c Status.ok 0 b) ∧
  (∀ (s : State) (seq : Nat) (c : Cap), ready s.dev seq Op.cartEvacuate c → c.value.field 1 1 = 2 →
    s.dev.cartCheck c (fun _ => true) = none →
    ∃ t, exec (.evacuateStatus seq) s = .next t ∧ answered s.dev t.dev c Status.ok 0 (s.dev.cartReply (blockBay c.value))) ∧
  (∀ (s : State) (seq : Nat) (c : Cap), ready s.dev seq Op.cartEvacuate c → c.value.field 1 1 = 3 →
    s.dev.cartCheck c (· == .evacuating) = none →
    ∃ t, exec (.evacuateCancel seq) s = .next t ∧ (t.dev.bays.get (blockBay c.value)).state = .inService ∧
      ∃ b, answered s.dev t.dev c Status.ok 0 b) ∧
  (∀ (s : State) (seq : Nat) (c : Cap), ready s.dev seq Op.cartRelease c → c.value.field 1 1 = 1 →
    s.dev.cartCheck c (s.dev.releasable (blockBay c.value)) = none → (s.dev.maintCell .evac).1 = .r →
    ∃ t, exec (.cartRelease seq) s = .next t ∧ (t.dev.bays.get (blockBay c.value)).state = .releasing ∧
      (t.dev.bays.get (blockBay c.value)).opWaiting = some seq) ∧
  (∀ (s : State) (seq : Nat) (c : Cap), ready s.dev seq Op.cartRelease c → c.value.field 1 1 = 2 →
    s.dev.cartCheck c (fun x => x == .missing || x == .failed) = none → s.dev.forgetHands (blockBay c.value) = [] →
    (s.dev.leastFull none).isSome = true ∨ s.dev.bucketsOn (blockBay c.value) = [] →
    ∃ t, exec (.cartForget seq) s = .next t ∧ (t.dev.bays.get (blockBay c.value)).bound = none ∧
      ∃ b, answered s.dev t.dev c Status.ok 0 b) ∧
  (∀ (s : State) (seq : Nat) (c : Cap), ready s.dev seq Op.cartRelease c → c.value.field 1 1 = 3 →
    s.dev.cartCheck c (· == .foreign) = none → (s.dev.maintCell .evac).1 = .r →
    ∃ t, exec (.cartReclaim seq) s = .next t ∧ (t.dev.bays.get (blockBay c.value)).state = .attaching ∧
      (t.dev.bays.get (blockBay c.value)).reclaiming = (s.dev.bays.get (blockBay c.value)).guest.map (·.cart.serial) ∧ (t.dev.bays.get (blockBay c.value)).opWaiting = some seq) ∧
  (∀ (s : State) (seq : Nat) (c : Cap), ready s.dev seq Op.cartRelease c → c.value.field 1 1 = 4 → c.value.length = 32 →
    c.value.zeroAt 2 6 = true → c.value.zeroAt 0x18 8 = true →
    ∃ t, exec (.clearLost seq) s = .next t ∧ (∀ b ∈ t.dev.idx.buckets, blockSerial c.value ∉ b.lostHome) ∧
      ∃ b, answered s.dev t.dev c Status.ok 0 b)

/-- The seven ops of `DIAG` on a block that they admit: a mask is armed and disarmed, a line is written and read through its code, read
raw, and Gale is read and searched; each answers with its outcome. -/
def Obligations.DiagnosticOpsTakeEffect : Prop :=
  (∀ (s : State) (seq : Nat) (c : Cap), ready s.dev seq Op.diag c → diagCheck c = none → c.dOp = 1 →
    ∃ t, exec (.flipArm seq) s = .next t ∧ t.dev.mem.mask c.dTarget = some ⟨c.dAddr, (c.value.drop 0x10).take (cellBytes c.dTarget),
      (c.value.drop 0x50).take (checkLen c.dTarget)⟩ ∧
      answered s.dev t.dev c Status.ok 0 (diagReply 1 0 0xFF c.dChannel 0 [] [])) ∧
  (∀ (s : State) (seq : Nat) (c : Cap), ready s.dev seq Op.diag c → diagCheck c = none → c.dOp = 2 →
    ∃ t, exec (.flipDisarm seq) s = .next t ∧ t.dev.mem.mask c.dTarget = none ∧
      answered s.dev t.dev c Status.ok 0 (diagReply 2 0 0xFF c.dChannel 0 [] [])) ∧
  (∀ (s : State) (seq : Nat) (c : Cap), ready s.dev seq Op.diag c → diagCheck c = none → c.dOp = 3 →
    ∃ t, exec (.lineWrite seq) s = .next t ∧
      (∃ x ∈ t.dev.mem.diag, x.target = c.dTarget ∧ x.address = c.dAddr ∧
        x.data = (c.value.drop 0x60).take (cellBytes c.dTarget)) ∧
      answered s.dev t.dev c Status.ok 0 (diagReply 3 0 0xFF c.dChannel 0 [] [])) ∧
  (∀ (s : State) (seq : Nat) (c : Cap), ready s.dev seq Op.diag c → diagCheck c = none → c.dOp = 4 →
    ∃ t, exec (.lineRead seq) s = .next t ∧ answered s.dev t.dev c Status.ok 0
      (diagReply 4 (s.dev.cell c.dTarget c.dAddr).decode.outcome (s.dev.cell c.dTarget c.dAddr).decode.locus c.dChannel 0
        (s.dev.cell c.dTarget c.dAddr).decode.data [])) ∧
  (∀ (s : State) (seq : Nat) (c : Cap), ready s.dev seq Op.diag c → diagCheck c = none → c.dOp = 5 →
    ∃ t, exec (.rawRead seq) s = .next t ∧ answered s.dev t.dev c Status.ok 0
      (diagReply 5 0 0xFF c.dChannel 0 (s.dev.cell c.dTarget c.dAddr).rawData (s.dev.cell c.dTarget c.dAddr).rawCheck)) ∧
  (∀ (s : State) (seq : Nat) (c : Cap) (r : GRow), ready s.dev seq Op.diag c → diagCheck c = none → c.dOp = 6 →
    s.dev.gale.rows.find? (fun r => r.addr == c.dAddr) = some r →
    ∃ t, exec (.galeRead seq) s = .next t ∧ answered s.dev t.dev c Status.ok 0
      (diagReply 6 0 0xFF 0 c.dAddr (natToBytesBE 9 r.data.toNat ++ natToBytesBE 1 (4 * r.valid.toNat + r.parity.toNat)) [])) ∧
  (∀ (s : State) (seq : Nat) (c : Cap), ready s.dev seq Op.diag c → diagCheck c = none → c.dOp = 7 →
    ∃ t, exec (.galeSearch seq) s = .next t ∧ t.dev.gale.masks.get 15 = BitVec.ofNat 144 (c.value.field 0x22 18) ∧
      ∃ ms : List Nat, ms = (s.dev.gale.loadMask 15 (BitVec.ofNat 144 (c.value.field 0x22 18))).matches_ (tableNum c.dTarget) c.dAddr
        (BitVec.ofNat 144 (c.value.field 0x10 18)) (BitVec.ofNat 144 (c.value.field 0x22 18)) ∧
      answered s.dev t.dev c Status.ok 0 (diagReply 7 ((!ms.isEmpty).toNat + 2 * (decide (1 < ms.length)).toNat +
        4 * ((s.dev.gale.partakes (tableNum c.dTarget) c.dAddr).any GRow.perr).toNat) 0xFF 0 (ms.headD 0) [] []))

/-! ## Security and life cycle (14_security_lifecycle_sanitise) -/

/-- `ATTEST` on a block that R380 admits: the identity chain and the measurements are answered; keys are staged, activated, deleted,
listed; the authorities are replaced and the management connections closed; an unused staged key is lost. -/
def Obligations.AttestOpsTakeEffect : Prop :=
  (∀ (s : State) (seq : Nat) (c : Cap), ready s.dev seq Op.attest c → s.dev.attestCheck c = none → c.aOp = 1 →
    ∃ t, exec (.chain seq) s = .next t ∧ answered s.dev t.dev c Status.ok 0 Config.identityChain) ∧
  (∀ (s : State) (seq : Nat) (c : Cap), ready s.dev seq Op.attest c → s.dev.attestCheck c = none → c.aOp = 2 →
    ∃ t, exec (.measure seq) s = .next t ∧ ∃ sig : BitVec 3072, answered s.dev t.dev c Status.ok 0
      (s.dev.reportHead ((c.value.drop 8).take 32) ++ natToBytesBE 384 sig.toNat)) ∧
  (∀ (s : State) (seq : Nat) (c : Cap) (x : Cred), ready s.dev seq Op.attest c → s.dev.attestCheck c = none → c.aOp = 3 →
    c.aCred ≠ 0 → c.aCred ≠ provisioningId → s.dev.cred? c.aCred = some x → (c.aFlag = true → x.operator = true) →
    ∃ t, exec (.credStage seq) s = .next t ∧ (∃ y ∈ t.dev.sec.creds, y.id = c.aCred ∧ y.operator = x.operator ∧ y.active = x.active ∧
      y.staged = some (BitVec.ofNat 256 (c.aPayload.field 0 32)) ∧ y.stagedAt = s.dev.clk.tick) ∧
      answered s.dev t.dev c Status.ok 0 []) ∧
  (∀ (s : State) (seq : Nat) (c : Cap) (x : Cred) (k : BitVec 256), ready s.dev seq Op.attest c → s.dev.attestCheck c = none →
    c.aOp = 4 → s.dev.cred? c.aCred = some x → x.staged = some k →
    ∃ t, exec (.credActivate seq) s = .next t ∧ (∃ y ∈ t.dev.sec.creds, y.id = c.aCred ∧ y.active = some k ∧ y.staged = none ∧
      y.activated = s.dev.clk.ns) ∧ answered s.dev t.dev c Status.ok 0 []) ∧
  (∀ (s : State) (seq : Nat) (c : Cap) (x : Cred), ready s.dev seq Op.attest c → s.dev.attestCheck c = none → c.aOp = 5 →
    s.dev.cred? c.aCred = some x → (x.operator = true → (s.dev.sec.creds.filter (·.operator)).length ≠ 1) →
    ∃ t, exec (.credDelete seq) s = .next t ∧ (∀ y ∈ t.dev.sec.creds, y.id ≠ c.aCred) ∧
      (∀ y ∈ t.dev.net.sessions, y.tenant ≠ c.aCred) ∧ answered s.dev t.dev c Status.ok 0 []) ∧
  (∀ (s : State) (seq : Nat) (c : Cap), ready s.dev seq Op.attest c → s.dev.attestCheck c = none → c.aOp = 6 →
    ∃ t, exec (.credList seq) s = .next t ∧ answered s.dev t.dev c Status.ok 0
      ((s.dev.sec.creds.foldl (fun (l : List Cred) (x : Cred) => insCred x l) []).flatMap Cred.bytes)) ∧
  (∀ (s : State) (seq : Nat) (c : Cap), ready s.dev seq Op.attest c → s.dev.attestCheck c = none → c.aOp = 7 →
    c.aPayload.drop 4 ≠ [] → (c.aPayload.drop 4).length ≤ 16384 →
    ∃ t, exec (.authoritySet seq) s = .next t ∧ t.dev.sec.authorities = c.aPayload.drop 4 ∧ t.dev.mgmt.conns = [] ∧
      answered s.dev t.dev c Status.ok 0 []) ∧
  (∀ (s : State) (id : BitVec 32) (x : Cred), s.dev.cred? id = some x → x.staged.isSome = true →
    ∃ t, exec (.stagedCredExpiry id) s = .next t ∧ ∀ y ∈ t.dev.sec.creds, y.id = id → y.staged = none)

/-- The four life-cycle transitions: step 1 of R388 passes and the matrix admits them, and while Drift drains the transition is under
way, with the capsule that asked for it. On a drained drive `PROVISION` ends PROVISIONED with the operator credential it carries,
`TAKE_OWNERSHIP` OWNED with a media root key, `DECOMMISSION` DECOMMISSIONED, or RETIRED where it is final, without the root key, any
credential or namespace, and `RETIRE` RETIRED; each is answered `OK`. -/
def Obligations.LifeCycleTransitionsBegin : Prop :=
  (∀ (s : State) (seq : Nat) (c : Cap), ready s.dev seq Op.attest c → s.dev.attestCheck c = none → c.aOp = 8 →
    s.dev.lcStep1 c = none → ((s.dev.maintCell .lc).1 = .r ∨ (s.dev.maintCell .lc).1 = .q) → s.dev.par.pendingReset = none →
    s.dev.pow.failing = none → s.dev.driftOut = false →
    ∃ t, exec (.provision seq) s = .next t ∧ t.dev.sec.run = some ⟨seq, 8, c.aFlag, c.aPayload, c.tenant⟩) ∧
  (∀ (s : State) (seq : Nat) (c : Cap), ready s.dev seq Op.attest c → s.dev.attestCheck c = none → c.aOp = 9 →
    s.dev.lcStep1 c = none → ((s.dev.maintCell .lc).1 = .r ∨ (s.dev.maintCell .lc).1 = .q) → s.dev.par.pendingReset = none →
    s.dev.pow.failing = none → s.dev.driftOut = false →
    ∃ t, exec (.takeOwnership seq) s = .next t ∧ t.dev.sec.run = some ⟨seq, 9, c.aFlag, c.aPayload, c.tenant⟩) ∧
  (∀ (s : State) (seq : Nat) (c : Cap), ready s.dev seq Op.attest c → s.dev.attestCheck c = none → c.aOp = 10 →
    s.dev.lcStep1 c = none → s.dev.quiesces = false → ((s.dev.maintCell .lc).1 = .r ∨ (s.dev.maintCell .lc).1 = .q) →
    s.dev.par.pendingReset = none → s.dev.pow.failing = none → s.dev.driftOut = false →
    ∃ t, exec (.decommission seq) s = .next t ∧ t.dev.sec.run = some ⟨seq, 10, c.aFlag, c.aPayload, c.tenant⟩) ∧
  (∀ (s : State) (seq : Nat) (c : Cap), ready s.dev seq Op.attest c → s.dev.attestCheck c = none → c.aOp = 11 →
    s.dev.lcStep1 c = none → ((s.dev.maintCell .lc).1 = .r ∨ (s.dev.maintCell .lc).1 = .q) → s.dev.par.pendingReset = none →
    s.dev.pow.failing = none → s.dev.driftOut = false →
    ∃ t, exec (.retire seq) s = .next t ∧ t.dev.sec.run = some ⟨seq, 11, c.aFlag, c.aPayload, c.tenant⟩) ∧
  (∀ (s : State) (seq : Nat) (c : Cap), transits s.dev seq 8 c →
    ∃ t, exec (.provision seq) s = .next t ∧ transited s.dev t.dev c 2 [] ∧
      ∃ y ∈ t.dev.sec.creds, y.id = BitVec.ofNat 32 (c.aPayload.field 0 4) ∧ y.operator = true ∧
        y.active = some (BitVec.ofNat 256 (c.aPayload.field 8 32))) ∧
  (∀ (s : State) (seq : Nat) (c : Cap), transits s.dev seq 9 c →
    ∃ t, exec (.takeOwnership seq) s = .next t ∧ transited s.dev t.dev c 3 (zeroBytes 64) ∧ t.dev.sec.mrk.isSome = true) ∧
  (∀ (s : State) (seq : Nat) (c : Cap), transits s.dev seq 10 c → s.dev.quiesces = false →
    s.dev.sec.sanitise.any SanRec.open_ = false → s.dev.sec.lcState = .owned →
    ∃ t, exec (.decommission seq) s = .next t ∧ transited s.dev t.dev c (if c.aFlag then 0x84 else 4) [] ∧ t.dev.sec.mrk = none ∧
      t.dev.sec.creds = [] ∧ t.dev.ns = []) ∧
  (∀ (s : State) (seq : Nat) (c : Cap), transits s.dev seq 11 c →
    ∃ t, exec (.retire seq) s = .next t ∧ transited s.dev t.dev c 0x84 [])

/-! ## The mirror pair (11_mirror_pair) -/

/-- The ops of `MIRROR_CTL` on a block that R289 admits, in the state each needs: pair and unpair, join and unjoin, mode, handover,
promotion by the witness and by force, status, the witness key; a handover the witness does not answer ends. -/
def Obligations.MirrorControlTakesEffect : Prop :=
  (∀ (s : State) (seq : Nat) (c : Cap), ready s.dev seq Op.mirrorCtl c → mirrorBlock c = none → c.mOp = 1 →
    s.dev.mir.state = .unpaired → c.value.field 0x18 8 ≠ 0 →
    ∃ t, exec (.pair seq) s = .next t ∧ t.dev.mir.state = .connecting ∧
      t.dev.mir.partnerSerial = BitVec.ofNat 128 (c.value.field 8 16) ∧ t.dev.mir.pairId = BitVec.ofNat 64 (c.value.field 0x18 8)) ∧
  (∀ (s : State) (seq : Nat) (c : Cap), ready s.dev seq Op.mirrorCtl c → mirrorBlock c = none → c.mOp = 2 →
    s.dev.mir.state ≠ .unpaired → s.dev.mir.nss = [] →
    ∃ t, exec (.unpair seq) s = .next t ∧ t.dev.mir.state = .unpaired ∧ t.dev.mir.pairId = 0 ∧ t.dev.mir.leaseUntil = none) ∧
  (∀ (s : State) (seq : Nat) (c : Cap), ready s.dev seq Op.mirrorCtl c → mirrorBlock c = none → c.mOp = 3 →
    s.dev.linked = true → s.dev.mirror? c.hdr.ns = none → (s.dev.nsOf c.hdr.ns).isSome = true →
    ∃ t, exec (.join seq true) s = .next t ∧ ∃ m ∈ t.dev.mir.nss, m.ns = c.hdr.ns ∧ m.lead = true ∧ m.st = .joining ∧
      m.sync = c.mBit 0 ∧ m.lossy = c.mBit 1) ∧
  (∀ (s : State) (seq : Nat) (c : Cap) (m : MirrorNs), ready s.dev seq Op.mirrorCtl c → mirrorBlock c = none → c.mOp = 4 →
    s.dev.mirror? c.hdr.ns = some m → m.lead = true → s.dev.handoverHolds m.ns = false →
    ∃ t, exec (.unjoin seq) s = .next t ∧ ∀ x ∈ t.dev.mir.nss, x.ns ≠ c.hdr.ns) ∧
  (∀ (s : State) (seq : Nat) (c : Cap) (m : MirrorNs), ready s.dev seq Op.mirrorCtl c → mirrorBlock c = none → c.mOp = 5 →
    s.dev.mirror? c.hdr.ns = some m → m.lead = true → (m.st = .inSync ∨ m.st = .resync) →
    ∃ t, exec (.setMode seq) s = .next t ∧ t.dev.mirror? c.hdr.ns =
      some { m with sync := c.mBit 0, lossy := c.mBit 1 && !c.mBit 0 }) ∧
  (∀ (s : State) (seq : Nat) (c : Cap) (ns : List (BitVec 12)), ready s.dev seq Op.mirrorCtl c → mirrorBlock c = none →
    c.mOp = 6 → (c.mBit 2 = true ∨ s.dev.follows c.hdr.ns = false) → s.dev.handoverNs c = some ns →
    ∃ t, exec (.handover seq) s = .next t ∧
      (s.dev.handoverReady ⟨seq, ns, none⟩ = false → t.dev.mir.handover = some ⟨seq, ns, none⟩) ∧
      (s.dev.handoverReady ⟨seq, ns, none⟩ = true → s.dev.witnessed = true →
        t.dev.mir.handover = some ⟨seq, ns, some s.dev.clk.tick⟩) ∧
      (s.dev.handoverReady ⟨seq, ns, none⟩ = true → s.dev.witnessed = false → ∀ n ∈ ns, t.dev.follows n = true)) ∧
  (∀ (s : State) (seq : Nat) (c : Cap), ready s.dev seq Op.mirrorCtl c → mirrorBlock c = none → c.mOp = 7 → c.mBit 3 = false →
    s.dev.mayPromote c = true → s.dev.mir.promote = none → s.dev.witnessed = true →
    ∃ t, exec (.promote seq) s = .next t ∧ t.dev.mir.promote.isSome = true ∧
      ∃ q ∈ t.dev.mir.reqs, q.msg = .claim ∧ requested s.dev t.dev q) ∧
  (∀ (s : State) (seq : Nat) (c : Cap) (k : Nat), ready s.dev seq Op.mirrorCtl c → mirrorBlock c = none → c.mOp = 7 →
    c.mBit 3 = true → s.dev.mir.state = .peerLost → s.dev.mir.followsAny = true → s.dev.mir.lostSince = some k →
    k + 1000 * s.dev.pnum P.mirrorLeaseMs ≤ s.dev.clk.tick →
    ∃ t, exec (.promoteForce seq) s = .next t ∧ (∀ m ∈ t.dev.mir.nss, m.lead = true) ∧
      t.dev.mir.epoch = max s.dev.mir.epoch s.dev.mir.epochSeen + 1) ∧
  (∀ (s : State) (seq : Nat) (c : Cap), ready s.dev seq Op.mirrorCtl c → mirrorBlock c = none → c.mOp = 8 →
    ∃ t, exec (.mirrorStatus seq) s = .next t ∧ answered s.dev t.dev c Status.ok 0 (s.dev.mirrorReply c.hdr.ns)) ∧
  (∀ (s : State) (seq : Nat) (c : Cap), ready s.dev seq Op.mirrorCtl c → mirrorBlock c = none → c.mOp = 9 →
    ∃ t, exec (.witnessKey seq) s = .next t ∧ t.dev.mir.witnessKey = some (BitVec.ofNat 3072 (c.value.field 0x40 384))) ∧
  (∀ (s : State) (h : HandoverRun) (k : Nat), s.dev.mir.handover = some h → h.witnessSince = some k →
    ∃ t, exec .handoverWitnessTimeout s = .next t ∧ t.dev.mir.handover = none)

/-- The witness and the lease: RENEW is sent when the lease is due, a lapsed lease fences, a wait for SOLO ends, a claim is sent, requests
are repeated; a granted renewal extends the lease and ends the fence; a refusal ends its request. -/
def Obligations.WitnessDecides : Prop :=
  (∀ (s : State), s.dev.par.run = .running → s.dev.mir.state ≠ .unpaired → s.dev.witnessed = true → s.dev.par.committed = [] →
    ∃ t, exec .leaseRenewTimer s = .next t ∧ ∃ q ∈ t.dev.mir.reqs, q.msg = .renew ∧ requested s.dev t.dev q) ∧
  (∀ (s : State), s.dev.mir.state ≠ .unpaired → s.dev.mir.leaseUntil.isSome = true →
    ∃ t, exec .leaseExpiry s = .next t ∧ t.dev.mir.leaseUntil = none ∧ t.dev.mir.fenced = true ∧
      ∀ n m, t.dev.mirror? n = some m → m.lead = true → m.st = .fenced) ∧
  (∀ (s : State), s.dev.que.drift = [] →
    ∃ t, exec .soloWaitExpiry s = .next t ∧ (∀ m ∈ t.dev.mir.nss, m.lead = true → m.st = .waiting → m.waitSince = none) ∧
      ∀ n m, s.dev.mirror? n = some m → m.lead = true → m.st = .waiting → m.soloGranted = true →
        ∃ x, t.dev.mirror? n = some x ∧ x.st = .solo) ∧
  (∀ (s : State), s.dev.mir.state = .peerLost → s.dev.pflag P.mirrorAutoClaim = true → s.dev.witnessed = true →
    s.dev.mir.followsAny = true →
    ∃ t, exec .claimTimer s = .next t ∧ ∃ q ∈ t.dev.mir.reqs, q.msg = .claim ∧ requested s.dev t.dev q) ∧
  (∀ (s : State) (q : WitReq), q ∈ s.dev.mir.reqs →
    ∃ t, exec .witnessRetransmit s = .next t ∧ { q with tries := q.tries + 1 } ∈ t.dev.mir.reqs ∧
      asked s.dev t.dev q) ∧
  (∀ (s : State) (r : WitReply) (q : WitReq), s.dev.answered r = some q → q.msg = .renew →
    ∃ t, exec (.witnessGrant r) s = .next t ∧ t.dev.mir.leaseUntil = some (q.sentAt + 900 * r.leaseMs) ∧
      t.dev.mir.fenced = false ∧ t.dev.mir.epoch = r.epoch) ∧
  (∀ (s : State) (r : WitReply) (q : WitReq), s.dev.answered r = some q →
    ∃ t, exec (.witnessRefuse r) s = .next t ∧ (∀ x ∈ t.dev.mir.reqs, x.nonce ≠ q.nonce) ∧
      (q.msg = .claim → t.dev.mir.promote = none) ∧ (q.msg = .handover → t.dev.mir.handover = none))

/-- The frames of the pair: a good HELLO links it; ACK and HEARTBEAT are heard; the timers send a heartbeat, a HELLO again, and declare the
loss; a refusal by the partner is noted; a growing lag is reported once. -/
def Obligations.PairLinkIsKept : Prop :=
  (∀ (s : State) (h : CwHello), s.dev.par.run = .running → s.dev.peerUp = true → s.dev.mir.state ≠ .unpaired →
    s.dev.helloFails h = none →
    ∃ t, exec (.hello h) s = .next t ∧ t.dev.mir.state = .linked ∧ t.dev.mir.partnerNode = h.node) ∧
  (∀ (s : State), s.dev.mir.helloRetry = true → s.dev.peerUp = true → s.dev.mir.state ≠ .unpaired →
    ∃ t, exec .helloRetryTimer s = .next t ∧ t.dev.mir.helloRetry = false ∧
      ∃ b, emits s.dev t.dev (.cwHello s.dev.mir.epoch b)) ∧
  (∀ (s : State) (h : CwHdr), s.dev.linked = true → s.dev.cwNew h.psn = true → s.dev.mir.held = [] →
    ∃ t, exec (.cwAck h) s = .next t ∧ t.dev.mir.lastRx = s.dev.clk.tick ∧
      t.dev.mir.epochSeen = max s.dev.mir.epochSeen h.epoch ∧ t.dev.mir.peerCum = max s.dev.mir.peerCum h.cumAck) ∧
  (∀ (s : State) (h : CwHdr), s.dev.linked = true → s.dev.cwNew h.psn = true → s.dev.mir.held = [] →
    ∃ t, exec (.heartbeat h) s = .next t ∧ t.dev.mir.lastRx = s.dev.clk.tick ∧
      t.dev.mir.hbPeer = max s.dev.mir.hbPeer h.hbSeq) ∧
  (∀ (s : State), s.dev.mir.state ≠ .unpaired → s.dev.peerUp = true →
    ∃ t, exec .cwClose s = .next t ∧ t.dev.mir.helloRetry = true ∧ (s.dev.linked = true → t.dev.mir.state = .peerLost)) ∧
  (∀ (s : State), s.dev.linked = true →
    ∃ t, exec .heartbeatTimer s = .next t ∧ t.dev.mir.hbSeq = s.dev.mir.hbSeq + 1 ∧
      emits s.dev t.dev (.cwHeartbeat (s.dev.mir.hbSeq + 1) s.dev.mir.hbPeer s.dev.committedOut)) ∧
  (∀ (s : State), s.dev.linked = true →
    ∃ t, exec .peerLossTimeout s = .next t ∧ t.dev.mir.state = .peerLost ∧ t.dev.mir.lostSince = some s.dev.clk.tick) ∧
  (∀ (s : State) (n : BitVec 12) (m : MirrorNs) (r : RepRec) (rest : List RepRec), s.dev.mirror? n = some m → m.lead = true →
    m.sync = false → m.unapplied = r :: rest → settled s.dev → s.dev.ev.ring.length < 65000 →
    ∃ t, exec (.asyncLagWarn n) s = .next t ∧ (∃ x ∈ t.dev.mir.nss, x.ns = n ∧ x.lagWarned = true) ∧
      (m.lagWarned = false → s.dev.level Ev.asyncLag.src ≤ Ev.asyncLag.sev → logged s.dev t.dev Ev.asyncLag) ∧
      (m.lagWarned = true → t.dev.ev = s.dev.ev))

/-- Replicated writers on the follower: a VALUE, a PATCH, a DELETE, a SECURE_DELETE and an MP_COMMIT record newer than their key's state
enter Drift under the lead's version with the content that they leave; a LOST record puts its key in the lost state. -/
def Obligations.RecordsAreApplied : Prop :=
  (∀ (s : State) (h : CwHdr) (r : CwRec) (m : MirrorNs) (n : Namespace) (k : KState), follower s.dev h r.ns m n → newer s.dev h .value r n k →
    placed (recordAt s.dev h .value r) r n k Op.put ⟨some r.data, chunkChecks r.data, [], segsOf (chunkCount r.data.length), 0⟩ false none →
    ∃ t, exec (.valueRecord h r) s = .next t ∧ buffers t.dev r (some r.data)) ∧
  (∀ (s : State) (h : CwHdr) (r : CwRec) (m : MirrorNs) (n : Namespace) (v l g : Nat) (cp : Copy), follower s.dev h r.ns m n →
    newer s.dev h .patch r n (.present v l g) →
    (recordAt s.dev h .patch r).baseCopy n.id (keyHash n.salt r.key) r.key r.version = some cp →
    (recordAt s.dev h .patch r).baseBytes n.id (keyHash n.salt r.key) r.key r.version = (cp.bytes, [], []) →
    placed (recordAt s.dev h .patch r) r n (.present v l g) Op.patch ⟨some (patchBytes cp.bytes r.offset r.data),
      (recordAt s.dev h .patch r).patchChecks r.ns (keyHash n.salt r.key) r.key r.version r.offset r.data.length (patchBytes cp.bytes r.offset r.data),
      stillBad r.offset r.data.length [], patchSegs cp.runs r.offset r.data.length
        (chunkCount (patchBytes cp.bytes r.offset r.data).length), patchUnits r.offset r.data.length⟩ false none →
    ∃ t, exec (.patchRecord h r) s = .next t ∧ buffers t.dev r (some (patchBytes cp.bytes r.offset r.data))) ∧
  (∀ (s : State) (h : CwHdr) (r : CwRec) (m : MirrorNs) (n : Namespace) (k : KState), follower s.dev h r.ns m n → newer s.dev h .delete r n k →
    k ≠ .absent → placed (recordAt s.dev h .delete r) r n k Op.delete ⟨none, [], [], [], 0⟩ false none →
    ∃ t, exec (.deleteRecord h r) s = .next t ∧ buffers t.dev r none) ∧
  (∀ (s : State) (h : CwHdr) (r : CwRec) (m : MirrorNs) (n : Namespace) (k : KState), follower s.dev h r.ns m n → newer s.dev h .secureDelete r n k →
    k ≠ .absent → placed (recordAt s.dev h .secureDelete r) r n k Op.delete ⟨none, [], [], [], 0⟩ true none →
    ∃ t, exec (.secureDeleteRecord h r) s = .next t ∧ buffers t.dev r none) ∧
  (∀ (s : State) (h : CwHdr) (r : CwRec) (m : MirrorNs) (n : Namespace) (k : KState) (u : Upload) (ws : List (Nat × Part)),
    follower s.dev h r.ns m n → newer s.dev h .mpCommit r n k → (recordAt s.dev h .mpCommit r).recUpload r = some u →
    winners u.parts (List.range (chunkCount r.valueLength)) = some ws → (recordAt s.dev h .mpCommit r).partsAbsent u = false →
    placed (recordAt s.dev h .mpCommit r) r n k Op.mpCommit ⟨some (commitBytes r.valueLength ws), commitChecks (commitBytes r.valueLength ws) ws, [],
      (recordAt s.dev h .mpCommit r).commitSegs (partRuns ws), 0⟩ false (some u.id) →
    ∃ t, exec (.mpCommitRecord h r) s = .next t ∧ buffers t.dev r (some (commitBytes r.valueLength ws))) ∧
  (∀ (s : State) (h : CwHdr) (r : CwRec) (m : MirrorNs) (n : Namespace) (k : KState), follower s.dev h r.ns m n → newer s.dev h .lost r n k →
    s.dev.driftBelow r.ns (keyHash n.salt r.key) (2 ^ 64) = none →
    ∃ t, exec (.lostRecord h r) s = .next t ∧
      ∃ x ∈ t.dev.idx.log, x.kind = .lost ∧ x.ns = r.ns ∧ x.key = r.key ∧ x.version = r.version)

/-- Replicated uploads on the follower: an upload is opened, a part is stored in it, it is cancelled.
Partner reads: a read at exactly a version that this drive holds is answered with the bytes asked for; the partner's answer to a
forwarded `GET` is the reply of the capsule. -/
def Obligations.UploadRecordsAndPartnerReads : Prop :=
  (∀ (s : State) (h : CwHdr) (r : CwRec) (m : MirrorNs) (n : Namespace), follower s.dev h r.ns m n → s.dev.recUpload r = none →
    (recordAt s.dev h .mpBegin r).applyStatus r.ns (keyHash n.salt r.key) = none →
    s.dev.binds n (keyHash n.salt r.key) r.key.length (uploadReserve r.valueLength) 0 false = .none →
    ∃ t, exec (.mpBeginRecord h r) s = .next t ∧
      ∃ u ∈ t.dev.idx.uploads, u.id = r.uploadId ∧ u.ns = r.ns ∧ u.key = r.key ∧ u.declared = r.valueLength) ∧
  (∀ (s : State) (h : CwHdr) (r : CwRec) (m : MirrorNs) (n : Namespace) (u : Upload), follower s.dev h r.ns m n →
    s.dev.recUpload r = some u → (recordAt s.dev h .mpPart r).applyStatus r.ns (keyHash n.salt r.key) = none →
    u.parts.any (·.seq == r.version) = false → s.dev.numberTaken r.version = false →
    ((recordAt s.dev h .mpPart r).placePart u r.version r.offset r.data (chunkChecks r.data)).isLeft = true →
    ∃ t, exec (.mpPartRecord h r) s = .next t ∧ ∃ x ∈ t.dev.idx.uploads, x.id = u.id ∧
      ∃ p ∈ x.parts, p.seq = r.version ∧ p.offset = r.offset ∧ p.bytes = r.data) ∧
  (∀ (s : State) (h : CwHdr) (r : CwRec) (m : MirrorNs) (n : Namespace), follower s.dev h r.ns m n →
    (recordAt s.dev h .mpCancel r).applyStatus r.ns (keyHash n.salt r.key) = none → (s.dev.recUpload r).isSome = true →
    ∃ t, exec (.mpCancelRecord h r) s = .next t ∧ ∀ u ∈ t.dev.idx.uploads, u.id ≠ r.uploadId) ∧
  (∀ (s : State) (h : CwHdr) (id : Nat) (n : BitVec 12) (key : Bytes) (offset len v : Nat) (b : Bytes), inTurn s.dev h → s.dev.contentAt n (s.dev.hashOf n key) v = some b → offset + len ≤ b.length →
    ∃ t, exec (.partnerRead h id n Op.get key offset len (some v)) s = .next t ∧
      emits s.dev t.dev (.cwReadReply id Status.ok v ((b.drop offset).take (if len = 0 then b.length - offset else len)))) ∧
  (∀ (s : State) (h : CwHdr) (p : PartnerRead) (c : Cap) (v : Nat) (data : Bytes), inTurn s.dev h →
    s.dev.mir.reads.find? (·.id == p.id) = some p → p.version = none → s.dev.capBySeq p.seq = some c → c.hdr.opcode = Op.get →
    c.partner = none → (s.dev.session? c.sid).isSome = true →
    ∃ t, exec (.partnerReadReply h p.id Status.ok v data) s = .next t ∧ answered s.dev t.dev c Status.ok v data)

/-- Reconciliation and the lead's records: a bucket's list goes out, the follower answers a list with what it wants, the lead takes a
list off its queue when it is answered, APPLIED moves the watermark, and a role record makes this drive the lead of the namespaces handed over, sets the mode of those that it
follows, and makes others ordinary. -/
def Obligations.ReconciliationAdvances : Prop :=
  (∀ (s : State) (n : BitVec 12) (lo : BitVec 64) (m : MirrorNs) (b : Bucket), s.dev.linked = true → s.dev.par.run = .running →
    (s.dev.maintCell .rsync).1 = .r → s.dev.mirror? n = some m → m.lead = true → m.st ≠ .fenced →
    s.dev.idx.buckets.find? (fun b => b.ns == n && b.lo == lo.toNat) = some b → s.dev.homeAbsent b = false → b.pageLost = false →
    b.dirty = true → b.lostHome = [] → m.listing.contains b.lo = false →
    ∃ t, exec (.resyncBucket n lo) s = .next t ∧ (∃ x ∈ t.dev.mir.nss, x.ns = n ∧ x.listing = m.listing ++ [b.lo]) ∧
      emits s.dev t.dev (.cwList n (s.dev.que.nextSeq - 1) b.lo b.hi (s.dev.keysIn n b.lo b.hi))) ∧
  (∀ (s : State) (h : CwHdr) (n : BitVec 12) (snapshot lo hi : Nat) (es : List (BitVec 128 × Nat)) (m : MirrorNs),
    inTurn s.dev h → s.dev.mirror? n = some m → m.lead = false → s.dev.que.drift = [] →
    ∃ t, exec (.listRecord h n snapshot lo hi es) s = .next t ∧ emits s.dev t.dev (.cwWant n ((es.filter (fun e =>
      decide (s.dev.keyVersion n e.1 ≤ snapshot) && s.dev.keyVersion n e.1 != e.2)).map (·.1)))) ∧
  (∀ (s : State) (h : CwHdr) (n : BitVec 12) (hs : List (BitVec 128)) (m : MirrorNs),
    inTurn s.dev h → s.dev.mirror? n = some m → m.lead = true →
    ∃ t, exec (.wantRecord h n hs) s = .next t ∧ ∃ x ∈ t.dev.mir.nss, x.ns = n ∧ x.listing = m.listing.drop 1) ∧
  (∀ (s : State) (h : CwHdr) (n : BitVec 12) (w : Nat) (vs : List Nat) (failed : Option (Nat × Nat)) (m : MirrorNs),
    inTurn s.dev h → s.dev.mirror? n = some m → m.lead = true → s.dev.mir.handover = none →
    ∃ t, exec (.appliedRecord h n w vs failed) s = .next t ∧ ∃ x ∈ t.dev.mir.nss, x.ns = n ∧ x.watermark = max m.watermark w) ∧
  (∀ (s : State) (h : CwHdr) (roles : List RoleEntry) (epoch : Nat), inTurn s.dev h → (roles.map (·.ns)).Nodup →
    ∃ t, exec (.roleRecord h roles epoch) s = .next t ∧
      (∀ e ∈ roles, e.role = .lead → t.dev.mir.epoch = epoch ∧ t.dev.follows e.ns = false) ∧
      (∀ (e : RoleEntry) (sync lossy : Bool) (m : MirrorNs), e ∈ roles → e.role = .follow sync lossy → s.dev.mirror? e.ns = some m →
        m.lead = false → t.dev.mirror? e.ns = some { m with sync := sync, lossy := lossy }) ∧
      (∀ (e : RoleEntry) (m : MirrorNs), e ∈ roles → e.role = .ordinary → s.dev.mirror? e.ns = some m → m.lead = false →
        t.dev.mirror? e.ns = none))

/-! ## Management: HTTPS, sideband, virrad (13_management_events) -/

/-- Redfish reads: on a connection of a drive that serves HTTPS each resource is answered 200 with its body; those that R433 leaves to every
connection need no certificate. The bodies' schema is not interpreted (log entry 3). -/
def Obligations.RedfishReadsAnswer : Prop :=
  ∀ (s : State) (c : Nat) (k : HttpConn), s.dev.mgmt.conns.find? (·.id == c) = some k → s.dev.httpsUp = true →
    (∃ t, exec (.redfishServiceRootGet c) s = .next t ∧ emits s.dev t.dev (.http c 200 (Config.redfishBody 1 []))) ∧
    (∃ t, exec (.chassisGet c) s = .next t ∧ emits s.dev t.dev (.http c 200 (Config.redfishBody 2 s.dev.chassisValues))) ∧
    (∃ t, exec (.managerGet c) s = .next t ∧ emits s.dev t.dev (.http c 200 (Config.redfishBody 9 s.dev.managerValues))) ∧
    (∀ skip top : Nat, top ≤ 1000 → ∃ t, exec (.barographEntriesGet c skip top) s = .next t ∧ emits s.dev t.dev
      (.http c 200 (Config.redfishBody 11 (bytesNat (((s.dev.barograph.drop skip).take top).flatMap Rec.encode))))) ∧
    (∀ skip top : Nat, top ≤ 1000 → ∃ t, exec (.vaneRingEntriesGet c skip top) s = .next t ∧ emits s.dev t.dev
      (.http c 200 (Config.redfishBody 12 (bytesNat (((s.dev.ev.vring.reverse.drop skip).take top).flatMap Rec.encode))))) ∧
    (s.dev.retired = true → ∃ t, exec (.retirementEntriesGet c) s = .next t ∧
      emits s.dev t.dev (.http c 200 (Config.redfishBody 13 (bytesNat s.dev.retirements)))) ∧
    (s.dev.retired = true → ∃ t, exec (.updateStatusEntriesGet c) s = .next t ∧
      emits s.dev t.dev (.http c 200 (Config.redfishBody 14 (bytesNat s.dev.updateEntries)))) ∧
    (k.authenticated = true →
      (∀ id : Nat, sensorExists id = true → ∃ t, exec (.sensorGet c id) s = .next t ∧
        emits s.dev t.dev (.http c 200 (Config.redfishBody 3 (s.dev.sensorValues id)))) ∧
      (∃ t, exec (.thermalSubsystemGet c) s = .next t ∧
        emits s.dev t.dev (.http c 200 (Config.redfishBody 4 s.dev.thermalValues))) ∧
      (∃ t, exec (.powerSubsystemGet c) s = .next t ∧
        emits s.dev t.dev (.http c 200 (Config.redfishBody 5 s.dev.powerValues))) ∧
      (∃ t, exec (.countersGet c) s = .next t ∧ emits s.dev t.dev (.http c 200 (Config.redfishBody 7 s.dev.counterValues))) ∧
      (∀ bay : BayNo, ∃ t, exec (.driveBayGet c bay) s = .next t ∧
        emits s.dev t.dev (.http c 200 (Config.redfishBody (16 + bay.val) (bytesNat (s.dev.wearEntry bay))))) ∧
      (∃ t, exec (.ethernetInterfaceGet c) s = .next t ∧
        emits s.dev t.dev (.http c 200 (Config.redfishBody 10 s.dev.ethernetValues))) ∧
      (∃ t, exec (.updateServiceGet c) s = .next t ∧ emits s.dev t.dev (.http c 200 (Config.redfishBody 15 [s.dev.upd.state]))))

/-- Redfish requests that act, on an authenticated connection, and the connections themselves: a connection opens; the link comes up and
goes down; the locate LED, the wake, the time, the addresses and the event stream are set; a pushed package that passes ends INSTALLED
and is answered 202, any other is answered by its status; a request of no resource is refused. -/
def Obligations.RedfishRequestsAct : Prop :=
  (∀ (s : State) (k : CertChain), s.dev.httpsUp = true → s.dev.mgmt.conns.length < 16 → k.tlsOk = true →
    (k.certOk = true ∨ s.dev.retired = true) →
    ∃ t, exec (.httpsConnect k) s = .next t ∧ t.dev.mgmt.conns = s.dev.mgmt.conns ++
      [⟨s.dev.mgmt.nextConn, k.certOk && !s.dev.retired, k.digest, none⟩]) ∧
  (∀ (s : State) (speed : Nat), s.dev.mgmt.vaneUp = true →
    (∃ t, exec (.mgmtLinkChange true speed) s = .next t ∧ t.dev.mgmt.linkUp = true ∧ t.dev.mgmt.linkSpeed = speed) ∧
    ∃ t, exec (.mgmtLinkChange false speed) s = .next t ∧ t.dev.mgmt.linkUp = false) ∧
  (∀ (s : State) (c : Nat) (k : HttpConn), s.dev.mgmt.conns.find? (·.id == c) = some k → s.dev.httpsUp = true →
    k.authenticated = true →
    (∀ on : Bool, ∃ t, exec (.chassisPatch c on) s = .next t ∧ t.dev.mgmt.locateLed = on ∧
      emits s.dev t.dev (.http c 200 (Config.redfishBody 2 [on.toNat]))) ∧
    (s.dev.par.run = .running → s.dev.pow.failing = none → s.dev.pow.pwrEn = true →
      (s.dev.pow.rung = .haze ∨ s.dev.pow.rung = .fog) →
      ∃ t, exec (.fiernPowerWake c) s = .next t ∧ t.dev.pow.rung = .clear ∧ emits s.dev t.dev (.http c 200 [])) ∧
    (∀ ns : Nat, s.dev.clk.source ≠ .ptpLocked → ∃ t, exec (.managerPatchDatetime c ns) s = .next t ∧
      (s.dev.clk.ns + 1000000000 < ns → t.dev.clk.ns = ns) ∧ emits s.dev t.dev (.http c 200 (Config.redfishBody 9 [ns]))) ∧
    (∀ l : List (Nat × Bytes), l.all (fun e => isAddress e.1 && entryOk e) = true →
      ∃ t, exec (.ethernetInterfacePatch c l) s = .next t ∧ emits s.dev t.dev (.http c 200 []) ∧
        ∀ e ∈ l, (e.1, e.2, 0) ∈ t.dev.par.committed) ∧
    (∀ (sev : Nat) (src : Option Nat), ∃ t, exec (.eventServiceSse c sev src) s = .next t ∧
      emits s.dev t.dev (.http c 200 []) ∧ ∃ x ∈ t.dev.mgmt.conns, x.id = c ∧ x.sse = some (sev, src)) ∧
    (∀ (pkg : Bytes) (certOk signatureOk : Bool), s.dev.par.run = .running →
      ∃ t, exec (.multipartHttpPush c pkg false certOk signatureOk) s = .next t ∧
        ((s.dev.push ⟨2, k.digest⟩ pkg false certOk signatureOk).1 = Status.ok →
          t.dev.upd.state = 3 ∧ emits s.dev t.dev (.http c 202 [])) ∧
        ((s.dev.push ⟨2, k.digest⟩ pkg false certOk signatureOk).1 ≠ Status.ok → ∃ b, emits s.dev t.dev
          (.http c (pushStatus (s.dev.push ⟨2, k.digest⟩ pkg false certOk signatureOk).1) b))) ∧
    (∀ r : BadRequest, ∃ t, exec (.redfishOtherRequest c r) s = .next t ∧ emits s.dev t.dev (.http c (badRequestStatus r) [])))

/-- MCTP and PLDM on the sideband (codes and completion codes: log entry 80): each request is answered, an endpoint ID and an event
receiver are kept, the effecters act, an accepted event leaves its queue. -/
def Obligations.SidebandRequestsAnswered : Prop :=
  (∀ (s : State), s.dev.mgmt.vaneUp = true →
    (∀ eid : BitVec 8, ∃ t, exec (.setEndpointId eid) s = .next t ∧ t.dev.mgmt.eid = eid.toNat ∧
      emits s.dev t.dev (.mctp 1 0 [eid])) ∧
    (∃ t, exec .getEndpointId s = .next t ∧ emits s.dev t.dev (.mctp 2 0 (natToBytesBE 1 s.dev.mgmt.eid))) ∧
    (∀ typ : BitVec 8, mctpTypes.contains typ = true → ∃ t, exec (.getMctpVersionSupport typ) s = .next t ∧
      emits s.dev t.dev (.mctp 4 0 (Config.dmtfResponse 4 typ.toNat))) ∧
    (∃ t, exec .getMessageTypeSupport s = .next t ∧ emits s.dev t.dev (.mctp 5 0 mctpTypes))) ∧
  (∀ (s : State), s.dev.mgmt.vaneUp = true → s.dev.par.run ≠ .recovery →
    (∃ t, exec .getTid s = .next t ∧ emits s.dev t.dev (.pldm 2 0 (Config.dmtfResponse 2 0))) ∧
    (∀ typ : BitVec 8, pldmTypes.contains typ = true → ∃ t, exec (.getPldmVersion typ) s = .next t ∧
      emits s.dev t.dev (.pldm 3 0 (Config.dmtfResponse 3 typ.toNat))) ∧
    (∃ t, exec .getPldmTypes s = .next t ∧ emits s.dev t.dev (.pldm 4 0 pldmTypes)) ∧
    (∀ (typ : BitVec 8) (l : Bytes), pldmCommands typ = some l → ∃ t, exec (.getPldmCommands typ) s = .next t ∧
      emits s.dev t.dev (.pldm 5 0 l)) ∧
    (∃ t, exec .getPdrRepositoryInfo s = .next t ∧ emits s.dev t.dev (.pldm 0x250 0 (natToBytesBE 4 pdrs.length))) ∧
    (∀ (n : Nat) (p : Pdr), pdrs[n]? = some p → ∃ t, exec (.getPdr (n + 1)) s = .next t ∧
      emits s.dev t.dev (.pldm 0x251 0 (s.dev.pdrBytes p))) ∧
    (∀ id : Nat, (sensorRange id).isSome = true → ∃ t, exec (.getSensorReading id) s = .next t ∧
      emits s.dev t.dev (.pldm 0x211 0 (natToBytesBE 1 (s.dev.sensor id).fail ++
        natToBytesBE 1 (s.dev.sensorLevel id (s.dev.sensor id).value) ++ natToBytesBE 4 (intValue (s.dev.sensor id).value)))) ∧
    (∀ id : Nat, isStateSensor id = true → ∃ t, exec (.getStateSensorReadings id) s = .next t ∧
      emits s.dev t.dev (.pldm 0x221 0 (natToBytesBE 1 (s.dev.stateSensor id)))) ∧
    (∃ t, exec .effecterWake s = .next t ∧ emits s.dev t.dev (.pldm 0x239 0 []) ∧
      (s.dev.par.run = .running → s.dev.pow.failing = none → s.dev.pow.pwrEn = true →
        (s.dev.pow.rung = .haze ∨ s.dev.pow.rung = .fog) → t.dev.pow.rung = .clear)) ∧
    (∀ on : Bool, ∃ t, exec (.effecterLocate on) s = .next t ∧ t.dev.mgmt.locateTimed = on ∧
      emits s.dev t.dev (.pldm 0x239 0 [])) ∧
    (∀ a : Nat, ∃ t, exec (.setEventReceiver a) s = .next t ∧ t.dev.mgmt.pldmReceiver = some a ∧
      emits s.dev t.dev (.pldm 0x204 0 [])) ∧
    (settled s.dev → ∃ t, exec .platformEventAccept s = .next t ∧ t.dev.mgmt.pldmQueue = s.dev.mgmt.pldmQueue.tail) ∧
    (∀ typ cmd : BitVec 8, ∃ t, exec (.pldmUnsupportedCommand typ cmd) s = .next t ∧
      emits s.dev t.dev (.pldm (256 * typ.toNat + cmd.toNat) pldmUnsupported []))) ∧
  (∀ (s : State), ∃ t, exec .locateExpiry s = .next t ∧ t.dev.mgmt.locateTimed = false)

/-- SPDM (codes: log entry 80) and virrad: each SPDM request that is served is answered with its response; the tool shows a namespace,
sets the time, wakes the drive and prints the counters of a port, a session, the index and Forecast. -/
def Obligations.SpdmAndToolAnswer : Prop :=
  ∀ (s : State), s.dev.mgmt.vaneUp = true → s.dev.par.run ≠ .recovery →
    (∃ t, exec .getVersion s = .next t ∧ emits s.dev t.dev (.spdm 0x04 (Config.dmtfResponse 0x84 0x12))) ∧
    (∃ t, exec .getCapabilities s = .next t ∧ emits s.dev t.dev (.spdm 0x61 (Config.dmtfResponse 0xE1 4096))) ∧
    (∃ t, exec .negotiateAlgorithms s = .next t ∧ emits s.dev t.dev (.spdm 0x63 (Config.dmtfResponse 0xE3 0))) ∧
    (∃ t, exec .getDigests s = .next t ∧ emits s.dev t.dev (.spdm 0x01 chainDigest)) ∧
    (∀ offset length : Nat, ∃ t, exec (.getCertificate offset length) s = .next t ∧
      (offset < Config.identityChain.length →
        emits s.dev t.dev (.spdm 0x02 ((Config.identityChain.drop offset).take length))) ∧
      (Config.identityChain.length ≤ offset → emits s.dev t.dev (.spdm spdmError [spdmInvalidRequest]))) ∧
    (∀ nonce : BitVec 256, ∃ t, exec (.challenge nonce) s = .next t ∧
      emits s.dev t.dev (.spdm 0x03 (s.dev.signed chainDigest nonce).1)) ∧
    (∀ (i : Nat) (nonce : BitVec 256) (b : Bytes), s.dev.measureBlocks i = some b →
      ∃ t, exec (.getMeasurements i nonce) s = .next t ∧ emits s.dev t.dev (.spdm 0x60 (s.dev.signed b nonce).1)) ∧
    (∀ code : BitVec 8, ∃ t, exec (.spdmUnsupportedRequest code) s = .next t ∧
      emits s.dev t.dev (.spdm spdmError [spdmUnsupported, code])) ∧
    (∀ (n : BitVec 12) (x : Namespace), s.dev.nsOf n = some x → ∃ t, exec (.virradNsShow n) s = .next t ∧
      emits s.dev t.dev (.virrad (bytesNat x.descriptor))) ∧
    (∀ ns : Nat, s.dev.clk.source ≠ .ptpLocked → ∃ t, exec (.virradTimeSet ns) s = .next t ∧
      (s.dev.clk.ns + 1000000000 < ns → t.dev.clk.ns = ns) ∧ emits s.dev t.dev (.virrad [200])) ∧
    (s.dev.par.run = .running → s.dev.pow.failing = none → s.dev.pow.pwrEn = true →
      (s.dev.pow.rung = .haze ∨ s.dev.pow.rung = .fog) →
      ∃ t, exec .virradPowerWake s = .next t ∧ t.dev.pow.rung = .clear) ∧
    (∀ p : Port, ∃ t, exec (.virradPortStats p) s = .next t ∧
      emits s.dev t.dev (.virrad (s.dev.counts (portCtrs.map (fun c => Ctr.port p c))))) ∧
    (∀ sid : BitVec 32, ∃ t, exec (.virradSessionStats sid) s = .next t ∧
      emits s.dev t.dev (.virrad (s.dev.counts (sessCtrs sid)))) ∧
    (∃ t, exec .virradIndexStats s = .next t ∧ emits s.dev t.dev (.virrad (s.dev.counts indexCtrs))) ∧
    (∃ t, exec .virradForecastStats s = .next t ∧ emits s.dev t.dev (.virrad (s.dev.counts forecastCtrs)))

/-! ## Frames: what a kind of command leaves unchanged -/

/-- Management, the sideband, the tool's prints and the session timers change no capsule, no stored data, no policy, Gale, media, bay,
memory, pair, power, security, update or ring state, and draw no free value; nor does a flush of the Barograph, but for the cartridges
and the medium that take it; `LINK_UP` changes nothing but the pair and the free values beyond the link, and those only where the link
of the pair comes up. -/
def Obligations.ManagementLeavesTheDriveAlone : Prop :=
  (∀ (i : Instr) (s t : State), isManagement i = true → exec i s = .next t →
    sameStore s.dev t.dev ∧ t.dev.que = s.dev.que ∧ t.dev.gale = s.dev.gale ∧ t.dev.mem = s.dev.mem ∧ t.dev.mir = s.dev.mir ∧
      t.dev.pow = s.dev.pow ∧ t.dev.upd = s.dev.upd ∧ t.dev.fresh = s.dev.fresh) ∧
  (∀ (i : Instr) (s t : State), isFlush i = true → exec i s = .next t →
    sameStore s.dev { t.dev with med := s.dev.med, bays := s.dev.bays } ∧ t.dev.que = s.dev.que ∧ t.dev.gale = s.dev.gale ∧
      t.dev.mem = s.dev.mem ∧ t.dev.mir = s.dev.mir ∧ t.dev.pow = s.dev.pow ∧ t.dev.upd = s.dev.upd ∧ t.dev.fresh = s.dev.fresh) ∧
  (∀ (l : Link) (us pmd : Nat) (s t : State), exec (.linkUp l us pmd) s = .next t →
    sameStore s.dev t.dev ∧ t.dev.que = s.dev.que ∧ t.dev.gale = s.dev.gale ∧ t.dev.mem = s.dev.mem ∧ t.dev.pow = s.dev.pow ∧
      t.dev.upd = s.dev.upd ∧ (l ≠ 2 → t.dev.mir = s.dev.mir ∧ t.dev.fresh = s.dev.fresh))

/-- Admin opcodes, the dispatch of writers, `POWER_CTL`, `DIAG` and the steps of an update leave stored data, policy, security and the
ring unchanged, and beside their own state: the first two also Gale, memory, power and updates, and but for `PAIR` an admin opcode draws
no free value; `POWER_CTL`, and a capacitor test that falls due in Clear, memory and updates, `DIAG` power and updates, an update Gale,
memory and power; an update changes the cartridges and the medium only where it enters a record in the history (R198). -/
def Obligations.AdminOpsLeaveStoredDataAlone : Prop :=
  (∀ (i : Instr) (s t : State), isAdminQuery i = true → exec i s = .next t →
    sameStore s.dev t.dev ∧ t.dev.gale = s.dev.gale ∧ t.dev.mem = s.dev.mem ∧ t.dev.pow = s.dev.pow ∧ t.dev.upd = s.dev.upd ∧
      ((∀ seq, i ≠ .pair seq) → t.dev.fresh = s.dev.fresh)) ∧
  (∀ (i : Instr) (s t : State), isWriterTurn i = true → exec i s = .next t →
    sameStore s.dev t.dev ∧ t.dev.gale = s.dev.gale ∧ t.dev.mem = s.dev.mem ∧ t.dev.mir = s.dev.mir ∧ t.dev.pow = s.dev.pow ∧
      t.dev.upd = s.dev.upd) ∧
  (∀ (i : Instr) (s t : State), (isPowerOp i = true ∨ (isTestDue i = true ∧ s.dev.pow.rung = .clear)) → exec i s = .next t →
    sameStore s.dev t.dev ∧ t.dev.mem = s.dev.mem ∧ t.dev.upd = s.dev.upd) ∧
  (∀ (i : Instr) (s t : State), isDiagOp i = true → exec i s = .next t →
    sameStore s.dev t.dev ∧ t.dev.pow = s.dev.pow ∧ t.dev.upd = s.dev.upd) ∧
  (∀ (i : Instr) (s t : State), isUpdateStep i = true → exec i s = .next t →
    sameStore s.dev { t.dev with med := s.dev.med, bays := s.dev.bays } ∧ t.dev.gale = s.dev.gale ∧ t.dev.mem = s.dev.mem ∧
      t.dev.pow = s.dev.pow ∧ (t.dev.upd.nextEntry = s.dev.upd.nextEntry → t.dev.med = s.dev.med ∧ t.dev.bays = s.dev.bays))

/-- Frames, packets and the ends of sessions leave stored data, memory, the pair, security, updates and the ring unchanged; of the medium
only the reads in flight change, those that the end of a session squashes (R163). -/
def Obligations.TransportLeavesStoredDataAlone : Prop :=
  ∀ (i : Instr) (s t : State), isTransport i = true → exec i s = .next t →
    sameButReads s.dev t.dev ∧ t.dev.mem = s.dev.mem ∧ t.dev.mir = s.dev.mir ∧ t.dev.upd = s.dev.upd

/-- The control frames and timers of the pair touch no capsule, namespace, policy, Gale row, medium, bay, memory, power, security, update
or ring state; the expiry of the lease makes versions and parts wait and touches nothing else of these, and a bucket that is listed while
its namespace is JOINING or RESYNC, or by a follower, touches none of them; a step of Monsoon or Isobar, or of a bay's sensors, touches no capsule, namespace, policy, Gale
row, memory, pair, power, security, update or ring state; Monsoon's own work on the bands and a capacitor test that falls due, which
outside Clear bring the drive to Clear first (R314), touch no namespace, policy, memory, pair, security, update or ring state, and that
work in Clear no capsule, Gale row or power state. -/
def Obligations.PairAndMediaStepsKeepToTheirOwn : Prop :=
  (∀ (i : Instr) (s t : State), isPairStep i = true → exec i s = .next t →
    t.dev.que = s.dev.que ∧ t.dev.ns = s.dev.ns ∧ t.dev.pol = s.dev.pol ∧ t.dev.gale = s.dev.gale ∧ t.dev.med = s.dev.med ∧
      t.dev.bays = s.dev.bays ∧ t.dev.mem = s.dev.mem ∧ t.dev.pow = s.dev.pow ∧ t.dev.sec = s.dev.sec ∧ t.dev.upd = s.dev.upd ∧
      t.dev.ring = s.dev.ring) ∧
  (∀ (s t : State), exec .leaseExpiry s = .next t →
    t.dev.que = { s.dev.que with drift := t.dev.que.drift } ∧
      t.dev.que.drift.map (fun v => { v with mirrorWait := false }) = s.dev.que.drift.map (fun v => { v with mirrorWait := false }) ∧
      t.dev.ns = s.dev.ns ∧ t.dev.idx = { s.dev.idx with uploads := t.dev.idx.uploads } ∧ t.dev.pol = s.dev.pol ∧
      t.dev.gale = s.dev.gale ∧ t.dev.med = s.dev.med ∧ t.dev.bays = s.dev.bays ∧ t.dev.mem = s.dev.mem ∧ t.dev.pow = s.dev.pow ∧
      t.dev.sec = s.dev.sec ∧ t.dev.upd = s.dev.upd ∧ t.dev.ring = s.dev.ring) ∧
  (∀ (n : BitVec 12) (lo : BitVec 64) (s t : State),
    (∀ m, s.dev.mirror? n = some m → m.lead = false ∨ m.st = .joining ∨ m.st = .resync) → exec (.resyncBucket n lo) s = .next t →
    t.dev.que = s.dev.que ∧ t.dev.ns = s.dev.ns ∧ t.dev.pol = s.dev.pol ∧ t.dev.gale = s.dev.gale ∧ t.dev.med = s.dev.med ∧
      t.dev.bays = s.dev.bays ∧ t.dev.mem = s.dev.mem ∧ t.dev.pow = s.dev.pow ∧ t.dev.sec = s.dev.sec ∧ t.dev.upd = s.dev.upd ∧
      t.dev.ring = s.dev.ring) ∧
  (∀ (i : Instr) (s t : State), isMediaStep i = true → exec i s = .next t →
    t.dev.que = s.dev.que ∧ t.dev.ns = s.dev.ns ∧ t.dev.pol = s.dev.pol ∧ t.dev.gale = s.dev.gale ∧ t.dev.mem = s.dev.mem ∧
      t.dev.mir = s.dev.mir ∧ t.dev.pow = s.dev.pow ∧ t.dev.sec = s.dev.sec ∧ t.dev.upd = s.dev.upd ∧ t.dev.ring = s.dev.ring) ∧
  (∀ (i : Instr) (s t : State), (isBandWork i = true ∨ isTestDue i = true) → exec i s = .next t →
    t.dev.ns = s.dev.ns ∧ t.dev.pol = s.dev.pol ∧ t.dev.mem = s.dev.mem ∧ t.dev.mir = s.dev.mir ∧ t.dev.sec = s.dev.sec ∧
      t.dev.upd = s.dev.upd ∧ t.dev.ring = s.dev.ring ∧
      (isBandWork i = true → s.dev.pow.rung = .clear → t.dev.que = s.dev.que ∧ t.dev.gale = s.dev.gale ∧ t.dev.pow = s.dev.pow))

/-- Readers, writers once resolved, uploads, replication records, reconciliation, roles and what completes them change no memory error record, power, update
or ring state. -/
def Obligations.DataPathLeavesPowerAndUpdatesAlone : Prop :=
  ∀ (i : Instr) (s t : State), isDataPath i = true → exec i s = .next t →
    t.dev.mem = s.dev.mem ∧ t.dev.pow = s.dev.pow ∧ t.dev.upd = s.dev.upd ∧ t.dev.ring = s.dev.ring

/-! ## The block as a whole -/

/-- A step takes the command at the front of the queue and runs it on the drive with the queue's rest, first in, first out; a command
changes the queue of nothing that waits behind it; on an empty queue the drive's own tick runs (log entry 5). -/
def Obligations.StepRunsTheFrontCommand : Prop :=
  (∀ (c : Instr) (s : State) (rest : List Instr), s.pending = c :: rest → step s = exec c { s with pending := rest }) ∧
  (∀ (c : Instr) (s t : State), exec c s = .next t → t.pending = s.pending) ∧
  (∀ s : State, s.pending = [] → step s = .next { s with dev := s.dev.tick.reportMode })

/-- The drive as shipped: no command waits, no input is on, the life cycle is BLANK in the mode Unowned (R385, R426), the pair is unpaired,
the counters of versions start at 1, and the mode reported is that of the state. The values the spec does not give are the model's
(log entry 8). -/
def Obligations.ResetIsTheDriveAsShipped : Prop :=
  State.reset.pending = [] ∧ State.reset.dev.par.run = .off ∧ State.reset.dev.sec.lcState = .blank ∧ State.reset.dev.par.mode = 2 ∧
    State.reset.dev.mir.state = .unpaired ∧ State.reset.dev.pow.rung = .clear ∧ State.reset.dev.que.nextSeq = 1 ∧
    State.reset.dev.ns = [] ∧ settled State.reset.dev ∧
    ∃ t, exec (.powerOn 0) State.reset = .next t ∧ t.dev.pow.pwrEn = true

/-- Every step of a drive that has a mode to report leaves it reported: after a step the mode in force, which `EV_MODE_CHANGE` has
announced, is the mode that the state calls for (R426, R431; for a drive that is off or starting the model keeps the mode, log entry
6). -/
def Obligations.EveryStepReportsTheMode : Prop :=
  ∀ s t : State, step s = .next t → settled t.dev

/-- Drive time never moves backwards (R350): a host's setting never takes it back, whatever time it names, a tick with a legal slew
never takes it back, and a correction forward by more than a second is a step. -/
def Obligations.TimeNeverMovesBackwards : Prop :=
  (∀ (s : State) (ns : Nat), ∃ t, exec (.virradTimeSet ns) s = .next t ∧
    s.dev.clk.ns ≤ t.dev.clk.ns ∧
    (s.dev.mgmt.vaneUp = true → s.dev.par.run ≠ .recovery → s.dev.clk.source ≠ .ptpLocked → s.dev.clk.ns + 1000000000 < ns →
      t.dev.clk.ns = ns)) ∧
  (∀ (d : Dev), d.pnum P.mgmtTimeSlewPpm ≤ 500 → d.clk.slewStep < 1000 → d.clk.ns ≤ d.pass.clk.ns)

/-! ## Rules of the specification, stated whole -/

/-- R447: the parameters of the chapter on modes, with their class, range and default. -/
def Obligations.ModeParametersAreTheirTable : Prop :=
  paramRow 0x0A000101 = some ⟨0x0A000101, 1, .num 1000 60000, num8 10000⟩ ∧
    paramRow 0x0A000102 = some ⟨0x0A000102, 2, .num 100 10000, num8 1000⟩ ∧
    paramRow 0x0A000103 = some ⟨0x0A000103, 1, .num 0 3, num8 0⟩ ∧
    paramRow 0x0A000104 = some ⟨0x0A000104, 3, .num 0x01 0x3F, num8 0x3F⟩

/-- R121: a dispatched capsule is charged its service units against its class and its tenant, by its opcode and what it carries; the
units of a `GET` are corrected by the length of its reply. -/
def Obligations.ServiceUnitsAreCharged : Prop :=
  (∀ h : Hdr, (h.opcode = Op.put ∨ h.opcode = Op.casPut ∨ h.opcode = Op.patch ∨ h.opcode = Op.mpPart) →
    capUnits h = 1 + (h.valueLen.toNat + 4095) / 4096) ∧
  (∀ h : Hdr, h.opcode = Op.get →
    capUnits h = 1 + ((if h.valueLen = 0 then 4096 else h.valueLen.toNat) + 4095) / 4096) ∧
  (∀ h : Hdr, h.opcode ≠ Op.put → h.opcode ≠ Op.casPut → h.opcode ≠ Op.patch → h.opcode ≠ Op.mpPart → h.opcode ≠ Op.get →
    capUnits h = 1) ∧
  (∀ (d : Dev) (c : Cap) (cls : Nat),
    (d.dispatchAs c cls).count (.classUnits cls) = d.count (.classUnits cls) + BitVec.ofNat 64 (capUnits c.hdr) ∧
    (d.dispatchAs c cls).count (.tenantUnits c.tenant) = d.count (.tenantUnits c.tenant) + BitVec.ofNat 64 (capUnits c.hdr)) ∧
  (∀ (d : Dev) (c : Cap) (n : Nat), c.hdr.opcode = Op.get → c.seq ≠ 0 → c.stage = .dispatched →
    ((d.dispatchAs c c.cls).correctGet c n).count (.classUnits c.cls) =
      d.count (.classUnits c.cls) + BitVec.ofNat 64 (1 + (n + 4095) / 4096) ∧
    ((d.dispatchAs c c.cls).correctGet c n).count (.tenantUnits c.tenant) =
      d.count (.tenantUnits c.tenant) + BitVec.ofNat 64 (1 + (n + 4095) / 4096))

/-- R420: `UPD_CANCEL` from the holder in each state: staging is discarded; in INSTALLED the inactive slot is emptied too; in TRIAL the set is
reverted with cause 3; in IDLE the answer is `BAD_FIELD`. In every state but IDLE the lease ends and `EV_UPD_CANCELLED` is raised, which
the recording level may keep out of the Barograph. -/
def Obligations.UpdateIsCancelledByState : Prop :=
  ∀ (s : State) (seq : Nat) (c : Cap), ready s.dev seq Op.updCancel c → s.dev.ev.ring.length < 65000 →
    ∃ t, exec (.updCancel seq) s = .next t ∧
      (s.dev.upd.holds c.source = true → (s.dev.upd.state = 1 ∨ s.dev.upd.state = 2 ∨ s.dev.upd.state = 3) →
        t.dev.upd.state = 0 ∧ t.dev.upd.staging = none ∧ t.dev.upd.lease = none ∧
        (s.dev.upd.state = 3 → t.dev.upd.slots.get s.dev.upd.otherSlot = none) ∧
        (s.dev.level Ev.updCancelled.src ≤ Ev.updCancelled.sev → logged s.dev t.dev Ev.updCancelled)) ∧
      (s.dev.upd.holds c.source = true → s.dev.upd.state = 4 → s.dev.upd.inTrial = true → s.dev.driftOut = false →
        s.dev.pow.failing = none →
        t.dev.upd.inTrial = false ∧ t.dev.upd.lease = none ∧ (∃ e ∈ t.dev.upd.history, e.outcome = 4) ∧
        (s.dev.level Ev.updCancelled.src ≤ Ev.updCancelled.sev → logged s.dev t.dev Ev.updCancelled)) ∧
      (s.dev.upd.state = 0 → answered s.dev t.dev c Status.badField 0 [])

/-- R437: the firmware supervisor is source 2,567; a core that does not service its watchdog, and an abort, raise `EV_FW_WATCHDOG` and start
an integrity stop, which ends in a reset once the drain is over. -/
def Obligations.FirmwareSupervisorStopsTheDrive : Prop :=
  Ev.fwWatchdog.src = 2567 ∧
  ∀ (s : State) (core ms : Nat) (abort : Bool), s.dev.par.run = .running → s.dev.pow.failing = none → s.dev.par.pendingReset = none →
    s.dev.driftOut = false → s.dev.ev.ring.length < 65000 →
    ∃ t, exec (.fwWatchdog core ms abort) s = .next t ∧ t.dev.par.pendingReset = some (.integrity Ev.fwWatchdog.code 0 0) ∧
      (s.dev.level 2567 ≤ Ev.fwWatchdog.sev → logged s.dev t.dev Ev.fwWatchdog)

/-- Every command of the table completes in every state and with every operand: `exec` answers a next state (no command faults and none
is refused), which leaves the queue as it was and the mode reported. What each command does is said by the statements on its family. -/
def Obligations.EveryCommandCompletes : Prop :=
  ∀ (i : Instr) (s : State), ∃ t, exec i s = .next t ∧ t.pending = s.pending ∧ settled t.dev
end

