-- ==== Sys2Proof/Laws/State.lean ====
section
/-! SUPPORT. The named updates of the drive: for each, what it leaves of every part of the state, and what it makes of its own. -/

namespace Sys2Proof.Machine

variable (d : Dev)

/-! ### `Dev.emitOut` -/

@[simp] theorem Dev.emitOut_clk (o : Out) : (d.emitOut o).clk = d.clk := rfl
@[simp] theorem Dev.emitOut_ev (o : Out) : (d.emitOut o).ev = d.ev := rfl
@[simp] theorem Dev.emitOut_ctr (o : Out) : (d.emitOut o).ctr = d.ctr := rfl
@[simp] theorem Dev.emitOut_par (o : Out) : (d.emitOut o).par = d.par := rfl
@[simp] theorem Dev.emitOut_net (o : Out) : (d.emitOut o).net = d.net := rfl
@[simp] theorem Dev.emitOut_que (o : Out) : (d.emitOut o).que = d.que := rfl
@[simp] theorem Dev.emitOut_ns (o : Out) : (d.emitOut o).ns = d.ns := rfl
@[simp] theorem Dev.emitOut_idx (o : Out) : (d.emitOut o).idx = d.idx := rfl
@[simp] theorem Dev.emitOut_pol (o : Out) : (d.emitOut o).pol = d.pol := rfl
@[simp] theorem Dev.emitOut_gale (o : Out) : (d.emitOut o).gale = d.gale := rfl
@[simp] theorem Dev.emitOut_med (o : Out) : (d.emitOut o).med = d.med := rfl
@[simp] theorem Dev.emitOut_bays (o : Out) : (d.emitOut o).bays = d.bays := rfl
@[simp] theorem Dev.emitOut_mem (o : Out) : (d.emitOut o).mem = d.mem := rfl
@[simp] theorem Dev.emitOut_mir (o : Out) : (d.emitOut o).mir = d.mir := rfl
@[simp] theorem Dev.emitOut_pow (o : Out) : (d.emitOut o).pow = d.pow := rfl
@[simp] theorem Dev.emitOut_mgmt (o : Out) : (d.emitOut o).mgmt = d.mgmt := rfl
@[simp] theorem Dev.emitOut_sec (o : Out) : (d.emitOut o).sec = d.sec := rfl
@[simp] theorem Dev.emitOut_upd (o : Out) : (d.emitOut o).upd = d.upd := rfl
@[simp] theorem Dev.emitOut_ring (o : Out) : (d.emitOut o).ring = d.ring := rfl
@[simp] theorem Dev.emitOut_fresh (o : Out) : (d.emitOut o).fresh = d.fresh := rfl

/-! ### `Dev.bump` -/

@[simp] theorem Dev.bump_clk (c : Ctr) (n : Nat) : (d.bump c n).clk = d.clk := rfl
@[simp] theorem Dev.bump_ev (c : Ctr) (n : Nat) : (d.bump c n).ev = d.ev := rfl
@[simp] theorem Dev.bump_par (c : Ctr) (n : Nat) : (d.bump c n).par = d.par := rfl
@[simp] theorem Dev.bump_net (c : Ctr) (n : Nat) : (d.bump c n).net = d.net := rfl
@[simp] theorem Dev.bump_que (c : Ctr) (n : Nat) : (d.bump c n).que = d.que := rfl
@[simp] theorem Dev.bump_ns (c : Ctr) (n : Nat) : (d.bump c n).ns = d.ns := rfl
@[simp] theorem Dev.bump_idx (c : Ctr) (n : Nat) : (d.bump c n).idx = d.idx := rfl
@[simp] theorem Dev.bump_pol (c : Ctr) (n : Nat) : (d.bump c n).pol = d.pol := rfl
@[simp] theorem Dev.bump_gale (c : Ctr) (n : Nat) : (d.bump c n).gale = d.gale := rfl
@[simp] theorem Dev.bump_med (c : Ctr) (n : Nat) : (d.bump c n).med = d.med := rfl
@[simp] theorem Dev.bump_bays (c : Ctr) (n : Nat) : (d.bump c n).bays = d.bays := rfl
@[simp] theorem Dev.bump_mem (c : Ctr) (n : Nat) : (d.bump c n).mem = d.mem := rfl
@[simp] theorem Dev.bump_mir (c : Ctr) (n : Nat) : (d.bump c n).mir = d.mir := rfl
@[simp] theorem Dev.bump_pow (c : Ctr) (n : Nat) : (d.bump c n).pow = d.pow := rfl
@[simp] theorem Dev.bump_mgmt (c : Ctr) (n : Nat) : (d.bump c n).mgmt = d.mgmt := rfl
@[simp] theorem Dev.bump_sec (c : Ctr) (n : Nat) : (d.bump c n).sec = d.sec := rfl
@[simp] theorem Dev.bump_upd (c : Ctr) (n : Nat) : (d.bump c n).upd = d.upd := rfl
@[simp] theorem Dev.bump_ring (c : Ctr) (n : Nat) : (d.bump c n).ring = d.ring := rfl
@[simp] theorem Dev.bump_out (c : Ctr) (n : Nat) : (d.bump c n).out = d.out := rfl
@[simp] theorem Dev.bump_fresh (c : Ctr) (n : Nat) : (d.bump c n).fresh = d.fresh := rfl

/-! ### `Dev.modSession` -/

@[simp] theorem Dev.modSession_clk (sid : BitVec 32) (f : Session → Session) : (d.modSession sid f).clk = d.clk := rfl
@[simp] theorem Dev.modSession_ev (sid : BitVec 32) (f : Session → Session) : (d.modSession sid f).ev = d.ev := rfl
@[simp] theorem Dev.modSession_ctr (sid : BitVec 32) (f : Session → Session) : (d.modSession sid f).ctr = d.ctr := rfl
@[simp] theorem Dev.modSession_par (sid : BitVec 32) (f : Session → Session) : (d.modSession sid f).par = d.par := rfl
@[simp] theorem Dev.modSession_que (sid : BitVec 32) (f : Session → Session) : (d.modSession sid f).que = d.que := rfl
@[simp] theorem Dev.modSession_ns (sid : BitVec 32) (f : Session → Session) : (d.modSession sid f).ns = d.ns := rfl
@[simp] theorem Dev.modSession_idx (sid : BitVec 32) (f : Session → Session) : (d.modSession sid f).idx = d.idx := rfl
@[simp] theorem Dev.modSession_pol (sid : BitVec 32) (f : Session → Session) : (d.modSession sid f).pol = d.pol := rfl
@[simp] theorem Dev.modSession_gale (sid : BitVec 32) (f : Session → Session) : (d.modSession sid f).gale = d.gale := rfl
@[simp] theorem Dev.modSession_med (sid : BitVec 32) (f : Session → Session) : (d.modSession sid f).med = d.med := rfl
@[simp] theorem Dev.modSession_bays (sid : BitVec 32) (f : Session → Session) : (d.modSession sid f).bays = d.bays := rfl
@[simp] theorem Dev.modSession_mem (sid : BitVec 32) (f : Session → Session) : (d.modSession sid f).mem = d.mem := rfl
@[simp] theorem Dev.modSession_mir (sid : BitVec 32) (f : Session → Session) : (d.modSession sid f).mir = d.mir := rfl
@[simp] theorem Dev.modSession_pow (sid : BitVec 32) (f : Session → Session) : (d.modSession sid f).pow = d.pow := rfl
@[simp] theorem Dev.modSession_mgmt (sid : BitVec 32) (f : Session → Session) : (d.modSession sid f).mgmt = d.mgmt := rfl
@[simp] theorem Dev.modSession_sec (sid : BitVec 32) (f : Session → Session) : (d.modSession sid f).sec = d.sec := rfl
@[simp] theorem Dev.modSession_upd (sid : BitVec 32) (f : Session → Session) : (d.modSession sid f).upd = d.upd := rfl
@[simp] theorem Dev.modSession_ring (sid : BitVec 32) (f : Session → Session) : (d.modSession sid f).ring = d.ring := rfl
@[simp] theorem Dev.modSession_out (sid : BitVec 32) (f : Session → Session) : (d.modSession sid f).out = d.out := rfl
@[simp] theorem Dev.modSession_fresh (sid : BitVec 32) (f : Session → Session) : (d.modSession sid f).fresh = d.fresh := rfl

/-! ### `Dev.modLink` -/

@[simp] theorem Dev.modLink_clk (l : Link) (f : LinkState → LinkState) : (d.modLink l f).clk = d.clk := rfl
@[simp] theorem Dev.modLink_ev (l : Link) (f : LinkState → LinkState) : (d.modLink l f).ev = d.ev := rfl
@[simp] theorem Dev.modLink_ctr (l : Link) (f : LinkState → LinkState) : (d.modLink l f).ctr = d.ctr := rfl
@[simp] theorem Dev.modLink_par (l : Link) (f : LinkState → LinkState) : (d.modLink l f).par = d.par := rfl
@[simp] theorem Dev.modLink_que (l : Link) (f : LinkState → LinkState) : (d.modLink l f).que = d.que := rfl
@[simp] theorem Dev.modLink_ns (l : Link) (f : LinkState → LinkState) : (d.modLink l f).ns = d.ns := rfl
@[simp] theorem Dev.modLink_idx (l : Link) (f : LinkState → LinkState) : (d.modLink l f).idx = d.idx := rfl
@[simp] theorem Dev.modLink_pol (l : Link) (f : LinkState → LinkState) : (d.modLink l f).pol = d.pol := rfl
@[simp] theorem Dev.modLink_gale (l : Link) (f : LinkState → LinkState) : (d.modLink l f).gale = d.gale := rfl
@[simp] theorem Dev.modLink_med (l : Link) (f : LinkState → LinkState) : (d.modLink l f).med = d.med := rfl
@[simp] theorem Dev.modLink_bays (l : Link) (f : LinkState → LinkState) : (d.modLink l f).bays = d.bays := rfl
@[simp] theorem Dev.modLink_mem (l : Link) (f : LinkState → LinkState) : (d.modLink l f).mem = d.mem := rfl
@[simp] theorem Dev.modLink_mir (l : Link) (f : LinkState → LinkState) : (d.modLink l f).mir = d.mir := rfl
@[simp] theorem Dev.modLink_pow (l : Link) (f : LinkState → LinkState) : (d.modLink l f).pow = d.pow := rfl
@[simp] theorem Dev.modLink_mgmt (l : Link) (f : LinkState → LinkState) : (d.modLink l f).mgmt = d.mgmt := rfl
@[simp] theorem Dev.modLink_sec (l : Link) (f : LinkState → LinkState) : (d.modLink l f).sec = d.sec := rfl
@[simp] theorem Dev.modLink_upd (l : Link) (f : LinkState → LinkState) : (d.modLink l f).upd = d.upd := rfl
@[simp] theorem Dev.modLink_ring (l : Link) (f : LinkState → LinkState) : (d.modLink l f).ring = d.ring := rfl
@[simp] theorem Dev.modLink_out (l : Link) (f : LinkState → LinkState) : (d.modLink l f).out = d.out := rfl
@[simp] theorem Dev.modLink_fresh (l : Link) (f : LinkState → LinkState) : (d.modLink l f).fresh = d.fresh := rfl

/-! ### `Dev.freeDir` -/

@[simp] theorem Dev.freeDir_clk (sid : BitVec 32) (n : Nat) : (d.freeDir sid n).clk = d.clk := rfl
@[simp] theorem Dev.freeDir_ev (sid : BitVec 32) (n : Nat) : (d.freeDir sid n).ev = d.ev := rfl
@[simp] theorem Dev.freeDir_ctr (sid : BitVec 32) (n : Nat) : (d.freeDir sid n).ctr = d.ctr := rfl
@[simp] theorem Dev.freeDir_par (sid : BitVec 32) (n : Nat) : (d.freeDir sid n).par = d.par := rfl
@[simp] theorem Dev.freeDir_que (sid : BitVec 32) (n : Nat) : (d.freeDir sid n).que = d.que := rfl
@[simp] theorem Dev.freeDir_ns (sid : BitVec 32) (n : Nat) : (d.freeDir sid n).ns = d.ns := rfl
@[simp] theorem Dev.freeDir_idx (sid : BitVec 32) (n : Nat) : (d.freeDir sid n).idx = d.idx := rfl
@[simp] theorem Dev.freeDir_pol (sid : BitVec 32) (n : Nat) : (d.freeDir sid n).pol = d.pol := rfl
@[simp] theorem Dev.freeDir_gale (sid : BitVec 32) (n : Nat) : (d.freeDir sid n).gale = d.gale := rfl
@[simp] theorem Dev.freeDir_med (sid : BitVec 32) (n : Nat) : (d.freeDir sid n).med = d.med := rfl
@[simp] theorem Dev.freeDir_bays (sid : BitVec 32) (n : Nat) : (d.freeDir sid n).bays = d.bays := rfl
@[simp] theorem Dev.freeDir_mem (sid : BitVec 32) (n : Nat) : (d.freeDir sid n).mem = d.mem := rfl
@[simp] theorem Dev.freeDir_mir (sid : BitVec 32) (n : Nat) : (d.freeDir sid n).mir = d.mir := rfl
@[simp] theorem Dev.freeDir_pow (sid : BitVec 32) (n : Nat) : (d.freeDir sid n).pow = d.pow := rfl
@[simp] theorem Dev.freeDir_mgmt (sid : BitVec 32) (n : Nat) : (d.freeDir sid n).mgmt = d.mgmt := rfl
@[simp] theorem Dev.freeDir_sec (sid : BitVec 32) (n : Nat) : (d.freeDir sid n).sec = d.sec := rfl
@[simp] theorem Dev.freeDir_upd (sid : BitVec 32) (n : Nat) : (d.freeDir sid n).upd = d.upd := rfl
@[simp] theorem Dev.freeDir_ring (sid : BitVec 32) (n : Nat) : (d.freeDir sid n).ring = d.ring := rfl
@[simp] theorem Dev.freeDir_out (sid : BitVec 32) (n : Nat) : (d.freeDir sid n).out = d.out := rfl
@[simp] theorem Dev.freeDir_fresh (sid : BitVec 32) (n : Nat) : (d.freeDir sid n).fresh = d.fresh := rfl

/-! ### `Dev.dropBorrow` -/

@[simp] theorem Dev.dropBorrow_clk (c : Cap) : (d.dropBorrow c).clk = d.clk := rfl
@[simp] theorem Dev.dropBorrow_ev (c : Cap) : (d.dropBorrow c).ev = d.ev := rfl
@[simp] theorem Dev.dropBorrow_ctr (c : Cap) : (d.dropBorrow c).ctr = d.ctr := rfl
@[simp] theorem Dev.dropBorrow_par (c : Cap) : (d.dropBorrow c).par = d.par := rfl
@[simp] theorem Dev.dropBorrow_que (c : Cap) : (d.dropBorrow c).que = d.que := rfl
@[simp] theorem Dev.dropBorrow_ns (c : Cap) : (d.dropBorrow c).ns = d.ns := rfl
@[simp] theorem Dev.dropBorrow_idx (c : Cap) : (d.dropBorrow c).idx = d.idx := rfl
@[simp] theorem Dev.dropBorrow_pol (c : Cap) : (d.dropBorrow c).pol = d.pol := rfl
@[simp] theorem Dev.dropBorrow_gale (c : Cap) : (d.dropBorrow c).gale = d.gale := rfl
@[simp] theorem Dev.dropBorrow_med (c : Cap) : (d.dropBorrow c).med = d.med := rfl
@[simp] theorem Dev.dropBorrow_bays (c : Cap) : (d.dropBorrow c).bays = d.bays := rfl
@[simp] theorem Dev.dropBorrow_mem (c : Cap) : (d.dropBorrow c).mem = d.mem := rfl
@[simp] theorem Dev.dropBorrow_mir (c : Cap) : (d.dropBorrow c).mir = d.mir := rfl
@[simp] theorem Dev.dropBorrow_pow (c : Cap) : (d.dropBorrow c).pow = d.pow := rfl
@[simp] theorem Dev.dropBorrow_mgmt (c : Cap) : (d.dropBorrow c).mgmt = d.mgmt := rfl
@[simp] theorem Dev.dropBorrow_sec (c : Cap) : (d.dropBorrow c).sec = d.sec := rfl
@[simp] theorem Dev.dropBorrow_upd (c : Cap) : (d.dropBorrow c).upd = d.upd := rfl
@[simp] theorem Dev.dropBorrow_ring (c : Cap) : (d.dropBorrow c).ring = d.ring := rfl
@[simp] theorem Dev.dropBorrow_out (c : Cap) : (d.dropBorrow c).out = d.out := rfl
@[simp] theorem Dev.dropBorrow_fresh (c : Cap) : (d.dropBorrow c).fresh = d.fresh := rfl

/-! ### `Dev.endRange` -/

@[simp] theorem Dev.endRange_clk (sid : BitVec 32) (a n : Nat) : (d.endRange sid a n).clk = d.clk := rfl
@[simp] theorem Dev.endRange_ev (sid : BitVec 32) (a n : Nat) : (d.endRange sid a n).ev = d.ev := rfl
@[simp] theorem Dev.endRange_ctr (sid : BitVec 32) (a n : Nat) : (d.endRange sid a n).ctr = d.ctr := rfl
@[simp] theorem Dev.endRange_par (sid : BitVec 32) (a n : Nat) : (d.endRange sid a n).par = d.par := rfl
@[simp] theorem Dev.endRange_que (sid : BitVec 32) (a n : Nat) : (d.endRange sid a n).que = d.que := rfl
@[simp] theorem Dev.endRange_ns (sid : BitVec 32) (a n : Nat) : (d.endRange sid a n).ns = d.ns := rfl
@[simp] theorem Dev.endRange_idx (sid : BitVec 32) (a n : Nat) : (d.endRange sid a n).idx = d.idx := rfl
@[simp] theorem Dev.endRange_pol (sid : BitVec 32) (a n : Nat) : (d.endRange sid a n).pol = d.pol := rfl
@[simp] theorem Dev.endRange_gale (sid : BitVec 32) (a n : Nat) : (d.endRange sid a n).gale = d.gale := rfl
@[simp] theorem Dev.endRange_med (sid : BitVec 32) (a n : Nat) : (d.endRange sid a n).med = d.med := rfl
@[simp] theorem Dev.endRange_bays (sid : BitVec 32) (a n : Nat) : (d.endRange sid a n).bays = d.bays := rfl
@[simp] theorem Dev.endRange_mem (sid : BitVec 32) (a n : Nat) : (d.endRange sid a n).mem = d.mem := rfl
@[simp] theorem Dev.endRange_mir (sid : BitVec 32) (a n : Nat) : (d.endRange sid a n).mir = d.mir := rfl
@[simp] theorem Dev.endRange_pow (sid : BitVec 32) (a n : Nat) : (d.endRange sid a n).pow = d.pow := rfl
@[simp] theorem Dev.endRange_mgmt (sid : BitVec 32) (a n : Nat) : (d.endRange sid a n).mgmt = d.mgmt := rfl
@[simp] theorem Dev.endRange_sec (sid : BitVec 32) (a n : Nat) : (d.endRange sid a n).sec = d.sec := rfl
@[simp] theorem Dev.endRange_upd (sid : BitVec 32) (a n : Nat) : (d.endRange sid a n).upd = d.upd := rfl
@[simp] theorem Dev.endRange_ring (sid : BitVec 32) (a n : Nat) : (d.endRange sid a n).ring = d.ring := rfl
@[simp] theorem Dev.endRange_out (sid : BitVec 32) (a n : Nat) : (d.endRange sid a n).out = d.out := rfl
@[simp] theorem Dev.endRange_fresh (sid : BitVec 32) (a n : Nat) : (d.endRange sid a n).fresh = d.fresh := rfl

/-! ### `Dev.modCap` -/

@[simp] theorem Dev.modCap_clk (c : Cap) (f : Cap → Cap) : (d.modCap c f).clk = d.clk := rfl
@[simp] theorem Dev.modCap_ev (c : Cap) (f : Cap → Cap) : (d.modCap c f).ev = d.ev := rfl
@[simp] theorem Dev.modCap_ctr (c : Cap) (f : Cap → Cap) : (d.modCap c f).ctr = d.ctr := rfl
@[simp] theorem Dev.modCap_par (c : Cap) (f : Cap → Cap) : (d.modCap c f).par = d.par := rfl
@[simp] theorem Dev.modCap_net (c : Cap) (f : Cap → Cap) : (d.modCap c f).net = d.net := rfl
@[simp] theorem Dev.modCap_ns (c : Cap) (f : Cap → Cap) : (d.modCap c f).ns = d.ns := rfl
@[simp] theorem Dev.modCap_idx (c : Cap) (f : Cap → Cap) : (d.modCap c f).idx = d.idx := rfl
@[simp] theorem Dev.modCap_pol (c : Cap) (f : Cap → Cap) : (d.modCap c f).pol = d.pol := rfl
@[simp] theorem Dev.modCap_gale (c : Cap) (f : Cap → Cap) : (d.modCap c f).gale = d.gale := rfl
@[simp] theorem Dev.modCap_med (c : Cap) (f : Cap → Cap) : (d.modCap c f).med = d.med := rfl
@[simp] theorem Dev.modCap_bays (c : Cap) (f : Cap → Cap) : (d.modCap c f).bays = d.bays := rfl
@[simp] theorem Dev.modCap_mem (c : Cap) (f : Cap → Cap) : (d.modCap c f).mem = d.mem := rfl
@[simp] theorem Dev.modCap_mir (c : Cap) (f : Cap → Cap) : (d.modCap c f).mir = d.mir := rfl
@[simp] theorem Dev.modCap_pow (c : Cap) (f : Cap → Cap) : (d.modCap c f).pow = d.pow := rfl
@[simp] theorem Dev.modCap_mgmt (c : Cap) (f : Cap → Cap) : (d.modCap c f).mgmt = d.mgmt := rfl
@[simp] theorem Dev.modCap_sec (c : Cap) (f : Cap → Cap) : (d.modCap c f).sec = d.sec := rfl
@[simp] theorem Dev.modCap_upd (c : Cap) (f : Cap → Cap) : (d.modCap c f).upd = d.upd := rfl
@[simp] theorem Dev.modCap_ring (c : Cap) (f : Cap → Cap) : (d.modCap c f).ring = d.ring := rfl
@[simp] theorem Dev.modCap_out (c : Cap) (f : Cap → Cap) : (d.modCap c f).out = d.out := rfl
@[simp] theorem Dev.modCap_fresh (c : Cap) (f : Cap → Cap) : (d.modCap c f).fresh = d.fresh := rfl

/-! ### `Dev.dropCap` -/

@[simp] theorem Dev.dropCap_clk (c : Cap) : (d.dropCap c).clk = d.clk := rfl
@[simp] theorem Dev.dropCap_ev (c : Cap) : (d.dropCap c).ev = d.ev := rfl
@[simp] theorem Dev.dropCap_ctr (c : Cap) : (d.dropCap c).ctr = d.ctr := rfl
@[simp] theorem Dev.dropCap_par (c : Cap) : (d.dropCap c).par = d.par := rfl
@[simp] theorem Dev.dropCap_net (c : Cap) : (d.dropCap c).net = d.net := rfl
@[simp] theorem Dev.dropCap_ns (c : Cap) : (d.dropCap c).ns = d.ns := rfl
@[simp] theorem Dev.dropCap_idx (c : Cap) : (d.dropCap c).idx = d.idx := rfl
@[simp] theorem Dev.dropCap_pol (c : Cap) : (d.dropCap c).pol = d.pol := rfl
@[simp] theorem Dev.dropCap_gale (c : Cap) : (d.dropCap c).gale = d.gale := rfl
@[simp] theorem Dev.dropCap_med (c : Cap) : (d.dropCap c).med = d.med := rfl
@[simp] theorem Dev.dropCap_bays (c : Cap) : (d.dropCap c).bays = d.bays := rfl
@[simp] theorem Dev.dropCap_mem (c : Cap) : (d.dropCap c).mem = d.mem := rfl
@[simp] theorem Dev.dropCap_mir (c : Cap) : (d.dropCap c).mir = d.mir := rfl
@[simp] theorem Dev.dropCap_pow (c : Cap) : (d.dropCap c).pow = d.pow := rfl
@[simp] theorem Dev.dropCap_mgmt (c : Cap) : (d.dropCap c).mgmt = d.mgmt := rfl
@[simp] theorem Dev.dropCap_sec (c : Cap) : (d.dropCap c).sec = d.sec := rfl
@[simp] theorem Dev.dropCap_upd (c : Cap) : (d.dropCap c).upd = d.upd := rfl
@[simp] theorem Dev.dropCap_ring (c : Cap) : (d.dropCap c).ring = d.ring := rfl
@[simp] theorem Dev.dropCap_out (c : Cap) : (d.dropCap c).out = d.out := rfl
@[simp] theorem Dev.dropCap_fresh (c : Cap) : (d.dropCap c).fresh = d.fresh := rfl

/-! ### `Dev.modVer` -/

@[simp] theorem Dev.modVer_clk (n : Nat) (f : Version → Version) : (d.modVer n f).clk = d.clk := rfl
@[simp] theorem Dev.modVer_ev (n : Nat) (f : Version → Version) : (d.modVer n f).ev = d.ev := rfl
@[simp] theorem Dev.modVer_ctr (n : Nat) (f : Version → Version) : (d.modVer n f).ctr = d.ctr := rfl
@[simp] theorem Dev.modVer_par (n : Nat) (f : Version → Version) : (d.modVer n f).par = d.par := rfl
@[simp] theorem Dev.modVer_net (n : Nat) (f : Version → Version) : (d.modVer n f).net = d.net := rfl
@[simp] theorem Dev.modVer_ns (n : Nat) (f : Version → Version) : (d.modVer n f).ns = d.ns := rfl
@[simp] theorem Dev.modVer_idx (n : Nat) (f : Version → Version) : (d.modVer n f).idx = d.idx := rfl
@[simp] theorem Dev.modVer_pol (n : Nat) (f : Version → Version) : (d.modVer n f).pol = d.pol := rfl
@[simp] theorem Dev.modVer_gale (n : Nat) (f : Version → Version) : (d.modVer n f).gale = d.gale := rfl
@[simp] theorem Dev.modVer_med (n : Nat) (f : Version → Version) : (d.modVer n f).med = d.med := rfl
@[simp] theorem Dev.modVer_bays (n : Nat) (f : Version → Version) : (d.modVer n f).bays = d.bays := rfl
@[simp] theorem Dev.modVer_mem (n : Nat) (f : Version → Version) : (d.modVer n f).mem = d.mem := rfl
@[simp] theorem Dev.modVer_mir (n : Nat) (f : Version → Version) : (d.modVer n f).mir = d.mir := rfl
@[simp] theorem Dev.modVer_pow (n : Nat) (f : Version → Version) : (d.modVer n f).pow = d.pow := rfl
@[simp] theorem Dev.modVer_mgmt (n : Nat) (f : Version → Version) : (d.modVer n f).mgmt = d.mgmt := rfl
@[simp] theorem Dev.modVer_sec (n : Nat) (f : Version → Version) : (d.modVer n f).sec = d.sec := rfl
@[simp] theorem Dev.modVer_upd (n : Nat) (f : Version → Version) : (d.modVer n f).upd = d.upd := rfl
@[simp] theorem Dev.modVer_ring (n : Nat) (f : Version → Version) : (d.modVer n f).ring = d.ring := rfl
@[simp] theorem Dev.modVer_out (n : Nat) (f : Version → Version) : (d.modVer n f).out = d.out := rfl
@[simp] theorem Dev.modVer_fresh (n : Nat) (f : Version → Version) : (d.modVer n f).fresh = d.fresh := rfl

/-! ### `Dev.raiseCounter` -/

@[simp] theorem Dev.raiseCounter_clk (v : Nat) : (d.raiseCounter v).clk = d.clk := rfl
@[simp] theorem Dev.raiseCounter_ev (v : Nat) : (d.raiseCounter v).ev = d.ev := rfl
@[simp] theorem Dev.raiseCounter_ctr (v : Nat) : (d.raiseCounter v).ctr = d.ctr := rfl
@[simp] theorem Dev.raiseCounter_par (v : Nat) : (d.raiseCounter v).par = d.par := rfl
@[simp] theorem Dev.raiseCounter_net (v : Nat) : (d.raiseCounter v).net = d.net := rfl
@[simp] theorem Dev.raiseCounter_ns (v : Nat) : (d.raiseCounter v).ns = d.ns := rfl
@[simp] theorem Dev.raiseCounter_idx (v : Nat) : (d.raiseCounter v).idx = d.idx := rfl
@[simp] theorem Dev.raiseCounter_pol (v : Nat) : (d.raiseCounter v).pol = d.pol := rfl
@[simp] theorem Dev.raiseCounter_gale (v : Nat) : (d.raiseCounter v).gale = d.gale := rfl
@[simp] theorem Dev.raiseCounter_med (v : Nat) : (d.raiseCounter v).med = d.med := rfl
@[simp] theorem Dev.raiseCounter_bays (v : Nat) : (d.raiseCounter v).bays = d.bays := rfl
@[simp] theorem Dev.raiseCounter_mem (v : Nat) : (d.raiseCounter v).mem = d.mem := rfl
@[simp] theorem Dev.raiseCounter_mir (v : Nat) : (d.raiseCounter v).mir = d.mir := rfl
@[simp] theorem Dev.raiseCounter_pow (v : Nat) : (d.raiseCounter v).pow = d.pow := rfl
@[simp] theorem Dev.raiseCounter_mgmt (v : Nat) : (d.raiseCounter v).mgmt = d.mgmt := rfl
@[simp] theorem Dev.raiseCounter_sec (v : Nat) : (d.raiseCounter v).sec = d.sec := rfl
@[simp] theorem Dev.raiseCounter_upd (v : Nat) : (d.raiseCounter v).upd = d.upd := rfl
@[simp] theorem Dev.raiseCounter_ring (v : Nat) : (d.raiseCounter v).ring = d.ring := rfl
@[simp] theorem Dev.raiseCounter_out (v : Nat) : (d.raiseCounter v).out = d.out := rfl
@[simp] theorem Dev.raiseCounter_fresh (v : Nat) : (d.raiseCounter v).fresh = d.fresh := rfl

/-! ### `Dev.modNs` -/

@[simp] theorem Dev.modNs_clk (n : BitVec 12) (f : Namespace → Namespace) : (d.modNs n f).clk = d.clk := rfl
@[simp] theorem Dev.modNs_ev (n : BitVec 12) (f : Namespace → Namespace) : (d.modNs n f).ev = d.ev := rfl
@[simp] theorem Dev.modNs_ctr (n : BitVec 12) (f : Namespace → Namespace) : (d.modNs n f).ctr = d.ctr := rfl
@[simp] theorem Dev.modNs_par (n : BitVec 12) (f : Namespace → Namespace) : (d.modNs n f).par = d.par := rfl
@[simp] theorem Dev.modNs_net (n : BitVec 12) (f : Namespace → Namespace) : (d.modNs n f).net = d.net := rfl
@[simp] theorem Dev.modNs_que (n : BitVec 12) (f : Namespace → Namespace) : (d.modNs n f).que = d.que := rfl
@[simp] theorem Dev.modNs_idx (n : BitVec 12) (f : Namespace → Namespace) : (d.modNs n f).idx = d.idx := rfl
@[simp] theorem Dev.modNs_pol (n : BitVec 12) (f : Namespace → Namespace) : (d.modNs n f).pol = d.pol := rfl
@[simp] theorem Dev.modNs_gale (n : BitVec 12) (f : Namespace → Namespace) : (d.modNs n f).gale = d.gale := rfl
@[simp] theorem Dev.modNs_med (n : BitVec 12) (f : Namespace → Namespace) : (d.modNs n f).med = d.med := rfl
@[simp] theorem Dev.modNs_bays (n : BitVec 12) (f : Namespace → Namespace) : (d.modNs n f).bays = d.bays := rfl
@[simp] theorem Dev.modNs_mem (n : BitVec 12) (f : Namespace → Namespace) : (d.modNs n f).mem = d.mem := rfl
@[simp] theorem Dev.modNs_mir (n : BitVec 12) (f : Namespace → Namespace) : (d.modNs n f).mir = d.mir := rfl
@[simp] theorem Dev.modNs_pow (n : BitVec 12) (f : Namespace → Namespace) : (d.modNs n f).pow = d.pow := rfl
@[simp] theorem Dev.modNs_mgmt (n : BitVec 12) (f : Namespace → Namespace) : (d.modNs n f).mgmt = d.mgmt := rfl
@[simp] theorem Dev.modNs_sec (n : BitVec 12) (f : Namespace → Namespace) : (d.modNs n f).sec = d.sec := rfl
@[simp] theorem Dev.modNs_upd (n : BitVec 12) (f : Namespace → Namespace) : (d.modNs n f).upd = d.upd := rfl
@[simp] theorem Dev.modNs_ring (n : BitVec 12) (f : Namespace → Namespace) : (d.modNs n f).ring = d.ring := rfl
@[simp] theorem Dev.modNs_out (n : BitVec 12) (f : Namespace → Namespace) : (d.modNs n f).out = d.out := rfl
@[simp] theorem Dev.modNs_fresh (n : BitVec 12) (f : Namespace → Namespace) : (d.modNs n f).fresh = d.fresh := rfl

/-! ### `Dev.modBucket` -/

@[simp] theorem Dev.modBucket_clk (n : BitVec 12) (lo : Nat) (f : Bucket → Bucket) : (d.modBucket n lo f).clk = d.clk := rfl
@[simp] theorem Dev.modBucket_ev (n : BitVec 12) (lo : Nat) (f : Bucket → Bucket) : (d.modBucket n lo f).ev = d.ev := rfl
@[simp] theorem Dev.modBucket_ctr (n : BitVec 12) (lo : Nat) (f : Bucket → Bucket) : (d.modBucket n lo f).ctr = d.ctr := rfl
@[simp] theorem Dev.modBucket_par (n : BitVec 12) (lo : Nat) (f : Bucket → Bucket) : (d.modBucket n lo f).par = d.par := rfl
@[simp] theorem Dev.modBucket_net (n : BitVec 12) (lo : Nat) (f : Bucket → Bucket) : (d.modBucket n lo f).net = d.net := rfl
@[simp] theorem Dev.modBucket_que (n : BitVec 12) (lo : Nat) (f : Bucket → Bucket) : (d.modBucket n lo f).que = d.que := rfl
@[simp] theorem Dev.modBucket_ns (n : BitVec 12) (lo : Nat) (f : Bucket → Bucket) : (d.modBucket n lo f).ns = d.ns := rfl
@[simp] theorem Dev.modBucket_pol (n : BitVec 12) (lo : Nat) (f : Bucket → Bucket) : (d.modBucket n lo f).pol = d.pol := rfl
@[simp] theorem Dev.modBucket_gale (n : BitVec 12) (lo : Nat) (f : Bucket → Bucket) : (d.modBucket n lo f).gale = d.gale := rfl
@[simp] theorem Dev.modBucket_med (n : BitVec 12) (lo : Nat) (f : Bucket → Bucket) : (d.modBucket n lo f).med = d.med := rfl
@[simp] theorem Dev.modBucket_bays (n : BitVec 12) (lo : Nat) (f : Bucket → Bucket) : (d.modBucket n lo f).bays = d.bays := rfl
@[simp] theorem Dev.modBucket_mem (n : BitVec 12) (lo : Nat) (f : Bucket → Bucket) : (d.modBucket n lo f).mem = d.mem := rfl
@[simp] theorem Dev.modBucket_mir (n : BitVec 12) (lo : Nat) (f : Bucket → Bucket) : (d.modBucket n lo f).mir = d.mir := rfl
@[simp] theorem Dev.modBucket_pow (n : BitVec 12) (lo : Nat) (f : Bucket → Bucket) : (d.modBucket n lo f).pow = d.pow := rfl
@[simp] theorem Dev.modBucket_mgmt (n : BitVec 12) (lo : Nat) (f : Bucket → Bucket) : (d.modBucket n lo f).mgmt = d.mgmt := rfl
@[simp] theorem Dev.modBucket_sec (n : BitVec 12) (lo : Nat) (f : Bucket → Bucket) : (d.modBucket n lo f).sec = d.sec := rfl
@[simp] theorem Dev.modBucket_upd (n : BitVec 12) (lo : Nat) (f : Bucket → Bucket) : (d.modBucket n lo f).upd = d.upd := rfl
@[simp] theorem Dev.modBucket_ring (n : BitVec 12) (lo : Nat) (f : Bucket → Bucket) : (d.modBucket n lo f).ring = d.ring := rfl
@[simp] theorem Dev.modBucket_out (n : BitVec 12) (lo : Nat) (f : Bucket → Bucket) : (d.modBucket n lo f).out = d.out := rfl
@[simp] theorem Dev.modBucket_fresh (n : BitVec 12) (lo : Nat) (f : Bucket → Bucket) : (d.modBucket n lo f).fresh = d.fresh := rfl

/-! ### `Dev.modRec` -/

@[simp] theorem Dev.modRec_clk (j : Nat) (f : JRec → JRec) : (d.modRec j f).clk = d.clk := rfl
@[simp] theorem Dev.modRec_ev (j : Nat) (f : JRec → JRec) : (d.modRec j f).ev = d.ev := rfl
@[simp] theorem Dev.modRec_ctr (j : Nat) (f : JRec → JRec) : (d.modRec j f).ctr = d.ctr := rfl
@[simp] theorem Dev.modRec_par (j : Nat) (f : JRec → JRec) : (d.modRec j f).par = d.par := rfl
@[simp] theorem Dev.modRec_net (j : Nat) (f : JRec → JRec) : (d.modRec j f).net = d.net := rfl
@[simp] theorem Dev.modRec_que (j : Nat) (f : JRec → JRec) : (d.modRec j f).que = d.que := rfl
@[simp] theorem Dev.modRec_ns (j : Nat) (f : JRec → JRec) : (d.modRec j f).ns = d.ns := rfl
@[simp] theorem Dev.modRec_pol (j : Nat) (f : JRec → JRec) : (d.modRec j f).pol = d.pol := rfl
@[simp] theorem Dev.modRec_gale (j : Nat) (f : JRec → JRec) : (d.modRec j f).gale = d.gale := rfl
@[simp] theorem Dev.modRec_med (j : Nat) (f : JRec → JRec) : (d.modRec j f).med = d.med := rfl
@[simp] theorem Dev.modRec_bays (j : Nat) (f : JRec → JRec) : (d.modRec j f).bays = d.bays := rfl
@[simp] theorem Dev.modRec_mem (j : Nat) (f : JRec → JRec) : (d.modRec j f).mem = d.mem := rfl
@[simp] theorem Dev.modRec_mir (j : Nat) (f : JRec → JRec) : (d.modRec j f).mir = d.mir := rfl
@[simp] theorem Dev.modRec_pow (j : Nat) (f : JRec → JRec) : (d.modRec j f).pow = d.pow := rfl
@[simp] theorem Dev.modRec_mgmt (j : Nat) (f : JRec → JRec) : (d.modRec j f).mgmt = d.mgmt := rfl
@[simp] theorem Dev.modRec_sec (j : Nat) (f : JRec → JRec) : (d.modRec j f).sec = d.sec := rfl
@[simp] theorem Dev.modRec_upd (j : Nat) (f : JRec → JRec) : (d.modRec j f).upd = d.upd := rfl
@[simp] theorem Dev.modRec_ring (j : Nat) (f : JRec → JRec) : (d.modRec j f).ring = d.ring := rfl
@[simp] theorem Dev.modRec_out (j : Nat) (f : JRec → JRec) : (d.modRec j f).out = d.out := rfl
@[simp] theorem Dev.modRec_fresh (j : Nat) (f : JRec → JRec) : (d.modRec j f).fresh = d.fresh := rfl

/-! ### `Dev.modUpload` -/

@[simp] theorem Dev.modUpload_clk (id : Nat) (f : Upload → Upload) : (d.modUpload id f).clk = d.clk := rfl
@[simp] theorem Dev.modUpload_ev (id : Nat) (f : Upload → Upload) : (d.modUpload id f).ev = d.ev := rfl
@[simp] theorem Dev.modUpload_ctr (id : Nat) (f : Upload → Upload) : (d.modUpload id f).ctr = d.ctr := rfl
@[simp] theorem Dev.modUpload_par (id : Nat) (f : Upload → Upload) : (d.modUpload id f).par = d.par := rfl
@[simp] theorem Dev.modUpload_net (id : Nat) (f : Upload → Upload) : (d.modUpload id f).net = d.net := rfl
@[simp] theorem Dev.modUpload_que (id : Nat) (f : Upload → Upload) : (d.modUpload id f).que = d.que := rfl
@[simp] theorem Dev.modUpload_ns (id : Nat) (f : Upload → Upload) : (d.modUpload id f).ns = d.ns := rfl
@[simp] theorem Dev.modUpload_pol (id : Nat) (f : Upload → Upload) : (d.modUpload id f).pol = d.pol := rfl
@[simp] theorem Dev.modUpload_gale (id : Nat) (f : Upload → Upload) : (d.modUpload id f).gale = d.gale := rfl
@[simp] theorem Dev.modUpload_med (id : Nat) (f : Upload → Upload) : (d.modUpload id f).med = d.med := rfl
@[simp] theorem Dev.modUpload_bays (id : Nat) (f : Upload → Upload) : (d.modUpload id f).bays = d.bays := rfl
@[simp] theorem Dev.modUpload_mem (id : Nat) (f : Upload → Upload) : (d.modUpload id f).mem = d.mem := rfl
@[simp] theorem Dev.modUpload_mir (id : Nat) (f : Upload → Upload) : (d.modUpload id f).mir = d.mir := rfl
@[simp] theorem Dev.modUpload_pow (id : Nat) (f : Upload → Upload) : (d.modUpload id f).pow = d.pow := rfl
@[simp] theorem Dev.modUpload_mgmt (id : Nat) (f : Upload → Upload) : (d.modUpload id f).mgmt = d.mgmt := rfl
@[simp] theorem Dev.modUpload_sec (id : Nat) (f : Upload → Upload) : (d.modUpload id f).sec = d.sec := rfl
@[simp] theorem Dev.modUpload_upd (id : Nat) (f : Upload → Upload) : (d.modUpload id f).upd = d.upd := rfl
@[simp] theorem Dev.modUpload_ring (id : Nat) (f : Upload → Upload) : (d.modUpload id f).ring = d.ring := rfl
@[simp] theorem Dev.modUpload_out (id : Nat) (f : Upload → Upload) : (d.modUpload id f).out = d.out := rfl
@[simp] theorem Dev.modUpload_fresh (id : Nat) (f : Upload → Upload) : (d.modUpload id f).fresh = d.fresh := rfl

/-! ### `Dev.modTenant` -/

@[simp] theorem Dev.modTenant_clk (t : BitVec 32) (f : Tenant → Tenant) : (d.modTenant t f).clk = d.clk := rfl
@[simp] theorem Dev.modTenant_ev (t : BitVec 32) (f : Tenant → Tenant) : (d.modTenant t f).ev = d.ev := rfl
@[simp] theorem Dev.modTenant_ctr (t : BitVec 32) (f : Tenant → Tenant) : (d.modTenant t f).ctr = d.ctr := rfl
@[simp] theorem Dev.modTenant_par (t : BitVec 32) (f : Tenant → Tenant) : (d.modTenant t f).par = d.par := rfl
@[simp] theorem Dev.modTenant_net (t : BitVec 32) (f : Tenant → Tenant) : (d.modTenant t f).net = d.net := rfl
@[simp] theorem Dev.modTenant_que (t : BitVec 32) (f : Tenant → Tenant) : (d.modTenant t f).que = d.que := rfl
@[simp] theorem Dev.modTenant_ns (t : BitVec 32) (f : Tenant → Tenant) : (d.modTenant t f).ns = d.ns := rfl
@[simp] theorem Dev.modTenant_idx (t : BitVec 32) (f : Tenant → Tenant) : (d.modTenant t f).idx = d.idx := rfl
@[simp] theorem Dev.modTenant_gale (t : BitVec 32) (f : Tenant → Tenant) : (d.modTenant t f).gale = d.gale := rfl
@[simp] theorem Dev.modTenant_med (t : BitVec 32) (f : Tenant → Tenant) : (d.modTenant t f).med = d.med := rfl
@[simp] theorem Dev.modTenant_bays (t : BitVec 32) (f : Tenant → Tenant) : (d.modTenant t f).bays = d.bays := rfl
@[simp] theorem Dev.modTenant_mem (t : BitVec 32) (f : Tenant → Tenant) : (d.modTenant t f).mem = d.mem := rfl
@[simp] theorem Dev.modTenant_mir (t : BitVec 32) (f : Tenant → Tenant) : (d.modTenant t f).mir = d.mir := rfl
@[simp] theorem Dev.modTenant_pow (t : BitVec 32) (f : Tenant → Tenant) : (d.modTenant t f).pow = d.pow := rfl
@[simp] theorem Dev.modTenant_mgmt (t : BitVec 32) (f : Tenant → Tenant) : (d.modTenant t f).mgmt = d.mgmt := rfl
@[simp] theorem Dev.modTenant_sec (t : BitVec 32) (f : Tenant → Tenant) : (d.modTenant t f).sec = d.sec := rfl
@[simp] theorem Dev.modTenant_upd (t : BitVec 32) (f : Tenant → Tenant) : (d.modTenant t f).upd = d.upd := rfl
@[simp] theorem Dev.modTenant_ring (t : BitVec 32) (f : Tenant → Tenant) : (d.modTenant t f).ring = d.ring := rfl
@[simp] theorem Dev.modTenant_out (t : BitVec 32) (f : Tenant → Tenant) : (d.modTenant t f).out = d.out := rfl
@[simp] theorem Dev.modTenant_fresh (t : BitVec 32) (f : Tenant → Tenant) : (d.modTenant t f).fresh = d.fresh := rfl

/-! ### `Dev.modGale` -/

@[simp] theorem Dev.modGale_clk (f : Gale → Gale) : (d.modGale f).clk = d.clk := rfl
@[simp] theorem Dev.modGale_ev (f : Gale → Gale) : (d.modGale f).ev = d.ev := rfl
@[simp] theorem Dev.modGale_ctr (f : Gale → Gale) : (d.modGale f).ctr = d.ctr := rfl
@[simp] theorem Dev.modGale_par (f : Gale → Gale) : (d.modGale f).par = d.par := rfl
@[simp] theorem Dev.modGale_net (f : Gale → Gale) : (d.modGale f).net = d.net := rfl
@[simp] theorem Dev.modGale_que (f : Gale → Gale) : (d.modGale f).que = d.que := rfl
@[simp] theorem Dev.modGale_ns (f : Gale → Gale) : (d.modGale f).ns = d.ns := rfl
@[simp] theorem Dev.modGale_idx (f : Gale → Gale) : (d.modGale f).idx = d.idx := rfl
@[simp] theorem Dev.modGale_pol (f : Gale → Gale) : (d.modGale f).pol = d.pol := rfl
@[simp] theorem Dev.modGale_med (f : Gale → Gale) : (d.modGale f).med = d.med := rfl
@[simp] theorem Dev.modGale_bays (f : Gale → Gale) : (d.modGale f).bays = d.bays := rfl
@[simp] theorem Dev.modGale_mem (f : Gale → Gale) : (d.modGale f).mem = d.mem := rfl
@[simp] theorem Dev.modGale_mir (f : Gale → Gale) : (d.modGale f).mir = d.mir := rfl
@[simp] theorem Dev.modGale_pow (f : Gale → Gale) : (d.modGale f).pow = d.pow := rfl
@[simp] theorem Dev.modGale_mgmt (f : Gale → Gale) : (d.modGale f).mgmt = d.mgmt := rfl
@[simp] theorem Dev.modGale_sec (f : Gale → Gale) : (d.modGale f).sec = d.sec := rfl
@[simp] theorem Dev.modGale_upd (f : Gale → Gale) : (d.modGale f).upd = d.upd := rfl
@[simp] theorem Dev.modGale_ring (f : Gale → Gale) : (d.modGale f).ring = d.ring := rfl
@[simp] theorem Dev.modGale_out (f : Gale → Gale) : (d.modGale f).out = d.out := rfl
@[simp] theorem Dev.modGale_fresh (f : Gale → Gale) : (d.modGale f).fresh = d.fresh := rfl

/-! ### `Dev.modRead` -/

@[simp] theorem Dev.modRead_clk (id : Nat) (f : Read → Read) : (d.modRead id f).clk = d.clk := rfl
@[simp] theorem Dev.modRead_ev (id : Nat) (f : Read → Read) : (d.modRead id f).ev = d.ev := rfl
@[simp] theorem Dev.modRead_ctr (id : Nat) (f : Read → Read) : (d.modRead id f).ctr = d.ctr := rfl
@[simp] theorem Dev.modRead_par (id : Nat) (f : Read → Read) : (d.modRead id f).par = d.par := rfl
@[simp] theorem Dev.modRead_net (id : Nat) (f : Read → Read) : (d.modRead id f).net = d.net := rfl
@[simp] theorem Dev.modRead_que (id : Nat) (f : Read → Read) : (d.modRead id f).que = d.que := rfl
@[simp] theorem Dev.modRead_ns (id : Nat) (f : Read → Read) : (d.modRead id f).ns = d.ns := rfl
@[simp] theorem Dev.modRead_idx (id : Nat) (f : Read → Read) : (d.modRead id f).idx = d.idx := rfl
@[simp] theorem Dev.modRead_pol (id : Nat) (f : Read → Read) : (d.modRead id f).pol = d.pol := rfl
@[simp] theorem Dev.modRead_gale (id : Nat) (f : Read → Read) : (d.modRead id f).gale = d.gale := rfl
@[simp] theorem Dev.modRead_bays (id : Nat) (f : Read → Read) : (d.modRead id f).bays = d.bays := rfl
@[simp] theorem Dev.modRead_mem (id : Nat) (f : Read → Read) : (d.modRead id f).mem = d.mem := rfl
@[simp] theorem Dev.modRead_mir (id : Nat) (f : Read → Read) : (d.modRead id f).mir = d.mir := rfl
@[simp] theorem Dev.modRead_pow (id : Nat) (f : Read → Read) : (d.modRead id f).pow = d.pow := rfl
@[simp] theorem Dev.modRead_mgmt (id : Nat) (f : Read → Read) : (d.modRead id f).mgmt = d.mgmt := rfl
@[simp] theorem Dev.modRead_sec (id : Nat) (f : Read → Read) : (d.modRead id f).sec = d.sec := rfl
@[simp] theorem Dev.modRead_upd (id : Nat) (f : Read → Read) : (d.modRead id f).upd = d.upd := rfl
@[simp] theorem Dev.modRead_ring (id : Nat) (f : Read → Read) : (d.modRead id f).ring = d.ring := rfl
@[simp] theorem Dev.modRead_out (id : Nat) (f : Read → Read) : (d.modRead id f).out = d.out := rfl
@[simp] theorem Dev.modRead_fresh (id : Nat) (f : Read → Read) : (d.modRead id f).fresh = d.fresh := rfl

/-! ### `Dev.modCopy` -/

@[simp] theorem Dev.modCopy_clk (loc gen : Nat) (f : Copy → Copy) : (d.modCopy loc gen f).clk = d.clk := rfl
@[simp] theorem Dev.modCopy_ev (loc gen : Nat) (f : Copy → Copy) : (d.modCopy loc gen f).ev = d.ev := rfl
@[simp] theorem Dev.modCopy_ctr (loc gen : Nat) (f : Copy → Copy) : (d.modCopy loc gen f).ctr = d.ctr := rfl
@[simp] theorem Dev.modCopy_par (loc gen : Nat) (f : Copy → Copy) : (d.modCopy loc gen f).par = d.par := rfl
@[simp] theorem Dev.modCopy_net (loc gen : Nat) (f : Copy → Copy) : (d.modCopy loc gen f).net = d.net := rfl
@[simp] theorem Dev.modCopy_que (loc gen : Nat) (f : Copy → Copy) : (d.modCopy loc gen f).que = d.que := rfl
@[simp] theorem Dev.modCopy_ns (loc gen : Nat) (f : Copy → Copy) : (d.modCopy loc gen f).ns = d.ns := rfl
@[simp] theorem Dev.modCopy_idx (loc gen : Nat) (f : Copy → Copy) : (d.modCopy loc gen f).idx = d.idx := rfl
@[simp] theorem Dev.modCopy_pol (loc gen : Nat) (f : Copy → Copy) : (d.modCopy loc gen f).pol = d.pol := rfl
@[simp] theorem Dev.modCopy_gale (loc gen : Nat) (f : Copy → Copy) : (d.modCopy loc gen f).gale = d.gale := rfl
@[simp] theorem Dev.modCopy_bays (loc gen : Nat) (f : Copy → Copy) : (d.modCopy loc gen f).bays = d.bays := rfl
@[simp] theorem Dev.modCopy_mem (loc gen : Nat) (f : Copy → Copy) : (d.modCopy loc gen f).mem = d.mem := rfl
@[simp] theorem Dev.modCopy_mir (loc gen : Nat) (f : Copy → Copy) : (d.modCopy loc gen f).mir = d.mir := rfl
@[simp] theorem Dev.modCopy_pow (loc gen : Nat) (f : Copy → Copy) : (d.modCopy loc gen f).pow = d.pow := rfl
@[simp] theorem Dev.modCopy_mgmt (loc gen : Nat) (f : Copy → Copy) : (d.modCopy loc gen f).mgmt = d.mgmt := rfl
@[simp] theorem Dev.modCopy_sec (loc gen : Nat) (f : Copy → Copy) : (d.modCopy loc gen f).sec = d.sec := rfl
@[simp] theorem Dev.modCopy_upd (loc gen : Nat) (f : Copy → Copy) : (d.modCopy loc gen f).upd = d.upd := rfl
@[simp] theorem Dev.modCopy_ring (loc gen : Nat) (f : Copy → Copy) : (d.modCopy loc gen f).ring = d.ring := rfl
@[simp] theorem Dev.modCopy_out (loc gen : Nat) (f : Copy → Copy) : (d.modCopy loc gen f).out = d.out := rfl
@[simp] theorem Dev.modCopy_fresh (loc gen : Nat) (f : Copy → Copy) : (d.modCopy loc gen f).fresh = d.fresh := rfl

/-! ### `Dev.modSpec` -/

@[simp] theorem Dev.modSpec_clk (t : BitVec 32) (f : SpecWindow → SpecWindow) : (d.modSpec t f).clk = d.clk := rfl
@[simp] theorem Dev.modSpec_ev (t : BitVec 32) (f : SpecWindow → SpecWindow) : (d.modSpec t f).ev = d.ev := rfl
@[simp] theorem Dev.modSpec_ctr (t : BitVec 32) (f : SpecWindow → SpecWindow) : (d.modSpec t f).ctr = d.ctr := rfl
@[simp] theorem Dev.modSpec_par (t : BitVec 32) (f : SpecWindow → SpecWindow) : (d.modSpec t f).par = d.par := rfl
@[simp] theorem Dev.modSpec_net (t : BitVec 32) (f : SpecWindow → SpecWindow) : (d.modSpec t f).net = d.net := rfl
@[simp] theorem Dev.modSpec_que (t : BitVec 32) (f : SpecWindow → SpecWindow) : (d.modSpec t f).que = d.que := rfl
@[simp] theorem Dev.modSpec_ns (t : BitVec 32) (f : SpecWindow → SpecWindow) : (d.modSpec t f).ns = d.ns := rfl
@[simp] theorem Dev.modSpec_idx (t : BitVec 32) (f : SpecWindow → SpecWindow) : (d.modSpec t f).idx = d.idx := rfl
@[simp] theorem Dev.modSpec_pol (t : BitVec 32) (f : SpecWindow → SpecWindow) : (d.modSpec t f).pol = d.pol := rfl
@[simp] theorem Dev.modSpec_gale (t : BitVec 32) (f : SpecWindow → SpecWindow) : (d.modSpec t f).gale = d.gale := rfl
@[simp] theorem Dev.modSpec_bays (t : BitVec 32) (f : SpecWindow → SpecWindow) : (d.modSpec t f).bays = d.bays := rfl
@[simp] theorem Dev.modSpec_mem (t : BitVec 32) (f : SpecWindow → SpecWindow) : (d.modSpec t f).mem = d.mem := rfl
@[simp] theorem Dev.modSpec_mir (t : BitVec 32) (f : SpecWindow → SpecWindow) : (d.modSpec t f).mir = d.mir := rfl
@[simp] theorem Dev.modSpec_pow (t : BitVec 32) (f : SpecWindow → SpecWindow) : (d.modSpec t f).pow = d.pow := rfl
@[simp] theorem Dev.modSpec_mgmt (t : BitVec 32) (f : SpecWindow → SpecWindow) : (d.modSpec t f).mgmt = d.mgmt := rfl
@[simp] theorem Dev.modSpec_sec (t : BitVec 32) (f : SpecWindow → SpecWindow) : (d.modSpec t f).sec = d.sec := rfl
@[simp] theorem Dev.modSpec_upd (t : BitVec 32) (f : SpecWindow → SpecWindow) : (d.modSpec t f).upd = d.upd := rfl
@[simp] theorem Dev.modSpec_ring (t : BitVec 32) (f : SpecWindow → SpecWindow) : (d.modSpec t f).ring = d.ring := rfl
@[simp] theorem Dev.modSpec_out (t : BitVec 32) (f : SpecWindow → SpecWindow) : (d.modSpec t f).out = d.out := rfl
@[simp] theorem Dev.modSpec_fresh (t : BitVec 32) (f : SpecWindow → SpecWindow) : (d.modSpec t f).fresh = d.fresh := rfl

/-! ### `Dev.setPriority` -/

@[simp] theorem Dev.setPriority_clk (w : ProgWhat) (prio : Nat) : (d.setPriority w prio).clk = d.clk := rfl
@[simp] theorem Dev.setPriority_ev (w : ProgWhat) (prio : Nat) : (d.setPriority w prio).ev = d.ev := rfl
@[simp] theorem Dev.setPriority_ctr (w : ProgWhat) (prio : Nat) : (d.setPriority w prio).ctr = d.ctr := rfl
@[simp] theorem Dev.setPriority_par (w : ProgWhat) (prio : Nat) : (d.setPriority w prio).par = d.par := rfl
@[simp] theorem Dev.setPriority_net (w : ProgWhat) (prio : Nat) : (d.setPriority w prio).net = d.net := rfl
@[simp] theorem Dev.setPriority_que (w : ProgWhat) (prio : Nat) : (d.setPriority w prio).que = d.que := rfl
@[simp] theorem Dev.setPriority_ns (w : ProgWhat) (prio : Nat) : (d.setPriority w prio).ns = d.ns := rfl
@[simp] theorem Dev.setPriority_idx (w : ProgWhat) (prio : Nat) : (d.setPriority w prio).idx = d.idx := rfl
@[simp] theorem Dev.setPriority_pol (w : ProgWhat) (prio : Nat) : (d.setPriority w prio).pol = d.pol := rfl
@[simp] theorem Dev.setPriority_gale (w : ProgWhat) (prio : Nat) : (d.setPriority w prio).gale = d.gale := rfl
@[simp] theorem Dev.setPriority_bays (w : ProgWhat) (prio : Nat) : (d.setPriority w prio).bays = d.bays := rfl
@[simp] theorem Dev.setPriority_mem (w : ProgWhat) (prio : Nat) : (d.setPriority w prio).mem = d.mem := rfl
@[simp] theorem Dev.setPriority_mir (w : ProgWhat) (prio : Nat) : (d.setPriority w prio).mir = d.mir := rfl
@[simp] theorem Dev.setPriority_pow (w : ProgWhat) (prio : Nat) : (d.setPriority w prio).pow = d.pow := rfl
@[simp] theorem Dev.setPriority_mgmt (w : ProgWhat) (prio : Nat) : (d.setPriority w prio).mgmt = d.mgmt := rfl
@[simp] theorem Dev.setPriority_sec (w : ProgWhat) (prio : Nat) : (d.setPriority w prio).sec = d.sec := rfl
@[simp] theorem Dev.setPriority_upd (w : ProgWhat) (prio : Nat) : (d.setPriority w prio).upd = d.upd := rfl
@[simp] theorem Dev.setPriority_ring (w : ProgWhat) (prio : Nat) : (d.setPriority w prio).ring = d.ring := rfl
@[simp] theorem Dev.setPriority_out (w : ProgWhat) (prio : Nat) : (d.setPriority w prio).out = d.out := rfl
@[simp] theorem Dev.setPriority_fresh (w : ProgWhat) (prio : Nat) : (d.setPriority w prio).fresh = d.fresh := rfl

/-! ### `Dev.modBatch` -/

@[simp] theorem Dev.modBatch_clk (id : Nat) (f : Batch → Batch) : (d.modBatch id f).clk = d.clk := rfl
@[simp] theorem Dev.modBatch_ev (id : Nat) (f : Batch → Batch) : (d.modBatch id f).ev = d.ev := rfl
@[simp] theorem Dev.modBatch_ctr (id : Nat) (f : Batch → Batch) : (d.modBatch id f).ctr = d.ctr := rfl
@[simp] theorem Dev.modBatch_par (id : Nat) (f : Batch → Batch) : (d.modBatch id f).par = d.par := rfl
@[simp] theorem Dev.modBatch_net (id : Nat) (f : Batch → Batch) : (d.modBatch id f).net = d.net := rfl
@[simp] theorem Dev.modBatch_que (id : Nat) (f : Batch → Batch) : (d.modBatch id f).que = d.que := rfl
@[simp] theorem Dev.modBatch_ns (id : Nat) (f : Batch → Batch) : (d.modBatch id f).ns = d.ns := rfl
@[simp] theorem Dev.modBatch_idx (id : Nat) (f : Batch → Batch) : (d.modBatch id f).idx = d.idx := rfl
@[simp] theorem Dev.modBatch_pol (id : Nat) (f : Batch → Batch) : (d.modBatch id f).pol = d.pol := rfl
@[simp] theorem Dev.modBatch_gale (id : Nat) (f : Batch → Batch) : (d.modBatch id f).gale = d.gale := rfl
@[simp] theorem Dev.modBatch_bays (id : Nat) (f : Batch → Batch) : (d.modBatch id f).bays = d.bays := rfl
@[simp] theorem Dev.modBatch_mem (id : Nat) (f : Batch → Batch) : (d.modBatch id f).mem = d.mem := rfl
@[simp] theorem Dev.modBatch_mir (id : Nat) (f : Batch → Batch) : (d.modBatch id f).mir = d.mir := rfl
@[simp] theorem Dev.modBatch_pow (id : Nat) (f : Batch → Batch) : (d.modBatch id f).pow = d.pow := rfl
@[simp] theorem Dev.modBatch_mgmt (id : Nat) (f : Batch → Batch) : (d.modBatch id f).mgmt = d.mgmt := rfl
@[simp] theorem Dev.modBatch_sec (id : Nat) (f : Batch → Batch) : (d.modBatch id f).sec = d.sec := rfl
@[simp] theorem Dev.modBatch_upd (id : Nat) (f : Batch → Batch) : (d.modBatch id f).upd = d.upd := rfl
@[simp] theorem Dev.modBatch_ring (id : Nat) (f : Batch → Batch) : (d.modBatch id f).ring = d.ring := rfl
@[simp] theorem Dev.modBatch_out (id : Nat) (f : Batch → Batch) : (d.modBatch id f).out = d.out := rfl
@[simp] theorem Dev.modBatch_fresh (id : Nat) (f : Batch → Batch) : (d.modBatch id f).fresh = d.fresh := rfl

/-! ### `Dev.modPart` -/

@[simp] theorem Dev.modPart_clk (id seq : Nat) (f : Part → Part) : (d.modPart id seq f).clk = d.clk := rfl
@[simp] theorem Dev.modPart_ev (id seq : Nat) (f : Part → Part) : (d.modPart id seq f).ev = d.ev := rfl
@[simp] theorem Dev.modPart_ctr (id seq : Nat) (f : Part → Part) : (d.modPart id seq f).ctr = d.ctr := rfl
@[simp] theorem Dev.modPart_par (id seq : Nat) (f : Part → Part) : (d.modPart id seq f).par = d.par := rfl
@[simp] theorem Dev.modPart_net (id seq : Nat) (f : Part → Part) : (d.modPart id seq f).net = d.net := rfl
@[simp] theorem Dev.modPart_que (id seq : Nat) (f : Part → Part) : (d.modPart id seq f).que = d.que := rfl
@[simp] theorem Dev.modPart_ns (id seq : Nat) (f : Part → Part) : (d.modPart id seq f).ns = d.ns := rfl
@[simp] theorem Dev.modPart_pol (id seq : Nat) (f : Part → Part) : (d.modPart id seq f).pol = d.pol := rfl
@[simp] theorem Dev.modPart_gale (id seq : Nat) (f : Part → Part) : (d.modPart id seq f).gale = d.gale := rfl
@[simp] theorem Dev.modPart_med (id seq : Nat) (f : Part → Part) : (d.modPart id seq f).med = d.med := rfl
@[simp] theorem Dev.modPart_bays (id seq : Nat) (f : Part → Part) : (d.modPart id seq f).bays = d.bays := rfl
@[simp] theorem Dev.modPart_mem (id seq : Nat) (f : Part → Part) : (d.modPart id seq f).mem = d.mem := rfl
@[simp] theorem Dev.modPart_mir (id seq : Nat) (f : Part → Part) : (d.modPart id seq f).mir = d.mir := rfl
@[simp] theorem Dev.modPart_pow (id seq : Nat) (f : Part → Part) : (d.modPart id seq f).pow = d.pow := rfl
@[simp] theorem Dev.modPart_mgmt (id seq : Nat) (f : Part → Part) : (d.modPart id seq f).mgmt = d.mgmt := rfl
@[simp] theorem Dev.modPart_sec (id seq : Nat) (f : Part → Part) : (d.modPart id seq f).sec = d.sec := rfl
@[simp] theorem Dev.modPart_upd (id seq : Nat) (f : Part → Part) : (d.modPart id seq f).upd = d.upd := rfl
@[simp] theorem Dev.modPart_ring (id seq : Nat) (f : Part → Part) : (d.modPart id seq f).ring = d.ring := rfl
@[simp] theorem Dev.modPart_out (id seq : Nat) (f : Part → Part) : (d.modPart id seq f).out = d.out := rfl
@[simp] theorem Dev.modPart_fresh (id seq : Nat) (f : Part → Part) : (d.modPart id seq f).fresh = d.fresh := rfl

/-! ### `Dev.unhold` -/

@[simp] theorem Dev.unhold_clk (x : CwHeld) : (d.unhold x).clk = d.clk := rfl
@[simp] theorem Dev.unhold_ev (x : CwHeld) : (d.unhold x).ev = d.ev := rfl
@[simp] theorem Dev.unhold_ctr (x : CwHeld) : (d.unhold x).ctr = d.ctr := rfl
@[simp] theorem Dev.unhold_par (x : CwHeld) : (d.unhold x).par = d.par := rfl
@[simp] theorem Dev.unhold_net (x : CwHeld) : (d.unhold x).net = d.net := rfl
@[simp] theorem Dev.unhold_que (x : CwHeld) : (d.unhold x).que = d.que := rfl
@[simp] theorem Dev.unhold_ns (x : CwHeld) : (d.unhold x).ns = d.ns := rfl
@[simp] theorem Dev.unhold_idx (x : CwHeld) : (d.unhold x).idx = d.idx := rfl
@[simp] theorem Dev.unhold_pol (x : CwHeld) : (d.unhold x).pol = d.pol := rfl
@[simp] theorem Dev.unhold_gale (x : CwHeld) : (d.unhold x).gale = d.gale := rfl
@[simp] theorem Dev.unhold_med (x : CwHeld) : (d.unhold x).med = d.med := rfl
@[simp] theorem Dev.unhold_bays (x : CwHeld) : (d.unhold x).bays = d.bays := rfl
@[simp] theorem Dev.unhold_mem (x : CwHeld) : (d.unhold x).mem = d.mem := rfl
@[simp] theorem Dev.unhold_pow (x : CwHeld) : (d.unhold x).pow = d.pow := rfl
@[simp] theorem Dev.unhold_mgmt (x : CwHeld) : (d.unhold x).mgmt = d.mgmt := rfl
@[simp] theorem Dev.unhold_sec (x : CwHeld) : (d.unhold x).sec = d.sec := rfl
@[simp] theorem Dev.unhold_upd (x : CwHeld) : (d.unhold x).upd = d.upd := rfl
@[simp] theorem Dev.unhold_ring (x : CwHeld) : (d.unhold x).ring = d.ring := rfl
@[simp] theorem Dev.unhold_out (x : CwHeld) : (d.unhold x).out = d.out := rfl
@[simp] theorem Dev.unhold_fresh (x : CwHeld) : (d.unhold x).fresh = d.fresh := rfl

/-! ### `Dev.countMulti` -/

@[simp] theorem Dev.countMulti_clk (n : Nat) : (d.countMulti n).clk = d.clk := rfl
@[simp] theorem Dev.countMulti_ev (n : Nat) : (d.countMulti n).ev = d.ev := rfl
@[simp] theorem Dev.countMulti_par (n : Nat) : (d.countMulti n).par = d.par := rfl
@[simp] theorem Dev.countMulti_net (n : Nat) : (d.countMulti n).net = d.net := rfl
@[simp] theorem Dev.countMulti_que (n : Nat) : (d.countMulti n).que = d.que := rfl
@[simp] theorem Dev.countMulti_ns (n : Nat) : (d.countMulti n).ns = d.ns := rfl
@[simp] theorem Dev.countMulti_idx (n : Nat) : (d.countMulti n).idx = d.idx := rfl
@[simp] theorem Dev.countMulti_pol (n : Nat) : (d.countMulti n).pol = d.pol := rfl
@[simp] theorem Dev.countMulti_gale (n : Nat) : (d.countMulti n).gale = d.gale := rfl
@[simp] theorem Dev.countMulti_med (n : Nat) : (d.countMulti n).med = d.med := rfl
@[simp] theorem Dev.countMulti_bays (n : Nat) : (d.countMulti n).bays = d.bays := rfl
@[simp] theorem Dev.countMulti_mem (n : Nat) : (d.countMulti n).mem = d.mem := rfl
@[simp] theorem Dev.countMulti_mir (n : Nat) : (d.countMulti n).mir = d.mir := rfl
@[simp] theorem Dev.countMulti_pow (n : Nat) : (d.countMulti n).pow = d.pow := rfl
@[simp] theorem Dev.countMulti_mgmt (n : Nat) : (d.countMulti n).mgmt = d.mgmt := rfl
@[simp] theorem Dev.countMulti_sec (n : Nat) : (d.countMulti n).sec = d.sec := rfl
@[simp] theorem Dev.countMulti_upd (n : Nat) : (d.countMulti n).upd = d.upd := rfl
@[simp] theorem Dev.countMulti_ring (n : Nat) : (d.countMulti n).ring = d.ring := rfl
@[simp] theorem Dev.countMulti_out (n : Nat) : (d.countMulti n).out = d.out := rfl
@[simp] theorem Dev.countMulti_fresh (n : Nat) : (d.countMulti n).fresh = d.fresh := rfl

/-! ### `Dev.dropProgs` -/

@[simp] theorem Dev.dropProgs_clk (w : ProgWhat) : (d.dropProgs w).clk = d.clk := rfl
@[simp] theorem Dev.dropProgs_ev (w : ProgWhat) : (d.dropProgs w).ev = d.ev := rfl
@[simp] theorem Dev.dropProgs_ctr (w : ProgWhat) : (d.dropProgs w).ctr = d.ctr := rfl
@[simp] theorem Dev.dropProgs_par (w : ProgWhat) : (d.dropProgs w).par = d.par := rfl
@[simp] theorem Dev.dropProgs_net (w : ProgWhat) : (d.dropProgs w).net = d.net := rfl
@[simp] theorem Dev.dropProgs_que (w : ProgWhat) : (d.dropProgs w).que = d.que := rfl
@[simp] theorem Dev.dropProgs_ns (w : ProgWhat) : (d.dropProgs w).ns = d.ns := rfl
@[simp] theorem Dev.dropProgs_idx (w : ProgWhat) : (d.dropProgs w).idx = d.idx := rfl
@[simp] theorem Dev.dropProgs_pol (w : ProgWhat) : (d.dropProgs w).pol = d.pol := rfl
@[simp] theorem Dev.dropProgs_gale (w : ProgWhat) : (d.dropProgs w).gale = d.gale := rfl
@[simp] theorem Dev.dropProgs_mem (w : ProgWhat) : (d.dropProgs w).mem = d.mem := rfl
@[simp] theorem Dev.dropProgs_mir (w : ProgWhat) : (d.dropProgs w).mir = d.mir := rfl
@[simp] theorem Dev.dropProgs_pow (w : ProgWhat) : (d.dropProgs w).pow = d.pow := rfl
@[simp] theorem Dev.dropProgs_mgmt (w : ProgWhat) : (d.dropProgs w).mgmt = d.mgmt := rfl
@[simp] theorem Dev.dropProgs_sec (w : ProgWhat) : (d.dropProgs w).sec = d.sec := rfl
@[simp] theorem Dev.dropProgs_upd (w : ProgWhat) : (d.dropProgs w).upd = d.upd := rfl
@[simp] theorem Dev.dropProgs_ring (w : ProgWhat) : (d.dropProgs w).ring = d.ring := rfl
@[simp] theorem Dev.dropProgs_out (w : ProgWhat) : (d.dropProgs w).out = d.out := rfl
@[simp] theorem Dev.dropProgs_fresh (w : ProgWhat) : (d.dropProgs w).fresh = d.fresh := rfl

/-! ### `Dev.modBay` -/

@[simp] theorem Dev.modBay_clk (b : BayNo) (f : Bay → Bay) : (d.modBay b f).clk = d.clk := rfl
@[simp] theorem Dev.modBay_ev (b : BayNo) (f : Bay → Bay) : (d.modBay b f).ev = d.ev := rfl
@[simp] theorem Dev.modBay_ctr (b : BayNo) (f : Bay → Bay) : (d.modBay b f).ctr = d.ctr := rfl
@[simp] theorem Dev.modBay_par (b : BayNo) (f : Bay → Bay) : (d.modBay b f).par = d.par := rfl
@[simp] theorem Dev.modBay_net (b : BayNo) (f : Bay → Bay) : (d.modBay b f).net = d.net := rfl
@[simp] theorem Dev.modBay_que (b : BayNo) (f : Bay → Bay) : (d.modBay b f).que = d.que := rfl
@[simp] theorem Dev.modBay_ns (b : BayNo) (f : Bay → Bay) : (d.modBay b f).ns = d.ns := rfl
@[simp] theorem Dev.modBay_idx (b : BayNo) (f : Bay → Bay) : (d.modBay b f).idx = d.idx := rfl
@[simp] theorem Dev.modBay_pol (b : BayNo) (f : Bay → Bay) : (d.modBay b f).pol = d.pol := rfl
@[simp] theorem Dev.modBay_gale (b : BayNo) (f : Bay → Bay) : (d.modBay b f).gale = d.gale := rfl
@[simp] theorem Dev.modBay_med (b : BayNo) (f : Bay → Bay) : (d.modBay b f).med = d.med := rfl
@[simp] theorem Dev.modBay_mem (b : BayNo) (f : Bay → Bay) : (d.modBay b f).mem = d.mem := rfl
@[simp] theorem Dev.modBay_mir (b : BayNo) (f : Bay → Bay) : (d.modBay b f).mir = d.mir := rfl
@[simp] theorem Dev.modBay_pow (b : BayNo) (f : Bay → Bay) : (d.modBay b f).pow = d.pow := rfl
@[simp] theorem Dev.modBay_mgmt (b : BayNo) (f : Bay → Bay) : (d.modBay b f).mgmt = d.mgmt := rfl
@[simp] theorem Dev.modBay_sec (b : BayNo) (f : Bay → Bay) : (d.modBay b f).sec = d.sec := rfl
@[simp] theorem Dev.modBay_upd (b : BayNo) (f : Bay → Bay) : (d.modBay b f).upd = d.upd := rfl
@[simp] theorem Dev.modBay_ring (b : BayNo) (f : Bay → Bay) : (d.modBay b f).ring = d.ring := rfl
@[simp] theorem Dev.modBay_out (b : BayNo) (f : Bay → Bay) : (d.modBay b f).out = d.out := rfl
@[simp] theorem Dev.modBay_fresh (b : BayNo) (f : Bay → Bay) : (d.modBay b f).fresh = d.fresh := rfl

/-! ### `Dev.modMirror` -/

@[simp] theorem Dev.modMirror_clk (n : BitVec 12) (f : MirrorNs → MirrorNs) : (d.modMirror n f).clk = d.clk := rfl
@[simp] theorem Dev.modMirror_ev (n : BitVec 12) (f : MirrorNs → MirrorNs) : (d.modMirror n f).ev = d.ev := rfl
@[simp] theorem Dev.modMirror_ctr (n : BitVec 12) (f : MirrorNs → MirrorNs) : (d.modMirror n f).ctr = d.ctr := rfl
@[simp] theorem Dev.modMirror_par (n : BitVec 12) (f : MirrorNs → MirrorNs) : (d.modMirror n f).par = d.par := rfl
@[simp] theorem Dev.modMirror_net (n : BitVec 12) (f : MirrorNs → MirrorNs) : (d.modMirror n f).net = d.net := rfl
@[simp] theorem Dev.modMirror_que (n : BitVec 12) (f : MirrorNs → MirrorNs) : (d.modMirror n f).que = d.que := rfl
@[simp] theorem Dev.modMirror_ns (n : BitVec 12) (f : MirrorNs → MirrorNs) : (d.modMirror n f).ns = d.ns := rfl
@[simp] theorem Dev.modMirror_idx (n : BitVec 12) (f : MirrorNs → MirrorNs) : (d.modMirror n f).idx = d.idx := rfl
@[simp] theorem Dev.modMirror_pol (n : BitVec 12) (f : MirrorNs → MirrorNs) : (d.modMirror n f).pol = d.pol := rfl
@[simp] theorem Dev.modMirror_gale (n : BitVec 12) (f : MirrorNs → MirrorNs) : (d.modMirror n f).gale = d.gale := rfl
@[simp] theorem Dev.modMirror_med (n : BitVec 12) (f : MirrorNs → MirrorNs) : (d.modMirror n f).med = d.med := rfl
@[simp] theorem Dev.modMirror_bays (n : BitVec 12) (f : MirrorNs → MirrorNs) : (d.modMirror n f).bays = d.bays := rfl
@[simp] theorem Dev.modMirror_mem (n : BitVec 12) (f : MirrorNs → MirrorNs) : (d.modMirror n f).mem = d.mem := rfl
@[simp] theorem Dev.modMirror_pow (n : BitVec 12) (f : MirrorNs → MirrorNs) : (d.modMirror n f).pow = d.pow := rfl
@[simp] theorem Dev.modMirror_mgmt (n : BitVec 12) (f : MirrorNs → MirrorNs) : (d.modMirror n f).mgmt = d.mgmt := rfl
@[simp] theorem Dev.modMirror_sec (n : BitVec 12) (f : MirrorNs → MirrorNs) : (d.modMirror n f).sec = d.sec := rfl
@[simp] theorem Dev.modMirror_upd (n : BitVec 12) (f : MirrorNs → MirrorNs) : (d.modMirror n f).upd = d.upd := rfl
@[simp] theorem Dev.modMirror_ring (n : BitVec 12) (f : MirrorNs → MirrorNs) : (d.modMirror n f).ring = d.ring := rfl
@[simp] theorem Dev.modMirror_out (n : BitVec 12) (f : MirrorNs → MirrorNs) : (d.modMirror n f).out = d.out := rfl
@[simp] theorem Dev.modMirror_fresh (n : BitVec 12) (f : MirrorNs → MirrorNs) : (d.modMirror n f).fresh = d.fresh := rfl

/-! ### `Dev.cwFrame` -/

@[simp] theorem Dev.cwFrame_clk (t : CwType) (n : Nat) (b : Bytes) : (d.cwFrame t n b).clk = d.clk := rfl
@[simp] theorem Dev.cwFrame_ev (t : CwType) (n : Nat) (b : Bytes) : (d.cwFrame t n b).ev = d.ev := rfl
@[simp] theorem Dev.cwFrame_ctr (t : CwType) (n : Nat) (b : Bytes) : (d.cwFrame t n b).ctr = d.ctr := rfl
@[simp] theorem Dev.cwFrame_par (t : CwType) (n : Nat) (b : Bytes) : (d.cwFrame t n b).par = d.par := rfl
@[simp] theorem Dev.cwFrame_net (t : CwType) (n : Nat) (b : Bytes) : (d.cwFrame t n b).net = d.net := rfl
@[simp] theorem Dev.cwFrame_que (t : CwType) (n : Nat) (b : Bytes) : (d.cwFrame t n b).que = d.que := rfl
@[simp] theorem Dev.cwFrame_ns (t : CwType) (n : Nat) (b : Bytes) : (d.cwFrame t n b).ns = d.ns := rfl
@[simp] theorem Dev.cwFrame_idx (t : CwType) (n : Nat) (b : Bytes) : (d.cwFrame t n b).idx = d.idx := rfl
@[simp] theorem Dev.cwFrame_pol (t : CwType) (n : Nat) (b : Bytes) : (d.cwFrame t n b).pol = d.pol := rfl
@[simp] theorem Dev.cwFrame_gale (t : CwType) (n : Nat) (b : Bytes) : (d.cwFrame t n b).gale = d.gale := rfl
@[simp] theorem Dev.cwFrame_med (t : CwType) (n : Nat) (b : Bytes) : (d.cwFrame t n b).med = d.med := rfl
@[simp] theorem Dev.cwFrame_bays (t : CwType) (n : Nat) (b : Bytes) : (d.cwFrame t n b).bays = d.bays := rfl
@[simp] theorem Dev.cwFrame_mem (t : CwType) (n : Nat) (b : Bytes) : (d.cwFrame t n b).mem = d.mem := rfl
@[simp] theorem Dev.cwFrame_pow (t : CwType) (n : Nat) (b : Bytes) : (d.cwFrame t n b).pow = d.pow := rfl
@[simp] theorem Dev.cwFrame_mgmt (t : CwType) (n : Nat) (b : Bytes) : (d.cwFrame t n b).mgmt = d.mgmt := rfl
@[simp] theorem Dev.cwFrame_sec (t : CwType) (n : Nat) (b : Bytes) : (d.cwFrame t n b).sec = d.sec := rfl
@[simp] theorem Dev.cwFrame_upd (t : CwType) (n : Nat) (b : Bytes) : (d.cwFrame t n b).upd = d.upd := rfl
@[simp] theorem Dev.cwFrame_ring (t : CwType) (n : Nat) (b : Bytes) : (d.cwFrame t n b).ring = d.ring := rfl
@[simp] theorem Dev.cwFrame_fresh (t : CwType) (n : Nat) (b : Bytes) : (d.cwFrame t n b).fresh = d.fresh := rfl

/-! ### `Dev.setCreds` -/

@[simp] theorem Dev.setCreds_clk (f : List Cred → List Cred) : (d.setCreds f).clk = d.clk := rfl
@[simp] theorem Dev.setCreds_ev (f : List Cred → List Cred) : (d.setCreds f).ev = d.ev := rfl
@[simp] theorem Dev.setCreds_ctr (f : List Cred → List Cred) : (d.setCreds f).ctr = d.ctr := rfl
@[simp] theorem Dev.setCreds_par (f : List Cred → List Cred) : (d.setCreds f).par = d.par := rfl
@[simp] theorem Dev.setCreds_net (f : List Cred → List Cred) : (d.setCreds f).net = d.net := rfl
@[simp] theorem Dev.setCreds_que (f : List Cred → List Cred) : (d.setCreds f).que = d.que := rfl
@[simp] theorem Dev.setCreds_ns (f : List Cred → List Cred) : (d.setCreds f).ns = d.ns := rfl
@[simp] theorem Dev.setCreds_idx (f : List Cred → List Cred) : (d.setCreds f).idx = d.idx := rfl
@[simp] theorem Dev.setCreds_pol (f : List Cred → List Cred) : (d.setCreds f).pol = d.pol := rfl
@[simp] theorem Dev.setCreds_gale (f : List Cred → List Cred) : (d.setCreds f).gale = d.gale := rfl
@[simp] theorem Dev.setCreds_med (f : List Cred → List Cred) : (d.setCreds f).med = d.med := rfl
@[simp] theorem Dev.setCreds_bays (f : List Cred → List Cred) : (d.setCreds f).bays = d.bays := rfl
@[simp] theorem Dev.setCreds_mem (f : List Cred → List Cred) : (d.setCreds f).mem = d.mem := rfl
@[simp] theorem Dev.setCreds_mir (f : List Cred → List Cred) : (d.setCreds f).mir = d.mir := rfl
@[simp] theorem Dev.setCreds_pow (f : List Cred → List Cred) : (d.setCreds f).pow = d.pow := rfl
@[simp] theorem Dev.setCreds_mgmt (f : List Cred → List Cred) : (d.setCreds f).mgmt = d.mgmt := rfl
@[simp] theorem Dev.setCreds_upd (f : List Cred → List Cred) : (d.setCreds f).upd = d.upd := rfl
@[simp] theorem Dev.setCreds_ring (f : List Cred → List Cred) : (d.setCreds f).ring = d.ring := rfl
@[simp] theorem Dev.setCreds_out (f : List Cred → List Cred) : (d.setCreds f).out = d.out := rfl
@[simp] theorem Dev.setCreds_fresh (f : List Cred → List Cred) : (d.setCreds f).fresh = d.fresh := rfl

/-! ### `Dev.setTftp` -/

@[simp] theorem Dev.setTftp_clk (t : Tftp) : (d.setTftp t).clk = d.clk := rfl
@[simp] theorem Dev.setTftp_ev (t : Tftp) : (d.setTftp t).ev = d.ev := rfl
@[simp] theorem Dev.setTftp_ctr (t : Tftp) : (d.setTftp t).ctr = d.ctr := rfl
@[simp] theorem Dev.setTftp_par (t : Tftp) : (d.setTftp t).par = d.par := rfl
@[simp] theorem Dev.setTftp_net (t : Tftp) : (d.setTftp t).net = d.net := rfl
@[simp] theorem Dev.setTftp_que (t : Tftp) : (d.setTftp t).que = d.que := rfl
@[simp] theorem Dev.setTftp_ns (t : Tftp) : (d.setTftp t).ns = d.ns := rfl
@[simp] theorem Dev.setTftp_idx (t : Tftp) : (d.setTftp t).idx = d.idx := rfl
@[simp] theorem Dev.setTftp_pol (t : Tftp) : (d.setTftp t).pol = d.pol := rfl
@[simp] theorem Dev.setTftp_gale (t : Tftp) : (d.setTftp t).gale = d.gale := rfl
@[simp] theorem Dev.setTftp_med (t : Tftp) : (d.setTftp t).med = d.med := rfl
@[simp] theorem Dev.setTftp_bays (t : Tftp) : (d.setTftp t).bays = d.bays := rfl
@[simp] theorem Dev.setTftp_mem (t : Tftp) : (d.setTftp t).mem = d.mem := rfl
@[simp] theorem Dev.setTftp_mir (t : Tftp) : (d.setTftp t).mir = d.mir := rfl
@[simp] theorem Dev.setTftp_pow (t : Tftp) : (d.setTftp t).pow = d.pow := rfl
@[simp] theorem Dev.setTftp_mgmt (t : Tftp) : (d.setTftp t).mgmt = d.mgmt := rfl
@[simp] theorem Dev.setTftp_sec (t : Tftp) : (d.setTftp t).sec = d.sec := rfl
@[simp] theorem Dev.setTftp_ring (t : Tftp) : (d.setTftp t).ring = d.ring := rfl
@[simp] theorem Dev.setTftp_out (t : Tftp) : (d.setTftp t).out = d.out := rfl
@[simp] theorem Dev.setTftp_fresh (t : Tftp) : (d.setTftp t).fresh = d.fresh := rfl

/-! ### `Dev.persistTime` -/

@[simp] theorem Dev.persistTime_ev : (d.persistTime).ev = d.ev := rfl
@[simp] theorem Dev.persistTime_ctr : (d.persistTime).ctr = d.ctr := rfl
@[simp] theorem Dev.persistTime_par : (d.persistTime).par = d.par := rfl
@[simp] theorem Dev.persistTime_net : (d.persistTime).net = d.net := rfl
@[simp] theorem Dev.persistTime_que : (d.persistTime).que = d.que := rfl
@[simp] theorem Dev.persistTime_ns : (d.persistTime).ns = d.ns := rfl
@[simp] theorem Dev.persistTime_idx : (d.persistTime).idx = d.idx := rfl
@[simp] theorem Dev.persistTime_pol : (d.persistTime).pol = d.pol := rfl
@[simp] theorem Dev.persistTime_gale : (d.persistTime).gale = d.gale := rfl
@[simp] theorem Dev.persistTime_med : (d.persistTime).med = d.med := rfl
@[simp] theorem Dev.persistTime_bays : (d.persistTime).bays = d.bays := rfl
@[simp] theorem Dev.persistTime_mem : (d.persistTime).mem = d.mem := rfl
@[simp] theorem Dev.persistTime_mir : (d.persistTime).mir = d.mir := rfl
@[simp] theorem Dev.persistTime_pow : (d.persistTime).pow = d.pow := rfl
@[simp] theorem Dev.persistTime_mgmt : (d.persistTime).mgmt = d.mgmt := rfl
@[simp] theorem Dev.persistTime_sec : (d.persistTime).sec = d.sec := rfl
@[simp] theorem Dev.persistTime_upd : (d.persistTime).upd = d.upd := rfl
@[simp] theorem Dev.persistTime_ring : (d.persistTime).ring = d.ring := rfl
@[simp] theorem Dev.persistTime_out : (d.persistTime).out = d.out := rfl
@[simp] theorem Dev.persistTime_fresh : (d.persistTime).fresh = d.fresh := rfl

/-! ### `Dev.dropCartTemps` -/

@[simp] theorem Dev.dropCartTemps_clk : (d.dropCartTemps).clk = d.clk := rfl
@[simp] theorem Dev.dropCartTemps_ev : (d.dropCartTemps).ev = d.ev := rfl
@[simp] theorem Dev.dropCartTemps_ctr : (d.dropCartTemps).ctr = d.ctr := rfl
@[simp] theorem Dev.dropCartTemps_par : (d.dropCartTemps).par = d.par := rfl
@[simp] theorem Dev.dropCartTemps_net : (d.dropCartTemps).net = d.net := rfl
@[simp] theorem Dev.dropCartTemps_que : (d.dropCartTemps).que = d.que := rfl
@[simp] theorem Dev.dropCartTemps_ns : (d.dropCartTemps).ns = d.ns := rfl
@[simp] theorem Dev.dropCartTemps_idx : (d.dropCartTemps).idx = d.idx := rfl
@[simp] theorem Dev.dropCartTemps_pol : (d.dropCartTemps).pol = d.pol := rfl
@[simp] theorem Dev.dropCartTemps_gale : (d.dropCartTemps).gale = d.gale := rfl
@[simp] theorem Dev.dropCartTemps_med : (d.dropCartTemps).med = d.med := rfl
@[simp] theorem Dev.dropCartTemps_bays : (d.dropCartTemps).bays = d.bays := rfl
@[simp] theorem Dev.dropCartTemps_mem : (d.dropCartTemps).mem = d.mem := rfl
@[simp] theorem Dev.dropCartTemps_mir : (d.dropCartTemps).mir = d.mir := rfl
@[simp] theorem Dev.dropCartTemps_mgmt : (d.dropCartTemps).mgmt = d.mgmt := rfl
@[simp] theorem Dev.dropCartTemps_sec : (d.dropCartTemps).sec = d.sec := rfl
@[simp] theorem Dev.dropCartTemps_upd : (d.dropCartTemps).upd = d.upd := rfl
@[simp] theorem Dev.dropCartTemps_ring : (d.dropCartTemps).ring = d.ring := rfl
@[simp] theorem Dev.dropCartTemps_out : (d.dropCartTemps).out = d.out := rfl
@[simp] theorem Dev.dropCartTemps_fresh : (d.dropCartTemps).fresh = d.fresh := rfl

/-! ### What an update makes of its own part -/

@[simp] theorem Dev.emitOut_out (o : Out) :
    (d.emitOut o).out = o :: d.out := rfl
@[simp] theorem Dev.bump_ctr (c : Ctr) (n : Nat) :
    (d.bump c n).ctr = bumpList d.ctr c n := rfl
@[simp] theorem Dev.modSession_sessions (sid : BitVec 32) (f : Session → Session) :
    (d.modSession sid f).net.sessions = d.net.sessions.map (fun s => if s.sid == sid then f s else s) := rfl
@[simp] theorem Dev.modCap_caps (c : Cap) (f : Cap → Cap) :
    (d.modCap c f).que.caps = d.que.caps.map (fun x => if x.sid == c.sid && x.start == c.start then f x else x) := rfl
@[simp] theorem Dev.modCap_drift (c : Cap) (f : Cap → Cap) :
    (d.modCap c f).que.drift = d.que.drift := rfl
@[simp] theorem Dev.dropCap_drift (c : Cap) :
    (d.dropCap c).que.drift = d.que.drift := rfl
@[simp] theorem Dev.dropCap_caps (c : Cap) :
    (d.dropCap c).que.caps = d.que.caps.filter (fun x => !(x.sid == c.sid && x.start == c.start)) := rfl
@[simp] theorem Dev.modVer_drift (n : Nat) (f : Version → Version) :
    (d.modVer n f).que.drift = d.que.drift.map (fun v => if v.seq == n then f v else v) := rfl
@[simp] theorem Dev.modVer_caps (n : Nat) (f : Version → Version) :
    (d.modVer n f).que.caps = d.que.caps := rfl
@[simp] theorem Dev.modNs_ns (n : BitVec 12) (f : Namespace → Namespace) :
    (d.modNs n f).ns = d.ns.map (fun x => if x.id == n then f x else x) := rfl
@[simp] theorem Dev.modBucket_buckets (n : BitVec 12) (lo : Nat) (f : Bucket → Bucket) :
    (d.modBucket n lo f).idx.buckets = d.idx.buckets.map (fun b => if b.ns == n && b.lo == lo then f b else b) := rfl
@[simp] theorem Dev.modBucket_uploads (n : BitVec 12) (lo : Nat) (f : Bucket → Bucket) :
    (d.modBucket n lo f).idx.uploads = d.idx.uploads := rfl
@[simp] theorem Dev.modUpload_uploads (id : Nat) (f : Upload → Upload) :
    (d.modUpload id f).idx.uploads = d.idx.uploads.map (fun u => if u.id == id then f u else u) := rfl
@[simp] theorem Dev.modUpload_buckets (id : Nat) (f : Upload → Upload) :
    (d.modUpload id f).idx.buckets = d.idx.buckets := rfl
@[simp] theorem Dev.modTenant_tenants (t : BitVec 32) (f : Tenant → Tenant) :
    (d.modTenant t f).pol.tenants = d.pol.tenants.map (fun x => if x.id == t then f x else x) := rfl
@[simp] theorem Dev.modGale_gale (f : Gale → Gale) :
    (d.modGale f).gale = f d.gale := rfl
@[simp] theorem Dev.modBay_bays (b : BayNo) (f : Bay → Bay) :
    (d.modBay b f).bays = d.bays.set b (f (d.bays.get b)) := rfl
@[simp] theorem Dev.modMirror_nss (n : BitVec 12) (f : MirrorNs → MirrorNs) :
    (d.modMirror n f).mir.nss = d.mir.nss.map (fun m => if m.ns == n then f m else m) := rfl
@[simp] theorem Dev.modRead_reads (id : Nat) (f : Read → Read) :
    (d.modRead id f).med.reads = d.med.reads.map (fun r => if r.id == id then f r else r) := rfl
@[simp] theorem Dev.modCopy_copies (loc gen : Nat) (f : Copy → Copy) :
    (d.modCopy loc gen f).med.copies = d.med.copies.map (fun c => if c.loc == loc && c.gen == gen then f c else c) := rfl
@[simp] theorem Dev.modBatch_batches (id : Nat) (f : Batch → Batch) :
    (d.modBatch id f).med.batches = d.med.batches.map (fun b => if b.id == id then f b else b) := rfl
@[simp] theorem Dev.modPart_uploads (id seq : Nat) (f : Part → Part) :
    (d.modPart id seq f).idx.uploads = d.idx.uploads.map (fun u => if u.id == id then { u with parts := u.parts.map (fun p => if p.seq == seq then f p else p) } else u) := rfl
@[simp] theorem Dev.unhold_held (x : CwHeld) :
    (d.unhold x).mir.held = d.mir.held.filter (·.psn != x.psn) := rfl
@[simp] theorem Dev.setCreds_creds (f : List Cred → List Cred) :
    (d.setCreds f).sec.creds = f d.sec.creds := rfl
@[simp] theorem Dev.setTftp_tftp (t : Tftp) :
    (d.setTftp t).upd.tftp = some t := rfl

/-- The bay that is changed, and every other one. -/
@[simp] theorem Dev.modBay_get_same (b : BayNo) (f : Bay → Bay) : (d.modBay b f).bays.get b = f (d.bays.get b) := by
  show (d.bays.set b.val (f (d.bays.get b)) b.isLt)[b.val] = f (d.bays.get b)
  simp
theorem Dev.modBay_get_other (b c : BayNo) (f : Bay → Bay) (h : b ≠ c) : (d.modBay b f).bays.get c = d.bays.get c := by
  show (d.bays.set b.val (f (d.bays.get b)) b.isLt)[c.val] = d.bays[c.val]
  exact Vector.getElem_set_ne _ _ (fun e => h (Fin.ext e))

end Sys2Proof.Machine
end

