-- ==== Sys2Proof/Laws/Core.lean ====
section
/-! SUPPORT. What events, notices, packets and replies can touch: the streams, the counters, the Barograph, the sideband queue, the
rate limits and the outputs. `coreOf` is the drive without these; each shared operation of that kind leaves it as it is, and so every
field in it. -/

namespace Sys2Proof.Machine

/-- The drive without what sending and recording touch. -/
def coreOf (d : Dev) : Dev :=
  { d with net := Net.reset, out := [], ctr := [], ev := Events.reset, mgmt := Mgmt.reset, clk := { d.clk with holds := [], windows := [] } }

/-- Equal cores have equal fields. -/
theorem core_par {d e : Dev} (h : coreOf d = coreOf e) : d.par = e.par := by have := congrArg Dev.par h; exact this
theorem core_que {d e : Dev} (h : coreOf d = coreOf e) : d.que = e.que := by have := congrArg Dev.que h; exact this
theorem core_ns {d e : Dev} (h : coreOf d = coreOf e) : d.ns = e.ns := by have := congrArg Dev.ns h; exact this
theorem core_idx {d e : Dev} (h : coreOf d = coreOf e) : d.idx = e.idx := by have := congrArg Dev.idx h; exact this
theorem core_pol {d e : Dev} (h : coreOf d = coreOf e) : d.pol = e.pol := by have := congrArg Dev.pol h; exact this
theorem core_gale {d e : Dev} (h : coreOf d = coreOf e) : d.gale = e.gale := by have := congrArg Dev.gale h; exact this
theorem core_med {d e : Dev} (h : coreOf d = coreOf e) : d.med = e.med := by have := congrArg Dev.med h; exact this
theorem core_bays {d e : Dev} (h : coreOf d = coreOf e) : d.bays = e.bays := by have := congrArg Dev.bays h; exact this
theorem core_mem {d e : Dev} (h : coreOf d = coreOf e) : d.mem = e.mem := by have := congrArg Dev.mem h; exact this
theorem core_mir {d e : Dev} (h : coreOf d = coreOf e) : d.mir = e.mir := by have := congrArg Dev.mir h; exact this
theorem core_pow {d e : Dev} (h : coreOf d = coreOf e) : d.pow = e.pow := by have := congrArg Dev.pow h; exact this
theorem core_sec {d e : Dev} (h : coreOf d = coreOf e) : d.sec = e.sec := by have := congrArg Dev.sec h; exact this
theorem core_upd {d e : Dev} (h : coreOf d = coreOf e) : d.upd = e.upd := by have := congrArg Dev.upd h; exact this
theorem core_ring {d e : Dev} (h : coreOf d = coreOf e) : d.ring = e.ring := by have := congrArg Dev.ring h; exact this
theorem core_fresh {d e : Dev} (h : coreOf d = coreOf e) : d.fresh = e.fresh := by have := congrArg Dev.fresh h; exact this
theorem core_clk_tick {d e : Dev} (h : coreOf d = coreOf e) : d.clk.tick = e.clk.tick := by
  have := congrArg (fun x : Dev => x.clk.tick) h; exact this
theorem core_clk_ns {d e : Dev} (h : coreOf d = coreOf e) : d.clk.ns = e.clk.ns := by
  have := congrArg (fun x : Dev => x.clk.ns) h; exact this
theorem core_clk_source {d e : Dev} (h : coreOf d = coreOf e) : d.clk.source = e.clk.source := by
  have := congrArg (fun x : Dev => x.clk.source) h; exact this

/-- A fold of steps that leave the core leaves the core. -/
theorem coreOf_foldl {α : Type} (f : Dev → α → Dev) (h : ∀ d a, coreOf (f d a) = coreOf d) (l : List α) (d : Dev) :
    coreOf (l.foldl f d) = coreOf d := by
  induction l generalizing d with
  | nil => rfl
  | cons a l ih => rw [List.foldl_cons, ih, h]

@[simp] theorem Dev.emitOut_core (d : Dev) (o : Out) : coreOf (d.emitOut o) = coreOf d := rfl
@[simp] theorem Dev.bump_core (d : Dev) (c : Ctr) (n : Nat) : coreOf (d.bump c n) = coreOf d := rfl
@[simp] theorem Dev.modSession_core (d : Dev) (sid : BitVec 32) (f : Session → Session) : coreOf (d.modSession sid f) = coreOf d := rfl
@[simp] theorem Dev.emitOuts_core (d : Dev) (l : List Out) : coreOf (d.emitOuts l) = coreOf d :=
  coreOf_foldl Dev.emitOut (fun _ _ => rfl) l d

/-- A hold-off and a window change the rate limits only. -/
@[simp] theorem Dev.holdOff_core (d : Dev) (k : Nat) : coreOf (d.holdOff k).2.2 = coreOf d := rfl
@[simp] theorem Dev.window_core (d : Dev) (k n : Nat) : coreOf (d.window k n).2 = coreOf d := by
  unfold Dev.window
  dsimp only
  repeat' split
  all_goals rfl

/-- A packet is on the wire, held, or lost. -/
@[simp] theorem Dev.wire_core (d : Dev) (k : OutPacket) : coreOf (d.wire k) = coreOf d := by
  unfold Dev.wire
  split
  · rfl
  · split <;> rfl

@[simp] theorem Dev.sendPacket_core (d : Dev) (sid : BitVec 32) (t : PktType) (cls off : Nat) (a b : Bool) (pl : Bytes) (n : Nat) :
    coreOf (d.sendPacket sid t cls off a b pl n) = coreOf d := by
  unfold Dev.sendPacket
  split
  · rfl
  · split
    · dsimp only
      rw [Dev.wire_core, Dev.bump_core, Dev.bump_core, Dev.modSession_core]
    · rfl
@[simp] theorem Dev.sendAck_core (d : Dev) (sid : BitVec 32) : coreOf (d.sendAck sid) = coreOf d := Dev.sendPacket_core ..

@[simp] theorem Dev.pumpNotices_core (d : Dev) (sid : BitVec 32) (n : Nat) : coreOf (d.pumpNotices sid n) = coreOf d := by
  induction n generalizing d with
  | zero => rfl
  | succ n ih =>
    unfold Dev.pumpNotices
    split
    · rfl
    · split
      · rfl
      · split
        · rw [ih, Dev.sendPacket_core, Dev.modSession_core]
        · rfl

@[simp] theorem Dev.notify_core (d : Dev) (sid : BitVec 32) (k : NoticeKind) (b : Bytes) : coreOf (d.notify sid k b) = coreOf d := by
  unfold Dev.notify
  split
  · rfl
  · split
    · dsimp only
      rw [Dev.pumpNotices_core, Dev.modSession_core, Dev.emitOut_core]
    · rfl
@[simp] theorem Dev.notifyAll_core (d : Dev) (k : NoticeKind) (f : Session → Bytes) : coreOf (d.notifyAll k f) = coreOf d :=
  coreOf_foldl (fun (d : Dev) (s : Session) => d.notify s.sid k (f s)) (fun d s => Dev.notify_core d s.sid k (f s)) _ d

theorem Dev.pumpOne_core (d e : Dev) (s : Session) (h : d.pumpOne s = some e) : coreOf e = coreOf d := by
  unfold Dev.pumpOne at h
  split at h
  · cases h
  · dsimp only at h
    split at h
    · simp only [Option.some.injEq] at h
      rw [← h, Dev.sendPacket_core, Dev.modSession_core]
      split <;> rfl
    · cases h
@[simp] theorem Dev.pumpReplies_core (d : Dev) (sid : BitVec 32) (n : Nat) : coreOf (d.pumpReplies sid n) = coreOf d := by
  induction n generalizing d with
  | zero => rfl
  | succ n ih =>
    unfold Dev.pumpReplies
    split
    · rfl
    · split
      · rename_i h
        rw [ih, Dev.pumpOne_core _ _ _ h]
      · rfl
@[simp] theorem Dev.pump_core (d : Dev) (sid : BitVec 32) : coreOf (d.pump sid) = coreOf d := by
  unfold Dev.pump
  split
  · rfl
  · dsimp only
    rw [Dev.modSession_core, Dev.pumpNotices_core, Dev.pumpReplies_core]

/-! ## Events -/

@[simp] theorem Dev.noticeEvent_core (d : Dev) (r : Rec) (s : Session) : coreOf (d.noticeEvent r s) = coreOf d := by
  unfold Dev.noticeEvent
  split
  · rfl
  · rename_i x _
    have hw := Dev.window_core d (rateKey 5 x.sid.toNat) (d.pnum P.mgmtNoticeRateMax)
    split
    · split <;> rename_i heq <;> rw [heq] at hw
      · rw [Dev.bump_core]; exact hw
      · split
        · rw [Dev.notify_core]; exact hw
        · split
          · rw [Dev.modSession_core]; exact hw
          · rw [Dev.bump_core]; exact hw
    · rfl
@[simp] theorem Dev.queuePldm_core (d : Dev) (e : PldmEvent) : coreOf (d.queuePldm e) = coreOf d := by
  unfold Dev.queuePldm
  split
  · rfl
  · dsimp only
    split <;> rfl
@[simp] theorem Dev.sendSse_core (d : Dev) (r : Rec) : coreOf (d.sendSse r) = coreOf d := by
  refine coreOf_foldl _ (fun d c => ?_) _ d
  split
  · split <;> rfl
  · rfl
/-- Raising an event touches the Barograph, the notices, the streams and the sideband queue, and nothing else. -/
@[simp] theorem Dev.raise_core (d : Dev) (e : Ev) (a b c x : Nat) : coreOf (d.raise e a b c x) = coreOf d := by
  unfold Dev.raise
  split
  · rfl
  · dsimp only
    split
    · rw [Dev.queuePldm_core, Dev.sendSse_core, coreOf_foldl _ (fun d s => Dev.noticeEvent_core d _ s)]
      rfl
    · rw [Dev.sendSse_core, coreOf_foldl _ (fun d s => Dev.noticeEvent_core d _ s)]
      rfl
@[simp] theorem Dev.raiseHeld_core (d : Dev) (e : Ev) (k : Nat) (f : Nat → Nat × Nat × Nat × Nat) :
    coreOf (d.raiseHeld e k f) = coreOf d := by
  have hh := Dev.holdOff_core d (rateKey e.code k)
  unfold Dev.raiseHeld
  split <;> rename_i heq <;> rw [heq] at hh
  · rw [Dev.raise_core]; exact hh
  · exact hh

/-! ## Replies -/

@[simp] theorem Dev.recomputePools_core (d : Dev) : coreOf d.recomputePools = coreOf d := by
  unfold Dev.recomputePools
  dsimp only
  rw [Dev.notifyAll_core]
  rfl
@[simp] theorem Dev.enterHist_core (d : Dev) (c : Cap) : coreOf (d.enterHist c) = coreOf d := by
  unfold Dev.enterHist
  split <;> rfl
@[simp] theorem Dev.placeBytes_core (d : Dev) (c : Cap) (r : Reply) : coreOf (d.placeBytes c r) = coreOf d := by
  unfold Dev.placeBytes
  split
  · rfl
  · dsimp only
    rw [Dev.pump_core, Dev.modSession_core, Dev.emitOut_core]
@[simp] theorem Dev.endCharge_core (d : Dev) (sid : BitVec 32) (n : Nat) : coreOf (d.endCharge sid n) = coreOf d := by
  unfold Dev.endCharge
  split <;> rfl
/-- A capsule of a session that finishes is taken out, and its reply goes; nothing else of the core changes. -/
theorem Dev.finish_core (d : Dev) (c : Cap) (r : Reply) (h : c.partner = none) :
    coreOf (d.finish c r) = coreOf (d.dropCap c) := by
  unfold Dev.finish
  rw [h]
  have := congrArg (fun x : Dev => x.dropCap c) ((Dev.enterHist_core (d.placeBytes c r) c).trans (Dev.placeBytes_core d c r))
  exact this
theorem Dev.finishFree_core (d : Dev) (c : Cap) (r : Reply) (h : c.partner = none) :
    coreOf (d.finishFree c r) = coreOf (d.dropCap c) := by
  unfold Dev.finishFree
  have hf := Dev.finish_core d c r h
  show coreOf ((d.finish c r).endCharge c.sid c.start) = _
  rw [Dev.endCharge_core, hf]

/-- Reporting the mode changes, of the core, the mode alone (R431). -/
theorem Dev.reportMode_core (d : Dev) :
    coreOf d.reportMode = coreOf { d with par := { d.par with mode := if d.reports then d.modeNow else d.par.mode } } := by
  unfold Dev.reportMode
  split
  · unfold Dev.refreshMode
    dsimp only
    split
    · rename_i h
      rw [beq_iff_eq] at h
      rw [h]
    · rw [Dev.raise_core, Dev.notifyAll_core]
  · rfl

/-! ## Field by field -/

@[simp] theorem Dev.raise_par (d : Dev) (e : Ev) (p q u v : Nat) : (d.raise e p q u v).par = d.par :=
  core_par (Dev.raise_core d e p q u v)
@[simp] theorem Dev.raise_que (d : Dev) (e : Ev) (p q u v : Nat) : (d.raise e p q u v).que = d.que :=
  core_que (Dev.raise_core d e p q u v)
@[simp] theorem Dev.raise_ns (d : Dev) (e : Ev) (p q u v : Nat) : (d.raise e p q u v).ns = d.ns :=
  core_ns (Dev.raise_core d e p q u v)
@[simp] theorem Dev.raise_idx (d : Dev) (e : Ev) (p q u v : Nat) : (d.raise e p q u v).idx = d.idx :=
  core_idx (Dev.raise_core d e p q u v)
@[simp] theorem Dev.raise_pol (d : Dev) (e : Ev) (p q u v : Nat) : (d.raise e p q u v).pol = d.pol :=
  core_pol (Dev.raise_core d e p q u v)
@[simp] theorem Dev.raise_gale (d : Dev) (e : Ev) (p q u v : Nat) : (d.raise e p q u v).gale = d.gale :=
  core_gale (Dev.raise_core d e p q u v)
@[simp] theorem Dev.raise_med (d : Dev) (e : Ev) (p q u v : Nat) : (d.raise e p q u v).med = d.med :=
  core_med (Dev.raise_core d e p q u v)
@[simp] theorem Dev.raise_bays (d : Dev) (e : Ev) (p q u v : Nat) : (d.raise e p q u v).bays = d.bays :=
  core_bays (Dev.raise_core d e p q u v)
@[simp] theorem Dev.raise_mem (d : Dev) (e : Ev) (p q u v : Nat) : (d.raise e p q u v).mem = d.mem :=
  core_mem (Dev.raise_core d e p q u v)
@[simp] theorem Dev.raise_mir (d : Dev) (e : Ev) (p q u v : Nat) : (d.raise e p q u v).mir = d.mir :=
  core_mir (Dev.raise_core d e p q u v)
@[simp] theorem Dev.raise_pow (d : Dev) (e : Ev) (p q u v : Nat) : (d.raise e p q u v).pow = d.pow :=
  core_pow (Dev.raise_core d e p q u v)
@[simp] theorem Dev.raise_sec (d : Dev) (e : Ev) (p q u v : Nat) : (d.raise e p q u v).sec = d.sec :=
  core_sec (Dev.raise_core d e p q u v)
@[simp] theorem Dev.raise_upd (d : Dev) (e : Ev) (p q u v : Nat) : (d.raise e p q u v).upd = d.upd :=
  core_upd (Dev.raise_core d e p q u v)
@[simp] theorem Dev.raise_ring (d : Dev) (e : Ev) (p q u v : Nat) : (d.raise e p q u v).ring = d.ring :=
  core_ring (Dev.raise_core d e p q u v)
@[simp] theorem Dev.raise_fresh (d : Dev) (e : Ev) (p q u v : Nat) : (d.raise e p q u v).fresh = d.fresh :=
  core_fresh (Dev.raise_core d e p q u v)
@[simp] theorem Dev.raise_clk_tick (d : Dev) (e : Ev) (p q u v : Nat) : (d.raise e p q u v).clk.tick = d.clk.tick :=
  core_clk_tick (Dev.raise_core d e p q u v)
@[simp] theorem Dev.raise_clk_ns (d : Dev) (e : Ev) (p q u v : Nat) : (d.raise e p q u v).clk.ns = d.clk.ns :=
  core_clk_ns (Dev.raise_core d e p q u v)
@[simp] theorem Dev.raise_clk_source (d : Dev) (e : Ev) (p q u v : Nat) : (d.raise e p q u v).clk.source = d.clk.source :=
  core_clk_source (Dev.raise_core d e p q u v)
@[simp] theorem Dev.raiseHeld_par (d : Dev) (e : Ev) (k : Nat) (f : Nat → Nat × Nat × Nat × Nat) : (d.raiseHeld e k f).par = d.par :=
  core_par (Dev.raiseHeld_core d e k f)
@[simp] theorem Dev.raiseHeld_que (d : Dev) (e : Ev) (k : Nat) (f : Nat → Nat × Nat × Nat × Nat) : (d.raiseHeld e k f).que = d.que :=
  core_que (Dev.raiseHeld_core d e k f)
@[simp] theorem Dev.raiseHeld_ns (d : Dev) (e : Ev) (k : Nat) (f : Nat → Nat × Nat × Nat × Nat) : (d.raiseHeld e k f).ns = d.ns :=
  core_ns (Dev.raiseHeld_core d e k f)
@[simp] theorem Dev.raiseHeld_idx (d : Dev) (e : Ev) (k : Nat) (f : Nat → Nat × Nat × Nat × Nat) : (d.raiseHeld e k f).idx = d.idx :=
  core_idx (Dev.raiseHeld_core d e k f)
@[simp] theorem Dev.raiseHeld_pol (d : Dev) (e : Ev) (k : Nat) (f : Nat → Nat × Nat × Nat × Nat) : (d.raiseHeld e k f).pol = d.pol :=
  core_pol (Dev.raiseHeld_core d e k f)
@[simp] theorem Dev.raiseHeld_gale (d : Dev) (e : Ev) (k : Nat) (f : Nat → Nat × Nat × Nat × Nat) : (d.raiseHeld e k f).gale = d.gale :=
  core_gale (Dev.raiseHeld_core d e k f)
@[simp] theorem Dev.raiseHeld_med (d : Dev) (e : Ev) (k : Nat) (f : Nat → Nat × Nat × Nat × Nat) : (d.raiseHeld e k f).med = d.med :=
  core_med (Dev.raiseHeld_core d e k f)
@[simp] theorem Dev.raiseHeld_bays (d : Dev) (e : Ev) (k : Nat) (f : Nat → Nat × Nat × Nat × Nat) : (d.raiseHeld e k f).bays = d.bays :=
  core_bays (Dev.raiseHeld_core d e k f)
@[simp] theorem Dev.raiseHeld_mem (d : Dev) (e : Ev) (k : Nat) (f : Nat → Nat × Nat × Nat × Nat) : (d.raiseHeld e k f).mem = d.mem :=
  core_mem (Dev.raiseHeld_core d e k f)
@[simp] theorem Dev.raiseHeld_mir (d : Dev) (e : Ev) (k : Nat) (f : Nat → Nat × Nat × Nat × Nat) : (d.raiseHeld e k f).mir = d.mir :=
  core_mir (Dev.raiseHeld_core d e k f)
@[simp] theorem Dev.raiseHeld_pow (d : Dev) (e : Ev) (k : Nat) (f : Nat → Nat × Nat × Nat × Nat) : (d.raiseHeld e k f).pow = d.pow :=
  core_pow (Dev.raiseHeld_core d e k f)
@[simp] theorem Dev.raiseHeld_sec (d : Dev) (e : Ev) (k : Nat) (f : Nat → Nat × Nat × Nat × Nat) : (d.raiseHeld e k f).sec = d.sec :=
  core_sec (Dev.raiseHeld_core d e k f)
@[simp] theorem Dev.raiseHeld_upd (d : Dev) (e : Ev) (k : Nat) (f : Nat → Nat × Nat × Nat × Nat) : (d.raiseHeld e k f).upd = d.upd :=
  core_upd (Dev.raiseHeld_core d e k f)
@[simp] theorem Dev.raiseHeld_ring (d : Dev) (e : Ev) (k : Nat) (f : Nat → Nat × Nat × Nat × Nat) : (d.raiseHeld e k f).ring = d.ring :=
  core_ring (Dev.raiseHeld_core d e k f)
@[simp] theorem Dev.raiseHeld_fresh (d : Dev) (e : Ev) (k : Nat) (f : Nat → Nat × Nat × Nat × Nat) : (d.raiseHeld e k f).fresh = d.fresh :=
  core_fresh (Dev.raiseHeld_core d e k f)
@[simp] theorem Dev.raiseHeld_clk_tick (d : Dev) (e : Ev) (k : Nat) (f : Nat → Nat × Nat × Nat × Nat) : (d.raiseHeld e k f).clk.tick = d.clk.tick :=
  core_clk_tick (Dev.raiseHeld_core d e k f)
@[simp] theorem Dev.raiseHeld_clk_ns (d : Dev) (e : Ev) (k : Nat) (f : Nat → Nat × Nat × Nat × Nat) : (d.raiseHeld e k f).clk.ns = d.clk.ns :=
  core_clk_ns (Dev.raiseHeld_core d e k f)
@[simp] theorem Dev.raiseHeld_clk_source (d : Dev) (e : Ev) (k : Nat) (f : Nat → Nat × Nat × Nat × Nat) : (d.raiseHeld e k f).clk.source = d.clk.source :=
  core_clk_source (Dev.raiseHeld_core d e k f)
@[simp] theorem Dev.notify_par (d : Dev) (sid : BitVec 32) (k : NoticeKind) (b : Bytes) : (d.notify sid k b).par = d.par :=
  core_par (Dev.notify_core d sid k b)
@[simp] theorem Dev.notify_que (d : Dev) (sid : BitVec 32) (k : NoticeKind) (b : Bytes) : (d.notify sid k b).que = d.que :=
  core_que (Dev.notify_core d sid k b)
@[simp] theorem Dev.notify_ns (d : Dev) (sid : BitVec 32) (k : NoticeKind) (b : Bytes) : (d.notify sid k b).ns = d.ns :=
  core_ns (Dev.notify_core d sid k b)
@[simp] theorem Dev.notify_idx (d : Dev) (sid : BitVec 32) (k : NoticeKind) (b : Bytes) : (d.notify sid k b).idx = d.idx :=
  core_idx (Dev.notify_core d sid k b)
@[simp] theorem Dev.notify_pol (d : Dev) (sid : BitVec 32) (k : NoticeKind) (b : Bytes) : (d.notify sid k b).pol = d.pol :=
  core_pol (Dev.notify_core d sid k b)
@[simp] theorem Dev.notify_gale (d : Dev) (sid : BitVec 32) (k : NoticeKind) (b : Bytes) : (d.notify sid k b).gale = d.gale :=
  core_gale (Dev.notify_core d sid k b)
@[simp] theorem Dev.notify_med (d : Dev) (sid : BitVec 32) (k : NoticeKind) (b : Bytes) : (d.notify sid k b).med = d.med :=
  core_med (Dev.notify_core d sid k b)
@[simp] theorem Dev.notify_bays (d : Dev) (sid : BitVec 32) (k : NoticeKind) (b : Bytes) : (d.notify sid k b).bays = d.bays :=
  core_bays (Dev.notify_core d sid k b)
@[simp] theorem Dev.notify_mem (d : Dev) (sid : BitVec 32) (k : NoticeKind) (b : Bytes) : (d.notify sid k b).mem = d.mem :=
  core_mem (Dev.notify_core d sid k b)
@[simp] theorem Dev.notify_mir (d : Dev) (sid : BitVec 32) (k : NoticeKind) (b : Bytes) : (d.notify sid k b).mir = d.mir :=
  core_mir (Dev.notify_core d sid k b)
@[simp] theorem Dev.notify_pow (d : Dev) (sid : BitVec 32) (k : NoticeKind) (b : Bytes) : (d.notify sid k b).pow = d.pow :=
  core_pow (Dev.notify_core d sid k b)
@[simp] theorem Dev.notify_sec (d : Dev) (sid : BitVec 32) (k : NoticeKind) (b : Bytes) : (d.notify sid k b).sec = d.sec :=
  core_sec (Dev.notify_core d sid k b)
@[simp] theorem Dev.notify_upd (d : Dev) (sid : BitVec 32) (k : NoticeKind) (b : Bytes) : (d.notify sid k b).upd = d.upd :=
  core_upd (Dev.notify_core d sid k b)
@[simp] theorem Dev.notify_ring (d : Dev) (sid : BitVec 32) (k : NoticeKind) (b : Bytes) : (d.notify sid k b).ring = d.ring :=
  core_ring (Dev.notify_core d sid k b)
@[simp] theorem Dev.notify_fresh (d : Dev) (sid : BitVec 32) (k : NoticeKind) (b : Bytes) : (d.notify sid k b).fresh = d.fresh :=
  core_fresh (Dev.notify_core d sid k b)
@[simp] theorem Dev.notify_clk_tick (d : Dev) (sid : BitVec 32) (k : NoticeKind) (b : Bytes) : (d.notify sid k b).clk.tick = d.clk.tick :=
  core_clk_tick (Dev.notify_core d sid k b)
@[simp] theorem Dev.notify_clk_ns (d : Dev) (sid : BitVec 32) (k : NoticeKind) (b : Bytes) : (d.notify sid k b).clk.ns = d.clk.ns :=
  core_clk_ns (Dev.notify_core d sid k b)
@[simp] theorem Dev.notify_clk_source (d : Dev) (sid : BitVec 32) (k : NoticeKind) (b : Bytes) : (d.notify sid k b).clk.source = d.clk.source :=
  core_clk_source (Dev.notify_core d sid k b)
@[simp] theorem Dev.notifyAll_par (d : Dev) (k : NoticeKind) (f : Session → Bytes) : (d.notifyAll k f).par = d.par :=
  core_par (Dev.notifyAll_core d k f)
@[simp] theorem Dev.notifyAll_que (d : Dev) (k : NoticeKind) (f : Session → Bytes) : (d.notifyAll k f).que = d.que :=
  core_que (Dev.notifyAll_core d k f)
@[simp] theorem Dev.notifyAll_ns (d : Dev) (k : NoticeKind) (f : Session → Bytes) : (d.notifyAll k f).ns = d.ns :=
  core_ns (Dev.notifyAll_core d k f)
@[simp] theorem Dev.notifyAll_idx (d : Dev) (k : NoticeKind) (f : Session → Bytes) : (d.notifyAll k f).idx = d.idx :=
  core_idx (Dev.notifyAll_core d k f)
@[simp] theorem Dev.notifyAll_pol (d : Dev) (k : NoticeKind) (f : Session → Bytes) : (d.notifyAll k f).pol = d.pol :=
  core_pol (Dev.notifyAll_core d k f)
@[simp] theorem Dev.notifyAll_gale (d : Dev) (k : NoticeKind) (f : Session → Bytes) : (d.notifyAll k f).gale = d.gale :=
  core_gale (Dev.notifyAll_core d k f)
@[simp] theorem Dev.notifyAll_med (d : Dev) (k : NoticeKind) (f : Session → Bytes) : (d.notifyAll k f).med = d.med :=
  core_med (Dev.notifyAll_core d k f)
@[simp] theorem Dev.notifyAll_bays (d : Dev) (k : NoticeKind) (f : Session → Bytes) : (d.notifyAll k f).bays = d.bays :=
  core_bays (Dev.notifyAll_core d k f)
@[simp] theorem Dev.notifyAll_mem (d : Dev) (k : NoticeKind) (f : Session → Bytes) : (d.notifyAll k f).mem = d.mem :=
  core_mem (Dev.notifyAll_core d k f)
@[simp] theorem Dev.notifyAll_mir (d : Dev) (k : NoticeKind) (f : Session → Bytes) : (d.notifyAll k f).mir = d.mir :=
  core_mir (Dev.notifyAll_core d k f)
@[simp] theorem Dev.notifyAll_pow (d : Dev) (k : NoticeKind) (f : Session → Bytes) : (d.notifyAll k f).pow = d.pow :=
  core_pow (Dev.notifyAll_core d k f)
@[simp] theorem Dev.notifyAll_sec (d : Dev) (k : NoticeKind) (f : Session → Bytes) : (d.notifyAll k f).sec = d.sec :=
  core_sec (Dev.notifyAll_core d k f)
@[simp] theorem Dev.notifyAll_upd (d : Dev) (k : NoticeKind) (f : Session → Bytes) : (d.notifyAll k f).upd = d.upd :=
  core_upd (Dev.notifyAll_core d k f)
@[simp] theorem Dev.notifyAll_ring (d : Dev) (k : NoticeKind) (f : Session → Bytes) : (d.notifyAll k f).ring = d.ring :=
  core_ring (Dev.notifyAll_core d k f)
@[simp] theorem Dev.notifyAll_fresh (d : Dev) (k : NoticeKind) (f : Session → Bytes) : (d.notifyAll k f).fresh = d.fresh :=
  core_fresh (Dev.notifyAll_core d k f)
@[simp] theorem Dev.notifyAll_clk_tick (d : Dev) (k : NoticeKind) (f : Session → Bytes) : (d.notifyAll k f).clk.tick = d.clk.tick :=
  core_clk_tick (Dev.notifyAll_core d k f)
@[simp] theorem Dev.notifyAll_clk_ns (d : Dev) (k : NoticeKind) (f : Session → Bytes) : (d.notifyAll k f).clk.ns = d.clk.ns :=
  core_clk_ns (Dev.notifyAll_core d k f)
@[simp] theorem Dev.notifyAll_clk_source (d : Dev) (k : NoticeKind) (f : Session → Bytes) : (d.notifyAll k f).clk.source = d.clk.source :=
  core_clk_source (Dev.notifyAll_core d k f)
@[simp] theorem Dev.pump_par (d : Dev) (sid : BitVec 32) : (d.pump sid).par = d.par :=
  core_par (Dev.pump_core d sid)
@[simp] theorem Dev.pump_que (d : Dev) (sid : BitVec 32) : (d.pump sid).que = d.que :=
  core_que (Dev.pump_core d sid)
@[simp] theorem Dev.pump_ns (d : Dev) (sid : BitVec 32) : (d.pump sid).ns = d.ns :=
  core_ns (Dev.pump_core d sid)
@[simp] theorem Dev.pump_idx (d : Dev) (sid : BitVec 32) : (d.pump sid).idx = d.idx :=
  core_idx (Dev.pump_core d sid)
@[simp] theorem Dev.pump_pol (d : Dev) (sid : BitVec 32) : (d.pump sid).pol = d.pol :=
  core_pol (Dev.pump_core d sid)
@[simp] theorem Dev.pump_gale (d : Dev) (sid : BitVec 32) : (d.pump sid).gale = d.gale :=
  core_gale (Dev.pump_core d sid)
@[simp] theorem Dev.pump_med (d : Dev) (sid : BitVec 32) : (d.pump sid).med = d.med :=
  core_med (Dev.pump_core d sid)
@[simp] theorem Dev.pump_bays (d : Dev) (sid : BitVec 32) : (d.pump sid).bays = d.bays :=
  core_bays (Dev.pump_core d sid)
@[simp] theorem Dev.pump_mem (d : Dev) (sid : BitVec 32) : (d.pump sid).mem = d.mem :=
  core_mem (Dev.pump_core d sid)
@[simp] theorem Dev.pump_mir (d : Dev) (sid : BitVec 32) : (d.pump sid).mir = d.mir :=
  core_mir (Dev.pump_core d sid)
@[simp] theorem Dev.pump_pow (d : Dev) (sid : BitVec 32) : (d.pump sid).pow = d.pow :=
  core_pow (Dev.pump_core d sid)
@[simp] theorem Dev.pump_sec (d : Dev) (sid : BitVec 32) : (d.pump sid).sec = d.sec :=
  core_sec (Dev.pump_core d sid)
@[simp] theorem Dev.pump_upd (d : Dev) (sid : BitVec 32) : (d.pump sid).upd = d.upd :=
  core_upd (Dev.pump_core d sid)
@[simp] theorem Dev.pump_ring (d : Dev) (sid : BitVec 32) : (d.pump sid).ring = d.ring :=
  core_ring (Dev.pump_core d sid)
@[simp] theorem Dev.pump_fresh (d : Dev) (sid : BitVec 32) : (d.pump sid).fresh = d.fresh :=
  core_fresh (Dev.pump_core d sid)
@[simp] theorem Dev.pump_clk_tick (d : Dev) (sid : BitVec 32) : (d.pump sid).clk.tick = d.clk.tick :=
  core_clk_tick (Dev.pump_core d sid)
@[simp] theorem Dev.pump_clk_ns (d : Dev) (sid : BitVec 32) : (d.pump sid).clk.ns = d.clk.ns :=
  core_clk_ns (Dev.pump_core d sid)
@[simp] theorem Dev.pump_clk_source (d : Dev) (sid : BitVec 32) : (d.pump sid).clk.source = d.clk.source :=
  core_clk_source (Dev.pump_core d sid)
@[simp] theorem Dev.sendPacket_par (d : Dev) (sid : BitVec 32) (t : PktType) (cls off : Nat) (a b : Bool) (pl : Bytes) (n : Nat) : (d.sendPacket sid t cls off a b pl n).par = d.par :=
  core_par (Dev.sendPacket_core d sid t cls off a b pl n)
@[simp] theorem Dev.sendPacket_que (d : Dev) (sid : BitVec 32) (t : PktType) (cls off : Nat) (a b : Bool) (pl : Bytes) (n : Nat) : (d.sendPacket sid t cls off a b pl n).que = d.que :=
  core_que (Dev.sendPacket_core d sid t cls off a b pl n)
@[simp] theorem Dev.sendPacket_ns (d : Dev) (sid : BitVec 32) (t : PktType) (cls off : Nat) (a b : Bool) (pl : Bytes) (n : Nat) : (d.sendPacket sid t cls off a b pl n).ns = d.ns :=
  core_ns (Dev.sendPacket_core d sid t cls off a b pl n)
@[simp] theorem Dev.sendPacket_idx (d : Dev) (sid : BitVec 32) (t : PktType) (cls off : Nat) (a b : Bool) (pl : Bytes) (n : Nat) : (d.sendPacket sid t cls off a b pl n).idx = d.idx :=
  core_idx (Dev.sendPacket_core d sid t cls off a b pl n)
@[simp] theorem Dev.sendPacket_pol (d : Dev) (sid : BitVec 32) (t : PktType) (cls off : Nat) (a b : Bool) (pl : Bytes) (n : Nat) : (d.sendPacket sid t cls off a b pl n).pol = d.pol :=
  core_pol (Dev.sendPacket_core d sid t cls off a b pl n)
@[simp] theorem Dev.sendPacket_gale (d : Dev) (sid : BitVec 32) (t : PktType) (cls off : Nat) (a b : Bool) (pl : Bytes) (n : Nat) : (d.sendPacket sid t cls off a b pl n).gale = d.gale :=
  core_gale (Dev.sendPacket_core d sid t cls off a b pl n)
@[simp] theorem Dev.sendPacket_med (d : Dev) (sid : BitVec 32) (t : PktType) (cls off : Nat) (a b : Bool) (pl : Bytes) (n : Nat) : (d.sendPacket sid t cls off a b pl n).med = d.med :=
  core_med (Dev.sendPacket_core d sid t cls off a b pl n)
@[simp] theorem Dev.sendPacket_bays (d : Dev) (sid : BitVec 32) (t : PktType) (cls off : Nat) (a b : Bool) (pl : Bytes) (n : Nat) : (d.sendPacket sid t cls off a b pl n).bays = d.bays :=
  core_bays (Dev.sendPacket_core d sid t cls off a b pl n)
@[simp] theorem Dev.sendPacket_mem (d : Dev) (sid : BitVec 32) (t : PktType) (cls off : Nat) (a b : Bool) (pl : Bytes) (n : Nat) : (d.sendPacket sid t cls off a b pl n).mem = d.mem :=
  core_mem (Dev.sendPacket_core d sid t cls off a b pl n)
@[simp] theorem Dev.sendPacket_mir (d : Dev) (sid : BitVec 32) (t : PktType) (cls off : Nat) (a b : Bool) (pl : Bytes) (n : Nat) : (d.sendPacket sid t cls off a b pl n).mir = d.mir :=
  core_mir (Dev.sendPacket_core d sid t cls off a b pl n)
@[simp] theorem Dev.sendPacket_pow (d : Dev) (sid : BitVec 32) (t : PktType) (cls off : Nat) (a b : Bool) (pl : Bytes) (n : Nat) : (d.sendPacket sid t cls off a b pl n).pow = d.pow :=
  core_pow (Dev.sendPacket_core d sid t cls off a b pl n)
@[simp] theorem Dev.sendPacket_sec (d : Dev) (sid : BitVec 32) (t : PktType) (cls off : Nat) (a b : Bool) (pl : Bytes) (n : Nat) : (d.sendPacket sid t cls off a b pl n).sec = d.sec :=
  core_sec (Dev.sendPacket_core d sid t cls off a b pl n)
@[simp] theorem Dev.sendPacket_upd (d : Dev) (sid : BitVec 32) (t : PktType) (cls off : Nat) (a b : Bool) (pl : Bytes) (n : Nat) : (d.sendPacket sid t cls off a b pl n).upd = d.upd :=
  core_upd (Dev.sendPacket_core d sid t cls off a b pl n)
@[simp] theorem Dev.sendPacket_ring (d : Dev) (sid : BitVec 32) (t : PktType) (cls off : Nat) (a b : Bool) (pl : Bytes) (n : Nat) : (d.sendPacket sid t cls off a b pl n).ring = d.ring :=
  core_ring (Dev.sendPacket_core d sid t cls off a b pl n)
@[simp] theorem Dev.sendPacket_fresh (d : Dev) (sid : BitVec 32) (t : PktType) (cls off : Nat) (a b : Bool) (pl : Bytes) (n : Nat) : (d.sendPacket sid t cls off a b pl n).fresh = d.fresh :=
  core_fresh (Dev.sendPacket_core d sid t cls off a b pl n)
@[simp] theorem Dev.sendPacket_clk_tick (d : Dev) (sid : BitVec 32) (t : PktType) (cls off : Nat) (a b : Bool) (pl : Bytes) (n : Nat) : (d.sendPacket sid t cls off a b pl n).clk.tick = d.clk.tick :=
  core_clk_tick (Dev.sendPacket_core d sid t cls off a b pl n)
@[simp] theorem Dev.sendPacket_clk_ns (d : Dev) (sid : BitVec 32) (t : PktType) (cls off : Nat) (a b : Bool) (pl : Bytes) (n : Nat) : (d.sendPacket sid t cls off a b pl n).clk.ns = d.clk.ns :=
  core_clk_ns (Dev.sendPacket_core d sid t cls off a b pl n)
@[simp] theorem Dev.sendPacket_clk_source (d : Dev) (sid : BitVec 32) (t : PktType) (cls off : Nat) (a b : Bool) (pl : Bytes) (n : Nat) : (d.sendPacket sid t cls off a b pl n).clk.source = d.clk.source :=
  core_clk_source (Dev.sendPacket_core d sid t cls off a b pl n)
@[simp] theorem Dev.sendAck_par (d : Dev) (sid : BitVec 32) : (d.sendAck sid).par = d.par :=
  core_par (Dev.sendAck_core d sid)
@[simp] theorem Dev.sendAck_que (d : Dev) (sid : BitVec 32) : (d.sendAck sid).que = d.que :=
  core_que (Dev.sendAck_core d sid)
@[simp] theorem Dev.sendAck_ns (d : Dev) (sid : BitVec 32) : (d.sendAck sid).ns = d.ns :=
  core_ns (Dev.sendAck_core d sid)
@[simp] theorem Dev.sendAck_idx (d : Dev) (sid : BitVec 32) : (d.sendAck sid).idx = d.idx :=
  core_idx (Dev.sendAck_core d sid)
@[simp] theorem Dev.sendAck_pol (d : Dev) (sid : BitVec 32) : (d.sendAck sid).pol = d.pol :=
  core_pol (Dev.sendAck_core d sid)
@[simp] theorem Dev.sendAck_gale (d : Dev) (sid : BitVec 32) : (d.sendAck sid).gale = d.gale :=
  core_gale (Dev.sendAck_core d sid)
@[simp] theorem Dev.sendAck_med (d : Dev) (sid : BitVec 32) : (d.sendAck sid).med = d.med :=
  core_med (Dev.sendAck_core d sid)
@[simp] theorem Dev.sendAck_bays (d : Dev) (sid : BitVec 32) : (d.sendAck sid).bays = d.bays :=
  core_bays (Dev.sendAck_core d sid)
@[simp] theorem Dev.sendAck_mem (d : Dev) (sid : BitVec 32) : (d.sendAck sid).mem = d.mem :=
  core_mem (Dev.sendAck_core d sid)
@[simp] theorem Dev.sendAck_mir (d : Dev) (sid : BitVec 32) : (d.sendAck sid).mir = d.mir :=
  core_mir (Dev.sendAck_core d sid)
@[simp] theorem Dev.sendAck_pow (d : Dev) (sid : BitVec 32) : (d.sendAck sid).pow = d.pow :=
  core_pow (Dev.sendAck_core d sid)
@[simp] theorem Dev.sendAck_sec (d : Dev) (sid : BitVec 32) : (d.sendAck sid).sec = d.sec :=
  core_sec (Dev.sendAck_core d sid)
@[simp] theorem Dev.sendAck_upd (d : Dev) (sid : BitVec 32) : (d.sendAck sid).upd = d.upd :=
  core_upd (Dev.sendAck_core d sid)
@[simp] theorem Dev.sendAck_ring (d : Dev) (sid : BitVec 32) : (d.sendAck sid).ring = d.ring :=
  core_ring (Dev.sendAck_core d sid)
@[simp] theorem Dev.sendAck_fresh (d : Dev) (sid : BitVec 32) : (d.sendAck sid).fresh = d.fresh :=
  core_fresh (Dev.sendAck_core d sid)
@[simp] theorem Dev.sendAck_clk_tick (d : Dev) (sid : BitVec 32) : (d.sendAck sid).clk.tick = d.clk.tick :=
  core_clk_tick (Dev.sendAck_core d sid)
@[simp] theorem Dev.sendAck_clk_ns (d : Dev) (sid : BitVec 32) : (d.sendAck sid).clk.ns = d.clk.ns :=
  core_clk_ns (Dev.sendAck_core d sid)
@[simp] theorem Dev.sendAck_clk_source (d : Dev) (sid : BitVec 32) : (d.sendAck sid).clk.source = d.clk.source :=
  core_clk_source (Dev.sendAck_core d sid)
@[simp] theorem Dev.wire_par (d : Dev) (k : OutPacket) : (d.wire k).par = d.par :=
  core_par (Dev.wire_core d k)
@[simp] theorem Dev.wire_que (d : Dev) (k : OutPacket) : (d.wire k).que = d.que :=
  core_que (Dev.wire_core d k)
@[simp] theorem Dev.wire_ns (d : Dev) (k : OutPacket) : (d.wire k).ns = d.ns :=
  core_ns (Dev.wire_core d k)
@[simp] theorem Dev.wire_idx (d : Dev) (k : OutPacket) : (d.wire k).idx = d.idx :=
  core_idx (Dev.wire_core d k)
@[simp] theorem Dev.wire_pol (d : Dev) (k : OutPacket) : (d.wire k).pol = d.pol :=
  core_pol (Dev.wire_core d k)
@[simp] theorem Dev.wire_gale (d : Dev) (k : OutPacket) : (d.wire k).gale = d.gale :=
  core_gale (Dev.wire_core d k)
@[simp] theorem Dev.wire_med (d : Dev) (k : OutPacket) : (d.wire k).med = d.med :=
  core_med (Dev.wire_core d k)
@[simp] theorem Dev.wire_bays (d : Dev) (k : OutPacket) : (d.wire k).bays = d.bays :=
  core_bays (Dev.wire_core d k)
@[simp] theorem Dev.wire_mem (d : Dev) (k : OutPacket) : (d.wire k).mem = d.mem :=
  core_mem (Dev.wire_core d k)
@[simp] theorem Dev.wire_mir (d : Dev) (k : OutPacket) : (d.wire k).mir = d.mir :=
  core_mir (Dev.wire_core d k)
@[simp] theorem Dev.wire_pow (d : Dev) (k : OutPacket) : (d.wire k).pow = d.pow :=
  core_pow (Dev.wire_core d k)
@[simp] theorem Dev.wire_sec (d : Dev) (k : OutPacket) : (d.wire k).sec = d.sec :=
  core_sec (Dev.wire_core d k)
@[simp] theorem Dev.wire_upd (d : Dev) (k : OutPacket) : (d.wire k).upd = d.upd :=
  core_upd (Dev.wire_core d k)
@[simp] theorem Dev.wire_ring (d : Dev) (k : OutPacket) : (d.wire k).ring = d.ring :=
  core_ring (Dev.wire_core d k)
@[simp] theorem Dev.wire_fresh (d : Dev) (k : OutPacket) : (d.wire k).fresh = d.fresh :=
  core_fresh (Dev.wire_core d k)
@[simp] theorem Dev.wire_clk_tick (d : Dev) (k : OutPacket) : (d.wire k).clk.tick = d.clk.tick :=
  core_clk_tick (Dev.wire_core d k)
@[simp] theorem Dev.wire_clk_ns (d : Dev) (k : OutPacket) : (d.wire k).clk.ns = d.clk.ns :=
  core_clk_ns (Dev.wire_core d k)
@[simp] theorem Dev.wire_clk_source (d : Dev) (k : OutPacket) : (d.wire k).clk.source = d.clk.source :=
  core_clk_source (Dev.wire_core d k)
@[simp] theorem Dev.queuePldm_par (d : Dev) (e : PldmEvent) : (d.queuePldm e).par = d.par :=
  core_par (Dev.queuePldm_core d e)
@[simp] theorem Dev.queuePldm_que (d : Dev) (e : PldmEvent) : (d.queuePldm e).que = d.que :=
  core_que (Dev.queuePldm_core d e)
@[simp] theorem Dev.queuePldm_ns (d : Dev) (e : PldmEvent) : (d.queuePldm e).ns = d.ns :=
  core_ns (Dev.queuePldm_core d e)
@[simp] theorem Dev.queuePldm_idx (d : Dev) (e : PldmEvent) : (d.queuePldm e).idx = d.idx :=
  core_idx (Dev.queuePldm_core d e)
@[simp] theorem Dev.queuePldm_pol (d : Dev) (e : PldmEvent) : (d.queuePldm e).pol = d.pol :=
  core_pol (Dev.queuePldm_core d e)
@[simp] theorem Dev.queuePldm_gale (d : Dev) (e : PldmEvent) : (d.queuePldm e).gale = d.gale :=
  core_gale (Dev.queuePldm_core d e)
@[simp] theorem Dev.queuePldm_med (d : Dev) (e : PldmEvent) : (d.queuePldm e).med = d.med :=
  core_med (Dev.queuePldm_core d e)
@[simp] theorem Dev.queuePldm_bays (d : Dev) (e : PldmEvent) : (d.queuePldm e).bays = d.bays :=
  core_bays (Dev.queuePldm_core d e)
@[simp] theorem Dev.queuePldm_mem (d : Dev) (e : PldmEvent) : (d.queuePldm e).mem = d.mem :=
  core_mem (Dev.queuePldm_core d e)
@[simp] theorem Dev.queuePldm_mir (d : Dev) (e : PldmEvent) : (d.queuePldm e).mir = d.mir :=
  core_mir (Dev.queuePldm_core d e)
@[simp] theorem Dev.queuePldm_pow (d : Dev) (e : PldmEvent) : (d.queuePldm e).pow = d.pow :=
  core_pow (Dev.queuePldm_core d e)
@[simp] theorem Dev.queuePldm_sec (d : Dev) (e : PldmEvent) : (d.queuePldm e).sec = d.sec :=
  core_sec (Dev.queuePldm_core d e)
@[simp] theorem Dev.queuePldm_upd (d : Dev) (e : PldmEvent) : (d.queuePldm e).upd = d.upd :=
  core_upd (Dev.queuePldm_core d e)
@[simp] theorem Dev.queuePldm_ring (d : Dev) (e : PldmEvent) : (d.queuePldm e).ring = d.ring :=
  core_ring (Dev.queuePldm_core d e)
@[simp] theorem Dev.queuePldm_fresh (d : Dev) (e : PldmEvent) : (d.queuePldm e).fresh = d.fresh :=
  core_fresh (Dev.queuePldm_core d e)
@[simp] theorem Dev.queuePldm_clk_tick (d : Dev) (e : PldmEvent) : (d.queuePldm e).clk.tick = d.clk.tick :=
  core_clk_tick (Dev.queuePldm_core d e)
@[simp] theorem Dev.queuePldm_clk_ns (d : Dev) (e : PldmEvent) : (d.queuePldm e).clk.ns = d.clk.ns :=
  core_clk_ns (Dev.queuePldm_core d e)
@[simp] theorem Dev.queuePldm_clk_source (d : Dev) (e : PldmEvent) : (d.queuePldm e).clk.source = d.clk.source :=
  core_clk_source (Dev.queuePldm_core d e)
@[simp] theorem Dev.sendSse_par (d : Dev) (r : Rec) : (d.sendSse r).par = d.par :=
  core_par (Dev.sendSse_core d r)
@[simp] theorem Dev.sendSse_que (d : Dev) (r : Rec) : (d.sendSse r).que = d.que :=
  core_que (Dev.sendSse_core d r)
@[simp] theorem Dev.sendSse_ns (d : Dev) (r : Rec) : (d.sendSse r).ns = d.ns :=
  core_ns (Dev.sendSse_core d r)
@[simp] theorem Dev.sendSse_idx (d : Dev) (r : Rec) : (d.sendSse r).idx = d.idx :=
  core_idx (Dev.sendSse_core d r)
@[simp] theorem Dev.sendSse_pol (d : Dev) (r : Rec) : (d.sendSse r).pol = d.pol :=
  core_pol (Dev.sendSse_core d r)
@[simp] theorem Dev.sendSse_gale (d : Dev) (r : Rec) : (d.sendSse r).gale = d.gale :=
  core_gale (Dev.sendSse_core d r)
@[simp] theorem Dev.sendSse_med (d : Dev) (r : Rec) : (d.sendSse r).med = d.med :=
  core_med (Dev.sendSse_core d r)
@[simp] theorem Dev.sendSse_bays (d : Dev) (r : Rec) : (d.sendSse r).bays = d.bays :=
  core_bays (Dev.sendSse_core d r)
@[simp] theorem Dev.sendSse_mem (d : Dev) (r : Rec) : (d.sendSse r).mem = d.mem :=
  core_mem (Dev.sendSse_core d r)
@[simp] theorem Dev.sendSse_mir (d : Dev) (r : Rec) : (d.sendSse r).mir = d.mir :=
  core_mir (Dev.sendSse_core d r)
@[simp] theorem Dev.sendSse_pow (d : Dev) (r : Rec) : (d.sendSse r).pow = d.pow :=
  core_pow (Dev.sendSse_core d r)
@[simp] theorem Dev.sendSse_sec (d : Dev) (r : Rec) : (d.sendSse r).sec = d.sec :=
  core_sec (Dev.sendSse_core d r)
@[simp] theorem Dev.sendSse_upd (d : Dev) (r : Rec) : (d.sendSse r).upd = d.upd :=
  core_upd (Dev.sendSse_core d r)
@[simp] theorem Dev.sendSse_ring (d : Dev) (r : Rec) : (d.sendSse r).ring = d.ring :=
  core_ring (Dev.sendSse_core d r)
@[simp] theorem Dev.sendSse_fresh (d : Dev) (r : Rec) : (d.sendSse r).fresh = d.fresh :=
  core_fresh (Dev.sendSse_core d r)
@[simp] theorem Dev.sendSse_clk_tick (d : Dev) (r : Rec) : (d.sendSse r).clk.tick = d.clk.tick :=
  core_clk_tick (Dev.sendSse_core d r)
@[simp] theorem Dev.sendSse_clk_ns (d : Dev) (r : Rec) : (d.sendSse r).clk.ns = d.clk.ns :=
  core_clk_ns (Dev.sendSse_core d r)
@[simp] theorem Dev.sendSse_clk_source (d : Dev) (r : Rec) : (d.sendSse r).clk.source = d.clk.source :=
  core_clk_source (Dev.sendSse_core d r)
@[simp] theorem Dev.recomputePools_par (d : Dev) : (d.recomputePools).par = d.par :=
  core_par (Dev.recomputePools_core d)
@[simp] theorem Dev.recomputePools_que (d : Dev) : (d.recomputePools).que = d.que :=
  core_que (Dev.recomputePools_core d)
@[simp] theorem Dev.recomputePools_ns (d : Dev) : (d.recomputePools).ns = d.ns :=
  core_ns (Dev.recomputePools_core d)
@[simp] theorem Dev.recomputePools_idx (d : Dev) : (d.recomputePools).idx = d.idx :=
  core_idx (Dev.recomputePools_core d)
@[simp] theorem Dev.recomputePools_pol (d : Dev) : (d.recomputePools).pol = d.pol :=
  core_pol (Dev.recomputePools_core d)
@[simp] theorem Dev.recomputePools_gale (d : Dev) : (d.recomputePools).gale = d.gale :=
  core_gale (Dev.recomputePools_core d)
@[simp] theorem Dev.recomputePools_med (d : Dev) : (d.recomputePools).med = d.med :=
  core_med (Dev.recomputePools_core d)
@[simp] theorem Dev.recomputePools_bays (d : Dev) : (d.recomputePools).bays = d.bays :=
  core_bays (Dev.recomputePools_core d)
@[simp] theorem Dev.recomputePools_mem (d : Dev) : (d.recomputePools).mem = d.mem :=
  core_mem (Dev.recomputePools_core d)
@[simp] theorem Dev.recomputePools_mir (d : Dev) : (d.recomputePools).mir = d.mir :=
  core_mir (Dev.recomputePools_core d)
@[simp] theorem Dev.recomputePools_pow (d : Dev) : (d.recomputePools).pow = d.pow :=
  core_pow (Dev.recomputePools_core d)
@[simp] theorem Dev.recomputePools_sec (d : Dev) : (d.recomputePools).sec = d.sec :=
  core_sec (Dev.recomputePools_core d)
@[simp] theorem Dev.recomputePools_upd (d : Dev) : (d.recomputePools).upd = d.upd :=
  core_upd (Dev.recomputePools_core d)
@[simp] theorem Dev.recomputePools_ring (d : Dev) : (d.recomputePools).ring = d.ring :=
  core_ring (Dev.recomputePools_core d)
@[simp] theorem Dev.recomputePools_fresh (d : Dev) : (d.recomputePools).fresh = d.fresh :=
  core_fresh (Dev.recomputePools_core d)
@[simp] theorem Dev.recomputePools_clk_tick (d : Dev) : (d.recomputePools).clk.tick = d.clk.tick :=
  core_clk_tick (Dev.recomputePools_core d)
@[simp] theorem Dev.recomputePools_clk_ns (d : Dev) : (d.recomputePools).clk.ns = d.clk.ns :=
  core_clk_ns (Dev.recomputePools_core d)
@[simp] theorem Dev.recomputePools_clk_source (d : Dev) : (d.recomputePools).clk.source = d.clk.source :=
  core_clk_source (Dev.recomputePools_core d)
@[simp] theorem Dev.enterHist_par (d : Dev) (c : Cap) : (d.enterHist c).par = d.par :=
  core_par (Dev.enterHist_core d c)
@[simp] theorem Dev.enterHist_que (d : Dev) (c : Cap) : (d.enterHist c).que = d.que :=
  core_que (Dev.enterHist_core d c)
@[simp] theorem Dev.enterHist_ns (d : Dev) (c : Cap) : (d.enterHist c).ns = d.ns :=
  core_ns (Dev.enterHist_core d c)
@[simp] theorem Dev.enterHist_idx (d : Dev) (c : Cap) : (d.enterHist c).idx = d.idx :=
  core_idx (Dev.enterHist_core d c)
@[simp] theorem Dev.enterHist_pol (d : Dev) (c : Cap) : (d.enterHist c).pol = d.pol :=
  core_pol (Dev.enterHist_core d c)
@[simp] theorem Dev.enterHist_gale (d : Dev) (c : Cap) : (d.enterHist c).gale = d.gale :=
  core_gale (Dev.enterHist_core d c)
@[simp] theorem Dev.enterHist_med (d : Dev) (c : Cap) : (d.enterHist c).med = d.med :=
  core_med (Dev.enterHist_core d c)
@[simp] theorem Dev.enterHist_bays (d : Dev) (c : Cap) : (d.enterHist c).bays = d.bays :=
  core_bays (Dev.enterHist_core d c)
@[simp] theorem Dev.enterHist_mem (d : Dev) (c : Cap) : (d.enterHist c).mem = d.mem :=
  core_mem (Dev.enterHist_core d c)
@[simp] theorem Dev.enterHist_mir (d : Dev) (c : Cap) : (d.enterHist c).mir = d.mir :=
  core_mir (Dev.enterHist_core d c)
@[simp] theorem Dev.enterHist_pow (d : Dev) (c : Cap) : (d.enterHist c).pow = d.pow :=
  core_pow (Dev.enterHist_core d c)
@[simp] theorem Dev.enterHist_sec (d : Dev) (c : Cap) : (d.enterHist c).sec = d.sec :=
  core_sec (Dev.enterHist_core d c)
@[simp] theorem Dev.enterHist_upd (d : Dev) (c : Cap) : (d.enterHist c).upd = d.upd :=
  core_upd (Dev.enterHist_core d c)
@[simp] theorem Dev.enterHist_ring (d : Dev) (c : Cap) : (d.enterHist c).ring = d.ring :=
  core_ring (Dev.enterHist_core d c)
@[simp] theorem Dev.enterHist_fresh (d : Dev) (c : Cap) : (d.enterHist c).fresh = d.fresh :=
  core_fresh (Dev.enterHist_core d c)
@[simp] theorem Dev.enterHist_clk_tick (d : Dev) (c : Cap) : (d.enterHist c).clk.tick = d.clk.tick :=
  core_clk_tick (Dev.enterHist_core d c)
@[simp] theorem Dev.enterHist_clk_ns (d : Dev) (c : Cap) : (d.enterHist c).clk.ns = d.clk.ns :=
  core_clk_ns (Dev.enterHist_core d c)
@[simp] theorem Dev.enterHist_clk_source (d : Dev) (c : Cap) : (d.enterHist c).clk.source = d.clk.source :=
  core_clk_source (Dev.enterHist_core d c)
@[simp] theorem Dev.placeBytes_par (d : Dev) (c : Cap) (r : Reply) : (d.placeBytes c r).par = d.par :=
  core_par (Dev.placeBytes_core d c r)
@[simp] theorem Dev.placeBytes_que (d : Dev) (c : Cap) (r : Reply) : (d.placeBytes c r).que = d.que :=
  core_que (Dev.placeBytes_core d c r)
@[simp] theorem Dev.placeBytes_ns (d : Dev) (c : Cap) (r : Reply) : (d.placeBytes c r).ns = d.ns :=
  core_ns (Dev.placeBytes_core d c r)
@[simp] theorem Dev.placeBytes_idx (d : Dev) (c : Cap) (r : Reply) : (d.placeBytes c r).idx = d.idx :=
  core_idx (Dev.placeBytes_core d c r)
@[simp] theorem Dev.placeBytes_pol (d : Dev) (c : Cap) (r : Reply) : (d.placeBytes c r).pol = d.pol :=
  core_pol (Dev.placeBytes_core d c r)
@[simp] theorem Dev.placeBytes_gale (d : Dev) (c : Cap) (r : Reply) : (d.placeBytes c r).gale = d.gale :=
  core_gale (Dev.placeBytes_core d c r)
@[simp] theorem Dev.placeBytes_med (d : Dev) (c : Cap) (r : Reply) : (d.placeBytes c r).med = d.med :=
  core_med (Dev.placeBytes_core d c r)
@[simp] theorem Dev.placeBytes_bays (d : Dev) (c : Cap) (r : Reply) : (d.placeBytes c r).bays = d.bays :=
  core_bays (Dev.placeBytes_core d c r)
@[simp] theorem Dev.placeBytes_mem (d : Dev) (c : Cap) (r : Reply) : (d.placeBytes c r).mem = d.mem :=
  core_mem (Dev.placeBytes_core d c r)
@[simp] theorem Dev.placeBytes_mir (d : Dev) (c : Cap) (r : Reply) : (d.placeBytes c r).mir = d.mir :=
  core_mir (Dev.placeBytes_core d c r)
@[simp] theorem Dev.placeBytes_pow (d : Dev) (c : Cap) (r : Reply) : (d.placeBytes c r).pow = d.pow :=
  core_pow (Dev.placeBytes_core d c r)
@[simp] theorem Dev.placeBytes_sec (d : Dev) (c : Cap) (r : Reply) : (d.placeBytes c r).sec = d.sec :=
  core_sec (Dev.placeBytes_core d c r)
@[simp] theorem Dev.placeBytes_upd (d : Dev) (c : Cap) (r : Reply) : (d.placeBytes c r).upd = d.upd :=
  core_upd (Dev.placeBytes_core d c r)
@[simp] theorem Dev.placeBytes_ring (d : Dev) (c : Cap) (r : Reply) : (d.placeBytes c r).ring = d.ring :=
  core_ring (Dev.placeBytes_core d c r)
@[simp] theorem Dev.placeBytes_fresh (d : Dev) (c : Cap) (r : Reply) : (d.placeBytes c r).fresh = d.fresh :=
  core_fresh (Dev.placeBytes_core d c r)
@[simp] theorem Dev.placeBytes_clk_tick (d : Dev) (c : Cap) (r : Reply) : (d.placeBytes c r).clk.tick = d.clk.tick :=
  core_clk_tick (Dev.placeBytes_core d c r)
@[simp] theorem Dev.placeBytes_clk_ns (d : Dev) (c : Cap) (r : Reply) : (d.placeBytes c r).clk.ns = d.clk.ns :=
  core_clk_ns (Dev.placeBytes_core d c r)
@[simp] theorem Dev.placeBytes_clk_source (d : Dev) (c : Cap) (r : Reply) : (d.placeBytes c r).clk.source = d.clk.source :=
  core_clk_source (Dev.placeBytes_core d c r)
@[simp] theorem Dev.endCharge_par (d : Dev) (sid : BitVec 32) (n : Nat) : (d.endCharge sid n).par = d.par :=
  core_par (Dev.endCharge_core d sid n)
@[simp] theorem Dev.endCharge_que (d : Dev) (sid : BitVec 32) (n : Nat) : (d.endCharge sid n).que = d.que :=
  core_que (Dev.endCharge_core d sid n)
@[simp] theorem Dev.endCharge_ns (d : Dev) (sid : BitVec 32) (n : Nat) : (d.endCharge sid n).ns = d.ns :=
  core_ns (Dev.endCharge_core d sid n)
@[simp] theorem Dev.endCharge_idx (d : Dev) (sid : BitVec 32) (n : Nat) : (d.endCharge sid n).idx = d.idx :=
  core_idx (Dev.endCharge_core d sid n)
@[simp] theorem Dev.endCharge_pol (d : Dev) (sid : BitVec 32) (n : Nat) : (d.endCharge sid n).pol = d.pol :=
  core_pol (Dev.endCharge_core d sid n)
@[simp] theorem Dev.endCharge_gale (d : Dev) (sid : BitVec 32) (n : Nat) : (d.endCharge sid n).gale = d.gale :=
  core_gale (Dev.endCharge_core d sid n)
@[simp] theorem Dev.endCharge_med (d : Dev) (sid : BitVec 32) (n : Nat) : (d.endCharge sid n).med = d.med :=
  core_med (Dev.endCharge_core d sid n)
@[simp] theorem Dev.endCharge_bays (d : Dev) (sid : BitVec 32) (n : Nat) : (d.endCharge sid n).bays = d.bays :=
  core_bays (Dev.endCharge_core d sid n)
@[simp] theorem Dev.endCharge_mem (d : Dev) (sid : BitVec 32) (n : Nat) : (d.endCharge sid n).mem = d.mem :=
  core_mem (Dev.endCharge_core d sid n)
@[simp] theorem Dev.endCharge_mir (d : Dev) (sid : BitVec 32) (n : Nat) : (d.endCharge sid n).mir = d.mir :=
  core_mir (Dev.endCharge_core d sid n)
@[simp] theorem Dev.endCharge_pow (d : Dev) (sid : BitVec 32) (n : Nat) : (d.endCharge sid n).pow = d.pow :=
  core_pow (Dev.endCharge_core d sid n)
@[simp] theorem Dev.endCharge_sec (d : Dev) (sid : BitVec 32) (n : Nat) : (d.endCharge sid n).sec = d.sec :=
  core_sec (Dev.endCharge_core d sid n)
@[simp] theorem Dev.endCharge_upd (d : Dev) (sid : BitVec 32) (n : Nat) : (d.endCharge sid n).upd = d.upd :=
  core_upd (Dev.endCharge_core d sid n)
@[simp] theorem Dev.endCharge_ring (d : Dev) (sid : BitVec 32) (n : Nat) : (d.endCharge sid n).ring = d.ring :=
  core_ring (Dev.endCharge_core d sid n)
@[simp] theorem Dev.endCharge_fresh (d : Dev) (sid : BitVec 32) (n : Nat) : (d.endCharge sid n).fresh = d.fresh :=
  core_fresh (Dev.endCharge_core d sid n)
@[simp] theorem Dev.endCharge_clk_tick (d : Dev) (sid : BitVec 32) (n : Nat) : (d.endCharge sid n).clk.tick = d.clk.tick :=
  core_clk_tick (Dev.endCharge_core d sid n)
@[simp] theorem Dev.endCharge_clk_ns (d : Dev) (sid : BitVec 32) (n : Nat) : (d.endCharge sid n).clk.ns = d.clk.ns :=
  core_clk_ns (Dev.endCharge_core d sid n)
@[simp] theorem Dev.endCharge_clk_source (d : Dev) (sid : BitVec 32) (n : Nat) : (d.endCharge sid n).clk.source = d.clk.source :=
  core_clk_source (Dev.endCharge_core d sid n)
@[simp] theorem Dev.reportMode_que (d : Dev) : d.reportMode.que = d.que := (core_que (Dev.reportMode_core d)).trans rfl
@[simp] theorem Dev.reportMode_ns (d : Dev) : d.reportMode.ns = d.ns := (core_ns (Dev.reportMode_core d)).trans rfl
@[simp] theorem Dev.reportMode_idx (d : Dev) : d.reportMode.idx = d.idx := (core_idx (Dev.reportMode_core d)).trans rfl
@[simp] theorem Dev.reportMode_pol (d : Dev) : d.reportMode.pol = d.pol := (core_pol (Dev.reportMode_core d)).trans rfl
@[simp] theorem Dev.reportMode_gale (d : Dev) : d.reportMode.gale = d.gale := (core_gale (Dev.reportMode_core d)).trans rfl
@[simp] theorem Dev.reportMode_med (d : Dev) : d.reportMode.med = d.med := (core_med (Dev.reportMode_core d)).trans rfl
@[simp] theorem Dev.reportMode_bays (d : Dev) : d.reportMode.bays = d.bays := (core_bays (Dev.reportMode_core d)).trans rfl
@[simp] theorem Dev.reportMode_mem (d : Dev) : d.reportMode.mem = d.mem := (core_mem (Dev.reportMode_core d)).trans rfl
@[simp] theorem Dev.reportMode_mir (d : Dev) : d.reportMode.mir = d.mir := (core_mir (Dev.reportMode_core d)).trans rfl
@[simp] theorem Dev.reportMode_pow (d : Dev) : d.reportMode.pow = d.pow := (core_pow (Dev.reportMode_core d)).trans rfl
@[simp] theorem Dev.reportMode_sec (d : Dev) : d.reportMode.sec = d.sec := (core_sec (Dev.reportMode_core d)).trans rfl
@[simp] theorem Dev.reportMode_upd (d : Dev) : d.reportMode.upd = d.upd := (core_upd (Dev.reportMode_core d)).trans rfl
@[simp] theorem Dev.reportMode_ring (d : Dev) : d.reportMode.ring = d.ring := (core_ring (Dev.reportMode_core d)).trans rfl
@[simp] theorem Dev.reportMode_fresh (d : Dev) : d.reportMode.fresh = d.fresh := (core_fresh (Dev.reportMode_core d)).trans rfl
theorem Dev.finish_par (d : Dev) (c : Cap) (r : Reply) (h : c.partner = none) : (d.finish c r).par = d.par :=
  (core_par (Dev.finish_core d c r h)).trans rfl
theorem Dev.finishFree_par (d : Dev) (c : Cap) (r : Reply) (h : c.partner = none) : (d.finishFree c r).par = d.par :=
  (core_par (Dev.finishFree_core d c r h)).trans rfl
theorem Dev.finish_ns (d : Dev) (c : Cap) (r : Reply) (h : c.partner = none) : (d.finish c r).ns = d.ns :=
  (core_ns (Dev.finish_core d c r h)).trans rfl
theorem Dev.finishFree_ns (d : Dev) (c : Cap) (r : Reply) (h : c.partner = none) : (d.finishFree c r).ns = d.ns :=
  (core_ns (Dev.finishFree_core d c r h)).trans rfl
theorem Dev.finish_idx (d : Dev) (c : Cap) (r : Reply) (h : c.partner = none) : (d.finish c r).idx = d.idx :=
  (core_idx (Dev.finish_core d c r h)).trans rfl
theorem Dev.finishFree_idx (d : Dev) (c : Cap) (r : Reply) (h : c.partner = none) : (d.finishFree c r).idx = d.idx :=
  (core_idx (Dev.finishFree_core d c r h)).trans rfl
theorem Dev.finish_pol (d : Dev) (c : Cap) (r : Reply) (h : c.partner = none) : (d.finish c r).pol = d.pol :=
  (core_pol (Dev.finish_core d c r h)).trans rfl
theorem Dev.finishFree_pol (d : Dev) (c : Cap) (r : Reply) (h : c.partner = none) : (d.finishFree c r).pol = d.pol :=
  (core_pol (Dev.finishFree_core d c r h)).trans rfl
theorem Dev.finish_gale (d : Dev) (c : Cap) (r : Reply) (h : c.partner = none) : (d.finish c r).gale = d.gale :=
  (core_gale (Dev.finish_core d c r h)).trans rfl
theorem Dev.finishFree_gale (d : Dev) (c : Cap) (r : Reply) (h : c.partner = none) : (d.finishFree c r).gale = d.gale :=
  (core_gale (Dev.finishFree_core d c r h)).trans rfl
theorem Dev.finish_med (d : Dev) (c : Cap) (r : Reply) (h : c.partner = none) : (d.finish c r).med = d.med :=
  (core_med (Dev.finish_core d c r h)).trans rfl
theorem Dev.finishFree_med (d : Dev) (c : Cap) (r : Reply) (h : c.partner = none) : (d.finishFree c r).med = d.med :=
  (core_med (Dev.finishFree_core d c r h)).trans rfl
theorem Dev.finish_bays (d : Dev) (c : Cap) (r : Reply) (h : c.partner = none) : (d.finish c r).bays = d.bays :=
  (core_bays (Dev.finish_core d c r h)).trans rfl
theorem Dev.finishFree_bays (d : Dev) (c : Cap) (r : Reply) (h : c.partner = none) : (d.finishFree c r).bays = d.bays :=
  (core_bays (Dev.finishFree_core d c r h)).trans rfl
theorem Dev.finish_mem (d : Dev) (c : Cap) (r : Reply) (h : c.partner = none) : (d.finish c r).mem = d.mem :=
  (core_mem (Dev.finish_core d c r h)).trans rfl
theorem Dev.finishFree_mem (d : Dev) (c : Cap) (r : Reply) (h : c.partner = none) : (d.finishFree c r).mem = d.mem :=
  (core_mem (Dev.finishFree_core d c r h)).trans rfl
theorem Dev.finish_mir (d : Dev) (c : Cap) (r : Reply) (h : c.partner = none) : (d.finish c r).mir = d.mir :=
  (core_mir (Dev.finish_core d c r h)).trans rfl
theorem Dev.finishFree_mir (d : Dev) (c : Cap) (r : Reply) (h : c.partner = none) : (d.finishFree c r).mir = d.mir :=
  (core_mir (Dev.finishFree_core d c r h)).trans rfl
theorem Dev.finish_pow (d : Dev) (c : Cap) (r : Reply) (h : c.partner = none) : (d.finish c r).pow = d.pow :=
  (core_pow (Dev.finish_core d c r h)).trans rfl
theorem Dev.finishFree_pow (d : Dev) (c : Cap) (r : Reply) (h : c.partner = none) : (d.finishFree c r).pow = d.pow :=
  (core_pow (Dev.finishFree_core d c r h)).trans rfl
theorem Dev.finish_sec (d : Dev) (c : Cap) (r : Reply) (h : c.partner = none) : (d.finish c r).sec = d.sec :=
  (core_sec (Dev.finish_core d c r h)).trans rfl
theorem Dev.finishFree_sec (d : Dev) (c : Cap) (r : Reply) (h : c.partner = none) : (d.finishFree c r).sec = d.sec :=
  (core_sec (Dev.finishFree_core d c r h)).trans rfl
theorem Dev.finish_upd (d : Dev) (c : Cap) (r : Reply) (h : c.partner = none) : (d.finish c r).upd = d.upd :=
  (core_upd (Dev.finish_core d c r h)).trans rfl
theorem Dev.finishFree_upd (d : Dev) (c : Cap) (r : Reply) (h : c.partner = none) : (d.finishFree c r).upd = d.upd :=
  (core_upd (Dev.finishFree_core d c r h)).trans rfl
theorem Dev.finish_ring (d : Dev) (c : Cap) (r : Reply) (h : c.partner = none) : (d.finish c r).ring = d.ring :=
  (core_ring (Dev.finish_core d c r h)).trans rfl
theorem Dev.finishFree_ring (d : Dev) (c : Cap) (r : Reply) (h : c.partner = none) : (d.finishFree c r).ring = d.ring :=
  (core_ring (Dev.finishFree_core d c r h)).trans rfl
theorem Dev.finish_fresh (d : Dev) (c : Cap) (r : Reply) (h : c.partner = none) : (d.finish c r).fresh = d.fresh :=
  (core_fresh (Dev.finish_core d c r h)).trans rfl
theorem Dev.finishFree_fresh (d : Dev) (c : Cap) (r : Reply) (h : c.partner = none) : (d.finishFree c r).fresh = d.fresh :=
  (core_fresh (Dev.finishFree_core d c r h)).trans rfl

/-- Every meaning answers a next state: the effect on the drive and the report of the mode, with the queue as it was. -/
theorem State.run_next (s : State) (f : Dev → Dev) : s.run f = .next { s with dev := (f s.dev).reportMode } := rfl

end Sys2Proof.Machine
end

