-- ==== Sys2Proof/Machine/Images.lean ====
section
/-! DEFINITION. What the medium and the log region hold, byte by byte, as functions of the state: chunk headers and chunks (R204, R205,
R374), index pages (R149, R150), log and journal records (R152, R154, R375), epoch-end records (R155), band filters and summaries
(R226). -/

namespace Sys2Proof.Machine

/-! ## Chunks (R204, R205, R374) -/

/-- The kinds of a chunk (R204). -/
inductive ChunkKind
  | value | map | journal | index | pad | parity | metadata
  deriving DecidableEq, Repr

/-- The byte of a kind. -/
def ChunkKind.num : ChunkKind → Nat
  | .value => 1
  | .map => 2
  | .journal => 3
  | .index => 4
  | .pad => 5
  | .parity => 6
  | .metadata => 7

/-- The fields of a chunk header that are neither fixed nor computed from the others (R204). -/
structure ChunkHead where
  kind : ChunkKind
  first : Bool
  last : Bool
  ns : BitVec 12
  gen : Nat
  fragment : Nat
  index : Nat
  version : Nat
  mapLoc : Nat
  length : Nat
  writeSeq : Nat
  deriving DecidableEq, Repr

/-- A number beside its complement of 24 bits: a generation and its twin (R63, R204). -/
def genTwin (g : Nat) : Nat := g % 2 ^ 24 * 2 ^ 24 + (2 ^ 24 - 1 - g % 2 ^ 24)

/-- A chunk header but for its CRC (R204). -/
def ChunkHead.body (x : ChunkHead) : Bytes :=
  natToBytesBE 2 0x434B ++ natToBytesBE 1 x.kind.num ++ natToBytesBE 1 (2 * x.last.toNat + x.first.toNat) ++ natToBytesBE 4 x.ns.toNat ++
    natToBytesBE 8 (genTwin x.gen * 2 ^ 16) ++ natToBytesBE 8 (x.fragment * 2 ^ 40 + x.index % 2 ^ 20) ++ natToBytesBE 8 x.version ++
    natToBytesBE 8 (x.mapLoc * 2 ^ 16) ++ natToBytesBE 8 (x.length * 2 ^ 24) ++ natToBytesBE 8 x.writeSeq ++ natToBytesBE 4 0

/-- A chunk header: 64 bytes, in the clear, with its CRC-32C (R204). -/
def ChunkHead.encode (x : ChunkHead) : Bytes := x.body ++ natToBytesBE 4 (crc32c x.body).toNat

/-- The header fields of chunk `i` of a value (R107, R204): a stretch of generation 0 was stored by `MP_PART` and has no marks of a value. The
program sequence of a band is the write position (R202; log entry 216). -/
def Dev.valueHead (d : Dev) (cp : Copy) (i : Nat) : ChunkHead :=
  let s := stretchAt cp.heads i
  let whole := s.gen != 0
  { kind := .value, first := whole && i == 0, last := whole && i + 1 == chunkCount cp.bytes.length, ns := cp.ns, gen := s.gen,
    fragment := cp.hash.toNat % 2 ^ 24, index := i, version := s.version, mapLoc := if whole && i == 0 then cp.mapLoc else 0,
    length := s.length, writeSeq := (d.bays.get (locBay (cp.chunkLoc d i))).locPos (cp.chunkLoc d i) }

/-- The 4,160 bytes of information of chunk `i` of a value on the medium (R204, R263, R374). -/
def Dev.valueChunk (d : Dev) (cp : Copy) (i : Nat) : Bytes := (d.valueHead cp i).encode ++ cp.cipher i

/-- The entries of a MAP chunk: location and length of each run (R205). -/
def mapEntries (runs : List (Nat × Nat)) : Bytes := runs.flatMap (fun r => natToBytesBE 8 (r.1 * 2 ^ 16 + r.2 % 2 ^ 16))

/-- The header fields of a value's MAP chunk: those of its first chunk, without a mark (R204, R264; log entry 216). -/
def Dev.mapHead (d : Dev) (cp : Copy) : ChunkHead :=
  { d.valueHead cp 0 with kind := .map, first := false, last := false, mapLoc := 0,
                          writeSeq := (d.bays.get (locBay cp.mapLoc)).locPos cp.mapLoc }

/-- The MAP chunk of a value of more than one run, encrypted like its value chunks (R205, R374). -/
def Dev.mapChunk (d : Dev) (cp : Copy) : Bytes :=
  let b := mapEntries cp.runs
  (d.mapHead cp).encode ++
    Config.xtsEncrypt cp.sealedKey (chunkTweak (d.mapHead cp).version 0 cp.hash) (b ++ zeroBytes (4096 - b.length))

/-- The header fields of chunk `i` of a part that no commit has rewritten (R107): the upload ID for the version, generation 0 and no
mark. -/
def Dev.partHead (d : Dev) (u : Upload) (p : Part) (i : Nat) : ChunkHead :=
  let l := d.runLoc 0 p.runs i
  { kind := .value, first := false, last := false, ns := u.ns, gen := 0, fragment := u.hash.toNat % 2 ^ 24, index := p.offset / 4096 + i,
    version := u.id, mapLoc := 0, length := u.declared, writeSeq := (d.bays.get (locBay l)).locPos l }

/-- The header fields of a chunk that holds no value, at a write position: the namespace of an index page, 0 otherwise; the chunk's place in
its item; no field of a value (R204; log entry 216). -/
def plainHead (kind : ChunkKind) (n : BitVec 12) (i pos : Nat) : ChunkHead :=
  { kind := kind, first := false, last := false, ns := n, gen := 0, fragment := 0, index := i, version := 0, mapLoc := 0, length := 0,
    writeSeq := pos }

/-- The write position at a location. -/
def Dev.posAt (d : Dev) (l : Nat) : Nat := (d.bays.get (locBay l)).locPos l

/-- A PAD chunk (R202, R204): a header and zeros. -/
def Dev.padChunk (d : Dev) (l : Nat) : Bytes := (plainHead .pad 0 0 (d.posAt l)).encode ++ zeroBytes 4096

/-- The header of a chunk of snapshots, epoch-end records, summaries and reserved metadata: kind 7 (R204). -/
def Dev.metaHead (d : Dev) (i l : Nat) : Bytes := (plainHead .metadata 0 i (d.posAt l + i)).encode

/-- The header of chunk `i` of a parity page of the row that begins at a write position: kind 6 (R204, R211). -/
def parityHead (i pos : Nat) : Bytes := (plainHead .parity 0 i pos).encode

/-! ## Index pages (R149, R150) -/

/-- A key padded with zeros to a multiple of 8 bytes. -/
def padKey (k : Bytes) : Bytes := k ++ zeroBytes (ceilDiv k.length 8 * 8 - k.length)

/-- An index entry (R150). -/
def Entry.encode (e : Entry) : Bytes :=
  natToBytesBE 16 e.hash.toNat ++ natToBytesBE 8 e.version ++ natToBytesBE 8 (e.loc * 2 ^ 16 + e.key.length) ++
    natToBytesBE 8 (e.twin.toNat * 2 ^ 16 + e.lost.toNat) ++ natToBytesBE 8 (e.gen * 2 ^ 40 + e.len) ++ padKey e.key

/-- The header of an index page but for its CRC (R149). -/
def Bucket.pageHead (b : Bucket) : Bytes :=
  natToBytesBE 2 0x4958 ++ natToBytesBE 2 b.entries.length ++ natToBytesBE 4 b.ns.toNat ++ natToBytesBE 8 b.lo ++ natToBytesBE 8 b.hi ++
    natToBytesBE 8 b.mergedThrough ++ natToBytesBE 4 b.epoch ++ natToBytesBE 4 ((b.entries.map (fun e => e.encode.length)).sum) ++
    zeroBytes 20

/-- The CRC of an index page, over its header and its entries (R149). -/
def Bucket.pageCrc (b : Bucket) : BitVec 32 := crc32c (b.pageHead ++ b.entries.flatMap Entry.encode)

/-- An index page before its chunks are encrypted (R149). -/
def Bucket.page (b : Bucket) : Bytes :=
  let x := b.pageHead ++ natToBytesBE 4 b.pageCrc.toNat ++ b.entries.flatMap Entry.encode
  x ++ zeroBytes (131072 - x.length)

/-- The write position of chunk `i` of an index page at a location: 16 chunks on each of two wordlines of one die (R202). -/
def Dev.pagePos (d : Dev) (l i : Nat) : Nat :=
  d.posAt l + i % 16 + i / 16 * (16 * ((d.bays.get (locBay l)).dataDies (locGroup l) (locBlock l)).length)

/-- The 32 chunks of an index page, before their data is encrypted (R149, R204). -/
def Dev.pageChunks (d : Dev) (b : Bucket) (l : Nat) : List Bytes :=
  (List.range 32).map (fun i => (plainHead .index b.ns i (d.pagePos l i)).encode ++ (b.page.drop (4096 * i)).take 4096)

/-! ## Log and journal records (R152, R154, R375) -/

/-- The number of a kind of record (R152). The rules number four kinds; the journal's own items take the numbers after them, DESIGN CHOICE,
log entry 216. -/
def JKind.num : JKind → Nat
  | .value => 1
  | .deletion => 2
  | .lost => 3
  | .relocation => 4
  | .upload => 5
  | .part => 6
  | .reservation => 7
  | .wear => 8

/-- The fields of a record that the log and the journal share (R152, R154). -/
def JRec.shared (r : JRec) : Bytes :=
  natToBytesBE 16 r.hash.toNat ++ natToBytesBE 8 r.version ++ natToBytesBE 8 (r.loc * 2 ^ 16 + r.key.length) ++
    natToBytesBE 8 (r.gen * 2 ^ 40 + r.len) ++ natToBytesBE 8 r.jseq

/-- The record as the recent placement log holds it: 64 bytes, with the first 8 bytes of the key (R152). -/
def JRec.logImage (r : JRec) : Bytes :=
  r.shared ++ natToBytesBE 8 (r.ref * 2 ^ 16 + r.kind.num * 2 ^ 12 + r.ns.toNat) ++ (r.key.take 8 ++ zeroBytes (8 - (r.key.take 8).length))

/-- The record alone confirms the key bytes (R152). -/
def JRec.confirms (r : JRec) : Bool := decide (r.key.length ≤ 8)

/-- The part of a journal record that is encrypted: every field but the namespace and the journal sequence (R375). -/
def JRec.secret (r : JRec) : Bytes := r.shared.take 40 ++ natToBytesBE 2 (r.kind.num * 2 ^ 12) ++ r.key

/-- A journal record on the medium: its journal sequence and namespace in the clear, the rest encrypted under its namespace's key, with the
journal sequence as the tweak (R154, R375). The order of the fields is a choice, log entry 216. -/
def JRec.image (r : JRec) : Bytes :=
  natToBytesBE 8 r.jseq ++ natToBytesBE 2 r.ns.toNat ++ Config.xtsEncrypt r.sealedKey (BitVec.ofNat 128 r.jseq) r.secret

/-- AES-256-GCM under the metadata key, as epoch-end records, snapshots and reserved metadata carry it (R375). -/
def mdkSeal (mdk : BitVec 256) (nonce : BitVec 96) (b : Bytes) : Bytes :=
  b.zipIdx.map (fun x => x.1 ^^^ Config.gcmStream mdk nonce x.2) ++ natToBytesBE 16 (Config.gcmTag mdk nonce [] b).toNat

/-- The contents of the journal chunk at a location: its records, packed in journal order, and their CRC-32C (R154). -/
def Dev.journalChunk (d : Dev) (l : Nat) : Bytes :=
  let b := (d.idx.journal.filter (fun r => r.ref == l)).flatMap JRec.image
  let x := b ++ zeroBytes (4092 - b.length)
  x ++ natToBytesBE 4 (crc32c x).toNat

/-- The header of a journal chunk: kind 3, in the clear (R204). -/
def Dev.journalHead (d : Dev) (l : Nat) : Bytes := (plainHead .journal 0 0 (d.posAt l)).encode

/-- The tag that protects a journal chunk's header under the metadata key (R375): AES-256-GCM over the header in the clear; its nonce is the
location (log entry 216). -/
def Dev.journalHeadTag (d : Dev) (l : Nat) : BitVec 128 := Config.gcmTag (d.med.mdk.getD 0) (BitVec.ofNat 96 l) (d.journalHead l) []

/-! ## Epoch-end records (R155, R156, R375) -/

/-- The bucket-map changes that the last durable epoch-end record makes. -/
def Index.mapChanges (i : Index) : Bytes :=
  i.changes.flatMap (fun b => natToBytesBE 2 b.1.toNat ++ natToBytesBE 8 b.2.1 ++ natToBytesBE 6 b.2.2)

/-- The contents of the epoch-end record in force (R155): the epoch and its complement, the replay start, the checkpoint mark, the map changes,
a CRC. The order of the fields is a choice, log entry 216. -/
def Index.endRecord (i : Index) : Bytes :=
  let b := natToBytesBE 4 i.endEpoch ++ natToBytesBE 4 (2 ^ 32 - 1 - i.endEpoch % 2 ^ 32) ++ natToBytesBE 8 i.replayStart ++
    natToBytesBE 1 i.checkpoint.toNat ++ i.mapChanges
  b ++ natToBytesBE 4 (crc32c b).toNat

/-- The record as a cartridge holds it (R207, R375). -/
def Dev.endImage (d : Dev) (mark : Nat) : Bytes := mdkSeal (d.med.mdk.getD 0) (BitVec.ofNat 96 mark) d.idx.endRecord

/-! ## Filters and summaries (R226) -/

/-- A bit of a band's key-hash filter. -/
def Band.filterBit (x : Band) (i : Nat) : Bool := x.items.any (fun k => (filterBits k.2).contains i)

/-- A band's key-hash filter: 65,536 bytes. -/
def Band.filter (x : Band) : Bytes :=
  (List.range 65536).map (fun n => BitVec.ofNat 8 ((List.range 8).foldl (fun (a : Nat) (k : Nat) => 2 * a + (x.filterBit (8 * n + k)).toNat) 0))

/-- The bitmap of the namespaces that have an item or an index page in a band: 512 bytes. -/
def Band.nsBitmap (x : Band) : Bytes :=
  (List.range 512).map (fun b => BitVec.ofNat 8 ((List.range 8).foldl (fun (a : Nat) (k : Nat) =>
    2 * a + (x.items.any (fun i => i.1.toNat == 8 * b + k) || x.pages.any (fun p => p.1.toNat == 8 * b + k)).toNat) 0))

/-- The entries of a band's summary: one for each item, two for each index page, as numbers of 64 bits. -/
def Band.summaryEntries (x : Band) : List Nat :=
  let kind := if x.stream.isMeta then 2 else 1
  x.items.map (fun i => i.1.toNat * 2 ^ 52 + kind * 2 ^ 48 + (high48 i.2).toNat) ++
    x.pages.flatMap (fun p => [p.1.toNat * 2 ^ 52 + 3 * 2 ^ 48 + p.2.1 / 2 ^ 16 % 2 ^ 48, p.1.toNat * 2 ^ 52 + 4 * 2 ^ 48 + p.2.2 / 2 ^ 16 % 2 ^ 48])

/-- Inserts a number in ascending order. -/
def insNum (n : Nat) : List Nat → List Nat
  | [] => [n]
  | x :: rest => if n ≤ x then n :: x :: rest else x :: insNum n rest

/-- A band's summary (R226): the bitmap, then the entries in ascending order. -/
def Band.summary (x : Band) : Bytes :=
  x.nsBitmap ++ (x.summaryEntries.foldl (fun (l : List Nat) (n : Nat) => insNum n l) []).flatMap (natToBytesBE 8)

end Sys2Proof.Machine
end

