-- ==== Sys2Proof/Laws/Images.lean ====
section
/-! SUPPORT. The sizes of what lies on the medium: chunk headers, index entries and pages, records (R149, R150, R152, R204). -/

namespace Sys2Proof.Machine

theorem natToBytesBE_length (n v : Nat) : (natToBytesBE n v).length = n := by
  induction n with
  | zero => rfl
  | succ n ih => simp [natToBytesBE, ih]
theorem zeroBytes_length (n : Nat) : (zeroBytes n).length = n := by simp [zeroBytes]

/-- A chunk header has 64 bytes (R204). -/
theorem ChunkHead.encode_length (x : ChunkHead) : x.encode.length = 64 := by
  simp [ChunkHead.encode, ChunkHead.body, natToBytesBE_length]

/-- A padded key has a multiple of 8 bytes (R150). -/
theorem padKey_length (k : Bytes) : 8 ∣ (padKey k).length := by
  simp only [padKey, List.length_append, zeroBytes_length, ceilDiv]
  omega

/-- An index entry takes 48 bytes and its key, padded to a multiple of 8 bytes (R150). -/
theorem Entry.encode_length (e : Entry) : e.encode.length = 48 + (padKey e.key).length := by
  simp [Entry.encode, natToBytesBE_length]
  omega

/-- The header of an index page has 60 bytes before its CRC (R149). -/
theorem Bucket.pageHead_length (b : Bucket) : b.pageHead.length = 60 := by
  simp [Bucket.pageHead, natToBytesBE_length, zeroBytes_length]

/-- A record of the recent placement log has 64 bytes (R152). -/
theorem JRec.logImage_length (r : JRec) : r.logImage.length = 64 := by
  simp only [JRec.logImage, JRec.shared, List.length_append, natToBytesBE_length, zeroBytes_length, List.length_take]
  omega

/-- A journal record before its encryption and the fields in the clear beside it have the bytes that its chunk has room for (R154). -/
theorem JRec.secret_length (r : JRec) : 10 + r.secret.length = r.size := by
  simp [JRec.secret, JRec.shared, JRec.size, natToBytesBE_length]
  omega

end Sys2Proof.Machine
end

