-- ==== Sys2Proof/WellFormed.lean ====
section
/-! DEFINITION. Which commands are well formed: the bounds that the spec puts on a command's operands. A command that is not well formed
is one that no sender of the spec can give. -/

namespace Sys2Proof

/-- Bytes of payload that fit in a frame of 9,216 bytes (R30). -/
abbrev maxPayload : Nat := 9216

/-- Rows of the eight dies of Gale (R172). -/
abbrev galeRows : Nat := 524288

/-- A packet's payload fits in a frame. -/
def Packet.fits (k : Packet) : Bool := decide (k.payload.length ≤ maxPayload)

/-- ACK and KEEPALIVE carry no payload (R35). -/
def Packet.bare (k : Packet) : Bool := k.payload.isEmpty

/-- A read outcome names a step of R263 and an order of R264 that a read may end on, and iterations in per cent of their limit. -/
def ReadOutcome.wf (o : ReadOutcome) : Bool :=
  match o with
  | .ok n => decide (n ≤ 100)
  | .retried step _ n => decide (1 ≤ step ∧ step ≤ 4 ∧ n ≤ 100)
  | .badHead _ step order => decide (step ≤ 5 ∧ 3 ≤ order ∧ order ≤ 5)
  | .rebuilt | .lost _ => true

/-- A report's outcomes are well formed, and the header checks that failed on the way are of orders 1 and 2 (R264). -/
def ReadReport.wf (r : ReadReport) : Bool := r.outcome.wf && r.others.all (fun x => x.2.wf) && r.heads.all (fun k => k == 1 || k == 2)

/-- A band of a cartridge: a die group and a block (R197, R201). -/
def bandWf (group block : Nat) : Bool := decide (group < 8) && decide (block < 1060)

/-- The wear map names bands, each once. -/
def CartFacts.wf (c : CartFacts) : Bool :=
  c.wear.all (fun w => bandWf w.1 w.2.1) && decide ((c.wear.map (fun w => (w.1, w.2.1))).Nodup)

/-- A memory class is 1 DRAM or 2 SRAM (R271). -/
def MemErr.wf (e : MemErr) : Bool := e.cls == 1 || e.cls == 2

/-- The sensors' IDs (R341). -/
def sensorId (id : Nat) : Bool :=
  decide (1 ≤ id ∧ id ≤ 73) || decide (101 ≤ id ∧ id ≤ 114) || decide (121 ≤ id ∧ id ≤ 134) || decide (141 ≤ id ∧ id ≤ 143) ||
    decide (151 ≤ id ∧ id ≤ 161)

/-- A command is well formed. -/
def Instr.wf (i : Instr) : Bool :=
  match i with
  | .init k => decide (k.payload.length ≤ maxPayload)
  | .data k => k.fits
  | .ack k => k.bare
  | .keepalive k => k.bare
  | .close k => k.fits
  | .pfcPauseRenew _ _ fill => decide (fill ≤ 1000)
  | .galeResult _ _ ups => ups.all (fun u => decide (u.addr < galeRows))
  | .nandReadDone _ o => o.wf
  | .rowCloseTimeout _ g b => bandWf g b
  | .patrolRead _ g b row o => bandWf g b && decide (row < 4096) && o.wf
  | .cartPresenceAssert _ c => c.wf
  | .memCe e => e.wf
  | .memUe e => e.wf
  | .narrowWrite _ _ w => decide (0 < w)
  | .thermalSample ts => ts.all (fun t => sensorId t.1)
  | .thermalLevelExit g => decide (g < 11)
  | .thermalTrip g p _ => decide (1 ≤ g ∧ g ≤ 5) && sensorId p
  | .sensorSample id _ => sensorId id
  | .tftpBlock n bs _ _ => decide (1 ≤ n) && decide (bs.length ≤ 1468)
  | .mgmtLinkChange up sp => !up || sp == 100 || sp == 1000
  | .getMeasurements i _ => decide (i < 256)
  | .dieStopsAnswering _ die _ => decide (die < 256)
  | .partnerReadReply _ _ _ v _ => decide (v < 2 ^ 64)
  | .arpRequest .. | .neighbourDiscovery .. | .icmpEchoRequest .. | .ptpMessage .. | .otherFrameDrop ..
  | .initSignatureDone .. | .auth .. | .pfcFrame .. | .delayedAckTimeout .. | .rtoExpiry .. | .keyPhaseUpdate ..
  | .halfOpenTimeout .. | .authHoldoffExpiry .. | .idleTimeout .. | .tombstoneExpiry .. | .replyStallTimeout ..
  | .creditBorrowGrant .. | .borrowWaitTimeout .. | .directoryEntryGrant .. | .moduleInsert .. | .linkUp .. | .linkDown ..
  | .capsuleSequence .. | .get .. | .put .. | .delete .. | .secureDelete .. | .exists_ .. | .casPut .. | .patch ..
  | .scanPrefix .. | .mpBegin .. | .mpPart .. | .mpCommit .. | .mpCancel .. | .flush .. | .flushComplete .. | .abort ..
  | .abortReplyRelease .. | .writerResolve .. | .readerReplyPlace .. | .journalRecordCommit .. | .shareWindowEnd
  | .mpIdleTimeout .. | .identify .. | .getParam .. | .setParam .. | .commitStagedCommit .. | .commitAndReset ..
  | .commitStagedDiscard .. | .selftestShort .. | .selftestExtended .. | .selftestStop .. | .selftestDone .. | .nsCreate ..
  | .nsDelete .. | .formatClear .. | .sanitiseCrypto .. | .sanitiseBlock .. | .readLog .. | .subscribe .. | .unsubscribe ..
  | .eventList .. | .setLevel .. | .powerCtlStatus .. | .descend .. | .powerCtlWake .. | .hold .. | .capTest ..
  | .setAlarm .. | .updBegin .. | .updChunk .. | .updVerify .. | .updActivateStagedSet .. | .updActivateOtherSlot ..
  | .updActivateRecovery .. | .updConfirm .. | .updCancel .. | .evacuateStart .. | .evacuateStatus .. | .evacuateCancel ..
  | .cartRelease .. | .cartForget .. | .cartReclaim .. | .clearLost .. | .policyWrite .. | .flipArm .. | .flipDisarm ..
  | .lineWrite .. | .lineRead .. | .rawRead .. | .galeRead .. | .galeSearch .. | .ringLoad .. | .pair .. | .unpair ..
  | .join .. | .unjoin .. | .setMode .. | .handover .. | .handoverWitnessTimeout | .promote .. | .promoteForce ..
  | .mirrorStatus .. | .witnessKey .. | .chain .. | .measure .. | .credStage .. | .credActivate .. | .credDelete ..
  | .credList .. | .authoritySet .. | .provision .. | .takeOwnership .. | .decommission .. | .retire ..
  | .galeVerifierRead .. | .galeStepUpDwell | .epochHeadClose | .epochEndRecordDurable | .indexPageReadDone ..
  | .fpRebuildStep .. | .forecastSuspendWindow | .nandProgramPass .. | .nandProgramFail .. | .nandEraseDone ..
  | .governorAdmit .. | .foldBatch .. | .gcBatch .. | .balanceMove | .cartLatchClose .. | .cartAuthResponse ..
  | .cartAuthTimeout .. | .cartLatchOpen .. | .quiesceDeadline .. | .cartPresenceDrop .. | .cartLivenessPoll ..
  | .cartRailFault .. | .wearSyncTimer .. | .cartLocateExpiry .. | .dewRead .. | .dewLapSlow | .hello .. | .helloRetryTimer
  | .cwAck .. | .cwClose | .heartbeat .. | .heartbeatTimer | .valueRecord .. | .patchRecord .. | .deleteRecord ..
  | .secureDeleteRecord .. | .mpBeginRecord .. | .mpPartRecord .. | .mpCommitRecord .. | .mpCancelRecord .. | .lostRecord ..
  | .listRecord .. | .wantRecord .. | .appliedRecord .. | .peerLossTimeout | .leaseRenewTimer | .leaseExpiry
  | .soloWaitExpiry | .claimTimer | .witnessRetransmit | .witnessGrant .. | .witnessRefuse .. | .resyncBucket ..
  | .hazeIdleTimeout | .fogIdleTimeout | .frostIdleTimeout | .glazeIdleTimeout | .wakePin | .rtcAlarm | .holdExpiry
  | .powerCapPeriod .. | .knobReleaseStep | .floorBreachRepeat | .thermalStopRecovery | .capTestSchedule | .capTestDone ..
  | .capTestRetry | .powerFailWarning .. | .holdupEnergyLow | .pllUnlock | .aux3v3Low | .powerOn .. | .pwrEnDeassert
  | .shutdownLimit | .fwWatchdog .. | .vaneWatchdog | .startReportTimeout | .ptpAnnounceTimeout | .persistedTimeWrite
  | .baroFlush | .baroFlushAge | .stagedCredExpiry .. | .updLeaseLapse | .trialDeadline | .tftpRetryTimer | .httpsConnect ..
  | .redfishServiceRootGet .. | .chassisGet .. | .chassisPatch .. | .sensorGet .. | .thermalSubsystemGet ..
  | .powerSubsystemGet .. | .fiernPowerWake .. | .countersGet .. | .driveBayGet .. | .managerGet ..
  | .managerPatchDatetime .. | .ethernetInterfaceGet .. | .ethernetInterfacePatch .. | .barographEntriesGet ..
  | .vaneRingEntriesGet .. | .retirementEntriesGet .. | .updateStatusEntriesGet .. | .eventServiceSse ..
  | .updateServiceGet .. | .multipartHttpPush .. | .redfishOtherRequest .. | .setEndpointId .. | .getEndpointId
  | .getMctpVersionSupport .. | .getMessageTypeSupport | .getTid | .getPldmVersion .. | .getPldmTypes | .getPldmCommands ..
  | .getPdrRepositoryInfo | .getPdr .. | .getSensorReading .. | .getStateSensorReadings .. | .effecterWake
  | .effecterLocate .. | .setEventReceiver .. | .platformEventAccept | .locateExpiry | .getVersion | .getCapabilities
  | .negotiateAlgorithms | .getDigests | .getCertificate .. | .challenge .. | .virradNsShow .. | .virradCartLocate ..
  | .virradTimeSet .. | .virradPowerWake | .virradPortStats .. | .virradSessionStats .. | .virradIndexStats
  | .virradForecastStats | .inputRestored .. | .dhcpReply .. | .moduleRemove .. | .galeDieNoAnswer .. | .asyncLagWarn ..
  | .partnerRead .. | .roleRecord .. | .pldmUnsupportedCommand .. | .spdmUnsupportedRequest .. => true

end Sys2Proof
end

