-- ==== Sys2Proof/Tests/Slice0.lean ====
section
/-! SUPPORT. The witnesses: for every statement with hypotheses, states and operands that meet them together, each on a small drive built
by the helpers below; then the tests of the well-formedness checks and of single steps. -/

namespace Sys2Proof.Tests
open Sys2Proof Sys2Proof.Machine

set_option maxRecDepth 100000
set_option Elab.async false
set_option linter.unusedVariables false

/-- The drive running, with its pins on, its links up, no life cycle entered (BLANK, mode Unowned). -/
def d0 : Dev :=
  { Dev.reset with
    par := { Conf.reset with run := .running },
    net := { Net.reset with links := Vector.replicate 3 ⟨some 60, false, true, 200, 1000⟩ },
    pow := { Power.reset with pwrEn := true, p12v := true, pllOk := true, aux3v3 := true, auxLost := false },
    mgmt := { Mgmt.reset with vaneUp := true, linkUp := true } }

def st (d : Dev) : State := ⟨[], d⟩

/-- An established session of tenant 7 on port 0. -/
def x0 : Session :=
  { sid := 1, port := 0, addr := 0xFFFF0A000001, uport := 777, stage := .established, tenant := 7, segSize := 8192, idleS := 60,
    transcript := 0, keys := ⟨0, none, 0, 0, 0⟩, rxCum := 1, rxGot := [], rxPhase := false, rxPrevUntil := none, dataSinceAck := 0, ackDue := false,
    lastCe := false, eceOwed := false, txNext := 1, txPhase := false, txPhaseStart := 0, txPhaseAcked := false, unacked := [],
    peerCum := 1, srtt := none, rttvar := 0, rto := 10000, expiries := 0, cwnd := 1048576, alpha := 0, winEnd := 0, winAcked := 0,
    winEce := 0, hostLimit := 1048576, replyPos := 0, replyQ := [], stalledSince := none, released := 0, seqPos := 0, ended := [], refused := [],
    early := [], overruns := [], subs := [], deferred := [], noticeQ := [] }

def hdr0 : Hdr :=
  { magic := 0x4657, version := 1, hdrLen := 12, opcode := 0, opcodeTwin := 0xFFFF, flags := 0, tag := 9, nsWord := 5,
    nsTwin := 0xFFFFFFFA, keyLen := 1, keyLenTwin := 0xFFFE, cls := 2, valueLen := 0, valueLenTwin := 0xFFFFFFFFFFFFFFFF, offset := 0,
    expVersion := 0, token := 0, valueCrc := 0, hdrCrc := 0 }

/-- A sequenced capsule of the session, number 7, with an opcode and its value bytes. -/
def capOf (op : BitVec 16) (v : Bytes) : Cap :=
  { sid := 1, tag := 9, start := 0, len := 97, hdr := { hdr0 with opcode := op, valueLen := BitVec.ofNat 64 v.length }, segs := [],
    hdrChecked := true, stage := .sequenced, awaitBorrow := false, awaitDir := false, delayed := false, slcWait := false, hotWait := false,
    tenant := 7, key := [1], value := v, checks := [], seq := 7, stamp := 0, cls := 2, limitPaid := true, tokenChecked := false,
    pageWait := false, captured := none, tokenStale := false, cursor := 0,
    visited := 0, replies := 0, window := 0, shown := [], copied := none, abortOf := none, forwarded := false, partner := none }

/-- A drive with capsules of the session. -/
def withCaps (d : Dev) (cs : List Cap) : Dev :=
  { d with net := { d.net with sessions := [x0] }, que := { d.que with caps := cs, nextSeq := 8 } }

/-- The namespace 5 with one bucket, on bay 0, and a cartridge in service there. -/
def n0 : Namespace :=
  { id := 5, salt := 0, atRestKey := 0, capQuota := 0, keyQuota := 0, earlyAck := false, reserve := false, saltSupplied := false,
    created := 0, charged := 0, keys := 0, held := 0, capLatched := false, keyLatched := false }
def b0 : Bucket :=
  { ns := 5, lo := 0, hi := 2 ^ 64 - 1, home := 0, entries := [], mergedThrough := 0, epoch := 0, pageLoc := 0, cached := true,
    lastUsed := 0, readId := 0, wanted := [], reading := false, prefetched := false, fpValid := true, twinOnce := none, pageLost := false, lostHome := [],
    movingFrom := none, dirty := false }
def slot0 : WearSlot :=
  { crcOk := true, recordSeq := 1, totalWear := 0, totalTwinOk := true, qlcErases := 0, slcErases := 0, hostBytes := 0,
    nandBytes := 0, powerOnHours := 0, retired := 0, spare := 8000, spareTwinOk := true, dieFailures := 0, stored := 1,
    storedTwinOk := true, bindCount := 0, driveSerial := 0, bay := 0, journalSeq := 0, time := 0, mapCrc := 0, wearMapOk := true }
def cart0 : Cartridge :=
  { serial := 42, leaf := 0, made := ⟨ascii "IVC-64Q", 0x42, Config.sha256 ((List.replicate 256 ([] : Bytes)).flatMap id), Config.sha256 [], 100, 1000, 8000, 0⟩, slots := ⟨#[slot0, { slot0 with crcOk := false }], rfl⟩ }
def bay0 : Bay :=
  { Bay.reset with state := .inService, present := true, railsOn := true, cart := some cart0, bound := some 42, spare := 8000 }
def withBay (d : Dev) (b : Bay) : Dev := { d with bays := d.bays.set 0 b }
def withNs (d : Dev) : Dev := { withBay d bay0 with ns := [n0], idx := { d.idx with buckets := [b0] } }

/-- One capsule under way: a state with it alone. -/
def one (c : Cap) : State := st (withCaps d0 [c])
def par (id : Nat) (v : Bytes) (d : Dev) : Dev := { d with par := { d.par with values := (id, v) :: d.par.values } }
def net (f : Net → Net) (d : Dev) : Dev := { d with net := f d.net }
def que (f : Queue → Queue) (d : Dev) : Dev := { d with que := f d.que }
def idx (f : Index → Index) (d : Dev) : Dev := { d with idx := f d.idx }
def med (f : Media → Media) (d : Dev) : Dev := { d with med := f d.med }
def pow (f : Power → Power) (d : Dev) : Dev := { d with pow := f d.pow }
def mgm (f : Mgmt → Mgmt) (d : Dev) : Dev := { d with mgmt := f d.mgmt }
def mir (f : Mirror → Mirror) (d : Dev) : Dev := { d with mir := f d.mir }
def sec (f : Security → Security) (d : Dev) : Dev := { d with sec := f d.sec }
def upd (f : Update → Update) (d : Dev) : Dev := { d with upd := f d.upd }
def inSess (x : Session) : Dev := { d0 with net := { d0.net with sessions := [x] }, gale := d0.gale.insert .session (sessionWord x.addr x.uport) }
def pk : Packet :=
  { port := 0, addr := x0.addr, uport := 777, sid := 1, psn := 1, first := false, last := false, ackValid := true, keyPhase := false,
    ece := false, cumAck := 1, sack := 0, streamOffset := 0, creditLimit := 2000000, payload := [], reserved := 0, tag := 0, ce := false }
def rxSeal (x : Session) (t : PktType) (k : Packet) : Packet :=
  { k with tag := Config.gcmTag (x.rxKey k) (x.keys.h2dIv ++ k.psn) (packetHeader t k) k.payload }
theorem rxSeal_opens (x : Session) (t : PktType) (k : Packet) : x.opens t (rxSeal x t k) = true := by
  simp [Session.opens, rxSeal, Session.rxKey, packetHeader]
def authSeal (x : Session) (k : AuthPacket) : AuthPacket := { k with tag := (rxSeal x .auth (authPacket k)).tag }
theorem authSeal_opens (x : Session) (k : AuthPacket) : x.opens .auth (authPacket (authSeal x k)) = true :=
  rxSeal_opens x .auth (authPacket k)
def initK : InitPacket :=
  { port := 0, addr := x0.addr, uport := 777, fwpVersion := 1,
    payload := natToBytesBE 1 1 ++ zeroBytes 1 ++ natToBytesBE 2 8192 ++ zeroBytes 36 ++ natToBytesBE 1 4 ++ zeroBytes 1300 }
def hdrBytes (op : BitVec 16) (n : Nat) : Bytes :=
  natToBytesBE 2 0x4657 ++ [1, 12] ++ natToBytesBE 2 op.toNat ++ natToBytesBE 2 (~~~op).toNat ++ zeroBytes 4 ++ natToBytesBE 4 9 ++
    natToBytesBE 4 5 ++ natToBytesBE 4 0xFFFFFFFA ++ natToBytesBE 2 1 ++ natToBytesBE 2 0xFFFE ++ natToBytesBE 4 2 ++
    natToBytesBE 8 n ++ natToBytesBE 8 (2 ^ 64 - 1 - n) ++ zeroBytes 40
def segBytes : Bytes := let h := hdrBytes Op.put 20000 ++ natToBytesBE 4 (crc32c (hdrBytes Op.put 20000 ++ [5])).toNat ++ zeroBytes 4 ++ [5]
  h ++ zeroBytes (1024 - h.length)
def capX (op : BitVec 16) (f : Cap → Cap) : Cap := f (capOf op [])

def withPol (d : Dev) : Dev := { d with pol := { tenants := [⟨7, 0, 0xFFFFFFFF, 0, 0, 0, 0, 0, 0, 0⟩], bindings := [⟨7, 5, 0xFFFFFFFF⟩], gen := 1 } }
def asm (op : BitVec 16) : Cap := capX op (fun c => { c with seq := 0, stage := .assembled })
def abortCap : Cap := { asm Op.abort with tag := 10, start := 97, hdr := { hdr0 with opcode := Op.abort, offset := 9, tag := 10 } }
def heldC : Cap := { abortCap with seq := 7, stage := .held, abortOf := some (9, 2), cursor := 0 }
def hash0 : BitVec 128 := keyHash 0 [1]
def ver0 : Version :=
  { ns := 5, hash := keyHash 0 [1], key := [1], seq := 3, content := some [8, 9], checks := chunkChecks [8, 9], bad := [], opcode := Op.put, sid := 2, start := 0, tag := 4,
    tenant := 7, early := false, done := true, onMedium := false, units := 0, charge := 0, refund := 0, provisional := false,
    newKey := false, counted := true, uncond := true, secure := false, onLost := none, upload := none, loc := 1, gen := 1, bay := 0,
    jseq := 1, mirrorWait := false }
def withVer (d : Dev) : Dev := que (fun q => { q with drift := [ver0] }) (withNs d)
def owned (d : Dev) : Dev := { d with par := { d.par with mode := 3 }, sec := { d.sec with lc := Vector.replicate 2 { LcCopy.reset with state := 3, stateTwin := 0xFC } } }

def entry0 : Entry := ⟨keyHash 0 [1], [1], 2, 1, 1, 2, false, locTwin 1⟩
def withEntry (d : Dev) : Dev := idx (fun i => { i with buckets := [{ b0 with entries := [entry0] }] }) (withNs d)
def rec0 : JRec := { jseq := 4, ref := 0, kind := .deletion, ns := 5, hash := keyHash 0 [1], key := [1], version := 3, loc := 0, gen := 0, len := 0, bay := 0, epoch := 1, programmed := true, committed := false, writer := some 3, sealedKey := 0 }


def up0 : Upload := { id := 4, ns := 5, key := [1], hash := keyHash 0 [1], tenant := 7, declared := 10, marginUsed := 0, parts := [], lastUse := 0 }
def dies32 : List Nat := List.range 32
def band0 : Band :=
 { group := 0, block := 200, mode := .qlc, stream := .warm, isOpen := false, next := 1000, items := [], levelSet := 0, levels := [], levelsSaved := [], reads := [],
   refresh := true, unprotected := [], openedAt := 0, lastWrite := 0, erasing := false, victim := false, srcs := [], summaryLoc := 0, pages := [], dies := dies32,
   second := [], gaps := [], parityDue := [] }
def loc0 : Nat := locOf 0 0 0 0 200 0 0
def copy0 : Copy :=
 { bay := 0, group := 0, block := 200, loc := loc0, runs := [(loc0, 1)], mapLoc := 0, ns := 5, hash := keyHash 0 [1], key := [1],
   version := 2, gen := 1, bytes := [8, 9], sealedKey := 0, heads := [⟨1, 2, 1, 2⟩], bad := [], badHeads := [], fallback := none, programmed := true, dead := false, written := 0, gap := none }
def withCopy (x : Band) (d : Dev) : Dev :=
  { idx (fun i => { i with buckets := [{ b0 with entries := [{ entry0 with loc := loc0, twin := locTwin loc0 }] }] }) (withNs d) with
    bays := (withNs d).bays.set 0 { bay0 with bands := [x] }, med := { d.med with copies := [copy0], nextOp := 50 } }
def op0 : GovOp := ⟨9, 0, 0, [0], .read, 1, 0⟩
def read0 : Read := { id := 9, seq := 7, loc := loc0, gen := 1, want := [0], shared := [], tenant := 7, source := none, squashed := none, second := false, confirming := false, rest := 0, arrived := none }
def prog0 : Prog := { id := 9, bay := 0, stream := .warm, group := 0, block := 200, page := 3, die := 1, chunks := 0, what := .parity 0 200 3, tries := 0, groupsTried := [] }
def erase0 : Erase := ⟨9, 0, 0, 200, .gc⟩

def inPol : Dev := { d0 with pol := { d0.pol with bindings := [⟨7, 5, 3⟩] }, gale := d0.gale.insert .policy (bindingWord 7 5) }
def facts0 : CartFacts := { cart := cart0, table := [], base := [], wear := [], retired := [], journalSeq := 0 }
def authing : Bay := { Bay.reset with state := .authenticating, present := true, railsOn := true, guest := some facts0 }

def adm (op : BitVec 16) (v : Bytes) : Cap :=
  { capOf op v with cls := 0, key := [], hdr := { (capOf op v).hdr with cls := 0, nsWord := 0 } }
def admN (op : BitVec 16) (v : Bytes) : Cap := { capOf op v with cls := 0, key := [], hdr := { (capOf op v).hdr with cls := 0 } }
def pad (n : Nat) (b : Bytes) : Bytes := b ++ zeroBytes (n - b.length)
def oper (d : Dev) : Dev := sec (fun s => { s with creds := [⟨7, true, some 3, none, 0, 0⟩] }) d
def hasPkg : Bytes := zeroBytes 48


def manifest (i : Nat) : Bytes := natToBytesBE 1 (i + 1) ++ zeroBytes 3 ++ natToBytesBE 4 2 ++ natToBytesBE 8 (65536 + 4096 * i) ++ natToBytesBE 8 4096 ++ zeroBytes 40
def pkgHead : Bytes :=
  natToBytesBE 2 0x5557 ++ [1, 0] ++ natToBytesBE 4 424 ++ natToBytesBE 8 86016 ++ natToBytesBE 4 0x464B3441 ++ natToBytesBE 4 2 ++
    zeroBytes 16 ++ natToBytesBE 4 1 ++ zeroBytes 14 ++ natToBytesBE 2 8 ++ natToBytesBE 4 1 ++
    (List.range 5).flatMap manifest ++ zeroBytes 40
def pkg0 : Bytes := pkgHead ++ zeroBytes (65536 - 424)
def updS (n : Nat) (st : Option Staging) (d : Dev) : Dev := upd (fun u => { u with state := n, staging := st, lease := some ⟨⟨1, 7⟩, 0, 0⟩ }) d
def holderOf (c : Cap) : UpdSource := c.source
def tftp0 : Tftp := { server := some 9, file := [1], blocksize := 1468, nextBlock := 2, received := [], done := 0, waiting := false }
def inRec (t : Tftp) : Dev := { d0 with par := { d0.par with run := .recovery, mode := 1 }, upd := { d0.upd with tftp := some t } }

def thePol : Option Policy := none

def mns0 : MirrorNs :=
  { ns := 5, lead := true, st := .inSync, prev := .inSync, sync := true, lossy := false, watermark := 0, newest := 0, acked := 0, unapplied := [],
    securePending := [], listing := [], failedKeys := [], waitSince := none, soloGranted := false, refusedNew := false, lagWarned := false,
    resyncBuckets := 0, resyncBytes := 0, resyncSince := 0, diverged := 0, divergedLow := 0, divergedHigh := 0, lower := false }
def paired (st : PairState) (ms : List MirrorNs) (d : Dev) : Dev :=
  mir (fun m => { m with state := st, pairId := 3, partnerNode := 9, nss := ms, lostSince := if st == .peerLost then some 0 else none }) (withNs d)
def witSet (d : Dev) : Dev := mir (fun m => { m with witnessKey := some 5 }) (par P.mirrorWitnessAddr (natToBytesBE 16 9) d)


def cw0 : CwHdr := { psn := 0, cumAck := 0, sack := 0, epoch := 4, creditLimit := 1000000, hbSeq := 6, hbEcho := 0, committed := 0 }
def follow0 : MirrorNs := { mns0 with lead := false }
def rec1 : CwRec := { ns := 5, version := 100, valueLength := 4, offset := 0, uploadId := 50, key := [1], data := [1, 2, 3, 4] }
def hotBand : Band := { band0 with group := 4, block := 300, mode := .slc, stream := .hot, isOpen := true, next := 0, refresh := false }
def folD (cs : List Cap) : Dev :=
  let d := withCopy band0 (paired .linked [follow0] (withCaps (owned d0) cs))
  { d with bays := d.bays.set 0 { d.bays.get 0 with bands := [band0, hotBand] } }
def fol : Dev := { folD [] with mir := (paired .linked [follow0] d0).mir, ns := [n0] }


theorem high64_le (h : BitVec 128) : high64 h ≤ 2 ^ 64 - 1 := by unfold high64; have := h.isLt; omega
theorem bucket_whole (d : Dev) (b : Bucket) (n : BitVec 12) (h : BitVec 128) (hb : d.idx.buckets = [b]) (hn : b.ns = n)
    (hl : b.lo = 0) (hh : b.hi = 2 ^ 64 - 1) : d.bucketOf n h = some b := by
  simp [Dev.bucketOf, Bucket.covers, hb, hn, hl, hh]; exact high64_le h
theorem drift_one (d : Dev) (v : Version) (n : BitVec 12) (h : BitVec 128) (s : Nat) (hd : d.que.drift = [v]) (hn : v.ns = n)
    (hh : v.hash = h) (hs : v.seq < s) (hb : (v.onMedium && v.done) = false) : d.driftBelow n h s = some v := by
  have hb' : v.onMedium = true → v.done = false := by revert hb; cases v.onMedium <;> cases v.done <;> decide
  simp [Dev.driftBelow, Dev.buffered, hd, hn, hh, hs]
  exact hb'
theorem base_drift (d : Dev) (v : Version) (n : BitVec 12) (h : BitVec 128) (k : Bytes) (s : Nat)
    (hd : d.driftBelow n h s = some v) (hg : d.gale.dupKeys = []) (hk : v.key = k) : d.base n h k s = .state v.state := by
  simp [Dev.base, hd, hg, hk]
theorem drift_none (d : Dev) (n : BitVec 12) (h : BitVec 128) (s : Nat) (hd : d.que.drift = []) : d.driftBelow n h s = none := by
  simp [Dev.driftBelow, hd]
theorem look_one (d : Dev) (b : Bucket) (e : Entry) (n : BitVec 12) (h : BitVec 128) (hb : d.bucketOf n h = some b)
    (hg : d.gale.dupKeys = []) (ha : d.homeAbsent b = false) (hl : d.idx.log = []) (hp : b.pageLost = false) (hc : b.cached = true)
    (he : b.entries = [e]) (hh : e.hash = h) : d.look n h = e.look := by
  simp [Dev.look, Dev.lookBy, Dev.logRec, hb, hg, ha, hl, hp, hc, he, hh]
theorem full_one (d : Dev) (b : Bucket) (e : Entry) (n : BitVec 12) (h : BitVec 128) (hb : d.bucketOf n h = some b)
    (hg : d.gale.dupKeys = []) (ha : d.homeAbsent b = false) (hl : d.idx.log = []) (hp : b.pageLost = false) (hc : b.cached = true)
    (he : b.entries = [e]) (hh : e.hash = h) (hk : e.badTwin = false) : d.lookFull n h = e.look := by
  rw [Dev.lookFull, look_one d b e n h hb hg ha hl hp hc he hh]
  unfold Entry.look; split <;> simp_all


theorem names_of (d : Dev) (c : Copy) (e : Entry) (h : d.lookFull c.ns c.hash = e.look) (hb : e.badTwin = false) (hl : e.lost = false)
    (h1 : e.loc = c.loc) (h2 : e.gen = c.gen) : d.names c = true := by
  simp [Dev.names, h, Entry.look, hb, hl, h1, h2]
theorem liveIn_one (d : Dev) (c : Copy) (bay : BayNo) (g b : Nat) (hc : d.med.copies = [c])
    (hl : (c.programmed && !c.dead && c.inBand bay g b) = true) (hn : d.names c = true) : d.liveIn bay g b = [c] := by
  simp_all [Dev.liveIn]
theorem foldable_one (d : Dev) (c : Copy) (bay : BayNo) (x : Band) (hb : (d.bays.get bay).bands = [x])
    (hx : (decide (128 ≤ x.block) && x.mode == .slc && !x.erasing) = true) (hl : d.liveIn bay x.group x.block = [c])
    (hm : d.moving c = false) : d.foldable bay = [c] := by
  simp only [Bool.and_eq_true, decide_eq_true_eq, beq_iff_eq, Bool.not_eq_eq_eq_not, Bool.not_true] at hx
  simp [Dev.foldable, hb, hx, hl, hm]
theorem victim_one (d : Dev) (c : Copy) (bay : BayNo) (x : Band) (hb : (d.bays.get bay).bands = [x])
    (hx : x.closedMain = true) (hv : x.victim = false) (hr : x.refresh = true) (hl : d.liveIn bay x.group x.block = [c])
    (hm : d.moving c = false) (hh : c.badHeads = []) : d.gcVictim bay = some x := by
  simp [Dev.gcVictim, hb, hx, hr, hl, hm, hh]
theorem apply_one (d : Dev) (b : Bucket) (n : BitVec 12) (h : BitVec 128) (hb : d.bucketOf n h = some b)
    (hm : (modeRefusal d.par.mode (d.par.mode == 5) Op.put 0).isNone = true)
    (ha : (d.homeAbsent b || d.bucketAway b (2 ^ 64)) = false) : d.applyStatus n h = none := by
  rw [Option.isNone_iff_eq_none] at hm
  unfold Dev.applyStatus
  rw [hm, hb]
  simp only [ha, Bool.false_eq_true, if_false]
theorem version_one (d : Dev) (e : Entry) (n : BitVec 12) (h : BitVec 128) (hd : d.que.drift = []) (hl : d.idx.log = [])
    (hf : d.lookFull n h = e.look) (hb : e.badTwin = false) (hx : e.lost = false) : d.keyVersion n h = e.version := by
  simp [Dev.keyVersion, drift_none, hd, Dev.logRec, hl, hf, Entry.look, hb, hx]
theorem version_lt (d : Dev) (e : Entry) (n : BitVec 12) (h : BitVec 128) (r : Nat) (hd : d.que.drift = []) (hl : d.idx.log = [])
    (hf : d.lookFull n h = e.look) (hb : e.badTwin = false) (hx : e.lost = false) (hr : e.version < r) : d.keyVersion n h < r := by
  rw [version_one d e n h hd hl hf hb hx]; exact hr
theorem auth_ok (d : Dev) (s : Session) (k : AuthPacket) (key : BitVec 256) (hk : d.authKeys k.tenant = [key])
    (hp : Config.hmac (natToBytesBE 32 key.toNat) (authMessage s.transcript k.tenant) = k.proof) (hb : d.authBarred = false)
    (hn : (k.tenant != provisioningId && !d.isOperator k.tenant &&
      decide (d.pnum P.transportSessionsPerTenantMax ≤ (d.liveSessions.filter (·.tenant == k.tenant)).length)) = false) :
    d.authStatus s k = Status.ok := by
  unfold Dev.authStatus
  rw [hk, hb, hn]
  simp [hp]
theorem home_of (d : Dev) (b : Bucket) (n : BitVec 12) (h : BitVec 128) (hb : d.bucketOf n h = some b) : d.homeOf n h = b.home := by
  simp [Dev.homeOf, hb]
theorem gen_after (d : Dev) (e : Entry) (n : BitVec 12) (h : BitVec 128) (key : Bytes) (s : Nat) (hd : d.que.drift = [])
    (hf : d.lookFull n h = e.look) (hb : e.badTwin = false) (hx : e.lost = false) : d.genAfter n h key s = nextGen e.gen := by
  simp [Dev.genAfter, Dev.driftFor, drift_none, hd, hf, Entry.look, hb, hx]
theorem apply_some (d : Dev) (s : Namespace) (r : CwRec) (h : BitVec 128) (k : KState) (op : BitVec 16) (p : Plan) (sec : Bool)
    (u : Option Nat) (bay : BayNo) (gen : Nat) (hb : d.homeOf s.id h = bay) (hg : d.genAfter s.id h r.key r.version = gen)
    (hn : d.binds s h r.key.length (if p.content.isNone || u.isSome then 0 else chunkBytes (p.content.getD []).length) k.charge
      (p.content.isSome && (k == .absent || k == .lostHome)) = .none)
    (hz : (match d.placeValue bay .hot (r.version % 8) p.segs s h r.key r.version gen (p.content.getD []) p.bad (.value r.version) with
      | none => false
      | some (loc, d1) => (d1.journal bay (r.version % 8) (mkRec (if p.content.isNone then JKind.deletion else .value) s.id h r.key
          r.version loc gen (p.content.getD []).length bay (some r.version))).isSome) = true) :
    (d.applyWrite s r h k op p sec u).isSome = true := by
  unfold Dev.applyWrite
  simp only [hb, hg, hn]
  generalize d.placeValue bay .hot (r.version % 8) p.segs s h r.key r.version gen (p.content.getD []) p.bad (.value r.version) = o at hz ⊢
  cases o with
  | none => exact absurd hz Bool.false_ne_true
  | some q =>
    obtain ⟨loc, d1⟩ := q
    dsimp only at hz ⊢
    generalize d1.journal bay (r.version % 8) (mkRec (if p.content.isNone then JKind.deletion else .value) s.id h r.key
      r.version loc gen (p.content.getD []).length bay (some r.version)) = j at hz ⊢
    cases j with
    | none => exact absurd hz Bool.false_ne_true
    | some q => rfl
theorem base_copy (d : Dev) (e : Entry) (c : Copy) (n : BitVec 12) (h : BitVec 128) (s : Nat) (hd : d.que.drift = [])
    (hf : d.lookFull n h = e.look) (hb : e.badTwin = false) (hx : e.lost = false) (hc : d.copyAt e.loc e.gen = some c) (key : Bytes) :
    d.baseCopy n h key s = some c := by
  simp [Dev.baseCopy, Dev.driftFor, drift_none, hd, hf, Entry.look, hb, hx, hc]
theorem base_bytes (d : Dev) (e : Entry) (c : Copy) (n : BitVec 12) (h : BitVec 128) (s : Nat) (hd : d.que.drift = [])
    (hf : d.lookFull n h = e.look) (hb : e.badTwin = false) (hx : e.lost = false) (hc : d.copyAt e.loc e.gen = some c) (key : Bytes) :
    d.baseBytes n h key s = (d.plainOf c, c.bad, c.badHeads.map (·.1)) := by
  simp [Dev.baseBytes, Dev.driftFor, drift_none, hd, hf, Entry.look, hb, hx, hc]
theorem content_at (d : Dev) (e : Entry) (c : Copy) (n : BitVec 12) (h : BitVec 128) (v : Nat) (hd : d.que.drift = [])
    (hf : d.lookFull n h = e.look) (hb : e.badTwin = false) (hx : e.lost = false) (hc : d.copyAt e.loc e.gen = some c)
    (hv : e.version = v) (hg : c.bad.isEmpty = true) (hh : c.badHeads = []) (hs : d.serves c.bay = true) :
    d.contentAt n h v = some (d.plainOf c) := by
  simp only [List.isEmpty_iff] at hg
  simp [Dev.contentAt, drift_none, hd, hf, Entry.look, hb, hx, hc, hv, hg, hh, hs]
theorem recState_one (d : Dev) (e : Entry) (n : BitVec 12) (h : BitVec 128) (key : Bytes) (hd : d.que.drift = [])
    (hf : d.lookFull n h = e.look) (hb : e.badTwin = false) (hx : e.lost = false) (hk : e.key = key) :
    d.recState n h key = some (.present e.version e.len e.gen) := by
  simp [Dev.recState, drift_none, hd, hf, Entry.look, Look.base, hb, hx, hk]
theorem again_nil (d : Dev) (bay : BayNo) (h : ∀ c ∈ d.med.copies, c.fallback = none) : d.againPairs bay = [] := by
  unfold Dev.againPairs
  rw [List.filterMap_eq_nil_iff]
  intro c hc
  simp [h c hc]

/-- States and operands that meet the hypotheses of `Obligations.FramesAndLinks`, clause by clause. -/
theorem test_wit_FramesAndLinks :
    (∃ (s : State) (p : Port) (target : BitVec 32) (sender : BitVec 32), s.dev.hears p = true ∧ s.dev.ownsIpv4 p target = true) ∧
    (∃ (s : State) (p : Port) (target : Addr), s.dev.hears p = true ∧ s.dev.ownsIpv6 p target = true) ∧
    (∃ (s : State) (p : Port) (src : Addr) (b : Bytes), s.dev.hears p = true ∧ s.dev.pow.rung = .clear ∧
        (s.dev.window (rateKey 0x10001 p.val) 1000).1 = true) ∧
    (∃ (s : State) (src : Addr) (b : Bytes), s.dev.mgmt.vaneUp = true ∧ s.dev.mgmt.linkUp = true ∧ s.dev.pow.rung ≠ .glaze ∧
        (s.dev.window (rateKey 0x10001 2) 100).1 = true) ∧
    (∃ (s : State) (p : Port) (x : RawFrame) (f : FrameFault), s.dev.hears p = true ∧ s.dev.pow.rung = .clear ∧ settled s.dev ∧
        s.dev.frameFault p x = some f) ∧
    (∃ (s : State), (s.dev.net.links.get 2).up = true ∧ settled s.dev) ∧
    (∃ (s : State) (l : Link) (w : Nat), (s.dev.net.links.get l).module = none) ∧
    (∃ (s : State) (l : Link) (us : Nat) (pmd : Nat), s.dev.linkMay l = true) ∧
    (∃ (s : State) (l : Link) (cause : LinkCause), (s.dev.net.links.get l).up = true) :=
  ⟨⟨st (par P.transportPort0Ipv4 (zeroBytes 12 ++ natToBytesBE 4 0x0A000005 ++ zeroBytes 24) d0), 0, 0x0A000005, 7, by decide +kernel⟩,
    ⟨st (par P.transportPort1Ipv6 (natToBytesBE 16 7 ++ zeroBytes 24) d0), 1, 7, by decide +kernel⟩,
    ⟨st (d0), 1, 7, [1], by decide +kernel⟩,
    ⟨st (d0), 7, [1], by decide +kernel⟩,
    ⟨st (d0), 1, ⟨false, 100, [], true, none, .good, 0, []⟩, .l2, by decide +kernel⟩,
    ⟨st (d0), by decide +kernel⟩,
    ⟨st (net (fun n => { n with links := Vector.replicate 3 LinkState.reset }) d0), 0, 120, by decide +kernel⟩,
    ⟨st (net (fun n => { n with links := Vector.replicate 3 { LinkState.reset with module := some 120 } }) d0), 2, 500, 3, by decide +kernel⟩,
    ⟨st (d0), 0, .fecRate, by decide +kernel⟩⟩

/-- States and operands that meet the hypotheses of `Obligations.HandshakeEstablishes`, clause by clause. -/
theorem test_wit_HandshakeEstablishes :
    (∃ (s : State) (k : InitPacket), s.dev.hears k.port = true ∧ s.dev.pow.rung = .clear ∧ settled s.dev ∧ 1200 ≤ k.payload.length + 48 ∧
        k.fwpVersion = 1 ∧ s.dev.gale.find .session (sessionWord k.addr k.uport) = none ∧ s.dev.initRefusal k = none) ∧
    (∃ (s : State) (h : Handshake) (rest : List Handshake), s.dev.net.shakes = h :: rest ∧ settled s.dev ∧
        s.dev.gale.find .session (sessionWord h.pkt.addr h.pkt.uport) = none) ∧
    (∃ (s : State) (k : AuthPacket) (x : Session), s.dev.hears k.port = true ∧ s.dev.pow.rung = .clear ∧
        s.dev.sessionFor k.addr k.uport k.port k.sid = some x ∧ x.stage = .halfOpen ∧ x.rxCum = 0 ∧ k.psn = 0 ∧
        x.opens .auth (authPacket k) = true ∧ s.dev.authStatus x k = Status.ok) :=
  ⟨⟨st (d0), initK, by decide +kernel⟩,
    ⟨st (net (fun n => { n with shakes := [⟨initK⟩] }) d0), ⟨initK⟩, [], by decide +kernel⟩,
    (by refine ⟨st (sec (fun s => { s with creds := [⟨7, false, some 3, none, 0, 0⟩], lc := Vector.replicate 2 { LcCopy.reset with state := 3, stateTwin := 0xFC } }) (inSess { x0 with stage := .halfOpen, rxCum := 0, tenant := 0 })), authSeal { x0 with stage := .halfOpen, rxCum := 0, tenant := 0 } { port := 0, addr := x0.addr, uport := 777, sid := 1, psn := 0, first := true, last := true, ackValid := false, keyPhase := false, ece := false, reserved := 0, cumAck := 0, sack := 0, streamOffset := 0, creditLimit := 262144, tenant := 7, reservedWord := 0, proof := Config.hmac (natToBytesBE 32 3) (authMessage 0 7), tag := 0, ce := false }, { x0 with stage := .halfOpen, rxCum := 0, tenant := 0 }, ?_, ?_, ?_, ?_, ?_, ?_, authSeal_opens _ _, auth_ok _ _ _ 3 (by decide +kernel) rfl (by decide +kernel) (by decide +kernel)⟩ <;> decide +kernel)⟩

/-- States and operands that meet the hypotheses of `Obligations.SessionPacketsTakeEffect`, clause by clause. -/
theorem test_wit_SessionPacketsTakeEffect :
    (∃ (s : State) (k : Packet) (x : Session) (c : Cap) (r : OpRow), arrives s.dev .data k x ∧
        k.streamOffset.toNat + k.payload.length ≤ s.dev.creditLimit x ∧ s.dev.capAt x.sid k.streamOffset.toNat = none ∧
        x.refusedAt k.streamOffset.toNat = none ∧ x.past k.streamOffset.toNat = false ∧ k.first = true ∧ x.early = [] ∧
        s.dev.squallUse + k.payload.length ≤ squallBytes ∧ s.dev.placing x.sid c.tag = false ∧
        (∀ y ∈ s.dev.net.sessions, y.sid = x.sid → y = x) ∧
        c = newCap x ⟨k.streamOffset.toNat, k.payload, k.first, k.last⟩ (Hdr.parse k.payload) ∧
        96 + c.hdr.keyLen.toNat ≤ k.payload.length ∧ k.payload.length < c.len ∧ c.hdr.magic = 0x4657 ∧ c.hdr.version = 1 ∧
        c.hdr.hdrLen = 12 ∧ twinOk c.hdr.keyLen c.hdr.keyLenTwin = true ∧ twinOk c.hdr.valueLen c.hdr.valueLenTwin = true ∧
        twinOk c.hdr.opcode c.hdr.opcodeTwin = true ∧ twinOk c.hdr.nsWord c.hdr.nsTwin = true ∧ opRow c.hdr.opcode = some r ∧
        lengthsOk r c.hdr = true ∧ firstSegOk x.segSize c.len ⟨k.streamOffset.toNat, k.payload, k.first, k.last⟩ = true ∧
        s.dev.capByTag x.sid c.tag = none ∧ c.hdr.opcode ≠ Op.abort ∧ s.dev.net.reserveFits x.sid c.len = true ∧
        headerCrc c k.payload = c.hdr.hdrCrc ∧ fieldsOk c.hdr = true) ∧
    (∃ (s : State) (k : Packet) (x : Session), arrives s.dev .ack k x) ∧
    (∃ (s : State) (k : Packet) (x : Session), arrives s.dev .keepalive k x) ∧
    (∃ (s : State) (k : Packet) (x : Session), arrives s.dev .close k x) :=
  ⟨⟨st (inSess { x0 with segSize := 1024 }), rxSeal { x0 with segSize := 1024 } .data { pk with payload := segBytes, first := true }, { x0 with segSize := 1024 }, newCap { x0 with segSize := 1024 } ⟨0, segBytes, true, false⟩ (Hdr.parse segBytes), ⟨Op.put, 1, 1024, true, 0, 16777216, 0b1101001⟩, ⟨by decide +kernel, by decide +kernel, by decide +kernel, by decide +kernel, rxSeal_opens _ _ _, by decide +kernel, by decide +kernel, by decide +kernel⟩, by decide +kernel⟩,
    ⟨st (inSess x0), rxSeal x0 .ack pk, x0, ⟨by decide +kernel, by decide +kernel, by decide +kernel, by decide +kernel, rxSeal_opens _ _ _, by decide +kernel, by decide +kernel, by decide +kernel⟩⟩,
    ⟨st (inSess x0), rxSeal x0 .keepalive pk, x0, ⟨by decide +kernel, by decide +kernel, by decide +kernel, by decide +kernel, rxSeal_opens _ _ _, by decide +kernel, by decide +kernel, by decide +kernel⟩⟩,
    ⟨st (inSess x0), rxSeal x0 .close pk, x0, ⟨by decide +kernel, by decide +kernel, by decide +kernel, by decide +kernel, rxSeal_opens _ _ _, by decide +kernel, by decide +kernel, by decide +kernel⟩⟩⟩

/-- States and operands that meet the hypotheses of `Obligations.FlowControlAndSendTimers`, clause by clause. -/
theorem test_wit_FlowControlAndSendTimers :
    (∃ (s : State) (p : Port) (enable : BitVec 8) (quanta : Vector (BitVec 16) 8), s.dev.hears p = true) ∧
    (∃ (s : State) (p : Port) (lull : Bool) (fill : Nat), s.dev.hears p = true ∧ BitVec.ofNat 8 (s.dev.pnum P.transportPfcPriorities) ≠ 0 ∧
        lull = (s.dev.pow.rung == .fog) ∧ s.dev.net.pfcTx.get p = none ∧ (pfcMarks lull).1 < fill) ∧
    (∃ (s : State) (p : Port) (lull : Bool) (fill : Nat), s.dev.hears p = true ∧ BitVec.ofNat 8 (s.dev.pnum P.transportPfcPriorities) ≠ 0 ∧
        lull = (s.dev.pow.rung == .fog) ∧ (s.dev.net.pfcTx.get p).isSome = true ∧ (pfcMarks lull).2 ≤ fill) ∧
    (∃ (s : State) (p : Port) (lull : Bool) (fill : Nat), s.dev.hears p = true ∧ BitVec.ofNat 8 (s.dev.pnum P.transportPfcPriorities) ≠ 0 ∧
        lull = (s.dev.pow.rung == .fog) ∧ (s.dev.net.pfcTx.get p).isSome = true ∧ fill < (pfcMarks lull).2) ∧
    (∃ (s : State) (sid : BitVec 32) (x : Session), s.dev.session? sid = some x ∧ x.ackDue = true ∧ x.live = true ∧ x.psnOpen = true ∧
        settled s.dev) ∧
    (∃ (s : State) (sid : BitVec 32) (x : Session) (k : TxPacket), s.dev.session? sid = some x ∧
        x.unacked.find? (fun t => !t.sacked) = some k ∧ x.expiries + 1 < s.dev.pnum P.transportRetxLimit) ∧
    (∃ (s : State) (k : CwSent), s.dev.mir.unacked.find? (fun f => !f.sacked) = some k ∧ s.dev.linked = true ∧
        s.dev.mir.expiries + 1 < s.dev.pnum P.transportRetxLimit) ∧
    (∃ (s : State) (sid : BitVec 32) (x : Session), s.dev.session? sid = some x ∧ x.txPhaseAcked = true ∧
        x.txPhaseStart + 2 ^ 30 ≤ x.txNext) :=
  ⟨⟨st (d0), 1, 3, Vector.replicate 8 512, by decide +kernel⟩,
    ⟨st (par P.transportPfcPriorities (num8 8) d0), 0, false, 901, by decide +kernel⟩,
    ⟨st (par P.transportPfcPriorities (num8 8) (net (fun n => { n with pfcTx := Vector.replicate 2 (some ⟨0, 0⟩) }) d0)), 0, false, 500, by decide +kernel⟩,
    ⟨st (par P.transportPfcPriorities (num8 8) (net (fun n => { n with pfcTx := Vector.replicate 2 (some ⟨0, 0⟩) }) d0)), 0, false, 499, by decide +kernel⟩,
    ⟨st (inSess { x0 with ackDue := true }), 1, { x0 with ackDue := true }, by decide +kernel⟩,
    ⟨st (inSess { x0 with unacked := [⟨d0.packetOf x0 .data 2 1 0 true true [] , 0, false, false, 0⟩], txNext := 2 }), 1, { x0 with unacked := [⟨d0.packetOf x0 .data 2 1 0 true true [], 0, false, false, 0⟩], txNext := 2 }, ⟨d0.packetOf x0 .data 2 1 0 true true [], 0, false, false, 0⟩, rfl, rfl, by decide +kernel⟩,
    ⟨st (mir (fun m => { m with state := .linked, unacked := [⟨4, 0, false, false, []⟩] }) (paired .linked [mns0] d0)), ⟨4, 0, false, false, []⟩, by decide +kernel⟩,
    ⟨st (inSess { x0 with txPhaseAcked := true, txNext := 2 ^ 30 }), 1, { x0 with txPhaseAcked := true, txNext := 2 ^ 30 }, by decide +kernel⟩⟩

/-- States and operands that meet the hypotheses of `Obligations.SessionTimersAndCreditWaits`, clause by clause. -/
theorem test_wit_SessionTimersAndCreditWaits :
    (∃ (s : State) (sid : BitVec 32) (x : Session), s.dev.session? sid = some x ∧ x.live = false) ∧
    (∃ (s : State) (sid : BitVec 32) (x : Session), s.dev.session? sid = some x ∧ x.live = true) ∧
    (∃ (s : State) (sid : BitVec 32) (x : Session), s.dev.session? sid = some x ∧ x.live = true ∧ x.stalledSince.isSome = true) ∧
    (∃ (s : State) (cls : Fin 5) (w : BorrowWait) (c : Cap) (x : Session), s.dev.net.borrowQ.find? (fun w => poolClass w.cls == cls) = some w ∧
        s.dev.que.caps.find? (fun c => c.sid == w.sid && c.start == w.start) = some c ∧ s.dev.session? w.sid = some x ∧
        s.dev.net.poolFits cls w.len = true ∧ (s.dev.pace c.tenant (extensionOps c.hdr x.segSize)).1 = true) ∧
    (∃ (s : State) (sid : BitVec 32) (tag : BitVec 32) (c : Cap), s.dev.capByTag sid tag = some c ∧ c.awaitBorrow = true ∧
        (s.dev.session? sid).isSome = true) ∧
    (∃ (s : State) (sid : BitVec 32) (tag : BitVec 32) (c : Cap), s.dev.capByTag sid tag = some c ∧ c.awaitDir = true ∧
        (s.dev.takeEntry c).isSome = true) :=
  ⟨⟨st (inSess { x0 with stage := .halfOpen }), 1, { x0 with stage := .halfOpen }, by decide +kernel⟩,
    ⟨st (inSess x0), 1, x0, by decide +kernel⟩,
    ⟨st (inSess { x0 with stalledSince := some 0 }), 1, { x0 with stalledSince := some 0 }, by decide +kernel⟩,
    ⟨st (net (fun n => { n with pools := Vector.replicate 5 1000, borrowQ := [⟨1, 0, 97, 2⟩] }) (withCaps d0 [capX Op.get (fun c => { c with seq := 0, stage := .receiving, awaitBorrow := true })])), 2, ⟨1, 0, 97, 2⟩, capX Op.get (fun c => { c with seq := 0, stage := .receiving, awaitBorrow := true }), x0, by decide +kernel⟩,
    ⟨one (capX Op.get (fun c => { c with seq := 0, stage := .receiving, awaitBorrow := true })), 1, 9, capX Op.get (fun c => { c with seq := 0, stage := .receiving, awaitBorrow := true }), by decide +kernel⟩,
    ⟨one (capX Op.put (fun c => { c with seq := 0, stage := .receiving, awaitDir := true })), 1, 9, capX Op.put (fun c => { c with seq := 0, stage := .receiving, awaitDir := true }), by decide +kernel⟩⟩

/-- States and operands that meet the hypotheses of `Obligations.SequencingAndAbort`, clause by clause. -/
theorem test_wit_SequencingAndAbort :
    (∃ (s : State) (sid : BitVec 32) (tag : BitVec 32) (c : Cap), s.dev.que.caps.find? (fun c => c.sid == sid && c.tag == tag && s.dev.mayPass c) = some c ∧
        c.hdr.opcode ≠ Op.abort ∧ s.dev.jetCheck c = none ∧ s.dev.limitCheck c ≠ .delay ∧ s.dev.stall = none) ∧
    (∃ (s : State) (sid : BitVec 32) (tag : BitVec 32) (c : Cap) (x : Cap), s.dev.que.caps.find? (fun c => c.sid == sid && c.tag == tag && c.hdr.opcode == Op.abort && s.dev.mayPass c) = some c ∧
        s.dev.jetCheck c = none ∧ s.dev.stall = none ∧ c.partner = none ∧ (s.dev.session? sid).isSome = true ∧
        s.dev.que.caps.find? (fun t => t.sid == c.sid && t.tag == c.hdr.offset.setWidth 32 && t.start != c.start) = some x ∧
        x.seq = 0 ∧ x.stage = .assembled ∧ x.hdr.opcode ≠ Op.abort ∧ s.dev.placing x.sid x.tag = false) ∧
    (∃ (s : State) (sid : BitVec 32) (tag : BitVec 32) (c : Cap), s.dev.heldAbort sid tag = some c ∧ c.partner = none ∧
        (s.dev.session? sid).isSome = true) :=
  ⟨⟨st ({ withPol (withNs (withCaps d0 [asm Op.flush])) with par := { d0.par with mode := 3 }, sec := { d0.sec with lc := Vector.replicate 2 { LcCopy.reset with state := 3, stateTwin := 0xFC } } }), 1, 9, asm Op.flush, by decide +kernel⟩,
    ⟨st (withCaps d0 [asm Op.get, abortCap]), 1, 10, abortCap, asm Op.get, by decide +kernel⟩,
    ⟨st (withCaps d0 [heldC]), 1, 9, heldC, by decide +kernel⟩⟩

/-- States and operands that meet the hypotheses of `Obligations.ReadersAnswerFromDrift`, clause by clause. -/
theorem test_wit_ReadersAnswerFromDrift :
    (∃ (s : State) (seq : Nat) (c : Cap) (v : Version) (b : Bytes) (o : Nat) (n : Nat), ready s.dev seq Op.get c ∧ openKey s.dev c ∧
        (∀ x ∈ s.dev.que.caps, x.sid = c.sid → x = c) ∧ s.dev.driftBelow c.hdr.ns (s.dev.capHash c) c.seq = some v ∧ v.key = c.key ∧
        v.done = true ∧ v.content = some b ∧ rangeOf c.hdr b.length = some (o, n) ∧ rangeBad v.bad o n = false ∧
        checkFail b v.checks (chunksOf o n) = none) ∧
    (∃ (s : State) (seq : Nat) (c : Cap) (v : Version) (b : Bytes), ready s.dev seq Op.exists_ c ∧ openKey s.dev c ∧
        (∀ x ∈ s.dev.que.caps, x.sid = c.sid → x = c) ∧ s.dev.driftBelow c.hdr.ns (s.dev.capHash c) c.seq = some v ∧ v.key = c.key ∧
        v.done = true ∧ v.content = some b) ∧
    (∃ (s : State) (seq : Nat) (c : Cap) (v : Version) (b : Bytes) (o : Nat) (n : Nat), s.dev.capBySeq seq = some c ∧
        c.hdr.opcode = Op.get ∧ c.stage = .dispatched ∧ c.forwarded = false ∧ c.partner = none ∧
        (s.dev.session? c.sid).isSome = true ∧ c.captured = some (.buffered v.seq) ∧ s.dev.ver? v.seq = some v ∧ v.done = true ∧
        s.dev.follows v.ns = false ∧ s.dev.nsBusy c.hdr.ns c.seq = false ∧ v.content = some b ∧ rangeOf c.hdr b.length = some (o, n) ∧
        rangeBad v.bad o n = false ∧ checkFail b v.checks (chunksOf o n) = none) :=
  ⟨(by refine ⟨st (que (fun q => { q with drift := [ver0] }) (withCaps (owned d0) [capOf Op.get []])), 7, capOf Op.get [], ver0, [8, 9], 0, 2, ?_, ?_, fun x hx _ => List.mem_singleton.mp hx, drift_one _ ver0 _ _ _ rfl rfl rfl (by decide +kernel) rfl, ?_⟩ <;> decide +kernel),
    (by refine ⟨st (que (fun q => { q with drift := [ver0] }) (withCaps (owned d0) [capOf Op.exists_ []])), 7, capOf Op.exists_ [], ver0, [8, 9], ?_, ?_, fun x hx _ => List.mem_singleton.mp hx, drift_one _ ver0 _ _ _ rfl rfl rfl (by decide +kernel) rfl, ?_⟩ <;> decide +kernel),
    (by refine ⟨st (withVer (withCaps (owned d0) [capX Op.get (fun c => { c with stage := .dispatched, captured := some (.buffered 3) })])), 7, capX Op.get (fun c => { c with stage := .dispatched, captured := some (.buffered 3) }), ver0, [8, 9], 0, 2, ?_, ?_, ?_, ?_, ?_, ?_, ?_, rfl, ?_⟩ <;> decide +kernel)⟩

/-- States and operands that meet the hypotheses of `Obligations.WritersAreDispatched`, clause by clause. -/
theorem test_wit_WritersAreDispatched :
    (∃ (s : State) (seq : Nat) (c : Cap), ready s.dev seq Op.put c) ∧
    (∃ (s : State) (seq : Nat) (c : Cap), ready s.dev seq Op.casPut c) ∧
    (∃ (s : State) (seq : Nat) (c : Cap), ready s.dev seq Op.patch c) ∧
    (∃ (s : State) (seq : Nat) (c : Cap), ready s.dev seq Op.mpCommit c) ∧
    (∃ (s : State) (seq : Nat) (c : Cap), ready s.dev seq Op.delete c ∧ c.hdr.flag Flag.secure = false) ∧
    (∃ (s : State) (seq : Nat) (c : Cap), ready s.dev seq Op.delete c ∧ c.hdr.flag Flag.secure = true) :=
  ⟨⟨one (capOf Op.put []), 7, capOf Op.put [], by decide +kernel⟩,
    ⟨one (capOf Op.casPut []), 7, capOf Op.casPut [], by decide +kernel⟩,
    ⟨one (capOf Op.patch []), 7, capOf Op.patch [], by decide +kernel⟩,
    ⟨one (capOf Op.mpCommit []), 7, capOf Op.mpCommit [], by decide +kernel⟩,
    ⟨one (capOf Op.delete []), 7, capOf Op.delete [], by decide +kernel⟩,
    ⟨one (capX Op.delete (fun c => { c with hdr := { c.hdr with flags := 2 } })), 7, capX Op.delete (fun c => { c with hdr := { c.hdr with flags := 2 } }), by decide +kernel⟩⟩

/-- States and operands that meet the hypotheses of `Obligations.WritersResolveAndCommit`, clause by clause. -/
theorem test_wit_WritersResolveAndCommit :
    (∃ (s : State) (seq : Nat) (group : Fin 8) (c : Cap) (n : Namespace) (v : Nat) (len : Nat) (g : Nat), s.dev.capBySeq seq = some c ∧
        c.hdr.opcode = Op.delete ∧ c.hdr.flag Flag.secure = false ∧ c.hdr.expVersion = 0 ∧ c.stage = .dispatched ∧
        s.dev.turn c = true ∧ s.dev.nsOf c.hdr.ns = some n ∧ n.id = c.hdr.ns ∧ noReaders s.dev ∧
        (∀ x ∈ s.dev.que.caps, x.seq = seq → x = c) ∧ s.dev.mirror? n.id = none ∧
        s.dev.turnedAway n.id (s.dev.capHash c) seq = false ∧
        s.dev.base n.id (s.dev.capHash c) c.key seq = .state (.present v len g) ∧ s.dev.nsBusy n.id seq = false ∧
        s.dev.secureHolds (s.dev.homeOf n.id (s.dev.capHash c)) = false ∧
        (s.dev.journal (s.dev.homeOf n.id (s.dev.capHash c)) group.val (mkRec .deletion n.id (s.dev.capHash c) c.key seq 0 (s.dev.genAfter n.id (s.dev.capHash c) c.key seq) 0 (s.dev.homeOf n.id (s.dev.capHash c)) (some seq))).isSome = true) ∧
    (∃ (s : State) (jseq : Nat) (q : Nat) (r : JRec) (v : Version), s.dev.jrec? jseq = some r ∧ r.writer = some q ∧ s.dev.ver? q = some v ∧
        s.dev.mayCommit r v = true ∧ s.dev.meetsOther v = false ∧ v.secure = false ∧ quiet s.dev) :=
  ⟨(by refine ⟨st (let d := withVer (withCaps (owned d0) [capX Op.delete (fun c => { c with stage := .dispatched })]); { d with idx := d0.idx }), 7, 0, capX Op.delete (fun c => { c with stage := .dispatched }), n0, 3, 2, 1, ?_, ?_, ?_, ?_, ?_, ?_, ?_, ?_, ?_, fun x hx _ => List.mem_singleton.mp hx, ?_, ?_, base_drift _ ver0 _ _ _ _ (drift_one _ ver0 _ _ _ rfl rfl rfl (by decide +kernel) rfl) rfl rfl, ?_, by decide +kernel, ?_⟩ <;> decide +kernel),
    ⟨st (idx (fun i => { i with journal := [{ rec0 with hash := 0 }] }) (que (fun q => { q with drift := [{ ver0 with hash := 0, content := none, opcode := Op.delete }] }) (withNs (owned d0)))), 4, 3, { rec0 with hash := 0 }, { ver0 with hash := 0, content := none, opcode := Op.delete }, by decide +kernel⟩⟩

/-- States and operands that meet the hypotheses of `Obligations.UploadsOpenAndClose`, clause by clause. -/
theorem test_wit_UploadsOpenAndClose :
    (∃ (s : State) (seq : Nat) (c : Cap) (n : Namespace), ready s.dev seq Op.mpBegin c ∧ s.dev.mirrorGate c.hdr.ns true false = none ∧
        s.dev.nsOf c.hdr.ns = some n ∧ c.hdr.valueLen.toNat ≤ 4294967296 ∧ s.dev.nsBusy c.hdr.ns c.seq = false ∧
        s.dev.idx.uploads.length < s.dev.pnum P.indexMpUploadsMax ∧
        s.dev.binds n (s.dev.capHash c) 0 (uploadReserve c.hdr.valueLen.toNat) 0 false = .none ∧
        s.dev.serves (s.dev.homeOf c.hdr.ns (s.dev.capHash c)) = true ∧ s.dev.turnedAway c.hdr.ns (s.dev.capHash c) c.seq = false) ∧
    (∃ (s : State) (seq : Nat) (c : Cap) (u : Upload), ready s.dev seq Op.mpPart c ∧ s.dev.mirrorGate c.hdr.ns true false = none ∧
        s.dev.uploadOf c = some u ∧ s.dev.serves (s.dev.homeOf u.ns u.hash) = true ∧ s.dev.turnedAway u.ns u.hash c.seq = false ∧
        partCheck u c.hdr.offset.toNat c.value.length = Status.ok ∧ s.dev.nsBusy c.hdr.ns c.seq = false ∧
        checkFail c.value c.checks (List.range (chunkCount c.value.length)) = none ∧
        s.dev.secureHolds (s.dev.homeOf u.ns u.hash) = false ∧
        (s.dev.placePart u c.seq c.hdr.offset.toNat c.value c.checks).isLeft = true) ∧
    (∃ (s : State) (seq : Nat) (c : Cap) (u : Upload), ready s.dev seq Op.mpCancel c ∧ s.dev.mirrorGate c.hdr.ns true false = none ∧
        s.dev.uploadOf c = some u ∧ s.dev.nsBusy c.hdr.ns c.seq = false ∧
        s.dev.que.drift.any (fun v => v.upload == some u.id) = false ∧ (∀ p ∈ u.parts, p.onMedium = true ∧ p.mirrorWait = false)) ∧
    (∃ (s : State) (u : Upload), s.dev.idx.uploads.find? (·.id == u.id) = some u ∧
        s.dev.que.drift.any (fun v => v.upload == some u.id) = false ∧ (∀ p ∈ u.parts, p.onMedium = true ∧ p.mirrorWait = false)) :=
  ⟨⟨st ((idx (fun i => { i with buckets := [] })) (withNs (withCaps (owned d0) [capX Op.mpBegin (fun c => { c with hdr := { c.hdr with valueLen := 10 } })]))), 7, capX Op.mpBegin (fun c => { c with hdr := { c.hdr with valueLen := 10 } }), n0, by decide +kernel⟩,
    (by refine ⟨st ({ (idx (fun i => { i with uploads := [up0], buckets := [] }) (withNs (withCaps (owned d0) [(capX Op.mpPart (fun c => { c with value := [1,2,3,4,5,6,7,8,9,10], hdr := { c.hdr with expVersion := 4, valueLen := 10 } }))]))) with fresh := 0 }), 7, capX Op.mpPart (fun c => { c with value := [1,2,3,4,5,6,7,8,9,10], hdr := { c.hdr with expVersion := 4, valueLen := 10 } }), up0, ?_, ?_, rfl, ?_⟩ <;> decide +kernel),
    (by refine ⟨st ((idx (fun i => { i with uploads := [up0] })) (withNs (withCaps (owned d0) [capX Op.mpCancel (fun c => { c with hdr := { c.hdr with expVersion := 4 } })]))), 7, capX Op.mpCancel (fun c => { c with hdr := { c.hdr with expVersion := 4 } }), up0, ?_, ?_, rfl, ?_, ?_, fun p hp => absurd hp List.not_mem_nil⟩ <;> decide +kernel),
    ⟨st (idx (fun i => { i with uploads := [up0] }) d0), up0, rfl, by decide +kernel, fun p hp => absurd hp List.not_mem_nil⟩⟩

/-- States and operands that meet the hypotheses of `Obligations.FlushScanAndShareWindow`, clause by clause. -/
theorem test_wit_FlushScanAndShareWindow :
    (∃ (s : State) (seq : Nat) (c : Cap), ready s.dev seq Op.flush c ∧ s.dev.mirrorGate c.hdr.ns false false = none ∧
        s.dev.nsBusy c.hdr.ns c.seq = false) ∧
    (∃ (s : State) (seq : Nat) (c : Cap) (f : FlushWait), s.dev.que.flushes.find? (·.seq == seq) = some f ∧ s.dev.capBySeq seq = some c ∧
        c.partner = none ∧ (s.dev.session? c.sid).isSome = true ∧ s.dev.flushWaits f.ns seq = false) ∧
    (∃ (s : State) (seq : Nat) (c : Cap) (a : ScanAcc), ready s.dev seq Op.scanPrefix c ∧ s.dev.mirrorGate c.hdr.ns false false = none ∧
        s.dev.followerServes c.hdr.ns = true ∧ s.dev.nsBusy c.hdr.ns c.seq = false ∧
        s.dev.scanHeld { c with cursor := c.hdr.offset.toNat } (2 ^ 64) (s.dev.scanBuckets c.hdr.ns c.hdr.offset.toNat) = false ∧
        s.dev.scanWalk c.seq c.key c.hdr.offset.toNat (if c.hdr.valueLen == 0 then s.dev.pnum P.indexScanReplyDefault else c.hdr.valueLen.toNat) (s.dev.pnum P.indexScanBudget) ⟨[], c.visited, c.hdr.offset.toNat, c.visited, c.hdr.offset.toNat⟩ (s.dev.scanBuckets c.hdr.ns c.hdr.offset.toNat) = (a, .stop .go)) :=
  ⟨⟨one (capOf Op.flush []), 7, capOf Op.flush [], by decide +kernel⟩,
    ⟨st (que (fun q => { q with flushes := [⟨7, 5, 7⟩] }) (withCaps d0 [capX Op.flush (fun c => { c with stage := .dispatched })])), 7, capX Op.flush (fun c => { c with stage := .dispatched }), ⟨7, 5, 7⟩, by decide +kernel⟩,
    ⟨st ((id) (withNs (withCaps (owned d0) [capX Op.scanPrefix (fun c => { c with key := [] })]))), 7, capX Op.scanPrefix (fun c => { c with key := [] }), ⟨[], 0, 0, 0, 0⟩, by decide +kernel⟩⟩

/-- States and operands that meet the hypotheses of `Obligations.DieOperationsComplete`, clause by clause. -/
theorem test_wit_DieOperationsComplete :
    (∃ (s : State) (id : Nat) (it : Nat) (at_ : Nat) (loc : Nat) (gen : Nat) (v : Nat) (len : Nat) (r : Read) (c : Cap) (cp : Copy) (o : Nat) (n : Nat), s.dev.med.reads.find? (·.id == id) = some r ∧
        s.dev.opRuns id = true ∧ r.squashed = none ∧ r.loc = loc ∧ r.gen = gen ∧ r.shared = [] ∧ s.dev.keyPending r.seq = false ∧
        s.dev.capBySeq r.seq = some c ∧ c.hdr.opcode = Op.get ∧ c.captured = some (.value v loc gen len) ∧ c.tokenStale = false ∧
        c.partner = none ∧ (s.dev.session? c.sid).isSome = true ∧ s.dev.copyFor loc gen = some cp ∧ cp.bad = [] ∧ cp.badHeads = [] ∧
        rangeOf c.hdr cp.bytes.length = some (o, n) ∧ r.rest = 0 ∧ quiet s.dev) ∧
    (∃ (s : State) (p : Prog), s.dev.med.progs.find? (·.id == p.id) = some p ∧ s.dev.opRuns p.id = true ∧ p.id < s.dev.med.nextOp ∧
        quiet s.dev) ∧
    (∃ (s : State) (p : Prog) (g : Nat) (b : Nat) (w : Nat) (x : Band), s.dev.med.progs.find? (·.id == p.id) = some p ∧
        s.dev.opRuns p.id = true ∧ p.what = .parity g b w ∧ p.id < s.dev.med.nextOp ∧ quiet s.dev ∧
        ((s.dev.bays.get p.bay).failRuns.lookup (32 * p.group + p.die)).getD 0 + 1 < 3 ∧
        (s.dev.bays.get p.bay).band? p.group p.block = some x) ∧
    (∃ (s : State) (e : Erase), s.dev.med.erases.find? (·.id == e.id) = some e ∧ s.dev.opRuns e.id = true ∧ e.why = .gc ∧
        e.id < s.dev.med.nextOp ∧ quiet s.dev ∧ summed s.dev) :=
  ⟨(by refine ⟨st (med (fun m => { m with running := [op0], reads := [read0] }) (withCopy band0 (withCaps (owned d0) [capX Op.get (fun c => { c with stage := .dispatched, captured := some (.value 2 loc0 1 2) })]))), 9, 30, 0, loc0, 1, 2, 2, read0, capX Op.get (fun c => { c with stage := .dispatched, captured := some (.value 2 loc0 1 2) }), copy0, 0, 2, ?_, ?_, ?_, ?_, ?_, ?_, ?_, ?_, ?_, ?_, ?_, ?_, ?_, rfl, ?_⟩ <;> decide +kernel),
    ⟨st (med (fun m => { m with running := [op0], progs := [prog0] }) (withCopy band0 (owned d0))), prog0, by decide +kernel⟩,
    ⟨st (med (fun m => { m with running := [op0], progs := [prog0] }) (withCopy band0 (owned d0))), prog0, 0, 200, 3, band0, by decide +kernel⟩,
    ⟨st (med (fun m => { m with running := [op0], erases := [erase0] }) (withCopy { band0 with erasing := true } (owned d0))), erase0, by decide +kernel⟩⟩

/-- States and operands that meet the hypotheses of `Obligations.MonsoonBackgroundWork`, clause by clause. -/
theorem test_wit_MonsoonBackgroundWork :
    (∃ (s : State) (bay : BayNo) (o : GovOp), s.dev.nextOp? bay = some o ∧ s.dev.budgetHolds o = true) ∧
    (∃ (s : State) (bay : BayNo) (group : Nat) (block : Nat) (x : Band), (s.dev.bays.get bay).band? group block = some x ∧
        x.isOpen = true ∧ (s.dev.bays.get bay).rowSlots x ≠ 0 ∧ x.next % (s.dev.bays.get bay).rowSlots x ≠ 0) ∧
    (∃ (s : State) (bay : BayNo) (c : Copy) (rest : List Copy), s.dev.awake = true ∧ s.dev.inService bay = true ∧ s.dev.par.mode ≠ 5 ∧
        (s.dev.maintCell .fold).1 = .r ∧ s.dev.foldable bay = c :: rest ∧
        s.dev.batchFull bay (if s.dev.warm c then .warm else .cold) c.group = false ∧
        (s.dev.batchChunks ≤ s.dev.foldRoom bay (if s.dev.warm c then .warm else .cold) c.group ∨ c.count < s.dev.foldRoom bay (if s.dev.warm c then .warm else .cold) c.group) ∧
        (s.dev.opId.2.moveAll bay (if s.dev.warm c then .warm else .cold) c.group false ((takeRows (s.dev.foldRoom bay (if s.dev.warm c then .warm else .cold) c.group) 0 (c :: rest.filter (fun x => s.dev.warm x == s.dev.warm c))).map (fun x => (x, x)))).1 ≠ []) ∧
    (∃ (s : State) (bay : BayNo) (x : Band), s.dev.awake = true ∧ s.dev.inService bay = true ∧ (s.dev.maintCell .gc).1 = .r ∧
        ((s.dev.rebuildsDone bay).refreshMeta bay).againPairs bay = [] ∧
        ((s.dev.rebuildsDone bay).refreshMeta bay).gcVictim bay = some x ∧
        ((s.dev.rebuildsDone bay).refreshMeta bay).batchFull bay .cold x.group = false) ∧
    (∃ (s : State) (f : BayNo) (g : BayNo) (b : Bucket), s.dev.awake = true ∧ s.dev.par.mode ≠ 5 ∧
        s.dev.idx.buckets.any (fun b => b.movingFrom.isSome) = false ∧ (s.dev.maintCell .gc).1 = .r ∧ s.dev.mostFull = some f ∧
        s.dev.leastFull (some f) = some g ∧
        s.dev.idx.buckets.find? (fun b => b.home == f && decide (0 < s.dev.bucketBytes b)) = some b ∧ s.dev.unbalanced f = true) ∧
    (∃ (s : State) (bay : BayNo) (group : Nat) (block : Nat) (row : Nat) (o : ReadReport) (x : Band), s.dev.awake = true ∧
        s.dev.inService bay = true ∧ (s.dev.bays.get bay).band? group block = some x ∧ x.erasing = false ∧
        row < s.dev.bandPages bay x ∧ s.dev.patrolMay bay group block = true ∧ (s.dev.maintCell .pat).1 = .r) ∧
    (∃ (s : State) (bay : BayNo) (die : Nat), (s.dev.bays.get bay).state.serving = true ∧ die < 256 ∧ s.dev.med.progs = [] ∧ quiet s.dev) :=
  ⟨⟨st (med (fun m => { m with waiting := [op0] }) d0), 0, op0, by decide +kernel⟩,
    ⟨st (withCopy { band0 with isOpen := true } (owned d0)), 0, 0, 200, { band0 with isOpen := true }, by decide +kernel⟩,
    (by refine ⟨st (withCopy { band0 with mode := .slc, stream := .hot } (owned d0)), 0, copy0, [], ?_, ?_, ?_, ?_, foldable_one _ copy0 _ _ rfl (by decide +kernel) (liveIn_one _ copy0 _ _ _ rfl (by decide +kernel) (names_of _ _ { entry0 with loc := loc0, twin := locTwin loc0 } (full_one _ { b0 with entries := [{ entry0 with loc := loc0, twin := locTwin loc0 }] } { entry0 with loc := loc0, twin := locTwin loc0 } _ _ (bucket_whole _ { b0 with entries := [{ entry0 with loc := loc0, twin := locTwin loc0 }] } _ _ rfl rfl rfl rfl) rfl (by decide +kernel) rfl rfl rfl rfl rfl rfl) rfl rfl rfl rfl)) (by decide +kernel), ?_⟩ <;> decide +kernel),
    (by refine ⟨st (withCopy band0 (owned d0)), 0, band0, ?_, ?_, ?_, again_nil _ _ (fun _ hc => List.mem_singleton.mp hc ▸ rfl), victim_one _ copy0 _ _ rfl (by decide +kernel) rfl rfl (liveIn_one _ copy0 _ _ _ rfl (by decide +kernel) (names_of _ _ { entry0 with loc := loc0, twin := locTwin loc0 } (full_one _ { b0 with entries := [{ entry0 with loc := loc0, twin := locTwin loc0 }] } { entry0 with loc := loc0, twin := locTwin loc0 } _ _ (bucket_whole _ { b0 with entries := [{ entry0 with loc := loc0, twin := locTwin loc0 }] } _ _ rfl rfl rfl rfl) rfl (by decide +kernel) rfl rfl rfl rfl rfl rfl) rfl rfl rfl rfl)) (by decide +kernel) rfl, ?_⟩ <;> decide +kernel),
    (by refine ⟨st (par P.mediaBalanceGap (num8 0) (let d := withNs (owned d0); { d with bays := d.bays.set 1 bay0, med := { d.med with copies := [{ copy0 with hash := 0 }] }, idx := { d.idx with buckets := [{ b0 with entries := [{ entry0 with hash := 0, loc := loc0, twin := locTwin loc0 }] }] } })), 0, 1, { b0 with entries := [{ entry0 with hash := 0, loc := loc0, twin := locTwin loc0 }] }, ?_, ?_, ?_, ?_, ?_, ?_, rfl, ?_⟩ <;> decide +kernel),
    ⟨st (withCopy band0 (owned d0)), 0, 0, 200, 0, { outcome := .ok 30 }, band0, by decide +kernel⟩,
    ⟨st (withCopy band0 (owned d0)), 0, 255, by decide +kernel⟩⟩

/-- States and operands that meet the hypotheses of `Obligations.IsobarAndForecastAdvance`, clause by clause. -/
theorem test_wit_IsobarAndForecastAdvance :
    (∃ (s : State), s.dev.par.run = .running ∧ s.dev.idx.tail = none ∧ s.dev.pow.rung = .clear) ∧
    (∃ (s : State) (x : Tail), s.dev.idx.tail = some x ∧ s.dev.tailBusy = false ∧ quiet s.dev) ∧
    (∃ (s : State) (n : BitVec 12) (lo : BitVec 64) (b : Bucket), s.dev.idx.buckets.find? (fun b => b.ns == n && b.lo == lo.toNat && b.reading) = some b ∧
        noReaders s.dev ∧ (b.readId = 0 ∨ s.dev.opRuns b.readId = true) ∧ s.dev.idx.buckets.length ≤ pageCacheMax) ∧
    (∃ (s : State) (n : BitVec 12) (lo : BitVec 64) (b : Bucket), s.dev.idx.buckets.find? (fun b => b.ns == n && b.lo == lo.toNat && !b.fpValid) = some b ∧
        s.dev.awake = true ∧ s.dev.homeAbsent b = false ∧ b.pageLost = false) ∧
    (∃ (s : State), s.dev.par.run = .running) :=
  ⟨⟨st (d0), by decide +kernel⟩,
    ⟨st (idx (fun i => { i with tail := some ⟨1, [], 0, false, [], false, []⟩ }) d0), ⟨1, [], 0, false, [], false, []⟩, by decide +kernel⟩,
    ⟨st (idx (fun i => { i with buckets := [{ b0 with cached := false, reading := true }] }) (withNs (owned d0))), 5, 0, { b0 with cached := false, reading := true }, by decide +kernel⟩,
    ⟨st (idx (fun i => { i with buckets := [{ b0 with fpValid := false }] }) (withNs (owned d0))), 5, 0, { b0 with fpValid := false }, by decide +kernel⟩,
    ⟨st (med (fun m => { m with spec := [⟨7, 100, 90, 0, 0, false⟩] }) d0), by decide +kernel⟩⟩

/-- States and operands that meet the hypotheses of `Obligations.GaleOperationsTakeEffect`, clause by clause. -/
theorem test_wit_GaleOperationsTakeEffect :
    (∃ (s : State) (g : GTable) (key : GaleSearch) (a : Nat), s.dev.par.run = .running ∧ s.dev.pow.rung = .clear ∧ settled s.dev ∧
        (s.dev.gale.partakes g 0).filter GRow.perr = [] ∧ s.dev.gale.matches_ g 0 key.word (s.dev.gale.masks.get 0) = [a] ∧
        s.dev.gale.ownWord g a = some key.word ∧ s.dev.ownsWord g key.word = true) ∧
    (∃ (s : State) (u : VerifierUpset) (a : Nat) (b : Nat), s.dev.par.run = .running ∧ s.dev.pow.rung = .clear ∧
        s.dev.gale.nextRow s.dev.gale.lapAt = some a ∧
        (if u.written then s.dev else (s.dev.verifyRow a u).2).gale.nextRow (a + 1) = some b) ∧
    (∃ (s : State) (k : Nat), s.dev.gale.dwellSince = some k) ∧
    (∃ (s : State) (die : Fin 8), s.dev.par.run = .running ∧ s.dev.gale.failed.contains die.val = false) :=
  ⟨⟨st (inPol), .policy, ⟨bindingWord 7 5, none⟩, 57344, by decide +kernel⟩,
    ⟨st (let d := inSess x0; { d with gale := { d.gale with lapAt := 0 } }), ⟨0, 0, 0, false⟩, 40960, 40961, by decide +kernel⟩,
    ⟨st ({ d0 with gale := { d0.gale with tempStep := 150, step := 150, dwellSince := some 0 } }), 0, by decide +kernel⟩,
    ⟨st (inSess x0), 7, by decide +kernel⟩⟩

/-- States and operands that meet the hypotheses of `Obligations.MemoryErrorsAreHandled`, clause by clause. -/
theorem test_wit_MemoryErrorsAreHandled :
    (∃ (s : State) (e : MemErr), s.dev.memOn = true ∧ e.transit = true ∧ settled s.dev) ∧
    (∃ (s : State) (e : MemErr) (loc : Nat) (gen : Nat), s.dev.memOn = true ∧ e.cls = 1 ∧ e.transit = false ∧
        e.region = .valueCache loc gen) ∧
    (∃ (s : State) (req : Nat) (addr : Nat) (width : Nat), s.dev.memOn = true ∧ settled s.dev ∧ narrow addr width = true ∧
        s.dev.level Ev.narrowWrite.src ≤ Ev.narrowWrite.sev ∧ s.dev.ev.ring.length < 65000) ∧
    (∃ (s : State) (req : Nat) (addr : Nat) (width : Nat), s.dev.memOn = true ∧ narrow addr width = false) ∧
    (∃ (s : State) (n : Nat), s.dev.dewRuns = true ∧ s.dev.mem.dewAddr + n < dewLines) ∧
    (∃ (s : State), s.dev.dewRuns = true ∧ settled s.dev ∧ s.dev.ev.ring.length < 65000) :=
  ⟨⟨st (d0), ⟨2, true, 0, 0, .receive⟩, by decide +kernel⟩,
    ⟨st (med (fun m => { m with valueCache := [⟨3, 1, [0], []⟩] }) d0), ⟨1, false, 100, 0, .valueCache 3 1⟩, 3, 1, by decide +kernel⟩,
    ⟨st (d0), 1, 2, 3, by decide +kernel⟩,
    ⟨st ({ d0 with mem := { d0.mem with poisoned := [64, 128] } }), 1, 64, 64, by decide +kernel⟩,
    ⟨st (d0), 5, by decide +kernel⟩,
    ⟨st (d0), by decide +kernel⟩⟩

/-- States and operands that meet the hypotheses of `Obligations.CartridgesAreAdmitted`, clause by clause. -/
theorem test_wit_CartridgesAreAdmitted :
    (∃ (s : State) (bay : BayNo) (f : CartFacts), (s.dev.bays.get bay).present = false) ∧
    (∃ (s : State) (bay : BayNo), (s.dev.bays.get bay).latchOpen = true) ∧
    (∃ (s : State) (bay : BayNo) (f : CartFacts) (i : Fin 2) (ids : List Bytes), s.dev.checking bay = true ∧ s.dev.par.run = .running ∧
        s.dev.facts bay = some f ∧ (s.dev.bays.get bay).guest = some f ∧ (s.dev.bays.get bay).bound = none ∧ s.dev.attaches = true ∧
        slotUsed f.cart = some i ∧ (f.cart.slots.get i).stored = 1 ∧ s.dev.madeOk f.cart.made = true ∧
        Config.sha256 f.table = f.cart.made.tableHash ∧ Config.sha256 (ids.flatMap id) = f.cart.made.dieHash ∧ ids.length = 256) ∧
    (∃ (s : State) (bay : BayNo) (f : CartFacts), s.dev.checking bay = true ∧ s.dev.par.run = .running ∧ s.dev.facts bay = some f) :=
  ⟨⟨st (d0), 0, facts0, by decide +kernel⟩,
    ⟨st (withBay d0 { bay0 with latchOpen := true }), 0, by decide +kernel⟩,
    (by refine ⟨st (withBay (owned d0) authing), 0, facts0, 0, List.replicate 256 [], ?_, ?_, rfl, rfl, ?_, ?_, ?_, ?_, ?_, rfl, rfl, ?_⟩ <;> decide +kernel),
    (by refine ⟨st (withBay (owned d0) authing), 0, facts0, ?_, ?_, rfl⟩ <;> decide +kernel)⟩

/-- States and operands that meet the hypotheses of `Obligations.CartridgesLeaveAndAreMarked`, clause by clause. -/
theorem test_wit_CartridgesLeaveAndAreMarked :
    (∃ (s : State) (bay : BayNo), (s.dev.bays.get bay).latchOpen = false) ∧
    (∃ (s : State) (bay : BayNo), (s.dev.bays.get bay).quiesceSince.isSome = true ∧ s.dev.bayPower = true ∧
        (s.dev.bays.get bay).state = .inService ∧ s.dev.quiesceBusy bay = false ∧ (s.dev.bays.get bay).latchOpen = true) ∧
    (∃ (s : State) (bay : BayNo), (s.dev.bays.get bay).present = true ∧ (s.dev.bays.get bay).state.serving = false ∧
        s.dev.par.run = .running) ∧
    (∃ (s : State) (bay : BayNo), (s.dev.bays.get bay).state.serving = true ∧ s.dev.bayPower = true) ∧
    (∃ (s : State) (bay : BayNo), (s.dev.bays.get bay).state.serving = true ∧ s.dev.bayPower = true ∧
        (s.dev.bays.get bay).pollFails + 1 < 3) ∧
    (∃ (s : State) (bay : BayNo), (s.dev.bays.get bay).state.serving = true ∧ s.dev.bayPower = true ∧ noWork s.dev ∧
        (s.dev.bays.get bay).opWaiting = none) ∧
    (∃ (s : State) (bay : BayNo) (c : Cartridge), (s.dev.bays.get bay).state.serving = true ∧ s.dev.bayPower = true ∧
        s.dev.pow.rung = .clear ∧ (s.dev.bays.get bay).cart = some c) ∧
    (∃ (s : State) (bay : BayNo), s.dev.mgmt.vaneUp = true ∧ s.dev.par.run ≠ .recovery) :=
  ⟨⟨st (withNs d0), 0, by decide +kernel⟩,
    ⟨st (withBay d0 { bay0 with latchOpen := true, quiesceSince := some 0 }), 0, by decide +kernel⟩,
    ⟨st (withBay d0 { bay0 with state := .released }), 0, by decide +kernel⟩,
    ⟨st (withBay (owned d0) { bay0 with pollFails := 2 }), 0, by decide +kernel⟩,
    ⟨st (withBay (owned d0) { bay0 with pollFails := 1 }), 0, by decide +kernel⟩,
    ⟨st (withNs (owned d0)), 0, by decide +kernel⟩,
    (by refine ⟨st (withNs (owned d0)), 0, cart0, ?_, ?_, ?_, rfl⟩ <;> decide +kernel),
    ⟨st (d0), 3, by decide +kernel⟩⟩

/-- States and operands that meet the hypotheses of `Obligations.PowerControlOpsTakeEffect`, clause by clause. -/
theorem test_wit_PowerControlOpsTakeEffect :
    (∃ (s : State) (seq : Nat) (c : Cap), ready s.dev seq Op.powerCtl c ∧ s.dev.powerCtlCheck c = none ∧ c.value.field 0 1 = 1) ∧
    (∃ (s : State) (seq : Nat) (c : Cap), ready s.dev seq Op.powerCtl c ∧ s.dev.powerCtlCheck c = none ∧ c.value.field 0 1 = 2) ∧
    (∃ (s : State) (seq : Nat) (c : Cap), ready s.dev seq Op.powerCtl c ∧ s.dev.powerCtlCheck c = none ∧ c.value.field 0 1 = 3) ∧
    (∃ (s : State) (seq : Nat) (c : Cap), ready s.dev seq Op.powerCtl c ∧ s.dev.powerCtlCheck c = none ∧ c.value.field 0 1 = 4) ∧
    (∃ (s : State) (seq : Nat) (c : Cap), ready s.dev seq Op.powerCtl c ∧ s.dev.powerCtlCheck c = none ∧ c.value.field 0 1 = 5 ∧
        (s.dev.pow.bank.testRunning = true ∨ s.dev.testMargin = true)) ∧
    (∃ (s : State) (seq : Nat) (c : Cap), ready s.dev seq Op.powerCtl c ∧ s.dev.powerCtlCheck c = none ∧ c.value.field 0 1 = 6) :=
  ⟨⟨one (adm Op.powerCtl (pad 16 [1])), 7, adm Op.powerCtl (pad 16 [1]), by decide +kernel⟩,
    ⟨st (par P.powerFloor (num8 4) (withCaps d0 [adm Op.powerCtl (pad 16 [2, 4])])), 7, adm Op.powerCtl (pad 16 [2, 4]), by decide +kernel⟩,
    ⟨one (adm Op.powerCtl (pad 16 [3])), 7, adm Op.powerCtl (pad 16 [3]), by decide +kernel⟩,
    ⟨one (adm Op.powerCtl (pad 16 [4, 0, 0, 0, 0, 0, 0, 5])), 7, adm Op.powerCtl (pad 16 [4, 0, 0, 0, 0, 0, 0, 5]), by decide +kernel⟩,
    ⟨one (adm Op.powerCtl (pad 16 [5])), 7, adm Op.powerCtl (pad 16 [5]), by decide +kernel⟩,
    ⟨one (adm Op.powerCtl (pad 16 [6, 0, 0, 0, 0, 0, 0, 0, 0, 0, 0, 0, 0, 0, 0, 9])), 7, adm Op.powerCtl (pad 16 [6, 0, 0, 0, 0, 0, 0, 0, 0, 0, 0, 0, 0, 0, 0, 9]), by decide +kernel⟩⟩

/-- States and operands that meet the hypotheses of `Obligations.RungsAndCapacitorTest`, clause by clause. -/
theorem test_wit_RungsAndCapacitorTest :
    (∃ (s : State), s.dev.pow.rung = .clear ∧ s.dev.mayDescend .haze = true) ∧
    (∃ (s : State), s.dev.pow.rung = .haze ∧ s.dev.mayDescend .fog = true ∧ s.dev.pairAwake = false) ∧
    (∃ (s : State), s.dev.pow.rung = .fog ∧ s.dev.mayDescend .frost = true) ∧
    (∃ (s : State), s.dev.pow.rung = .frost ∧ s.dev.mayDescend .glaze = true ∧ s.dev.pow.stopped = false) ∧
    (∃ (s : State), s.dev.pow.armed = 0) ∧
    (∃ (s : State), s.dev.pow.armed ≠ 0 ∧ s.dev.pow.armed ≤ 4 ∧ s.dev.pow.rung.num < s.dev.pow.armed ∧
        ({ s.dev with pow := { s.dev.pow with holdUntil := none } } : Dev).mayDescend (rungOf s.dev.pow.armed) = true ∧
        s.dev.pow.stopped = false ∧ s.dev.pairAwake = false) ∧
    (∃ (s : State), s.dev.par.run = .running ∧ s.dev.pow.failing = none ∧ s.dev.pow.pwrEn = true ∧
        (s.dev.pow.rung = .frost → s.dev.pow.stopped = false)) ∧
    (∃ (s : State), s.dev.pow.alarm ≠ 0 ∧ s.dev.par.run = .running ∧ s.dev.pow.failing = none ∧ s.dev.pow.pwrEn = true ∧
        s.dev.pow.stopped = false ∧ s.dev.pow.alarm ≤ s.dev.clk.ns) ∧
    (∃ (s : State), s.dev.mgmt.vaneUp = true ∧ s.dev.pow.bank.testRunning = false ∧ s.dev.pow.failing = none) ∧
    (∃ (s : State), s.dev.mgmt.vaneUp = true ∧ s.dev.pow.bank.testRunning = false ∧ s.dev.pow.failing = none ∧
        s.dev.pow.bank.retryPending = true ∧ s.dev.testMargin = true) ∧
    (∃ (s : State) (m : CapMeasure), s.dev.pow.bank.testRunning = true) :=
  ⟨⟨st (par P.powerFloor (num8 4) d0), by decide +kernel⟩,
    ⟨st (par P.powerFloor (num8 4) (pow (fun p => { p with rung := .haze }) d0)), by decide +kernel⟩,
    ⟨st (par P.powerFloor (num8 4) (pow (fun p => { p with rung := .fog }) (inSess x0))), by decide +kernel⟩,
    ⟨st (par P.powerFloor (num8 4) (pow (fun p => { p with rung := .frost }) d0)), by decide +kernel⟩,
    ⟨st (pow (fun p => { p with holdUntil := some 1 }) d0), by decide +kernel⟩,
    ⟨st (par P.powerFloor (num8 4) (pow (fun p => { p with holdUntil := some 1, armed := 4, rung := .frost }) d0)), by decide +kernel⟩,
    ⟨st (pow (fun p => { p with rung := .haze }) d0), by decide +kernel⟩,
    ⟨st ({ pow (fun p => { p with alarm := 4, rung := .frost }) d0 with clk := { d0.clk with ns := 10 } }), by decide +kernel⟩,
    ⟨st (d0), by decide +kernel⟩,
    ⟨st (pow (fun p => { p with bank := { p.bank with retryPending := true } }) d0), by decide +kernel⟩,
    ⟨st (pow (fun p => { p with bank := { p.bank with testRunning := true } }) d0), ⟨50, 600, true⟩, by decide +kernel⟩⟩

/-- States and operands that meet the hypotheses of `Obligations.PowerCapAndThermalLevels`, clause by clause. -/
theorem test_wit_PowerCapAndThermalLevels :
    (∃ (s : State) (input : Nat), s.dev.controls = true) ∧
    (∃ (s : State) (x : Nat) (rest : List Nat), s.dev.pow.inputs = x :: rest ∧ s.dev.controls = true ∧ x + 20 ≤ s.dev.powerLimit ∧
        s.dev.pow.dispatchPm = 1000 ∧ s.dev.pow.galeCeiling < 600) ∧
    (∃ (s : State), s.dev.pow.breach = true ∧ settled s.dev ∧ s.dev.level Ev.floorBreach.src ≤ Ev.floorBreach.sev ∧
        s.dev.ev.ring.length < 65000) ∧
    (∃ (s : State) (temps : List (Nat × Int)) (g : Fin 11) (p : Nat) (x : Int), s.dev.controls = true ∧ s.dev.par.pendingReset = none ∧
        s.dev.sec.run = none ∧ s.dev.par.shutdownSince = none ∧
        hottestOf ((s.dev.applyCommitted (· == P.galeStepOffsetC)).groupReads temps g.val) = some (p, x)) ∧
    (∃ (s : State) (g : Fin 7), (s.dev.pow.groups.get (g.castLE (by decide))).belowSince.isSome = true ∧
        (s.dev.pow.groups.get (g.castLE (by decide))).level ≠ 0) ∧
    (∃ (s : State), s.dev.pow.stopped = true ∧ s.dev.pow.coolSince.isSome = true) :=
  ⟨⟨st (d0), 300, by decide +kernel⟩,
    ⟨st (pow (fun p => { p with inputs := [100], galeCeiling := 150 }) d0), 100, [], by decide +kernel⟩,
    ⟨st (pow (fun p => { p with breach := true }) d0), by decide +kernel⟩,
    ⟨st (d0), [(63, 80), (64, 50)], 5, 63, 80, by decide +kernel⟩,
    ⟨st (pow (fun p => { p with groups := Vector.replicate 11 { ThermGroup.reset with level := 2, belowSince := some 0 } }) d0), 6, by decide +kernel⟩,
    ⟨st (pow (fun p => { p with stopped := true, coolSince := some 0 }) d0), by decide +kernel⟩⟩

/-- States and operands that meet the hypotheses of `Obligations.PowerFailureBegins`, clause by clause. -/
theorem test_wit_PowerFailureBegins :
    (∃ (s : State) (c : FailCause), s.dev.par.run = .running ∧ s.dev.pow.rung ≠ .glaze ∧ s.dev.pow.failing = none) ∧
    (∃ (s : State) (g : Nat) (p : Nat) (x : Int), s.dev.par.run = .running ∧ s.dev.pow.rung ≠ .glaze ∧ s.dev.pow.failing = none) ∧
    (∃ (s : State), s.dev.par.run = .running ∧ s.dev.pow.rung ≠ .glaze ∧ s.dev.pow.failing = none) ∧
    (∃ (s : State) (f : FailSeq), s.dev.pow.failing = some f) ∧
    (∃ (s : State), s.dev.par.run = .running ∧ s.dev.pow.rung.num ≤ 2 ∧ s.dev.pow.failing = none) :=
  ⟨⟨st (inSess x0), .pwrFail, by decide +kernel⟩,
    ⟨st (inSess x0), 6, 73, 110, by decide +kernel⟩,
    ⟨st (inSess x0), by decide +kernel⟩,
    ⟨st (pow (fun p => { p with failing := some ⟨0, [3], 0, 0, .off, none⟩ }) (withVer (owned d0))), ⟨0, [3], 0, 0, .off, none⟩, by decide +kernel⟩,
    ⟨st (inSess x0), by decide +kernel⟩⟩

/-- States and operands that meet the hypotheses of `Obligations.PowerOnOffAndWatchdogs`, clause by clause. -/
theorem test_wit_PowerOnOffAndWatchdogs :
    (∃ (s : State) (slot : BitVec 6), s.dev.par.run = .off ∧ s.dev.pow.failing = none) ∧
    (∃ (s : State), s.dev.par.run ≠ .off) ∧
    (∃ (s : State), s.dev.par.run ≠ .off) ∧
    (∃ (s : State), s.dev.pow.failing = none ∧ s.dev.par.run ≠ .running) ∧
    (∃ (s : State), s.dev.pow.failing = none ∧ s.dev.par.run = .running ∧ s.dev.pow.rung ≠ .glaze ∧ s.dev.par.pendingReset = none ∧
        s.dev.sec.run = none ∧ s.dev.par.shutdownSince = none) ∧
    (∃ (s : State), s.dev.par.shutdownSince.isSome = true ∧ s.dev.par.run = .running ∧ s.dev.pow.rung ≠ .glaze ∧ s.dev.pow.failing = none) ∧
    (∃ (s : State) (core : Nat) (ms : Nat) (a : Bool), s.dev.par.run = .running ∧ s.dev.pow.failing = none ∧
        s.dev.par.pendingReset = none) ∧
    (∃ (s : State), s.dev.mgmt.vaneUp = true ∧ s.dev.upd.inTrial = false) ∧
    (∃ (s : State), s.dev.par.run = .starting ∧ s.dev.pow.failing = none) :=
  ⟨⟨State.reset, 63, by decide +kernel⟩,
    ⟨st (d0), by decide +kernel⟩,
    ⟨st (d0), by decide +kernel⟩,
    ⟨st ({ d0 with par := { d0.par with run := .starting } }), by decide +kernel⟩,
    ⟨st (inSess x0), by decide +kernel⟩,
    ⟨st ({ inSess x0 with par := { d0.par with shutdownSince := some 0 } }), by decide +kernel⟩,
    ⟨st (inSess x0), 3, 10, true, by decide +kernel⟩,
    ⟨st (d0), by decide +kernel⟩,
    ⟨st ({ d0 with par := { d0.par with run := .starting } }), by decide +kernel⟩⟩

/-- States and operands that meet the hypotheses of `Obligations.SensorsTimeAndBarograph`, clause by clause. -/
theorem test_wit_SensorsTimeAndBarograph :
    (∃ (s : State) (id : Nat) (v : BitVec 32), s.dev.mgmt.vaneUp = true ∧ (sensorRange id).isSome = true) ∧
    (∃ (s : State) (p : Option Port), s.dev.ptpOn p = true) ∧
    (∃ (s : State), s.dev.clk.ptpMaster = true) ∧
    (∃ (s : State), s.dev.mgmt.vaneUp = true ∧ (∀ k, s.dev.clk.persistedAt = some k → k + 600000000 ≤ s.dev.clk.tick)) ∧
    (∃ (s : State) (bay : BayNo), s.dev.awake = true ∧ s.dev.ev.unflushed.any (fun r => decide (4 ≤ r.ev.sev)) = true ∧
        s.dev.ev.dropped = 0 ∧ bay ∈ s.dev.flushBays) ∧
    (∃ (s : State) (bay : BayNo), s.dev.awake = true ∧ s.dev.ev.unflushed ≠ [] ∧ s.dev.ev.dropped = 0 ∧ bay ∈ s.dev.flushBays) :=
  ⟨⟨st (d0), 101, 1200, by decide +kernel⟩,
    ⟨st (d0), none, by decide +kernel⟩,
    ⟨st ({ d0 with clk := { d0.clk with ptpMaster := true, source := .ptpLocked } }), by decide +kernel⟩,
    ⟨st (d0), by decide +kernel⟩,
    ⟨st (let d := withNs (owned d0); { d with ev := { d.ev with ring := [⟨⟨Ev.deferredError, 3, 7, 0, 0, 0, 0⟩, false⟩, ⟨⟨Ev.pllUnlock, 2, 7, 0, 0, 0, 0⟩, false⟩] } }), 0, by decide +kernel⟩,
    ⟨st (let d := withNs (owned d0); { d with ev := { d.ev with ring := [⟨⟨Ev.modeChange, 3, 7, 0, 0, 0, 0⟩, false⟩, ⟨⟨Ev.pllUnlock, 2, 7, 0, 0, 0, 0⟩, true⟩] } }), 0, by decide +kernel⟩⟩

/-- States and operands that meet the hypotheses of `Obligations.ParametersAreReadAndSet`, clause by clause. -/
theorem test_wit_ParametersAreReadAndSet :
    (∃ (s : State) (seq : Nat) (c : Cap), ready s.dev seq Op.identify c) ∧
    (∃ (s : State) (seq : Nat) (c : Cap) (es : List PEntry) (rs : List PRow), ready s.dev seq Op.getParam c ∧ 8 ≤ c.value.length ∧
        readEntries (c.value.drop 8) (c.value.field 0 2) = some es ∧ c.value.field 2 1 ≤ 1 ∧ c.value.zeroAt 3 5 = true ∧
        c.value.field 0 2 ≤ 1024 ∧ es.all PEntry.bare = true ∧
        (if c.value.field 0 2 = 0 then some paramTable else rowsOf es) = some rs) ∧
    (∃ (s : State) (seq : Nat) (c : Cap) (e : PEntry) (r : PRow), ready s.dev seq Op.setParam c ∧ setsOne s.dev c e ∧ c.selftestValue = 0 ∧
        paramRow e.id = some r ∧ r.cls = 2) ∧
    (∃ (s : State) (seq : Nat) (c : Cap) (e : PEntry) (r : PRow), ready s.dev seq Op.setParam c ∧ setsOne s.dev c e ∧ c.selftestValue = 0 ∧
        paramRow e.id = some r ∧ r.cls ≠ 2 ∧ e.id ≠ P.modeSelftestRun) :=
  ⟨⟨one ({ adm Op.identify [] with value := [] }), 7, { adm Op.identify [] with value := [] }, by decide +kernel⟩,
    ⟨one (adm Op.getParam ([0, 1, 0, 0, 0, 0, 0, 0] ++ natToBytesBE 4 0x0A000103 ++ natToBytesBE 4 0)), 7, adm Op.getParam ([0, 1, 0, 0, 0, 0, 0, 0] ++ natToBytesBE 4 0x0A000103 ++ natToBytesBE 4 0), [⟨0x0A000103, 0, 0, 0, []⟩], (paramRow 0x0A000103).toList, by decide +kernel⟩,
    ⟨one (adm Op.setParam ([0, 1, 0, 0, 0, 0, 0, 0] ++ natToBytesBE 4 0x0A000102 ++ natToBytesBE 2 8 ++ [0, 0] ++ [0, 0, 0, 0, 0, 0, 1, 0] ++ zeroBytes 0)), 7, adm Op.setParam ([0, 1, 0, 0, 0, 0, 0, 0] ++ natToBytesBE 4 0x0A000102 ++ natToBytesBE 2 8 ++ [0, 0] ++ [0, 0, 0, 0, 0, 0, 1, 0] ++ zeroBytes 0), ⟨0x0A000102, 8, 0, 0, [0,0,0,0,0,0,1,0]⟩, ⟨0x0A000102, 2, .num 100 10000, num8 1000⟩, by decide +kernel⟩,
    ⟨one (adm Op.setParam ([0, 1, 0, 0, 0, 0, 0, 0] ++ natToBytesBE 4 0x0A000104 ++ natToBytesBE 2 8 ++ [0, 0] ++ [0, 0, 0, 0, 0, 0, 0, 2] ++ zeroBytes 0)), 7, adm Op.setParam ([0, 1, 0, 0, 0, 0, 0, 0] ++ natToBytesBE 4 0x0A000104 ++ natToBytesBE 2 8 ++ [0, 0] ++ [0, 0, 0, 0, 0, 0, 0, 2] ++ zeroBytes 0), ⟨0x0A000104, 8, 0, 0, [0, 0, 0, 0, 0, 0, 0, 2]⟩, ⟨0x0A000104, 3, .num 0x01 0x3F, num8 0x3F⟩, by decide +kernel⟩⟩

/-- States and operands that meet the hypotheses of `Obligations.SelfTestAndStagedSet`, clause by clause. -/
theorem test_wit_SelfTestAndStagedSet :
    (∃ (s : State) (seq : Nat) (c : Cap) (e : PEntry), ready s.dev seq Op.setParam c ∧ setsOne s.dev c e ∧ e.id = P.modeSelftestRun ∧
        e.value.toNatBE = 1) ∧
    (∃ (s : State) (seq : Nat) (c : Cap) (e : PEntry), ready s.dev seq Op.setParam c ∧ setsOne s.dev c e ∧ e.id = P.modeSelftestRun ∧
        e.value.toNatBE = 2) ∧
    (∃ (s : State) (seq : Nat) (c : Cap) (e : PEntry), ready s.dev seq Op.setParam c ∧ setsOne s.dev c e ∧ e.id = P.modeSelftestRun ∧
        e.value.toNatBE = 3 ∧ s.dev.ev.ring.length < 65000) ∧
    (∃ (s : State) (x : SelfTest) (faults : Nat), s.dev.par.selfTest = some x ∧ s.dev.ev.ring.length < 65000) ∧
    (∃ (s : State) (seq : Nat) (c : Cap), ready s.dev seq Op.commitStaged c ∧ c.hdr.offset = 0 ∧ s.dev.stagedOk = true) ∧
    (∃ (s : State) (seq : Nat) (c : Cap), ready s.dev seq Op.commitStaged c ∧ c.hdr.offset = 1 ∧ s.dev.stagedOk = true ∧
        s.dev.par.pendingReset = none ∧ s.dev.driftOut = false ∧ s.dev.pow.failing = none) ∧
    (∃ (s : State) (seq : Nat) (c : Cap), ready s.dev seq Op.commitStaged c ∧ c.hdr.offset = 1 ∧ s.dev.stagedOk = true ∧
        s.dev.par.run = .running ∧ s.dev.par.pendingReset = none ∧ s.dev.drained (some seq) = true ∧ s.dev.pow.failing = none ∧
        (∀ x ∈ s.dev.que.caps, x.seq = seq → x = c)) ∧
    (∃ (s : State) (seq : Nat) (c : Cap), ready s.dev seq Op.commitStaged c ∧ c.hdr.offset = 2) :=
  ⟨⟨st (withCaps (owned d0) [adm Op.setParam ([0, 1, 0, 0, 0, 0, 0, 0] ++ natToBytesBE 4 P.modeSelftestRun ++ natToBytesBE 2 8 ++ [0, 0] ++ [0, 0, 0, 0, 0, 0, 0, 1] ++ zeroBytes 0)]), 7, adm Op.setParam ([0, 1, 0, 0, 0, 0, 0, 0] ++ natToBytesBE 4 P.modeSelftestRun ++ natToBytesBE 2 8 ++ [0, 0] ++ [0, 0, 0, 0, 0, 0, 0, 1] ++ zeroBytes 0), ⟨P.modeSelftestRun, 8, 0, 0, [0, 0, 0, 0, 0, 0, 0, 1]⟩, by decide +kernel⟩,
    ⟨st (withCaps (owned d0) [adm Op.setParam ([0, 1, 0, 0, 0, 0, 0, 0] ++ natToBytesBE 4 P.modeSelftestRun ++ natToBytesBE 2 8 ++ [0, 0] ++ [0, 0, 0, 0, 0, 0, 0, 2] ++ zeroBytes 0)]), 7, adm Op.setParam ([0, 1, 0, 0, 0, 0, 0, 0] ++ natToBytesBE 4 P.modeSelftestRun ++ natToBytesBE 2 8 ++ [0, 0] ++ [0, 0, 0, 0, 0, 0, 0, 2] ++ zeroBytes 0), ⟨P.modeSelftestRun, 8, 0, 0, [0, 0, 0, 0, 0, 0, 0, 2]⟩, by decide +kernel⟩,
    ⟨st ({ withCaps (owned d0) [adm Op.setParam ([0, 1, 0, 0, 0, 0, 0, 0] ++ natToBytesBE 4 P.modeSelftestRun ++ natToBytesBE 2 8 ++ [0, 0] ++ [0, 0, 0, 0, 0, 0, 0, 3] ++ zeroBytes 0)] with par := { (owned d0).par with selfTest := some ⟨1, 1, 0⟩ } }), 7, adm Op.setParam ([0, 1, 0, 0, 0, 0, 0, 0] ++ natToBytesBE 4 P.modeSelftestRun ++ natToBytesBE 2 8 ++ [0, 0] ++ [0, 0, 0, 0, 0, 0, 0, 3] ++ zeroBytes 0), ⟨P.modeSelftestRun, 8, 0, 0, [0, 0, 0, 0, 0, 0, 0, 3]⟩, by decide +kernel⟩,
    ⟨st ({ d0 with par := { d0.par with selfTest := some ⟨1, 1, 0⟩ } }), ⟨1, 1, 0⟩, 2, by decide +kernel⟩,
    ⟨st ((fun d => { d with par := { d.par with staged := [(0x0A000102, num8 500)] } }) (withCaps (owned d0) [(let c := adm Op.commitStaged []; { c with hdr := { c.hdr with offset := 0 } })])), 7, (let c := adm Op.commitStaged []; { c with hdr := { c.hdr with offset := 0 } }), by decide +kernel⟩,
    ⟨st ((fun d => { d with par := { d.par with staged := [(0x0A000102, num8 500)] } }) (withVer (withCaps (owned d0) [(let c := adm Op.commitStaged []; { c with hdr := { c.hdr with offset := 1 } })]))), 7, (let c := adm Op.commitStaged []; { c with hdr := { c.hdr with offset := 1 } }), by decide +kernel⟩,
    ⟨st ((fun d => { d with par := { d.par with staged := [(0x0A000102, num8 500)] } }) (withCaps (owned d0) [(let c := adm Op.commitStaged []; { c with hdr := { c.hdr with offset := 1 } })])), 7, (let c := adm Op.commitStaged []; { c with hdr := { c.hdr with offset := 1 } }), by decide +kernel⟩,
    ⟨st ((fun d => { d with par := { d.par with staged := [(0x0A000102, num8 500), (P.transportSessionMax, num8 64)], committed := [(P.mirrorLeaseMs, num8 3000, 7)] } }) (withCaps (owned d0) [(let c := adm Op.commitStaged []; { c with hdr := { c.hdr with offset := 2 } })])), 7, (let c := adm Op.commitStaged []; { c with hdr := { c.hdr with offset := 2 } }), by decide +kernel⟩⟩

/-- States and operands that meet the hypotheses of `Obligations.NamespacesPolicyAndRing`, clause by clause. -/
theorem test_wit_NamespacesPolicyAndRing :
    (∃ (s : State) (seq : Nat) (c : Cap), ready s.dev seq Op.nsCreate c ∧ s.dev.nsCreateCheck c = none) ∧
    (∃ (s : State) (seq : Nat) (c : Cap), ready s.dev seq Op.nsDelete c ∧ s.dev.nsDeleteCheck c = none ∧
        s.dev.earlierWork c.seq (some c.hdr.ns) = false ∧ c.value.toNatBE = 0) ∧
    (∃ (s : State) (seq : Nat) (c : Cap) (p : Policy), ready s.dev seq Op.policyWrite c ∧ c.value.length = 16 + 64 * c.value.field 0 2 ∧
        s.dev.policyOf c.value = some p) ∧
    (∃ (s : State) (seq : Nat) (c : Cap), ready s.dev seq Op.ringLoad c ∧ c.value.length = 16 + 8 * c.value.field 8 4 ∧
        s.dev.ring.epoch < c.value.field 0 8 ∧ 0 < c.value.field 8 4 ∧ c.value.field 8 4 ≤ 262144 ∧ c.value.zeroAt 12 4 = true ∧
        pointsOk (ringPoints c.value (c.value.field 8 4)) = true) :=
  ⟨⟨st ((id) (withCaps (owned d0) [admN Op.nsCreate (natToBytesBE 4 4 ++ zeroBytes 4 ++ natToBytesBE 8 8192 ++ natToBytesBE 8 3 ++ zeroBytes 40)])), 7, admN Op.nsCreate (natToBytesBE 4 4 ++ zeroBytes 4 ++ natToBytesBE 8 8192 ++ natToBytesBE 8 3 ++ zeroBytes 40), by decide +kernel⟩,
    ⟨st (withNs (withCaps (owned d0) [admN Op.nsDelete (zeroBytes 8)])), 7, admN Op.nsDelete (zeroBytes 8), by decide +kernel⟩,
    ⟨st (withNs (withCaps (owned d0) [adm Op.policyWrite (natToBytesBE 2 1 ++ zeroBytes 14 ++ [1, 0, 0, 0] ++ natToBytesBE 4 9 ++ zeroBytes 56)])), 7, adm Op.policyWrite (natToBytesBE 2 1 ++ zeroBytes 14 ++ [1, 0, 0, 0] ++ natToBytesBE 4 9 ++ zeroBytes 56), ((withNs (withCaps (owned d0) [adm Op.policyWrite (natToBytesBE 2 1 ++ zeroBytes 14 ++ [1, 0, 0, 0] ++ natToBytesBE 4 9 ++ zeroBytes 56)])).policyOf (adm Op.policyWrite (natToBytesBE 2 1 ++ zeroBytes 14 ++ [1, 0, 0, 0] ++ natToBytesBE 4 9 ++ zeroBytes 56)).value).getD ⟨[], [], 0⟩, by decide +kernel⟩,
    ⟨st ((id) (withCaps (owned d0) [adm Op.ringLoad (natToBytesBE 8 4 ++ natToBytesBE 4 2 ++ zeroBytes 4 ++ natToBytesBE 4 7 ++ [0, 1, 0, 0] ++ natToBytesBE 4 0xFFFFFFFF ++ [0, 2, 0, 0])])), 7, adm Op.ringLoad (natToBytesBE 8 4 ++ natToBytesBE 4 2 ++ zeroBytes 4 ++ natToBytesBE 4 7 ++ [0, 1, 0, 0] ++ natToBytesBE 4 0xFFFFFFFF ++ [0, 2, 0, 0]), by decide +kernel⟩⟩

/-- States and operands that meet the hypotheses of `Obligations.SanitiseIsRecorded`, clause by clause. -/
theorem test_wit_SanitiseIsRecorded :
    (∃ (s : State) (seq : Nat) (c : Cap), ready s.dev seq Op.format c ∧ s.dev.sanCheckReq c = none ∧
        ((s.dev.maintCell (sanActivity c)).1 = .r ∨ (s.dev.maintCell (sanActivity c)).1 = .q) ∧
        s.dev.earlierWork c.seq (if c.value.field 0 1 == 1 then some c.hdr.ns else none) = false) ∧
    (∃ (s : State) (seq : Nat) (c : Cap), ready s.dev seq Op.sanitise c ∧ s.dev.sanCheckReq c = none ∧ c.value.field 1 1 = 1 ∧
        ((s.dev.maintCell (sanActivity c)).1 = .r ∨ (s.dev.maintCell (sanActivity c)).1 = .q) ∧
        s.dev.earlierWork c.seq (if c.value.field 0 1 == 1 then some c.hdr.ns else none) = false) ∧
    (∃ (s : State) (seq : Nat) (c : Cap), ready s.dev seq Op.sanitise c ∧ s.dev.sanCheckReq c = none ∧ c.value.field 1 1 = 2 ∧
        ((s.dev.maintCell (sanActivity c)).1 = .r ∨ (s.dev.maintCell (sanActivity c)).1 = .q) ∧
        s.dev.earlierWork c.seq (if c.value.field 0 1 == 1 then some c.hdr.ns else none) = false ∧
        (c.value.field 0 1 = 1 → s.dev.batchHolds (some c.hdr.ns) = false ∧ s.dev.coFits c.hdr.ns (s.dev.nsBands c.hdr.ns) = true) ∧
        (c.value.field 0 1 = 2 → ∀ b, [BayState.missing, .failed, .evacuating].contains (s.dev.bays.get b).state = false)) :=
  ⟨⟨st (withNs (withCaps (owned d0) [(let c := admN Op.format (pad 32 [1, 1]); c)])), 7, (let c := admN Op.format (pad 32 [1, 1]); c), by decide +kernel⟩,
    ⟨st (withNs (withCaps (owned d0) [(let c := admN Op.sanitise (pad 32 [1, 1]); c)])), 7, (let c := admN Op.sanitise (pad 32 [1, 1]); c), by decide +kernel⟩,
    ⟨st (withNs (withCaps (owned d0) [(let c := admN Op.sanitise (pad 32 [1, 2]); c)])), 7, (let c := admN Op.sanitise (pad 32 [1, 2]); c), by decide +kernel⟩⟩

/-- States and operands that meet the hypotheses of `Obligations.LogsAndSubscriptions`, clause by clause. -/
theorem test_wit_LogsAndSubscriptions :
    (∃ (s : State) (seq : Nat) (c : Cap), ready s.dev seq Op.readLog c ∧ s.dev.readLogCheck c = none ∧ c.replies = 0 ∧
        (s.dev.logLeft { c with cursor := c.value.field 8 8 }).length ≤ ((if c.value.field 4 4 == 0 then 1048576 else c.value.field 4 4) - 32) / logEntrySize (c.value.field 0 1)) ∧
    (∃ (s : State) (seq : Nat) (c : Cap), ready s.dev seq Op.eventSubscribe c ∧ c.value.length = 32 ∧ subFieldsOk c.value = true ∧
        c.value.field 0 1 = 1 ∧ (s.dev.subsOf c).length < 16 ∧ (blockSub c.value).sev ≤ 6) ∧
    (∃ (s : State) (seq : Nat) (c : Cap), ready s.dev seq Op.eventSubscribe c ∧ c.value.length = 32 ∧ subFieldsOk c.value = true ∧
        c.value.field 0 1 = 2 ∧ (s.dev.subsOf c).contains (blockSub c.value) = true) ∧
    (∃ (s : State) (seq : Nat) (c : Cap), ready s.dev seq Op.eventSubscribe c ∧ c.value.length = 32 ∧ subFieldsOk c.value = true ∧
        c.value.field 0 1 = 3) ∧
    (∃ (s : State) (seq : Nat) (c : Cap) (k : Nat), ready s.dev seq Op.eventSubscribe c ∧ c.value.length = 32 ∧
        subFieldsOk c.value = true ∧ c.value.field 0 1 = 4 ∧ s.dev.isOperator c.tenant = true ∧ (blockSub c.value).sev ≤ 4 ∧
        (blockSub c.value).srcLow ≤ k ∧ k ≤ (blockSub c.value).srcHigh) :=
  ⟨⟨st (oper (withNs (withCaps (owned d0) [adm Op.readLog (pad 64 [1])]))), 7, adm Op.readLog (pad 64 [1]), by decide +kernel⟩,
    ⟨st (oper (net (fun n => { n with sessions := [{ x0 with subs := [⟨3, 0, 4095, 0⟩] }] }) (withCaps (owned d0) [adm Op.eventSubscribe (pad 32 ([1, 6, 0, 0] ++ natToBytesBE 2 0 ++ natToBytesBE 2 9 ++ natToBytesBE 2 0))]))), 7, adm Op.eventSubscribe (pad 32 ([1, 6, 0, 0] ++ natToBytesBE 2 0 ++ natToBytesBE 2 9 ++ natToBytesBE 2 0)), by decide +kernel⟩,
    ⟨st (oper (net (fun n => { n with sessions := [{ x0 with subs := [⟨3, 0, 4095, 0⟩] }] }) (withCaps (owned d0) [adm Op.eventSubscribe (pad 32 ([2, 3, 0, 0] ++ natToBytesBE 2 0 ++ natToBytesBE 2 4095 ++ natToBytesBE 2 0))]))), 7, adm Op.eventSubscribe (pad 32 ([2, 3, 0, 0] ++ natToBytesBE 2 0 ++ natToBytesBE 2 4095 ++ natToBytesBE 2 0)), by decide +kernel⟩,
    ⟨st (oper (net (fun n => { n with sessions := [{ x0 with subs := [⟨3, 0, 4095, 0⟩] }] }) (withCaps (owned d0) [adm Op.eventSubscribe (pad 32 ([3, 0, 0, 0] ++ natToBytesBE 2 0 ++ natToBytesBE 2 0 ++ natToBytesBE 2 0))]))), 7, adm Op.eventSubscribe (pad 32 ([3, 0, 0, 0] ++ natToBytesBE 2 0 ++ natToBytesBE 2 0 ++ natToBytesBE 2 0)), by decide +kernel⟩,
    ⟨st (oper (net (fun n => { n with sessions := [{ x0 with subs := [⟨3, 0, 4095, 0⟩] }] }) (withCaps (owned d0) [adm Op.eventSubscribe (pad 32 ([4, 4, 0, 0] ++ natToBytesBE 2 7 ++ natToBytesBE 2 9 ++ natToBytesBE 2 0))]))), 7, adm Op.eventSubscribe (pad 32 ([4, 4, 0, 0] ++ natToBytesBE 2 7 ++ natToBytesBE 2 9 ++ natToBytesBE 2 0)), 7, by decide +kernel⟩⟩

theorem wit_UpdatesAreDelivered_0 : ∃ (s : State) (seq : Nat) (c : Cap) (certOk : Bool) (signatureOk : Bool), ready s.dev seq Op.updBegin c ∧ c.value.length = 65536 ∧
    hdrCheck c.value certOk signatureOk s.dev.upd.floor = none ∧ s.dev.upd.state = 0 :=
  ⟨st ((id) (withCaps (owned d0) [(let c := adm Op.updBegin []; { c with value := pkg0 })])), 7, (let c := adm Op.updBegin []; { c with value := pkg0 }), true, true, by decide +kernel⟩
theorem wit_UpdatesAreDelivered_1 : ∃ (s : State) (seq : Nat) (n : Nat) (c : Cap) (st : Staging), ready s.dev seq Op.updChunk c ∧ s.dev.upd.state = 1 ∧
    s.dev.upd.staging = some st ∧ s.dev.upd.holds c.source = true ∧ c.hdr.offset.toNat = 65536 * n ∧ 0 < n ∧
    65536 * n < pkgLength st.header ∧ c.value.length = chunkLength st.header n ∧ st.chunks.any (fun x => x.1 == n) = false :=
  ⟨st ((fun d => upd (fun u => { u with state := 1, staging := some ⟨pkg0, []⟩, lease := some ⟨(capOf 0 []).source, 0, 0⟩ }) d) (withCaps (owned d0) [(let c := adm Op.updChunk []; { c with value := zeroBytes 20480, hdr := { c.hdr with offset := 65536 } })])), 7, 1, (let c := adm Op.updChunk []; { c with value := zeroBytes 20480, hdr := { c.hdr with offset := 65536 } }), ⟨pkg0, []⟩, by decide +kernel⟩
theorem wit_UpdatesAreDelivered_2 : ∃ (s : State) (seq : Nat) (c : Cap) (st : Staging), ready s.dev seq Op.updVerify c ∧ s.dev.upd.state = 2 ∧
    s.dev.upd.staging = some st ∧ s.dev.upd.holds c.source = true :=
  ⟨st ((fun d => upd (fun u => { u with state := 2, staging := some ⟨pkg0, [(1, zeroBytes 20480)]⟩, lease := some ⟨(capOf 0 []).source, 0, 0⟩ }) d) (withCaps (owned d0) [adm Op.updVerify []])), 7, adm Op.updVerify [], ⟨pkg0, [(1, zeroBytes 20480)]⟩, by decide +kernel⟩
theorem wit_UpdatesAreDelivered_3 : ∃ (s : State) (l : Lease), s.dev.upd.lease = some l ∧ s.dev.upd.state ≠ 4 :=
  ⟨st (upd (fun u => { u with state := 1, staging := some ⟨pkg0, []⟩, lease := some ⟨⟨1, 7⟩, 0, 0⟩ }) d0), ⟨⟨1, 7⟩, 0, 0⟩, by decide +kernel⟩
/-- States and operands that meet the hypotheses of `Obligations.UpdatesAreDelivered`, clause by clause. -/
theorem test_wit_UpdatesAreDelivered :
    (∃ (s : State) (seq : Nat) (c : Cap) (certOk : Bool) (signatureOk : Bool), ready s.dev seq Op.updBegin c ∧ c.value.length = 65536 ∧
        hdrCheck c.value certOk signatureOk s.dev.upd.floor = none ∧ s.dev.upd.state = 0) ∧
    (∃ (s : State) (seq : Nat) (n : Nat) (c : Cap) (st : Staging), ready s.dev seq Op.updChunk c ∧ s.dev.upd.state = 1 ∧
        s.dev.upd.staging = some st ∧ s.dev.upd.holds c.source = true ∧ c.hdr.offset.toNat = 65536 * n ∧ 0 < n ∧
        65536 * n < pkgLength st.header ∧ c.value.length = chunkLength st.header n ∧ st.chunks.any (fun x => x.1 == n) = false) ∧
    (∃ (s : State) (seq : Nat) (c : Cap) (st : Staging), ready s.dev seq Op.updVerify c ∧ s.dev.upd.state = 2 ∧
        s.dev.upd.staging = some st ∧ s.dev.upd.holds c.source = true) ∧
    (∃ (s : State) (l : Lease), s.dev.upd.lease = some l ∧ s.dev.upd.state ≠ 4) :=
  ⟨wit_UpdatesAreDelivered_0,
    wit_UpdatesAreDelivered_1,
    wit_UpdatesAreDelivered_2,
    wit_UpdatesAreDelivered_3⟩

/-- States and operands that meet the hypotheses of `Obligations.UpdatesAreActivated`, clause by clause. -/
theorem test_wit_UpdatesAreActivated :
    (∃ (s : State) (seq : Nat) (c : Cap), ready s.dev seq Op.updActivate c ∧ c.hdr.offset = 0 ∧ s.dev.upd.state = 3 ∧
        s.dev.upd.holds c.source = true ∧ (s.dev.maintCell .act).1 = .r ∧
        s.dev.upd.floor ≤ pkgSecver (s.dev.upd.pkg s.dev.upd.otherSlot) ∧ s.dev.driftOut = false ∧ s.dev.pow.failing = none) ∧
    (∃ (s : State) (seq : Nat) (c : Cap), ready s.dev seq Op.updActivate c ∧ c.hdr.offset = 1 ∧ s.dev.upd.state = 0 ∧
        s.dev.upd.slotOk s.dev.upd.otherSlot = true ∧ (s.dev.maintCell .act).1 = .r ∧
        s.dev.upd.floor ≤ pkgSecver (s.dev.upd.pkg s.dev.upd.otherSlot) ∧ s.dev.driftOut = false ∧ s.dev.pow.failing = none) ∧
    (∃ (s : State) (seq : Nat) (c : Cap), ready s.dev seq Op.updActivate c ∧ c.hdr.offset = 2 ∧ s.dev.upd.state ≠ 4 ∧
        s.dev.upd.leaseRefuses c.source false = false ∧ (s.dev.maintCell .act).1 = .r ∧ s.dev.driftOut = false ∧
        s.dev.pow.failing = none) ∧
    (∃ (s : State) (seq : Nat) (c : Cap), ready s.dev seq Op.updConfirm c ∧ s.dev.upd.inTrial = true) ∧
    (∃ (s : State) (seq : Nat) (c : Cap), ready s.dev seq Op.updCancel c ∧ (s.dev.upd.state = 1 ∨ s.dev.upd.state = 2) ∧
        s.dev.upd.holds c.source = true) ∧
    (∃ (s : State), s.dev.upd.inTrial = true ∧ s.dev.par.run = .running ∧ s.dev.driftOut = false ∧ s.dev.pow.failing = none ∧
        s.dev.par.pendingReset = none) :=
  ⟨⟨st ((fun d => upd (fun u => { u with state := 3, staging := some ⟨pkg0, []⟩, lease := some ⟨(capOf 0 []).source, 0, 0⟩ }) d) ((fun d => upd (fun u => { u with slots := ⟨#[some ⟨pkg0, true⟩, some ⟨pkg0, true⟩], rfl⟩ }) d) (withVer (withCaps (owned d0) [(let c := adm Op.updActivate []; { c with hdr := { c.hdr with offset := 0 } })])))), 7, (let c := adm Op.updActivate []; { c with hdr := { c.hdr with offset := 0 } }), by decide +kernel⟩,
    ⟨st ((fun d => upd (fun u => { u with slots := ⟨#[some ⟨pkg0, true⟩, some ⟨pkg0, true⟩], rfl⟩ }) d) (withVer (withCaps (owned d0) [(let c := adm Op.updActivate []; { c with hdr := { c.hdr with offset := 1 } })]))), 7, (let c := adm Op.updActivate []; { c with hdr := { c.hdr with offset := 1 } }), by decide +kernel⟩,
    ⟨st ((fun d => upd (fun u => { u with slots := ⟨#[some ⟨pkg0, true⟩, some ⟨pkg0, true⟩], rfl⟩ }) d) (withVer (withCaps (owned d0) [(let c := adm Op.updActivate []; { c with hdr := { c.hdr with offset := 2 } })]))), 7, (let c := adm Op.updActivate []; { c with hdr := { c.hdr with offset := 2 } }), by decide +kernel⟩,
    ⟨st ((fun d => upd (fun u => { u with state := 4, recs := Vector.replicate 2 { ActiveRec.reset with slot := 0, trial := 1, trialTwin := 0xFE, deadline := 100 } }) d) (withCaps (owned d0) [adm Op.updConfirm []])), 7, adm Op.updConfirm [], by decide +kernel⟩,
    ⟨st ((fun d => upd (fun u => { u with state := 1, staging := some ⟨pkg0, []⟩, lease := some ⟨(capOf 0 []).source, 0, 0⟩ }) d) (withCaps (owned d0) [adm Op.updCancel []])), 7, adm Op.updCancel [], by decide +kernel⟩,
    ⟨st ((fun d => upd (fun u => { u with state := 4, recs := Vector.replicate 2 { ActiveRec.reset with slot := 0, trial := 1, trialTwin := 0xFE, deadline := 100 } }) d) (withVer (owned d0))), by decide +kernel⟩⟩

/-- States and operands that meet the hypotheses of `Obligations.RecoveryLoadsByTftp`, clause by clause. -/
theorem test_wit_RecoveryLoadsByTftp :
    (∃ (s : State) (x : Tftp) (b : Bytes) (certOk : Bool) (signatureOk : Bool), s.dev.par.run = .recovery ∧ s.dev.upd.tftp = some x ∧
        x.waiting = false ∧ x.server.isSome = true ∧ (x.nextBlock = 1 ∨ x.blocksize = b.length) ∧ 512 ≤ b.length ∧ b.length ≤ 1468 ∧
        x.received.length + b.length < 65536) ∧
    (∃ (s : State) (x : Tftp) (n : Nat) (b : Bytes) (certOk : Bool) (signatureOk : Bool), s.dev.par.run = .recovery ∧
        s.dev.upd.tftp = some x ∧ x.waiting = false ∧ x.server.isSome = true ∧ n + 1 = x.nextBlock) ∧
    (∃ (s : State) (x : Tftp) (srv : Nat), s.dev.par.run = .recovery ∧ s.dev.upd.tftp = some x ∧ x.waiting = true ∧ x.server = some srv) ∧
    (∃ (s : State) (x : Tftp) (addr : Nat) (srv : Option Nat) (file : Option Bytes), (s.dev.par.run = .recovery ∧
        s.dev.upd.tftp = some x) ∨ (s.dev.par.run = .running ∧ s.dev.mgmt.vaneUp = true ∧ s.dev.mgmt.linkUp = true ∧
        s.dev.pflag P.mgmtAddrMode = true ∧ s.dev.pow.rung ≠ .glaze)) :=
  ⟨⟨st (inRec { tftp0 with nextBlock := 1 }), { tftp0 with nextBlock := 1 }, zeroBytes 512, true, true, by decide +kernel⟩,
    ⟨st (inRec tftp0), tftp0, 1, [1], true, true, by decide +kernel⟩,
    ⟨st (inRec { tftp0 with waiting := true }), { tftp0 with waiting := true }, 9, by decide +kernel⟩,
    ⟨st (inRec { tftp0 with waiting := true }), { tftp0 with waiting := true }, 77, some 3, none, by decide +kernel⟩⟩

/-- States and operands that meet the hypotheses of `Obligations.CartridgeOpsTakeEffect`, clause by clause. -/
theorem test_wit_CartridgeOpsTakeEffect :
    (∃ (s : State) (seq : Nat) (c : Cap), ready s.dev seq Op.cartEvacuate c ∧ c.value.field 1 1 = 1 ∧
        s.dev.cartCheck c (· == .inService) = none ∧ (s.dev.maintCell .evac).1 = .r ∧ s.dev.bayBusy (blockBay c.value) = false ∧
        s.dev.fill (blockBay c.value) ≤ ((s.dev.otherBays (blockBay c.value)).map s.dev.unchargedOn).sum) ∧
    (∃ (s : State) (seq : Nat) (c : Cap), ready s.dev seq Op.cartEvacuate c ∧ c.value.field 1 1 = 2 ∧
        s.dev.cartCheck c (fun _ => true) = none) ∧
    (∃ (s : State) (seq : Nat) (c : Cap), ready s.dev seq Op.cartEvacuate c ∧ c.value.field 1 1 = 3 ∧
        s.dev.cartCheck c (· == .evacuating) = none) ∧
    (∃ (s : State) (seq : Nat) (c : Cap), ready s.dev seq Op.cartRelease c ∧ c.value.field 1 1 = 1 ∧
        s.dev.cartCheck c (s.dev.releasable (blockBay c.value)) = none ∧ (s.dev.maintCell .evac).1 = .r) ∧
    (∃ (s : State) (seq : Nat) (c : Cap), ready s.dev seq Op.cartRelease c ∧ c.value.field 1 1 = 2 ∧
        s.dev.cartCheck c (fun x => x == .missing || x == .failed) = none ∧ s.dev.forgetHands (blockBay c.value) = [] ∧
        (s.dev.leastFull none).isSome = true ∨ s.dev.bucketsOn (blockBay c.value) = []) ∧
    (∃ (s : State) (seq : Nat) (c : Cap), ready s.dev seq Op.cartRelease c ∧ c.value.field 1 1 = 3 ∧
        s.dev.cartCheck c (· == .foreign) = none ∧ (s.dev.maintCell .evac).1 = .r) ∧
    (∃ (s : State) (seq : Nat) (c : Cap), ready s.dev seq Op.cartRelease c ∧ c.value.field 1 1 = 4 ∧ c.value.length = 32 ∧
        c.value.zeroAt 2 6 = true ∧ c.value.zeroAt 0x18 8 = true) :=
  ⟨⟨st (withBay (withCaps (owned d0) [adm Op.cartEvacuate (pad 32 ([0, 1, 0, 0, 0, 0, 0, 0] ++ natToBytesBE 16 42))]) bay0), 7, adm Op.cartEvacuate (pad 32 ([0, 1, 0, 0, 0, 0, 0, 0] ++ natToBytesBE 16 42)), by decide +kernel⟩,
    ⟨st (withBay (withCaps (owned d0) [adm Op.cartEvacuate (pad 32 ([0, 2, 0, 0, 0, 0, 0, 0] ++ natToBytesBE 16 42))]) (bay0)), 7, adm Op.cartEvacuate (pad 32 ([0, 2, 0, 0, 0, 0, 0, 0] ++ natToBytesBE 16 42)), by decide +kernel⟩,
    ⟨st (withBay (withCaps (owned d0) [adm Op.cartEvacuate (pad 32 ([0, 3, 0, 0, 0, 0, 0, 0] ++ natToBytesBE 16 42))]) ({ bay0 with state := .evacuating })), 7, adm Op.cartEvacuate (pad 32 ([0, 3, 0, 0, 0, 0, 0, 0] ++ natToBytesBE 16 42)), by decide +kernel⟩,
    ⟨st (withBay (withCaps (owned d0) [adm Op.cartRelease (pad 32 ([0, 1, 0, 0, 0, 0, 0, 0] ++ natToBytesBE 16 42))]) ({ bay0 with state := .evacuated })), 7, adm Op.cartRelease (pad 32 ([0, 1, 0, 0, 0, 0, 0, 0] ++ natToBytesBE 16 42)), by decide +kernel⟩,
    ⟨st (withBay (withCaps (owned d0) [adm Op.cartRelease (pad 32 ([0, 2, 0, 0, 0, 0, 0, 0] ++ natToBytesBE 16 42))]) ({ bay0 with state := .missing, present := false })), 7, adm Op.cartRelease (pad 32 ([0, 2, 0, 0, 0, 0, 0, 0] ++ natToBytesBE 16 42)), by decide +kernel⟩,
    ⟨st (withBay (withCaps (owned d0) [adm Op.cartRelease (pad 32 ([0, 3, 0, 0, 0, 0, 0, 0] ++ natToBytesBE 16 42))]) ({ bay0 with state := .foreign, bound := none, guest := some facts0 })), 7, adm Op.cartRelease (pad 32 ([0, 3, 0, 0, 0, 0, 0, 0] ++ natToBytesBE 16 42)), by decide +kernel⟩,
    ⟨st (idx (fun i => { i with buckets := [{ b0 with lostHome := [42] }] }) (withNs (withCaps (owned d0) [adm Op.cartRelease (pad 32 ([0, 4, 0, 0, 0, 0, 0, 0] ++ natToBytesBE 16 42))]))), 7, adm Op.cartRelease (pad 32 ([0, 4, 0, 0, 0, 0, 0, 0] ++ natToBytesBE 16 42)), by decide +kernel⟩⟩

/-- States and operands that meet the hypotheses of `Obligations.DiagnosticOpsTakeEffect`, clause by clause. -/
theorem test_wit_DiagnosticOpsTakeEffect :
    (∃ (s : State) (seq : Nat) (c : Cap), ready s.dev seq Op.diag c ∧ diagCheck c = none ∧ c.dOp = 1) ∧
    (∃ (s : State) (seq : Nat) (c : Cap), ready s.dev seq Op.diag c ∧ diagCheck c = none ∧ c.dOp = 2) ∧
    (∃ (s : State) (seq : Nat) (c : Cap), ready s.dev seq Op.diag c ∧ diagCheck c = none ∧ c.dOp = 3) ∧
    (∃ (s : State) (seq : Nat) (c : Cap), ready s.dev seq Op.diag c ∧ diagCheck c = none ∧ c.dOp = 4) ∧
    (∃ (s : State) (seq : Nat) (c : Cap), ready s.dev seq Op.diag c ∧ diagCheck c = none ∧ c.dOp = 5) ∧
    (∃ (s : State) (seq : Nat) (c : Cap) (r : GRow), ready s.dev seq Op.diag c ∧ diagCheck c = none ∧ c.dOp = 6 ∧
        s.dev.gale.rows.find? (fun r => r.addr == c.dAddr) = some r) ∧
    (∃ (s : State) (seq : Nat) (c : Cap), ready s.dev seq Op.diag c ∧ diagCheck c = none ∧ c.dOp = 7) :=
  ⟨⟨st ((id) (oper (withCaps (owned d0) [adm Op.diag (pad 160 ([1, 1, 0, 0, 0, 0, 0, 0] ++ natToBytesBE 8 1048512))]))), 7, adm Op.diag (pad 160 ([1, 1, 0, 0, 0, 0, 0, 0] ++ natToBytesBE 8 1048512)), by decide +kernel⟩,
    ⟨st ((fun d => { d with mem := { d.mem with maskDram := some ⟨64, [], []⟩ } }) (oper (withCaps (owned d0) [adm Op.diag (pad 160 ([2, 1, 0, 0, 0, 0, 0, 0] ++ natToBytesBE 8 0))]))), 7, adm Op.diag (pad 160 ([2, 1, 0, 0, 0, 0, 0, 0] ++ natToBytesBE 8 0)), by decide +kernel⟩,
    ⟨st ((id) (oper (withCaps (owned d0) [adm Op.diag (pad 160 ([3, 1, 0, 0, 0, 0, 0, 0] ++ natToBytesBE 8 1048512))]))), 7, adm Op.diag (pad 160 ([3, 1, 0, 0, 0, 0, 0, 0] ++ natToBytesBE 8 1048512)), by decide +kernel⟩,
    ⟨st ((id) (oper (withCaps (owned d0) [adm Op.diag (pad 160 ([4, 1, 0, 0, 0, 0, 0, 0] ++ natToBytesBE 8 64))]))), 7, adm Op.diag (pad 160 ([4, 1, 0, 0, 0, 0, 0, 0] ++ natToBytesBE 8 64)), by decide +kernel⟩,
    ⟨st ((id) (oper (withCaps (owned d0) [adm Op.diag (pad 160 ([5, 1, 0, 0, 0, 0, 0, 0] ++ natToBytesBE 8 64))]))), 7, adm Op.diag (pad 160 ([5, 1, 0, 0, 0, 0, 0, 0] ++ natToBytesBE 8 64)), by decide +kernel⟩,
    ⟨st ({ oper (withCaps (owned d0) [adm Op.diag (pad 160 ([6, 2, 0, 0, 0, 0, 0, 0] ++ natToBytesBE 8 40960))]) with gale := (inSess x0).gale }), 7, adm Op.diag (pad 160 ([6, 2, 0, 0, 0, 0, 0, 0] ++ natToBytesBE 8 40960)), ((inSess x0).gale.rows.find? (fun r => r.addr == 40960)).getD ⟨0,0,false,0,0,0⟩, by decide +kernel⟩,
    ⟨st ({ oper (withCaps (owned d0) [adm Op.diag (pad 160 ([7, 2, 0, 0, 0, 0, 0, 0] ++ natToBytesBE 8 40960))]) with gale := (inSess x0).gale }), 7, adm Op.diag (pad 160 ([7, 2, 0, 0, 0, 0, 0, 0] ++ natToBytesBE 8 40960)), by decide +kernel⟩⟩

/-- States and operands that meet the hypotheses of `Obligations.AttestOpsTakeEffect`, clause by clause. -/
theorem test_wit_AttestOpsTakeEffect :
    (∃ (s : State) (seq : Nat) (c : Cap), ready s.dev seq Op.attest c ∧ s.dev.attestCheck c = none ∧ c.aOp = 1) ∧
    (∃ (s : State) (seq : Nat) (c : Cap), ready s.dev seq Op.attest c ∧ s.dev.attestCheck c = none ∧ c.aOp = 2) ∧
    (∃ (s : State) (seq : Nat) (c : Cap) (x : Cred), ready s.dev seq Op.attest c ∧ s.dev.attestCheck c = none ∧ c.aOp = 3 ∧ c.aCred ≠ 0 ∧
        c.aCred ≠ provisioningId ∧ s.dev.cred? c.aCred = some x ∧ (c.aFlag = true → x.operator = true)) ∧
    (∃ (s : State) (seq : Nat) (c : Cap) (x : Cred) (k : BitVec 256), ready s.dev seq Op.attest c ∧ s.dev.attestCheck c = none ∧
        c.aOp = 4 ∧ s.dev.cred? c.aCred = some x ∧ x.staged = some k) ∧
    (∃ (s : State) (seq : Nat) (c : Cap) (x : Cred), ready s.dev seq Op.attest c ∧ s.dev.attestCheck c = none ∧ c.aOp = 5 ∧
        s.dev.cred? c.aCred = some x ∧ (x.operator = true → (s.dev.sec.creds.filter (·.operator)).length ≠ 1)) ∧
    (∃ (s : State) (seq : Nat) (c : Cap), ready s.dev seq Op.attest c ∧ s.dev.attestCheck c = none ∧ c.aOp = 6) ∧
    (∃ (s : State) (seq : Nat) (c : Cap), ready s.dev seq Op.attest c ∧ s.dev.attestCheck c = none ∧ c.aOp = 7 ∧ c.aPayload.drop 4 ≠ [] ∧
        (c.aPayload.drop 4).length ≤ 16384) ∧
    (∃ (s : State) (id : BitVec 32) (x : Cred), s.dev.cred? id = some x ∧ x.staged.isSome = true) :=
  ⟨⟨st ((id) (oper (withCaps (owned d0) [adm Op.attest ([1, 0, 0, 0] ++ natToBytesBE 4 0 ++ zeroBytes 56 ++ [])]))), 7, adm Op.attest ([1, 0, 0, 0] ++ natToBytesBE 4 0 ++ zeroBytes 56 ++ []), by decide +kernel⟩,
    ⟨st ((id) (oper (withCaps (owned d0) [adm Op.attest ([2, 0, 0, 0] ++ natToBytesBE 4 0 ++ zeroBytes 56 ++ [])]))), 7, adm Op.attest ([2, 0, 0, 0] ++ natToBytesBE 4 0 ++ zeroBytes 56 ++ []), by decide +kernel⟩,
    ⟨st ((sec (fun s => { s with creds := [⟨7, true, some 3, none, 0, 0⟩, ⟨8, false, some 3, some 5, 0, 0⟩] })) (oper (withCaps (owned d0) [adm Op.attest ([3, 0, 0, 0] ++ natToBytesBE 4 8 ++ zeroBytes 56 ++ natToBytesBE 32 77)]))), 7, adm Op.attest ([3, 0, 0, 0] ++ natToBytesBE 4 8 ++ zeroBytes 56 ++ natToBytesBE 32 77), ⟨8, false, some 3, some 5, 0, 0⟩, by decide +kernel⟩,
    ⟨st ((sec (fun s => { s with creds := [⟨7, true, some 3, none, 0, 0⟩, ⟨8, false, some 3, some 5, 0, 0⟩] })) (oper (withCaps (owned d0) [adm Op.attest ([4, 0, 0, 0] ++ natToBytesBE 4 8 ++ zeroBytes 56 ++ [])]))), 7, adm Op.attest ([4, 0, 0, 0] ++ natToBytesBE 4 8 ++ zeroBytes 56 ++ []), ⟨8, false, some 3, some 5, 0, 0⟩, 5, by decide +kernel⟩,
    ⟨st ((net (fun n => { n with sessions := [x0, { x0 with sid := 2, tenant := 8, uport := 99 }] }) ∘ sec (fun s => { s with creds := [⟨7, true, some 3, none, 0, 0⟩, ⟨8, false, some 3, some 5, 0, 0⟩] })) (oper (withCaps (owned d0) [adm Op.attest ([5, 0, 0, 0] ++ natToBytesBE 4 8 ++ zeroBytes 56 ++ [])]))), 7, adm Op.attest ([5, 0, 0, 0] ++ natToBytesBE 4 8 ++ zeroBytes 56 ++ []), ⟨8, false, some 3, some 5, 0, 0⟩, by decide +kernel⟩,
    ⟨st ((sec (fun s => { s with creds := [⟨7, true, some 3, none, 0, 0⟩, ⟨8, false, some 3, some 5, 0, 0⟩] })) (oper (withCaps (owned d0) [adm Op.attest ([6, 0, 0, 0] ++ natToBytesBE 4 0 ++ zeroBytes 56 ++ [])]))), 7, adm Op.attest ([6, 0, 0, 0] ++ natToBytesBE 4 0 ++ zeroBytes 56 ++ []), by decide +kernel⟩,
    ⟨st ((mgm (fun m => { m with conns := [⟨1, true, 0, none⟩] })) (oper (withCaps (owned d0) [adm Op.attest ([7, 0, 0, 0] ++ natToBytesBE 4 0 ++ zeroBytes 56 ++ (natToBytesBE 4 3 ++ [1, 2, 3]))]))), 7, adm Op.attest ([7, 0, 0, 0] ++ natToBytesBE 4 0 ++ zeroBytes 56 ++ (natToBytesBE 4 3 ++ [1, 2, 3])), by decide +kernel⟩,
    ⟨st (sec (fun s => { s with creds := [⟨7, true, some 3, none, 0, 0⟩, ⟨8, false, some 3, some 5, 0, 0⟩] }) d0), 8, ⟨8, false, some 3, some 5, 0, 0⟩, by decide +kernel⟩⟩

/-- States and operands that meet the hypotheses of `Obligations.LifeCycleTransitionsBegin`, clause by clause. -/
theorem test_wit_LifeCycleTransitionsBegin :
    (∃ (s : State) (seq : Nat) (c : Cap), ready s.dev seq Op.attest c ∧ s.dev.attestCheck c = none ∧ c.aOp = 8 ∧ s.dev.lcStep1 c = none ∧
        ((s.dev.maintCell .lc).1 = .r ∨ (s.dev.maintCell .lc).1 = .q) ∧ s.dev.par.pendingReset = none ∧ s.dev.pow.failing = none ∧
        s.dev.driftOut = false) ∧
    (∃ (s : State) (seq : Nat) (c : Cap), ready s.dev seq Op.attest c ∧ s.dev.attestCheck c = none ∧ c.aOp = 9 ∧ s.dev.lcStep1 c = none ∧
        ((s.dev.maintCell .lc).1 = .r ∨ (s.dev.maintCell .lc).1 = .q) ∧ s.dev.par.pendingReset = none ∧ s.dev.pow.failing = none ∧
        s.dev.driftOut = false) ∧
    (∃ (s : State) (seq : Nat) (c : Cap), ready s.dev seq Op.attest c ∧ s.dev.attestCheck c = none ∧ c.aOp = 10 ∧ s.dev.lcStep1 c = none ∧
        s.dev.quiesces = false ∧ ((s.dev.maintCell .lc).1 = .r ∨ (s.dev.maintCell .lc).1 = .q) ∧ s.dev.par.pendingReset = none ∧
        s.dev.pow.failing = none ∧ s.dev.driftOut = false) ∧
    (∃ (s : State) (seq : Nat) (c : Cap), ready s.dev seq Op.attest c ∧ s.dev.attestCheck c = none ∧ c.aOp = 11 ∧ s.dev.lcStep1 c = none ∧
        ((s.dev.maintCell .lc).1 = .r ∨ (s.dev.maintCell .lc).1 = .q) ∧ s.dev.par.pendingReset = none ∧ s.dev.pow.failing = none ∧
        s.dev.driftOut = false) ∧
    (∃ (s : State) (seq : Nat) (c : Cap), transits s.dev seq 8 c) ∧
    (∃ (s : State) (seq : Nat) (c : Cap), transits s.dev seq 9 c) ∧
    (∃ (s : State) (seq : Nat) (c : Cap), transits s.dev seq 10 c ∧ s.dev.quiesces = false ∧ s.dev.sec.sanitise.any SanRec.open_ = false ∧
        s.dev.sec.lcState = .owned) ∧
    (∃ (s : State) (seq : Nat) (c : Cap), transits s.dev seq 11 c) :=
  ⟨⟨st ((id) (withVer (sec (fun s => { s with lc := Vector.replicate 2 { LcCopy.reset with state := 1, stateTwin := 0xFE } }) (sec (fun s => { s with creds := [⟨7, true, some 3, none, 0, 0⟩] }) (withCaps d0 [{ adm Op.attest ([8, 0, 0, 0] ++ natToBytesBE 4 1 ++ zeroBytes 56 ++ (natToBytesBE 4 1 ++ natToBytesBE 4 3 ++ zeroBytes 35)) with tenant := provisioningId }]))))), 7, { adm Op.attest ([8, 0, 0, 0] ++ natToBytesBE 4 1 ++ zeroBytes 56 ++ (natToBytesBE 4 1 ++ natToBytesBE 4 3 ++ zeroBytes 35)) with tenant := provisioningId }, by decide +kernel⟩,
    ⟨st ((id) (withVer (sec (fun s => { s with lc := Vector.replicate 2 { LcCopy.reset with state := 2, stateTwin := 0xFD } }) (sec (fun s => { s with creds := [⟨7, true, some 3, none, 0, 0⟩] }) (withCaps d0 [adm Op.attest ([9, 0, 0, 0] ++ natToBytesBE 4 0 ++ zeroBytes 56 ++ [])]))))), 7, adm Op.attest ([9, 0, 0, 0] ++ natToBytesBE 4 0 ++ zeroBytes 56 ++ []), by decide +kernel⟩,
    ⟨st ((id) (withVer (sec (fun s => { s with lc := Vector.replicate 2 { LcCopy.reset with state := 3, stateTwin := 0xFC } }) (sec (fun s => { s with creds := [⟨7, true, some 3, none, 0, 0⟩] }) (withCaps d0 [adm Op.attest ([10, 0, 0, 0] ++ natToBytesBE 4 0 ++ zeroBytes 56 ++ natToBytesBE 32 1)]))))), 7, adm Op.attest ([10, 0, 0, 0] ++ natToBytesBE 4 0 ++ zeroBytes 56 ++ natToBytesBE 32 1), by decide +kernel⟩,
    ⟨st ((id) (withVer (sec (fun s => { s with lc := Vector.replicate 2 { LcCopy.reset with state := 4, stateTwin := 0xFB } }) (sec (fun s => { s with creds := [⟨7, true, some 3, none, 0, 0⟩] }) (withCaps d0 [{ adm Op.attest ([11, 0, 0, 0] ++ natToBytesBE 4 0 ++ zeroBytes 56 ++ []) with tenant := provisioningId }]))))), 7, { adm Op.attest ([11, 0, 0, 0] ++ natToBytesBE 4 0 ++ zeroBytes 56 ++ []) with tenant := provisioningId }, by decide +kernel⟩,
    ⟨st ((id) (withNs (sec (fun s => { s with lc := Vector.replicate 2 { LcCopy.reset with state := 1, stateTwin := 0xFE } }) (sec (fun s => { s with creds := [⟨7, true, some 3, none, 0, 0⟩] }) (withCaps d0 [{ adm Op.attest ([8, 0, 0, 0] ++ natToBytesBE 4 1 ++ zeroBytes 56 ++ (natToBytesBE 4 1 ++ natToBytesBE 4 3 ++ zeroBytes 35)) with tenant := provisioningId }]))))), 7, { adm Op.attest ([8, 0, 0, 0] ++ natToBytesBE 4 1 ++ zeroBytes 56 ++ (natToBytesBE 4 1 ++ natToBytesBE 4 3 ++ zeroBytes 35)) with tenant := provisioningId }, by decide +kernel⟩,
    ⟨st ((fun d => { d with bays := (withBay d { bay0 with bound := none, state := .authenticated, guest := some facts0 }).bays }) (withNs (sec (fun s => { s with lc := Vector.replicate 2 { LcCopy.reset with state := 2, stateTwin := 0xFD } }) (sec (fun s => { s with creds := [⟨7, true, some 3, none, 0, 0⟩] }) (withCaps d0 [adm Op.attest ([9, 0, 0, 0] ++ natToBytesBE 4 0 ++ zeroBytes 56 ++ [])]))))), 7, adm Op.attest ([9, 0, 0, 0] ++ natToBytesBE 4 0 ++ zeroBytes 56 ++ []), by decide +kernel⟩,
    ⟨st ((id) (withNs (sec (fun s => { s with lc := Vector.replicate 2 { LcCopy.reset with state := 3, stateTwin := 0xFC } }) (sec (fun s => { s with creds := [⟨7, true, some 3, none, 0, 0⟩] }) (withCaps d0 [adm Op.attest ([10, 0, 0, 0] ++ natToBytesBE 4 0 ++ zeroBytes 56 ++ natToBytesBE 32 1)]))))), 7, adm Op.attest ([10, 0, 0, 0] ++ natToBytesBE 4 0 ++ zeroBytes 56 ++ natToBytesBE 32 1), by decide +kernel⟩,
    ⟨st ((id) (withNs (sec (fun s => { s with lc := Vector.replicate 2 { LcCopy.reset with state := 4, stateTwin := 0xFB } }) (sec (fun s => { s with creds := [⟨7, true, some 3, none, 0, 0⟩] }) (withCaps d0 [{ adm Op.attest ([11, 0, 0, 0] ++ natToBytesBE 4 0 ++ zeroBytes 56 ++ []) with tenant := provisioningId }]))))), 7, { adm Op.attest ([11, 0, 0, 0] ++ natToBytesBE 4 0 ++ zeroBytes 56 ++ []) with tenant := provisioningId }, by decide +kernel⟩⟩

/-- States and operands that meet the hypotheses of `Obligations.MirrorControlTakesEffect`, clause by clause. -/
theorem test_wit_MirrorControlTakesEffect :
    (∃ (s : State) (seq : Nat) (c : Cap), ready s.dev seq Op.mirrorCtl c ∧ mirrorBlock c = none ∧ c.mOp = 1 ∧ s.dev.mir.state = .unpaired ∧
        c.value.field 0x18 8 ≠ 0) ∧
    (∃ (s : State) (seq : Nat) (c : Cap), ready s.dev seq Op.mirrorCtl c ∧ mirrorBlock c = none ∧ c.mOp = 2 ∧ s.dev.mir.state ≠ .unpaired ∧
        s.dev.mir.nss = []) ∧
    (∃ (s : State) (seq : Nat) (c : Cap), ready s.dev seq Op.mirrorCtl c ∧ mirrorBlock c = none ∧ c.mOp = 3 ∧ s.dev.linked = true ∧
        s.dev.mirror? c.hdr.ns = none ∧ (s.dev.nsOf c.hdr.ns).isSome = true) ∧
    (∃ (s : State) (seq : Nat) (c : Cap) (m : MirrorNs), ready s.dev seq Op.mirrorCtl c ∧ mirrorBlock c = none ∧ c.mOp = 4 ∧
        s.dev.mirror? c.hdr.ns = some m ∧ m.lead = true ∧ s.dev.handoverHolds m.ns = false) ∧
    (∃ (s : State) (seq : Nat) (c : Cap) (m : MirrorNs), ready s.dev seq Op.mirrorCtl c ∧ mirrorBlock c = none ∧ c.mOp = 5 ∧
        s.dev.mirror? c.hdr.ns = some m ∧ m.lead = true ∧ (m.st = .inSync ∨ m.st = .resync)) ∧
    (∃ (s : State) (seq : Nat) (c : Cap) (ns : List (BitVec 12)), ready s.dev seq Op.mirrorCtl c ∧ mirrorBlock c = none ∧ c.mOp = 6 ∧
        (c.mBit 2 = true ∨ s.dev.follows c.hdr.ns = false) ∧ s.dev.handoverNs c = some ns) ∧
    (∃ (s : State) (seq : Nat) (c : Cap), ready s.dev seq Op.mirrorCtl c ∧ mirrorBlock c = none ∧ c.mOp = 7 ∧ c.mBit 3 = false ∧
        s.dev.mayPromote c = true ∧ s.dev.mir.promote = none ∧ s.dev.witnessed = true) ∧
    (∃ (s : State) (seq : Nat) (c : Cap) (k : Nat), ready s.dev seq Op.mirrorCtl c ∧ mirrorBlock c = none ∧ c.mOp = 7 ∧ c.mBit 3 = true ∧
        s.dev.mir.state = .peerLost ∧ s.dev.mir.followsAny = true ∧ s.dev.mir.lostSince = some k ∧
        k + 1000 * s.dev.pnum P.mirrorLeaseMs ≤ s.dev.clk.tick) ∧
    (∃ (s : State) (seq : Nat) (c : Cap), ready s.dev seq Op.mirrorCtl c ∧ mirrorBlock c = none ∧ c.mOp = 8) ∧
    (∃ (s : State) (seq : Nat) (c : Cap), ready s.dev seq Op.mirrorCtl c ∧ mirrorBlock c = none ∧ c.mOp = 9) ∧
    (∃ (s : State) (h : HandoverRun) (k : Nat), s.dev.mir.handover = some h ∧ h.witnessSince = some k) :=
  ⟨⟨st ((id) (paired .unpaired [] (withCaps (owned d0) [adm Op.mirrorCtl (pad 64 ([1, 0, 0, 0, 0, 0, 0, 0] ++ natToBytesBE 16 8 ++ natToBytesBE 8 6))]))), 7, adm Op.mirrorCtl (pad 64 ([1, 0, 0, 0, 0, 0, 0, 0] ++ natToBytesBE 16 8 ++ natToBytesBE 8 6)), by decide +kernel⟩,
    ⟨st ((id) (paired .connecting [] (withCaps (owned d0) [adm Op.mirrorCtl (pad 64 ([2, 0, 0, 0, 0, 0, 0, 0] ++ []))]))), 7, adm Op.mirrorCtl (pad 64 ([2, 0, 0, 0, 0, 0, 0, 0] ++ [])), by decide +kernel⟩,
    ⟨st ((id) (paired .linked [] (withCaps (owned d0) [admN Op.mirrorCtl (pad 64 ([3, 1, 0, 0, 0, 0, 0, 0] ++ []))]))), 7, admN Op.mirrorCtl (pad 64 ([3, 1, 0, 0, 0, 0, 0, 0] ++ [])), by decide +kernel⟩,
    ⟨st ((id) (paired .linked [mns0] (withCaps (owned d0) [admN Op.mirrorCtl (pad 64 ([4, 0, 0, 0, 0, 0, 0, 0] ++ []))]))), 7, admN Op.mirrorCtl (pad 64 ([4, 0, 0, 0, 0, 0, 0, 0] ++ [])), mns0, by decide +kernel⟩,
    ⟨st ((id) (paired .linked [mns0] (withCaps (owned d0) [admN Op.mirrorCtl (pad 64 ([5, 2, 0, 0, 0, 0, 0, 0] ++ []))]))), 7, admN Op.mirrorCtl (pad 64 ([5, 2, 0, 0, 0, 0, 0, 0] ++ [])), mns0, by decide +kernel⟩,
    ⟨st ((id) (paired .linked [mns0] (withCaps (owned d0) [admN Op.mirrorCtl (pad 64 ([6, 0, 0, 0, 0, 0, 0, 0] ++ []))]))), 7, admN Op.mirrorCtl (pad 64 ([6, 0, 0, 0, 0, 0, 0, 0] ++ [])), [5], by decide +kernel⟩,
    ⟨st ((witSet) (paired .peerLost [{ mns0 with lead := false }] (withCaps (owned d0) [admN Op.mirrorCtl (pad 64 ([7, 0, 0, 0, 0, 0, 0, 0] ++ []))]))), 7, admN Op.mirrorCtl (pad 64 ([7, 0, 0, 0, 0, 0, 0, 0] ++ [])), by decide +kernel⟩,
    ⟨st ((fun d => { d with clk := { d.clk with tick := 10 ^ 9 } }) (paired .peerLost [{ mns0 with lead := false }] (withCaps (owned d0) [admN Op.mirrorCtl (pad 64 ([7, 8, 0, 0, 0, 0, 0, 0] ++ []))]))), 7, admN Op.mirrorCtl (pad 64 ([7, 8, 0, 0, 0, 0, 0, 0] ++ [])), 0, by decide +kernel⟩,
    ⟨st ((id) (paired .linked [mns0] (withCaps (owned d0) [admN Op.mirrorCtl (pad 64 ([8, 0, 0, 0, 0, 0, 0, 0] ++ []))]))), 7, admN Op.mirrorCtl (pad 64 ([8, 0, 0, 0, 0, 0, 0, 0] ++ [])), by decide +kernel⟩,
    ⟨st ((id) (paired .linked [mns0] (withCaps (owned d0) [adm Op.mirrorCtl (pad 448 ([9, 0, 0, 0, 0, 0, 0, 0] ++ []))]))), 7, adm Op.mirrorCtl (pad 448 ([9, 0, 0, 0, 0, 0, 0, 0] ++ [])), by decide +kernel⟩,
    ⟨st (mir (fun m => { m with handover := some ⟨7, [5], some 0⟩ }) (paired .linked [mns0] (withCaps (owned d0) [admN Op.mirrorCtl (pad 64 ([6, 0, 0, 0, 0, 0, 0, 0] ++ []))]))), ⟨7, [5], some 0⟩, 0, by decide +kernel⟩⟩

/-- States and operands that meet the hypotheses of `Obligations.WitnessDecides`, clause by clause. -/
theorem test_wit_WitnessDecides :
    (∃ (s : State), s.dev.par.run = .running ∧ s.dev.mir.state ≠ .unpaired ∧ s.dev.witnessed = true ∧ s.dev.par.committed = []) ∧
    (∃ (s : State), s.dev.mir.state ≠ .unpaired ∧ s.dev.mir.leaseUntil.isSome = true) ∧
    (∃ (s : State), s.dev.que.drift = []) ∧
    (∃ (s : State), s.dev.mir.state = .peerLost ∧ s.dev.pflag P.mirrorAutoClaim = true ∧ s.dev.witnessed = true ∧
        s.dev.mir.followsAny = true) ∧
    (∃ (s : State) (q : WitReq), q ∈ s.dev.mir.reqs) ∧
    (∃ (s : State) (r : WitReply) (q : WitReq), s.dev.answered r = some q ∧ q.msg = .renew) ∧
    (∃ (s : State) (r : WitReply) (q : WitReq), s.dev.answered r = some q) :=
  ⟨⟨st ((id) (mir (fun m => { m with reqs := [] }) (witSet (paired .linked [mns0] (owned d0))))), by decide +kernel⟩,
    ⟨st ((mir (fun m => { m with leaseUntil := some 0 })) (mir (fun m => { m with reqs := [] }) (witSet (paired .linked [mns0, { mns0 with ns := 6, lead := false }] (owned d0))))), by decide +kernel⟩,
    ⟨st ((id) (mir (fun m => { m with reqs := [] }) (witSet (paired .peerLost [{ mns0 with st := .waiting, soloGranted := true, waitSince := some 0 }] (owned d0))))), by decide +kernel⟩,
    ⟨st (par P.mirrorAutoClaim (num8 1) (witSet (paired .peerLost [{ mns0 with lead := false }] (owned d0)))), by decide +kernel⟩,
    ⟨st ((id) (mir (fun m => { m with reqs := [⟨.claim, 77, false, 0, 1, []⟩] }) (witSet (paired .linked [mns0] (owned d0))))), ⟨.claim, 77, false, 0, 1, []⟩, by decide +kernel⟩,
    ⟨st ((mir (fun m => { m with fenced := true })) (mir (fun m => { m with reqs := [⟨.renew, 77, false, 0, 1, []⟩] }) (witSet (paired .linked [{ mns0 with st := .fenced, prev := .inSync }] (owned d0))))), ⟨77, 0, 5000, 4, false, false, true⟩, ⟨.renew, 77, false, 0, 1, []⟩, by decide +kernel⟩,
    ⟨st ((id) (mir (fun m => { m with reqs := [⟨.renew, 77, false, 0, 1, []⟩] }) (witSet (paired .linked [mns0] (owned d0))))), ⟨77, 0, 5000, 4, false, false, true⟩, ⟨.renew, 77, false, 0, 1, []⟩, by decide +kernel⟩⟩

/-- States and operands that meet the hypotheses of `Obligations.PairLinkIsKept`, clause by clause. -/
theorem test_wit_PairLinkIsKept :
    (∃ (s : State) (h : CwHello), s.dev.par.run = .running ∧ s.dev.peerUp = true ∧ s.dev.mir.state ≠ .unpaired ∧
        s.dev.helloFails h = none) ∧
    (∃ (s : State), s.dev.mir.helloRetry = true ∧ s.dev.peerUp = true ∧ s.dev.mir.state ≠ .unpaired) ∧
    (∃ (s : State) (h : CwHdr), s.dev.linked = true ∧ s.dev.cwNew h.psn = true ∧ s.dev.mir.held = []) ∧
    (∃ (s : State) (h : CwHdr), s.dev.linked = true ∧ s.dev.cwNew h.psn = true ∧ s.dev.mir.held = []) ∧
    (∃ (s : State), s.dev.mir.state ≠ .unpaired ∧ s.dev.peerUp = true) ∧
    (∃ (s : State), s.dev.linked = true) ∧
    (∃ (s : State), s.dev.linked = true) ∧
    (∃ (s : State) (n : BitVec 12) (m : MirrorNs) (r : RepRec) (rest : List RepRec), s.dev.mirror? n = some m ∧ m.lead = true ∧
        m.sync = false ∧ m.unapplied = r :: rest ∧ settled s.dev ∧ s.dev.ev.ring.length < 65000) :=
  ⟨⟨st (paired .connecting [] (owned d0)), ⟨0, 3, 9, [], 0, [], 7, true, true, []⟩, by decide +kernel⟩,
    ⟨st (mir (fun m => { m with helloRetry := true }) (paired .connecting [] d0)), by decide +kernel⟩,
    ⟨st (paired .linked [mns0] d0), cw0, by decide +kernel⟩,
    ⟨st (paired .linked [mns0] d0), cw0, by decide +kernel⟩,
    ⟨st (paired .connecting [mns0] (owned d0)), by decide +kernel⟩,
    ⟨st (paired .linked [mns0] d0), by decide +kernel⟩,
    ⟨st (paired .linked [mns0] (owned d0)), by decide +kernel⟩,
    ⟨st (paired .linked [{ mns0 with sync := false, unapplied := [⟨1, 5, [], 0, 3, 0, 0, 0, 0, true, 0⟩] }] d0), 5, { mns0 with sync := false, unapplied := [⟨1, 5, [], 0, 3, 0, 0, 0, 0, true, 0⟩] }, ⟨1, 5, [], 0, 3, 0, 0, 0, 0, true, 0⟩, [], by decide +kernel⟩⟩

/-- States and operands that meet the hypotheses of `Obligations.RecordsAreApplied`, clause by clause. -/
theorem test_wit_RecordsAreApplied :
    (∃ (s : State) (h : CwHdr) (r : CwRec) (m : MirrorNs) (n : Namespace) (k : KState), follower s.dev h r.ns m n ∧
        newer s.dev h .value r n k ∧
        placed (recordAt s.dev h .value r) r n k Op.put ⟨some r.data, chunkChecks r.data, [], segsOf (chunkCount r.data.length), 0⟩ false none) ∧
    (∃ (s : State) (h : CwHdr) (r : CwRec) (m : MirrorNs) (n : Namespace) (v : Nat) (l : Nat) (g : Nat) (cp : Copy), follower s.dev h r.ns m n ∧
        newer s.dev h .patch r n (.present v l g) ∧
        (recordAt s.dev h .patch r).baseCopy n.id (keyHash n.salt r.key) r.key r.version = some cp ∧
        (recordAt s.dev h .patch r).baseBytes n.id (keyHash n.salt r.key) r.key r.version = (cp.bytes, [], []) ∧
        placed (recordAt s.dev h .patch r) r n (.present v l g) Op.patch ⟨some (patchBytes cp.bytes r.offset r.data), (recordAt s.dev h .patch r).patchChecks r.ns (keyHash n.salt r.key) r.key r.version r.offset r.data.length (patchBytes cp.bytes r.offset r.data), stillBad r.offset r.data.length [], patchSegs cp.runs r.offset r.data.length (chunkCount (patchBytes cp.bytes r.offset r.data).length), patchUnits r.offset r.data.length⟩ false none) ∧
    (∃ (s : State) (h : CwHdr) (r : CwRec) (m : MirrorNs) (n : Namespace) (k : KState), follower s.dev h r.ns m n ∧
        newer s.dev h .delete r n k ∧ k ≠ .absent ∧
        placed (recordAt s.dev h .delete r) r n k Op.delete ⟨none, [], [], [], 0⟩ false none) ∧
    (∃ (s : State) (h : CwHdr) (r : CwRec) (m : MirrorNs) (n : Namespace) (k : KState), follower s.dev h r.ns m n ∧
        newer s.dev h .secureDelete r n k ∧ k ≠ .absent ∧
        placed (recordAt s.dev h .secureDelete r) r n k Op.delete ⟨none, [], [], [], 0⟩ true none) ∧
    (∃ (s : State) (h : CwHdr) (r : CwRec) (m : MirrorNs) (n : Namespace) (k : KState) (u : Upload) (ws : List (Nat × Part)), follower s.dev h r.ns m n ∧
        newer s.dev h .mpCommit r n k ∧ (recordAt s.dev h .mpCommit r).recUpload r = some u ∧
        winners u.parts (List.range (chunkCount r.valueLength)) = some ws ∧ (recordAt s.dev h .mpCommit r).partsAbsent u = false ∧
        placed (recordAt s.dev h .mpCommit r) r n k Op.mpCommit ⟨some (commitBytes r.valueLength ws), commitChecks (commitBytes r.valueLength ws) ws, [], (recordAt s.dev h .mpCommit r).commitSegs (partRuns ws), 0⟩ false (some u.id)) ∧
    (∃ (s : State) (h : CwHdr) (r : CwRec) (m : MirrorNs) (n : Namespace) (k : KState), follower s.dev h r.ns m n ∧
        newer s.dev h .lost r n k ∧ s.dev.driftBelow r.ns (keyHash n.salt r.key) (2 ^ 64) = none) :=
  ⟨⟨st fol, cw0, rec1, follow0, n0, .present 2 2 1, by decide +kernel, ⟨by decide +kernel, version_lt _ { entry0 with loc := loc0, twin := locTwin loc0 } _ _ _ rfl rfl (full_one _ { b0 with entries := [{ entry0 with loc := loc0, twin := locTwin loc0 }] } { entry0 with loc := loc0, twin := locTwin loc0 } _ _ (bucket_whole _ { b0 with entries := [{ entry0 with loc := loc0, twin := locTwin loc0 }] } _ _ rfl rfl rfl rfl) rfl (by decide +kernel) rfl rfl rfl rfl rfl rfl) rfl rfl (by decide +kernel), by decide +kernel, apply_one _ { b0 with entries := [{ entry0 with loc := loc0, twin := locTwin loc0 }] } _ _ (bucket_whole _ { b0 with entries := [{ entry0 with loc := loc0, twin := locTwin loc0 }] } _ _ rfl rfl rfl rfl) (by decide +kernel) (by decide +kernel), recState_one _ { entry0 with loc := loc0, twin := locTwin loc0 } _ _ _ rfl (full_one _ { b0 with entries := [{ entry0 with loc := loc0, twin := locTwin loc0 }] } { entry0 with loc := loc0, twin := locTwin loc0 } _ _ (bucket_whole _ { b0 with entries := [{ entry0 with loc := loc0, twin := locTwin loc0 }] } _ _ rfl rfl rfl rfl) rfl (by decide +kernel) rfl rfl rfl rfl rfl rfl) rfl rfl rfl⟩, ⟨by decide +kernel, apply_some _ _ _ _ _ _ _ _ _ 0 2 (home_of _ { b0 with entries := [{ entry0 with loc := loc0, twin := locTwin loc0 }] } _ _ (bucket_whole _ { b0 with entries := [{ entry0 with loc := loc0, twin := locTwin loc0 }] } _ _ rfl rfl rfl rfl)) (gen_after _ { entry0 with loc := loc0, twin := locTwin loc0 } _ _ _ _ rfl (full_one _ { b0 with entries := [{ entry0 with loc := loc0, twin := locTwin loc0 }] } { entry0 with loc := loc0, twin := locTwin loc0 } _ _ (bucket_whole _ { b0 with entries := [{ entry0 with loc := loc0, twin := locTwin loc0 }] } _ _ rfl rfl rfl rfl) rfl (by decide +kernel) rfl rfl rfl rfl rfl rfl) rfl rfl) (by decide +kernel) (by decide +kernel)⟩⟩,
    ⟨st fol, cw0, rec1, follow0, n0, 2, 2, 1, copy0, by decide +kernel, ⟨by decide +kernel, version_lt _ { entry0 with loc := loc0, twin := locTwin loc0 } _ _ _ rfl rfl (full_one _ { b0 with entries := [{ entry0 with loc := loc0, twin := locTwin loc0 }] } { entry0 with loc := loc0, twin := locTwin loc0 } _ _ (bucket_whole _ { b0 with entries := [{ entry0 with loc := loc0, twin := locTwin loc0 }] } _ _ rfl rfl rfl rfl) rfl (by decide +kernel) rfl rfl rfl rfl rfl rfl) rfl rfl (by decide +kernel), by decide +kernel, apply_one _ { b0 with entries := [{ entry0 with loc := loc0, twin := locTwin loc0 }] } _ _ (bucket_whole _ { b0 with entries := [{ entry0 with loc := loc0, twin := locTwin loc0 }] } _ _ rfl rfl rfl rfl) (by decide +kernel) (by decide +kernel), recState_one _ { entry0 with loc := loc0, twin := locTwin loc0 } _ _ _ rfl (full_one _ { b0 with entries := [{ entry0 with loc := loc0, twin := locTwin loc0 }] } { entry0 with loc := loc0, twin := locTwin loc0 } _ _ (bucket_whole _ { b0 with entries := [{ entry0 with loc := loc0, twin := locTwin loc0 }] } _ _ rfl rfl rfl rfl) rfl (by decide +kernel) rfl rfl rfl rfl rfl rfl) rfl rfl rfl⟩, base_copy _ { entry0 with loc := loc0, twin := locTwin loc0 } copy0 _ _ _ rfl (full_one _ { b0 with entries := [{ entry0 with loc := loc0, twin := locTwin loc0 }] } { entry0 with loc := loc0, twin := locTwin loc0 } _ _ (bucket_whole _ { b0 with entries := [{ entry0 with loc := loc0, twin := locTwin loc0 }] } _ _ rfl rfl rfl rfl) rfl (by decide +kernel) rfl rfl rfl rfl rfl rfl) rfl rfl rfl _, base_bytes _ { entry0 with loc := loc0, twin := locTwin loc0 } copy0 _ _ _ rfl (full_one _ { b0 with entries := [{ entry0 with loc := loc0, twin := locTwin loc0 }] } { entry0 with loc := loc0, twin := locTwin loc0 } _ _ (bucket_whole _ { b0 with entries := [{ entry0 with loc := loc0, twin := locTwin loc0 }] } _ _ rfl rfl rfl rfl) rfl (by decide +kernel) rfl rfl rfl rfl rfl rfl) rfl rfl rfl _, ⟨by decide +kernel, apply_some _ _ _ _ _ _ _ _ _ 0 2 (home_of _ { b0 with entries := [{ entry0 with loc := loc0, twin := locTwin loc0 }] } _ _ (bucket_whole _ { b0 with entries := [{ entry0 with loc := loc0, twin := locTwin loc0 }] } _ _ rfl rfl rfl rfl)) (gen_after _ { entry0 with loc := loc0, twin := locTwin loc0 } _ _ _ _ rfl (full_one _ { b0 with entries := [{ entry0 with loc := loc0, twin := locTwin loc0 }] } { entry0 with loc := loc0, twin := locTwin loc0 } _ _ (bucket_whole _ { b0 with entries := [{ entry0 with loc := loc0, twin := locTwin loc0 }] } _ _ rfl rfl rfl rfl) rfl (by decide +kernel) rfl rfl rfl rfl rfl rfl) rfl rfl) (by decide +kernel) (by decide +kernel)⟩⟩,
    (by refine ⟨st fol, cw0, rec1, follow0, n0, .present 2 2 1, ?_, ⟨by decide +kernel, version_lt _ { entry0 with loc := loc0, twin := locTwin loc0 } _ _ _ rfl rfl (full_one _ { b0 with entries := [{ entry0 with loc := loc0, twin := locTwin loc0 }] } { entry0 with loc := loc0, twin := locTwin loc0 } _ _ (bucket_whole _ { b0 with entries := [{ entry0 with loc := loc0, twin := locTwin loc0 }] } _ _ rfl rfl rfl rfl) rfl (by decide +kernel) rfl rfl rfl rfl rfl rfl) rfl rfl (by decide +kernel), by decide +kernel, apply_one _ { b0 with entries := [{ entry0 with loc := loc0, twin := locTwin loc0 }] } _ _ (bucket_whole _ { b0 with entries := [{ entry0 with loc := loc0, twin := locTwin loc0 }] } _ _ rfl rfl rfl rfl) (by decide +kernel) (by decide +kernel), recState_one _ { entry0 with loc := loc0, twin := locTwin loc0 } _ _ _ rfl (full_one _ { b0 with entries := [{ entry0 with loc := loc0, twin := locTwin loc0 }] } { entry0 with loc := loc0, twin := locTwin loc0 } _ _ (bucket_whole _ { b0 with entries := [{ entry0 with loc := loc0, twin := locTwin loc0 }] } _ _ rfl rfl rfl rfl) rfl (by decide +kernel) rfl rfl rfl rfl rfl rfl) rfl rfl rfl⟩, ?_, ⟨by decide +kernel, apply_some _ _ _ _ _ _ _ _ _ 0 2 (home_of _ { b0 with entries := [{ entry0 with loc := loc0, twin := locTwin loc0 }] } _ _ (bucket_whole _ { b0 with entries := [{ entry0 with loc := loc0, twin := locTwin loc0 }] } _ _ rfl rfl rfl rfl)) (gen_after _ { entry0 with loc := loc0, twin := locTwin loc0 } _ _ _ _ rfl (full_one _ { b0 with entries := [{ entry0 with loc := loc0, twin := locTwin loc0 }] } { entry0 with loc := loc0, twin := locTwin loc0 } _ _ (bucket_whole _ { b0 with entries := [{ entry0 with loc := loc0, twin := locTwin loc0 }] } _ _ rfl rfl rfl rfl) rfl (by decide +kernel) rfl rfl rfl rfl rfl rfl) rfl rfl) (by decide +kernel) (by decide +kernel)⟩⟩ <;> decide +kernel),
    (by refine ⟨st fol, cw0, rec1, follow0, n0, .present 2 2 1, ?_, ⟨by decide +kernel, version_lt _ { entry0 with loc := loc0, twin := locTwin loc0 } _ _ _ rfl rfl (full_one _ { b0 with entries := [{ entry0 with loc := loc0, twin := locTwin loc0 }] } { entry0 with loc := loc0, twin := locTwin loc0 } _ _ (bucket_whole _ { b0 with entries := [{ entry0 with loc := loc0, twin := locTwin loc0 }] } _ _ rfl rfl rfl rfl) rfl (by decide +kernel) rfl rfl rfl rfl rfl rfl) rfl rfl (by decide +kernel), by decide +kernel, apply_one _ { b0 with entries := [{ entry0 with loc := loc0, twin := locTwin loc0 }] } _ _ (bucket_whole _ { b0 with entries := [{ entry0 with loc := loc0, twin := locTwin loc0 }] } _ _ rfl rfl rfl rfl) (by decide +kernel) (by decide +kernel), recState_one _ { entry0 with loc := loc0, twin := locTwin loc0 } _ _ _ rfl (full_one _ { b0 with entries := [{ entry0 with loc := loc0, twin := locTwin loc0 }] } { entry0 with loc := loc0, twin := locTwin loc0 } _ _ (bucket_whole _ { b0 with entries := [{ entry0 with loc := loc0, twin := locTwin loc0 }] } _ _ rfl rfl rfl rfl) rfl (by decide +kernel) rfl rfl rfl rfl rfl rfl) rfl rfl rfl⟩, ?_, ⟨by decide +kernel, apply_some _ _ _ _ _ _ _ _ _ 0 2 (home_of _ { b0 with entries := [{ entry0 with loc := loc0, twin := locTwin loc0 }] } _ _ (bucket_whole _ { b0 with entries := [{ entry0 with loc := loc0, twin := locTwin loc0 }] } _ _ rfl rfl rfl rfl)) (gen_after _ { entry0 with loc := loc0, twin := locTwin loc0 } _ _ _ _ rfl (full_one _ { b0 with entries := [{ entry0 with loc := loc0, twin := locTwin loc0 }] } { entry0 with loc := loc0, twin := locTwin loc0 } _ _ (bucket_whole _ { b0 with entries := [{ entry0 with loc := loc0, twin := locTwin loc0 }] } _ _ rfl rfl rfl rfl) rfl (by decide +kernel) rfl rfl rfl rfl rfl rfl) rfl rfl) (by decide +kernel) (by decide +kernel)⟩⟩ <;> decide +kernel),
    (by refine ⟨st (idx (fun i => { i with uploads := [{ up0 with id := 50, declared := 4, parts := [⟨60, 0, [1,2,3,4], chunkChecks [1,2,3,4], 0, [(5, 1)], true, [], false⟩] }] }) fol), cw0, rec1, follow0, n0, .present 2 2 1, { up0 with id := 50, declared := 4, parts := [⟨60, 0, [1,2,3,4], chunkChecks [1,2,3,4], 0, [(5, 1)], true, [], false⟩] }, [(0, ⟨60, 0, [1,2,3,4], chunkChecks [1,2,3,4], 0, [(5, 1)], true, [], false⟩)], ?_, ⟨by decide +kernel, version_lt _ { entry0 with loc := loc0, twin := locTwin loc0 } _ _ _ rfl rfl (full_one _ { b0 with entries := [{ entry0 with loc := loc0, twin := locTwin loc0 }] } { entry0 with loc := loc0, twin := locTwin loc0 } _ _ (bucket_whole _ { b0 with entries := [{ entry0 with loc := loc0, twin := locTwin loc0 }] } _ _ rfl rfl rfl rfl) rfl (by decide +kernel) rfl rfl rfl rfl rfl rfl) rfl rfl (by decide +kernel), by decide +kernel, apply_one _ { b0 with entries := [{ entry0 with loc := loc0, twin := locTwin loc0 }] } _ _ (bucket_whole _ { b0 with entries := [{ entry0 with loc := loc0, twin := locTwin loc0 }] } _ _ rfl rfl rfl rfl) (by decide +kernel) (by decide +kernel), recState_one _ { entry0 with loc := loc0, twin := locTwin loc0 } _ _ _ rfl (full_one _ { b0 with entries := [{ entry0 with loc := loc0, twin := locTwin loc0 }] } { entry0 with loc := loc0, twin := locTwin loc0 } _ _ (bucket_whole _ { b0 with entries := [{ entry0 with loc := loc0, twin := locTwin loc0 }] } _ _ rfl rfl rfl rfl) rfl (by decide +kernel) rfl rfl rfl rfl rfl rfl) rfl rfl rfl⟩, rfl, ?_, ?_, ⟨by decide +kernel, apply_some _ _ _ _ _ _ _ _ _ 0 2 (home_of _ { b0 with entries := [{ entry0 with loc := loc0, twin := locTwin loc0 }] } _ _ (bucket_whole _ { b0 with entries := [{ entry0 with loc := loc0, twin := locTwin loc0 }] } _ _ rfl rfl rfl rfl)) (gen_after _ { entry0 with loc := loc0, twin := locTwin loc0 } _ _ _ _ rfl (full_one _ { b0 with entries := [{ entry0 with loc := loc0, twin := locTwin loc0 }] } { entry0 with loc := loc0, twin := locTwin loc0 } _ _ (bucket_whole _ { b0 with entries := [{ entry0 with loc := loc0, twin := locTwin loc0 }] } _ _ rfl rfl rfl rfl) rfl (by decide +kernel) rfl rfl rfl rfl rfl rfl) rfl rfl) (by decide +kernel) (by decide +kernel)⟩⟩ <;> decide +kernel),
    ⟨st fol, cw0, rec1, follow0, n0, .present 2 2 1, by decide +kernel, ⟨by decide +kernel, version_lt _ { entry0 with loc := loc0, twin := locTwin loc0 } _ _ _ rfl rfl (full_one _ { b0 with entries := [{ entry0 with loc := loc0, twin := locTwin loc0 }] } { entry0 with loc := loc0, twin := locTwin loc0 } _ _ (bucket_whole _ { b0 with entries := [{ entry0 with loc := loc0, twin := locTwin loc0 }] } _ _ rfl rfl rfl rfl) rfl (by decide +kernel) rfl rfl rfl rfl rfl rfl) rfl rfl (by decide +kernel), by decide +kernel, apply_one _ { b0 with entries := [{ entry0 with loc := loc0, twin := locTwin loc0 }] } _ _ (bucket_whole _ { b0 with entries := [{ entry0 with loc := loc0, twin := locTwin loc0 }] } _ _ rfl rfl rfl rfl) (by decide +kernel) (by decide +kernel), recState_one _ { entry0 with loc := loc0, twin := locTwin loc0 } _ _ _ rfl (full_one _ { b0 with entries := [{ entry0 with loc := loc0, twin := locTwin loc0 }] } { entry0 with loc := loc0, twin := locTwin loc0 } _ _ (bucket_whole _ { b0 with entries := [{ entry0 with loc := loc0, twin := locTwin loc0 }] } _ _ rfl rfl rfl rfl) rfl (by decide +kernel) rfl rfl rfl rfl rfl rfl) rfl rfl rfl⟩, drift_none _ _ _ _ rfl⟩⟩

/-- States and operands that meet the hypotheses of `Obligations.UploadRecordsAndPartnerReads`, clause by clause. -/
theorem test_wit_UploadRecordsAndPartnerReads :
    (∃ (s : State) (h : CwHdr) (r : CwRec) (m : MirrorNs) (n : Namespace), follower s.dev h r.ns m n ∧ s.dev.recUpload r = none ∧
        (recordAt s.dev h .mpBegin r).applyStatus r.ns (keyHash n.salt r.key) = none ∧
        s.dev.binds n (keyHash n.salt r.key) r.key.length (uploadReserve r.valueLength) 0 false = .none) ∧
    (∃ (s : State) (h : CwHdr) (r : CwRec) (m : MirrorNs) (n : Namespace) (u : Upload), follower s.dev h r.ns m n ∧
        s.dev.recUpload r = some u ∧ (recordAt s.dev h .mpPart r).applyStatus r.ns (keyHash n.salt r.key) = none ∧
        u.parts.any (·.seq == r.version) = false ∧ s.dev.numberTaken r.version = false ∧
        ((recordAt s.dev h .mpPart r).placePart u r.version r.offset r.data (chunkChecks r.data)).isLeft = true) ∧
    (∃ (s : State) (h : CwHdr) (r : CwRec) (m : MirrorNs) (n : Namespace), follower s.dev h r.ns m n ∧
        (recordAt s.dev h .mpCancel r).applyStatus r.ns (keyHash n.salt r.key) = none ∧ (s.dev.recUpload r).isSome = true) ∧
    (∃ (s : State) (h : CwHdr) (id : Nat) (n : BitVec 12) (key : Bytes) (offset : Nat) (len : Nat) (v : Nat) (b : Bytes), inTurn s.dev h ∧
        s.dev.contentAt n (s.dev.hashOf n key) v = some b ∧ offset + len ≤ b.length) ∧
    (∃ (s : State) (h : CwHdr) (p : PartnerRead) (c : Cap) (v : Nat) (data : Bytes), inTurn s.dev h ∧
        s.dev.mir.reads.find? (·.id == p.id) = some p ∧ p.version = none ∧ s.dev.capBySeq p.seq = some c ∧ c.hdr.opcode = Op.get ∧
        c.partner = none ∧ (s.dev.session? c.sid).isSome = true) :=
  ⟨(by refine ⟨st fol, cw0, { rec1 with valueLength := 10 }, follow0, n0, ?_, ?_, apply_one _ { b0 with entries := [{ entry0 with loc := loc0, twin := locTwin loc0 }] } _ _ (bucket_whole _ { b0 with entries := [{ entry0 with loc := loc0, twin := locTwin loc0 }] } _ _ rfl rfl rfl rfl) (by decide +kernel) (by decide +kernel), ?_⟩ <;> decide +kernel),
    (by refine ⟨st (idx (fun i => { i with uploads := [{ up0 with id := 50, hash := 0 }] }) fol), cw0, { rec1 with data := [1,2,3,4,5,6,7,8,9,10] }, follow0, n0, { up0 with id := 50, hash := 0 }, ?_, rfl, apply_one _ { b0 with entries := [{ entry0 with loc := loc0, twin := locTwin loc0 }] } _ _ (bucket_whole _ { b0 with entries := [{ entry0 with loc := loc0, twin := locTwin loc0 }] } _ _ rfl rfl rfl rfl) (by decide +kernel) (by decide +kernel), ?_⟩ <;> decide +kernel),
    (by refine ⟨st (idx (fun i => { i with uploads := [{ up0 with id := 50 }] }) fol), cw0, rec1, follow0, n0, ?_, apply_one _ { b0 with entries := [{ entry0 with loc := loc0, twin := locTwin loc0 }] } _ _ (bucket_whole _ { b0 with entries := [{ entry0 with loc := loc0, twin := locTwin loc0 }] } _ _ rfl rfl rfl rfl) (by decide +kernel) (by decide +kernel), ?_⟩ <;> decide +kernel),
    (by refine ⟨st (fol), cw0, 3, 5, [1], 0, 0, 2, [8, 9], ?_, content_at _ { entry0 with loc := loc0, twin := locTwin loc0 } copy0 _ _ _ rfl (full_one _ { b0 with entries := [{ entry0 with loc := loc0, twin := locTwin loc0 }] } { entry0 with loc := loc0, twin := locTwin loc0 } _ _ (bucket_whole _ { b0 with entries := [{ entry0 with loc := loc0, twin := locTwin loc0 }] } _ _ rfl rfl rfl rfl) rfl (by decide +kernel) rfl rfl rfl rfl rfl rfl) rfl rfl rfl rfl rfl rfl (by decide +kernel), ?_⟩ <;> decide +kernel),
    ⟨st (mir (fun m => { m with reads := [⟨3, 7, none, 0⟩] }) (paired .linked [follow0] (withCaps (owned d0) [capX Op.get (fun c => { c with stage := .dispatched, forwarded := true })]))), cw0, ⟨3, 7, none, 0⟩, capX Op.get (fun c => { c with stage := .dispatched, forwarded := true }), 100, [1], by decide +kernel⟩⟩

/-- States and operands that meet the hypotheses of `Obligations.ReconciliationAdvances`, clause by clause. -/
theorem test_wit_ReconciliationAdvances :
    (∃ (s : State) (n : BitVec 12) (lo : BitVec 64) (m : MirrorNs) (b : Bucket), s.dev.linked = true ∧ s.dev.par.run = .running ∧
        (s.dev.maintCell .rsync).1 = .r ∧ s.dev.mirror? n = some m ∧ m.lead = true ∧ m.st ≠ .fenced ∧
        s.dev.idx.buckets.find? (fun b => b.ns == n && b.lo == lo.toNat) = some b ∧ s.dev.homeAbsent b = false ∧ b.pageLost = false ∧
        b.dirty = true ∧ b.lostHome = [] ∧ m.listing.contains b.lo = false) ∧
    (∃ (s : State) (h : CwHdr) (n : BitVec 12) (snapshot : Nat) (lo : Nat) (hi : Nat) (es : List (BitVec 128 × Nat)) (m : MirrorNs), inTurn s.dev h ∧
        s.dev.mirror? n = some m ∧ m.lead = false ∧ s.dev.que.drift = []) ∧
    (∃ (s : State) (h : CwHdr) (n : BitVec 12) (hs : List (BitVec 128)) (m : MirrorNs), inTurn s.dev h ∧ s.dev.mirror? n = some m ∧
        m.lead = true) ∧
    (∃ (s : State) (h : CwHdr) (n : BitVec 12) (w : Nat) (vs : List Nat) (failed : Option (Nat × Nat)) (m : MirrorNs), inTurn s.dev h ∧
        s.dev.mirror? n = some m ∧ m.lead = true ∧ s.dev.mir.handover = none) ∧
    (∃ (s : State) (h : CwHdr) (roles : List RoleEntry) (epoch : Nat), inTurn s.dev h ∧ (roles.map (·.ns)).Nodup) :=
  ⟨⟨st (idx (fun i => { i with buckets := [{ b0 with dirty := true }] }) (paired .linked [{ mns0 with st := .resync }] (owned d0))), 5, 0, { mns0 with st := .resync }, { b0 with dirty := true }, by decide +kernel⟩,
    ⟨st (fol), cw0, 5, 50, 0, 10, [(0, 3)], follow0, by decide +kernel⟩,
    ⟨st (withCopy band0 (paired .linked [{ mns0 with st := .resync, listing := [0] }] (owned d0))), cw0, 5, [0], { mns0 with st := .resync, listing := [0] }, by decide +kernel⟩,
    ⟨st (paired .linked [{ mns0 with unapplied := [⟨1, 5, [1], 0, 3, 0, 0, 0, 0, true, 0⟩] }] (owned d0)), cw0, 5, 8, [3], none, { mns0 with unapplied := [⟨1, 5, [1], 0, 3, 0, 0, 0, 0, true, 0⟩] }, by decide +kernel⟩,
    ⟨st (paired .linked [follow0] (owned d0)), cw0, [⟨5, .lead⟩], 9, by decide +kernel⟩⟩

/-- States and operands that meet the hypotheses of `Obligations.RedfishReadsAnswer`, clause by clause. -/
theorem test_wit_RedfishReadsAnswer :
    (∃ (s : State) (c : Nat) (k : HttpConn), s.dev.mgmt.conns.find? (·.id == c) = some k ∧ s.dev.httpsUp = true) ∧
    (∃ (s : State) (c : Nat) (k : HttpConn), s.dev.mgmt.conns.find? (·.id == c) = some k ∧ s.dev.httpsUp = true) ∧
    (∃ (s : State) (c : Nat) (k : HttpConn), s.dev.mgmt.conns.find? (·.id == c) = some k ∧ s.dev.httpsUp = true) ∧
    (∃ (s : State) (c : Nat) (k : HttpConn) (skip : Nat) (top : Nat), s.dev.mgmt.conns.find? (·.id == c) = some k ∧ s.dev.httpsUp = true ∧
        top ≤ 1000) ∧
    (∃ (s : State) (c : Nat) (k : HttpConn) (skip : Nat) (top : Nat), s.dev.mgmt.conns.find? (·.id == c) = some k ∧ s.dev.httpsUp = true ∧
        top ≤ 1000) ∧
    (∃ (s : State) (c : Nat) (k : HttpConn), s.dev.mgmt.conns.find? (·.id == c) = some k ∧ s.dev.httpsUp = true ∧ s.dev.retired = true) ∧
    (∃ (s : State) (c : Nat) (k : HttpConn), s.dev.mgmt.conns.find? (·.id == c) = some k ∧ s.dev.httpsUp = true ∧ s.dev.retired = true) ∧
    (∃ (s : State) (c : Nat) (k : HttpConn) (id : Nat), s.dev.mgmt.conns.find? (·.id == c) = some k ∧ s.dev.httpsUp = true ∧
        k.authenticated = true ∧ sensorExists id = true) ∧
    (∃ (s : State) (c : Nat) (k : HttpConn), s.dev.mgmt.conns.find? (·.id == c) = some k ∧ s.dev.httpsUp = true ∧ k.authenticated = true) ∧
    (∃ (s : State) (c : Nat) (k : HttpConn), s.dev.mgmt.conns.find? (·.id == c) = some k ∧ s.dev.httpsUp = true ∧ k.authenticated = true) ∧
    (∃ (s : State) (c : Nat) (k : HttpConn), s.dev.mgmt.conns.find? (·.id == c) = some k ∧ s.dev.httpsUp = true ∧ k.authenticated = true) ∧
    (∃ (s : State) (c : Nat) (k : HttpConn) (bay : BayNo), s.dev.mgmt.conns.find? (·.id == c) = some k ∧ s.dev.httpsUp = true ∧
        k.authenticated = true) ∧
    (∃ (s : State) (c : Nat) (k : HttpConn), s.dev.mgmt.conns.find? (·.id == c) = some k ∧ s.dev.httpsUp = true ∧ k.authenticated = true) ∧
    (∃ (s : State) (c : Nat) (k : HttpConn), s.dev.mgmt.conns.find? (·.id == c) = some k ∧ s.dev.httpsUp = true ∧ k.authenticated = true) :=
  ⟨⟨st ((id) (mgm (fun m => { m with conns := [⟨1, true, 77, none⟩] }) (owned d0))), 1, ⟨1, true, 77, none⟩, by decide +kernel⟩,
    ⟨st ((id) (mgm (fun m => { m with conns := [⟨1, true, 77, none⟩] }) (owned d0))), 1, ⟨1, true, 77, none⟩, by decide +kernel⟩,
    ⟨st ((id) (mgm (fun m => { m with conns := [⟨1, true, 77, none⟩] }) (owned d0))), 1, ⟨1, true, 77, none⟩, by decide +kernel⟩,
    ⟨st ((id) (mgm (fun m => { m with conns := [⟨1, true, 77, none⟩] }) (owned d0))), 1, ⟨1, true, 77, none⟩, 0, 1000, by decide +kernel⟩,
    ⟨st ((id) (mgm (fun m => { m with conns := [⟨1, true, 77, none⟩] }) (owned d0))), 1, ⟨1, true, 77, none⟩, 0, 1000, by decide +kernel⟩,
    ⟨st ((sec (fun s => { s with lc := Vector.replicate 2 { LcCopy.reset with state := 132, stateTwin := 0x7B } }) ∘ (fun d => { d with par := { d.par with mode := 8 } })) (mgm (fun m => { m with conns := [⟨1, false, 77, none⟩] }) (owned d0))), 1, ⟨1, false, 77, none⟩, by decide +kernel⟩,
    ⟨st ((sec (fun s => { s with lc := Vector.replicate 2 { LcCopy.reset with state := 132, stateTwin := 0x7B } }) ∘ (fun d => { d with par := { d.par with mode := 8 } })) (mgm (fun m => { m with conns := [⟨1, false, 77, none⟩] }) (owned d0))), 1, ⟨1, false, 77, none⟩, by decide +kernel⟩,
    ⟨st ((id) (mgm (fun m => { m with conns := [⟨1, true, 77, none⟩] }) (owned d0))), 1, ⟨1, true, 77, none⟩, 1, by decide +kernel⟩,
    ⟨st ((id) (mgm (fun m => { m with conns := [⟨1, true, 77, none⟩] }) (owned d0))), 1, ⟨1, true, 77, none⟩, by decide +kernel⟩,
    ⟨st ((id) (mgm (fun m => { m with conns := [⟨1, true, 77, none⟩] }) (owned d0))), 1, ⟨1, true, 77, none⟩, by decide +kernel⟩,
    ⟨st ((id) (mgm (fun m => { m with conns := [⟨1, true, 77, none⟩] }) (owned d0))), 1, ⟨1, true, 77, none⟩, by decide +kernel⟩,
    ⟨st ((id) (mgm (fun m => { m with conns := [⟨1, true, 77, none⟩] }) (owned d0))), 1, ⟨1, true, 77, none⟩, 3, by decide +kernel⟩,
    ⟨st ((id) (mgm (fun m => { m with conns := [⟨1, true, 77, none⟩] }) (owned d0))), 1, ⟨1, true, 77, none⟩, by decide +kernel⟩,
    ⟨st ((id) (mgm (fun m => { m with conns := [⟨1, true, 77, none⟩] }) (owned d0))), 1, ⟨1, true, 77, none⟩, by decide +kernel⟩⟩

/-- States and operands that meet the hypotheses of `Obligations.RedfishRequestsAct`, clause by clause. -/
theorem test_wit_RedfishRequestsAct :
    (∃ (s : State) (k : CertChain), s.dev.httpsUp = true ∧ s.dev.mgmt.conns.length < 16 ∧ k.tlsOk = true ∧
        (k.certOk = true ∨ s.dev.retired = true)) ∧
    (∃ (s : State) (speed : Nat), s.dev.mgmt.vaneUp = true) ∧
    (∃ (s : State) (speed : Nat), s.dev.mgmt.vaneUp = true) ∧
    (∃ (s : State) (c : Nat) (k : HttpConn) (on : Bool), s.dev.mgmt.conns.find? (·.id == c) = some k ∧ s.dev.httpsUp = true ∧
        k.authenticated = true) ∧
    (∃ (s : State) (c : Nat) (k : HttpConn), s.dev.mgmt.conns.find? (·.id == c) = some k ∧ s.dev.httpsUp = true ∧ k.authenticated = true ∧
        s.dev.par.run = .running ∧ s.dev.pow.failing = none ∧ s.dev.pow.pwrEn = true ∧
        (s.dev.pow.rung = .haze ∨ s.dev.pow.rung = .fog)) ∧
    (∃ (s : State) (c : Nat) (k : HttpConn) (ns : Nat), s.dev.mgmt.conns.find? (·.id == c) = some k ∧ s.dev.httpsUp = true ∧
        k.authenticated = true ∧ s.dev.clk.source ≠ .ptpLocked) ∧
    (∃ (s : State) (c : Nat) (k : HttpConn) (l : List (Nat × Bytes)), s.dev.mgmt.conns.find? (·.id == c) = some k ∧ s.dev.httpsUp = true ∧
        k.authenticated = true ∧ l.all (fun e => isAddress e.1 && entryOk e) = true) ∧
    (∃ (s : State) (c : Nat) (k : HttpConn) (sev : Nat) (src : Option Nat), s.dev.mgmt.conns.find? (·.id == c) = some k ∧
        s.dev.httpsUp = true ∧ k.authenticated = true) ∧
    (∃ (s : State) (c : Nat) (k : HttpConn) (pkg : Bytes) (certOk : Bool) (signatureOk : Bool), s.dev.mgmt.conns.find? (·.id == c) = some k ∧
        s.dev.httpsUp = true ∧ k.authenticated = true ∧ s.dev.par.run = .running) ∧
    (∃ (s : State) (c : Nat) (k : HttpConn) (r : BadRequest), s.dev.mgmt.conns.find? (·.id == c) = some k ∧ s.dev.httpsUp = true ∧
        k.authenticated = true) :=
  ⟨⟨st (owned d0), ⟨true, true, 5, 6⟩, by decide +kernel⟩,
    ⟨st (d0), 1000, by decide +kernel⟩,
    ⟨st (d0), 100, by decide +kernel⟩,
    ⟨st ((id) (mgm (fun m => { m with conns := [⟨1, true, 77, none⟩] }) (owned d0))), 1, ⟨1, true, 77, none⟩, true, by decide +kernel⟩,
    ⟨st ((pow (fun p => { p with rung := .haze })) (mgm (fun m => { m with conns := [⟨1, true, 77, none⟩] }) (owned d0))), 1, ⟨1, true, 77, none⟩, by decide +kernel⟩,
    ⟨st ((id) (mgm (fun m => { m with conns := [⟨1, true, 77, none⟩] }) (owned d0))), 1, ⟨1, true, 77, none⟩, 5, by decide +kernel⟩,
    ⟨st ((id) (mgm (fun m => { m with conns := [⟨1, true, 77, none⟩] }) (owned d0))), 1, ⟨1, true, 77, none⟩, [], by decide +kernel⟩,
    ⟨st ((id) (mgm (fun m => { m with conns := [⟨1, true, 77, none⟩] }) (owned d0))), 1, ⟨1, true, 77, none⟩, 3, some 4, by decide +kernel⟩,
    ⟨st ((id) (mgm (fun m => { m with conns := [⟨1, true, 77, none⟩] }) (owned d0))), 1, ⟨1, true, 77, none⟩, pkg0 ++ zeroBytes 20480, true, true, by decide +kernel⟩,
    ⟨st ((id) (mgm (fun m => { m with conns := [⟨1, true, 77, none⟩] }) (owned d0))), 1, ⟨1, true, 77, none⟩, .method, by decide +kernel⟩⟩

/-- States and operands that meet the hypotheses of `Obligations.SidebandRequestsAnswered`, clause by clause. -/
theorem test_wit_SidebandRequestsAnswered :
    (∃ (s : State) (eid : BitVec 8), s.dev.mgmt.vaneUp = true) ∧
    (∃ (s : State), s.dev.mgmt.vaneUp = true) ∧
    (∃ (s : State) (typ : BitVec 8), s.dev.mgmt.vaneUp = true ∧ mctpTypes.contains typ = true) ∧
    (∃ (s : State), s.dev.mgmt.vaneUp = true) ∧
    (∃ (s : State), s.dev.mgmt.vaneUp = true ∧ s.dev.par.run ≠ .recovery) ∧
    (∃ (s : State) (typ : BitVec 8), s.dev.mgmt.vaneUp = true ∧ s.dev.par.run ≠ .recovery ∧ pldmTypes.contains typ = true) ∧
    (∃ (s : State), s.dev.mgmt.vaneUp = true ∧ s.dev.par.run ≠ .recovery) ∧
    (∃ (s : State) (typ : BitVec 8) (l : Bytes), s.dev.mgmt.vaneUp = true ∧ s.dev.par.run ≠ .recovery ∧ pldmCommands typ = some l) ∧
    (∃ (s : State), s.dev.mgmt.vaneUp = true ∧ s.dev.par.run ≠ .recovery) ∧
    (∃ (s : State) (n : Nat) (p : Pdr), s.dev.mgmt.vaneUp = true ∧ s.dev.par.run ≠ .recovery ∧ pdrs[n]? = some p) ∧
    (∃ (s : State) (id : Nat), s.dev.mgmt.vaneUp = true ∧ s.dev.par.run ≠ .recovery ∧ (sensorRange id).isSome = true) ∧
    (∃ (s : State) (id : Nat), s.dev.mgmt.vaneUp = true ∧ s.dev.par.run ≠ .recovery ∧ isStateSensor id = true) ∧
    (∃ (s : State), s.dev.mgmt.vaneUp = true ∧ s.dev.par.run ≠ .recovery) ∧
    (∃ (s : State) (on : Bool), s.dev.mgmt.vaneUp = true ∧ s.dev.par.run ≠ .recovery) ∧
    (∃ (s : State) (a : Nat), s.dev.mgmt.vaneUp = true ∧ s.dev.par.run ≠ .recovery) ∧
    (∃ (s : State), s.dev.mgmt.vaneUp = true ∧ s.dev.par.run ≠ .recovery ∧ settled s.dev) ∧
    (∃ (s : State) (typ : BitVec 8) (cmd : BitVec 8), s.dev.mgmt.vaneUp = true ∧ s.dev.par.run ≠ .recovery) :=
  ⟨⟨st (d0), 9, by decide +kernel⟩,
    ⟨st (d0), by decide +kernel⟩,
    ⟨st (d0), 0, by decide +kernel⟩,
    ⟨st (d0), by decide +kernel⟩,
    ⟨st (d0), by decide +kernel⟩,
    ⟨st (d0), 2, by decide +kernel⟩,
    ⟨st (d0), by decide +kernel⟩,
    ⟨st (d0), 2, (pldmCommands 2).getD [], by decide +kernel⟩,
    ⟨st (d0), by decide +kernel⟩,
    ⟨st (d0), 0, pdrs[0], by decide +kernel⟩,
    ⟨st (d0), 1, by decide +kernel⟩,
    ⟨st (d0), (((List.range 300).find? isStateSensor).getD 0), by decide +kernel⟩,
    ⟨st (d0), by decide +kernel⟩,
    ⟨st (d0), true, by decide +kernel⟩,
    ⟨st (d0), 8, by decide +kernel⟩,
    ⟨st (mgm (fun m => { m with pldmReceiver := some 1, pldmQueue := [.sensor 1 2, .sensor 2 2] }) d0), by decide +kernel⟩,
    ⟨st (d0), 7, 9, by decide +kernel⟩⟩

/-- States and operands that meet the hypotheses of `Obligations.SpdmAndToolAnswer`, clause by clause. -/
theorem test_wit_SpdmAndToolAnswer :
    (∃ (s : State), s.dev.mgmt.vaneUp = true ∧ s.dev.par.run ≠ .recovery) ∧
    (∃ (s : State), s.dev.mgmt.vaneUp = true ∧ s.dev.par.run ≠ .recovery) ∧
    (∃ (s : State), s.dev.mgmt.vaneUp = true ∧ s.dev.par.run ≠ .recovery) ∧
    (∃ (s : State), s.dev.mgmt.vaneUp = true ∧ s.dev.par.run ≠ .recovery) ∧
    (∃ (s : State) (offset : Nat) (length : Nat), s.dev.mgmt.vaneUp = true ∧ s.dev.par.run ≠ .recovery) ∧
    (∃ (s : State) (nonce : BitVec 256), s.dev.mgmt.vaneUp = true ∧ s.dev.par.run ≠ .recovery) ∧
    (∃ (s : State) (i : Nat) (nonce : BitVec 256) (b : Bytes), s.dev.mgmt.vaneUp = true ∧ s.dev.par.run ≠ .recovery ∧
        s.dev.measureBlocks i = some b) ∧
    (∃ (s : State) (code : BitVec 8), s.dev.mgmt.vaneUp = true ∧ s.dev.par.run ≠ .recovery) ∧
    (∃ (s : State) (n : BitVec 12) (x : Namespace), s.dev.mgmt.vaneUp = true ∧ s.dev.par.run ≠ .recovery ∧ s.dev.nsOf n = some x) ∧
    (∃ (s : State) (ns : Nat), s.dev.mgmt.vaneUp = true ∧ s.dev.par.run ≠ .recovery ∧ s.dev.clk.source ≠ .ptpLocked) ∧
    (∃ (s : State), s.dev.mgmt.vaneUp = true ∧ s.dev.par.run ≠ .recovery ∧ s.dev.par.run = .running ∧ s.dev.pow.failing = none ∧
        s.dev.pow.pwrEn = true ∧ (s.dev.pow.rung = .haze ∨ s.dev.pow.rung = .fog)) ∧
    (∃ (s : State) (p : Port), s.dev.mgmt.vaneUp = true ∧ s.dev.par.run ≠ .recovery) ∧
    (∃ (s : State) (sid : BitVec 32), s.dev.mgmt.vaneUp = true ∧ s.dev.par.run ≠ .recovery) ∧
    (∃ (s : State), s.dev.mgmt.vaneUp = true ∧ s.dev.par.run ≠ .recovery) ∧
    (∃ (s : State), s.dev.mgmt.vaneUp = true ∧ s.dev.par.run ≠ .recovery) :=
  ⟨⟨st (d0), by decide +kernel⟩,
    ⟨st (d0), by decide +kernel⟩,
    ⟨st (d0), by decide +kernel⟩,
    ⟨st (d0), by decide +kernel⟩,
    ⟨st (d0), 0, 10, by decide +kernel⟩,
    ⟨st (d0), 4, by decide +kernel⟩,
    (by refine ⟨st (d0), 1, 4, (d0.measureBlocks 1).getD [], ?_, ?_, rfl⟩ <;> decide +kernel),
    ⟨st (d0), 9, by decide +kernel⟩,
    ⟨st (withNs d0), 5, n0, by decide +kernel⟩,
    ⟨st (d0), 7, by decide +kernel⟩,
    ⟨st (pow (fun p => { p with rung := .haze }) d0), by decide +kernel⟩,
    ⟨st (d0), 1, by decide +kernel⟩,
    ⟨st (d0), 1, by decide +kernel⟩,
    ⟨st (d0), by decide +kernel⟩,
    ⟨st (d0), by decide +kernel⟩⟩

/-! ## The frames, the step and the rules stated whole -/

/-- States that differ in a number they hold are different. -/
theorem ne_of {s t : State} (f : State → Nat) (h : f t ≠ f s) : t ≠ s := fun e => h (congrArg f e)

theorem test_wit_ManagementLeavesTheDriveAlone :
    (∃ i s t, isManagement i = true ∧ exec i s = .next t ∧ t ≠ s) ∧
    (∃ i s t, isFlush i = true ∧ exec i s = .next t ∧ t.dev.med.nextOp ≠ s.dev.med.nextOp) ∧
    (∃ (l : Link) (us pmd : Nat) (s t : State), exec (.linkUp l us pmd) s = .next t ∧ t ≠ s ∧ l ≠ 2) :=
  ⟨⟨.moduleInsert 0 60, st Dev.reset, _, rfl, rfl, by decide +kernel⟩,
    ⟨.baroFlushAge, st { withNs (owned d0) with ev := { d0.ev with ring := [⟨⟨Ev.modeChange, 3, 7, 0, 0, 0, 0⟩, false⟩] } }, _, rfl, rfl,
      by decide +kernel⟩,
    ⟨0, 500, 3, st (net (fun n => { n with links := Vector.replicate 3 { LinkState.reset with module := some 60 } }) d0), _, rfl,
      by decide +kernel, by decide⟩⟩
theorem test_wit_AdminOpsLeaveStoredDataAlone :
    (∃ i s t, isAdminQuery i = true ∧ exec i s = .next t) ∧ (∃ i s t, isWriterTurn i = true ∧ exec i s = .next t ∧ t ≠ s) ∧
    (∃ i s t, isPowerOp i = true ∧ exec i s = .next t) ∧
    (∃ i s t, (isTestDue i = true ∧ s.dev.pow.rung = .clear) ∧ exec i s = .next t ∧ t ≠ s) ∧
    (∃ i s t, isDiagOp i = true ∧ exec i s = .next t) ∧
    (∃ i s t, isUpdateStep i = true ∧ exec i s = .next t ∧ t ≠ s) :=
  ⟨⟨.identify 7, st (withCaps (owned d0) [adm Op.identify []]), _, rfl, rfl⟩,
    ⟨.put 7, st (withCaps (owned d0) [capOf Op.put []]), _, rfl, rfl, by decide +kernel⟩,
    ⟨.knobReleaseStep, st (pow (fun p => { p with nandShare := 1000 }) d0), _, rfl, rfl⟩,
    ⟨.capTestSchedule, st d0, _, ⟨rfl, rfl⟩, rfl, by decide +kernel⟩,
    ⟨.galeRead 7, st d0, _, rfl, rfl⟩,
    ⟨.updLeaseLapse, st (upd (fun u => { u with state := 1, staging := some ⟨pkg0, []⟩, lease := some ⟨⟨1, 7⟩, 0, 0⟩ }) d0), _, rfl,
      rfl, by decide +kernel⟩⟩
theorem test_wit_TransportLeavesStoredDataAlone : ∃ i s t, isTransport i = true ∧ exec i s = .next t ∧ t ≠ s :=
  ⟨.idleTimeout 1, st (inSess x0), _, rfl, rfl, by decide +kernel⟩
theorem test_wit_PairAndMediaStepsKeepToTheirOwn :
    (∃ i s t, isPairStep i = true ∧ exec i s = .next t ∧ t ≠ s) ∧
    (∃ s t, exec .leaseExpiry s = .next t ∧ t.dev.que ≠ s.dev.que) ∧
    (∃ (n : BitVec 12) (lo : BitVec 64) (s t : State), (s.dev.mirror? n).any (fun m => m.lead && m.st == .resync) = true ∧
      (∀ m, s.dev.mirror? n = some m → m.lead = false ∨ m.st = .joining ∨ m.st = .resync) ∧ exec (.resyncBucket n lo) s = .next t ∧
      t ≠ s) ∧
    (∃ i s t, isMediaStep i = true ∧ exec i s = .next t ∧ t ≠ s) ∧
    (∃ i s t, isBandWork i = true ∧ s.dev.pow.rung = .clear ∧ exec i s = .next t ∧ t ≠ s) ∧
    (∃ i s t, isTestDue i = true ∧ s.dev.pow.rung = .haze ∧ exec i s = .next t ∧ t ≠ s) :=
  ⟨⟨.heartbeatTimer, st (paired .linked [mns0] d0), _, rfl, rfl, ne_of (fun s => s.dev.mir.hbSeq) (by decide +kernel)⟩,
    ⟨st (que (fun q => { q with drift := [{ ver0 with done := false }] }) (mir (fun m => { m with leaseUntil := some 0 }) (paired .peerLost [mns0] (owned d0)))), _, rfl,
      fun h => absurd (congrArg (fun q : Queue => (q.drift.filter (·.mirrorWait)).length) h) (by decide +kernel)⟩,
    ⟨5, 0, st (idx (fun i => { i with buckets := [{ b0 with dirty := true }] }) (paired .linked [{ mns0 with st := .resync }] (owned d0))), _,
      by decide +kernel, (by intro m h; cases h; exact .inr (.inr rfl)), rfl, ne_of (fun s => s.dev.mir.txNext) (by decide +kernel)⟩,
    ⟨.epochHeadClose, st d0, _, rfl, rfl, by decide +kernel⟩,
    ⟨.patrolRead 0 0 200 0 { outcome := .ok 30 }, st (withCopy band0 (owned d0)), _, rfl, rfl, rfl,
      ne_of (fun s => (s.dev.bays.get 0).patrolRows.length) (by decide +kernel)⟩,
    ⟨.capTestSchedule, st (pow (fun p => { p with rung := .haze }) d0), _, rfl, rfl, rfl, by decide +kernel⟩⟩
theorem test_wit_DataPathLeavesPowerAndUpdatesAlone : ∃ i s t, isDataPath i = true ∧ exec i s = .next t ∧ t ≠ s :=
  ⟨.mpIdleTimeout 50, st (idx (fun i => { i with uploads := [{ up0 with id := 50, hash := 0 }] }) d0), _, rfl, rfl, by decide +kernel⟩
theorem test_wit_StepRunsTheFrontCommand :
    (∃ (c : Instr) (s : State) (rest : List Instr), s.pending = c :: rest) ∧ (∃ (c : Instr) (s t : State), exec c s = .next t) ∧
    (∃ s : State, s.pending = []) :=
  ⟨⟨.holdExpiry, ⟨[.holdExpiry, .wakePin], d0⟩, [.wakePin], rfl⟩, ⟨.holdExpiry, st d0, _, rfl⟩, ⟨st d0, rfl⟩⟩
theorem test_wit_EveryStepReportsTheMode : ∃ s t, step s = .next t ∧ t.dev.reports = true :=
  ⟨⟨[.holdExpiry], d0⟩, _, rfl, by decide +kernel⟩
theorem test_wit_TimeNeverMovesBackwards :
    (∃ (s : State) (ns : Nat), s.dev.mgmt.vaneUp = true ∧ s.dev.par.run ≠ .recovery ∧ s.dev.clk.source ≠ .ptpLocked ∧
      s.dev.clk.ns + 1000000000 < ns) ∧
    (∃ d : Dev, d.pnum P.mgmtTimeSlewPpm ≤ 500 ∧ d.clk.slewStep < 1000) :=
  ⟨⟨st d0, 10 ^ 12, by decide +kernel⟩, ⟨d0, by decide +kernel⟩⟩
theorem test_wit_ServiceUnitsAreCharged :
    (∃ h : Hdr, h.opcode = Op.put ∨ h.opcode = Op.casPut ∨ h.opcode = Op.patch ∨ h.opcode = Op.mpPart) ∧
    (∃ h : Hdr, h.opcode = Op.get) ∧
    (∃ h : Hdr, h.opcode ≠ Op.put ∧ h.opcode ≠ Op.casPut ∧ h.opcode ≠ Op.patch ∧ h.opcode ≠ Op.mpPart ∧ h.opcode ≠ Op.get) ∧
    (∃ c : Cap, c.hdr.opcode = Op.get ∧ c.seq ≠ 0 ∧ c.stage = .dispatched) :=
  ⟨⟨{ hdr0 with opcode := Op.put }, by decide +kernel⟩, ⟨{ hdr0 with opcode := Op.get }, rfl⟩,
    ⟨{ hdr0 with opcode := Op.flush }, by decide +kernel⟩,
    ⟨{ capOf Op.get [] with stage := .dispatched }, rfl, by decide, rfl⟩⟩
def trial2 : Vector ActiveRec 2 := Vector.replicate 2 { ActiveRec.reset with slot := 0, trial := 1, trialTwin := 0xFE, deadline := 100 }
theorem test_wit_UpdateIsCancelledByState :
    (∃ (s : State) (seq : Nat) (c : Cap), ready s.dev seq Op.updCancel c ∧ s.dev.ev.ring.length < 65000 ∧
      s.dev.upd.holds c.source = true ∧ s.dev.upd.state = 3 ∧ s.dev.level Ev.updCancelled.src ≤ Ev.updCancelled.sev) ∧
    (∃ (s : State) (seq : Nat) (c : Cap), ready s.dev seq Op.updCancel c ∧ s.dev.ev.ring.length < 65000 ∧
      s.dev.upd.holds c.source = true ∧ s.dev.upd.state = 4 ∧ s.dev.upd.inTrial = true ∧ s.dev.driftOut = false ∧
      s.dev.pow.failing = none) ∧
    (∃ (s : State) (seq : Nat) (c : Cap), ready s.dev seq Op.updCancel c ∧ s.dev.ev.ring.length < 65000 ∧ s.dev.upd.state = 0) :=
  ⟨⟨st (upd (fun u => { u with state := 3, staging := some ⟨pkg0, []⟩, lease := some ⟨(capOf 0 []).source, 0, 0⟩ })
        (withCaps (owned d0) [adm Op.updCancel []])), 7, adm Op.updCancel [], by decide +kernel⟩,
    ⟨st (upd (fun u => { u with state := 4, lease := some ⟨(capOf 0 []).source, 0, 0⟩, recs := trial2 })
        (withVer (withCaps (owned d0) [adm Op.updCancel []]))), 7, adm Op.updCancel [], by decide +kernel⟩,
    ⟨st (withCaps (owned d0) [adm Op.updCancel []]), 7, adm Op.updCancel [], by decide +kernel⟩⟩
theorem test_wit_FirmwareSupervisorStopsTheDrive : ∃ s : State, s.dev.par.run = .running ∧ s.dev.pow.failing = none ∧
    s.dev.par.pendingReset = none ∧ s.dev.driftOut = false ∧ s.dev.ev.ring.length < 65000 ∧
    s.dev.level 2567 ≤ Ev.fwWatchdog.sev :=
  ⟨st (withVer d0), by decide +kernel⟩

/-! ## Well-formedness: an ill-formed command for each check, and one that passes -/

theorem test_wf_init : (Instr.init { initK with payload := zeroBytes 9217 }).wf = false := by decide +kernel
theorem test_wf_data : (Instr.data { pk with payload := zeroBytes 9217 }).wf = false := by decide +kernel
theorem test_wf_data_fits : (Instr.data { pk with payload := zeroBytes 9216 }).wf = true := by decide +kernel
theorem test_wf_close : (Instr.close { pk with payload := zeroBytes 9217 }).wf = false := by decide +kernel
theorem test_wf_ack : (Instr.ack { pk with payload := [0] }).wf = false := by decide
theorem test_wf_keepalive : (Instr.keepalive { pk with payload := [0] }).wf = false := by decide
theorem test_wf_pfc : (Instr.pfcPauseRenew 0 true 1001).wf = false := by decide
theorem test_wf_gale : (Instr.galeResult .session ⟨0, none⟩ [⟨524288, 1⟩]).wf = false := by decide +kernel
theorem test_wf_read : (Instr.nandReadDone 0 { outcome := .ok 101 }).wf = false := by decide
theorem test_wf_read_retry : (Instr.nandReadDone 0 { outcome := .retried 5 0 10 }).wf = false := by decide
theorem test_wf_read_header : (Instr.nandReadDone 0 { outcome := .badHead 0 0 2 }).wf = false := by decide
theorem test_wf_read_order : (Instr.nandReadDone 0 { outcome := .ok 1, heads := [3] }).wf = false := by decide
theorem test_wf_read_others : (Instr.nandReadDone 0 { outcome := .ok 1, others := [(2, .ok 101)] }).wf = false := by decide
theorem test_wf_row : (Instr.rowCloseTimeout 0 8 0).wf = false := by decide
theorem test_wf_patrol : (Instr.patrolRead 0 0 1060 0 { outcome := .rebuilt }).wf = false := by decide
theorem test_wf_patrol_row : (Instr.patrolRead 0 0 0 4096 { outcome := .rebuilt }).wf = false := by decide
theorem test_wf_presence : (Instr.cartPresenceAssert 0 { cart := cart0, table := [], base := [], wear := [(1, 2, 0), (1, 2, 5)], retired := [], journalSeq := 0 }).wf = false := by decide
theorem test_wf_ce : (Instr.memCe ⟨3, false, 0, 0, .policy⟩).wf = false := by decide
theorem test_wf_ue : (Instr.memUe ⟨0, false, 0, 0, .policy⟩).wf = false := by decide
theorem test_wf_narrow : (Instr.narrowWrite 0 0 0).wf = false := by decide
theorem test_wf_sensor : (Instr.sensorSample 74 .noAnswer).wf = false := by decide
theorem test_wf_thermal : (Instr.thermalSample [(1, 20), (100, 20)]).wf = false := by decide
theorem test_wf_level : (Instr.thermalLevelExit 11).wf = false := by decide
theorem test_wf_trip : (Instr.thermalTrip 6 1 100).wf = false := by decide
theorem test_wf_tftp : (Instr.tftpBlock 0 [] true true).wf = false := by decide
theorem test_wf_mgmt : (Instr.mgmtLinkChange true 10).wf = false := by decide
theorem test_wf_measure : (Instr.getMeasurements 256 0).wf = false := by decide
theorem test_wf_die : (Instr.dieStopsAnswering 0 256 false).wf = false := by decide
theorem test_wf_reply : (Instr.partnerReadReply cw0 0 0 (2 ^ 64) []).wf = false := by decide

/-! ## Single steps and values worked out by hand from the spec -/

/-- The device a step leaves. -/
def after (i : Instr) (d : Dev) : Dev :=
  match exec i (st d) with
  | .next t => t.dev
  | .fault _ => d
  | .refused _ => d

/-- R64: the check value of CRC-32C over the digits 1 to 9. -/
theorem test_crc32c : crc32c [0x31, 0x32, 0x33, 0x34, 0x35, 0x36, 0x37, 0x38, 0x39] = 0xE3069283 := by decide +kernel
/-- R459: a module of 12.0 W is taken and one of 12.1 W refused. -/
theorem test_module_power : ((after (.moduleInsert 1 120) Dev.reset).net.links.get 1).refused = false ∧
    ((after (.moduleInsert 1 121) Dev.reset).net.links.get 1).refused = true := by decide +kernel
/-- R55: a pause of 65,535 quanta of 512 bit times lasts 167.8 µs at 200 Gb/s; zero quanta end one; a priority not named is left. -/
theorem test_pfc :
    let d := after (.pfcFrame 1 3 ⟨#[0xFFFF, 0, 9, 9, 9, 9, 9, 9], rfl⟩) d0
    d.net.pfcPaused.get 1 = ⟨#[168, 0, 0, 0, 0, 0, 0, 0], rfl⟩ := by decide +kernel
/-- R121: 1 + ⌈4,097 / 4,096⌉ units for a PUT of 4,097 bytes, 1 for an EXISTS. -/
theorem test_units : capUnits { hdr0 with opcode := Op.put, valueLen := 4097 } = 3 ∧ capUnits { hdr0 with opcode := Op.exists_ } = 1 := by
  decide +kernel
/-- R63: a twin is the bitwise inverse. -/
theorem test_twin : twinOk (0x0102 : BitVec 16) 0xFEFD = true ∧ twinOk (0x0102 : BitVec 16) 0x0102 = false := by decide
/-- R203: bit 47, the bay from bit 45, block from 24, page from 12: a location gives back what it was made of. -/
theorem test_location : locOf 1 0 0 0 1 1 0 = 0xA00001001000 ∧ locBlock (locOf 3 5 1 2 900 77 1) = 900 ∧
    locPage (locOf 3 5 1 2 900 77 1) = 77 := by decide +kernel
/-- R46: the idle timeout ends the session. -/
theorem test_idle : (after (.idleTimeout 1) (inSess x0)).net.sessions = [] := by decide +kernel
/-- R316: the power enable pin starts a drive that is off. -/
theorem test_power_on : (after (.powerOn 5) Dev.reset).pow.pwrEn = true := by decide +kernel
/-- R153: closing the head begins the next epoch and its tail. -/
theorem test_epoch : (after .epochHeadClose d0).idx.head = 2 ∧ ((after .epochHeadClose d0).idx.tail.map (·.epoch)) = some 1 := by
  decide +kernel
/-- R385, R426: a drive as shipped is BLANK, its mode Unowned. -/
theorem test_reset : State.reset.dev.sec.lcState = .blank ∧ State.reset.dev.modeNow = 2 := by decide +kernel

end Sys2Proof.Tests
end

section
/-! The parameter tables: a parameter's row is found by its ID (R447). -/

namespace Sys2Proof.Machine

/-- The order that `paramTable` claims for itself: no ID stands twice, so a row is found by its ID. -/
theorem paramTable_pairwise_id_lt : paramTable.Pairwise (fun r r' => r.id < r'.id) := by decide +kernel

/-- A row that stands in a table ascending in ID is the one found there under its ID. -/
theorem find?_id_eq_of_mem {rs : List PRow} {r : PRow} (hs : rs.Pairwise (fun r r' => r.id < r'.id)) (hr : r ∈ rs) :
    rs.find? (·.id == r.id) = some r := by
  induction hs with
  | nil => simp at hr
  | @cons r' rs hlt _ ih =>
    obtain rfl | hmem := List.mem_cons.mp hr
    · simp
    · have hne : r'.id ≠ r.id := (hlt r hmem).ne
      simpa [List.find?_cons, hne] using ih hmem

/-- What `paramRow` answers, said once: the row of the table that has the ID. -/
theorem paramRow_eq_some_iff {id : Nat} {r : PRow} : paramRow id = some r ↔ r ∈ paramTable ∧ r.id = id := by
  constructor
  · intro h
    exact ⟨List.mem_of_find?_eq_some h, by simpa using List.find?_some h⟩
  · rintro ⟨hr, rfl⟩
    exact find?_id_eq_of_mem paramTable_pairwise_id_lt hr

/-- The rows of chapters 13 and 16 stand in the table of every parameter. -/
theorem paramRows11_0_subset_paramTable : paramRows11_0 ⊆ paramTable := by
  intro r hr
  simp [paramTable, hr]

/-- Settles O56: the four rows of R447 stand in the table, which has one row for each ID. -/
theorem modeParametersAreTheirTable : Obligations.ModeParametersAreTheirTable := by
  have row (id : Nat) (r : PRow) (hr : r ∈ paramRows11_0) (hid : r.id = id) : paramRow id = some r :=
    paramRow_eq_some_iff.mpr ⟨paramRows11_0_subset_paramTable hr, hid⟩
  refine ⟨row _ _ ?shutdownMax rfl, row _ _ ?fwWatchdog rfl, row _ _ ?selftestRun rfl, row _ _ ?selftestScope rfl⟩
  all_goals simp [paramRows11_0]

end Sys2Proof.Machine
end

section
/-! What a step is: every command is an effect on the drive followed by the report of the mode, so the queue stands and the mode is the
one that the state calls for (R431, log entries 5 and 6). -/

namespace Sys2Proof.Machine

/-! ### The report of the mode -/

/-- The mode that a state calls for depends on the core of the drive alone. -/
theorem Dev.modeNow_coreOf (d : Dev) : (coreOf d).modeNow = d.modeNow := rfl

/-- So does whether there is a mode to report. -/
theorem Dev.reports_coreOf (d : Dev) : (coreOf d).reports = d.reports := rfl

theorem Dev.reportMode_reports (d : Dev) : d.reportMode.reports = d.reports := by
  rw [← Dev.reports_coreOf, Dev.reportMode_core]
  rfl

theorem Dev.reportMode_modeNow (d : Dev) : d.reportMode.modeNow = d.modeNow := by
  rw [← Dev.modeNow_coreOf, Dev.reportMode_core]
  rfl

/-- Of the parameters a report changes the mode alone. -/
theorem Dev.reportMode_par (d : Dev) :
    d.reportMode.par = { d.par with mode := if d.reports then d.modeNow else d.par.mode } :=
  core_par (Dev.reportMode_core d)

/-- After a report the mode is the one that the state calls for. -/
theorem settled_reportMode (d : Dev) : settled d.reportMode := by
  intro h
  rw [Dev.reportMode_reports] at h
  rw [Dev.reportMode_modeNow, Dev.reportMode_par]
  simp [h]

/-! ### Commands and ticks -/

/-- A command whose effect is known leaves its report. -/
theorem State.run_of_eq {s : State} {f : Dev → Dev} {e : Dev} (h : f s.dev = e) : s.run f = .next { s with dev := e.reportMode } := by
  rw [← h]
  rfl

/-- Every command leaves the queue and reports the mode of what it makes of the drive. -/
theorem exec_reports (i : Instr) (s : State) : ∃ d : Dev, exec i s = .next { s with dev := d.reportMode } := by
  cases i <;> exact ⟨_, rfl⟩

theorem step_cons {s : State} {c : Instr} {rest : List Instr} (h : s.pending = c :: rest) :
    step s = exec c { s with pending := rest } := by
  unfold step
  rw [h]

theorem step_nil {s : State} (h : s.pending = []) : step s = s.run Dev.tick := by
  unfold step
  rw [h]

/-- Every step reports the mode of what it makes of the drive, and leaves some queue. -/
theorem step_reports (s : State) : ∃ (q : List Instr) (d : Dev), step s = .next ⟨q, d.reportMode⟩ := by
  cases hq : s.pending with
  | nil => exact ⟨s.pending, s.dev.tick, step_nil hq⟩
  | cons c rest =>
    obtain ⟨d, hd⟩ := exec_reports c { s with pending := rest }
    exact ⟨rest, d, (step_cons hq).trans hd⟩

/-- Settles O54: a step ends in the report of the mode. -/
theorem everyStepReportsTheMode : Obligations.EveryStepReportsTheMode := by
  intro s t h
  obtain ⟨q, d, hd⟩ := step_reports s
  cases hd.symm.trans h
  exact settled_reportMode d

/-- Settles O60: a command ends in the report of the mode, whatever its operands. -/
theorem everyCommandCompletes : Obligations.EveryCommandCompletes := by
  intro i s
  obtain ⟨d, hd⟩ := exec_reports i s
  exact ⟨_, hd, rfl, settled_reportMode d⟩

/-- Settles O52. -/
theorem stepRunsTheFrontCommand : Obligations.StepRunsTheFrontCommand := by
  refine ⟨fun c s rest h => step_cons h, fun c s t h => ?_, fun s h => step_nil h⟩
  obtain ⟨d, hd⟩ := exec_reports c s
  cases hd.symm.trans h
  rfl

end Sys2Proof.Machine
end

section
/-! What sending and recording leave of a drive: its core, and of its network everything but the streams of the sessions, the packets that
wait for a pause and the sizes of the pools; what has left the drive stays in the record of its outputs, what waits stays. -/

namespace Sys2Proof.Machine

/-- A session without its streams: what sending on it, or queueing for it, can change. -/
def Session.steady (s : Session) : Session :=
  { s with dataSinceAck := 0, ackDue := false, eceOwed := false, txNext := 0, unacked := [], replyPos := 0, replyQ := [],
           stalledSince := none, noticeQ := [] }

/-- The network without the streams of its sessions, the packets held by a pause and the sizes of the pools. -/
def Net.steady (n : Net) : Net :=
  { n with sessions := n.sessions.map Session.steady, held := [], pools := Net.reset.pools }

/-- Management without its queue of sideband events. -/
def Mgmt.steady (m : Mgmt) : Mgmt := { m with pldmQueue := [] }

/-- Of the Barograph what recording an event leaves: the rings on the medium, the levels of the sources, the start of the histograms. -/
def Events.steady (v : Events) : Events := { Events.reset with pring := v.pring, levels := v.levels, histSince := v.histSince }

/-- Between two states of the drive only packets, notices, replies and records have gone out. -/
structure Sent (d e : Dev) : Prop where
  core : coreOf e = coreOf d
  net : e.net.steady = d.net.steady
  mgmt : e.mgmt.steady = d.mgmt.steady
  ev : e.ev.steady = d.ev.steady
  out : d.out <:+ e.out
  held : d.net.held <+: e.net.held

theorem Sent.refl (d : Dev) : Sent d d := ⟨rfl, rfl, rfl, rfl, List.suffix_refl _, List.prefix_refl _⟩

theorem Sent.trans {d e f : Dev} (h : Sent d e) (g : Sent e f) : Sent d f :=
  ⟨g.core.trans h.core, g.net.trans h.net, g.mgmt.trans h.mgmt, g.ev.trans h.ev, h.out.trans g.out, h.held.trans g.held⟩

theorem Sent.foldl {α : Type} {f : Dev → α → Dev} (h : ∀ d a, Sent d (f d a)) (l : List α) (d : Dev) : Sent d (l.foldl f d) := by
  induction l generalizing d with
  | nil => exact .refl d
  | cons a l ih => exact (h d a).trans (ih _)

/-- A change of one session that leaves what is steady of it leaves what is steady of the network. -/
theorem Dev.modSession_steady (d : Dev) (sid : BitVec 32) {f : Session → Session} (h : ∀ s, (f s).steady = s.steady) :
    (d.modSession sid f).net.steady = d.net.steady := by
  have hs : (d.net.sessions.map (fun s => if s.sid == sid then f s else s)).map Session.steady = d.net.sessions.map Session.steady := by
    rw [List.map_map]
    refine List.map_congr_left (fun s _ => ?_)
    simp only [Function.comp_apply]
    split
    · exact h s
    · rfl
  unfold Net.steady Dev.modSession
  simp only [hs]

theorem Dev.modSession_sent (d : Dev) (sid : BitVec 32) {f : Session → Session} (h : ∀ s, (f s).steady = s.steady) :
    Sent d (d.modSession sid f) :=
  ⟨Dev.modSession_core .., Dev.modSession_steady d sid h, rfl, rfl, List.suffix_refl _, List.prefix_refl _⟩

theorem Dev.emitOut_sent (d : Dev) (o : Out) : Sent d (d.emitOut o) := ⟨rfl, rfl, rfl, rfl, List.suffix_cons o d.out, List.prefix_refl _⟩

theorem Dev.emitOuts_sent (d : Dev) (l : List Out) : Sent d (d.emitOuts l) := Sent.foldl Dev.emitOut_sent l d

theorem Dev.bump_sent (d : Dev) (c : Ctr) (n : Nat) : Sent d (d.bump c n) := ⟨rfl, rfl, rfl, rfl, List.suffix_refl _, List.prefix_refl _⟩

theorem Dev.window_sent (d : Dev) (k n : Nat) : Sent d (d.window k n).2 := by
  unfold Dev.window
  dsimp only
  repeat' split
  all_goals exact ⟨rfl, rfl, rfl, rfl, List.suffix_refl _, List.prefix_refl _⟩

theorem Dev.holdOff_sent (d : Dev) (k : Nat) : Sent d (d.holdOff k).2.2 := ⟨Dev.holdOff_core d k, rfl, rfl, rfl, List.suffix_refl _, List.prefix_refl _⟩

theorem Dev.wire_sent (d : Dev) (k : OutPacket) : Sent d (d.wire k) := by
  unfold Dev.wire
  split
  · exact ⟨rfl, rfl, rfl, rfl, List.suffix_refl _, List.prefix_append ..⟩
  · split
    · exact d.emitOut_sent _
    · exact .refl d

/-! ### Packets and notices -/

theorem Dev.sendPacket_sent (d : Dev) (sid : BitVec 32) (t : PktType) (cls off : Nat) (a b : Bool) (pl : Bytes) (n : Nat) :
    Sent d (d.sendPacket sid t cls off a b pl n) := by
  unfold Dev.sendPacket
  split
  · exact .refl d
  · split
    · refine (((d.modSession_sent sid ?_).trans (Dev.bump_sent ..)).trans (Dev.bump_sent ..)).trans (Dev.wire_sent ..)
      exact fun _ => rfl
    · exact .refl d

theorem Dev.sendAck_sent (d : Dev) (sid : BitVec 32) : Sent d (d.sendAck sid) := d.sendPacket_sent ..

theorem Dev.pumpNotices_sent (d : Dev) (sid : BitVec 32) (n : Nat) : Sent d (d.pumpNotices sid n) := by
  induction n generalizing d with
  | zero => exact .refl d
  | succ n ih =>
    unfold Dev.pumpNotices
    split
    · exact .refl d
    · split
      · exact .refl d
      · split
        · refine ((d.modSession_sent sid ?_).trans (Dev.sendPacket_sent ..)).trans (ih _)
          exact fun _ => rfl
        · exact .refl d

theorem Dev.notify_sent (d : Dev) (sid : BitVec 32) (k : NoticeKind) (b : Bytes) : Sent d (d.notify sid k b) := by
  unfold Dev.notify
  split
  · exact .refl d
  · split
    · refine ((d.emitOut_sent _).trans (Dev.modSession_sent _ sid ?_)).trans (Dev.pumpNotices_sent ..)
      exact fun _ => rfl
    · exact .refl d

theorem Dev.notifyAll_sent (d : Dev) (k : NoticeKind) (f : Session → Bytes) : Sent d (d.notifyAll k f) :=
  Sent.foldl (f := fun (d : Dev) (s : Session) => d.notify s.sid k (f s)) (fun d s => d.notify_sent s.sid k (f s)) _ d

theorem Dev.pumpOne_sent {d e : Dev} {s : Session} (h : d.pumpOne s = some e) : Sent d e := by
  unfold Dev.pumpOne at h
  split at h
  · cases h
  · dsimp only at h
    split at h
    · cases h
      refine (Sent.trans ?stall (Dev.modSession_sent _ s.sid ?segment)).trans (Dev.sendPacket_sent ..)
      case stall =>
        split
        · exact d.bump_sent ..
        · exact .refl d
      case segment => exact fun _ => rfl
    · cases h

theorem Dev.pumpReplies_sent (d : Dev) (sid : BitVec 32) (n : Nat) : Sent d (d.pumpReplies sid n) := by
  induction n generalizing d with
  | zero => exact .refl d
  | succ n ih =>
    unfold Dev.pumpReplies
    split
    · exact .refl d
    · split
      · next hp => exact (Dev.pumpOne_sent hp).trans (ih _)
      · exact .refl d

theorem Dev.pump_sent (d : Dev) (sid : BitVec 32) : Sent d (d.pump sid) := by
  unfold Dev.pump
  split
  · exact .refl d
  · refine ((d.pumpReplies_sent ..).trans (Dev.pumpNotices_sent ..)).trans (Dev.modSession_sent _ sid (fun s => ?_))
    split
    · rfl
    · split <;> rfl

/-! ### Events -/

theorem Dev.noticeEvent_sent (d : Dev) (r : Rec) (s : Session) : Sent d (d.noticeEvent r s) := by
  unfold Dev.noticeEvent
  split
  · exact .refl d
  · rename_i x _
    split
    · have hw := d.window_sent (rateKey 5 x.sid.toNat) (d.pnum P.mgmtNoticeRateMax)
      split <;> rename_i heq <;> rw [heq] at hw
      · exact hw.trans (Dev.bump_sent ..)
      · split
        · exact hw.trans (Dev.notify_sent ..)
        · split
          · exact hw.trans (Dev.modSession_sent _ _ (fun _ => rfl))
          · exact hw.trans (Dev.bump_sent ..)
    · exact .refl d

theorem Dev.queuePldm_sent (d : Dev) (e : PldmEvent) : Sent d (d.queuePldm e) := by
  unfold Dev.queuePldm
  split
  · exact .refl d
  · dsimp only
    split
    · exact ⟨rfl, rfl, rfl, rfl, List.suffix_cons _ _, List.prefix_refl _⟩
    · exact ⟨rfl, rfl, rfl, rfl, List.suffix_refl _, List.prefix_refl _⟩

theorem Dev.sendSse_sent (d : Dev) (r : Rec) : Sent d (d.sendSse r) := by
  refine Sent.foldl (fun d c => ?_) _ d
  split
  · split
    · exact d.emitOut_sent _
    · exact .refl d
  · exact .refl d

theorem Dev.noticeEvents_sent (d : Dev) (r : Rec) (l : List Session) : Sent d (l.foldl (fun (d : Dev) s => d.noticeEvent r s) d) :=
  Sent.foldl (f := fun (d : Dev) (s : Session) => d.noticeEvent r s) (fun d s => d.noticeEvent_sent r s) l d

/-- What a record entered in the ring leaves of the Barograph. -/
theorem Events.push_steady (v : Events) (r : Rec) : (v.push r).steady = v.steady := by
  unfold Events.push
  dsimp only
  repeat' split
  all_goals rfl

theorem Dev.raise_sent (d : Dev) (e : Ev) (a b c x : Nat) : Sent d (d.raise e a b c x) := by
  have entered (v : Events) (hv : v.steady = d.ev.steady) (r : Rec) (l : List Session) :
      Sent d ((l.foldl (fun (d : Dev) s => d.noticeEvent r s) { d with ev := v }).sendSse r) := by
    refine Sent.trans ?_ ((Dev.noticeEvents_sent ..).trans (Dev.sendSse_sent ..))
    exact ⟨rfl, rfl, rfl, hv, List.suffix_refl _, List.prefix_refl _⟩
  unfold Dev.raise
  split
  · exact ⟨rfl, rfl, rfl, rfl, List.suffix_refl _, List.prefix_refl _⟩
  · dsimp only
    split
    · refine (entered _ ?_ _ _).trans (Dev.queuePldm_sent ..)
      exact Events.push_steady _ _
    · refine entered _ ?_ _ _
      exact Events.push_steady _ _

theorem Dev.raiseHeld_sent (d : Dev) (e : Ev) (k : Nat) (f : Nat → Nat × Nat × Nat × Nat) : Sent d (d.raiseHeld e k f) := by
  have hh := d.holdOff_sent (rateKey e.code k)
  unfold Dev.raiseHeld
  split <;> rename_i heq <;> rw [heq] at hh
  · exact hh.trans (Dev.raise_sent ..)
  · exact hh

theorem Dev.recomputePools_sent (d : Dev) : Sent d d.recomputePools := by
  unfold Dev.recomputePools
  refine Sent.trans ?_ (Dev.notifyAll_sent ..)
  exact ⟨rfl, rfl, rfl, rfl, List.suffix_refl _, List.prefix_refl _⟩

/-! ### The report of the mode -/

theorem Dev.reportMode_of_settled {d : Dev} (h : settled d) : d.reportMode = d := by
  unfold Dev.reportMode
  split
  · next hr =>
    have hm : d.modeNow = d.par.mode := (h hr).symm
    unfold Dev.refreshMode
    simp [hm]
  · rfl

theorem settled_of_core {d e : Dev} (h : coreOf e = coreOf d) : settled e ↔ settled d := by
  have hr : e.reports = d.reports := by rw [← e.reports_coreOf, h, d.reports_coreOf]
  have hn : e.modeNow = d.modeNow := by rw [← e.modeNow_coreOf, h, d.modeNow_coreOf]
  rw [settled, settled, hr, hn, core_par h]

/-- Reporting the mode sets the mode and sends what tells of it. -/
theorem Dev.reportMode_sent (d : Dev) : Sent { d with par := d.reportMode.par } d.reportMode := by
  unfold Dev.reportMode
  split
  · unfold Dev.refreshMode
    dsimp only
    split
    · exact .refl d
    · rw [Dev.raise_par, Dev.notifyAll_par]
      exact (Dev.notifyAll_sent ..).trans (Dev.raise_sent ..)
  · exact .refl d

theorem Dev.reportMode_out (d : Dev) : d.out <:+ d.reportMode.out := d.reportMode_sent.out

theorem Dev.reportMode_steady (d : Dev) : d.reportMode.net.steady = d.net.steady := d.reportMode_sent.net

/-! ### What has gone out -/

theorem emits_emitOut (d : Dev) (o : Out) : emits d (d.emitOut o) o := ⟨[o], rfl, List.mem_singleton_self o⟩

/-- What went out by a state stays gone out later. -/
theorem emits.later {d e f : Dev} {o : Out} (h : emits d e o) (hs : e.out <:+ f.out) : emits d f o := by
  obtain ⟨new, hnew, ho⟩ := h
  obtain ⟨l, hl⟩ := hs
  exact ⟨l ++ new, by rw [← hl, hnew, List.append_assoc], List.mem_append_right l ho⟩

/-- What went out after a state went out after every earlier one. -/
theorem emits.earlier {d e f : Dev} {o : Out} (h : emits e f o) (hs : d.out <:+ e.out) : emits d f o := by
  obtain ⟨new, hnew, ho⟩ := h
  obtain ⟨l, hl⟩ := hs
  exact ⟨new ++ l, by rw [hnew, ← hl, List.append_assoc], List.mem_append_left l ho⟩

theorem emits.reported {d e : Dev} {o : Out} (h : emits d e o) : emits d e.reportMode o := h.later e.reportMode_out

/-! ### The sessions that sending leaves -/

theorem Session.steady_sid {x y : Session} (h : y.steady = x.steady) : y.sid = x.sid := by
  have hs := congrArg (fun s : Session => s.sid) h
  exact hs

theorem Net.steady_sessions {m n : Net} (h : m.steady = n.steady) :
    m.sessions.map Session.steady = n.sessions.map Session.steady := congrArg Net.sessions h

/-- Every session stands after sending as it was, but for its streams. -/
theorem Net.mem_sessions_of_steady {m n : Net} (h : m.steady = n.steady) {x : Session} (hx : x ∈ n.sessions) :
    ∃ y ∈ m.sessions, y.steady = x.steady := by
  have hm : x.steady ∈ m.sessions.map Session.steady := by
    rw [Net.steady_sessions h]
    exact List.mem_map_of_mem hx
  obtain ⟨y, hy, hyx⟩ := List.mem_map.mp hm
  exact ⟨y, hy, hyx⟩

theorem Net.sids_of_steady {m n : Net} (h : m.steady = n.steady) : m.sessions.map (·.sid) = n.sessions.map (·.sid) := by
  have hs := congrArg (List.map (·.sid)) (Net.steady_sessions h)
  rw [List.map_map, List.map_map] at hs
  exact hs

theorem Net.sessions_eq_nil_of_steady {m n : Net} (h : m.steady = n.steady) (hn : n.sessions = []) : m.sessions = [] := by
  have hs := Net.steady_sessions h
  rw [hn] at hs
  simpa using hs

/-- A session is there by its ID alone. -/
theorem Dev.session?_isSome_iff (d : Dev) (sid : BitVec 32) :
    (d.session? sid).isSome = true ↔ sid ∈ d.net.sessions.map (·.sid) := by
  simp [Dev.session?]

theorem Dev.session?_isSome_of_steady {d e : Dev} (h : e.net.steady = d.net.steady) (sid : BitVec 32) :
    (e.session? sid).isSome = (d.session? sid).isSome := by
  rw [Bool.eq_iff_iff, Dev.session?_isSome_iff, Dev.session?_isSome_iff, Net.sids_of_steady h]

/-! ### Answers -/

theorem Dev.enterHist_sent (d : Dev) (c : Cap) : Sent d (d.enterHist c) := by
  unfold Dev.enterHist
  split
  · exact .refl d
  · exact (d.bump_sent ..).trans (Dev.bump_sent ..)

theorem Dev.placeBytes_sent (d : Dev) (c : Cap) (r : Reply) : Sent d (d.placeBytes c r) := by
  unfold Dev.placeBytes
  split
  · exact .refl d
  · refine ((d.emitOut_sent _).trans (Dev.modSession_sent _ c.sid ?_)).trans (Dev.pump_sent ..)
    exact fun _ => rfl

/-- A reply leaves where its session stands. -/
theorem Dev.placeBytes_emits (d : Dev) (c : Cap) (r : Reply) (h : (d.session? c.sid).isSome = true) :
    emits d (d.placeBytes c r) (.reply c.sid c.tag r.status r.version (!r.more) r.data) := by
  obtain ⟨s, hs⟩ := Option.isSome_iff_exists.mp h
  unfold Dev.placeBytes
  rw [hs]
  dsimp only
  refine (emits_emitOut d _).later (List.IsSuffix.trans ?_ (Dev.pump_sent _ c.sid).out)
  exact List.suffix_refl _

/-- The capsule of a finished command is out, and beside it only its reply has gone. -/
theorem Dev.finish_sent (d : Dev) (c : Cap) (r : Reply) (h : c.partner = none) : Sent (d.dropCap c) (d.finish c r) := by
  have hp := (d.placeBytes_sent c r).trans (Dev.enterHist_sent _ c)
  have hf : d.finish c r = ((d.placeBytes c r).enterHist c).dropCap c := by
    unfold Dev.finish
    rw [h]
  exact ⟨Dev.finish_core d c r h, hf ▸ hp.net, hf ▸ hp.mgmt, hf ▸ hp.ev, hf ▸ hp.out, hf ▸ hp.held⟩

theorem Dev.finish_caps (d : Dev) (c : Cap) (r : Reply) (h : c.partner = none) :
    (d.finish c r).que = (d.dropCap c).que := core_que (Dev.finish_core d c r h)

theorem Dev.not_mem_dropCap {d : Dev} {c x : Cap} (h : x ∈ (d.dropCap c).que.caps) : ¬ (x.sid = c.sid ∧ x.start = c.start) := by
  have hx := (List.mem_filter.mp h).2
  rintro ⟨hs, ht⟩
  simp [hs, ht] at hx

theorem Dev.finish_answered (d : Dev) (c : Cap) (r : Reply) (hp : c.partner = none) (hs : (d.session? c.sid).isSome = true)
    (hm : r.more = false) : Machine.answered d (d.finish c r) c r.status r.version r.data := by
  have he : emits d (d.finish c r) (.reply c.sid c.tag r.status r.version true r.data) := by
    unfold Dev.finish
    rw [hp]
    have hr := (d.placeBytes_emits c r hs).later (Dev.enterHist_sent _ c).out
    rwa [hm] at hr
  refine ⟨he, fun x hx => ?_⟩
  rw [Dev.finish_caps d c r hp] at hx
  exact Dev.not_mem_dropCap hx

theorem Dev.endCharge_out (d : Dev) (sid : BitVec 32) (n : Nat) : (d.endCharge sid n).out = d.out := by
  unfold Dev.endCharge
  split <;> rfl

theorem Dev.finishFree_out (d : Dev) (c : Cap) (r : Reply) : (d.finishFree c r).out = (d.finish c r).out :=
  Dev.endCharge_out ..

theorem Dev.finishFree_que (d : Dev) (c : Cap) (r : Reply) : (d.finishFree c r).que = (d.finish c r).que :=
  Dev.endCharge_que ..

/-- What answers a capsule answers it still when more goes out and no capsule comes. -/
theorem answered.later {d e f : Dev} {c : Cap} {st : BitVec 16} {v : Nat} {b : Bytes} (h : answered d e c st v b)
    (hs : e.out <:+ f.out) (hc : f.que.caps ⊆ e.que.caps) : answered d f c st v b :=
  ⟨h.1.later hs, fun x hx => h.2 x (hc hx)⟩

theorem answered.earlier {d e f : Dev} {c : Cap} {st : BitVec 16} {v : Nat} {b : Bytes} (h : answered e f c st v b)
    (hs : d.out <:+ e.out) : answered d f c st v b :=
  ⟨h.1.earlier hs, h.2⟩

theorem answered.reported {d e : Dev} {c : Cap} {st : BitVec 16} {v : Nat} {b : Bytes} (h : answered d e c st v b) :
    answered d e.reportMode c st v b := h.later e.reportMode_out (by simp)

theorem Dev.finishFree_answered (d : Dev) (c : Cap) (r : Reply) (hp : c.partner = none) (hs : (d.session? c.sid).isSome = true)
    (hm : r.more = false) : Machine.answered d (d.finishFree c r) c r.status r.version r.data :=
  (d.finish_answered c r hp hs hm).later (by rw [Dev.finishFree_out]) (by rw [Dev.finishFree_que]; exact List.Subset.refl _)

end Sys2Proof.Machine
end

section
/-! The management port: a request of a served connection is answered by its resource (R345, R433). -/

namespace Sys2Proof.Machine

/-- A request runs on a connection that is served and that may make it. -/
theorem Dev.request_served {d : Dev} {c : Nat} {k : HttpConn} (hc : d.mgmt.conns.find? (·.id == c) = some k)
    (hu : d.httpsUp = true) {pub : Bool} (hp : (k.authenticated || pub) = true) (f : HttpConn → Dev → Dev) :
    d.request c pub f = f k d := by
  unfold Dev.request
  simp [hc, hu, hp]

/-- An answer to a request is on its way out, whatever the mode reported after it. -/
theorem Dev.http_emits (d : Dev) (c status : Nat) (b : Bytes) : emits d (d.http c status b).reportMode (.http c status b) :=
  (emits_emitOut d _).reported

section
variable {d : Dev} {c : Nat} {k : HttpConn} (hc : d.mgmt.conns.find? (·.id == c) = some k) (hu : d.httpsUp = true)
include hc hu

theorem Dev.getResource_emits {pub : Bool} (hp : (k.authenticated || pub) = true) (n : Nat) (values : Dev → List Nat) :
    emits d (d.getResource c pub n values).reportMode (.http c 200 (Config.redfishBody n (values d))) := by
  unfold Dev.getResource
  rw [Dev.request_served hc hu hp]
  exact d.http_emits ..

theorem Dev.getRecords_emits (n skip top : Nat) (ht : top ≤ 1000) (l : Dev → List Rec) :
    emits d (d.getRecords c n skip top l).reportMode
      (.http c 200 (Config.redfishBody n (bytesNat ((((l d).drop skip).take top).flatMap Rec.encode)))) := by
  unfold Dev.getRecords
  rw [Dev.request_served hc hu (Bool.or_true _), if_neg (Nat.not_lt.mpr ht)]
  exact d.http_emits ..

theorem Dev.retiredOnly_emits (hr : d.retired = true) (n : Nat) (values : Dev → List Nat) :
    emits d (d.retiredOnly c n values).reportMode (.http c 200 (Config.redfishBody n (values d))) := by
  unfold Dev.retiredOnly
  rw [Dev.request_served hc hu (Bool.or_true _), if_pos hr]
  exact d.http_emits ..

theorem sensorGetEff_emits (ha : k.authenticated = true) (id : Nat) (hs : sensorExists id = true) :
    emits d (sensorGetEff c id d).reportMode (.http c 200 (Config.redfishBody 3 (d.sensorValues id))) := by
  unfold sensorGetEff
  rw [Dev.request_served hc hu (by simp [ha]), if_pos hs]
  exact d.http_emits ..

end

/-- Settles O43: each read is the `GET` of a resource, and every resource that its connection may read is answered 200. -/
theorem redfishReadsAnswer : Obligations.RedfishReadsAnswer := by
  intro s c k hc hu
  have open_ (n : Nat) (values : Dev → List Nat) := Dev.getResource_emits hc hu (pub := true) (Bool.or_true _) n values
  refine ⟨⟨_, rfl, open_ 1 _⟩, ⟨_, rfl, open_ 2 _⟩, ⟨_, rfl, open_ 9 _⟩, fun skip top ht => ⟨_, rfl, ?_⟩,
    fun skip top ht => ⟨_, rfl, ?_⟩, fun hr => ⟨_, rfl, ?_⟩, fun hr => ⟨_, rfl, ?_⟩, fun ha => ?_⟩
  · exact Dev.getRecords_emits hc hu 11 skip top ht _
  · exact Dev.getRecords_emits hc hu 12 skip top ht _
  · exact Dev.retiredOnly_emits hc hu hr 13 _
  · exact Dev.retiredOnly_emits hc hu hr 14 _
  · have own (n : Nat) (values : Dev → List Nat) := Dev.getResource_emits hc hu (pub := false) (by simp [ha]) n values
    exact ⟨fun id hs => ⟨_, rfl, sensorGetEff_emits hc hu ha id hs⟩, ⟨_, rfl, own 4 _⟩, ⟨_, rfl, own 5 _⟩, ⟨_, rfl, own 7 _⟩,
      fun bay => ⟨_, rfl, own _ _⟩, ⟨_, rfl, own 10 _⟩, ⟨_, rfl, own 15 _⟩⟩

end Sys2Proof.Machine
end

section
/-! What is entered in the ring of the Barograph, and that it stays while the ring has room (R361, R363). -/

namespace Sys2Proof.Machine

/-! ### Sending leaves the Barograph -/

theorem Dev.wire_ev (d : Dev) (k : OutPacket) : (d.wire k).ev = d.ev := by
  unfold Dev.wire
  repeat' split
  all_goals rfl

theorem Dev.sendPacket_ev (d : Dev) (sid : BitVec 32) (t : PktType) (cls off : Nat) (a b : Bool) (pl : Bytes) (n : Nat) :
    (d.sendPacket sid t cls off a b pl n).ev = d.ev := by
  unfold Dev.sendPacket
  split
  · rfl
  · split
    · simp [Dev.wire_ev]
    · rfl

theorem Dev.pumpNotices_ev (d : Dev) (sid : BitVec 32) (n : Nat) : (d.pumpNotices sid n).ev = d.ev := by
  induction n generalizing d with
  | zero => rfl
  | succ n ih =>
    unfold Dev.pumpNotices
    repeat' split
    case h_2.isTrue => simp [ih, Dev.sendPacket_ev]
    all_goals rfl

theorem Dev.notify_ev (d : Dev) (sid : BitVec 32) (k : NoticeKind) (b : Bytes) : (d.notify sid k b).ev = d.ev := by
  unfold Dev.notify
  split
  · rfl
  · split
    · simp [Dev.pumpNotices_ev]
    · rfl

/-- A fold whose steps leave the Barograph leaves it. -/
theorem Dev.foldl_ev {α : Type} {f : Dev → α → Dev} (h : ∀ d a, (f d a).ev = d.ev) (l : List α) (d : Dev) : (l.foldl f d).ev = d.ev := by
  induction l generalizing d with
  | nil => rfl
  | cons a l ih => exact (ih _).trans (h d a)

theorem Dev.notifyAll_ev (d : Dev) (k : NoticeKind) (f : Session → Bytes) : (d.notifyAll k f).ev = d.ev :=
  Dev.foldl_ev (f := fun (d : Dev) (s : Session) => d.notify s.sid k (f s)) (fun d s => d.notify_ev s.sid k (f s)) _ d

theorem Dev.window_ev (d : Dev) (k n : Nat) : (d.window k n).2.ev = d.ev := by
  unfold Dev.window
  dsimp only
  repeat' split
  all_goals rfl

theorem Dev.noticeEvent_ev (d : Dev) (r : Rec) (s : Session) : (d.noticeEvent r s).ev = d.ev := by
  unfold Dev.noticeEvent
  split
  · rfl
  · rename_i x _
    have hw := d.window_ev (rateKey 5 x.sid.toNat) (d.pnum P.mgmtNoticeRateMax)
    split
    · split <;> rename_i heq <;> rw [heq] at hw
      · exact hw
      · repeat' split
        · exact (Dev.notify_ev ..).trans hw
        · exact hw
        · exact hw
    · rfl

theorem Dev.sendSse_ev (d : Dev) (r : Rec) : (d.sendSse r).ev = d.ev := by
  refine Dev.foldl_ev (fun d c => ?_) _ d
  repeat' split
  all_goals rfl

theorem Dev.queuePldm_ev (d : Dev) (e : PldmEvent) : (d.queuePldm e).ev = d.ev := by
  unfold Dev.queuePldm
  repeat' split
  all_goals rfl

/-! ### Entries -/

/-- The ring of a later state holds the entries of an earlier one after at most `n` new ones, and the numbers given out have not fallen:
so where the ring has room for them. -/
def Records (n : Nat) (d e : Dev) : Prop :=
  d.ev.ring.length + n ≤ 65536 → d.ev.ring <:+ e.ev.ring ∧ e.ev.ring.length ≤ d.ev.ring.length + n ∧ d.ev.nextExt ≤ e.ev.nextExt

theorem Records.of_ev {d e : Dev} (h : e.ev = d.ev) : Records 0 d e := by
  intro _
  rw [h]
  exact ⟨List.suffix_refl _, Nat.le_refl _, Nat.le_refl _⟩

theorem Records.trans {m n : Nat} {d e f : Dev} (h : Records m d e) (g : Records n e f) : Records (m + n) d f := by
  intro hr
  obtain ⟨hs, hl, hx⟩ := h (by omega)
  obtain ⟨gs, gl, gx⟩ := g (by omega)
  exact ⟨hs.trans gs, by omega, hx.trans gx⟩

theorem Records.mono {m n : Nat} {d e : Dev} (h : Records m d e) (hn : m ≤ n) : Records n d e := by
  intro hr
  obtain ⟨hs, hl, hx⟩ := h (by omega)
  exact ⟨hs, by omega, hx⟩

theorem Events.push_ring {v : Events} (h : v.ring.length < 65536) (r : Rec) : (v.push r).ring = ⟨r, false⟩ :: v.ring := by
  unfold Events.push
  simp [h]

theorem Events.push_nextExt (v : Events) (r : Rec) : (v.push r).nextExt = v.nextExt := by
  unfold Events.push
  dsimp only
  repeat' split
  all_goals rfl

/-- An event at or above the level of its source is entered under the next number. -/
theorem Dev.raise_entered {d : Dev} {v : Ev} (hl : d.level v.src ≤ v.sev) (hr : d.ev.ring.length < 65536) (a b c x : Nat) :
    ∃ r : Rec, r.ev = v ∧ r.ext = d.ev.nextExt ∧ (d.raise v a b c x).ev.ring = ⟨r, false⟩ :: d.ev.ring ∧
      (d.raise v a b c x).ev.nextExt = d.ev.nextExt + 1 := by
  have sent (w : Events) (r : Rec) (l : List Session) :
      (if d.pnum P.mgmtAlertMinSeverity ≤ v.sev then ((l.foldl (fun (d : Dev) s => d.noticeEvent r s) { d with ev := w }).sendSse r).queuePldm
        (.oem r) else (l.foldl (fun (d : Dev) s => d.noticeEvent r s) { d with ev := w }).sendSse r).ev = w := by
    have hf := Dev.foldl_ev (f := fun (d : Dev) s => d.noticeEvent r s) (fun d s => d.noticeEvent_ev r s) l { d with ev := w }
    split
    · rw [Dev.queuePldm_ev, Dev.sendSse_ev, hf]
    · rw [Dev.sendSse_ev, hf]
  unfold Dev.raise
  rw [if_neg (by omega)]
  dsimp only
  refine ⟨_, ?ev, ?ext, (congrArg Events.ring (sent _ _ _)).trans (Events.push_ring ?_ _),
    (congrArg Events.nextExt (sent _ _ _)).trans (Events.push_nextExt _ _)⟩
  case ev => rfl
  case ext => rfl
  exact hr

theorem Dev.raise_records (d : Dev) (v : Ev) (a b c x : Nat) : Records 1 d (d.raise v a b c x) := by
  by_cases hl : d.level v.src ≤ v.sev
  · intro hr
    obtain ⟨r, _, _, hring, hnext⟩ := Dev.raise_entered hl (by omega) a b c x
    rw [hring, hnext]
    exact ⟨List.suffix_cons _ _, by simp, Nat.le_succ _⟩
  · unfold Dev.raise
    rw [if_pos (by omega)]
    exact fun _ => ⟨List.suffix_refl _, Nat.le_succ _, Nat.le_refl _⟩

theorem Dev.reportMode_records (d : Dev) : Records 1 d d.reportMode := by
  unfold Dev.reportMode
  split
  · unfold Dev.refreshMode
    dsimp only
    split
    · exact (Records.of_ev rfl).mono (by omega)
    · refine Records.trans (m := 0) (Records.of_ev ?_) (Dev.raise_records _ _ _ _ _ _)
      exact (Dev.notifyAll_ev ..).trans rfl
  · exact (Records.of_ev rfl).mono (by omega)

theorem logged_raise {d : Dev} {v : Ev} (hl : d.level v.src ≤ v.sev) (hr : d.ev.ring.length < 65536) (a b c x : Nat) :
    logged d (d.raise v a b c x) v := by
  obtain ⟨r, hv, hx, hring, _⟩ := Dev.raise_entered hl hr a b c x
  exact ⟨⟨r, false⟩, by rw [hring]; exact List.mem_cons_self, hv, hx ▸ Nat.le_refl _⟩

/-- What has been entered stays entered while the ring has room. -/
theorem logged.later {d e f : Dev} {v : Ev} {n : Nat} (h : logged d e v) (hr : Records n e f) (hn : e.ev.ring.length + n ≤ 65536) :
    logged d f v := by
  obtain ⟨x, hx, hv, he⟩ := h
  exact ⟨x, (hr hn).1.subset hx, hv, he⟩

/-- What was entered after a state was entered after every earlier one. -/
theorem logged.earlier {d e f : Dev} {v : Ev} {n : Nat} (h : logged e f v) (hr : Records n d e) (hn : d.ev.ring.length + n ≤ 65536) :
    logged d f v := by
  obtain ⟨x, hx, hv, he⟩ := h
  exact ⟨x, hx, hv, (hr hn).2.2.trans he⟩

/-- An event raised, then changes that enter few others. -/
theorem logged_raise_later {d e : Dev} {v : Ev} {n : Nat} {a b c x : Nat} (hl : d.level v.src ≤ v.sev)
    (hr : Records n (d.raise v a b c x) e) (hn : d.ev.ring.length + (1 + n) ≤ 65536) : logged d e v := by
  have hk := (d.raise_records v a b c x (by omega)).2.1
  exact (logged_raise hl (by omega) a b c x).later hr (by omega)

end Sys2Proof.Machine
end

section
/-! The start of the drive and its firmware supervisor. -/

namespace Sys2Proof.Machine

/-- Settles O53: the model evaluates the drive as shipped and its first power-on. -/
theorem resetIsTheDriveAsShipped : Obligations.ResetIsTheDriveAsShipped := by
  have hon : (powerOnEff 0 Dev.reset).reportMode.pow.pwrEn = true := by decide +kernel
  exact ⟨rfl, rfl, rfl, rfl, rfl, rfl, rfl, rfl, by decide, _, rfl, hon⟩

/-- An integrity stop of a drive whose Drift does not drain is pending, and records nothing. -/
theorem Dev.integrityStop_pending {d : Dev} {code region addr : Nat} (hr : d.par.run = .running) (hf : d.pow.failing = none)
    (hp : d.par.pendingReset = none) (hd : d.driftOut = false) :
    (d.integrityStop code region addr).par.pendingReset = some (.integrity code region addr) ∧
      (d.integrityStop code region addr).ev = d.ev := by
  have hkept (p : Conf) : (({ d with par := p } : Dev).bump (.drive .integrityStops) 1).driftOut = false := hd
  unfold Dev.integrityStop
  rw [hp]
  simp only [hr, hf]
  unfold Dev.performPending
  simp [hf, hkept]

theorem Dev.raise_driftOut (d : Dev) (v : Ev) (a b c x : Nat) : (d.raise v a b c x).driftOut = d.driftOut := by
  unfold Dev.driftOut
  rw [Dev.raise_que]

/-- Settles O59: the event is raised and the stop waits for the drain. -/
theorem firmwareSupervisorStopsTheDrive : Obligations.FirmwareSupervisorStopsTheDrive := by
  refine ⟨rfl, fun s core ms abort hr hf hp hd hl => ?_⟩
  have heff : fwWatchdogEff core ms abort s.dev =
      (s.dev.raise Ev.fwWatchdog core ms (if abort then 2 else 1) 0).integrityStop Ev.fwWatchdog.code 0 0 := by
    unfold fwWatchdogEff
    simp [hr]
  obtain ⟨hpend, hev⟩ := Dev.integrityStop_pending (d := s.dev.raise Ev.fwWatchdog core ms (if abort then 2 else 1) 0)
    (code := Ev.fwWatchdog.code) (region := 0) (addr := 0) (by simp [hr]) (by simp [hf]) (by simp [hp])
    ((Dev.raise_driftOut ..).trans hd)
  refine ⟨_, State.run_of_eq heff, ?_, fun hlev => ?_⟩
  · rw [Dev.reportMode_par]
    exact hpend
  · exact logged_raise_later hlev ((Records.of_ev hev).trans (Dev.reportMode_records _)) (by omega)

end Sys2Proof.Machine
end

section
/-! Which parts of the drive an operation may change. What sending and recording change beside is free: the streams, the counters, the
rate limits and the outputs, which grow.

Which part a list names is closed by `simp` in each use: the binders name the tactic that the library's `List.nodup_range'` is stated with,
since a default written here would be evaluated anew in every use. -/

namespace Sys2Proof.Machine

/-- The parts of a drive; `conf` is the parameters but for the mode, `course` what the drive is in the course of, `staged` a staged set that is
filled, `links` the links, `sids` the sessions, `caps` the capsules and `borrows` the waits for a pool that are new, `drift` the versions that are new or no longer on
medium, `epochs` the epochs of the journal, `cards` the cartridges but for their flash, `term` how the pair stands, `asks` what waits for the
witness, `states` the states of the mirrored namespaces, `spaces` a further namespace, `life` the life cycle
and the keys. -/
inductive DevPart
  | clk | ev | par | conf | course | staged | links | sids | caps | borrows | drift | epochs | cards | net | que | ns | spaces | idx | pol | gale | med | bays | mem | mir | term | asks | states | pow | mgmt | sec | life | upd | ring | fresh

/-- Drive time without its rate limits. -/
def Clock.steady (c : Clock) : Clock := { c with holds := [], windows := [] }

/-- The parameters without the mode that is reported. -/
def Conf.steady (c : Conf) : Conf := { c with mode := 0 }

theorem subset_of_list_eq {α : Type} {l m : List α} (h : l = m) : l ⊆ m := h ▸ List.Subset.refl l

/-- Where a capsule stands: its session and its place in the session's stream. -/
@[simp] def Cap.place (c : Cap) : BitVec 32 × Nat := (c.sid, c.start)

/-- What a drive is in the course of: how it runs, its start, its resets and its tests. -/
@[simp] def Conf.course (c : Conf) : RunState × Option SelfTest × Option Nat × Option ResetWhy × Nat × Nat :=
  (c.run, c.selfTest, c.shutdownSince, c.pendingReset, c.startKind, c.startCode)

/-- The versions of a second list are ones of the first: none has left the medium. -/
def Ages (l m : List Version) : Prop := ∀ v ∈ m, ∃ w ∈ l, w.seq = v.seq ∧ (w.onMedium = true → v.onMedium = true)

@[simp] theorem Ages.refl (l : List Version) : Ages l l := fun v hv => ⟨v, hv, rfl, id⟩

@[simp] theorem Ages.nil (l : List Version) : Ages l [] := fun _ h => absurd h List.not_mem_nil

theorem Ages.of_eq {l m : List Version} (h : m = l) : Ages l m := h ▸ .refl l

theorem Ages.trans {l m k : List Version} (h : Ages l m) (g : Ages m k) : Ages l k := by
  intro v hv
  obtain ⟨w, hw, hs, hm⟩ := g v hv
  obtain ⟨x, hx, hs', hm'⟩ := h w hw
  exact ⟨x, hx, hs'.trans hs, fun h => hm (hm' h)⟩

theorem Ages.of_subset {l m : List Version} (h : m ⊆ l) : Ages l m := fun v hv => ⟨v, h hv, rfl, id⟩

theorem Ages.map (l : List Version) {f : Version → Version} (h : ∀ v, (f v).seq = v.seq ∧ (v.onMedium = true → (f v).onMedium = true)) :
    Ages l (l.map f) := by
  intro v hv
  obtain ⟨w, hw, rfl⟩ := List.mem_map.mp hv
  exact ⟨w, hw, (h w).1.symm, (h w).2⟩

/-- The epochs stand: none has closed or ended, and no tail has begun. -/
@[simp] def Index.Stands (i j : Index) : Prop := j.head = i.head ∧ j.endEpoch = i.endEpoch ∧ (i.tail = none → j.tail = none)

theorem Index.Stands.of_eq {i j : Index} (h : j = i) : i.Stands j := h ▸ ⟨rfl, rfl, id⟩

theorem Index.Stands.trans {i j k : Index} (h : i.Stands j) (g : j.Stands k) : i.Stands k :=
  ⟨g.1.trans h.1, g.2.1.trans h.2.1, fun n => g.2.2 (h.2.2 n)⟩

/-- How a bay and its cartridge stand, but for the flash and the wear record. -/
def Bay.card (b : Bay) : BayState × Nat × Bool × Bool × Option CartFacts × BayState × Option (BitVec 128) × Nat × Option Nat × Option Nat ×
    Option (BitVec 128) :=
  (b.state, b.reason, b.present, b.latchOpen, b.guest, b.guestState, b.bound, b.bindCount, b.quiesceSince, b.opWaiting, b.reclaiming)

@[simp low] theorem Bay.card_def (b : Bay) : b.card =
    (b.state, b.reason, b.present, b.latchOpen, b.guest, b.guestState, b.bound, b.bindCount, b.quiesceSince, b.opWaiting, b.reclaiming) := rfl

@[simp] theorem Bay.card_modBand (b : Bay) (group block : Nat) (f : Band → Band) : (b.modBand group block f).card = b.card := rfl

/-- How the pair stands: its link, its lease, its epoch, and what it holds of the partner's messages. -/
@[simp] def Mirror.term (m : Mirror) : PairState × BitVec 16 × Option Nat × Bool × Nat × Nat × Option Nat × Bool × Nat × Nat × Nat × Nat ×
    List CwHeld :=
  (m.state, m.partnerNode, m.lostSince, m.helloRetry, m.epoch, m.epochSeen, m.leaseUntil, m.fenced, m.lastRx, m.hbPeer, m.hbSeq, m.peerCum, m.held)

/-- What waits for an answer of the witness. -/
@[simp] def Mirror.asks (m : Mirror) : Option PromoteRun × Option HandoverRun × List WitReq := (m.promote, m.handover, m.reqs)

/-- How a mirrored namespace stands. -/
def MirrorNs.brief (m : MirrorNs) : BitVec 12 × Bool × NsState × Option Nat := (m.ns, m.lead, m.st, m.waitSince)

/-- How the mirrored namespaces stand. -/
@[simp] def Mirror.states (m : Mirror) : List (BitVec 12 × Bool × NsState × Option Nat) := m.nss.map MirrorNs.brief

/-- The life cycle and the keys, without the records of sanitises and what was measured. -/
@[simp] def Security.life (s : Security) : Vector LcCopy 2 × List Cred × Option (BitVec 256) × Option LcRun := (s.lc, s.creds, s.mrk, s.run)

/-- From one state of the drive to another only the parts of a list have changed, beside what sending and recording change. -/
structure Touch (S : List DevPart) (d e : Dev) : Prop where
  out : d.out <:+ e.out
  clk : .clk ∉ S → e.clk.steady = d.clk.steady
  ev : .ev ∉ S → e.ev.steady = d.ev.steady
  par : .par ∉ S → e.par = d.par
  conf : .conf ∉ S → e.par.steady = d.par.steady
  course : .course ∉ S → e.par.course = d.par.course
  staged : .staged ∉ S → d.par.staged = [] → e.par.staged = []
  links : .links ∉ S → e.net.links = d.net.links
  sids : .sids ∉ S → e.net.sessions.map (·.sid) ⊆ d.net.sessions.map (·.sid)
  caps : .caps ∉ S → e.que.caps.map Cap.place ⊆ d.que.caps.map Cap.place
  borrows : .borrows ∉ S → e.net.borrowQ ⊆ d.net.borrowQ
  drift : .drift ∉ S → Ages d.que.drift e.que.drift
  epochs : .epochs ∉ S → d.idx.Stands e.idx
  cards : .cards ∉ S → ∀ b, (e.bays.get b).card = (d.bays.get b).card
  net : .net ∉ S → e.net.steady = d.net.steady
  que : .que ∉ S → e.que = d.que
  ns : .ns ∉ S → e.ns = d.ns
  spaces : .spaces ∉ S → e.ns.length ≤ d.ns.length
  idx : .idx ∉ S → e.idx = d.idx
  pol : .pol ∉ S → e.pol = d.pol
  gale : .gale ∉ S → e.gale = d.gale
  med : .med ∉ S → e.med = d.med
  bays : .bays ∉ S → e.bays = d.bays
  mem : .mem ∉ S → e.mem = d.mem
  mir : .mir ∉ S → e.mir = d.mir
  term : .term ∉ S → e.mir.term = d.mir.term
  asks : .asks ∉ S → e.mir.asks = d.mir.asks
  states : .states ∉ S → e.mir.states = d.mir.states
  pow : .pow ∉ S → e.pow = d.pow
  mgmt : .mgmt ∉ S → e.mgmt.steady = d.mgmt.steady
  sec : .sec ∉ S → e.sec = d.sec
  life : .life ∉ S → e.sec.life = d.sec.life
  upd : .upd ∉ S → e.upd = d.upd
  ring : .ring ∉ S → e.ring = d.ring
  fresh : .fresh ∉ S → e.fresh = d.fresh

/-- Sending and recording change no part. -/
theorem Sent.touch {d e : Dev} (h : Sent d e) (S : List DevPart) : Touch S d e where
  out := h.out
  clk _ := congrArg (fun x : Dev => x.clk) h.core
  ev _ := h.ev
  par _ := core_par h.core
  conf _ := congrArg Conf.steady (core_par h.core)
  course _ := congrArg Conf.course (core_par h.core)
  staged _ := fun n => (congrArg Conf.staged (core_par h.core)).trans n
  links _ := show e.net.steady.links = d.net.steady.links from congrArg (fun n : Net => n.links) h.net
  sids _ := subset_of_list_eq (Net.sids_of_steady h.net)
  caps _ := subset_of_list_eq (congrArg (fun q : Queue => q.caps.map Cap.place) (core_que h.core))
  borrows _ := subset_of_list_eq (show e.net.steady.borrowQ = d.net.steady.borrowQ from congrArg (fun n : Net => n.borrowQ) h.net)
  drift _ := .of_eq (congrArg (fun q : Queue => q.drift) (core_que h.core))
  epochs _ := .of_eq (core_idx h.core)
  cards _ b := congrArg (fun v : Vector Bay 4 => (v.get b).card) (core_bays h.core)
  net _ := h.net
  que _ := core_que h.core
  ns _ := core_ns h.core
  spaces _ := (congrArg List.length (core_ns h.core)).le
  idx _ := core_idx h.core
  pol _ := core_pol h.core
  gale _ := core_gale h.core
  med _ := core_med h.core
  bays _ := core_bays h.core
  mem _ := core_mem h.core
  mir _ := core_mir h.core
  term _ := congrArg Mirror.term (core_mir h.core)
  asks _ := congrArg Mirror.asks (core_mir h.core)
  states _ := congrArg Mirror.states (core_mir h.core)
  pow _ := core_pow h.core
  mgmt _ := h.mgmt
  sec _ := core_sec h.core
  life _ := congrArg Security.life (core_sec h.core)
  upd _ := core_upd h.core
  ring _ := core_ring h.core
  fresh _ := core_fresh h.core

theorem Touch.refl (S : List DevPart) (d : Dev) : Touch S d d := (Sent.refl d).touch S

theorem Touch.trans {S : List DevPart} {d e f : Dev} (h : Touch S d e) (g : Touch S e f) : Touch S d f where
  out := h.out.trans g.out
  clk n := (g.clk n).trans (h.clk n)
  ev n := (g.ev n).trans (h.ev n)
  par n := (g.par n).trans (h.par n)
  conf n := (g.conf n).trans (h.conf n)
  course n := (g.course n).trans (h.course n)
  staged n := g.staged n ∘ h.staged n
  links n := (g.links n).trans (h.links n)
  sids n := List.Subset.trans (g.sids n) (h.sids n)
  caps n := List.Subset.trans (g.caps n) (h.caps n)
  borrows n := List.Subset.trans (g.borrows n) (h.borrows n)
  drift n := (h.drift n).trans (g.drift n)
  epochs n := (h.epochs n).trans (g.epochs n)
  cards n b := (g.cards n b).trans (h.cards n b)
  net n := (g.net n).trans (h.net n)
  que n := (g.que n).trans (h.que n)
  ns n := (g.ns n).trans (h.ns n)
  spaces n := (g.spaces n).trans (h.spaces n)
  idx n := (g.idx n).trans (h.idx n)
  pol n := (g.pol n).trans (h.pol n)
  gale n := (g.gale n).trans (h.gale n)
  med n := (g.med n).trans (h.med n)
  bays n := (g.bays n).trans (h.bays n)
  mem n := (g.mem n).trans (h.mem n)
  mir n := (g.mir n).trans (h.mir n)
  term n := (g.term n).trans (h.term n)
  asks n := (g.asks n).trans (h.asks n)
  states n := (g.states n).trans (h.states n)
  pow n := (g.pow n).trans (h.pow n)
  mgmt n := (g.mgmt n).trans (h.mgmt n)
  sec n := (g.sec n).trans (h.sec n)
  life n := (g.life n).trans (h.life n)
  upd n := (g.upd n).trans (h.upd n)
  ring n := (g.ring n).trans (h.ring n)
  fresh n := (g.fresh n).trans (h.fresh n)

/-- What changes some parts at most changes more parts at most. -/
theorem Touch.mono {S T : List DevPart} {d e : Dev} (h : Touch S d e) (hs : S ⊆ T) : Touch T d e where
  out := h.out
  clk n := h.clk (mt (@hs _) n)
  ev n := h.ev (mt (@hs _) n)
  par n := h.par (mt (@hs _) n)
  conf n := h.conf (mt (@hs _) n)
  course n := h.course (mt (@hs _) n)
  staged n := h.staged (mt (@hs _) n)
  links n := h.links (mt (@hs _) n)
  sids n := h.sids (mt (@hs _) n)
  caps n := h.caps (mt (@hs _) n)
  borrows n := h.borrows (mt (@hs _) n)
  drift n := h.drift (mt (@hs _) n)
  epochs n := h.epochs (mt (@hs _) n)
  cards n := h.cards (mt (@hs _) n)
  net n := h.net (mt (@hs _) n)
  que n := h.que (mt (@hs _) n)
  ns n := h.ns (mt (@hs _) n)
  spaces n := h.spaces (mt (@hs _) n)
  idx n := h.idx (mt (@hs _) n)
  pol n := h.pol (mt (@hs _) n)
  gale n := h.gale (mt (@hs _) n)
  med n := h.med (mt (@hs _) n)
  bays n := h.bays (mt (@hs _) n)
  mem n := h.mem (mt (@hs _) n)
  mir n := h.mir (mt (@hs _) n)
  term n := h.term (mt (@hs _) n)
  asks n := h.asks (mt (@hs _) n)
  states n := h.states (mt (@hs _) n)
  pow n := h.pow (mt (@hs _) n)
  mgmt n := h.mgmt (mt (@hs _) n)
  sec n := h.sec (mt (@hs _) n)
  life n := h.life (mt (@hs _) n)
  upd n := h.upd (mt (@hs _) n)
  ring n := h.ring (mt (@hs _) n)
  fresh n := h.fresh (mt (@hs _) n)

/-- The same, where both lists are written out. -/
theorem Touch.of {S T : List DevPart} {d e : Dev} (h : Touch S d e) (hs : autoParam (S ⊆ T) List.nodup_range'._auto_1) : Touch T d e := h.mono hs

theorem Touch.foldl {α : Type} {S : List DevPart} {f : Dev → α → Dev} (h : ∀ d a, Touch S d (f d a)) (l : List α) (d : Dev) :
    Touch S d (l.foldl f d) := by
  induction l generalizing d with
  | nil => exact .refl S d
  | cons a l ih => exact (h d a).trans (ih _)

/-- The same for a fold that carries more than the drive. -/
theorem Touch.foldl_on {α β : Type} {S : List DevPart} (dev : β → Dev) {f : β → α → β} (h : ∀ b a, Touch S (dev b) (dev (f b a)))
    (l : List α) (b : β) : Touch S (dev b) (dev (l.foldl f b)) := by
  induction l generalizing b with
  | nil => exact .refl S _
  | cons a l ih => exact (h b a).trans (ih _)

/-- A branch changes what its branches change. -/
theorem Touch.ite {S : List DevPart} {d e f : Dev} {p : Prop} [Decidable p] (h : p → Touch S d e) (g : ¬ p → Touch S d f) :
    Touch S d (if p then e else f) := by
  split
  · exact h ‹_›
  · exact g ‹_›

/-- A change that is written out, followed by sending. -/
theorem Touch.sent {S : List DevPart} {d e f : Dev} (h : Touch S d e) (g : Sent e f) : Touch S d f := h.trans (g.touch S)

/-- A change followed by one of fewer parts. -/
theorem Touch.next {S T : List DevPart} {d e f : Dev} (h : Touch S d e) (g : Touch T e f) (hs : autoParam (T ⊆ S) List.nodup_range'._auto_1) : Touch S d f :=
  h.trans (g.mono hs)

/-! ### Parts that are set -/

section
variable {S : List DevPart} {d e : Dev} (h : Touch S d e)
include h

theorem Touch.setClk (x : Clock) (hs : autoParam (.clk ∈ S) List.nodup_range'._auto_1) : Touch S d { e with clk := x } :=
  { h with clk := fun n => absurd hs n }
theorem Touch.setEv (x : Events) (hs : autoParam (.ev ∈ S) List.nodup_range'._auto_1) : Touch S d { e with ev := x } :=
  { h with ev := fun n => absurd hs n }
theorem Touch.setPar (x : Conf) (hs : autoParam (.par ∈ S ∧ .conf ∈ S) List.nodup_range'._auto_1)
    (hc : autoParam (x.course = e.par.course) List.TFAE.out._auto_1)
    (hg : autoParam (.staged ∈ S ∨ (e.par.staged = [] → x.staged = [])) List.nodup_range'._auto_1) : Touch S d { e with par := x } :=
  { h with
    par := fun n => absurd hs.1 n
    conf := fun n => absurd hs.2 n
    course := fun n => hc.trans (h.course n)
    staged := fun n => hg.resolve_left n ∘ h.staged n }
theorem Touch.setCourse (x : Conf) (hs : autoParam (.par ∈ S ∧ .conf ∈ S ∧ .course ∈ S) List.nodup_range'._auto_1)
    (hg : autoParam (.staged ∈ S ∨ (e.par.staged = [] → x.staged = [])) List.nodup_range'._auto_1) : Touch S d { e with par := x } :=
  { h with
    par := fun n => absurd hs.1 n
    conf := fun n => absurd hs.2.1 n
    course := fun n => absurd hs.2.2 n
    staged := fun n => hg.resolve_left n ∘ h.staged n }
theorem Touch.setMode (m : Nat) (hs : autoParam (.par ∈ S) List.nodup_range'._auto_1) : Touch S d { e with par := { e.par with mode := m } } :=
  { h with par := fun n => absurd hs n }
theorem Touch.setSids (x : Net) (hx : x.sessions.map (·.sid) ⊆ e.net.sessions.map (·.sid)) (hs : autoParam (.net ∈ S) List.nodup_range'._auto_1)
    (hl : autoParam (x.links = e.net.links) List.TFAE.out._auto_1) (hb : autoParam (x.borrowQ = e.net.borrowQ) List.TFAE.out._auto_1) : Touch S d { e with net := x } :=
  { h with
    net := fun n => absurd hs n
    links := fun n => hl.trans (h.links n)
    sids := fun n => List.Subset.trans hx (h.sids n)
    borrows := fun n => List.Subset.trans (subset_of_list_eq hb) (h.borrows n) }
theorem Touch.setNet (x : Net) (hs : autoParam (.net ∈ S) List.nodup_range'._auto_1) (hl : autoParam (x.links = e.net.links) List.TFAE.out._auto_1)
    (hx : autoParam (x.sessions = e.net.sessions) List.TFAE.out._auto_1) (hb : autoParam (x.borrowQ = e.net.borrowQ) List.TFAE.out._auto_1) : Touch S d { e with net := x } :=
  h.setSids x (subset_of_list_eq (congrArg _ hx)) hs hl hb
theorem Touch.setLinks (x : Vector LinkState 3) (hs : autoParam (.net ∈ S ∧ .links ∈ S) List.nodup_range'._auto_1) :
    Touch S d { e with net := { e.net with links := x } } :=
  { h with net := fun n => absurd hs.1 n, links := fun n => absurd hs.2 n }
theorem Touch.setCaps (x : Queue) (hx : x.caps.map Cap.place ⊆ e.que.caps.map Cap.place) (hs : autoParam (.que ∈ S) List.nodup_range'._auto_1)
    (hd : autoParam (x.drift = e.que.drift) List.TFAE.out._auto_1) : Touch S d { e with que := x } :=
  { h with
    que := fun n => absurd hs n
    caps := fun n => List.Subset.trans hx (h.caps n)
    drift := fun n => (h.drift n).trans (.of_eq hd) }
theorem Touch.setQue (x : Queue) (hs : autoParam (.que ∈ S) List.nodup_range'._auto_1) (hx : autoParam (x.caps = e.que.caps) List.TFAE.out._auto_1)
    (hd : autoParam (x.drift = e.que.drift) List.TFAE.out._auto_1) : Touch S d { e with que := x } :=
  h.setCaps x (subset_of_list_eq (congrArg _ hx)) hs hd
theorem Touch.setDrift (x : Queue) (ha : Ages e.que.drift x.drift) (hs : autoParam (.que ∈ S) List.nodup_range'._auto_1)
    (hx : autoParam (x.caps = e.que.caps) List.TFAE.out._auto_1) : Touch S d { e with que := x } :=
  { h with
    que := fun n => absurd hs n
    caps := fun n => List.Subset.trans (subset_of_list_eq (congrArg _ hx)) (h.caps n)
    drift := fun n => (h.drift n).trans ha }
theorem Touch.setVers (x : Queue) (hs : autoParam (.que ∈ S ∧ .drift ∈ S) List.nodup_range'._auto_1)
    (hx : autoParam (x.caps = e.que.caps) List.TFAE.out._auto_1) : Touch S d { e with que := x } :=
  { h with
    que := fun n => absurd hs.1 n
    caps := fun n => List.Subset.trans (subset_of_list_eq (congrArg _ hx)) (h.caps n)
    drift := fun n => absurd hs.2 n }
theorem Touch.setNs (x : List Namespace) (hs : autoParam (.ns ∈ S) List.nodup_range'._auto_1)
    (hl : autoParam (x.length = e.ns.length) List.nodup_range'._auto_1) : Touch S d { e with ns := x } :=
  { h with ns := fun n => absurd hs n, spaces := fun n => hl.trans_le (h.spaces n) }
theorem Touch.setIdx (x : Index) (hs : autoParam (.idx ∈ S) List.nodup_range'._auto_1)
    (hk : autoParam (e.idx.Stands x) List.nodup_range'._auto_1) : Touch S d { e with idx := x } :=
  { h with idx := fun n => absurd hs n, epochs := fun n => (h.epochs n).trans hk }
theorem Touch.setEpochs (x : Index) (hs : autoParam (.idx ∈ S ∧ .epochs ∈ S) List.nodup_range'._auto_1) : Touch S d { e with idx := x } :=
  { h with idx := fun n => absurd hs.1 n, epochs := fun n => absurd hs.2 n }
theorem Touch.setPol (x : Policy) (hs : autoParam (.pol ∈ S) List.nodup_range'._auto_1) : Touch S d { e with pol := x } :=
  { h with pol := fun n => absurd hs n }
theorem Touch.setGale (x : Gale) (hs : autoParam (.gale ∈ S) List.nodup_range'._auto_1) : Touch S d { e with gale := x } :=
  { h with gale := fun n => absurd hs n }
theorem Touch.setMed (x : Media) (hs : autoParam (.med ∈ S) List.nodup_range'._auto_1) : Touch S d { e with med := x } :=
  { h with med := fun n => absurd hs n }
theorem Touch.setBays (x : Vector Bay 4) (hs : autoParam (.bays ∈ S ∧ .cards ∈ S) List.nodup_range'._auto_1) : Touch S d { e with bays := x } :=
  { h with bays := fun n => absurd hs.1 n, cards := fun n => absurd hs.2 n }
theorem Touch.setFlash (x : Vector Bay 4) (hb : ∀ b, (x.get b).card = (e.bays.get b).card) (hs : autoParam (.bays ∈ S) List.nodup_range'._auto_1) :
    Touch S d { e with bays := x } :=
  { h with bays := fun n => absurd hs n, cards := fun n b => (hb b).trans (h.cards n b) }
theorem Touch.setMem (x : Memory) (hs : autoParam (.mem ∈ S) List.nodup_range'._auto_1) : Touch S d { e with mem := x } :=
  { h with mem := fun n => absurd hs n }
theorem Touch.setMir (x : Mirror) (hs : autoParam (.mir ∈ S) List.nodup_range'._auto_1)
    (ht : autoParam (.term ∈ S ∨ x.term = e.mir.term) List.nodup_range'._auto_1)
    (ha : autoParam (.asks ∈ S ∨ x.asks = e.mir.asks) List.nodup_range'._auto_1)
    (hn : autoParam (.states ∈ S ∨ x.states = e.mir.states) List.nodup_range'._auto_1) : Touch S d { e with mir := x } :=
  { h with
    mir := fun n => absurd hs n
    term := fun n => (ht.resolve_left n).trans (h.term n)
    asks := fun n => (ha.resolve_left n).trans (h.asks n)
    states := fun n => (hn.resolve_left n).trans (h.states n) }
theorem Touch.setPow (x : Power) (hs : autoParam (.pow ∈ S) List.nodup_range'._auto_1) : Touch S d { e with pow := x } :=
  { h with pow := fun n => absurd hs n }
theorem Touch.setMgmt (x : Mgmt) (hs : autoParam (.mgmt ∈ S) List.nodup_range'._auto_1) : Touch S d { e with mgmt := x } :=
  { h with mgmt := fun n => absurd hs n }
theorem Touch.setSec (x : Security) (hs : autoParam (.sec ∈ S) List.nodup_range'._auto_1)
    (hl : autoParam (.life ∈ S ∨ x.life = e.sec.life) List.nodup_range'._auto_1) : Touch S d { e with sec := x } :=
  { h with sec := fun n => absurd hs n, life := fun n => (hl.resolve_left n).trans (h.life n) }
theorem Touch.setUpd (x : Update) (hs : autoParam (.upd ∈ S) List.nodup_range'._auto_1) : Touch S d { e with upd := x } :=
  { h with upd := fun n => absurd hs n }
theorem Touch.setFresh (x : Nat) (hs : autoParam (.fresh ∈ S) List.nodup_range'._auto_1) : Touch S d { e with fresh := x } :=
  { h with fresh := fun n => absurd hs n }

theorem Touch.emitOut (o : Out) : Touch S d (e.emitOut o) := h.sent (e.emitOut_sent o)
theorem Touch.bump (c : Ctr) (n : Nat) : Touch S d (e.bump c n) := h.sent (e.bump_sent c n)
theorem Touch.raise (v : Ev) (a b c x : Nat) : Touch S d (e.raise v a b c x) := h.sent (e.raise_sent v a b c x)
theorem Touch.raiseHeld (v : Ev) (k : Nat) (f : Nat → Nat × Nat × Nat × Nat) : Touch S d (e.raiseHeld v k f) := h.sent (e.raiseHeld_sent v k f)
theorem Touch.notifyAll (k : NoticeKind) (f : Session → Bytes) : Touch S d (e.notifyAll k f) := h.sent (e.notifyAll_sent k f)
theorem Touch.draw (hs : autoParam (.fresh ∈ S) List.nodup_range'._auto_1) : Touch S d e.draw.2 := h.setFresh _ hs

end

@[simp] theorem Dev.draw_mir (d : Dev) : d.draw.2.mir = d.mir := rfl

/-- The report of the mode changes the mode alone. -/
theorem Dev.reportMode_touch (d : Dev) : Touch [.par] d d.reportMode :=
  .trans (by rw [Dev.reportMode_par]; exact .setMode (.refl _ d) _) (d.reportMode_sent.touch [.par])

/-- What the data path may change: every part but memory, power, updates and the ring. -/
@[simp] abbrev dataParts : List DevPart := [.clk, .ev, .par, .net, .que, .ns, .idx, .pol, .gale, .med, .bays, .mir, .states, .mgmt, .sec, .fresh]

/-- The same and how the pair stands. -/
@[simp] abbrev pairParts : List DevPart := .term :: .asks :: dataParts

/-- The same as the data path and the versions in Drift. -/
@[simp] abbrev versionParts : List DevPart := .drift :: dataParts

/-! ### Parts held in a vector -/

@[simp] theorem vector_get_set_self {α : Type} {n : Nat} (v : Vector α n) (i : Fin n) (x : α) : (v.set i x).get i = x :=
  Vector.getElem_set_self i.isLt

theorem vector_get_set_ne {α : Type} {n : Nat} (v : Vector α n) {i j : Fin n} (h : i ≠ j) (x : α) : (v.set i x).get j = v.get j :=
  Vector.getElem_set_ne i.isLt j.isLt (fun e => h (Fin.ext e))

theorem map_map_subset {α β : Type} {f : α → β} {g : α → α} (h : ∀ x, f (g x) = f x) (l : List α) : (l.map g).map f ⊆ l.map f :=
  subset_of_list_eq (by rw [List.map_map]; exact List.map_congr_left fun x _ => h x)

theorem map_filter_subset {α β : Type} (f : α → β) (p : α → Bool) (l : List α) : (l.filter p).map f ⊆ l.map f :=
  List.map_subset f List.filter_sublist.subset

theorem Dev.modSession_touch (d : Dev) (sid : BitVec 32) (f : Session → Session) 
    (hf : autoParam (∀ x, (f x).sid = x.sid) List.nodup_range'._auto_1) : Touch [.net] d (d.modSession sid f) := (Touch.refl _ d).setSids _ (map_map_subset (fun x => by split <;> simp [hf]) _)

theorem Dev.modCap_touch (d : Dev) (c : Cap) (f : Cap → Cap)
    (hf : autoParam (∀ x, (f x).place = x.place ∨ (f x).place = c.place) List.nodup_range'._auto_1) : Touch [.que] d (d.modCap c f) := by
  refine (Touch.refl _ d).setCaps _ (map_map_subset (fun x => ?_) _)
  split
  · next h =>
    have hx : x.place = c.place := by simpa using h
    exact (hf x).elim id (fun h => h.trans hx.symm)
  · rfl

theorem Dev.dropCap_touch (d : Dev) (c : Cap) : Touch [.que] d (d.dropCap c) :=
  (Touch.refl _ d).setCaps _ (map_filter_subset ..)

theorem Dev.freeDir_touch (d : Dev) (sid : BitVec 32) (start : Nat) : Touch [.net] d (d.freeDir sid start) :=
  (Touch.refl _ d).setNet _

theorem Dev.endCharge_touch (d : Dev) (sid : BitVec 32) (start : Nat) : Touch [.net] d (d.endCharge sid start) := by
  unfold Dev.endCharge
  split
  · exact .refl _ d
  · exact (Touch.setNet (.refl _ d) _).trans (Dev.modSession_touch ..)

end Sys2Proof.Machine
end

section
/-! Commands that run a capsule: what its dispatch changes, and how the reply of an admin opcode answers it (R48, R121). -/

namespace Sys2Proof.Machine

/-- The capsule as a dispatched one: what runs is given the capsule so. -/
abbrev Cap.sent (c : Cap) : Cap := { c with stage := .dispatched }

/-- A dispatch changes the queues and the counters alone. -/
theorem Dev.dispatchAs_eq (d : Dev) (c : Cap) (cls : Nat) :
    d.dispatchAs c cls = { d with que := (d.dispatchAs c cls).que, ctr := (d.dispatchAs c cls).ctr } := by
  unfold Dev.dispatchAs Dev.countToken
  dsimp only
  split <;> rfl

@[simp] theorem Dev.dispatchAs_clk (d : Dev) (c : Cap) (k : Nat) : (d.dispatchAs c k).clk = d.clk := by rw [Dev.dispatchAs_eq]
@[simp] theorem Dev.dispatchAs_ev (d : Dev) (c : Cap) (k : Nat) : (d.dispatchAs c k).ev = d.ev := by rw [Dev.dispatchAs_eq]
@[simp] theorem Dev.dispatchAs_par (d : Dev) (c : Cap) (k : Nat) : (d.dispatchAs c k).par = d.par := by rw [Dev.dispatchAs_eq]
@[simp] theorem Dev.dispatchAs_net (d : Dev) (c : Cap) (k : Nat) : (d.dispatchAs c k).net = d.net := by rw [Dev.dispatchAs_eq]
@[simp] theorem Dev.dispatchAs_ns (d : Dev) (c : Cap) (k : Nat) : (d.dispatchAs c k).ns = d.ns := by rw [Dev.dispatchAs_eq]
@[simp] theorem Dev.dispatchAs_idx (d : Dev) (c : Cap) (k : Nat) : (d.dispatchAs c k).idx = d.idx := by rw [Dev.dispatchAs_eq]
@[simp] theorem Dev.dispatchAs_pol (d : Dev) (c : Cap) (k : Nat) : (d.dispatchAs c k).pol = d.pol := by rw [Dev.dispatchAs_eq]
@[simp] theorem Dev.dispatchAs_gale (d : Dev) (c : Cap) (k : Nat) : (d.dispatchAs c k).gale = d.gale := by rw [Dev.dispatchAs_eq]
@[simp] theorem Dev.dispatchAs_med (d : Dev) (c : Cap) (k : Nat) : (d.dispatchAs c k).med = d.med := by rw [Dev.dispatchAs_eq]
@[simp] theorem Dev.dispatchAs_bays (d : Dev) (c : Cap) (k : Nat) : (d.dispatchAs c k).bays = d.bays := by rw [Dev.dispatchAs_eq]
@[simp] theorem Dev.dispatchAs_mem (d : Dev) (c : Cap) (k : Nat) : (d.dispatchAs c k).mem = d.mem := by rw [Dev.dispatchAs_eq]
@[simp] theorem Dev.dispatchAs_mir (d : Dev) (c : Cap) (k : Nat) : (d.dispatchAs c k).mir = d.mir := by rw [Dev.dispatchAs_eq]
@[simp] theorem Dev.dispatchAs_pow (d : Dev) (c : Cap) (k : Nat) : (d.dispatchAs c k).pow = d.pow := by rw [Dev.dispatchAs_eq]
@[simp] theorem Dev.dispatchAs_mgmt (d : Dev) (c : Cap) (k : Nat) : (d.dispatchAs c k).mgmt = d.mgmt := by rw [Dev.dispatchAs_eq]
@[simp] theorem Dev.dispatchAs_sec (d : Dev) (c : Cap) (k : Nat) : (d.dispatchAs c k).sec = d.sec := by rw [Dev.dispatchAs_eq]
@[simp] theorem Dev.dispatchAs_upd (d : Dev) (c : Cap) (k : Nat) : (d.dispatchAs c k).upd = d.upd := by rw [Dev.dispatchAs_eq]
@[simp] theorem Dev.dispatchAs_ring (d : Dev) (c : Cap) (k : Nat) : (d.dispatchAs c k).ring = d.ring := by rw [Dev.dispatchAs_eq]
@[simp] theorem Dev.dispatchAs_out (d : Dev) (c : Cap) (k : Nat) : (d.dispatchAs c k).out = d.out := by rw [Dev.dispatchAs_eq]
@[simp] theorem Dev.dispatchAs_fresh (d : Dev) (c : Cap) (k : Nat) : (d.dispatchAs c k).fresh = d.fresh := by rw [Dev.dispatchAs_eq]

/-- Of the queues a dispatch changes its capsule and the figures of the arbitration. -/
theorem Dev.dispatchAs_que (d : Dev) (c : Cap) (cls : Nat) :
    (d.dispatchAs c cls).que =
      let q := (d.dispatchAs c cls).que
      { d.que with caps := q.caps, deficit := q.deficit, drrAt := q.drrAt, winUrgent := q.winUrgent, winAll := q.winAll,
                   winCaps := q.winCaps, winTenant := q.winTenant } := by
  unfold Dev.dispatchAs Dev.countToken
  dsimp only
  split <;> rfl

/-- The same, with those figures as they may be. -/
theorem Dev.dispatchAs_exists (d : Dev) (c : Cap) (cls : Nat) :
    ∃ (cs : List Cap) (df : Vector Nat 3) (i : Fin 3) (wu wa wc : Nat) (wt : List (BitVec 32 × Nat)) (k : List (Ctr × BitVec 64)),
      d.dispatchAs c cls =
        { d with que := { d.que with caps := cs, deficit := df, drrAt := i, winUrgent := wu, winAll := wa, winCaps := wc, winTenant := wt },
                 ctr := k } := by
  have hd := d.dispatchAs_eq c cls
  rw [d.dispatchAs_que c cls] at hd
  exact ⟨_, _, _, _, _, _, _, _, hd⟩

/-- In the queues a dispatch changes the stage, the class and the window of its capsule, and the figures of the arbitration. -/
theorem Dev.dispatchAs_caps (d : Dev) (c : Cap) (cls : Nat) :
    (d.dispatchAs c cls).que.caps =
      (d.modCap c (fun x => { x with stage := .dispatched, cls := cls, window := d.que.window })).que.caps := by
  unfold Dev.dispatchAs Dev.countToken
  dsimp only
  split <;> rfl

theorem Dev.dispatchAs_drift (d : Dev) (c : Cap) (cls : Nat) : (d.dispatchAs c cls).que.drift = d.que.drift := by
  unfold Dev.dispatchAs Dev.countToken
  dsimp only
  split <;> rfl

theorem Dev.dispatchAs_touch (d : Dev) (c : Cap) (cls : Nat) : Touch [.que] d (d.dispatchAs c cls) := by
  have hc := (d.modCap_touch c (fun x => { x with stage := .dispatched, cls := cls, window := d.que.window })).caps (by simp)
  rw [← d.dispatchAs_caps c cls] at hc
  have hd : Ages d.que.drift (d.dispatchAs c cls).que.drift := .of_eq (d.dispatchAs_drift c cls)
  rw [Dev.dispatchAs_eq] at hc ⊢
  constructor <;> simp [hc, hd]

theorem Dev.capBySeq_mem {d : Dev} {seq : Nat} {c : Cap} (h : d.capBySeq seq = some c) : c ∈ d.que.caps :=
  List.mem_of_find?_eq_some h

theorem Dev.capBySeq_seq {d : Dev} {seq : Nat} {c : Cap} (h : d.capBySeq seq = some c) : c.seq = seq ∧ seq ≠ 0 := by
  simpa [Dev.capBySeq] using List.find?_some h

/-- A capsule that may be dispatched is, and what its opcode does runs. -/
theorem Dev.dispatch_ready {d : Dev} {seq : Nat} {op : BitVec 16} {c : Cap} (h : ready d seq op c) (ok : Hdr → Bool)
    (hok : ok c.hdr = true) (f : Cap → Dev → Dev) : d.dispatch seq ok f = f c.sent (d.dispatchAs c c.cls) := by
  obtain ⟨hc, _, hm, _, _⟩ := h
  unfold Dev.dispatch
  rw [hc]
  simp [hok, hm]

theorem Dev.admin_ready {d : Dev} {seq : Nat} {op : BitVec 16} {c : Cap} (h : ready d seq op c) {mine : Cap → Bool}
    (hm : mine c = true) (f : Cap → Dev → Dev) : d.admin seq op mine f = f c.sent (d.dispatchAs c c.cls) := by
  have hc := h.1
  have ho := h.2.1
  unfold Dev.admin
  rw [hc]
  simp only [hm, if_true]
  exact Dev.dispatch_ready h _ (by simp [ho]) f

/-- A state of the drive in which a capsule's own session stands and its reply is still to come. -/
structure Awaits (d e : Dev) (c : Cap) : Prop where
  out : d.out <:+ e.out
  session : (e.session? c.sid).isSome = true

theorem Awaits.touch {d e f : Dev} {c : Cap} (h : Awaits d e c) {S : List DevPart} (ht : Touch S e f) (hn : autoParam (.net ∉ S) List.nodup_range'._auto_1) :
    Awaits d f c :=
  ⟨h.out.trans ht.out, (Dev.session?_isSome_of_steady (ht.net hn) c.sid).trans h.session⟩

theorem ready.awaits {d : Dev} {seq : Nat} {op : BitVec 16} {c : Cap} (h : ready d seq op c) :
    Awaits d (d.dispatchAs c c.cls) c.sent :=
  Awaits.touch ⟨List.suffix_refl _, h.2.2.2.2⟩ (d.dispatchAs_touch c c.cls)

/-- The reply of an admin opcode answers its capsule. -/
theorem Awaits.answered {d e : Dev} {c : Cap} (h : Awaits d e c) (hp : c.partner = none) (r : Reply) (hm : r.more = false) :
    Machine.answered d (e.adminReply c r) c r.status r.version r.data :=
  (e.finishFree_answered c r hp h.session hm).earlier h.out

/-- What an admin reply leaves: of the queues its capsule goes, of the network its charges. -/
theorem Dev.adminReply_touch (d : Dev) (c : Cap) (r : Reply) (h : c.partner = none) : Touch [.que, .net] d (d.adminReply c r) := by
  exact .next (.next (.sent (.of (d.dropCap_touch c)) (d.finish_sent c r h)) (Dev.endCharge_touch ..)) (Dev.freeDir_touch ..)

/-- The same, with the mode reported after it. -/
theorem Dev.adminReply_reported (d : Dev) (c : Cap) (r : Reply) (h : c.partner = none) :
    Touch [.que, .net, .par] d (d.adminReply c r).reportMode :=
  (d.adminReply_touch c r h).of.trans (Dev.reportMode_touch _).of

/-- An admin opcode that ends in a reply answers its capsule, and of what it did the reply and the report change the queues, the
network and the mode. -/
theorem ready.replied {d e : Dev} {seq : Nat} {op : BitVec 16} {c : Cap} (h : ready d seq op c) {S : List DevPart}
    (ht : Touch S (d.dispatchAs c c.cls) e) (r : Reply) (hn : autoParam (.net ∉ S) List.nodup_range'._auto_1) (hm : autoParam (r.more = false) List.TFAE.out._auto_1) :
    Machine.answered d (e.adminReply c.sent r).reportMode c r.status r.version r.data ∧
      Touch [.que, .net, .par] e (e.adminReply c.sent r).reportMode :=
  ⟨((h.awaits.touch ht hn).answered h.2.2.2.1 r hm).reported, e.adminReply_reported _ r h.2.2.2.1⟩

theorem opIs_self {ops : List Nat} {n : Nat} {c : Cap} (h : c.value.field 0 1 = n) : opIs ops n c = true := by
  simp [opIs, h]

theorem Dev.check_none {d : Dev} {c : Cap} {o : Option (BitVec 16)} (h : o = none) (f : Dev → Dev) : d.check c o f = f d := by
  rw [h]
  rfl

end Sys2Proof.Machine
end

section
/-! Writers are dispatched: they wait for their turn, and Drift stands (R122, R127). -/

namespace Sys2Proof.Machine

/-- The capsule of a dispatch stands as a dispatched one. -/
theorem ready.dispatched {d : Dev} {seq : Nat} {op : BitVec 16} {c : Cap} (h : ready d seq op c) :
    ∃ y, capNow (d.dispatchAs c c.cls) c y ∧ y.seq = seq ∧ y.stage = .dispatched := by
  refine ⟨{ c with stage := .dispatched, window := d.que.window }, ⟨?_, rfl, rfl⟩, (Dev.capBySeq_seq h.1).1, rfl⟩
  rw [Dev.dispatchAs_caps]
  exact List.mem_map.mpr ⟨c, Dev.capBySeq_mem h.1, by simp⟩

theorem Dev.writerGo_que (c : Cap) (d : Dev) : (Dev.writerGo c d).que = d.que := rfl

/-- A writer that may be dispatched waits for its turn, and Drift stands. -/
theorem ready.writer {s : State} {seq : Nat} {op : BitVec 16} {c : Cap} (h : ready s.dev seq op c) {ok : Hdr → Bool}
    (hok : ok c.hdr = true) :
    ∃ t, s.run (fun d => d.dispatch seq ok Dev.writerGo) = .next t ∧ (∃ y, capNow t.dev c y ∧ y.seq = seq ∧ y.stage = .dispatched) ∧
      t.dev.que.drift = s.dev.que.drift := by
  refine ⟨_, State.run_of_eq (Dev.dispatch_ready h ok hok Dev.writerGo), ?_⟩
  have hq : (Dev.writerGo c.sent (s.dev.dispatchAs c c.cls)).reportMode.que = (s.dev.dispatchAs c c.cls).que := by
    rw [Dev.reportMode_que, Dev.writerGo_que]
  obtain ⟨y, ⟨hy, hplace⟩, hseq⟩ := h.dispatched
  exact ⟨⟨y, ⟨hq ▸ hy, hplace⟩, hseq⟩, hq ▸ Dev.dispatchAs_drift ..⟩

/-- Settles O8: each opcode is a dispatch of a writer. -/
theorem writersAreDispatched : Obligations.WritersAreDispatched := by
  refine ⟨?put, ?cas, ?patch, ?commit, ?delete, ?secure⟩ <;> intro s seq c h
  case put => exact h.writer (by simp [h.2.1])
  case cas => exact h.writer (by simp [h.2.1])
  case patch => exact h.writer (by simp [h.2.1])
  case commit => exact h.writer (by simp [h.2.1])
  case delete => exact fun hs => h.writer (by simp [h.2.1, hs])
  case secure => exact fun hs => h.writer (by simp [h.2.1, hs])

end Sys2Proof.Machine
end

section
/-! `POWER_CTL`: each op on a block that is admitted (R321). -/

namespace Sys2Proof.Machine

/-- An admitted block runs its op on the dispatched capsule. -/
theorem Dev.powerCtl_ready {d : Dev} {seq : Nat} {c : Cap} (h : ready d seq Op.powerCtl c) (hk : d.powerCtlCheck c = none) {n : Nat}
    (ho : c.value.field 0 1 = n) :
    d.admin seq Op.powerCtl (opIs powerOps n) powerCtlGo = (d.dispatchAs c c.cls).powerOp c.sent := by
  rw [Dev.admin_ready h (opIs_self ho)]
  exact Dev.check_none (by rw [Dev.dispatchAs_eq]; exact hk) _

/-- The status is answered as `OK`, and of the power state the reply changes nothing. -/
theorem Dev.powerReply_effect {d e : Dev} {c : Cap} (h : Awaits d e c) (hp : c.partner = none) :
    Machine.answered d (e.powerReply c).reportMode c Status.ok 0 e.powerStatus ∧ (e.powerReply c).reportMode.pow = e.pow := by
  refine ⟨(h.answered hp (Reply.okData e.powerStatus) rfl).reported, ?_⟩
  rw [Dev.reportMode_pow]
  exact (e.adminReply_touch c _ hp).pow (by simp)

/-- An op that sets the power state and answers with the status. -/
theorem ready.powerSet {d : Dev} {seq : Nat} {op : BitVec 16} {c : Cap} (h : ready d seq op c) {p q : Power} (hq : p = q) :
    (({ d.dispatchAs c c.cls with pow := p } : Dev).powerReply c.sent).reportMode.pow = q ∧
      ∃ b, answered d (({ d.dispatchAs c c.cls with pow := p } : Dev).powerReply c.sent).reportMode c Status.ok 0 b := by
  have hw : Awaits d { d.dispatchAs c c.cls with pow := p } c.sent := h.awaits.touch (S := [.pow]) (by constructor <;> simp)
  obtain ⟨ha, hpow⟩ := Dev.powerReply_effect hw h.2.2.2.1
  exact ⟨hpow.trans hq, _, ha⟩

theorem Dev.dispatchAs_powerStatus (d : Dev) (c : Cap) (cls : Nat) : (d.dispatchAs c cls).powerStatus = d.powerStatus := by
  obtain ⟨_, _, _, _, _, _, _, _, h⟩ := d.dispatchAs_exists c cls
  rw [h]
  rfl

/-- The margin of a capacitor test counts the versions in Drift. -/
theorem Dev.testMargin_eq_of_drift {d e : Dev} (hp : e.pow = d.pow) (hd : e.que.drift = d.que.drift) : e.testMargin = d.testMargin := by
  unfold Dev.testMargin Queue.earlyContent Queue.earlyPredecessors
  rw [hp, hd]

/-- A `CAP_TEST` waits for the test that runs, or that it starts. -/
theorem Dev.capTestOp_waits {d : Dev} {c : Cap} (h : d.pow.bank.testRunning = true ∨ d.testMargin = true) :
    (d.capTestOp c).pow.bank.testRunning = true ∧ (d.capTestOp c).pow.bank.testWaiters = d.pow.bank.testWaiters ++ [c.seq] := by
  unfold Dev.capTestOp
  split
  · next hr => exact ⟨hr, rfl⟩
  · next hr =>
    rw [if_pos (h.resolve_left hr)]
    exact ⟨rfl, rfl⟩

/-- Settles O19: each op runs on the dispatched capsule and, but for `CAP_TEST`, sets its own figure and answers with the status. -/
theorem powerControlOpsTakeEffect : Obligations.PowerControlOpsTakeEffect := by
  refine ⟨?status, ?descend, ?wake, ?hold, ?test, ?alarm⟩ <;> intro s seq c h hk ho <;> have hr := Dev.powerCtl_ready h hk ho <;>
    simp only [Dev.powerOp, ho] at hr
  case status =>
    refine ⟨_, State.run_of_eq hr, ?_⟩
    obtain ⟨ha, hpow⟩ := Dev.powerReply_effect h.awaits h.2.2.2.1
    rw [Dev.dispatchAs_powerStatus] at ha
    rw [Dev.dispatchAs_pow] at hpow
    exact ⟨ha, hpow⟩
  case descend => exact ⟨_, State.run_of_eq hr, h.powerSet (by rw [Dev.dispatchAs_pow])⟩
  case wake => exact ⟨_, State.run_of_eq hr, h.powerSet (by rw [Dev.dispatchAs_pow])⟩
  case hold => exact ⟨_, State.run_of_eq hr, h.powerSet (by rw [Dev.dispatchAs_pow, Dev.dispatchAs_clk])⟩
  case alarm => exact ⟨_, State.run_of_eq hr, h.powerSet (by rw [Dev.dispatchAs_pow])⟩
  case test =>
    intro hw
    refine ⟨_, State.run_of_eq hr, ?_⟩
    have hm := Dev.testMargin_eq_of_drift (Dev.dispatchAs_pow s.dev c c.cls) (Dev.dispatchAs_drift s.dev c c.cls)
    have ht := Dev.capTestOp_waits (c := c.sent) (by rw [hm, Dev.dispatchAs_pow]; exact hw)
    rw [Dev.dispatchAs_pow] at ht
    rw [Dev.reportMode_pow, ← (Dev.capBySeq_seq h.1).1]
    exact ht

end Sys2Proof.Machine
end

section
/-! Delivery of an update: the header, the chunks, the verification, the lease (R406 to R411). -/

namespace Sys2Proof.Machine

theorem Update.reply_plain {u : Update} {st : BitVec 16} (h : st ≠ Status.updateBusy) : u.reply st = Reply.plain st :=
  if_neg h

/-- A source that holds the lease is not turned away. -/
theorem Update.leaseRefuses_of_holds {u : Update} {s : UpdSource} (h : u.holds s = true) (chunk : Bool) :
    u.leaseRefuses s chunk = false := by
  simp [Update.leaseRefuses, h]

/-! ### `UPD_BEGIN` -/

theorem Dev.acceptHeader_upd (d : Dev) (s : UpdSource) (hdr : Bytes) :
    (d.acceptHeader s hdr).upd = { d.upd with
      state := 1, staging := some ⟨hdr, []⟩, lease := some ⟨s, d.clk.ns, d.clk.ns⟩, contributors := [], source := some s, started := d.clk.ns } := by
  simp [Dev.acceptHeader]

theorem Dev.acceptHeader_touch (d : Dev) (s : UpdSource) (hdr : Bytes) : Touch [.upd] d (d.acceptHeader s hdr) :=
  ((Touch.refl _ d).setUpd _).raise ..

/-- In IDLE a header that passes its checks is accepted. -/
theorem Dev.updBeginBy_idle {d : Dev} {s : UpdSource} {hdr : Bytes} {certOk signatureOk : Bool}
    (hk : hdrCheck hdr certOk signatureOk d.upd.floor = none) (h0 : d.upd.state = 0) :
    d.updBeginBy s hdr certOk signatureOk = (Status.ok, d.acceptHeader s hdr) := by
  unfold Dev.updBeginBy
  simp [hk, h0]

/-! ### `UPD_CHUNK` -/

theorem Dev.updProgress_touch (d : Dev) (s : UpdSource) : Touch [.upd] d (d.updProgress s) := by
  unfold Dev.updProgress
  split
  · exact (Touch.refl _ d).setUpd _
  · exact .refl _ d

theorem Dev.updProgress_state (d : Dev) (s : UpdSource) : (d.updProgress s).upd.state = d.upd.state := by
  unfold Dev.updProgress
  split <;> rfl

theorem Dev.updProgress_staging (d : Dev) (s : UpdSource) : (d.updProgress s).upd.staging = d.upd.staging := by
  unfold Dev.updProgress
  split <;> rfl

theorem Dev.updProgress_slots (d : Dev) (s : UpdSource) : (d.updProgress s).upd.slots = d.upd.slots := by
  unfold Dev.updProgress
  split <;> rfl

/-- A chunk changes the update alone. -/
theorem Dev.updChunkBy_touch (d : Dev) (s : UpdSource) (offset : Nat) (b : Bytes) :
    Touch [.upd] d (d.updChunkBy s offset b).2 := by
  unfold Dev.updChunkBy
  dsimp only
  split
  · exact .refl _ d
  split
  · exact .refl _ d
  split
  · exact .refl _ d
  split
  · exact .refl _ d
  split
  · exact .refl _ d
  split
  · exact (Dev.raise_sent ..).touch _
  split
  · exact Dev.updProgress_touch ..
  · split
    · refine .raise (.setUpd (.next ?_ (Dev.updProgress_touch ..)) _) ..
      exact (Touch.refl _ d).setUpd _
    · refine .next ?_ (Dev.updProgress_touch ..)
      exact (Touch.refl _ d).setUpd _

section
variable {d : Dev} {s : UpdSource} {n : Nat} {b : Bytes} {st : Staging} (h1 : d.upd.state = 1) (hst : d.upd.staging = some st)
  (hs : d.upd.holds s = true) (hn : 0 < n) (hl : 65536 * n < pkgLength st.header) (hb : b.length = chunkLength st.header n)
include h1 hst hs hn hl hb

/-- A chunk whose digest does not match is refused, and the update stays as it is. -/
theorem Dev.updChunkBy_bad (hg : chunkGood st.header n b = false) :
    (d.updChunkBy s (65536 * n) b).1 = Status.imageRejected ∧ (d.updChunkBy s (65536 * n) b).2.upd = d.upd := by
  have hn0 : n ≠ 0 := hn.ne'
  have hl' : ¬ pkgLength st.header ≤ 65536 * n := Nat.not_le.mpr hl
  unfold Dev.updChunkBy
  simp [Update.leaseRefuses_of_holds hs, h1, hst, hn0, hl', hb, hg]

/-- A new chunk whose digest matches is staged. -/
theorem Dev.updChunkBy_good (hg : chunkGood st.header n b = true) (hnew : st.chunks.any (fun x => x.1 == n) = false) :
    (d.updChunkBy s (65536 * n) b).1 = Status.ok ∧
      (d.updChunkBy s (65536 * n) b).2.upd.staging = some ⟨st.header, st.chunks ++ [(n, b)]⟩ := by
  have hn0 : n ≠ 0 := hn.ne'
  have hl' : ¬ pkgLength st.header ≤ 65536 * n := Nat.not_le.mpr hl
  unfold Dev.updChunkBy
  simp [Update.leaseRefuses_of_holds hs, h1, hst, hn0, hl', hb, hg, hnew]
  split <;> simp [Dev.updProgress_staging]

end

/-! ### `UPD_VERIFY` -/

theorem Dev.install_fst (d e : Dev) (st : Staging) (slot : Fin 2) : (e.install st slot).1 = (d.install st slot).1 := by
  unfold Dev.install
  dsimp only
  split <;> rfl

theorem Dev.install_good {d : Dev} {st : Staging} {slot : Fin 2} (h : (d.install st slot).1 = true) :
    (d.install st slot).2 = { d with upd := { d.upd with slots := d.upd.slots.set slot (some ⟨st.package, true⟩) } } := by
  unfold Dev.install at h ⊢
  dsimp only at h ⊢
  split
  · rfl
  · next hn => rw [if_neg hn] at h; cases h

theorem Dev.install_bad {d : Dev} {st : Staging} {slot : Fin 2} (h : (d.install st slot).1 = false) :
    (d.install st slot).2.upd.state = 1 ∧ Touch [.upd] d (d.install st slot).2 := by
  unfold Dev.install at h ⊢
  dsimp only at h ⊢
  split
  · next hp => rw [if_pos hp] at h; cases h
  · exact ⟨rfl, (Touch.refl _ d).setUpd _⟩

theorem Dev.install_touch (d : Dev) (st : Staging) (slot : Fin 2) : Touch [.upd] d (d.install st slot).2 := by
  unfold Dev.install
  dsimp only
  split <;> exact (Touch.refl _ d).setUpd _

/-- A verification changes the update, and draws the time that it took. -/
theorem Dev.updVerifyBy_touch (d : Dev) (s : UpdSource) : Touch [.upd, .fresh] d (d.updVerifyBy s).2 := by
  unfold Dev.updVerifyBy
  dsimp only
  split
  · exact .refl _ d
  split
  · exact .refl _ d
  · next _ st _ _ =>
    have hi := d.install_touch st d.upd.otherSlot
    split
    · next heq =>
      rw [heq] at hi
      exact .raise (.draw (.next (.setUpd (.of hi) _) (Dev.updProgress_touch ..))) ..
    · next heq =>
      rw [heq] at hi
      exact hi.of
  · split
    · exact (Dev.updProgress_touch ..).of
    · exact .refl _ d
  · exact .refl _ d

section
variable {d : Dev} {s : UpdSource} {st : Staging} (h2 : d.upd.state = 2) (hst : d.upd.staging = some st) (hs : d.upd.holds s = true)
include h2 hst hs

/-- A package that is intact is installed. -/
theorem Dev.updVerifyBy_good (hi : (d.install st d.upd.otherSlot).1 = true) :
    (d.updVerifyBy s).1 = Status.ok ∧ (d.updVerifyBy s).2.upd.state = 3 ∧
      (d.updVerifyBy s).2.upd.slots = d.upd.slots.set d.upd.otherSlot (some ⟨st.package, true⟩) := by
  have he : d.install st d.upd.otherSlot =
      (true, { d with upd := { d.upd with slots := d.upd.slots.set d.upd.otherSlot (some ⟨st.package, true⟩) } }) :=
    Prod.ext hi (Dev.install_good hi)
  unfold Dev.updVerifyBy
  simp [Update.leaseRefuses_of_holds hs, h2, hst, he, Dev.draw, Dev.updProgress_state, Dev.updProgress_slots]

/-- A package that is not intact is refused, and its delivery goes on. -/
theorem Dev.updVerifyBy_bad (hi : (d.install st d.upd.otherSlot).1 = false) :
    (d.updVerifyBy s).1 = Status.imageRejected ∧ (d.updVerifyBy s).2.upd.state = 1 := by
  obtain ⟨d1, he⟩ : ∃ d1, d.install st d.upd.otherSlot = (false, d1) := ⟨_, Prod.ext hi rfl⟩
  have h1 := (Dev.install_bad hi).1
  rw [he] at h1
  unfold Dev.updVerifyBy
  simpa [Update.leaseRefuses_of_holds hs, h2, hst, he] using h1

end

/-- An update opcode that ends with another status than `UPDATE_BUSY` is answered with it alone. -/
theorem ready.updEnded {d : Dev} {seq : Nat} {op : BitVec 16} {c : Cap} (h : ready d seq op c) {S : List DevPart}
    {e : BitVec 16 × Dev} (ht : Touch S (d.dispatchAs c c.cls) e.2) {st : BitVec 16} (he : e.1 = st) (hb : st ≠ Status.updateBusy)
    (hn : autoParam (.net ∉ S) List.nodup_range'._auto_1) :
    answered d (Dev.updEnd c.sent e).reportMode c st 0 [] ∧ (Dev.updEnd c.sent e).reportMode.upd = e.2.upd := by
  unfold Dev.updEnd
  rw [he, Update.reply_plain hb]
  obtain ⟨ha, hu⟩ := h.replied ht (Reply.plain st) hn
  exact ⟨ha, hu.upd (by simp)⟩

theorem updBeginGo_accepted {c : Cap} {d : Dev} {certOk signatureOk : Bool} (hl : c.value.length = 65536)
    (hk : hdrCheck c.value certOk signatureOk d.upd.floor = none) (h0 : d.upd.state = 0) :
    updBeginGo certOk signatureOk c d = (d.acceptHeader c.source c.value).adminReply c
      (Reply.okData ((d.acceptHeader c.source c.value).beginData c.source)) := by
  unfold updBeginGo
  rw [if_neg (not_not.mpr hl), Dev.updBeginBy_idle hk h0]
  rfl

theorem updBegin_opens (s : State) (seq : Nat) (c : Cap) (certOk signatureOk : Bool) (h : ready s.dev seq Op.updBegin c)
    (hl : c.value.length = 65536) (hk : hdrCheck c.value certOk signatureOk s.dev.upd.floor = none) (h0 : s.dev.upd.state = 0) :
    ∃ t, exec (.updBegin seq certOk signatureOk) s = .next t ∧ t.dev.upd.state = 1 ∧ t.dev.upd.staging = some ⟨c.value, []⟩ ∧
      t.dev.upd.lease = some ⟨c.source, s.dev.clk.ns, s.dev.clk.ns⟩ ∧ ∃ b, answered s.dev t.dev c Status.ok 0 b := by
  have hg := updBeginGo_accepted (c := c.sent) (d := s.dev.dispatchAs c c.cls) hl (by rw [Dev.dispatchAs_upd]; exact hk)
    (by rw [Dev.dispatchAs_upd]; exact h0)
  refine ⟨_, State.run_of_eq ((Dev.admin_ready h rfl _).trans hg), ?_⟩
  obtain ⟨ha, ht⟩ := h.replied (Dev.acceptHeader_touch _ c.source c.value) (Reply.okData _)
  have hu := ht.upd (by simp)
  rw [Dev.acceptHeader_upd, Dev.dispatchAs_clk] at hu
  exact ⟨congrArg Update.state hu, congrArg Update.staging hu, congrArg Update.lease hu, _, ha⟩

theorem updChunk_stages (s : State) (seq n : Nat) (c : Cap) (st : Staging) (h : ready s.dev seq Op.updChunk c)
    (h1 : s.dev.upd.state = 1) (hst : s.dev.upd.staging = some st) (hs : s.dev.upd.holds c.source = true)
    (ho : c.hdr.offset.toNat = 65536 * n) (hn : 0 < n) (hl : 65536 * n < pkgLength st.header)
    (hb : c.value.length = chunkLength st.header n) (hnew : st.chunks.any (fun x => x.1 == n) = false) :
    ∃ t, exec (.updChunk seq) s = .next t ∧
      (chunkGood st.header n c.value = true → t.dev.upd.staging = some ⟨st.header, st.chunks ++ [(n, c.value)]⟩ ∧
        answered s.dev t.dev c Status.ok 0 []) ∧
      (chunkGood st.header n c.value = false → t.dev.upd.staging = some st ∧
        answered s.dev t.dev c Status.imageRejected 0 []) := by
  have hgo : updChunkGo c.sent (s.dev.dispatchAs c c.cls) =
      Dev.updEnd c.sent ((s.dev.dispatchAs c c.cls).updChunkBy c.source (65536 * n) c.value) := by
    unfold updChunkGo
    rw [ho]
    rfl
  refine ⟨_, State.run_of_eq ((Dev.admin_ready h rfl _).trans hgo), ?_⟩
  rw [← Dev.dispatchAs_upd s.dev c c.cls] at h1 hst hs
  have ht := Dev.updChunkBy_touch (s.dev.dispatchAs c c.cls) c.source (65536 * n) c.value
  constructor <;> intro hg
  · obtain ⟨hr, hu⟩ := Dev.updChunkBy_good h1 hst hs hn hl hb hg hnew
    obtain ⟨ha, hk⟩ := h.updEnded ht hr (by decide)
    exact ⟨(congrArg Update.staging hk).trans hu, ha⟩
  · obtain ⟨hr, hu⟩ := Dev.updChunkBy_bad h1 hst hs hn hl hb hg
    obtain ⟨ha, hk⟩ := h.updEnded ht hr (by decide)
    exact ⟨(congrArg Update.staging (hk.trans hu)).trans hst, ha⟩

theorem updVerify_installs (s : State) (seq : Nat) (c : Cap) (st : Staging) (h : ready s.dev seq Op.updVerify c)
    (h2 : s.dev.upd.state = 2) (hst : s.dev.upd.staging = some st) (hs : s.dev.upd.holds c.source = true) :
    ∃ t, exec (.updVerify seq) s = .next t ∧
      ((s.dev.install st s.dev.upd.otherSlot).1 = true → t.dev.upd.state = 3 ∧
        t.dev.upd.slots.get s.dev.upd.otherSlot = some ⟨st.package, true⟩ ∧ answered s.dev t.dev c Status.ok 0 []) ∧
      ((s.dev.install st s.dev.upd.otherSlot).1 = false → t.dev.upd.state = 1 ∧
        answered s.dev t.dev c Status.imageRejected 0 []) := by
  refine ⟨_, State.run_of_eq (Dev.admin_ready h rfl _), ?_⟩
  rw [← Dev.install_fst s.dev (s.dev.dispatchAs c c.cls)]
  rw [← Dev.dispatchAs_upd s.dev c c.cls] at h2 hst hs ⊢
  have ht := Dev.updVerifyBy_touch (s.dev.dispatchAs c c.cls) c.source
  constructor <;> intro hg
  · obtain ⟨hr, hs3, hsl⟩ := Dev.updVerifyBy_good h2 hst hs hg
    obtain ⟨ha, hk⟩ := h.updEnded ht hr (by decide)
    refine ⟨(congrArg Update.state hk).trans hs3, ?_, ha⟩
    exact (congrArg (fun u : Update => u.slots.get _) hk).trans (by rw [hsl]; exact vector_get_set_self ..)
  · obtain ⟨hr, hs1⟩ := Dev.updVerifyBy_bad h2 hst hs hg
    obtain ⟨ha, hk⟩ := h.updEnded ht hr (by decide)
    exact ⟨(congrArg Update.state hk).trans hs1, ha⟩

theorem updLeaseLapse_ends (s : State) (l : Lease) (hl : s.dev.upd.lease = some l) (h4 : s.dev.upd.state ≠ 4) :
    ∃ t, exec .updLeaseLapse s = .next t ∧ t.dev.upd.lease = none ∧ t.dev.upd.contributors = [] ∧
      t.dev.upd.staging = s.dev.upd.staging := by
  refine ⟨_, State.run_of_eq (f := updLeaseLapseEff) rfl, ?_⟩
  unfold updLeaseLapseEff
  rw [hl]
  simp [h4]

/-- Settles O30: each delivery step has its effect on the update, and its reply changes nothing of it. -/
theorem updatesAreDelivered : Obligations.UpdatesAreDelivered :=
  ⟨updBegin_opens, updChunk_stages, updVerify_installs, updLeaseLapse_ends⟩

/-! ### Network boot in Recovery -/

theorem Dev.tftpStart_mgmt (d : Dev) (t : Tftp) : (d.tftpStart t).mgmt = d.mgmt := by
  unfold Dev.tftpStart
  dsimp only
  split <;> rfl

theorem tftpBlock_taken (s : State) (x : Tftp) (b : Bytes) (certOk signatureOk : Bool) (hr : s.dev.par.run = .recovery)
    (hx : s.dev.upd.tftp = some x) (hw : x.waiting = false) (hs : x.server.isSome = true)
    (hz : x.nextBlock = 1 ∨ x.blocksize = b.length) (h1 : 512 ≤ b.length) (h2 : b.length ≤ 1468)
    (h3 : x.received.length + b.length < 65536) :
    ∃ t, exec (.tftpBlock x.nextBlock b certOk signatureOk) s = .next t ∧ emits s.dev t.dev (.tftpAck x.nextBlock) ∧
      t.dev.upd.tftp = some { x with blocksize := b.length, nextBlock := x.nextBlock + 1, received := x.received ++ b } := by
  have hsize : (if x.nextBlock = 1 then b.length else x.blocksize) = b.length := by
    split
    · rfl
    · exact hz.resolve_left ‹_›
  have hn : x.server.isNone = false := by simpa using hs
  have he : tftpBlockEff x.nextBlock b certOk signatureOk s.dev =
      (s.dev.setTftp { x with blocksize := b.length, nextBlock := x.nextBlock + 1, received := x.received ++ b }).emitOut
        (.tftpAck x.nextBlock) := by
    unfold tftpBlockEff
    have h1' : ¬ b.length < 512 := Nat.not_lt.mpr h1
    have h2' : ¬ 1468 < b.length := Nat.not_lt.mpr h2
    simp [hr, hx, hw, hn, hsize, h1', h2', h3]
  refine ⟨_, State.run_of_eq he, (emits_emitOut ..).reported, ?_⟩
  rw [Dev.reportMode_upd]
  rfl

theorem tftpBlock_again (s : State) (x : Tftp) (n : Nat) (b : Bytes) (certOk signatureOk : Bool) (hr : s.dev.par.run = .recovery)
    (hx : s.dev.upd.tftp = some x) (hw : x.waiting = false) (hs : x.server.isSome = true) (hn : n + 1 = x.nextBlock) :
    ∃ t, exec (.tftpBlock n b certOk signatureOk) s = .next t ∧ emits s.dev t.dev (.tftpAck n) ∧ t.dev.upd.tftp = some x := by
  have hs' : x.server.isNone = false := by simpa using hs
  have he : tftpBlockEff n b certOk signatureOk s.dev = s.dev.emitOut (.tftpAck n) := by
    unfold tftpBlockEff
    simp [hr, hx, hw, hs', hn]
  refine ⟨_, State.run_of_eq he, (emits_emitOut ..).reported, ?_⟩
  rw [Dev.reportMode_upd]
  exact hx

theorem tftpRetry_requests (s : State) (x : Tftp) (srv : Nat) (hr : s.dev.par.run = .recovery) (hx : s.dev.upd.tftp = some x)
    (hw : x.waiting = true) (hs : x.server = some srv) :
    ∃ t, exec .tftpRetryTimer s = .next t ∧ emits s.dev t.dev (.tftpRequest srv x.file 1468) ∧
      ∃ y, t.dev.upd.tftp = some y ∧ y.waiting = false ∧ y.nextBlock = 1 ∧ y.received = [] := by
  have he : tftpRetryEff s.dev = (s.dev.setTftp { x with waiting := false, received := [], nextBlock := 1, done := 0, blocksize := 0 }).emitOut
      (.tftpRequest srv x.file 1468) := by
    unfold tftpRetryEff Dev.tftpStart
    simp [hr, hx, hw, hs]
  refine ⟨_, State.run_of_eq he, (emits_emitOut ..).reported,
    { x with waiting := false, received := [], nextBlock := 1, done := 0, blocksize := 0 }, ?_, rfl, rfl, rfl⟩
  rw [Dev.reportMode_upd]
  rfl

theorem dhcpReply_addresses (s : State) (x : Tftp) (addr : Nat) (srv : Option Nat) (file : Option Bytes)
    (h : (s.dev.par.run = .recovery ∧ s.dev.upd.tftp = some x) ∨ (s.dev.par.run = .running ∧ s.dev.mgmt.vaneUp = true ∧
      s.dev.mgmt.linkUp = true ∧ s.dev.pflag P.mgmtAddrMode = true ∧ s.dev.pow.rung ≠ .glaze)) :
    ∃ t, exec (.dhcpReply addr srv file) s = .next t ∧ t.dev.mgmt.address = some addr := by
  refine ⟨_, State.run_of_eq (f := dhcpReplyEff addr srv file) rfl, ?_⟩
  have hm : (dhcpReplyEff addr srv file s.dev).mgmt.address = some addr := by
    unfold dhcpReplyEff
    rcases h with ⟨hr, hx⟩ | ⟨hr, hv, hl, hf, hg⟩
    · simp only [hr, hx]
      split_ifs <;> simp [Dev.tftpFail, Dev.setTftp, Dev.tftpStart_mgmt]
    · simp [hr, hv, hl, hf, hg]
  exact (congrArg Mgmt.address ((Dev.reportMode_touch _).mgmt (by simp))).trans hm

/-- Settles O32: a block is stored or only acknowledged by its number, and a start asks the server again from block 1. -/
theorem recoveryLoadsByTftp : Obligations.RecoveryLoadsByTftp :=
  ⟨tftpBlock_taken, tftpBlock_again, tftpRetry_requests, dhcpReply_addresses⟩

end Sys2Proof.Machine
end

section
/-! The mode, the time sources and the light rungs: what their operations leave unchanged. -/

namespace Sys2Proof.Machine

theorem Dev.refreshMode_touch (d : Dev) (cause : Nat) : Touch [.par] d (d.refreshMode cause) := by
  unfold Dev.refreshMode
  dsimp only
  split
  · exact .refl _ d
  · exact .raise (.notifyAll (.setMode (.refl _ d) _) ..) ..

theorem Dev.setSource_touch (d : Dev) (s : TimeSource) (ms : Int) : Touch [.clk] d (d.setSource s ms) := by
  unfold Dev.setSource
  split
  · exact .refl _ d
  · exact .raise (.setClk (.refl _ d) _) ..

theorem Dev.persistTime_touch (d : Dev) : Touch [.clk] d d.persistTime := (Touch.refl _ d).setClk _

theorem Dev.rungNotice_sent (d : Dev) (r : Rung) : Sent d (d.rungNotice r) := d.notifyAll_sent ..

theorem Dev.measureExit_touch (d : Dev) (r : Rung) : Touch [.pow, .fresh] d (d.measureExit r).2 :=
  .setPow (.draw (.refl _ d)) _

theorem Dev.pumps_sent (d : Dev) (l : List Session) : Sent d (l.foldl (fun (d : Dev) s => d.pump s.sid) d) :=
  Sent.foldl (fun d s => d.pump_sent s.sid) l d

theorem Dev.wakeLight_touch (d : Dev) (trigger : Nat) : Touch [.pow, .fresh] d (d.wakeLight trigger) := by
  unfold Dev.wakeLight
  split
  · refine .sent (.raise (.sent (.setPow (d.measureExit_touch _) _) (Dev.rungNotice_sent ..)) ..) (Dev.pumps_sent ..)
  · exact .refl _ d

theorem Dev.wakeLight_of_not {d : Dev} (h : ¬ (d.pow.rung = .haze ∨ d.pow.rung = .fog)) (trigger : Nat) : d.wakeLight trigger = d := by
  unfold Dev.wakeLight
  exact if_neg h

/-- From Haze and Fog the drive wakes to Clear. -/
theorem Dev.wakeLight_rung {d : Dev} (h : d.pow.rung = .haze ∨ d.pow.rung = .fog) (trigger : Nat) : (d.wakeLight trigger).pow.rung = .clear := by
  unfold Dev.wakeLight
  rw [if_pos h]
  dsimp only
  rw [core_pow (Dev.pumps_sent ..).core]
  simp [Dev.rungNotice]

theorem Dev.wakeLight_rung_of_clear {d : Dev} (h : d.pow.rung = .clear) (trigger : Nat) : d.wakeLight trigger = d :=
  Dev.wakeLight_of_not (by simp [h]) trigger

theorem Dev.refreshEarly_touch (d : Dev) : Touch [.que] d d.refreshEarly := by
  unfold Dev.refreshEarly
  dsimp only
  split
  · exact .raise (.setQue (.refl _ d) _) ..
  split
  · exact .raise (.setQue (.refl _ d) _) ..
  · exact .refl _ d

end Sys2Proof.Machine
end

section
/-! What the operations that every family shares leave unchanged: replies, charges, the end of a session. -/

namespace Sys2Proof.Machine

theorem Dev.countSearch_sent (d : Dev) (t : GTable) (hit : Bool) : Sent d (d.countSearch t hit) :=
  (d.bump_sent ..).trans (Dev.bump_sent ..)

theorem Dev.countMulti_sent (d : Dev) (n : Nat) : Sent d (d.countMulti n) := d.bump_sent ..

theorem Dev.wires_sent (d : Dev) (l : List OutPacket) : Sent d (l.foldl Dev.wire d) := Sent.foldl Dev.wire_sent l d

theorem Dev.releaseHeld_touch (d : Dev) : Touch [.net] d d.releaseHeld :=
  .sent (.setNet (.refl _ d) _) (Dev.wires_sent ..)

@[simp] theorem Session.absorb_sid (s : Session) (n : Nat) : (s.absorb n).sid = s.sid := by
  induction n generalizing s with
  | zero => rfl
  | succ n ih =>
    unfold Session.absorb
    split
    · exact ih _
    · rfl

theorem Dev.endRange_touch (d : Dev) (sid : BitVec 32) (start len : Nat) : Touch [.net] d (d.endRange sid start len) :=
  d.modSession_touch _ _ (fun _ => Session.absorb_sid _ _)

theorem Dev.handCap_touch (d : Dev) (c : Cap) (why : FwCause) : Touch [.que] d (d.handCap c why) := by
  unfold Dev.handCap
  dsimp only
  split
  · exact .refl _ d
  · exact .setQue (.refl _ d) _

theorem Dev.handOver_touch (d : Dev) (seq : Nat) (why : FwCause) : Touch [.que] d (d.handOver seq why) := by
  unfold Dev.handOver
  split
  · exact d.handCap_touch ..
  · exact .refl _ d

theorem Dev.cwBare_touch (d : Dev) (t : CwType) (b : Bytes) : Touch [.mir] d (d.cwBare t b) :=
  .emitOut (.refl _ d) _

theorem Dev.cwFrame_touch (d : Dev) (t : CwType) (stream : Nat) (b : Bytes) : Touch [.mir] d (d.cwFrame t stream b) :=
  .emitOut (.setMir (.refl _ d) _) _

theorem Dev.cwSend_touch (d : Dev) (t : CwType) (stream : Nat) (b : Bytes) (o : Out) : Touch [.mir] d (d.cwSend t stream b o) :=
  .emitOut (Touch.foldl (fun _ _ => Dev.cwFrame_touch ..) _ d) _

theorem Dev.cwAnswer_touch (d : Dev) (id : Nat) (st : BitVec 16) (version : Nat) (b : Bytes) : Touch [.mir] d (d.cwAnswer id st version b) :=
  d.cwSend_touch ..

/-- A final reply takes its capsule from the queues; one that answers the partner goes over Crosswind. -/
theorem Dev.finish_touch (d : Dev) (c : Cap) (r : Reply) : Touch [.que, .mir] d (d.finish c r) := by
  unfold Dev.finish
  split
  · exact (Dev.cwAnswer_touch ..).of.trans (Dev.dropCap_touch ..).of
  · exact .next (.sent (.sent (.refl _ d) (Dev.placeBytes_sent ..)) (Dev.enterHist_sent ..)) (Dev.dropCap_touch ..)

theorem Dev.finishFree_touch (d : Dev) (c : Cap) (r : Reply) : Touch [.que, .net, .mir] d (d.finishFree c r) :=
  .next (.next (d.finish_touch c r).of (Dev.endCharge_touch ..)) (Dev.freeDir_touch ..)

theorem Dev.dropBorrow_touch (d : Dev) (c : Cap) : Touch [.net] d (d.dropBorrow c) := by
  constructor <;> simp [Dev.dropBorrow, List.filter_sublist.subset]

theorem Dev.releaseUnsequenced_touch (d : Dev) (c : Cap) : Touch [.net] d (d.releaseUnsequenced c) := by
  have h1 : Touch [.net] d (((d.dropBorrow c).endCharge c.sid c.start).freeDir c.sid c.start) :=
    .next (.next (d.dropBorrow_touch c) (Dev.endCharge_touch ..)) (Dev.freeDir_touch ..)
  unfold Dev.releaseUnsequenced
  dsimp only
  refine .trans ?_ (Dev.endRange_touch ..)
  split
  · exact h1
  · exact h1.trans (Dev.modSession_touch ..)

theorem Dev.refuse_touch (d : Dev) (c : Cap) (st : BitVec 16) : Touch [.que, .net] d (d.refuse c st) :=
  .next (.next (.next (.sent (.refl _ d) (Dev.placeBytes_sent ..)) (Dev.dropCap_touch ..)) (Dev.releaseUnsequenced_touch ..))
    (Dev.modSession_touch ..)

theorem Dev.refuseAt_touch (d : Dev) (c : Cap) (k : Nat) (st : BitVec 16) : Touch [.que, .net] d (d.refuseAt c k st) :=
  .trans (.bump (.refl _ d) ..) (Dev.refuse_touch ..)

theorem Dev.adjust_sent (d : Dev) (c : Ctr) (x : Int) : Sent d (d.adjust c x) := d.bump_sent ..

theorem Dev.modTenant_touch (d : Dev) (t : BitVec 32) (f : Tenant → Tenant) : Touch [.pol] d (d.modTenant t f) := (Touch.refl _ d).setPol _

theorem Dev.chargeBytes_touch (d : Dev) (t : BitVec 32) (e : Int) : Touch [.pol] d (d.chargeBytes t e) := d.modTenant_touch ..

theorem Dev.correctPayload_touch (d : Dev) (c : Cap) (e : Int) : Touch [.que] d (d.correctPayload c e) := (Touch.refl _ d).setQue _

theorem Dev.correctUnits_touch (d : Dev) (c : Cap) (x : Int) : Touch [.que] d (d.correctUnits c x) :=
  .setQue (.sent (.sent (.refl _ d) (Dev.adjust_sent ..)) (Dev.adjust_sent ..)) _

theorem Dev.correctGet_touch (d : Dev) (c : Cap) (n : Nat) : Touch [.que, .pol] d (d.correctGet c n) := by
  unfold Dev.correctGet
  dsimp only
  split
  · refine .next ?_ (Dev.chargeBytes_touch ..)
    split
    · exact .next (d.correctUnits_touch ..).of (Dev.correctPayload_touch ..)
    · exact .refl _ d
  · exact .refl _ d

/-! ### The end of a session -/

theorem Dev.passDeferred_touch (d : Dev) (s : Session) : Touch [.net, .que] d (d.passDeferred s) := by
  unfold Dev.passDeferred
  split
  · exact .refl _ d
  · exact .setQue (.setSids (.refl _ d) _ (map_map_subset (fun x => by split <;> rfl) _)) _

/-- A squash changes the medium's reads and what waits for a die; its counts are sent. -/
theorem Dev.squashEnded_sent (d : Dev) (p : Nat → Bool) :
    Sent { d with med := { d.med with reads := (d.squashEnded p).med.reads, waiting := (d.squashEnded p).med.waiting } } (d.squashEnded p) := by
  unfold Dev.squashEnded
  dsimp only
  split_ifs
  · exact .refl _
  · exact Dev.bump_sent ..
  · exact Dev.bump_sent ..
  · exact (Dev.bump_sent ..).trans (Dev.bump_sent ..)

theorem Dev.squashEnded_med (d : Dev) (p : Nat → Bool) :
    (d.squashEnded p).med = { d.med with reads := (d.squashEnded p).med.reads, waiting := (d.squashEnded p).med.waiting } :=
  core_med (d.squashEnded_sent p).core

theorem Dev.squashEnded_touch (d : Dev) (p : Nat → Bool) : Touch [.med] d (d.squashEnded p) :=
  (Touch.setMed (.refl _ d) _).sent (d.squashEnded_sent p)

theorem Dev.removeSession_touch (d : Dev) (s : Session) : Touch [.net, .que, .med, .gale] d (d.removeSession s) := by
  unfold Dev.removeSession
  extract_lets d0 unseq n q
  have h0 : Touch [.net, .que, .med, .gale] d d0 := .next (d.passDeferred_touch s).of (Dev.squashEnded_touch ..)
  exact .trans h0 (by constructor <;> simp [n, q, map_filter_subset])

theorem Dev.endSession_touch (d : Dev) (sid : BitVec 32) (cause : Nat) (state : Bool) :
    Touch [.net, .que, .med, .gale] d (d.endSession sid cause state) := by
  unfold Dev.endSession
  split
  · exact .refl _ d
  · next s _ =>
    dsimp only
    split
    · refine .sent (.raise ?_ ..) (Dev.recomputePools_sent _)
      have h2 (e : Dev) (h : Sent d e) : Touch [.net, .que, .med, .gale] d (e.removeSession s) := (h.touch _).trans (e.removeSession_touch s)
      split <;> split
      · exact h2 _ (d.sendPacket_sent ..)
      · exact h2 _ (.refl d)
      · exact .setNet (h2 _ (d.sendPacket_sent ..)) _
      · exact .setNet (h2 _ (.refl d)) _
    · exact d.removeSession_touch s

theorem Dev.endAll_touch (d : Dev) (cause : Nat) : Touch [.net, .que, .med, .gale] d (d.endAll cause) :=
  Touch.foldl (fun _ _ => Dev.endSession_touch ..) _ d

theorem Dev.endPort_touch (d : Dev) (p : Port) (cause : Nat) : Touch [.net, .que, .med, .gale] d (d.endPort p cause) :=
  Touch.foldl (fun _ _ => Dev.endSession_touch ..) _ d

end Sys2Proof.Machine
end

section
/-! Flash: the bands, the die operations and the reserved metadata change the medium and the bays alone. -/

namespace Sys2Proof.Machine

/-- A change of a bay's flash. -/
theorem Dev.modBay_touch (d : Dev) (b : BayNo) (f : Bay → Bay) (hf : autoParam (∀ y, (f y).card = y.card) List.nodup_range'._auto_1) :
    Touch [.bays] d (d.modBay b f) := by
  refine (Touch.refl _ d).setFlash _ fun i => ?_
  rcases eq_or_ne i b with rfl | h
  · rw [vector_get_set_self]
    exact hf _
  · rw [vector_get_set_ne _ (Ne.symm h)]

/-- Any change of a bay. -/
theorem Dev.modBay_cards (d : Dev) (b : BayNo) (f : Bay → Bay) : Touch [.cards, .bays] d (d.modBay b f) := (Touch.refl _ d).setBays _

theorem Dev.modCopy_touch (d : Dev) (loc gen : Nat) (f : Copy → Copy) : Touch [.med] d (d.modCopy loc gen f) := (Touch.refl _ d).setMed _

theorem Dev.killCopy_touch (d : Dev) (loc gen : Nat) : Touch [.med] d (d.killCopy loc gen) := .setMed (d.modCopy_touch ..) _

/-! ### The governor -/

theorem Dev.startOp_touch (d : Dev) (o : GovOp) : Touch [.med] d (d.startOp o) := (Touch.refl _ d).setMed _

theorem Dev.resumeOps_touch (d : Dev) : Touch [.med] d d.resumeOps := (Touch.refl _ d).setMed _

theorem Dev.limitEvent_sent (d : Dev) (b : BayNo) : Sent d (d.limitEvent b) := by
  unfold Dev.limitEvent
  dsimp only
  split
  · exact .refl d
  · exact d.raiseHeld_sent ..

theorem Dev.issueOp_touch (d : Dev) (o : GovOp) : Touch [.med] d (d.issueOp o) := by
  unfold Dev.issueOp
  split
  · exact (Touch.refl _ d).setMed _
  · split
    · dsimp only
      split
      · exact .sent (.setMed (.refl _ d) _) (Dev.limitEvent_sent ..)
      · exact (Touch.refl _ d).setMed _
    · exact d.startOp_touch o

theorem Dev.governorAdmit_touch (d : Dev) (b : BayNo) : Touch [.med] d (d.governorAdmit b) := by
  unfold Dev.governorAdmit
  split
  · exact .refl _ d
  · split
    · exact .trans (.setMed (.refl _ d) _) (Dev.startOp_touch ..)
    · exact .refl _ d

theorem Dev.nextOnDies_touch (d : Dev) (o : GovOp) (fuel : Nat) : Touch [.med] d (d.nextOnDies o fuel) := by
  induction fuel generalizing d with
  | zero => exact .refl _ d
  | succ n ih =>
    unfold Dev.nextOnDies
    split
    · split
      · exact (d.governorAdmit_touch _).trans (ih _)
      · exact .refl _ d
    · exact .refl _ d

theorem Dev.endOp_touch (d : Dev) (id : Nat) : Touch [.med] d (d.endOp id) := by
  unfold Dev.endOp
  dsimp only
  split
  · exact (Touch.refl _ d).setMed _
  · exact .trans (.trans (.setMed (.refl _ d) _) (Dev.resumeOps_touch _)) (Touch.foldl (fun _ _ => Dev.nextOnDies_touch ..) _ _)

theorem Dev.opId_touch (d : Dev) : Touch [.med] d d.opId.2 := (Touch.refl _ d).setMed _

theorem Dev.issueOps_touch (d : Dev) (id : Nat) (bay : BayNo) (dies : List Nat) (op : DieOp) (priority : Nat) :
    Touch [.med] d (d.issueOps id bay dies op priority) :=
  Touch.foldl (fun _ _ => Dev.issueOp_touch ..) _ d

theorem Dev.issueProg_touch (d : Dev) (bay : BayNo) (st : Stream) (die chunks group block page : Nat) (what : ProgWhat) (tries : Nat)
    (tried : List Nat) : Touch [.med] d (d.issueProg bay st die chunks group block page what tries tried) :=
  .trans (.setMed d.opId_touch _) (Dev.issueOp_touch ..)

/-! ### Bands -/

theorem Dev.issueRun_touch (d : Dev) (bay : BayNo) (st : Stream) (group block pos n : Nat) (what : ProgWhat) :
    Touch [.med] d (d.issueRun bay st group block pos n what) := by
  unfold Dev.issueRun
  exact Touch.foldl (fun d i => Touch.foldl (fun d j => .ite (fun _ => .refl _ d) (fun _ => d.issueProg_touch ..)) _ d) _ d

theorem Dev.issueSecond_touch (d : Dev) (bay : BayNo) (group block row : Nat) : Touch [.med, .bays] d (d.issueSecond bay group block row) := by
  unfold Dev.issueSecond
  dsimp only
  split
  · exact .refl _ d
  · exact (d.modBay_touch ..).of.trans (Touch.foldl (fun _ _ => (Dev.issueProg_touch ..).of) _ _)

theorem Dev.issuePage_touch (d : Dev) (bay : BayNo) (group block k : Nat) (what : ProgWhat) :
    Touch [.med, .bays] d (d.issuePage bay group block k what) := by
  have h1 (die page : Nat) (f : Bay → Bay) (hf : ∀ y, (f y).card = y.card) :
      Touch [.med, .bays] d ((d.issueProg bay .index die 16 group block page what 0 [group]).modBay bay f) :=
    (d.issueProg_touch ..).of.trans (Dev.modBay_touch _ bay f hf).of
  unfold Dev.issuePage
  dsimp only
  split
  · exact (h1 _ _ _ fun _ => Bay.card_modBand ..).trans (Dev.issueSecond_touch ..)
  · exact h1 _ _ _ fun _ => Bay.card_modBand ..

theorem Dev.issueParity_touch (d : Dev) (bay : BayNo) (x : Band) (page : Nat) : Touch [.med] d (d.issueParity bay x page) := by
  unfold Dev.issueParity
  refine Touch.foldl (fun d i => ?_) _ d
  dsimp only
  split
  · exact .refl _ d
  · exact d.issueProg_touch ..

theorem Dev.padRow_touch (d : Dev) (bay : BayNo) (group block : Nat) : Touch [.med, .bays] d (d.padRow bay group block) := by
  unfold Dev.padRow
  split
  · exact .refl _ d
  · dsimp only
    split
    · exact .refl _ d
    · exact .next (.next (d.issueSecond_touch ..) (Dev.modBay_touch ..)) (Dev.issueParity_touch ..)

theorem Dev.closeBand_touch (d : Dev) (bay : BayNo) (group block : Nat) : Touch [.med, .bays] d (d.closeBand bay group block) := by
  unfold Dev.closeBand
  split
  · split
    · exact .next (d.padRow_touch ..) (Dev.modBay_touch ..)
    · exact .refl _ d
  · exact .refl _ d

theorem Dev.openPicked_touch {d e : Dev} {bay : BayNo} {st : Stream} {group : Nat} {pick : Option Nat} {sec : Bool} {x : Band}
    (h : d.openPicked bay st group pick sec = some (x, e)) : Touch [.med, .bays] d e := by
  unfold Dev.openPicked at h
  split at h
  · split at h
    · cases h
    · simp only [Option.some.injEq, Prod.mk.injEq] at h
      rw [← h.2]
      refine .next ?_ (Dev.modBay_touch ..)
      split
      · exact (Touch.refl _ d).setMed _
      · exact .refl _ d
  · cases h

/-- The positions that a band gives to an item. -/
theorem Dev.take_touch {d e : Dev} {bay : BayNo} {st : Stream} {group n : Nat} {item : List (BitVec 12 × BitVec 128)} {freely sec : Bool}
    {block pos : Nat} (h : d.alloc bay st group n item freely sec = some (block, pos, e)) : Touch [.med, .bays] d e := by
  unfold Dev.alloc at h
  split at h
  · cases h
  extract_lets take at h
  have ht {d x r} (h : take d x = some r) : Touch [.med, .bays] d r.2.2 := by
    simp only [take] at h
    split at h
    · cases h
      dsimp only
      exact (d.modBay_touch ..).of
    · cases h
  split at h
  · split at h
    · next heq =>
      cases h
      exact ht heq
    · split at h
      · next ho => exact ((d.closeBand_touch ..).trans (Dev.openPicked_touch ho)).trans (ht h)
      · cases h
  · split at h
    · next ho => exact (Dev.openPicked_touch ho).trans (ht h)
    · cases h

theorem Dev.dropProgs_touch (d : Dev) (what : ProgWhat) : Touch [.med, .bays] d (d.dropProgs what) := by
  have h : Touch [.med, .bays] d { d with med := (d.dropProgs what).med } := .setMed (.refl _ d) _
  refine h.setFlash (d.dropProgs what).bays fun b => ?_
  rw [Dev.dropProgs, Vector.get_map]
  split <;> rfl

theorem Dev.issueErase_touch (d : Dev) (bay : BayNo) (group block : Nat) (why : EraseFor) :
    Touch [.med, .bays] d (d.issueErase bay group block why) := by
  unfold Dev.issueErase
  split
  · exact .refl _ d
  · exact .next (.next (.setMed d.opId_touch.of _) (Dev.modBay_touch ..)) (Dev.issueOps_touch ..)

/-! ### Values and records -/

theorem Dev.loadSlots_touch (d : Dev) : Touch [.med] d d.loadSlots := (Touch.refl _ d).setMed _

theorem Dev.placeSegs_touch {d e : Dev} {bay : BayNo} {st : Stream} {group : Nat} {item : List (BitVec 12 × BitVec 128)} {what : ProgWhat}
    {sec : Bool} {l : List Seg} {rs : List (Nat × Nat)} (h : d.placeSegs bay st group item what sec l = some (rs, e)) :
    Touch [.med, .bays] d e := by
  induction l generalizing d rs with
  | nil =>
    cases h
    exact .refl _ _
  | cons x l ih =>
    cases x with
    | reuse loc n =>
      unfold Dev.placeSegs at h
      split at h
      · next heq =>
        cases h
        exact ih heq
      · cases h
    | fresh n =>
      unfold Dev.placeSegs at h
      split at h
      · cases h
      · next ha =>
        split at h
        · next heq =>
          cases h
          refine (Dev.take_touch ha).trans (.trans ?_ (ih heq))
          split
          · exact (Dev.issueRun_touch ..).of
          · exact .refl _ _
        · cases h

theorem Dev.placeRuns_touch {d e : Dev} {bay : BayNo} {st : Stream} {group : Nat} {item : List (BitVec 12 × BitVec 128)} {what : ProgWhat}
    {sec : Bool} {l : List Seg} {rs : List (Nat × Nat)} {m : Nat} (h : d.placeRuns bay st group item what l sec = some (rs, m, e)) :
    Touch [.med, .bays] d e := by
  unfold Dev.placeRuns at h
  split at h
  · cases h
  · next h1 =>
    split at h
    · cases h
      exact Dev.placeSegs_touch h1
    · split at h
      · next h2 =>
        cases h
        exact (Dev.placeSegs_touch h1).trans (Dev.placeSegs_touch h2)
      · cases h

theorem Dev.countProgram_touch (d : Dev) (bay : BayNo) (st : Stream) (n : Nat) : Touch [.bays] d (d.countProgram bay st n) :=
  .trans (.bump (.refl _ d) ..) (Dev.modBay_touch ..)

theorem Dev.writeOn_touch (d : Dev) (bays : List BayNo) (st : Stream) (group n : Nat) (freely : Bool) (what : Nat → ProgWhat) :
    Touch [.med, .bays] d (d.writeOn bays st group n freely what).2.2 := by
  unfold Dev.writeOn
  extract_lets m
  refine Touch.foldl_on (fun a : List Nat × Bool × Dev => a.2.2) (fun a bay => ?_) bays ([], true, d)
  split
  · next ha =>
    exact (Dev.take_touch ha).trans
      (.ite (fun _ => Touch.foldl (fun _ _ => Dev.issuePage_touch ..) _ _) (fun _ => (Dev.issueRun_touch ..).of))
  · exact .refl _ _

theorem Dev.writeReserved_touch (d : Dev) (bays : List BayNo) (n : Nat) : Touch [.med, .bays] d (d.writeReserved bays n) := d.writeOn_touch ..

theorem Dev.keepRecord_touch (d : Dev) (n : Nat) : Touch [.med, .bays] d (d.keepRecord n) := d.writeReserved_touch ..

/-! ### Wear records and retirement -/

theorem Dev.writeWearMap_touch (d : Dev) (bay : BayNo) : Touch [.med, .bays] d (d.writeWearMap bay) := by
  unfold Dev.writeWearMap
  exact .next (d.writeReserved_touch ..) (Dev.modBay_touch ..)

theorem Dev.writeSlot_touch (d : Dev) (bay : BayNo) (stored : Nat) : Touch [.bays] d (d.writeSlot bay stored) := by
  unfold Dev.writeSlot
  split
  · exact .refl _ d
  · exact d.modBay_touch ..

theorem Dev.spareFell_touch (d : Dev) (bay : BayNo) : Touch [.bays, .par] d (d.spareFell bay) := by
  unfold Dev.spareFell
  extract_lets b made pm mark d1 d2
  have h1 : Touch [.bays, .par] d d1 := .ite (fun _ => .next (.raise (.refl _ d) ..) (Dev.modBay_touch ..)) (fun _ => .refl _ d)
  have h2 : Touch [.bays, .par] d d2 := .ite (fun _ => h1.raise ..) (fun _ => h1)
  exact h2.next (Dev.refreshMode_touch ..)

theorem Dev.retireBlock_touch (d : Dev) (bay : BayNo) (loc cause : Nat) : Touch [.bays, .par] d (d.retireBlock bay loc cause) := by
  unfold Dev.retireBlock
  dsimp only
  split
  · exact .refl _ d
  · exact .next (.next (.raise (.of (d.modBay_touch ..)) ..) (Dev.writeSlot_touch ..)) (Dev.spareFell_touch ..)

end Sys2Proof.Machine
end

section
/-! Isobar: lookups, pages and the journal change the index, the medium and the bays alone. -/

namespace Sys2Proof.Machine

theorem Dev.modNs_touch (d : Dev) (n : BitVec 12) (f : Namespace → Namespace) : Touch [.ns] d (d.modNs n f) := (Touch.refl _ d).setNs _

theorem Dev.modBucket_touch (d : Dev) (n : BitVec 12) (lo : Nat) (f : Bucket → Bucket) : Touch [.idx] d (d.modBucket n lo f) :=
  (Touch.refl _ d).setIdx _

theorem Dev.countLook_sent (d : Dev) (b : LookBy) (paged : Bool) : Sent d (d.countLook b paged) := by
  unfold Dev.countLook
  cases b with
  | none => exact .refl d
  | log => exact d.bump_sent ..
  | fp => exact d.bump_sent ..
  | cache => exact d.bump_sent ..
  | falsePass => exact (d.bump_sent ..).trans (Dev.bump_sent ..)

theorem Dev.readPage_touch (d : Dev) (n : BitVec 12) (lo seq : Nat) : Touch [.idx, .med] d (d.readPage n lo seq) := by
  unfold Dev.readPage
  split
  · dsimp only
    split
    · exact (d.modBucket_touch ..).of
    · exact .next (.next d.opId_touch.of (Dev.modBucket_touch ..)) (Dev.issueOp_touch ..)
  · exact .refl _ d

theorem Dev.endPageRead_touch (d : Dev) (b : Bucket) : Touch [.idx, .med] d (d.endPageRead b) :=
  .next (d.modBucket_touch ..).of (Dev.endOp_touch ..)

theorem Dev.trimPages_touch (d : Dev) : Touch [.idx] d d.trimPages := by
  unfold Dev.trimPages
  dsimp only
  split
  · exact .refl _ d
  · exact .bump (Touch.foldl (fun _ _ => Dev.modBucket_touch ..) _ d) ..

theorem Dev.usePage_touch (d : Dev) (n : BitVec 12) (h : BitVec 128) (by_ : LookBy) : Touch [.idx] d (d.usePage n h by_) := by
  unfold Dev.usePage
  split
  · split
    · dsimp only
      split
      · exact .bump (d.modBucket_touch ..) ..
      · exact d.modBucket_touch ..
    · exact .refl _ d
  · exact .refl _ d

theorem Dev.fpDone_touch (d was : Dev) : Touch [.fresh] d (d.fpDone was) := by
  unfold Dev.fpDone
  split
  · exact .raise (.draw (.refl _ d)) ..
  · exact .refl _ d

theorem Dev.withdrawPrefetch_touch (d : Dev) (seq : Nat) : Touch [.idx, .med] d (d.withdrawPrefetch seq) := by
  unfold Dev.withdrawPrefetch
  refine Touch.foldl (fun d b => ?_) _ d
  split
  · exact (d.modBucket_touch ..).of.trans (Dev.endPageRead_touch ..)
  · exact (d.modBucket_touch ..).of

theorem Dev.checkPressure_touch (d : Dev) : Touch [.idx] d d.checkPressure := by
  unfold Dev.checkPressure
  split
  · split
    · exact .refl _ d
    · exact (Touch.refl _ d).setIdx _
  · split
    · exact .raise (.setIdx (.refl _ d) _) ..
    · exact .refl _ d

theorem Dev.newRec_touch (d : Dev) (r : JRec) : Touch [.idx] d (d.newRec r).2 := (Touch.refl _ d).setIdx _

theorem Dev.modRec_touch (d : Dev) (j : Nat) (f : JRec → JRec) : Touch [.idx] d (d.modRec j f) := (Touch.refl _ d).setIdx _

theorem Dev.dropRec_touch (d : Dev) (j : Nat) : Touch [.idx, .med, .bays] d (d.dropRec j) := by
  unfold Dev.dropRec
  dsimp only
  split
  · split
    · exact (Touch.refl _ d).setIdx _
    · exact .next (.setIdx (.refl _ d) _) (Dev.dropProgs_touch ..)
  · exact (Touch.refl _ d).setIdx _

theorem Dev.placeRec_touch {d e : Dev} {bay : BayNo} {group l : Nat} {r : JRec} (h : d.placeRec bay group r = some (l, e)) :
    Touch [.idx, .med, .bays] d e := by
  unfold Dev.placeRec at h
  split at h
  · cases h
    exact (d.modBay_touch ..).of
  · split at h
    · next ha =>
      cases h
      exact .setIdx (.next (Dev.take_touch ha).of (Dev.issueRun_touch ..)) _
    · cases h

theorem Dev.enterLog_touch (d : Dev) (r : JRec) : Touch [.idx] d (d.enterLog r) := by
  unfold Dev.enterLog
  split
  · split
    · exact .refl _ d
    · exact (Touch.refl _ d).setIdx _
  · exact (Touch.refl _ d).setIdx _

theorem Dev.commitNew_touch (d : Dev) (r : JRec) : Touch [.idx, .med, .bays] d (d.commitNew r) := by
  unfold Dev.commitNew
  refine .next ?_ (Dev.checkPressure_touch _)
  split
  · next hp => exact .next (.next (Dev.placeRec_touch hp) (Dev.newRec_touch ..)) (Dev.enterLog_touch ..)
  · exact (d.enterLog_touch ..).of

theorem Dev.chunkPassed_touch (d : Dev) (l : Nat) : Touch [.idx] d (d.chunkPassed l) := (Touch.refl _ d).setIdx _

theorem Dev.journalItem_touch (d : Dev) (r : JRec) : Touch [.idx, .med, .bays] d (d.journalItem r) := by
  unfold Dev.journalItem
  split
  · exact .refl _ d
  · next hp => exact .next (.next (Dev.placeRec_touch hp) (Dev.newRec_touch ..)) (Dev.modRec_touch ..)

end Sys2Proof.Machine
end

section
/-! The pair: what the data path asks of it changes the pair, the marks of the index's buckets and what waits. -/

namespace Sys2Proof.Machine

theorem Dev.modMirror_touch (d : Dev) (n : BitVec 12) (f : MirrorNs → MirrorNs) : Touch [.mir, .states] d (d.modMirror n f) := (Touch.refl _ d).setMir _

theorem Dev.setNsState_touch (d : Dev) (n : BitVec 12) (st : NsState) : Touch [.mir, .states] d (d.setNsState n st) := by
  unfold Dev.setNsState
  split
  · exact .refl _ d
  · split
    · exact .refl _ d
    · exact .raise (d.modMirror_touch ..) ..

theorem Dev.markDirty_touch (d : Dev) (n : BitVec 12) (h : BitVec 128) : Touch [.idx] d (d.markDirty n h) := (Touch.refl _ d).setIdx _

theorem Dev.cwDropRec_touch (d : Dev) (r : RepRec) : Touch [.mir, .states, .idx] d (d.cwDropRec r) :=
  .next (d.modMirror_touch ..).of (Dev.markDirty_touch ..)

theorem Dev.cwPut_touch (d : Dev) (r : RepRec) : Touch [.mir] d (d.cwPut r) := d.cwSend_touch ..

theorem Dev.cwSendRec_touch (d : Dev) (r : RepRec) : Touch [.mir, .states] d (d.cwSendRec r) := (d.cwPut_touch r).of.trans (Dev.modMirror_touch ..)

theorem Dev.cwSendRecs_touch (d : Dev) (l : List RepRec) : Touch [.mir, .states, .idx] d (d.cwSendRecs l) := by
  induction l generalizing d with
  | nil => exact .refl _ d
  | cons r l ih =>
    unfold Dev.cwSendRecs
    split
    · exact (d.cwDropRec_touch r).trans (ih _)
    · split
      · exact (d.cwSendRec_touch r).of.trans (ih _)
      · exact .refl _ d

theorem Dev.cwPumpNs_touch (d : Dev) (n : BitVec 12) : Touch [.mir, .states, .idx] d (d.cwPumpNs n) := by
  unfold Dev.cwPumpNs
  split
  · exact d.cwSendRecs_touch _
  · exact .refl _ d

theorem Dev.cwPump_touch (d : Dev) : Touch [.mir, .states, .idx] d d.cwPump := Touch.foldl (fun _ _ => Dev.cwPumpNs_touch ..) _ d

theorem Dev.replicate_touch (d : Dev) (r : RepRec) : Touch [.mir, .states, .idx] d (d.replicate r) := by
  unfold Dev.replicate
  split
  · exact .refl _ d
  · split
    · dsimp only
      refine .trans ?_ (Dev.cwPumpNs_touch ..)
      split
      · split
        · exact .next (.next (.next (.of (d.modMirror_touch ..)) (Dev.modMirror_touch ..)) (Dev.markDirty_touch ..)) (Dev.setNsState_touch ..)
        · exact .of (d.modMirror_touch ..)
      · split
        · exact .of (d.modMirror_touch ..)
        · exact .next (.of (d.modMirror_touch ..)) (Dev.markDirty_touch ..)
    · exact .refl _ d

theorem Dev.cwSendRole_touch (d : Dev) (rs : List RoleEntry) (epoch : Nat) : Touch [.mir] d (d.cwSendRole rs epoch) := d.cwSend_touch ..

theorem Dev.cwApply_touch (d : Dev) (n : BitVec 12) (w : Nat) (vs : List Nat) (failed : Option (Nat × Nat)) :
    Touch [.mir] d (d.cwApply n w vs failed) := d.cwSend_touch ..

theorem Dev.applyFail_touch (d : Dev) (n : BitVec 12) (h : BitVec 128) (version : Nat) (st : BitVec 16) :
    Touch [.mir, .states] d (d.applyFail n h version st) := by
  unfold Dev.applyFail
  split
  · exact .refl _ d
  · exact .next (.raise ((d.modMirror_touch ..).trans (Dev.setNsState_touch ..)) ..) (Dev.cwApply_touch ..)

theorem Dev.partnerRead_touch (d : Dev) (c : Cap) (version : Option Nat) (alone : BitVec 16) :
    Touch [.mir, .que] d (d.partnerRead c version alone) :=
  .next (.next (.setMir (.refl _ d) _) (Dev.modCap_touch ..)) (Dev.cwSend_touch ..)

theorem Dev.emitWitness_sent (d : Dev) (r : WitReq) : Sent d (d.emitWitness r) := d.emitOut_sent _

theorem Dev.witnessSend_touch (d : Dev) (msg : WitMsg) (forced : Bool) : Touch [.mir, .asks, .fresh] d (d.witnessSend msg forced) :=
  .sent (.setMir (.draw (.refl _ d)) _) (Dev.emitWitness_sent ..)

theorem Dev.holdWriters_touch (d : Dev) (n : BitVec 12) : Touch [.que, .idx] d (d.holdWriters n) := by
  have h : Touch [.que, .idx] d { d with que := (d.holdWriters n).que } :=
    .setDrift (.refl _ d) _ (Ages.map d.que.drift fun v => by split <;> exact ⟨rfl, id⟩)
  exact h.setIdx (d.holdWriters n).idx (hk := ⟨rfl, rfl, id⟩)

theorem Dev.fence_touch (d : Dev) : Touch [.mir, .term, .states, .que, .idx] d d.fence := by
  unfold Dev.fence
  dsimp only
  refine .raise (.trans (.setMir ?_ _) (Touch.foldl (fun _ _ => (Dev.setNsState_touch ..).of) _ _)) ..
  split
  · exact .refl _ d
  · exact Touch.foldl (fun _ _ => (Dev.holdWriters_touch ..).of) _ d

theorem Dev.markListed_touch (d : Dev) (m : MirrorNs) : Touch [.idx] d (d.markListed m) := by
  unfold Dev.markListed
  split
  · exact (Touch.refl _ d).setIdx _
  · exact .refl _ d

theorem Dev.mirrorReset_touch (d : Dev) (vane : Bool) : Touch [.mir, .term, .asks, .states, .que, .idx, .fresh] d (d.mirrorReset vane) := by
  unfold Dev.mirrorReset
  extract_lets d0 one m d1 d2
  have h0 : Touch [.mir, .term, .asks, .states, .que, .idx, .fresh] d d0 := Touch.foldl (fun _ _ =>
    (Touch.foldl (fun _ _ => (Dev.markDirty_touch ..).of) _ _).trans (Dev.markListed_touch ..).of) _ d
  have h1 : Touch [.mir, .term, .asks, .states, .que, .idx, .fresh] d d1 := h0.setMir _
  have h2 : Touch [.mir, .term, .asks, .states, .que, .idx, .fresh] d d2 := .ite (fun _ => h1.next (Dev.fence_touch _)) (fun _ => h1)
  exact .ite (fun _ => h2.next (Dev.witnessSend_touch ..)) (fun _ => h2)

end Sys2Proof.Machine
end

section
/-! Writers: conditions, charges, Drift, completion and failure keep to the parts of the data path. -/

namespace Sys2Proof.Machine

theorem Dev.bindEvents_touch (d : Dev) (n : Namespace) (b : Bind) : Touch [.ns] d (d.bindEvents n b) := by
  unfold Dev.bindEvents
  split
  · exact .refl _ d
  · exact .refl _ d
  · split
    · exact .refl _ d
    · exact .raise (d.modNs_touch ..) ..
  · split
    · exact .refl _ d
    · exact .raise (d.modNs_touch ..) ..
  · exact .raise (.refl _ d) ..
  · exact .raise (.refl _ d) ..

theorem Dev.takeCharge_touch (d : Dev) (n : BitVec 12) (x y : Nat) (newKey : Bool) : Touch [.ns] d (d.takeCharge n x y newKey) := d.modNs_touch ..

theorem Dev.modVer_touch (d : Dev) (s : Nat) (f : Version → Version)
    (hf : autoParam (∀ v, (f v).seq = v.seq ∧ (v.onMedium = true → (f v).onMedium = true)) List.nodup_range'._auto_1) :
    Touch [.que] d (d.modVer s f) :=
  (Touch.refl _ d).setDrift _ (Ages.map _ fun v => by
    split
    · exact hf v
    · exact ⟨rfl, id⟩)

theorem Dev.modGale_touch (d : Dev) (f : Gale → Gale) : Touch [.gale] d (d.modGale f) := (Touch.refl _ d).setGale _

theorem Dev.retireEntry_touch (d : Dev) (n : BitVec 12) (h : BitVec 128) : Touch [.gale] d (d.retireEntry n h) := by
  unfold Dev.retireEntry
  split
  · exact .refl _ d
  · exact d.modGale_touch _

theorem Dev.removeVer_touch (d : Dev) (v : Version) : Touch [.que, .gale, .net] d (d.removeVer v) :=
  .next (.next (.next (.setDrift (.refl _ d) _ (.of_subset List.filter_sublist.subset)) (Dev.retireEntry_touch ..)) (Dev.endCharge_touch ..)) (Dev.freeDir_touch ..)

theorem Dev.releaseOne_touch (d : Dev) (s : Nat) : Touch [.que, .gale, .net] d (d.releaseOne s) := by
  unfold Dev.releaseOne
  split
  · split
    · exact d.removeVer_touch _
    · exact .refl _ d
  · exact .refl _ d

theorem Dev.releaseKey_touch (d : Dev) (n : BitVec 12) (h : BitVec 128) : Touch [.que, .gale, .net] d (d.releaseKey n h) :=
  .trans (d.retireEntry_touch ..).of (Touch.foldl (fun _ _ => Dev.releaseOne_touch ..) _ _)

theorem Dev.releaseVer_touch (d : Dev) (s : Nat) : Touch [.que, .gale, .net] d (d.releaseVer s) := by
  unfold Dev.releaseVer
  split
  · exact d.releaseKey_touch ..
  · exact .refl _ d

theorem Dev.flagDeferred_touch (d : Dev) (sid tenant : BitVec 32) (id : Nat) : Touch [.que, .net] d (d.flagDeferred sid tenant id) := by
  unfold Dev.flagDeferred
  split
  · exact (d.modSession_touch ..).of
  · exact .setQue (.setSids (.refl _ d) _ (map_map_subset (fun x => by split <;> rfl) _)) _

theorem Dev.recordLoss_touch (d : Dev) (v : Version) (st : BitVec 16) (cause : Nat) : Touch [.que, .net] d (d.recordLoss v st cause) := by
  unfold Dev.recordLoss
  extract_lets id e src d1 src1 d2 src2
  have h1 : Touch [.que, .net] d d1 := by
    simp only [d1]
    split
    · split
      · exact .raise (.setQue (.refl _ d) _) ..
      · exact .refl _ d
    · exact .refl _ d
  exact .raise (.next (.setQue (.setQue h1 _) _) (Dev.flagDeferred_touch ..)) ..

theorem Dev.undoVer_touch (d : Dev) (v : Version) (x y : Nat) : Touch dataParts d (d.undoVer v x y) := by
  unfold Dev.undoVer
  refine .next (.next (.next (.next (.setMed (.next (.of (d.killCopy_touch ..)) (Dev.dropProgs_touch ..)) _) (Dev.dropRec_touch ..))
    (Dev.modNs_touch ..)) (Dev.modMirror_touch ..)) (Dev.removeVer_touch ..)

theorem Dev.failReaders_touch (d : Dev) (s : Nat) (st : BitVec 16) : Touch dataParts d (d.failReaders s st) :=
  Touch.foldl (fun _ _ => .next (.of (Dev.correctGet_touch ..)) (Dev.finishFree_touch ..)) _ d

theorem Dev.loseVer_touch (d : Dev) (v : Version) (st : BitVec 16) (cause : Nat) : Touch dataParts d (d.loseVer v st cause) := by
  unfold Dev.loseVer
  exact .next (.next (.next (.of (d.recordLoss_touch ..)) (Dev.failReaders_touch ..)) (Dev.undoVer_touch ..)) (Dev.commitNew_touch ..)

theorem Dev.failVer_touch (d : Dev) (v : Version) (st : BitVec 16) : Touch dataParts d (d.failVer v st) := by
  unfold Dev.failVer
  refine .trans ?_ (Dev.failReaders_touch ..)
  split
  · exact .next (d.undoVer_touch ..) (Dev.finishFree_touch ..)
  · split
    · exact .next (d.undoVer_touch ..) (Dev.applyFail_touch ..)
    · exact d.undoVer_touch ..

theorem Dev.dropVer_touch (d : Dev) (s : Nat) (st : BitVec 16) (cause : Nat) : Touch dataParts d (d.dropVer s st cause) := by
  unfold Dev.dropVer
  split
  · exact .refl _ d
  · split
    · exact d.loseVer_touch ..
    · exact d.failVer_touch ..

/-! ### Completion -/

theorem Dev.lostCleared_sent (d : Dev) (v : Version) (l : Nat) : Sent d (d.lostCleared v l) := d.raise_sent ..

theorem Dev.settle_touch (d : Dev) (v : Version) : Touch [.ns, .idx, .med, .que] d (d.settle v) := by
  unfold Dev.settle
  extract_lets by_ d0 old oldLen existed d1 d2 d3
  have h0 : Touch [.ns, .idx, .med, .que] d d0 :=
    .ite (fun _ => .next (.sent (.refl _ d) (Dev.countLook_sent ..)) (Dev.usePage_touch ..)) (fun _ => .refl _ d)
  have h1 : Touch [.ns, .idx, .med, .que] d d1 := .ite (fun _ => h0.next (Dev.modNs_touch ..)) (fun _ => h0)
  have h2 : Touch [.ns, .idx, .med, .que] d d2 := by
    simp only [d2]
    clear d3 d2
    clear_value d1
    clear oldLen existed
    clear_value old
    split
    · exact h1.next (Dev.killCopy_touch ..)
    · exact h1
  have h3 : Touch [.ns, .idx, .med, .que] d d3 := .ite (fun _ => h2.next (Dev.modVer_touch ..)) (fun _ => h2)
  split
  · exact .ite (fun _ => h3.sent (Dev.lostCleared_sent ..)) (fun _ => h3.next (Dev.modVer_touch ..))
  · exact h3

theorem Dev.closeCommit_touch (d : Dev) (v : Version) (closes : Bool) : Touch [.ns, .idx] d (d.closeCommit v closes) := by
  unfold Dev.closeCommit
  split
  · exact .refl _ d
  · split
    · exact (d.modNs_touch ..).of
    · exact .next (.setIdx (.refl _ d) _) (Dev.modNs_touch ..)

theorem Dev.countKeys_touch (d : Dev) (v : Version) : Touch [.ns] d (d.countKeys v) := d.modNs_touch ..

theorem Dev.endWait_touch (d : Dev) (v : Version) (ok : Bool) : Touch [.ns, .idx, .que] d (d.endWait v ok) := by
  have h (f : Version → Version) (hf : ∀ v, (f v).seq = v.seq ∧ (v.onMedium = true → (f v).onMedium = true)) :
      Touch [.ns, .idx, .que] d (((d.modVer v.seq f).closeCommit v ok).countKeys v) :=
    .next (.next (.of (d.modVer_touch v.seq f hf)) (Dev.closeCommit_touch ..)) (Dev.countKeys_touch ..)
  unfold Dev.endWait
  dsimp only
  split
  · refine .sent (h _ ?_) (Dev.lostCleared_sent ..)
    exact fun _ => ⟨rfl, id⟩
  · exact h _ fun _ => ⟨rfl, id⟩

theorem Dev.reachPoint_touch (d : Dev) (v : Version) : Touch [.ns, .idx, .que] d (d.reachPoint v) := d.endWait_touch v true

theorem Dev.replyWriter_touch (d : Dev) (c : Cap) (v : Version) : Touch [.que, .mir, .states] d (d.replyWriter c v) := by
  unfold Dev.replyWriter
  dsimp only
  refine .next ?_ (Dev.finish_touch ..)
  split
  · exact .bump (.of (d.modMirror_touch ..)) ..
  · exact .of (d.modMirror_touch ..)

theorem Dev.completeOne_touch (d : Dev) (s : Nat) : Touch dataParts d (d.completeOne s) := by
  unfold Dev.completeOne
  split
  · exact .refl _ d
  · split
    · exact (d.releaseVer_touch s).of
    · have h (v : Version) : Touch dataParts d ((d.reachPoint v).bump (.drive .onMedium) 1) := .bump (.of (d.reachPoint_touch v)) ..
      dsimp only
      refine .next ?_ (Dev.releaseVer_touch ..)
      split
      · exact (h _).next (Dev.replyWriter_touch ..)
      · exact h _

theorem Dev.ripen_touch (d : Dev) (n : BitVec 12) (h : BitVec 128) : Touch dataParts d (d.ripen n h) := by
  unfold Dev.ripen
  refine .next (Touch.foldl (fun d w => ?_) _ d) (Dev.releaseKey_touch ..)
  split
  · split
    · exact d.completeOne_touch _
    · exact .refl _ d
  · exact .refl _ d

theorem Dev.completeVer_touch (d : Dev) (s : Nat) : Touch dataParts d (d.completeVer s) := by
  unfold Dev.completeVer
  split
  · exact .refl _ d
  · split
    · exact (d.completeOne_touch s).trans (Dev.ripen_touch ..)
    · exact .refl _ d

theorem Dev.endVer_touch (d : Dev) (s : Nat) (st : BitVec 16) (cause : Nat) : Touch dataParts d (d.endVer s st cause) := by
  unfold Dev.endVer
  split
  · exact .refl _ d
  · exact .trans (.trans (d.dropVer_touch ..) (Touch.foldl (fun _ _ => Dev.dropVer_touch ..) _ _)) (Dev.ripen_touch ..)

theorem Dev.ackEarly_touch (d : Dev) (c : Cap) (s : Nat) : Touch dataParts d (d.ackEarly c s) := by
  unfold Dev.ackEarly
  split
  · exact .refl _ d
  · exact .next (.bump (.next (.of (d.modVer_touch ..)) (Dev.reachPoint_touch ..)) ..) (Dev.replyWriter_touch ..)

/-! ### Resolution -/

theorem Dev.addVer_touch (d : Dev) (v : Version) : Touch [.gale, .que, .drift] d (d.addVer v) := by
  unfold Dev.addVer
  dsimp only
  split
  · exact (Touch.refl _ d).setVers _
  · exact .setVers (.of (d.modGale_touch _)) _

theorem Dev.placeValue_touch {d e : Dev} {bay : BayNo} {st : Stream} {group : Nat} {segs : List Seg} {n : Namespace} {h : BitVec 128}
    {key : Bytes} {version gen loc : Nat} {bytes : Bytes} {bad : List Nat} {what : ProgWhat}
    (hp : d.placeValue bay st group segs n h key version gen bytes bad what = some (loc, e)) : Touch [.med, .bays] d e := by
  unfold Dev.placeValue at hp
  split at hp
  · cases hp
  · cases hp
    exact .refl _ d
  · next hr =>
    cases hp
    exact .setMed (Dev.placeRuns_touch hr) _

theorem Dev.journal_touch {d e : Dev} {bay : BayNo} {group j : Nat} {r : JRec} (h : d.journal bay group r = some (j, e)) :
    Touch [.idx, .med, .bays] d e := by
  unfold Dev.journal at h
  split at h
  · cases h
  · next hp =>
    cases h
    exact .next (Dev.placeRec_touch hp) (Dev.newRec_touch ..)

theorem Dev.endHotWait_touch (d : Dev) (c : Cap) (bay : BayNo) : Touch [.bays] d (d.endHotWait c bay) :=
  .ite (fun _ => d.modBay_touch ..) (fun _ => .refl _ d)

theorem Dev.waitFor_touch (d : Dev) (c : Cap) (bay : BayNo) (slc : Bool) : Touch [.que, .bays] d (d.waitFor c bay slc) := by
  unfold Dev.waitFor
  split
  · exact .refl _ d
  · dsimp only
    split
    · exact .raise (.next (.of (d.modCap_touch ..)) (Dev.modBay_touch ..)) ..
    · exact .next (.of (d.modCap_touch ..)) (Dev.endHotWait_touch ..)

theorem Dev.enterDrift_touch (d : Dev) (c : Cap) (n : Namespace) (h : BitVec 128) (group : Nat) (k : KState) (prov : Bool) (p : Plan)
    (x y : Nat) (upload : Option Nat) : Touch versionParts d (d.enterDrift c n h group k prov p x y upload) := by
  unfold Dev.enterDrift
  extract_lets bay gen len
  split
  · exact (d.waitFor_touch ..).of
  · split
    · exact (d.waitFor_touch ..).of
    · next d1 hp =>
      split
      · exact (d.waitFor_touch ..).of
      · next d2 hj =>
        extract_lets v early src d2' d3 d4 d5
        have h2 : Touch versionParts d d2 := (Dev.placeValue_touch hp).of.next (Dev.journal_touch hj)
        have h2' : Touch versionParts d d2' := .ite (fun _ => h2.setMed _) (fun _ => h2)
        have h3 : Touch versionParts d d3 := .next (.next (.next h2' (Dev.takeCharge_touch ..)) (Dev.addVer_touch ..)) (Dev.modCap_touch ..)
        have h5 : Touch versionParts d d5 := .next (.next h3 (Dev.endHotWait_touch ..)) (Dev.replicate_touch ..)
        exact .ite (fun _ => h5.next (Dev.ackEarly_touch ..)) (fun _ => h5)

theorem Dev.failWriter_touch (d : Dev) (c : Cap) (st : BitVec 16) (v : Nat) : Touch [.que, .net, .mir] d (d.failWriter c st v) := d.finishFree_touch ..

theorem Dev.checkFails_sent (d : Dev) (n : BitVec 12) (version chunk at_ : Nat) : Sent d (d.checkFails n version chunk at_) :=
  (d.raise_sent ..).trans (Dev.bump_sent ..)

theorem Dev.collisionEvent_sent (d : Dev) (n : BitVec 12) (h : BitVec 128) : Sent d (d.collisionEvent n h) := d.raise_sent ..

theorem Dev.resolveOn_touch (d : Dev) (c : Cap) (n : Namespace) (h : BitVec 128) (group : Nat) (k : KState) (prov : Bool) (pl : Plan)
    (x : Nat) (upload : Option Nat) : Touch versionParts d (d.resolveOn c n h group k prov pl x upload) := by
  unfold Dev.resolveOn
  extract_lets y newKey secure
  split
  · exact (d.failWriter_touch ..).of
  split
  · exact (d.failWriter_touch ..).of
  split
  · split
    · exact .next (.sent (.refl _ d) (Dev.checkFails_sent ..)) (Dev.failWriter_touch ..)
    · exact d.enterDrift_touch ..
  · exact .next (.of (d.bindEvents_touch ..)) (Dev.failWriter_touch ..)

/-- The page that a writer will meet before its completion point is read ahead, where it has not met its state yet. -/
def Dev.readAhead (d : Dev) (prov : Bool) (n : BitVec 12) (h : BitVec 128) (seq : Nat) : Dev :=
  if prov then (match d.look n h with
    | .page lo => d.readPage n lo seq
    | _ => d) else d

theorem Dev.readAhead_touch (d : Dev) (prov : Bool) (n : BitVec 12) (h : BitVec 128) (seq : Nat) :
    Touch versionParts d (d.readAhead prov n h seq) := by
  unfold Dev.readAhead
  split
  · split
    · exact (d.readPage_touch ..).of
    · exact .refl _ d
  · exact .refl _ d

theorem Dev.resolvePlain_touch (d : Dev) (c : Cap) (n : Namespace) (group : Nat) : Touch versionParts d (d.resolvePlain c n group) := by
  unfold Dev.resolvePlain
  extract_lets h secure
  split
  · exact (d.failWriter_touch ..).of
  dsimp only
  split
  · exact .next (.of (d.modCap_touch ..)) (Dev.readPage_touch ..)
  · exact (d.failWriter_touch ..).of
  · exact .next (.sent (.refl _ d) (Dev.collisionEvent_sent ..)) (Dev.failWriter_touch ..)
  · next k prov _ =>
    have h0 := d.readAhead_touch prov n.id h c.seq
    split
    · exact h0.next (Dev.failWriter_touch ..)
    · split
      · exact h0.next (Dev.failWriter_touch ..)
      · split
        · exact h0.next (Dev.failWriter_touch ..)
        · exact h0.trans (Dev.resolveOn_touch ..)

end Sys2Proof.Machine
end

section
/-! Readers: tokens, Forecast, die reads, capture and reply keep to the parts of the data path. -/

namespace Sys2Proof.Machine

theorem Dev.modSpec_touch (d : Dev) (t : BitVec 32) (f : SpecWindow → SpecWindow) : Touch [.med] d (d.modSpec t f) := (Touch.refl _ d).setMed _

theorem Dev.checkToken_touch (d : Dev) (c : Cap) (h : BitVec 128) (at_ : Option (Nat × Nat)) : Touch [.que, .med] d (d.checkToken c h at_).2 := by
  unfold Dev.checkToken
  split
  · dsimp only
    split
    · exact .next (.of (d.modCap_touch ..)) (Dev.modSpec_touch ..)
    · exact .next (.of (d.modCap_touch ..)) (Dev.modSpec_touch ..)
    · exact .bump (.of (d.modCap_touch ..)) ..
    · exact .of (d.modCap_touch ..)
  · exact .refl _ d

/-! ### Forecast -/

theorem Dev.modRead_touch (d : Dev) (id : Nat) (f : Read → Read) : Touch [.med] d (d.modRead id f) := (Touch.refl _ d).setMed _

theorem Dev.dropRead_touch (d : Dev) (id : Nat) : Touch [.med] d (d.dropRead id) := .trans (.setMed (.refl _ d) _) (Dev.endOp_touch ..)

theorem Dev.issueRead_touch (d : Dev) (c : Cap) (loc gen : Nat) (want : List Nat) (source : Option SpecSource) (second : Bool) :
    Touch [.med] d (d.issueRead c loc gen want source second) :=
  .trans (.setMed d.opId_touch _) (Dev.issueOps_touch ..)

theorem Dev.squash_touch (d : Dev) (r : Read) (cause : Nat) : Touch [.med] d (d.squash r cause) := by
  unfold Dev.squash
  extract_lets d1 d2
  have h2 : Touch [.med] d d2 := .ite (fun _ => .trans (.bump (.refl _ d) ..) (Dev.modSpec_touch ..)) (fun _ => .bump (.refl _ d) ..)
  split
  · exact h2.trans (Dev.dropRead_touch ..)
  · split
    · exact h2.trans (Dev.modRead_touch ..)
    · exact .bump (h2.trans (Dev.dropRead_touch ..)) ..

theorem Dev.squashOf_touch (d : Dev) (s cause : Nat) : Touch [.med] d (d.squashOf s cause) := by
  unfold Dev.squashOf
  split
  · exact .refl _ d
  · split
    · exact d.squash_touch ..
    · exact d.dropRead_touch ..

theorem Dev.forecast_touch (d : Dev) (c : Cap) : Touch [.med] d (d.forecast c) := by
  unfold Dev.forecast
  dsimp only
  split
  · split
    · exact .refl _ d
    · split
      · exact .refl _ d
      · exact .trans (.bump (d.issueRead_touch ..) ..) (Dev.modSpec_touch ..)
  · exact .refl _ d

/-! ### Die reads -/

theorem Dev.markRefresh_touch (d : Dev) (bay : BayNo) (group block cause : Nat) : Touch [.bays] d (d.markRefresh bay group block cause) := by
  unfold Dev.markRefresh
  split
  · exact .refl _ d
  · split
    · exact .refl _ d
    · exact .raise (d.modBay_touch ..) ..

theorem Dev.countRead_touch (d : Dev) (loc : Nat) : Touch [.bays] d (d.countRead loc) := by
  unfold Dev.countRead
  dsimp only
  split
  · exact d.modBay_touch ..
  · split
    · exact (d.modBay_touch ..).trans (Dev.markRefresh_touch ..)
    · exact d.modBay_touch ..

theorem Dev.countReads_touch (d : Dev) (ls : List Nat) : Touch [.bays] d (d.countReads ls) :=
  Touch.foldl (fun _ _ => (Dev.countRead_touch ..).trans (Dev.modBay_touch ..)) _ d

theorem Dev.retryEvent_sent (d : Dev) (loc step : Nat) (decoded : Bool) : Sent d (d.retryEvent loc step decoded) := by
  unfold Dev.retryEvent
  split
  · exact .refl d
  · exact d.raiseHeld_sent ..

theorem Dev.rebuiltAt_touch (d : Dev) (loc : Nat) (ok : Bool) : Touch [.bays, .par] d (d.rebuiltAt loc ok) := by
  unfold Dev.rebuiltAt
  extract_lets bay band pages d1 again d2
  have h2 : Touch [.bays, .par] d d2 :=
    .next (.next (.bump (.raise (.refl _ d) ..) ..) (Dev.markRefresh_touch ..)) (Dev.modBay_touch ..)
  exact .ite (fun _ => h2.trans (Dev.retireBlock_touch ..)) (fun _ => h2)

theorem Dev.readEffects_touch (d : Dev) (seq loc : Nat) (o : ReadOutcome) : Touch [.que, .bays, .par, .fresh] d (d.readEffects seq loc o) := by
  unfold Dev.readEffects
  extract_lets bay d0 d1 level
  have h0 : Touch [.que, .bays, .par, .fresh] d d0 :=
    .ite (fun _ => (d.handOver_touch ..).of) (fun _ => .ite (fun _ => (d.handOver_touch ..).of) (fun _ => .refl _ d))
  have h1 : Touch [.que, .bays, .par, .fresh] d d1 := h0.bump ..
  have hl (e : Dev) (s : Nat) : Touch [.que, .bays, .par, .fresh] e (level e s) := (e.modBay_touch ..).of
  split
  · exact h1.sent (Dev.retryEvent_sent ..)
  · exact .ite (fun _ => h1.draw.trans (hl ..)) (fun _ => h1)
  · exact .ite (fun _ => (h1.sent (Dev.retryEvent_sent ..)).trans (hl ..)) (fun _ => h1.sent (Dev.retryEvent_sent ..))
  · exact .next (h1.sent (Dev.retryEvent_sent ..)) (Dev.rebuiltAt_touch ..)
  · exact .next (h1.sent (Dev.retryEvent_sent ..)) (Dev.rebuiltAt_touch ..)

theorem Dev.reportEffects_touch (d : Dev) (seq : Nat) (at_ : Nat → Nat) (r : ReadReport) :
    Touch [.que, .bays, .par, .fresh] d (d.reportEffects seq at_ r) :=
  ((d.readEffects_touch ..).trans (Touch.foldl (fun _ _ => Dev.readEffects_touch ..) _ _)).trans
    (Touch.foldl (fun d _ => .bump (.refl _ d) ..) _ _)

/-! ### The reply -/

theorem Dev.endReader_touch (d : Dev) (c : Cap) (r : Reply) : Touch dataParts d (d.endReader c r) := by
  unfold Dev.endReader
  extract_lets d1 d2
  have h1 : Touch dataParts d d1 :=
    .next (.next (.next (.of (d.correctGet_touch ..)) (Dev.squashOf_touch ..)) (Dev.withdrawPrefetch_touch ..)) (Dev.finishFree_touch ..)
  have h2 : Touch dataParts d d2 := .ite (fun _ => h1.bump ..) (fun _ => h1)
  split
  · exact h2.next (Dev.releaseVer_touch ..)
  · exact h2

theorem Dev.driftUe_touch (d : Dev) (seq chunk : Nat) : Touch dataParts d (d.driftUe seq chunk) := by
  unfold Dev.driftUe
  split
  · exact .refl _ d
  · exact .trans (.ite (fun _ => (d.modVer_touch ..).of) (fun _ => d.endVer_touch ..)) (Touch.foldl (fun _ _ => Dev.endReader_touch ..) _ _)

theorem Dev.stopReply_touch (d : Dev) (c : Cap) (chunk : Nat) (st : BitVec 16) : Touch dataParts d (d.stopReply c chunk st) := by
  unfold Dev.stopReply
  split
  · extract_lets d1 d2
    have h1 : Touch dataParts d d1 :=
      .next (.next (.next (.of (d.correctGet_touch ..)) (Dev.squashOf_touch ..)) (Dev.withdrawPrefetch_touch ..)) (Dev.dropCap_touch ..)
    have h2 : Touch dataParts d d2 := by
      simp only [d2]
      split
      · exact h1.next (Dev.releaseVer_touch ..)
      · exact h1
    exact .next (.next h2 (Dev.endSession_touch ..)) (Dev.freeDir_touch ..)
  · exact d.endReader_touch ..

theorem Dev.serveBuffered_touch (d : Dev) (c : Cap) (v : Version) : Touch dataParts d (d.serveBuffered c v) := by
  unfold Dev.serveBuffered
  dsimp only
  split
  · exact .trans (.trans (.sent (.refl _ d) (Dev.checkFails_sent ..)) (Dev.stopReply_touch ..)) (Dev.driftUe_touch ..)
  · split
    · exact d.stopReply_touch ..
    · exact d.endReader_touch ..

theorem Dev.placeBuffered_touch (d : Dev) (c : Cap) (v : Version) : Touch dataParts d (d.placeBuffered c v) :=
  .ite (fun _ => d.endReader_touch ..) (fun _ => d.serveBuffered_touch ..)

theorem Dev.testCached_touch (d : Dev) (c : Cap) (version loc gen : Nat) (cp : Copy) (chunks : List Nat) :
    Touch [.med] d (d.testCached c version loc gen cp chunks) := by
  unfold Dev.testCached
  split
  · exact .setMed (.sent (.refl _ d) (Dev.checkFails_sent ..)) _
  · exact .refl _ d

theorem Dev.orPartner_touch (d : Dev) (c : Cap) (version : Option Nat) (st : BitVec 16) : Touch dataParts d (d.orPartner c version st) :=
  .ite (fun _ => (d.partnerRead_touch ..).of) (fun _ => d.endReader_touch ..)

theorem Dev.serveValue_touch (d : Dev) (c : Cap) (h : BitVec 128) (version loc gen : Nat) (cp : Copy) (stale : Bool) :
    Touch dataParts d (d.serveValue c h version loc gen cp stale) := by
  unfold Dev.serveValue
  split
  · exact d.endReader_touch ..
  · exact .trans (.ite (fun _ => .setMed (.refl _ d) _) (fun _ => .refl _ d)) (Dev.endReader_touch ..)

theorem Dev.readFails_touch (d : Dev) (c : Cap) (version chunk : Nat) (st : BitVec 16) : Touch dataParts d (d.readFails c version chunk st) :=
  .ite (fun _ => (d.partnerRead_touch ..).of) (fun _ => d.stopReply_touch ..)

theorem Dev.headerMiss_touch (d : Dev) (r : Read) : Touch [.med] d (d.headerMiss r) :=
  .ite (fun _ => .trans (.bump (.refl _ d) ..) (Dev.modSpec_touch ..)) (fun _ => .refl _ d)

theorem Dev.serveRead_touch (d : Dev) (r : Read) (c : Cap) (version loc gen : Nat) (o : ReadReport) :
    Touch dataParts d (d.serveRead r c version loc gen o) := by
  unfold Dev.serveRead
  extract_lets h
  split
  · exact .trans (.of (d.dropRead_touch _)) (Dev.orPartner_touch ..)
  · next d0 _ cp _ =>
    extract_lets o1 d1 d2 sent
    have h0 : Touch dataParts d d0 := (d.dropRead_touch _).of
    have h1 : Touch dataParts d d1 := .ite (fun _ => h0) (fun _ => h0.next (Dev.reportEffects_touch ..))
    have h2 : Touch dataParts d d2 := .ite (fun _ => h1.bump ..) (fun _ => h1)
    have hok : Touch dataParts d (if r.rest = 0 then d2.serveValue c h version loc gen cp c.tokenStale
        else d2.issueRead c loc gen (cp.withMap ((List.range r.rest).map (· + (c.hdr.offset.toNat / 4096 + 16)))) none false) :=
      .ite (fun _ => h2.trans (Dev.serveValue_touch ..)) (fun _ => h2.next (Dev.issueRead_touch ..))
    split
    · exact hok
    · exact hok
    · exact hok
    · exact .trans (h2.next (Dev.modCopy_touch ..)) (Dev.readFails_touch ..)
    · extract_lets l d3
      have h3 : Touch dataParts d d3 := (h1.bump ..).next (Dev.headerMiss_touch ..)
      have hf (f : Copy → Copy) : Touch dataParts d ((d3.modCopy loc gen f).handOver c.seq .integrity) :=
        .next (.next h3 (Dev.modCopy_touch ..)) (Dev.handOver_touch ..)
      exact .ite (fun _ => ((hf _).raise ..).trans (Dev.readFails_touch ..))
        (fun _ => .ite (fun _ => ((hf _).raise ..).trans (Dev.readFails_touch ..)) (fun _ => h3.next (Dev.issueRead_touch ..)))

theorem Dev.copyRead_touch (d : Dev) (r : Read) (c : Cap) (o : ReadReport) : Touch dataParts d (d.copyRead r c o) := by
  unfold Dev.copyRead
  split
  · exact (d.dropRead_touch _).of
  · next cp _ =>
    extract_lets o1 d0 d1 done
    have h0 : Touch dataParts d d0 := (d.dropRead_touch _).of
    have h1 : Touch dataParts d d1 := .ite (fun _ => h0) (fun _ => h0.next (Dev.reportEffects_touch ..))
    have hd {e : Dev} (h : Touch dataParts d e) : Touch dataParts d (done e) := h.next (Dev.modCap_touch ..)
    split
    · exact hd h1
    · exact hd h1
    · exact hd h1
    · exact hd (h1.next (Dev.modCopy_touch ..))
    · extract_lets l d2 d3
      have h2 : Touch dataParts d d2 := h1.bump ..
      have h3 : Touch dataParts d d3 := .next (.next h2 (Dev.modCopy_touch ..)) (Dev.handOver_touch ..)
      exact .ite (fun _ => hd (h3.raise ..)) (fun _ => .ite (fun _ => hd (h3.raise ..)) (fun _ => h2.next (Dev.issueRead_touch ..)))

/-! ### Capture -/

theorem Dev.confirmKey_touch (d : Dev) (c : Cap) (h : BitVec 128) : Touch [.med] d (d.confirmKey c h) := by
  unfold Dev.confirmKey
  split
  · exact .refl _ d
  · split
    · exact .refl _ d
    · exact .trans (.setMed d.opId_touch _) (Dev.issueOps_touch ..)

theorem Dev.answerValue_touch (d : Dev) (c : Cap) (h : BitVec 128) (version loc gen len : Nat) :
    Touch dataParts d (d.answerValue c h version loc gen len) := by
  unfold Dev.answerValue
  dsimp only
  split
  · exact .refl _ d
  split
  · exact d.endReader_touch ..
  split
  · exact d.endReader_touch ..
  split
  · exact d.endReader_touch ..
  split
  · split
    · exact d.serveRead_touch ..
    · exact .refl _ d
  · split
    · exact d.serveValue_touch ..
    · exact .refl _ d

theorem Dev.captureNone_touch (d : Dev) (c : Cap) (h : BitVec 128) (x : Option Captured) (st : BitVec 16) :
    Touch dataParts d (d.captureNone c h x st) :=
  (d.checkToken_touch ..).of.trans (Dev.endReader_touch ..)

theorem Dev.captureValue_touch (d : Dev) (c : Cap) (h : BitVec 128) (version loc gen len : Nat) :
    Touch dataParts d (d.captureValue c h version loc gen len) := by
  unfold Dev.captureValue
  split
  next stale d1 hc =>
  split
  next loc' gen' ha =>
  have h1 : Touch dataParts d d1 := by
    have := d.checkToken_touch c h (if loc = 0 then none else some (loc, gen))
    rw [hc] at this
    exact this.of
  extract_lets c1 d3
  have h3 : Touch dataParts d d3 := .next (.next h1 (Dev.modCap_touch _ c (fun _ => c1) (fun _ => .inr rfl))) (Dev.confirmKey_touch ..)
  split
  · exact h3.trans (Dev.answerValue_touch ..)
  · next own _ o n _ =>
    clear_value own
    extract_lets d4 d5
    split
    · exact h3.trans (Dev.answerValue_touch ..)
    · have h4 : Touch dataParts d d4 := by
        simp only [d4]
        split
        · exact h3.next (Dev.testCached_touch ..)
        · exact h3
      have h5 : Touch dataParts d d5 := by
        simp only [d5]
        split
        · exact h4.next (Dev.squash_touch ..)
        · exact h4.bump ..
      clear_value d5 d4
      split
      · refine .trans ?_ (Dev.answerValue_touch ..)
        split
        · exact (h4.bump ..).next (Dev.dropRead_touch ..)
        · exact h4.next (Dev.squashOf_touch ..)
      · split
        · exact (h4.next (Dev.modRead_touch ..)).trans (Dev.answerValue_touch ..)
        · exact h5.next (Dev.issueRead_touch ..)

theorem Dev.capture_touch (d : Dev) (c : Cap) : Touch dataParts d (d.capture c) := by
  unfold Dev.capture
  extract_lets n h
  split
  · exact d.endReader_touch ..
  split
  · exact .ite (fun _ => (d.partnerRead_touch ..).of) (fun _ => d.endReader_touch ..)
  split
  · exact .trans (.of (d.checkToken_touch ..)) (Dev.orPartner_touch ..)
  split
  · exact d.captureNone_touch ..
  split
  · have h1 : Touch dataParts d ((d.countSearch .directory true).withdrawPrefetch c.seq) := .next (.sent (.refl _ d) (Dev.countSearch_sent ..)) (Dev.withdrawPrefetch_touch ..)
    split
    · exact .trans (h1.next (Dev.squashOf_touch ..)) (Dev.endReader_touch ..)
    · extract_lets c1 d2
      have h2 : Touch dataParts d d2 := .next (h1.next (Dev.modCap_touch _ c (fun _ => c1) (fun _ => .inr rfl))) (Dev.squashOf_touch ..)
      exact .ite (fun _ => h2.trans (Dev.placeBuffered_touch ..)) (fun _ => h2)
  · split
    next l by_ _ =>
    extract_lets d1
    have h1 : Touch dataParts d d1 :=
      .next (.sent (.sent (.refl _ d) (Dev.countSearch_sent ..)) (Dev.countLook_sent ..)) (Dev.usePage_touch ..)
    have hn (x : Option Captured) (st : BitVec 16) : Touch dataParts d (d1.captureNone c h x st) := h1.trans (Dev.captureNone_touch ..)
    split
    · exact .next (h1.next (Dev.modCap_touch ..)) (Dev.readPage_touch ..)
    · have h2 : Touch dataParts d (d1.checkToken c h none).2 := h1.next (Dev.checkToken_touch ..)
      exact .ite (fun _ => h2.trans (Dev.orPartner_touch ..)) (fun _ => h2.trans (Dev.endReader_touch ..))
    · exact .ite (fun _ => .refl _ d) (fun _ => hn ..)
    · exact hn ..
    · exact .ite (fun _ => hn ..) (fun _ => hn ..)
    · exact .ite (fun _ => hn ..) (fun _ => .ite (fun _ => .refl _ d) (fun _ => .ite (fun _ => h1.trans (Dev.endReader_touch ..))
        (fun _ => h1.trans (Dev.captureValue_touch ..))))

theorem Dev.captureWaiting_touch (d : Dev) (n : BitVec 12) (h : BitVec 128) : Touch dataParts d (d.captureWaiting n h) :=
  Touch.foldl (fun d _ => .ite (fun _ => d.capture_touch _) (fun _ => .refl _ d)) _ d

theorem Dev.endWaits_sent (d : Dev) (n : BitVec 12) (h : BitVec 128) (s : Nat) : Sent d (d.endWaits n h s) := by
  unfold Dev.endWaits
  refine Sent.foldl (fun d c => ?_) _ d
  split
  · exact d.bump_sent ..
  · exact .refl d

theorem Dev.replyBuffered_touch (d : Dev) (c : Cap) : Touch dataParts d (d.replyBuffered c) := by
  unfold Dev.replyBuffered
  split
  · split
    · exact .ite (fun _ => d.placeBuffered_touch ..) (fun _ => .refl _ d)
    · exact .refl _ d
  · exact .refl _ d

theorem Dev.capturePage_touch (d : Dev) (n : BitVec 12) (lo hi : Nat) : Touch dataParts d (d.capturePage n lo hi) :=
  Touch.foldl (fun d _ => .ite (fun _ => d.capture_touch _) (fun _ => .refl _ d)) _ d

end Sys2Proof.Machine
end

section
/-! Waking: what the ways back to Clear change (R314, R317, R318), and that a wipe leaves what has gone out. -/

namespace Sys2Proof.Machine

/-- Every part. -/
@[simp] abbrev allParts : List DevPart := [.clk, .ev, .par, .conf, .course, .staged, .links, .sids, .caps, .borrows, .drift, .epochs, .cards, .net, .que, .ns, .spaces, .idx, .pol, .gale, .med, .bays, .mem, .mir, .term, .asks, .states, .pow, .mgmt, .sec, .life, .upd, .ring, .fresh]

/-- Where every part may change, what has gone out stays. -/
theorem Touch.all {d e : Dev} (h : d.out <:+ e.out) : Touch allParts d e := by
  constructor
  case out => exact h
  all_goals exact fun hn => absurd (by simp) hn

/-! ### Programs that a stop cuts -/

theorem Dev.cancelPage_touch (d : Dev) (l : Nat) : Touch [.idx, .med, .bays] d (d.cancelPage l) := by
  refine .trans (.of (d.dropProgs_touch (.page l))) ?_
  unfold Dev.cancelPage
  constructor <;> simp

theorem Dev.cancelMark_touch (d : Dev) (l : Nat) : Touch [.idx, .med, .bays] d (d.cancelMark l) :=
  .setIdx (.of (d.dropProgs_touch (.mark l))) _ (hk := ⟨rfl, rfl, fun h => by dsimp only; rw [h]; rfl⟩)

theorem Dev.partMoved_touch (d : Dev) (u seq : Nat) (ok : Bool) : Touch [.idx] d (d.partMoved u seq ok) := (Touch.refl _ d).setIdx _

theorem Dev.modUpload_touch (d : Dev) (id : Nat) (f : Upload → Upload) : Touch [.idx] d (d.modUpload id f) := (Touch.refl _ d).setIdx _

theorem Dev.dropPartRec_touch (d : Dev) (seq : Nat) : Touch [.idx, .med, .bays] d (d.dropPartRec seq) := by
  unfold Dev.dropPartRec
  split
  · exact d.dropRec_touch ..
  · exact .refl _ d

theorem Dev.tear_touch (d : Dev) (bay : BayNo) : Touch [.bays] d (d.tear bay) := d.modBay_touch ..

theorem Dev.cutItems_touch (d : Dev) (l : List ProgWhat) : Touch [.idx, .med, .bays] d (d.cutItems l) := by
  refine Touch.foldl (fun d w => ?_) _ d
  split
  · exact d.cancelPage_touch ..
  · exact d.cancelMark_touch ..
  · exact (d.partMoved_touch ..).of
  · exact .refl _ d

theorem Dev.settlePrograms_touch (d : Dev) : Touch [.idx, .med, .bays] d d.settlePrograms := by
  unfold Dev.settlePrograms
  extract_lets d1 d2
  have h1 : Touch [.idx, .med, .bays] d d1 :=
    .trans (Touch.foldl (fun d b => (d.tear_touch b).of) _ d)
      (Touch.foldl (fun d _ => .ite (fun _ => .refl _ d) (fun _ => (d.modCopy_touch ..).of)) _ _)
  have h2 : Touch [.idx, .med, .bays] d d2 :=
    h1.trans (Touch.foldl (fun _ _ => Touch.foldl (fun d _ => .ite (fun _ => (d.dropPartRec_touch _).next (Dev.modUpload_touch ..))
      (fun _ => .refl _ d)) _ _) _ _)
  exact h2.trans (Dev.cutItems_touch ..)

theorem Dev.wipe_touch (d : Dev) : Touch allParts d d.wipe := .all d.settlePrograms_touch.out

/-! ### Bays, settings -/

theorem Dev.challenge_touch (d : Dev) (bay : BayNo) : Touch [.bays, .fresh] d (d.challenge bay) := by
  unfold Dev.challenge
  exact .next (.draw (.refl _ d)) (Dev.modBay_touch ..)

theorem Dev.bayBack_touch (d : Dev) (b : BayNo) : Touch [.cards, .bays, .fresh] d (d.bayBack b) := by
  unfold Dev.bayBack
  dsimp only
  split
  · exact (d.modBay_touch ..).of
  · split
    · exact .next (.of (d.modBay_cards ..)) (Dev.challenge_touch ..)
    · split
      · exact .raise (.of (d.modBay_cards ..)) ..
      · exact .refl _ d

theorem Dev.baysBack_touch (d : Dev) (l : List BayNo) : Touch [.cards, .bays, .fresh] d (l.foldl (fun (d : Dev) (b : BayNo) => d.bayBack b) d) :=
  Touch.foldl Dev.bayBack_touch l d

theorem Dev.paramEvents_sent (d : Dev) (l : List (Nat × Bytes × Nat)) :
    Sent d (l.foldl (fun (d : Dev) (e : Nat × Bytes × Nat) => d.raise Ev.paramChange e.1 2 3 e.2.2) d) :=
  Sent.foldl (fun _ _ => Dev.raise_sent ..) l d

theorem Dev.applyCommitted_touch (d : Dev) (p : Nat → Bool) : Touch [.par, .conf] d (d.applyCommitted p) :=
  .sent (.setPar (.refl _ d) _) (Dev.paramEvents_sent ..)

theorem Dev.loadSettings_touch (d : Dev) : Touch [.par, .conf] d d.loadSettings := by
  unfold Dev.loadSettings
  dsimp only
  split
  · exact .raise (.setPar (.refl _ d) _) ..
  · exact .sent (.sent (.setPar (.refl _ d) _ (hc := by split <;> rfl) (hg := .inr fun _ => rfl)) (Sent.foldl (fun _ _ => Dev.raise_sent ..) _ _)) (Dev.paramEvents_sent ..)

/-! ### Waking -/

theorem Dev.exitFrost_touch (d : Dev) (trigger : Nat) : Touch [.pow, .par, .conf, .gale, .cards, .bays, .fresh] d (d.exitFrost trigger) := by
  unfold Dev.exitFrost
  dsimp only
  refine .next (.raise (.next (.trans (.of (d.measureExit_touch .frost)) ?_) (Dev.baysBack_touch ..)) ..) (Dev.refreshMode_touch ..)
  constructor <;> simp

theorem Dev.exitGlaze_touch (d : Dev) (trigger : Nat) : Touch allParts d (d.exitGlaze trigger) := by
  have hw : Touch allParts d (d.measureExit .glaze).2.wipe := .trans (.of (d.measureExit_touch .glaze)) (Dev.wipe_touch _)
  unfold Dev.exitGlaze
  split
  next us d1 he =>
  rw [he] at hw
  extract_lets d2 i m d3 d4 d5
  have h3 : Touch allParts d d3 := hw.trans (.all (List.suffix_refl _))
  have h4 : Touch allParts d d4 := (h3.next (Dev.loadSettings_touch _)).next (Dev.baysBack_touch ..)
  have h5 : Touch allParts d d5 := .sent (h4.setGale _) (Dev.recomputePools_sent _)
  exact .next (.next (h5.raise ..) (Dev.setSource_touch ..)) (Dev.refreshMode_touch ..)

/-- From every rung but Glaze a wake changes power, the mode, Gale and the bays, and draws free values. -/
theorem Dev.wake_light_touch {d : Dev} (h : d.pow.rung ≠ .glaze) (trigger : Nat) :
    Touch [.pow, .par, .conf, .gale, .cards, .bays, .fresh] d (d.wake trigger) := by
  unfold Dev.wake
  split
  · exact .refl _ d
  · exact (d.wakeLight_touch trigger).of
  · exact (d.wakeLight_touch trigger).of
  · exact .ite (fun _ => .refl _ d) (fun _ => d.exitFrost_touch trigger)
  · next hg => exact absurd hg h

theorem Dev.wake_touch (d : Dev) (trigger : Nat) : Touch allParts d (d.wake trigger) := by
  by_cases h : d.pow.rung = .glaze
  · unfold Dev.wake
    rw [h]
    exact d.exitGlaze_touch trigger
  · exact (Dev.wake_light_touch h trigger).of

theorem Dev.wakeIf_touch (d : Dev) (trigger : Nat) : Touch allParts d (d.wakeIf trigger) :=
  .ite (fun _ => d.wake_touch trigger) (fun _ => .refl _ d)

theorem Dev.wakeWork_of_clear {d : Dev} (h : d.pow.rung = .clear) (due : Bool) : d.wakeWork due = d := by
  unfold Dev.wakeWork Dev.wakeIf Dev.wake
  simp [h]

/-- A drive that is on wakes from Haze and Fog into Clear. -/
theorem Dev.wakeIf_rung {d : Dev} (hr : d.par.run = .running) (hf : d.pow.failing = none) (hp : d.pow.pwrEn = true)
    (h : d.pow.rung = .haze ∨ d.pow.rung = .fog) (trigger : Nat) : (d.wakeIf trigger).pow.rung = .clear := by
  have hw : d.wake trigger = d.wakeLight trigger := by
    unfold Dev.wake
    rcases h with h | h <;> rw [h]
  unfold Dev.wakeIf
  simp only [hr, hf, hp, hw]
  exact Dev.wakeLight_rung h trigger

end Sys2Proof.Machine
end

section
/-! The sideband and the tool: each request that is served is answered (R318, R346 to R349, R384). -/

namespace Sys2Proof.Machine

/-- What leaves at the end of a command has left in it. -/
theorem emits_last {d e : Dev} (h : d.out <:+ e.out) (o : Out) : emits d (e.emitOut o).reportMode o :=
  ((emits_emitOut e o).earlier h).reported

/-- A command whose effect ends in an output emits it. -/
theorem State.run_emits {s : State} {f : Dev → Dev} {e : Dev} {o : Out} (h : f s.dev = e.emitOut o) (hs : s.dev.out <:+ e.out) :
    ∃ t, s.run f = .next t ∧ emits s.dev t.dev o :=
  ⟨_, State.run_of_eq h, emits_last hs o⟩

theorem Dev.sideband_up {d : Dev} (h : d.mgmt.vaneUp = true) (f : Dev → Dev) : d.sideband f = f d := if_pos h

theorem Dev.sidebandFull_up {d : Dev} (h : d.mgmt.vaneUp = true) (hr : d.par.run ≠ .recovery) (f : Dev → Dev) : d.sidebandFull f = f d :=
  if_pos (by simp [h, hr])

theorem Dev.tool_up {d : Dev} (h : d.mgmt.vaneUp = true) (hr : d.par.run ≠ .recovery) (f : Dev → Dev) : d.tool f = f d :=
  if_pos (by simp [h, hr])

theorem Dev.reportMode_mgmt (d : Dev) : d.reportMode.mgmt.steady = d.mgmt.steady := d.reportMode_touch.mgmt (by simp)

/-! ### MCTP and PLDM -/

/-- An endpoint ID is kept and acknowledged. -/
theorem setEndpointIdEff_effect {d : Dev} (h : d.mgmt.vaneUp = true) (eid : BitVec 8) :
    (setEndpointIdEff eid d).reportMode.mgmt.eid = eid.toNat ∧ emits d (setEndpointIdEff eid d).reportMode (.mctp 1 0 [eid]) := by
  obtain ⟨r, hr⟩ : ∃ r, ({ d with mgmt := { d.mgmt with eid := eid.toNat } } : Dev).raise Ev.sidebandEid eid.toNat d.mgmt.smbusAddr 0 0 = r :=
    ⟨_, rfl⟩
  have ht : Touch [.mgmt] d r := hr ▸ .raise (.setMgmt (.refl _ d) _) ..
  have he : r.mgmt.eid = eid.toNat := hr ▸ congrArg Mgmt.eid (Dev.raise_sent ..).mgmt
  have hp := (r.mctp 1 0 [eid]).applyCommitted_touch (· == P.mgmtSmbusAddr)
  have heff : setEndpointIdEff eid d = { (r.mctp 1 0 [eid]).applyCommitted (· == P.mgmtSmbusAddr) with
      mgmt := { ((r.mctp 1 0 [eid]).applyCommitted (· == P.mgmtSmbusAddr)).mgmt with
        smbusAddr := ((r.mctp 1 0 [eid]).applyCommitted (· == P.mgmtSmbusAddr)).pnum P.mgmtSmbusAddr } } := by
    unfold setEndpointIdEff
    rw [Dev.sideband_up h, hr]
  rw [heff]
  refine ⟨?_, emits.reported ((((emits_emitOut r _).later hp.out).earlier ht.out).later (List.suffix_refl _))⟩
  refine (congrArg Mgmt.eid (Dev.reportMode_mgmt _)).trans ?_
  exact (congrArg Mgmt.eid (hp.mgmt (by simp))).trans he

/-- An accepted message leaves the queue of a drive whose mode is reported. -/
theorem platformAcceptEff_queue {d : Dev} (h : d.mgmt.vaneUp = true) (hr : d.par.run ≠ .recovery) (hs : settled d) :
    (platformAcceptEff d).reportMode.mgmt.pldmQueue = d.mgmt.pldmQueue.tail := by
  have hcore : coreOf (platformAcceptEff d) = coreOf d ∧ (platformAcceptEff d).mgmt.pldmQueue = d.mgmt.pldmQueue.tail := by
    unfold platformAcceptEff
    rw [Dev.sidebandFull_up h hr]
    dsimp only
    cases d.mgmt.pldmQueue.tail <;> exact ⟨rfl, rfl⟩
  rw [Dev.reportMode_of_settled ((settled_of_core hcore.1).mpr hs)]
  exact hcore.2

/-- Settles O45: every request ends in its response; what it keeps stands at the report. -/
theorem sidebandRequestsAnswered : Obligations.SidebandRequestsAnswered := by
  refine ⟨fun s h => ?mctp, fun s h hr => ?pldm, fun s => ⟨_, rfl, congrArg Mgmt.locateTimed (Dev.reportMode_mgmt _)⟩⟩
  case mctp =>
    have up := Dev.sideband_up h
    refine ⟨fun eid => ⟨_, rfl, setEndpointIdEff_effect h eid⟩, State.run_emits (up _) (List.suffix_refl _), fun typ ht => ?version,
      State.run_emits (up _) (List.suffix_refl _)⟩
    case version => exact State.run_emits ((up _).trans (if_pos ht)) (List.suffix_refl _)
  case pldm =>
    have up := Dev.sidebandFull_up h hr
    have answer {f : Dev → Dev} {o : Out} (ho : f s.dev = s.dev.emitOut o) :
        ∃ t, s.run (fun d => d.sidebandFull f) = .next t ∧ emits s.dev t.dev o := State.run_emits ((up f).trans ho) (List.suffix_refl _)
    have answered {m : Mgmt} {o : Out} : emits s.dev (({ s.dev with mgmt := m } : Dev).emitOut o).reportMode o :=
      emits_last (List.suffix_refl _) o
    refine ⟨answer rfl, fun typ ht => answer (if_pos ht), answer rfl, fun typ l hl => answer ?commands, answer rfl,
      fun n p hp => answer ?pdr, fun id hs => answer (if_pos hs), fun id hs => answer (if_pos hs), ?wake, fun on => ?locate,
      fun a => ?receiver, fun hs => ⟨_, rfl, platformAcceptEff_queue h hr hs⟩, fun typ cmd => answer rfl⟩
    case commands => simp only [hl]; rfl
    case pdr => simp only [Nat.add_sub_cancel, hp]; rfl
    case wake =>
      refine ⟨_, State.run_of_eq (up _), emits_last (s.dev.wakeIf_touch 4).out _, fun hrun hf hp hrung => ?_⟩
      rw [Dev.reportMode_pow]
      exact Dev.wakeIf_rung hrun hf hp hrung 4
    case locate => exact ⟨_, State.run_of_eq (up _), congrArg Mgmt.locateTimed (Dev.reportMode_mgmt _), answered⟩
    case receiver => exact ⟨_, State.run_of_eq (up _), congrArg Mgmt.pldmReceiver (Dev.reportMode_mgmt _), answered⟩

/-! ### SPDM -/

/-- A served SPDM request is recorded and answered. -/
theorem Dev.spdm_emits {d e : Dev} (h : d.out <:+ e.out) (event code : Nat) (b : Bytes) :
    emits d ((e.spdmEvent event).spdm code b).reportMode (.spdm code b) :=
  emits_last (h.trans (e.raise_sent ..).out) _

/-! ### The tool -/

theorem Dev.setSource_ns (d : Dev) (x : TimeSource) (ms : Int) : (d.setSource x ms).clk.ns = d.clk.ns := by
  unfold Dev.setSource
  split
  · rfl
  · exact Dev.raise_clk_ns ..

theorem Dev.correct_touch (d : Dev) (delta : Int) : Touch [.clk] d (d.correct delta) := by
  unfold Dev.correct
  refine .ite (fun _ => .setClk (.refl _ d) _) (fun _ => ?_)
  dsimp only
  exact .ite (fun _ => .raise (.setClk (.refl _ d) _) ..) (fun _ => .setClk (.refl _ d) _)

/-- A correction forward by more than 1 s is a step. -/
theorem Dev.correct_step {d : Dev} {ns : Nat} (h : d.clk.ns + 1000000000 < ns) : (d.correct ((ns : Int) - d.clk.ns)).clk.ns = ns := by
  unfold Dev.correct
  rw [if_pos (by omega)]
  show d.clk.ns + ((ns : Int) - d.clk.ns).toNat = ns
  omega

theorem Dev.hostTime_touch (d : Dev) (ns : Nat) : Touch [.clk] d (d.hostTime ns).2 := by
  unfold Dev.hostTime
  split
  · exact .refl _ d
  · exact .ite (fun _ => d.correct_touch _) (fun _ => (d.correct_touch _).trans (Dev.setSource_touch ..))

/-- A host may set the time while PTP is not locked; a set far ahead is a step. -/
theorem Dev.hostTime_taken {d : Dev} (h : d.clk.source ≠ .ptpLocked) (ns : Nat) :
    (d.hostTime ns).1 = true ∧ (d.clk.ns + 1000000000 < ns → (d.hostTime ns).2.clk.ns = ns) := by
  unfold Dev.hostTime
  rw [if_neg h]
  refine ⟨rfl, fun hn => ?_⟩
  dsimp only
  split
  · exact Dev.correct_step hn
  · exact (Dev.setSource_ns ..).trans (Dev.correct_step hn)

theorem Dev.reportMode_time (d : Dev) : d.reportMode.clk.ns = d.clk.ns := by
  have h := congrArg Clock.ns (d.reportMode_touch.clk (by simp))
  exact h

/-- The tool's set of the time is taken while PTP is not locked. -/
theorem virradTimeSetEff_effect {d : Dev} (h : d.mgmt.vaneUp = true) (hr : d.par.run ≠ .recovery) (hs : d.clk.source ≠ .ptpLocked)
    (ns : Nat) :
    (d.clk.ns + 1000000000 < ns → (virradTimeSetEff ns d).reportMode.clk.ns = ns) ∧
      emits d (virradTimeSetEff ns d).reportMode (.virrad [200]) := by
  obtain ⟨ht, hn⟩ := Dev.hostTime_taken hs ns
  have heff : virradTimeSetEff ns d = (d.hostTime ns).2.print [200] := by
    unfold virradTimeSetEff
    rw [Dev.tool_up h hr]
    split
    · next he => rw [he]
    · next he => rw [he] at ht; cases ht
  rw [heff]
  exact ⟨fun hns => (Dev.reportMode_time _).trans (hn hns), emits_last (d.hostTime_touch ns).out _⟩

/-- Settles O46: every request that is served ends in its response. -/
theorem spdmAndToolAnswer : Obligations.SpdmAndToolAnswer := by
  intro s h hr
  have up := Dev.sidebandFull_up h hr
  have tool := Dev.tool_up h hr
  have spdm {f : Dev → Dev} {e : Dev} {event code : Nat} {b : Bytes} (ho : f s.dev = (e.spdmEvent event).spdm code b)
      (hs : s.dev.out <:+ e.out) : ∃ t, s.run (fun d => d.sidebandFull f) = .next t ∧ emits s.dev t.dev (.spdm code b) :=
    State.run_emits ((up f).trans ho) (hs.trans (e.raise_sent ..).out)
  have print {f : Dev → Dev} {l : List Nat} (ho : f s.dev = s.dev.print l) :
      ∃ t, s.run (fun d => d.tool f) = .next t ∧ emits s.dev t.dev (.virrad l) :=
    State.run_emits ((tool f).trans ho) (List.suffix_refl _)
  refine ⟨spdm rfl (List.suffix_refl _), spdm rfl (List.suffix_refl _), spdm rfl (List.suffix_refl _), spdm rfl (List.suffix_refl _),
    fun offset length => ⟨_, State.run_of_eq (up _), ?certificate, ?beyond⟩, fun nonce => spdm (e := s.dev.draw.2) rfl (List.suffix_refl _),
    fun i nonce b hb => ?measure, fun code => State.run_emits (up _) (List.suffix_refl _), fun n x hx => print ?ns,
    fun ns hs => ⟨_, rfl, virradTimeSetEff_effect h hr hs ns⟩, fun hrun hf hp hrung => ⟨_, State.run_of_eq (tool _), ?wake⟩,
    fun p => print rfl, fun sid => print rfl, print rfl, print rfl⟩
  case certificate =>
    intro ho
    rw [if_neg (Nat.not_le.mpr ho)]
    exact Dev.spdm_emits (List.suffix_refl _) ..
  case beyond =>
    intro ho
    rw [if_pos ho]
    exact emits_last (List.suffix_refl _) _
  case measure => exact spdm (e := s.dev.draw.2) (by simp only [hb]; rfl) (List.suffix_refl _)
  case ns => simp only [hx]
  case wake =>
    rw [Dev.reportMode_pow]
    exact Dev.wakeIf_rung hrun hf hp hrung 4

end Sys2Proof.Machine
end

section
/-! `DIAG`: each op on a block that it admits (R280). -/

namespace Sys2Proof.Machine

/-! ### Repairs of Gale -/

theorem Dev.galeRepaired_sent (d : Dev) (a kind : Nat) : Sent d (d.galeRepaired a kind) := (d.bump_sent ..).trans (Dev.raise_sent ..)

theorem Dev.repairRow_touch (d : Dev) (a : Nat) : Touch [.gale] d (d.repairRow a) := by
  unfold Dev.repairRow
  split
  · exact .refl _ d
  · exact .ite (fun _ => .sent (d.modGale_touch _) (Dev.galeRepaired_sent ..)) (fun _ => .sent (d.modGale_touch _) (Dev.galeRepaired_sent ..))

theorem Dev.perrRow_touch (d : Dev) (a : Nat) : Touch [.gale] d (d.perrRow a) := .trans (.raise (.refl _ d) ..) (Dev.repairRow_touch ..)

theorem Dev.perrRows_touch (d : Dev) (bad : List Nat) : Touch [.gale] d (d.perrRows bad) :=
  .ite (fun _ => .refl _ d) (fun _ => .trans (.bump (.refl _ d) ..) (Touch.foldl Dev.perrRow_touch ..))

/-- A repair leaves the mask registers. -/
theorem Dev.perrRow_masks (d : Dev) (a : Nat) : (d.perrRow a).gale.masks = d.gale.masks := by
  have hr (e : Dev) (kind : Nat) : (e.galeRepaired a kind).gale = e.gale := core_gale (Dev.galeRepaired_sent ..).core
  unfold Dev.perrRow Dev.repairRow
  repeat' split
  all_goals simp [hr, Dev.modGale, Gale.writeRow, Gale.invalidate]

theorem Dev.perrRows_masks (d : Dev) (bad : List Nat) : (d.perrRows bad).gale.masks = d.gale.masks := by
  have hf (l : List Nat) (e : Dev) : (l.foldl (fun (d : Dev) (a : Nat) => d.perrRow a) e).gale.masks = e.gale.masks := by
    induction l generalizing e with
    | nil => rfl
    | cons a l ih => exact (ih _).trans (Dev.perrRow_masks e a)
  unfold Dev.perrRows
  split
  · rfl
  · exact hf ..

/-! ### The block -/

theorem Dev.recordCe_touch (d : Dev) (cls source addr locus : Nat) (quiet : Bool) : Touch [.mem] d (d.recordCe cls source addr locus quiet) := by
  unfold Dev.recordCe
  extract_lets m now n
  refine .ite (fun _ => .setMem (.refl _ d) _) (fun _ => .ite (fun _ => .setMem (.refl _ d) _) (fun _ => ?_))
  split
  · exact .refl _ d
  · exact .ite (fun _ => .setMem (.refl _ d) _) (fun _ => .raise (.setMem (.refl _ d) _) ..)

/-- What the op of a block runs. -/
def Dev.diagOp (d : Dev) (c : Cap) (op : Nat) : Dev :=
  match op with
  | 1 => d.flipArm c
  | 2 => d.flipDisarm c
  | 3 => d.lineWrite c
  | 4 => d.lineRead c
  | 5 => d.rawRead c
  | 6 => d.galeRead c
  | _ => d.galeSearchOp c

/-- A block that is admitted runs its op on the dispatched capsule. -/
theorem Dev.diag_ready {d : Dev} {seq : Nat} {c : Cap} (h : ready d seq Op.diag c) (hk : diagCheck c = none) {n : Nat} (ho : c.dOp = n) :
    d.admin seq Op.diag (opIs diagOps n) diagGo = (d.dispatchAs c c.cls).diagOp c.sent n := by
  rw [Dev.admin_ready h (opIs_self ho)]
  subst ho
  exact Dev.check_none hk _

/-- The end of an op answers its capsule, and leaves memory and Gale as the op made them. -/
theorem ready.diagEnded {d e : Dev} {seq n : Nat} {c : Cap} (h : ready d seq Op.diag c) {S : List DevPart}
    (ht : Touch S (d.dispatchAs c c.cls) e) (ho : c.dOp = n) (outcome locus channel galeAddr : Nat) (data check : Bytes)
    (hn : autoParam (.net ∉ S) List.nodup_range'._auto_1) :
    Machine.answered d (e.diagEnd c.sent outcome locus channel galeAddr data check).reportMode c Status.ok 0
        (diagReply n outcome locus channel galeAddr data check) ∧
      (e.diagEnd c.sent outcome locus channel galeAddr data check).reportMode.mem = e.mem ∧
      (e.diagEnd c.sent outcome locus channel galeAddr data check).reportMode.gale = e.gale := by
  have he : Sent e (e.diagEvent c.dOp c.dTarget outcome c.dAddr) := e.raise_sent ..
  have hr := h.replied (ht.sent he) (Reply.okData (diagReply c.dOp outcome locus channel galeAddr data check)) hn
  rw [← ho]
  exact ⟨hr.1, (hr.2.mem (by simp)).trans (core_mem he.core), (hr.2.gale (by simp)).trans (core_gale he.core)⟩

theorem Memory.mask_setMask (m : Memory) (target : Nat) (x : Option DiagMask) : (m.setMask target x).mask target = x := by
  unfold Memory.setMask Memory.mask
  cases target == 1 <;> rfl

theorem Dev.cell_of_mem {d e : Dev} (h : e.mem = d.mem) (target addr : Nat) : e.cell target addr = d.cell target addr := by
  unfold Dev.cell
  rw [h]

/-- `LINE_WRITE` leaves the block's data at its line or word. -/
theorem Dev.lineWrite_eq (d : Dev) (c : Cap) : ∃ m : Memory,
    (∃ x ∈ m.diag, x.target = c.dTarget ∧ x.address = c.dAddr ∧ x.data = (c.value.drop 0x60).take (cellBytes c.dTarget)) ∧
      d.lineWrite c = ({ d with mem := m } : Dev).diagEnd c 0 0xFF c.dChannel 0 [] [] :=
  ⟨_, ⟨_, List.mem_cons_self, rfl, rfl, rfl⟩, rfl⟩

/-- `LINE_READ` answers what the decoder makes of the line or word. -/
theorem Dev.lineRead_answered {d : Dev} {seq : Nat} {c : Cap} (h : ready d seq Op.diag c) (ho : c.dOp = 4) :
    Machine.answered d ((d.dispatchAs c c.cls).lineRead c.sent).reportMode c Status.ok 0
      (diagReply 4 (d.cell c.dTarget c.dAddr).decode.outcome (d.cell c.dTarget c.dAddr).decode.locus c.dChannel 0
        (d.cell c.dTarget c.dAddr).decode.data []) := by
  rw [← Dev.cell_of_mem (Dev.dispatchAs_mem d c c.cls)]
  unfold Dev.lineRead
  extract_lets r d1
  have h1 : Touch [.mem] (d.dispatchAs c c.cls) d1 := by
    simp only [d1]
    split
    · exact .trans (.bump (.refl _ _) ..) (Dev.recordCe_touch ..)
    · exact .bump (.refl _ _) ..
    · exact .refl _ _
  exact (h.diagEnded h1 ho ..).1

theorem Dev.rawRead_answered {d : Dev} {seq : Nat} {c : Cap} (h : ready d seq Op.diag c) (ho : c.dOp = 5) :
    Machine.answered d ((d.dispatchAs c c.cls).rawRead c.sent).reportMode c Status.ok 0
      (diagReply 5 0 0xFF c.dChannel 0 (d.cell c.dTarget c.dAddr).rawData (d.cell c.dTarget c.dAddr).rawCheck) := by
  rw [← Dev.cell_of_mem (Dev.dispatchAs_mem d c c.cls)]
  exact (h.diagEnded (S := []) (.refl _ _) ho ..).1

/-- `GALE_READ` answers a row that has been written. -/
theorem Dev.galeRead_answered {d : Dev} {seq : Nat} {c : Cap} {r : GRow} (h : ready d seq Op.diag c) (ho : c.dOp = 6)
    (hr : d.gale.rows.find? (fun r => r.addr == c.dAddr) = some r) :
    Machine.answered d ((d.dispatchAs c c.cls).galeRead c.sent).reportMode c Status.ok 0
      (diagReply 6 0 0xFF 0 c.dAddr (natToBytesBE 9 r.data.toNat ++ natToBytesBE 1 (4 * r.valid.toNat + r.parity.toNat)) []) := by
  have hf : (d.dispatchAs c c.cls).gale.rows.find? (fun r => r.addr == c.sent.dAddr) = some r := by
    rw [Dev.dispatchAs_gale]
    exact hr
  unfold Dev.galeRead
  simp only [hf]
  exact (h.diagEnded (S := []) (.refl _ _) ho ..).1

theorem Gale.loadMask_partakes (g : Gale) (k : Fin 16) (m : BitVec 144) (t : GTable) (a : Nat) :
    (g.loadMask k m).partakes t a = g.partakes t a := by
  unfold Gale.loadMask
  split <;> rfl

/-- `GALE_SEARCH` loads the block's mask and answers the first match, and whether more rows match and any fails its parity. -/
theorem Dev.galeSearchOp_effect {d : Dev} {seq : Nat} {c : Cap} (h : ready d seq Op.diag c) (ho : c.dOp = 7) :
    ((d.dispatchAs c c.cls).galeSearchOp c.sent).reportMode.gale.masks.get 15 = BitVec.ofNat 144 (c.value.field 0x22 18) ∧
      ∃ ms : List Nat, ms = (d.gale.loadMask 15 (BitVec.ofNat 144 (c.value.field 0x22 18))).matches_ (tableNum c.dTarget) c.dAddr
          (BitVec.ofNat 144 (c.value.field 0x10 18)) (BitVec.ofNat 144 (c.value.field 0x22 18)) ∧
        Machine.answered d ((d.dispatchAs c c.cls).galeSearchOp c.sent).reportMode c Status.ok 0
          (diagReply 7 ((!ms.isEmpty).toNat + 2 * (decide (1 < ms.length)).toNat +
            4 * ((d.gale.partakes (tableNum c.dTarget) c.dAddr).any GRow.perr).toNat) 0xFF 0 (ms.headD 0) [] []) := by
  have hbad (l : List GRow) : (!((l.filter GRow.perr).map (·.addr)).isEmpty) = l.any GRow.perr := by
    rw [List.isEmpty_map]
    induction l with
    | nil => rfl
    | cons r l ih => cases hp : r.perr <;> simp [hp, ih]
  unfold Dev.galeSearchOp
  extract_lets t key mask d1 ms bad d2 d3
  have h2 : Touch [.gale] (d.dispatchAs c c.cls) (if 1 < ms.length then d2.countMulti 1 else d2) := by
    have h1 : Touch [.gale] (d.dispatchAs c c.cls) d2 := .sent (Dev.modGale_touch ..) (Dev.countSearch_sent ..)
    exact .ite (fun _ => h1.sent (Dev.countMulti_sent ..)) (fun _ => h1)
  have hgale : (if 1 < ms.length then d2.countMulti 1 else d2).gale = d1.gale := by
    split <;> rfl
  have hr := h.diagEnded (h2.trans (Dev.perrRows_touch _ bad)) ho
    ((!ms.isEmpty).toNat + 2 * (decide (1 < ms.length)).toNat + 4 * (!bad.isEmpty).toNat) 0xFF 0 (ms.headD 0) [] []
  refine ⟨?_, ms, ?_, ?_⟩
  · rw [hr.2.2]
    rw [Dev.perrRows_masks, hgale]
    exact vector_get_set_self ..
  · rw [← Dev.dispatchAs_gale d c c.cls]
    rfl
  · have hrows : d1.gale.partakes t c.sent.dAddr = d.gale.partakes (tableNum c.dTarget) c.dAddr := by
      rw [← Dev.dispatchAs_gale d c c.cls]
      exact Gale.loadMask_partakes ..
    have hb : (!bad.isEmpty) = (d.gale.partakes (tableNum c.dTarget) c.dAddr).any GRow.perr := hrows ▸ hbad _
    rw [← hb]
    exact hr.1

/-- Settles O34: each op runs on the dispatched capsule and ends in its reply. -/
theorem diagnosticOpsTakeEffect : Obligations.DiagnosticOpsTakeEffect := by
  refine ⟨?arm, ?disarm, ?write, ?read, ?raw, ?gale, ?search⟩
  case arm =>
    intro s seq c h hk ho
    have hr := h.diagEnded (.setMem (S := [.mem]) (.refl _ _) ((s.dev.dispatchAs c c.cls).mem.setMask c.dTarget (some ⟨c.dAddr,
      (c.value.drop 0x10).take (cellBytes c.dTarget), (c.value.drop 0x50).take (checkLen c.dTarget)⟩))) ho 0 0xFF c.dChannel 0 [] []
    exact ⟨_, State.run_of_eq (Dev.diag_ready h hk ho), (congrArg (Memory.mask · c.dTarget) hr.2.1).trans (Memory.mask_setMask ..), hr.1⟩
  case disarm =>
    intro s seq c h hk ho
    have hr := h.diagEnded (.setMem (S := [.mem]) (.refl _ _) ((s.dev.dispatchAs c c.cls).mem.setMask c.dTarget none)) ho 0 0xFF c.dChannel
      0 [] []
    exact ⟨_, State.run_of_eq (Dev.diag_ready h hk ho), (congrArg (Memory.mask · c.dTarget) hr.2.1).trans (Memory.mask_setMask ..), hr.1⟩
  case write =>
    intro s seq c h hk ho
    obtain ⟨m, ⟨x, hx, hcell⟩, hm⟩ := (s.dev.dispatchAs c c.cls).lineWrite_eq c.sent
    have hr := h.diagEnded (.setMem (S := [.mem]) (.refl _ _) m) ho 0 0xFF c.dChannel 0 [] []
    exact ⟨_, State.run_of_eq ((Dev.diag_ready h hk ho).trans hm), ⟨x, hr.2.1 ▸ hx, hcell⟩, hr.1⟩
  case read => exact fun s seq c h hk ho => ⟨_, State.run_of_eq (Dev.diag_ready h hk ho), Dev.lineRead_answered h ho⟩
  case raw => exact fun s seq c h hk ho => ⟨_, State.run_of_eq (Dev.diag_ready h hk ho), Dev.rawRead_answered h ho⟩
  case gale => exact fun s seq c r h hk ho hr => ⟨_, State.run_of_eq (Dev.diag_ready h hk ho), Dev.galeRead_answered h ho hr⟩
  case search => exact fun s seq c h hk ho => ⟨_, State.run_of_eq (Dev.diag_ready h hk ho), Dev.galeSearchOp_effect h ho⟩

end Sys2Proof.Machine
end

section
/-! Identification and parameters: `IDENTIFY`, `GET_PARAM` and `SET_PARAM` with one entry (R352, R439 to R442). -/

namespace Sys2Proof.Machine

/-- What a dispatch leaves reads the same as before it. -/
theorem Dev.dispatchAs_congr {α : Type} (f : Dev → α) (d : Dev) (c : Cap) (cls : Nat)
    (h : ∀ (cs : List Cap) (df : Vector Nat 3) (i : Fin 3) (wu wa wc : Nat) (wt : List (BitVec 32 × Nat)) (k : List (Ctr × BitVec 64)),
      f { d with que := { d.que with caps := cs, deficit := df, drrAt := i, winUrgent := wu, winAll := wa, winCaps := wc, winTenant := wt },
                 ctr := k } = f d) : f (d.dispatchAs c cls) = f d := by
  obtain ⟨cs, df, i, wu, wa, wc, wt, k, he⟩ := d.dispatchAs_exists c cls
  rw [he]
  exact h cs df i wu wa wc wt k

/-- An admin opcode that answers at once. -/
theorem ready.okWith {d : Dev} {seq : Nat} {op : BitVec 16} {c : Cap} (h : ready d seq op c) (b : Bytes) :
    answered d ((d.dispatchAs c c.cls).okWith c.sent b).reportMode c Status.ok 0 b :=
  (h.replied (S := []) (.refl _ _) (Reply.okData b)).1

theorem Dev.dispatchAs_identifyBlock (d : Dev) (c : Cap) (cls : Nat) : (d.dispatchAs c cls).identifyBlock = d.identifyBlock :=
  Dev.dispatchAs_congr Dev.identifyBlock d c cls (fun _ _ _ _ _ _ _ _ => rfl)

theorem Dev.dispatchAs_paramEntry (d : Dev) (c : Cap) (cls : Nat) : (d.dispatchAs c cls).paramEntry = d.paramEntry :=
  Dev.dispatchAs_congr Dev.paramEntry d c cls (fun _ _ _ _ _ _ _ _ => rfl)

theorem Dev.dispatchAs_maintCell (d : Dev) (c : Cap) (cls : Nat) (a : Activity) : (d.dispatchAs c cls).maintCell a = d.maintCell a :=
  Dev.dispatchAs_congr (Dev.maintCell · a) d c cls (fun _ _ _ _ _ _ _ _ => rfl)

/-! ### The scan of a block with one entry -/

theorem Dev.maint_sent (d : Dev) (a : Activity) : Sent d (d.maint a).2 := by
  unfold Dev.maint
  split
  · exact .refl d
  · exact d.raise_sent ..
  · exact d.raise_sent ..
  · exact d.raise_sent ..

theorem Dev.maint_records (d : Dev) (a : Activity) : Records 1 d (d.maint a).2 := by
  unfold Dev.maint
  split
  · exact (Records.of_ev rfl).mono (by omega)
  · exact d.raise_records _ _ _ _ _
  · exact d.raise_records _ _ _ _ _
  · exact d.raise_records _ _ _ _ _

theorem Dev.maint_fst (d : Dev) (a : Activity) : (d.maint a).1 = (d.maintCell a).1 := by
  unfold Dev.maint
  split <;> next h => rw [h]

/-- What the scan of one entry finds. -/
theorem Dev.scanBlock_one (d : Dev) (a : PScan) (i : Nat) (e : PEntry) :
    (d.scanBlock a i [e]).1 = match scanEntryP d.par a e with
      | .inl st => some (st, e, i)
      | .inr _ => if e.id == P.modeSelftestRun && (e.value.toNatBE == 1 || e.value.toNatBE == 2) && (d.maintCell .self).1 == .b then
          some (Status.busyMaintenance, e, i) else none := by
  unfold Dev.scanBlock
  cases scanEntryP d.par a e with
  | inl st => rfl
  | inr b =>
    have hf := d.maint_fst .self
    dsimp only
    cases hi : e.id == P.modeSelftestRun && (e.value.toNatBE == 1 || e.value.toNatBE == 2) with
    | false => rfl
    | true =>
      simp only [if_true, Bool.true_and, ← hf]
      generalize d.maint .self = m
      obtain ⟨x, e⟩ := m
      cases x <;> rfl

/-- The scan of one entry sends no more than an event. -/
theorem Dev.scanBlock_one_sent (d : Dev) (a : PScan) (i : Nat) (e : PEntry) : Sent d (d.scanBlock a i [e]).2 := by
  have hm := d.maint_sent .self
  unfold Dev.scanBlock
  split
  · exact .refl d
  · split
    · split <;> next h => rw [h] at hm; exact hm
    · exact .refl d

/-- A capsule whose one entry the scan admits sets it. -/
def Dev.enterParam (d : Dev) (cred : Nat) (e : PEntry) : Dev :=
  if e.live then (d.applyEntry cred e).writeSettings else d.applyEntry cred e

/-- A block of one entry that the scan admits is applied, behind what the scan sent, and answered with the settings' generation. -/
theorem setParamGo_one {d : Dev} {c : Cap} {e : PEntry} (h : setsOne d c e) :
    setParamGo c d = let x := (d.scanBlock ⟨d.par.values, [], d.par.selfTest.isSome⟩ 0 [e]).2.enterParam c.cred e
      x.okWith c (x.settingsReply x.par.staged.length) := by
  obtain ⟨hl, hn, he, hz, hs⟩ := h
  unfold setParamGo
  simp only [Nat.not_lt.mpr hl, if_false, hn, he, hz]
  generalize d.scanBlock ⟨d.par.values, [], d.par.selfTest.isSome⟩ 0 [e] = r at hs
  obtain ⟨o, d1⟩ := r
  cases hs
  simp [Dev.enterParam]

/-- An entry that is admitted is admitted once its capsule is dispatched. -/
theorem setsOne.dispatched {d : Dev} {c : Cap} {e : PEntry} (h : setsOne d c e) : setsOne (d.dispatchAs c c.cls) c.sent e := by
  obtain ⟨hl, hn, he, hz, hs⟩ := h
  refine ⟨hl, hn, he, hz, ?_⟩
  rw [Dev.scanBlock_one] at hs ⊢
  rw [Dev.dispatchAs_par, Dev.dispatchAs_maintCell]
  exact hs

/-- What `SET_PARAM` of one entry runs on the dispatched capsule. -/
def Dev.setOne (d : Dev) (c : Cap) (e : PEntry) : Dev :=
  ((d.dispatchAs c c.cls).scanBlock ⟨d.par.values, [], d.par.selfTest.isSome⟩ 0 [e]).2.enterParam c.cred e

theorem Dev.setParam_ready {d : Dev} {seq : Nat} {c : Cap} {e : PEntry} (h : ready d seq Op.setParam c) (hk : setsOne d c e)
    {mine : Cap → Bool} (hm : mine c = true) :
    d.admin seq Op.setParam mine setParamGo =
      (d.setOne c e).okWith c.sent ((d.setOne c e).settingsReply (d.setOne c e).par.staged.length) := by
  rw [Dev.admin_ready h hm, setParamGo_one (setsOne.dispatched hk)]
  unfold Dev.setOne
  rw [Dev.dispatchAs_par]
  rfl

/-- Behind the scan the entry is applied to the drive as it was dispatched on. -/
theorem Dev.setOne_eq (d : Dev) (c : Cap) (e : PEntry) :
    ∃ x, Sent (d.dispatchAs c c.cls) x ∧ x.par = d.par ∧ d.setOne c e = x.enterParam c.cred e := by
  have hs := (d.dispatchAs c c.cls).scanBlock_one_sent ⟨d.par.values, [], d.par.selfTest.isSome⟩ 0 e
  exact ⟨_, hs, (core_par hs.core).trans (Dev.dispatchAs_par ..), rfl⟩

/-! ### The entry is applied -/

theorem Dev.writeSettings_par (d : Dev) :
    d.writeSettings.par.gen = d.par.gen + 1 ∧ d.writeSettings.par.staged = d.par.staged ∧ d.writeSettings.par.values = d.par.values ∧
      d.writeSettings.par.selfTest = d.par.selfTest ∧ d.writeSettings.par.committed = d.par.committed := by
  unfold Dev.writeSettings Conf.writeHalf
  refine ⟨rfl, ?_⟩
  dsimp only
  repeat' split
  all_goals exact ⟨rfl, rfl, rfl, rfl⟩

theorem Conf.writeHalf_course (c : Conf) (h gen : Nat) (es : List (Nat × Bytes)) : (c.writeHalf h gen es).course = c.course := by
  unfold Conf.writeHalf
  dsimp only
  split <;> rfl

theorem Dev.writeSettings_touch (d : Dev) : Touch [.par, .conf] d d.writeSettings := by
  refine .setPar (.refl _ d) _ (hc := ?_) (hg := .inr fun h => d.writeSettings_par.2.1.trans h)
  split
  · exact (Conf.writeHalf_course ..).trans (Conf.writeHalf_course ..)
  · exact Conf.writeHalf_course ..

theorem Dev.paramApplied_touch (d : Dev) (id : Nat) : Touch [.que, .pow] d (d.paramApplied id) :=
  .ite (fun _ => d.refreshEarly_touch.of) (fun _ => .ite (fun _ => .sent (.refl _ d) d.recomputePools_sent)
    (fun _ => .ite (fun _ => .setPow (.refl _ d) _) (fun _ => .refl _ d)))

/-- An entry of class 2 is staged. -/
theorem Dev.enterParam_staged {d : Dev} {e : PEntry} {r : PRow} (hr : paramRow e.id = some r) (hc : r.cls = 2) (cred : Nat) :
    Touch [.par, .conf, .staged] d (d.enterParam cred e) ∧ (d.enterParam cred e).par = { d.par with staged := setEntry d.par.staged e.id e.value } := by
  have hl : e.live = false := by simp [PEntry.live, hr, hc]
  have he : d.enterParam cred e =
      ({ d with par := { d.par with staged := setEntry d.par.staged e.id e.value } } : Dev).raise Ev.paramChange e.id r.cls 1 cred := by
    simp [Dev.enterParam, hl, Dev.applyEntry, hr, hc]
  rw [he]
  exact ⟨.raise (.setPar (.refl _ d) _) .., Dev.raise_par ..⟩

/-- Any other entry, but the start of a self-test, is in force. -/
theorem Dev.enterParam_live {d : Dev} {e : PEntry} {r : PRow} (hr : paramRow e.id = some r) (hc : r.cls ≠ 2)
    (hi : e.id ≠ P.modeSelftestRun) (cred : Nat) :
    Touch [.par, .conf, .que, .pow] d (d.enterParam cred e) ∧ (d.enterParam cred e).par.values = setEntry d.par.values e.id e.value ∧
      (d.enterParam cred e).par.staged = d.par.staged := by
  have hl : e.live = true := by simp [PEntry.live, hr, hc]
  obtain ⟨x, hx⟩ : ∃ x, ({ d with par := { d.par with values := setEntry d.par.values e.id e.value } } : Dev) = x := ⟨_, rfl⟩
  have ht : Touch [.par, .conf, .que, .pow] d (x.paramApplied e.id) := .next (hx ▸ .setPar (.refl _ d) _) (Dev.paramApplied_touch ..)
  have hp : ((x.paramApplied e.id).raise Ev.paramChange e.id r.cls 1 cred).par = x.par :=
    (Dev.raise_par ..).trans ((x.paramApplied_touch e.id).par (by simp))
  have he : d.enterParam cred e = ((x.paramApplied e.id).raise Ev.paramChange e.id r.cls 1 cred).writeSettings := by
    simp [Dev.enterParam, hl, Dev.applyEntry, hr, hc, hi, hx]
  obtain ⟨-, hstaged, hvalues, -, -⟩ := ((x.paramApplied e.id).raise Ev.paramChange e.id r.cls 1 cred).writeSettings_par
  rw [he]
  exact ⟨(ht.raise ..).next (Dev.writeSettings_touch _), by rw [hvalues, hp, ← hx], by rw [hstaged, hp, ← hx]⟩

/-- `SET_PARAM` answers, and the parameters are as its entry leaves them, but for the mode. -/
theorem ready.paramSet {d : Dev} {seq : Nat} {c : Cap} (h : ready d seq Op.setParam c) {S : List DevPart} {e : Dev}
    (ht : Touch S (d.dispatchAs c c.cls) e) (b : Bytes) (hn : autoParam (.net ∉ S) List.nodup_range'._auto_1) :
    answered d (e.okWith c.sent b).reportMode c Status.ok 0 b ∧
      (e.okWith c.sent b).reportMode.par.values = e.par.values ∧ (e.okWith c.sent b).reportMode.par.staged = e.par.staged ∧
      (e.okWith c.sent b).reportMode.par.selfTest = e.par.selfTest := by
  have hp : (e.okWith c.sent b).par = e.par := (e.adminReply_touch c.sent (Reply.okData b) h.2.2.2.1).par (by simp)
  rw [Dev.reportMode_par, hp]
  exact ⟨(h.replied ht (Reply.okData b) hn).1, rfl, rfl, rfl⟩

/-- Settles O25. -/
theorem parametersAreReadAndSet : Obligations.ParametersAreReadAndSet := by
  refine ⟨?identify, ?get, ?stage, ?set⟩
  case identify =>
    intro s seq c h
    refine ⟨_, State.run_of_eq (Dev.admin_ready h rfl _), ?_⟩
    rw [Dev.dispatchAs_identifyBlock]
    exact h.okWith _
  case get =>
    intro s seq c es rs h hl he hf hz hn hb hr
    have heff : getParamEff seq s.dev = (s.dev.dispatchAs c c.cls).okWith c.sent (natToBytesBE 2 rs.length ++ (c.value.drop 2).take 6 ++
        rs.flatMap (s.dev.paramEntry (c.value.field 2 1 == 1))) := by
      refine (Dev.admin_ready h rfl _).trans ?_
      unfold getParamGo
      simp only [Nat.not_lt.mpr hl, if_false, he, Nat.not_lt.mpr hf, hz, Nat.not_lt.mpr hn, hb, hr, Dev.dispatchAs_paramEntry]
      rfl
    exact ⟨_, State.run_of_eq heff, h.okWith _⟩
  case stage =>
    intro s seq c e r h hk hv hr hc
    have heff : setParamEff seq s.dev = _ := Dev.setParam_ready h hk (by simp [hv])
    obtain ⟨x, hs, hx, he⟩ := s.dev.setOne_eq c e
    obtain ⟨ht, hp⟩ := Dev.enterParam_staged (d := x) hr hc c.cred
    rw [he] at heff
    obtain ⟨ha, hvalues, hstaged, -⟩ := h.paramSet ((hs.touch _).trans ht)
      ((x.enterParam c.cred e).settingsReply (x.enterParam c.cred e).par.staged.length)
    exact ⟨_, State.run_of_eq heff, hstaged.trans (by rw [hp, hx]), hvalues.trans (by rw [hp, hx]), _, ha⟩
  case set =>
    intro s seq c e r h hk hv hr hc hi
    have heff : setParamEff seq s.dev = _ := Dev.setParam_ready h hk (by simp [hv])
    obtain ⟨x, hs, hx, he⟩ := s.dev.setOne_eq c e
    obtain ⟨ht, hpv, hps⟩ := Dev.enterParam_live (d := x) hr hc hi c.cred
    rw [he] at heff
    obtain ⟨ha, hvalues, hstaged, -⟩ := h.paramSet ((hs.touch _).trans ht)
      ((x.enterParam c.cred e).settingsReply (x.enterParam c.cred e).par.staged.length)
    exact ⟨_, State.run_of_eq heff, hvalues.trans (by rw [hpv, hx]), hstaged.trans (by rw [hps, hx]), _, ha⟩

end Sys2Proof.Machine
end

section
/-! What sequencing stamps and dispatches keeps to the parts of the data path. -/

namespace Sys2Proof.Machine

theorem Dev.stampCap_touch (d : Dev) (c : Cap) : Touch [.que, .net, .idx, .med, .bays, .sec] d (d.stampCap c).2 := by
  unfold Dev.stampCap
  extract_lets s c1 end_ d0 q san d1 d2 d3
  have h0 : Touch [.idx, .med, .bays] d d0 :=
    .ite (fun _ => Touch.foldl (fun d _ => (d.journalItem_touch _).of) _ d) (fun _ => .refl _ d)
  have h1 : Touch [.que, .net, .idx, .med, .bays, .sec] d d1 :=
    .trans h0.of (by constructor <;> simp [d1, q, san, h0.que (by simp), h0.sec (by simp)])
  have h2 : Touch [.que, .net, .idx, .med, .bays, .sec] d d2 :=
    .next (.next h1 (Dev.modCap_touch _ c (fun _ => c1) (fun _ => .inr rfl))) (Dev.endRange_touch ..)
  have h3 : Touch [.que, .net, .idx, .med, .bays, .sec] d d3 := .ite (fun _ => h2) (fun _ => h2.next (Dev.endCharge_touch ..))
  exact .ite (fun _ => h3.bump ..) (fun _ => h3)

theorem Dev.promote_touch (d : Dev) (c : Cap) : Touch [.que] d (d.promote c) :=
  .ite (fun _ => Touch.foldl (fun d _ => .ite (fun _ => .bump (d.dispatchAs_touch ..) ..) (fun _ => .refl _ d)) _ d) (fun _ => .refl _ d)

theorem Dev.abortReply_touch (d : Dev) (c : Cap) (outcome : Nat) : Touch [.que, .net, .mir] d (d.abortReply c outcome) :=
  .trans (.bump (.refl _ d) ..) (Dev.finishFree_touch ..)

theorem Dev.urgentEvent_sent (d : Dev) (c : Cap) : Sent d (d.urgentEvent c) := by
  unfold Dev.urgentEvent
  split
  · exact d.raiseHeld_sent ..
  · exact .refl d

/-- A dispatch changes what its command does and, of the drive, the queues. -/
theorem Dev.dispatch_touch (d : Dev) (seq : Nat) (ok : Hdr → Bool) {f : Cap → Dev → Dev} {S : List DevPart}
    (h : ∀ c e, Touch S e (f c e)) (hs : autoParam (.que ∈ S) List.nodup_range'._auto_1) : Touch S d (d.dispatch seq ok f) := by
  unfold Dev.dispatch
  split
  · exact .refl _ d
  · exact .ite (fun _ => ((d.dispatchAs_touch ..).mono (by simpa using hs)).trans (h ..)) (fun _ => .sent (.refl _ d) (Dev.urgentEvent_sent ..))

theorem Dev.breachEvent_sent (d : Dev) : Sent d d.breachEvent := d.raise_sent ..

end Sys2Proof.Machine
end

section
/-! Values on the move, secure deletion and Deluge at work: what each step changes. -/

namespace Sys2Proof.Machine

/-! ### Batches -/

theorem Dev.eraseDead_touch (d : Dev) (bay : BayNo) : Touch [.med, .bays] d (d.eraseDead bay) :=
  Touch.foldl (fun _ _ => Dev.issueErase_touch ..) _ d

theorem Dev.eraseAllDead_touch (d : Dev) : Touch [.med, .bays] d d.eraseAllDead := Touch.foldl Dev.eraseDead_touch _ d

theorem Dev.addSrcs_touch (d : Dev) (into from_ : List (BayNo × Nat × Nat)) : Touch [.bays] d (d.addSrcs into from_) :=
  Touch.foldl (fun _ _ => Dev.modBay_touch ..) _ d

theorem Dev.moveOne_touch {d e : Dev} {toBay : BayNo} {st : Stream} {group : Nat} {sec : Bool} {c n : Copy} {x : BatchItem}
    (h : d.moveOne toBay st group sec c n = some (x, e)) : Touch [.med, .bays] d e := by
  unfold Dev.moveOne at h
  split at h
  · cases h
  · split at h
    · next hp =>
      cases h
      exact .next (.setMed (Dev.placeRuns_touch hp) _) (Dev.addSrcs_touch ..)
    · cases h

theorem Dev.moveHeader_sent (d : Dev) (n : BitVec 12) (order loc : Nat) : Sent d (d.moveHeader n order loc) :=
  (d.raise_sent ..).trans (Dev.bump_sent ..)

theorem Dev.genTwinAt_sent (d : Dev) (loc : Nat) : Sent d (d.genTwinAt loc) := d.raise_sent ..

theorem Dev.moveAll_touch (d : Dev) (toBay : BayNo) (st : Stream) (group : Nat) (sec : Bool) (l : List (Copy × Copy)) :
    Touch [.med, .bays] d (d.moveAll toBay st group sec l).2 := by
  induction l generalizing d with
  | nil => exact .refl _ d
  | cons c l ih =>
    unfold Dev.moveAll
    split
    · next hm => exact (Dev.moveOne_touch hm).trans (ih _)
    · refine .trans ?_ (ih _)
      split
      · exact .sent (.refl _ d) (Dev.moveHeader_sent ..)
      · exact .refl _ d

theorem Dev.batchRows_touch (old d : Dev) (bay : BayNo) (st : Stream) (group : Nat) : Touch [.bays] d (Dev.batchRows old d bay st group).2 := by
  refine Touch.foldl_on (fun a : List (Nat × Nat × Nat × Nat) × Dev => a.2) (fun a x => ?_) _ ([], d)
  dsimp only
  split
  · dsimp only
    exact a.2.modBay_touch ..
  · exact .refl _ _

theorem Dev.batchReads_touch (d : Dev) (prio : Nat) (l : List BatchItem) : Touch [.med] d (d.batchReads prio l).2 := by
  induction l generalizing d with
  | nil => exact .refl _ d
  | cons x l ih => exact (d.opId_touch.trans (Dev.issueOps_touch ..)).trans (ih _)

theorem Dev.beginPairs_touch (d : Dev) (kind : BatchKind) (fromBay toBay : BayNo) (st : Stream) (group block prio : Nat)
    (cs : List (Copy × Copy)) : Touch [.med, .bays] d (d.beginPairs kind fromBay toBay st group block prio cs) := by
  unfold Dev.beginPairs
  refine .ite (fun _ => .refl _ d) (fun _ => ?_)
  split
  next id d1 hid =>
  have h1 := d.opId_touch
  rw [hid] at h1
  extract_lets sec r
  have hr : Touch [.med, .bays] d r.2 := h1.of.trans (d1.moveAll_touch ..)
  exact .ite (fun _ => hr) (fun _ => .setMed (.next (hr.next (Dev.batchRows_touch ..)) (Dev.batchReads_touch ..)) _)

theorem Dev.beginBatch_touch (d : Dev) (kind : BatchKind) (fromBay toBay : BayNo) (st : Stream) (group block prio : Nat) (cs : List Copy) :
    Touch [.med, .bays] d (d.beginBatch kind fromBay toBay st group block prio cs) := d.beginPairs_touch ..

theorem Dev.modBatch_touch (d : Dev) (id : Nat) (f : Batch → Batch) : Touch [.med] d (d.modBatch id f) := (Touch.refl _ d).setMed _

theorem Dev.setPriority_touch (d : Dev) (what : ProgWhat) (prio : Nat) : Touch [.med] d (d.setPriority what prio) := (Touch.refl _ d).setMed _

theorem Dev.nextRow_touch (d : Dev) (b : Batch) : Touch [.med] d (d.nextRow b) := by
  unfold Dev.nextRow
  split
  · exact .refl _ d
  · split
    · exact d.modBatch_touch ..
    · exact .trans (.trans (d.modBatch_touch ..) (Dev.issueRun_touch ..)) (Dev.setPriority_touch ..)

theorem Dev.rowsOn_touch (d : Dev) : Touch [.med] d d.rowsOn :=
  Touch.foldl (fun d _ => .ite (fun _ => .refl _ d) (fun _ => d.nextRow_touch _)) _ d

theorem Dev.programBatch_touch (d : Dev) (b : Batch) : Touch [.med] d (d.programBatch b) := (d.modBatch_touch ..).trans (Dev.rowsOn_touch _)

theorem Dev.batchRead_touch (d : Dev) (b : Batch) (id : Nat) (o : ReadReport) :
    Touch [.que, .bays, .par, .fresh, .med] d (d.batchRead b id o) := by
  unfold Dev.batchRead
  extract_lets loc hit hold d1 d2
  have hh {e : Dev} (h : Touch [.que, .bays, .par, .fresh, .med] d e) : Touch [.que, .bays, .par, .fresh, .med] d (hold e) :=
    h.next (Dev.modBatch_touch ..)
  have h1 : Touch [.que, .bays, .par, .fresh, .med] d d1 := by
    simp only [d1]
    split
    · exact hh (.refl _ d)
    · have he (l : List Nat) (g : Nat) (f : Nat → Nat) (r : ReadReport) :
          Touch [.que, .bays, .par, .fresh, .med] d ((d.countReads (d.readLocs loc g l)).reportEffects 0 f r) :=
        .next (.of (d.countReads_touch _)) (Dev.reportEffects_touch ..)
      split
      · exact he ..
      · exact he ..
      · exact he ..
      · exact hh ((he ..).next (Dev.modCopy_touch ..))
      · exact .sent (.ite (fun _ => (hh ((he ..).next (Dev.modCopy_touch ..))).sent (Dev.genTwinAt_sent ..))
          (fun _ => hh ((he ..).next (Dev.modCopy_touch ..)))) (Dev.moveHeader_sent ..)
  have h2 : Touch [.que, .bays, .par, .fresh, .med] d d2 := h1.next (Dev.modBatch_touch ..)
  clear_value d2
  split
  · exact .ite (fun _ => h2.next (Dev.programBatch_touch ..)) (fun _ => h2)
  · exact h2

theorem Dev.journalBatch_touch (d : Dev) (b : Batch) : Touch [.idx, .med, .bays] d (d.journalBatch b) := by
  unfold Dev.journalBatch
  extract_lets step r
  have hr : Touch [.idx, .med, .bays] d r.2 := by
    refine Touch.foldl_on (fun a : List BatchItem × Dev => a.2) (f := step) (fun a x => ?_) _ ([], d)
    simp only [step]
    split
    · exact .refl _ _
    · split
      · exact .refl _ _
      · split
        · exact .refl _ _
        · next hp => exact (Dev.placeRec_touch hp).of.next (Dev.newRec_touch ..)
  exact hr.next (Dev.modBatch_touch ..)

theorem Dev.commitItem_touch (d : Dev) (kind : BatchKind) (toBay : BayNo) (x : BatchItem) :
    Touch [.idx, .med, .bays, .sec] d (d.commitItem kind toBay x) := by
  unfold Dev.commitItem
  extract_lets drop
  have hd : Touch [.idx, .med, .bays, .sec] d (drop d) := .next (.of (d.killCopy_touch ..)) (Dev.dropRec_touch ..)
  split
  · refine .ite (fun _ => hd) (fun _ => ?_)
    extract_lets d2 n
    have h1 (f : Copy → Copy) (g : JRec → JRec) : Touch [.idx, .med, .bays, .sec] d ((d.modCopy x.toLoc x.toGen f).modRec x.jseq g) :=
      .next (.of (d.modCopy_touch ..)) (Dev.modRec_touch ..)
    have h2 : Touch [.idx, .med, .bays, .sec] d d2 :=
      .next (.next ((h1 _ _).next (Dev.enterLog_touch ..)) (Dev.checkPressure_touch _)) (Dev.killCopy_touch ..)
    clear_value d2
    cases kind
    case fold => exact h2.bump ..
    case gc => exact h2.bump ..
    case rebuild => exact h2.bump ..
    case secure => exact h2.setSec _ (hl := .inr rfl)
    all_goals exact h2
  · exact hd

theorem Dev.commitBatch_touch (d : Dev) (b : Batch) : Touch [.idx, .med, .bays, .sec] d (d.commitBatch b) :=
  .next (.setMed (Touch.foldl (fun _ _ => Dev.commitItem_touch ..) _ d) _) (Dev.eraseDead_touch ..)

theorem Dev.dropBatch_touch (d : Dev) (b : Batch) : Touch [.idx, .med, .bays] d (d.dropBatch b) :=
  .setMed (.next (.next (Touch.foldl (fun d _ => .next (.of (d.killCopy_touch ..)) (Dev.dropRec_touch ..)) _ d)
    (Touch.foldl (S := [.med]) (fun _ _ => Dev.endOp_touch ..) _ _)) (Dev.dropProgs_touch ..)) _

theorem Dev.commitReady_touch (d : Dev) (n : Nat) : Touch [.idx, .med, .bays, .sec] d (d.commitReady n) := by
  induction n generalizing d with
  | zero => exact .refl _ d
  | succ n ih =>
    unfold Dev.commitReady
    split
    · exact .trans (.ite (fun _ => (d.journalBatch_touch _).of) (fun _ => d.commitBatch_touch _)) (ih _)
    · exact .refl _ d

/-! ### Bands are cleared -/

theorem Dev.rewritePage_touch (d : Dev) (bay : BayNo) (sec : Bool) (loc : Nat) : Touch [.idx, .med, .bays] d (d.rewritePage bay sec loc) := by
  unfold Dev.rewritePage
  split
  · exact .refl _ d
  · next ha =>
    exact .next (.setIdx (.next (.next (Dev.take_touch ha).of (Dev.issuePage_touch ..)) (Dev.modBay_touch ..)) _) (Dev.countReads_touch ..)

theorem Dev.moveChunk_touch (d : Dev) (bay : BayNo) (sec : Bool) (l : Nat) : Touch [.idx, .med, .bays] d (d.moveChunk bay sec l) := by
  unfold Dev.moveChunk
  extract_lets rs
  split
  · exact .refl _ d
  · next ha =>
    exact .next (.setIdx (.next (.next (Dev.take_touch ha).of (Dev.issueRun_touch ..)) (Dev.modBay_touch ..)) _) (Dev.countReads_touch ..)

theorem Dev.moveRecs_touch (d : Dev) (bay : BayNo) (b : Nat × Nat) (sec : Bool) : Touch [.idx, .med, .bays] d (d.moveRecs bay b sec) :=
  Touch.foldl (fun _ _ => Dev.moveChunk_touch ..) _ d

theorem Dev.movePart_touch (d : Dev) (bay : BayNo) (group : Nat) (sec : Bool) (u : Upload) (p : Part) (from_ : Nat × Nat) :
    Touch [.idx, .med, .bays] d (d.movePart bay group sec u p from_) := by
  unfold Dev.movePart
  refine .ite (fun _ => .refl _ d) (fun _ => ?_)
  split
  · exact .refl _ d
  · next hp =>
    have h1 := (Dev.placeSegs_touch hp).of (T := [.idx, .med, .bays])
    exact .next (.next (.setIdx (.next (h1.next (Dev.batchRows_touch ..)) (Touch.foldl (S := [.med]) (fun _ _ => Dev.issueRun_touch ..) _ _)) _
      (hk := by exact ⟨rfl, rfl, id⟩))
      (Dev.addSrcs_touch ..)) (Dev.countReads_touch ..)

theorem Dev.moveParts_touch (d : Dev) (bay : BayNo) (b : Nat × Nat) (sec : Bool) : Touch [.idx, .med, .bays] d (d.moveParts bay b sec) :=
  Touch.foldl (fun _ _ => Touch.foldl (fun _ _ => Dev.movePart_touch ..) _ _) _ d

theorem Dev.writeSummary_touch (d : Dev) (bay : BayNo) (x : Band) : Touch [.med, .bays] d (d.writeSummary bay x) := by
  unfold Dev.writeSummary
  extract_lets n
  split
  · exact .refl _ d
  · next ha => exact .next ((Dev.take_touch ha).trans (Touch.foldl (fun _ _ => Dev.issuePage_touch ..) _ _)) (Dev.modBay_touch ..)

theorem Dev.moveMeta_touch (d : Dev) (bay : BayNo) (b : Nat × Nat) : Touch [.idx, .med, .bays] d (d.moveMeta bay b) := by
  unfold Dev.moveMeta
  extract_lets note d1 d2
  have hn (e : Dev) (l : Nat) : Touch [.idx, .med, .bays] e (note e l) := (e.addSrcs_touch ..).of
  have h1 : Touch [.idx, .med, .bays] d d1 := Touch.foldl (fun d _ => (d.writeSummary_touch ..).of.trans (hn ..)) _ d
  have h2 : Touch [.idx, .med, .bays] d d2 := by
    refine h1.trans (Touch.foldl (fun d l => ?_) _ d1)
    have hw := d.writeOn_touch [bay] .index b.1 (min 507904 (32 * ceilDiv (16 * d.idx.buckets.length) 131072)) true .page
    split
    · next he =>
      rw [he] at hw
      exact .trans (.setIdx hw.of _) (hn ..)
    · exact .refl _ d
  refine h2.trans (Touch.foldl (fun d m => ?_) _ d2)
  have hw := d.writeOn_touch [bay] .journal b.1 1 true .mark
  split
  · next he =>
    rw [he] at hw
    exact .trans (.setIdx hw.of _) (hn ..)
  · exact .refl _ d

theorem Dev.prioritySince_touch (d : Dev) (id prio : Nat) : Touch [.med] d (d.prioritySince id prio) := (Touch.refl _ d).setMed _

theorem Dev.clearBand_touch (d : Dev) (bay : BayNo) (b : Nat × Nat) (sec : Bool) (prio : Nat) :
    Touch [.idx, .med, .bays] d (d.clearBand bay b sec prio) :=
  .next (.trans (.trans (.trans (d.moveParts_touch ..) (Dev.moveRecs_touch ..)) (Dev.moveMeta_touch ..))
    (Touch.foldl (fun _ _ => Dev.rewritePage_touch ..) _ _)) (Dev.prioritySince_touch ..)

/-! ### Secure deletion -/

theorem Dev.secureBand_touch (d : Dev) (j : SecureJob) (b : BayNo × Nat × Nat) : Touch [.idx, .med, .bays] d (d.secureBand j b) := by
  unfold Dev.secureBand
  refine .ite (fun _ => .refl _ d) (fun _ => ?_)
  split
  · have h1 := d.clearBand_touch b.1 b.2 true j.prio
    exact .ite (fun _ => h1.next (Dev.issueErase_touch ..)) (fun _ => h1)
  · exact (d.beginBatch_touch ..).of

theorem Dev.secureAdvance_touch (d : Dev) (j : SecureJob) : Touch [.idx, .med, .bays] d (d.secureAdvance j) :=
  Touch.foldl (fun _ _ => Dev.secureBand_touch ..) _ d

theorem Dev.reportApplied_touch (d : Dev) (n : BitVec 12) (version : Nat) : Touch [.mir, .states] d (d.reportApplied n version) := by
  unfold Dev.reportApplied
  split
  · exact .refl _ d
  · exact .ite (fun _ => .refl _ d) (fun _ => (d.modMirror_touch ..).next (Dev.cwApply_touch ..))

theorem Dev.atMedium_touch (d : Dev) (s : Nat) : Touch dataParts d (d.atMedium s) := by
  unfold Dev.atMedium
  split
  · exact .refl _ d
  · exact .ite (fun _ => (d.completeVer_touch s).next (Dev.reportApplied_touch ..))
      (fun _ => .ite (fun _ => .refl _ d) (fun _ => d.completeVer_touch s))

theorem Dev.forgetKey_touch (d : Dev) (j : SecureJob) : Touch [.idx, .med] d (d.forgetKey j) := by
  unfold Dev.forgetKey
  constructor <;> simp

theorem Dev.secureDone_touch (d : Dev) (j : SecureJob) : Touch dataParts d (d.secureDone j) := by
  unfold Dev.secureDone
  extract_lets d2 d3
  have h2 : Touch dataParts d d2 := (d.forgetKey_touch j).of
  have h3 : Touch dataParts d d3 := by
    simp only [d3]
    split
    · refine .ite (fun _ => (h2.next (Dev.modVer_touch ..)).trans (Dev.atMedium_touch ..)) (fun _ => ?_)
      have hr (v : Version) : Touch dataParts d ((d2.modVer j.seq (fun x => { x with secure := false })).reachPoint v) :=
        (h2.next (Dev.modVer_touch ..)).next (Dev.reachPoint_touch ..)
      refine .trans ?_ (Dev.ripen_touch ..)
      split
      · exact (hr _).next (Dev.finish_touch ..)
      · exact hr _
    · split
      · exact h2.next (Dev.finishFree_touch ..)
      · exact h2.next (Dev.reportApplied_touch ..)
  exact h3.raise ..

theorem Dev.secureCheck_touch (d : Dev) (j : SecureJob) : Touch dataParts d (d.secureCheck j) :=
  .ite (fun _ => d.secureDone_touch j) (fun _ => .refl _ d)

theorem Dev.secureStart_touch (d : Dev) (seq : Nat) (n : BitVec 12) (h : BitVec 128) (st : BitVec 16) :
    Touch dataParts d (d.secureStart seq n h st) := by
  unfold Dev.secureStart
  extract_lets j0 found j d0 d1 d2 i m d3
  have h0 : Touch dataParts d d0 := .ite (fun _ => .refl _ d) (fun _ => (d.handOver_touch ..).of)
  have h1 : Touch dataParts d d1 := h0.next (Touch.foldl (S := [.med, .bays]) (fun _ _ => Dev.closeBand_touch ..) _ _)
  have h2 : Touch dataParts d d2 := h1.next (Touch.foldl (S := [.med]) (fun _ _ => Dev.killCopy_touch ..) _ _)
  have h3 : Touch dataParts d d3 := h2.trans (by constructor <;> simp [d3, i])
  exact (h3.next (Dev.secureAdvance_touch ..)).trans (Dev.secureCheck_touch ..)

theorem Dev.secureAll_touch (d : Dev) : Touch [.idx, .med, .bays] d d.secureAll := Touch.foldl Dev.secureAdvance_touch _ d

/-! ### Deluge -/

theorem Dev.sanBand_touch (d : Dev) (r : SanRec) (x : BayNo × Nat × Nat) : Touch [.idx, .med, .bays] d (d.sanBand r x) := by
  unfold Dev.sanBand
  extract_lets bay b
  refine .ite (fun _ => .refl _ d) (fun _ => .ite (fun _ => .ite (fun _ => .refl _ d) (fun _ => (d.issueErase_touch ..).of)) (fun _ => ?_))
  split
  · exact .refl _ d
  · refine .ite (fun _ => .refl _ d) (fun _ => ?_)
    split
    · have h1 := d.clearBand_touch bay b false 5
      exact .ite (fun _ => h1.next (Dev.issueErase_touch ..)) (fun _ => h1)
    · exact (d.beginBatch_touch ..).of

theorem Dev.sanCheck_touch (d : Dev) (r : SanRec) : Touch [.sec, .que, .net, .mir, .par] d (d.sanCheck r) := by
  unfold Dev.sanCheck
  split
  · exact .refl _ d
  · refine .ite (fun _ => .refl _ d) (fun _ => ?_)
    extract_lets st x d1 d2 d3
    have h1 : Touch [.sec, .que, .net, .mir, .par] d d1 := .setSec (.refl _ d) _ (hl := .inr rfl)
    have h2 : Touch [.sec, .que, .net, .mir, .par] d d2 := .raise h1 ..
    have h3 : Touch [.sec, .que, .net, .mir, .par] d d3 := by
      simp only [d3]
      split
      · exact h2.next (Dev.finishFree_touch ..)
      · exact h2
    exact h3.next (Dev.refreshMode_touch ..)

theorem Dev.sanAll_touch (d : Dev) : Touch dataParts d d.sanAll :=
  Touch.foldl (fun _ _ => .next (Touch.foldl (fun d _ => (d.sanBand_touch ..).of) _ _) (Dev.sanCheck_touch ..)) _ d

theorem Dev.writeSummaries_touch (d : Dev) : Touch [.med, .bays] d d.writeSummaries :=
  Touch.foldl (fun d _ => .ite (fun _ => Touch.foldl (fun _ _ => Dev.writeSummary_touch ..) _ d) (fun _ => .refl _ d)) _ d

theorem Dev.mediaAdvance_touch (d : Dev) : Touch dataParts d d.mediaAdvance :=
  .next (.next (.trans (.next (.next d.rowsOn_touch.of (Dev.commitReady_touch ..)) (Dev.secureAll_touch _)) (Dev.sanAll_touch _))
    (Dev.writeSummaries_touch _)) (Dev.eraseAllDead_touch _)

end Sys2Proof.Machine
end

section
/-! Small drives for counterexamples: a drive that runs, with one established session and capsules of it. -/

namespace Sys2Proof.Machine.Corner

/-- An established session of tenant 7. -/
def session : Session :=
  { sid := 1, port := 0, addr := 2, uport := 3, stage := .established, tenant := 7, segSize := 8192, idleS := 60, transcript := 0,
    keys := ⟨0, none, 0, 0, 0⟩, rxCum := 1, rxGot := [], rxPhase := false, rxPrevUntil := none, dataSinceAck := 0, ackDue := false,
    lastCe := false, eceOwed := false, txNext := 1, txPhase := false, txPhaseStart := 0, txPhaseAcked := false, unacked := [], peerCum := 1,
    srtt := none, rttvar := 0, rto := 10000, expiries := 0, cwnd := 1048576, alpha := 0, winEnd := 0, winAcked := 0, winEce := 0,
    hostLimit := 1048576, replyPos := 0, replyQ := [], stalledSince := none, released := 0, seqPos := 0, ended := [], refused := [],
    early := [], overruns := [], subs := [], deferred := [], noticeQ := [] }

/-- The header of a capsule of a class, on namespace 5, with an opcode and a value length. -/
def header (op : BitVec 16) (cls len : Nat) : Hdr :=
  { magic := 0x4657, version := 1, hdrLen := 12, opcode := op, opcodeTwin := ~~~op, flags := 0, tag := 9, nsWord := 5, nsTwin := ~~~5,
    keyLen := 0, keyLenTwin := ~~~0, cls := cls, valueLen := BitVec.ofNat 64 len, valueLenTwin := ~~~BitVec.ofNat 64 len, offset := 0,
    expVersion := 0, token := 0, valueCrc := 0, hdrCrc := 0 }

/-- A sequenced capsule of the session with number 7. -/
def capsule (op : BitVec 16) (cls : Nat) (v : Bytes) : Cap :=
  { sid := 1, tag := 9, start := 0, len := 96, hdr := header op cls v.length, segs := [], hdrChecked := true,
    stage := .sequenced, awaitBorrow := false, awaitDir := false, delayed := false, slcWait := false, hotWait := false, tenant := 7, key := [],
    value := v, checks := [], seq := 7, stamp := 0, cls := cls, limitPaid := true, tokenChecked := false, pageWait := false,
    captured := none, tokenStale := false, cursor := 0, visited := 0, replies := 0, window := 0, shown := [], copied := none, abortOf := none,
    forwarded := false, partner := none }

/-- Namespace 5, empty. -/
def space : Namespace :=
  { id := 5, salt := 0, atRestKey := 0, capQuota := 0, keyQuota := 0, earlyAck := false, reserve := false, saltSupplied := false,
    created := 0, charged := 0, keys := 0, held := 0, capLatched := false, keyLatched := false }

/-- A drive that runs with namespace 5, the session and some capsules. -/
def drive (cs : List Cap) : Dev :=
  { Dev.reset with
    par := { Conf.reset with run := .running }, net := { Net.reset with sessions := [session] },
    que := { Queue.reset with caps := cs, nextSeq := 8 }, ns := [space],
    pow := { Power.reset with pwrEn := true, p12v := true, pllOk := true, aux3v3 := true }, mgmt := { Mgmt.reset with vaneUp := true } }

/-- The state of a drive on which no command waits. -/
def at_ (d : Dev) : State := ⟨[], d⟩

/-- What a command leaves of a drive. -/
def after (i : Instr) (d : Dev) : Dev :=
  match exec i (at_ d) with
  | .next t => t.dev
  | _ => d

theorem after_eq {i : Instr} {d : Dev} {t : State} (h : exec i (at_ d) = .next t) : t.dev = after i d := by
  unfold after
  rw [h]

/-- What is not among the outputs of a drive after a command has not left it. -/
theorem not_emits {i : Instr} {d : Dev} {t : State} {o : Out} (h : exec i (at_ d) = .next t) (ho : (after i d).out.contains o = false) :
    ¬ emits d t.dev o := by
  rintro ⟨new, hn, hm⟩
  rw [← after_eq h, hn] at ho
  rw [List.contains_iff_mem.mpr (List.mem_append_left _ hm)] at ho
  cases ho

end Sys2Proof.Machine.Corner
end

section
/-! `NS_DELETE` where another capsule stands at the place of its own in the stream of its session. -/

namespace Sys2Proof.Machine.Corner

/- An evaluation by the kernel waits for all that stands before it; one after the other, the waiting threads do not pile up. -/
set_option Elab.async false

/-- An `NS_DELETE` of namespace 5. -/
def deletion : Cap := capsule Op.nsDelete 0 (zeroBytes 8)

/-- A `FORMAT` of namespace 5 at the same place, still being received. -/
def formatting : Cap := { capsule Op.format 0 (zeroBytes 8) with seq := 0, stage := .receiving }

theorem deletion_ready : ready (drive [deletion, formatting]) 7 Op.nsDelete deletion ∧ (drive [deletion, formatting]).nsDeleteCheck deletion = none ∧
    (drive [deletion, formatting]).earlierWork deletion.seq (some deletion.hdr.ns) = false ∧ deletion.value.toNatBE = 0 := by
  decide +kernel

theorem deletion_refused : (after (.nsDelete 7) (drive [deletion, formatting])).ns.any (fun n => n.id == deletion.hdr.ns) = true := by
  decide +kernel

/-- Refutes O27: a dispatch marks every capsule at the place of its own. Where a `FORMAT` stands at the place of an `NS_DELETE`, the dispatch
of the deletion makes it look under way, and the namespace, now busy, stays. -/
theorem not_namespacesPolicyAndRing : ¬ Obligations.NamespacesPolicyAndRing := by
  intro h
  obtain ⟨hready, hcheck, hwork, hvalue⟩ := deletion_ready
  obtain ⟨t, ht, hgone, -⟩ := h.2.1 (at_ (drive [deletion, formatting])) 7 deletion hready hcheck hwork hvalue
  rw [after_eq ht] at hgone
  obtain ⟨n, hn, hid⟩ := List.any_eq_true.mp deletion_refused
  exact hgone n hn (by simpa using hid)

end Sys2Proof.Machine.Corner
end

section
/-! The loss of the partner and the links: what they leave unchanged. -/

namespace Sys2Proof.Machine

theorem Dev.enterWaiting_touch (d : Dev) (n : BitVec 12) (since : Option Nat) : Touch [.mir, .states] d (d.enterWaiting n since) :=
  (d.modMirror_touch ..).trans (Dev.setNsState_touch ..)

theorem Dev.askSolo_touch (d : Dev) : Touch [.mir, .asks, .fresh] d d.askSolo :=
  .ite (fun _ => d.witnessSend_touch ..) (fun _ => .refl _ d)

theorem Dev.autoClaim_touch (d : Dev) : Touch [.mir, .asks, .fresh] d d.autoClaim :=
  .ite (fun _ => d.witnessSend_touch ..) (fun _ => .refl _ d)

theorem Dev.handoverEnd_touch (d : Dev) (st : BitVec 16) : Touch [.que, .net, .mir, .asks] d (d.handoverEnd st) := by
  unfold Dev.handoverEnd
  split
  · exact .refl _ d
  · dsimp only
    split
    · exact .next (.setMir (.refl _ d) _) (Dev.finishFree_touch ..)
    · exact .setMir (.refl _ d) _

theorem Dev.endPartnerReads_touch (d : Dev) : Touch dataParts d d.endPartnerReads := by
  refine .trans (Touch.setMir (.refl _ d) _) (Touch.foldl (fun d r => ?_) _ _)
  split
  · exact .refl _ d
  · exact .ite (fun _ => d.endReader_touch ..) (fun _ => (d.finishFree_touch ..).of)

/-- The loss is declared, and then what follows from it leaves how the pair stands. -/
theorem Dev.peerLost_declared (d : Dev) (cause : Nat) : ∃ e : Dev, Touch [.mir, .term] d e ∧
    e.mir.term = { d.mir with state := .peerLost, lostSince := some d.clk.tick, held := [] }.term ∧ Touch (.asks :: dataParts) e (d.peerLost cause) := by
  unfold Dev.peerLost
  extract_lets m led d1 d2 one d3 m3 d4
  have h1 : Touch [.mir, .term] d d1 := .setMir (.refl _ d) _ (ha := .inr rfl) (hn := .inr rfl)
  refine ⟨d1, h1, rfl, ?_⟩
  clear_value d1
  have h2 : Touch (.asks :: dataParts) d1 d2 :=
    .next (.next (.raise (.refl _ d1) ..) (Dev.endPartnerReads_touch _)) (Dev.handoverEnd_touch ..)
  have hone (e : Dev) (x : MirrorNs) : Touch (.asks :: dataParts) e (one e x) := by
    have hx : Touch (.asks :: dataParts) e ((e.markListed x).modMirror x.ns (fun y => { y with listing := [] })) :=
      .next (.of (e.markListed_touch x)) (Dev.modMirror_touch ..)
    exact .ite (fun _ => hx) fun _ => .ite (fun _ => .next (hx.next (Dev.holdWriters_touch ..)) (Dev.modMirror_touch ..))
      (fun _ => hx.next (Dev.enterWaiting_touch ..))
  have h3 : Touch (.asks :: dataParts) d1 d3 := h2.trans (Touch.foldl hone _ _)
  clear_value d3
  have h4 : Touch (.asks :: dataParts) d1 d4 := h3.setMir _ (ht := .inr rfl) (ha := .inr rfl)
  exact .next (h4.next (Dev.askSolo_touch _)) (Dev.autoClaim_touch _)

theorem Dev.peerLost_touch (d : Dev) (cause : Nat) : Touch pairParts d (d.peerLost cause) := by
  obtain ⟨e, h, -, hs⟩ := d.peerLost_declared cause
  exact h.of.trans hs.of

theorem Dev.modLink_touch (d : Dev) (l : Link) (f : LinkState → LinkState) : Touch [.net, .links] d (d.modLink l f) :=
  (Touch.refl _ d).setLinks _

theorem Dev.modLink_get (d : Dev) (l : Link) (f : LinkState → LinkState) : (d.modLink l f).net.links.get l = f (d.net.links.get l) :=
  vector_get_set_self ..

/-- What a link's going down changes, in the data path and on its link. -/
theorem Dev.downLink_touch (d : Dev) (l : Link) (cause : Nat) : Touch (.links :: pairParts) d (d.downLink l cause) := by
  unfold Dev.downLink
  dsimp only
  refine .ite (fun _ => ?_) (fun _ => .refl _ d)
  have h1 : Touch (.links :: pairParts) d
      ((d.modLink l (fun x => { x with up := false })).raise (Ev.linkDown (linkSrc l)) (d.net.links.get l).mode cause 0 0) :=
    .raise (.of (d.modLink_touch ..)) ..
  exact .ite (fun _ => h1.next (Dev.peerLost_touch ..)) (fun _ => h1)

theorem Dev.downLinks_touch (d : Dev) (cause : Nat) : Touch (.links :: pairParts) d (d.downLinks cause) :=
  Touch.foldl (fun _ _ => Dev.downLink_touch ..) _ d

/-- A link that goes down is down, and so is one that was. -/
theorem Dev.downLink_down (d : Dev) (l : Link) (cause : Nat) : ((d.downLink l cause).net.links.get l).up = false := by
  unfold Dev.downLink
  split
  · extract_lets d1
    have h1 : (d1.net.links.get l).up = false := by
      have h := (Dev.raise_sent (d.modLink l (fun x => { x with up := false })) (Ev.linkDown (linkSrc l)) (d.net.links.get l).mode cause 0 0).touch []
      rw [show d1.net.links = _ from h.links (by simp), Dev.modLink_get]
    split
    · rw [(d1.peerLost_touch 1).links (by simp)]
      exact h1
    · exact h1
  · next h => simpa using h

theorem Dev.sendHello_touch (d : Dev) : Touch [.mir, .fresh] d d.sendHello := by
  unfold Dev.sendHello
  refine .ite (fun _ => ?_) (fun _ => .refl _ d)
  exact .emitOut (.next (.setMir (.draw (.draw (.refl _ d))) _) (Dev.cwBare_touch ..)) _

end Sys2Proof.Machine
end

section
/-! Frames other than FWP, modules and links. -/

namespace Sys2Proof.Machine

/-- Waking from a light rung, or staying up in Fog, lets nothing that was sent be lost. -/
theorem Dev.wakeUnless_out (d : Dev) (p : Prop) [Decidable p] : d.out <:+ (if p then d else d.wakeLight 1).out := by
  split
  · exact List.suffix_refl _
  · exact (d.wakeLight_touch 1).out

theorem Dev.onFrame_clear {d : Dev} {p : Port} (h : d.hears p = true) (hc : d.pow.rung = .clear) (f : Dev → Dev) : d.onFrame p f = f d := by
  unfold Dev.onFrame
  rw [if_pos h, Dev.wakeLight_rung_of_clear hc]

theorem Dev.window_par (d : Dev) (k n : Nat) : (d.window k n).2.par = d.par := core_par (d.window_sent k n).core

/-- An echo request within its rate is answered. -/
theorem Dev.echo_eq {d : Dev} {p : EchoPort} {subject limit : Nat} (h : (d.window (rateKey 0x10001 subject) limit).1 = true)
    (src : Addr) (b : Bytes) :
    d.echo p subject limit src b =
      (d.window (rateKey 0x10001 subject) limit).2.emitOut
        (.echoReply p src b ((d.window (rateKey 0x10001 subject) limit).2.echoBytes p src b)) := by
  unfold Dev.echo
  split
  · next he => rw [he]
  · next he => rw [he] at h; cases h

theorem Dev.echoBytes_of_par {d e : Dev} (h : e.par = d.par) (p : EchoPort) (src : Addr) (b : Bytes) :
    e.echoBytes p src b = d.echoBytes p src b := by
  unfold Dev.echoBytes Dev.echoFrame Dev.dscp Dev.sourceV6 Dev.pnum
  rw [h]

theorem bumpList_lookup (l : List (Ctr × BitVec 64)) (c : Ctr) (n : Nat) :
    ((bumpList l c n).lookup c).getD 0 = (l.lookup c).getD 0 + BitVec.ofNat 64 n := by
  induction l with
  | nil => simp [bumpList, List.lookup]
  | cons x l ih =>
    obtain ⟨c', v⟩ := x
    unfold bumpList
    split
    · next h => simp [h, List.lookup]
    · next h =>
      have hc : (c == c') = false := by simpa using Ne.symm h
      simpa [List.lookup, hc] using ih

theorem Dev.count_bump (d : Dev) (c : Ctr) (n : Nat) : (d.bump c n).count c = d.count c + BitVec.ofNat 64 n :=
  bumpList_lookup d.ctr c n

/-- What counts a frame on a drive whose mode is reported moves its counter by one. -/
theorem Dev.count_bump_reported {d : Dev} (h : settled d) (c : Ctr) : (d.bump c 1).reportMode.count c = d.count c + 1 := by
  have hs : settled (d.bump c 1) := h
  rw [Dev.reportMode_of_settled hs, Dev.count_bump]
  rfl

theorem Dev.reportMode_links (d : Dev) : d.reportMode.net.links = d.net.links := d.reportMode_touch.links (by simp)

theorem Dev.raise_links (d : Dev) (v : Ev) (a b c x : Nat) : (d.raise v a b c x).net.links = d.net.links :=
  ((d.raise_sent v a b c x).touch []).links (by simp)

theorem moduleInsertEff_link {d : Dev} {l : Link} (h : (d.net.links.get l).module = none) (w : Nat) :
    ((moduleInsertEff l w d).net.links.get l).module = some w ∧ ((moduleInsertEff l w d).net.links.get l).refused = decide (120 < w) := by
  unfold moduleInsertEff
  rw [h]
  dsimp only
  split_ifs <;> simp only [Option.isSome_none, Bool.false_eq_true, Dev.raise_links, Dev.modLink_get, and_self] at *

theorem linkUpEff_link {d : Dev} {l : Link} (h : d.linkMay l = true) (us pmd : Nat) :
    ((linkUpEff l us pmd d).net.links.get l).up = true ∧ ((linkUpEff l us pmd d).net.links.get l).linkUpUs = us := by
  unfold linkUpEff
  rw [if_pos h]
  extract_lets d0 mode d1
  have h1 : (d1.net.links.get l).up = true ∧ (d1.net.links.get l).linkUpUs = us := by
    simp only [d1, Dev.raise_links, Dev.modLink_get, and_self]
  split_ifs
  · rw [d1.sendHello_touch.links (by simp)]
    exact h1
  · exact h1

/-- Settles O1: each frame and each module does what its command says of it. -/
theorem framesAndLinks : Obligations.FramesAndLinks := by
  refine ⟨fun s p target sender hp ho => ?_, fun s p target hp ho => ?_, fun s p src b hp hc hw => ?_, fun s src b hv hl hg hw => ?_,
    fun s p x f hp hc hs hf => ?_, fun s hu hs => ?_, fun s l w hm => ?_, fun s l us pmd hl => ?_, fun s l cause _ => ?_, fun s l => ?_⟩
  · exact State.run_emits (by unfold arpEff; rw [hp, ho]; exact if_pos rfl) (s.dev.wakeUnless_out _)
  · exact State.run_emits (by unfold ndEff; rw [hp, ho]; exact (if_pos rfl).trans (if_pos rfl)) (s.dev.wakeUnless_out _)
  · refine State.run_emits (e := (s.dev.window (rateKey 0x10001 p.val) 1000).2) ?_ (s.dev.window_sent ..).out
    refine (Dev.onFrame_clear hp hc (fun d => d.echo (.data p) p.val 1000 src b)).trans ?_
    rw [Dev.echo_eq hw, Dev.echoBytes_of_par (s.dev.window_par ..)]
    rfl
  · refine State.run_emits (e := (s.dev.window (rateKey 0x10001 2) 100).2) ?_ (s.dev.window_sent ..).out
    unfold echoEff
    simp only [hv, hl, Bool.and_self, Bool.true_and, bne_iff_ne, ne_eq, hg, not_false_eq_true, if_true]
    exact Dev.echo_eq hw src b
  · refine ⟨_, State.run_of_eq (e := s.dev.bump (.port p (faultCtr f)) 1) ?_, Dev.count_bump_reported hs _⟩
    unfold frameDropEff
    simp only [hf, hp, if_true, Dev.wakeLight_rung_of_clear hc, ite_self]
  · exact ⟨_, State.run_of_eq (e := s.dev.bump (.port 0 .peerDrop) 1) (if_pos hu), Dev.count_bump_reported hs _⟩
  · exact ⟨_, rfl, by rw [Dev.reportMode_links]; exact moduleInsertEff_link hm w⟩
  · exact ⟨_, rfl, by rw [Dev.reportMode_links]; exact linkUpEff_link hl us pmd⟩
  · exact ⟨_, rfl, by rw [Dev.reportMode_links]; exact s.dev.downLink_down ..⟩
  · refine ⟨_, rfl, ?_⟩
    rw [Dev.reportMode_links]
    have hu := s.dev.downLink_down l 1
    unfold moduleRemoveEff
    rw [Dev.modLink_get]
    exact ⟨rfl, hu⟩

end Sys2Proof.Machine
end

section
/-! The assembly of a capsule: what its checks and its charges leave unchanged. -/

namespace Sys2Proof.Machine

theorem Dev.twinEvent_sent (d : Dev) (sid tag : BitVec 32) (field : Nat) : Sent d (d.twinEvent sid tag field) := d.raiseHeld_sent ..

theorem Dev.pace_touch (d : Dev) (t : BitVec 32) (ops : Nat) : Touch [.net] d (d.pace t ops).2 := by
  unfold Dev.pace
  extract_lets sec acc used
  split_ifs
  · exact (Touch.refl _ d).setNet _
  · exact .refl _ d
  · exact .raise (.setNet (.refl _ d) _) ..

theorem Dev.addCharge_touch (d : Dev) (c : Cap) (b : Bool) : Touch [.net] d (d.addCharge c b) := (Touch.refl _ d).setNet _

theorem Dev.takeEntry_touch {d e : Dev} {c : Cap} (h : d.takeEntry c = some e) : Touch [.net] d e := by
  unfold Dev.takeEntry at h
  split_ifs at h <;> cases h
  · exact (Touch.refl _ d).setNet _
  · exact (Touch.refl _ d).setNet _
  · exact .refl _ d

theorem Dev.admitWrite_touch (d : Dev) (c : Cap) : Touch [.net, .que] d (d.admitWrite c) := by
  unfold Dev.admitWrite
  split
  · next he => exact .next (Dev.takeEntry_touch he).of (Dev.modCap_touch ..)
  · exact (d.modCap_touch ..).of

theorem Dev.received_touch (d : Dev) (c : Cap) (b : Bytes) : Touch [.net, .que] d (d.received c b) := by
  unfold Dev.received
  extract_lets v c1
  refine .ite (fun _ => .next (.raiseHeld (.refl _ d) ..) (Dev.refuseAt_touch ..)) (fun _ => ?_)
  exact .next (.of (d.modCap_touch c (fun _ => c1) (fun _ => .inr rfl))) (Dev.admitWrite_touch ..)

theorem Dev.capChecks_touch (d : Dev) (c : Cap) : Touch [.net, .que] d (d.capChecks c) := by
  unfold Dev.capChecks
  extract_lets bs
  refine .ite (fun _ => .refl _ d) fun _ => .ite (fun _ => .next (.raiseHeld (.refl _ d) ..) (Dev.refuseAt_touch ..)) fun _ =>
    .ite (fun _ => .next (.sent (.refl _ d) (d.twinEvent_sent ..)) (Dev.refuseAt_touch ..)) fun _ =>
      .ite (fun _ => (d.refuseAt_touch ..).of) fun _ => .ite (fun _ => d.received_touch ..) fun _ => (d.modCap_touch ..).of

theorem Dev.segFault_sent (d : Dev) (s : Session) : Sent d (d.segFault s) := d.bump_sent ..

theorem Dev.segRefuse_touch (d : Dev) (s : Session) (c : Cap) : Touch [.net, .que] d (d.segRefuse s c) :=
  .next (.sent (.refl _ d) (d.segFault_sent s)) (Dev.refuse_touch ..)

theorem Dev.laterSegment_touch (d : Dev) (s : Session) (c : Cap) (seg : Segment) : Touch [.net, .que] d (d.laterSegment s c seg) := by
  unfold Dev.laterSegment
  refine .ite (fun _ => d.segRefuse_touch ..) fun _ => .ite (fun _ => ?_) fun _ => .refl _ d
  exact .next (.of (d.modCap_touch c (fun _ => { c with segs := c.segs ++ [(seg.offset - c.start, seg.bytes)] }) (fun _ => .inr rfl))) (Dev.capChecks_touch ..)

theorem Dev.refusedSegment_sent (d : Dev) (s : Session) (r : Nat × Nat) (seg : Segment) : Sent d (d.refusedSegment s r seg) := by
  unfold Dev.refusedSegment
  split
  · exact .refl d
  · exact d.segFault_sent s

/-- A pool that grants takes its capsule out of the wait. -/
theorem Dev.grantBorrow_touch (d : Dev) (cls : Fin 5) : Touch [.net, .que] d (d.grantBorrow cls) := by
  unfold Dev.grantBorrow
  split
  · exact .refl _ d
  · split
    · next c s _ _ =>
      refine .ite (fun _ => ?_) fun _ => .refl _ d
      have hp := d.pace_touch c.tenant (extensionOps c.hdr s.segSize)
      split
      · next d1 he =>
        rw [he] at hp
        have h1 := (hp.of (T := [.net, .que])).next (Dev.dropBorrow_touch d1 c)
        exact .next (.sent (.next (h1.next (Dev.modCap_touch _ c (fun _ => { c with awaitBorrow := false }) (fun _ => .inr rfl))) (Dev.addCharge_touch ..))
          (Dev.sendAck_sent ..)) (Dev.capChecks_touch ..)
      · next he =>
        rw [he] at hp
        exact hp.of
    · exact .refl _ d

theorem Dev.expireBorrow_touch (d : Dev) (sid tag : BitVec 32) : Touch [.net, .que] d (d.expireBorrow sid tag) := by
  unfold Dev.expireBorrow
  split
  · exact .refl _ d
  · exact .ite (fun _ => .next (.bump (.refl _ d) ..) (Dev.refuseAt_touch ..)) fun _ =>
      .ite (fun _ => (d.refuseAt_touch ..).of) fun _ => .refl _ d

theorem Dev.grantEntry_touch (d : Dev) (sid tag : BitVec 32) : Touch [.net, .que] d (d.grantEntry sid tag) := by
  unfold Dev.grantEntry
  split
  · exact .refl _ d
  · exact .ite (fun _ => d.admitWrite_touch _) fun _ => .refl _ d

end Sys2Proof.Machine
end

section
/-! The timers that end something of a session, and the waits for credit and for a directory entry. -/

namespace Sys2Proof.Machine

theorem Dev.session?_sid {d : Dev} {sid : BitVec 32} {x : Session} (h : d.session? sid = some x) : x.sid = sid := by
  simpa using List.find?_some h

theorem Touch.sid_gone {S : List DevPart} {d e : Dev} (h : Touch S d e) {sid : BitVec 32} (hd : ∀ y ∈ d.net.sessions, y.sid ≠ sid)
    (hs : autoParam (.sids ∉ S) List.nodup_range'._auto_1) : ∀ y ∈ e.net.sessions, y.sid ≠ sid := by
  intro y hy he
  obtain ⟨x, hx, hxy⟩ := List.mem_map.mp (h.sids hs (List.mem_map_of_mem hy))
  exact hd x hx (hxy.trans he)

/-- A session that is removed is gone, whatever other session had its ID. -/
theorem Dev.removeSession_gone (d : Dev) (s : Session) : ∀ y ∈ (d.removeSession s).net.sessions, y.sid ≠ s.sid := by
  intro y hy
  unfold Dev.removeSession at hy
  simpa using (List.mem_filter.mp hy).2

theorem Dev.endSession_gone (d : Dev) (sid : BitVec 32) (cause : Nat) (state : Bool) :
    ∀ y ∈ (d.endSession sid cause state).net.sessions, y.sid ≠ sid := by
  unfold Dev.endSession
  split
  · next h =>
    intro y hy he
    simpa [he] using List.find?_eq_none.mp h y hy
  · next s h =>
    rw [← Dev.session?_sid h]
    split
    · extract_lets d1 d2 n d3
      have h2 : ∀ y ∈ d2.net.sessions, y.sid ≠ s.sid := d1.removeSession_gone s
      have h3 : Touch [.net] d2 d3 := .ite (fun _ => .refl _ _) (fun _ => (Touch.refl _ d2).setNet _)
      exact ((h3.raise ..).sent (Dev.recomputePools_sent _)).sid_gone h2
    · exact d.removeSession_gone s

theorem answered_of_touch {S : List DevPart} {d e f : Dev} {c : Cap} {st : BitVec 16} {v : Nat} {b : Bytes} (h : answered d e c st v b)
    (ht : Touch S e f) (hs : autoParam (.caps ∉ S) List.nodup_range'._auto_1) : answered d f c st v b := by
  refine ⟨h.1.later ht.out, fun x hx hxc => ?_⟩
  obtain ⟨y, hy, hyx⟩ := List.mem_map.mp (ht.caps hs (List.mem_map_of_mem hx))
  exact h.2 y hy ⟨(congrArg Prod.fst hyx).trans hxc.1, (congrArg Prod.snd hyx).trans hxc.2⟩

/-- A capsule that is refused before sequencing is answered with the status alone. -/
theorem Dev.refuse_answered (d : Dev) (c : Cap) (st : BitVec 16) (hs : (d.session? c.sid).isSome = true) :
    Machine.answered d (d.refuse c st) c st 0 [] := by
  have hout : Machine.answered d ((d.placeBytes c (Reply.plain st)).dropCap c) c st 0 [] :=
    ⟨d.placeBytes_emits c (Reply.plain st) hs, fun _ h => Dev.not_mem_dropCap h⟩
  exact answered_of_touch hout (S := [.net]) (.next (Dev.releaseUnsequenced_touch _ c)
    (Dev.modSession_touch _ _ (fun s => { s with refused := (c.start, c.len) :: s.refused })))

theorem Dev.refuseAt_answered (d : Dev) (c : Cap) (k : Nat) (st : BitVec 16) (hs : (d.session? c.sid).isSome = true) :
    Machine.answered d (d.refuseAt c k st) c st 0 [] :=
  Dev.refuse_answered (d.bump (.capChk c.sid k) 1) c st hs

theorem Dev.capByTag_mem {d : Dev} {sid tag : BitVec 32} {c : Cap} (h : d.capByTag sid tag = some c) :
    c ∈ d.que.caps ∧ c.sid = sid ∧ c.tag = tag :=
  ⟨List.mem_of_find?_eq_some h, by simpa using List.find?_some h⟩

/-- A changed capsule stands at its place. -/
theorem Dev.mem_modCap {d : Dev} {c : Cap} (h : c ∈ d.que.caps) (f : Cap → Cap) : f c ∈ (d.modCap c f).que.caps :=
  List.mem_map.mpr ⟨c, h, by simp⟩

theorem Dev.dropBorrow_gone (d : Dev) (c : Cap) : ∀ y ∈ (d.dropBorrow c).net.borrowQ, ¬ (y.sid = c.sid ∧ y.start = c.start) := by
  rintro y hy ⟨hsid, hstart⟩
  simpa [hsid, hstart] using (List.mem_filter.mp hy).2

theorem Dev.grantBorrow_gone {d : Dev} {cls : Fin 5} {w : BorrowWait} {c : Cap} {x : Session}
    (hw : d.net.borrowQ.find? (fun w => poolClass w.cls == cls) = some w)
    (hc : d.que.caps.find? (fun c => c.sid == w.sid && c.start == w.start) = some c) (hx : d.session? w.sid = some x)
    (hf : d.net.poolFits cls w.len = true) (hp : (d.pace c.tenant (extensionOps c.hdr x.segSize)).1 = true) :
    ∀ y ∈ (d.grantBorrow cls).net.borrowQ, ¬ (y.sid = w.sid ∧ y.start = w.start) := by
  have hcw : c.sid = w.sid ∧ c.start = w.start := by simpa using List.find?_some hc
  obtain ⟨⟨ok, d1⟩, hd⟩ : ∃ r, d.pace c.tenant (extensionOps c.hdr x.segSize) = r := ⟨_, rfl⟩
  rw [hd] at hp
  have heq : d.grantBorrow cls = (((((d1.dropBorrow c).modCap c (fun _ => { c with awaitBorrow := false })).addCharge
      c true).sendAck c.sid).capChecks { c with awaitBorrow := false }) := by
    unfold Dev.grantBorrow
    simp only [hw, hc, hx, hf, hd, if_true, show ok = true from hp]
  have ht : Touch [.net, .que] (d1.dropBorrow c) (d.grantBorrow cls) := by
    rw [heq]
    exact .next (.sent (.next (.of (Dev.modCap_touch _ c (fun _ => { c with awaitBorrow := false }) (fun _ => .inr rfl)))
      (Dev.addCharge_touch ..)) (Dev.sendAck_sent ..)) (Dev.capChecks_touch ..)
  intro y hy
  rw [← hcw.1, ← hcw.2]
  exact d1.dropBorrow_gone c y (ht.borrows (by simp) hy)

theorem Dev.grantEntry_assembled {d : Dev} {sid tag : BitVec 32} {c : Cap} (hc : d.capByTag sid tag = some c) (ha : c.awaitDir = true)
    (he : (d.takeEntry c).isSome = true) : ∃ y, capNow (d.grantEntry sid tag) c y ∧ y.stage = .assembled := by
  obtain ⟨d1, h1⟩ := Option.isSome_iff_exists.mp he
  have heq : d.grantEntry sid tag = d1.modCap c (fun x => { x with stage := .assembled, awaitDir := false }) := by
    unfold Dev.grantEntry
    simp only [hc, ha, if_true]
    unfold Dev.admitWrite
    rw [h1]
  have hm : c ∈ d1.que.caps := by
    rw [(Dev.takeEntry_touch h1).que (by simp)]
    exact (Dev.capByTag_mem hc).1
  rw [heq]
  exact ⟨_, ⟨Dev.mem_modCap hm _, rfl, rfl⟩, rfl⟩

/-- Settles O5: what a timer ends is filtered out and nothing after it brings it back. -/
theorem sessionTimersAndCreditWaits : Obligations.SessionTimersAndCreditWaits := by
  refine ⟨fun s sid x hx hl => ⟨_, rfl, ?_⟩, fun s a => ⟨_, rfl, ?_⟩, fun s sid x hx hl => ⟨_, rfl, ?_⟩, fun s sid => ⟨_, rfl, ?_⟩,
    fun s sid x hx hl ht => ⟨_, rfl, ?_⟩, fun s cls w c x hw hc hx hf hp => ⟨_, rfl, ?_⟩, fun s sid tag c hc ha hs => ?_,
    fun s sid tag c hc ha he => ⟨_, rfl, ?_⟩⟩
  · have he : halfOpenTimeoutEff sid s.dev = s.dev.removeSession x := by
      unfold halfOpenTimeoutEff
      simp [hx, hl]
    rw [he, ← Dev.session?_sid hx]
    exact (Dev.reportMode_touch _).sid_gone (s.dev.removeSession_gone x)
  · intro ha
    have hr := congrArg (fun n : Net => n.holdoffs) (holdoffExpiryEff a s.dev).reportMode_steady
    simpa using (List.mem_filter.mp (hr ▸ ha : a ∈ (holdoffExpiryEff a s.dev).net.holdoffs)).2
  · have he : idleTimeoutEff sid s.dev = s.dev.endSession sid 2 true := by
      unfold idleTimeoutEff
      simp [hx, hl]
    rw [he]
    exact (Dev.reportMode_touch _).sid_gone (s.dev.endSession_gone sid 2 true)
  · intro y hy
    have hr := congrArg (fun n : Net => n.tombs) (tombstoneExpiryEff sid s.dev).reportMode_steady
    simpa using (List.mem_filter.mp (hr ▸ hy : y ∈ (tombstoneExpiryEff sid s.dev).net.tombs)).2
  · have he : replyStallEff sid s.dev = (s.dev.raise Ev.replyStall sid.toNat x.waiting 0 0).endSession sid 4 true := by
      unfold replyStallEff
      simp [hx, hl, ht]
    rw [he]
    exact (Dev.reportMode_touch _).sid_gone (Dev.endSession_gone _ sid 4 true)
  · intro y hy
    exact Dev.grantBorrow_gone hw hc hx hf hp y ((Dev.reportMode_touch _).borrows (by simp) hy)
  · have he : s.dev.expireBorrow sid tag = (s.dev.bump (.session sid .borrowRefused) 1).refuseAt c 7 Status.noCredit := by
      unfold Dev.expireBorrow
      simp [hc, ha]
    obtain ⟨_, hsid, _⟩ := Dev.capByTag_mem hc
    exact ⟨_, State.run_of_eq (f := fun d => d.expireBorrow sid tag) he,
      (Dev.refuseAt_answered (s.dev.bump (.session sid .borrowRefused) 1) c 7 Status.noCredit (hsid ▸ hs)).reported⟩
  · obtain ⟨y, ⟨hy, hp⟩, hst⟩ := Dev.grantEntry_assembled hc ha he
    exact ⟨y, ⟨(Dev.reportMode_que _).symm ▸ hy, hp⟩, hst⟩

end Sys2Proof.Machine
end

section
/-! Flow control and the timers of a sender. -/

namespace Sys2Proof.Machine

/-! ### Packets on their way out -/

theorem Net.pfc_of_steady {m n : Net} (h : m.steady = n.steady) : m.pfcPaused = n.pfcPaused ∧ m.pfcTx = n.pfcTx :=
  have hp : m.steady.pfcPaused = n.steady.pfcPaused := congrArg (fun n : Net => n.pfcPaused) h
  have ht : m.steady.pfcTx = n.steady.pfcTx := congrArg (fun n : Net => n.pfcTx) h
  ⟨hp, ht⟩

/-- Whether a priority waits and whether a port is up stays as it was while the drive sends. -/
theorem Sent.paused {d e : Dev} (h : Sent d e) (p : Port) (n : Nat) : e.paused p n = d.paused p n := by
  have hc : e.clk.tick = d.clk.tick := show (coreOf e).clk.tick = (coreOf d).clk.tick by rw [h.core]
  unfold Dev.paused Dev.pnum
  rw [core_par h.core, hc, (Net.pfc_of_steady h.net).1]

theorem Sent.portUp {d e : Dev} (h : Sent d e) (p : Port) : e.portUp p = d.portUp p := by
  unfold Dev.portUp
  rw [(h.touch []).links (by simp)]

/-- What is put on the wire goes out, as the drive was before what it sent just now. -/
theorem Sent.wire_goesOut {d e : Dev} (h : Sent d e) (k : OutPacket) : goesOut d (e.wire k) k := by
  unfold goesOut Dev.wire
  rw [h.paused, h.portUp]
  split
  · simp
  · intro hp
    rw [if_pos hp]
    exact (emits_emitOut e _).earlier h.out

theorem goesOut.earlier {d e f : Dev} {k : OutPacket} (h : goesOut e f k) (hp : e.paused = d.paused) (hu : e.portUp = d.portUp)
    (ho : e.out = d.out) : goesOut d f k := by
  unfold goesOut emits at *
  rwa [hp, hu, ho] at h

theorem Dev.wire_sessions (d : Dev) (k : OutPacket) : (d.wire k).net.sessions = d.net.sessions := by
  unfold Dev.wire
  split_ifs <;> rfl

theorem goesOut.later {d e f : Dev} {k : OutPacket} (h : goesOut d e k) (hs : Sent e f) : goesOut d f k := by
  unfold goesOut at h ⊢
  split
  · next hp => exact hs.held.subset (by rwa [if_pos hp] at h)
  · next hp =>
    rw [if_neg hp] at h
    exact fun hu => (h hu).later hs.out

/-- A report of the mode sends after what has gone out. -/
theorem goesOut.reported {d e : Dev} {k : OutPacket} (h : goesOut d e k) : goesOut d e.reportMode k := by
  have hs := e.reportMode_sent
  have h' : goesOut d { e with par := e.reportMode.par } k := h
  exact h'.later hs

theorem Dev.session?_mem {d : Dev} {sid : BitVec 32} {x : Session} (h : d.session? sid = some x) : x ∈ d.net.sessions :=
  List.mem_of_find?_eq_some h

theorem Dev.mem_modSession_of_mem {d : Dev} {x : Session} (h : x ∈ d.net.sessions) (f : Session → Session) :
    f x ∈ (d.modSession x.sid f).net.sessions :=
  List.mem_map.mpr ⟨x, h, by simp⟩

theorem Dev.mem_modSession {d : Dev} {sid : BitVec 32} {x : Session} (h : d.session? sid = some x) (f : Session → Session) :
    f x ∈ (d.modSession sid f).net.sessions :=
  Dev.session?_sid h ▸ Dev.mem_modSession_of_mem (Dev.session?_mem h) f

/-- After what sends and records, a session stands with all but its streams as it was. -/
theorem Sent.session {d e : Dev} (h : Sent d e) {x : Session} (hx : x ∈ d.net.sessions) : ∃ y ∈ e.net.sessions, y.steady = x.steady :=
  Net.mem_sessions_of_steady h.net hx

theorem Dev.reportMode_session (d : Dev) {x : Session} (hx : x ∈ d.net.sessions) : ∃ y ∈ d.reportMode.net.sessions, y.steady = x.steady :=
  d.reportMode_sent.session hx

/-! ### Priority flow control -/

theorem Dev.releaseHeld_steady (d : Dev) : d.releaseHeld.net.steady = d.net.steady := by
  unfold Dev.releaseHeld
  extract_lets go stay n d1
  exact (d1.wires_sent _).net

theorem Dev.reportMode_pfc (d : Dev) : d.reportMode.net.pfcPaused = d.net.pfcPaused ∧ d.reportMode.net.pfcTx = d.net.pfcTx :=
  Net.pfc_of_steady d.reportMode_steady

theorem pfcFrameEff_paused {d : Dev} {p : Port} (h : d.hears p = true) (enable : BitVec 8) (quanta : Vector (BitVec 16) 8) (i : Fin 8) :
    ((pfcFrameEff p enable quanta d).net.pfcPaused.get p).get i =
      if enable.getLsbD i.val then d.clk.tick + quantaUs (quanta.get i).toNat (d.net.links.get p.castSucc).mode
      else (d.net.pfcPaused.get p).get i := by
  unfold pfcFrameEff
  rw [if_pos h]
  extract_lets until_
  rw [(Net.pfc_of_steady (Dev.releaseHeld_steady _)).1, vector_get_set_self]
  exact Vector.getElem_ofFn ..

section
variable {d : Dev} {p : Port} {lull : Bool} {fill : Nat} (hh : d.hears p = true)
  (he : BitVec.ofNat 8 (d.pnum P.transportPfcPriorities) ≠ 0) (hl : lull = (d.pow.rung == .fog))
include hh he hl

theorem pfcRenewEff_guard :
    (d.hears p && BitVec.ofNat 8 (d.pnum P.transportPfcPriorities) != 0 && (lull == (d.pow.rung == .fog))) = true := by
  rw [hh, hl]
  simpa using he

/-- A buffer above its mark begins a pause. -/
theorem pfcRenewEff_begin (hn : d.net.pfcTx.get p = none) (hf : (pfcMarks lull).1 < fill) :
    pfcRenewEff p lull fill d =
      ({ d with net := { d.net with pfcTx := d.net.pfcTx.set p (some ⟨d.clk.tick, lull.toNat⟩) } } : Dev).emitOut
        (.pfc p (BitVec.ofNat 8 (d.pnum P.transportPfcPriorities)) 0xFFFF) := by
  unfold pfcRenewEff
  dsimp only
  rw [if_pos (pfcRenewEff_guard hh he hl), hn]
  exact if_pos hf

/-- A pause is repeated until the fill is below the release mark. -/
theorem pfcRenewEff_again {e : PfcEpisode} (hn : d.net.pfcTx.get p = some e) (hf : (pfcMarks lull).2 ≤ fill) :
    pfcRenewEff p lull fill d = d.emitOut (.pfc p (BitVec.ofNat 8 (d.pnum P.transportPfcPriorities)) 0xFFFF) := by
  unfold pfcRenewEff
  dsimp only
  rw [if_pos (pfcRenewEff_guard hh he hl), hn]
  exact if_pos hf

/-- Below the release mark the pause is ended, and each of its priorities has its event. -/
theorem pfcRenewEff_end {e : PfcEpisode} (hn : d.net.pfcTx.get p = some e) (hf : fill < (pfcMarks lull).2) :
    Sent (({ d with net := { d.net with pfcTx := d.net.pfcTx.set p none } } : Dev).emitOut
      (.pfc p (BitVec.ofNat 8 (d.pnum P.transportPfcPriorities)) 0)) (pfcRenewEff p lull fill d) := by
  unfold pfcRenewEff
  dsimp only
  rw [if_pos (pfcRenewEff_guard hh he hl), hn]
  dsimp only
  rw [if_neg (Nat.not_le.mpr hf)]
  exact Sent.foldl (fun d i => d.raise_sent ..) _ _

end

/-! ### The timers -/

theorem delayedAckEff_sent {d : Dev} {sid : BitVec 32} {x : Session} (hx : d.session? sid = some x) (ha : x.ackDue = true)
    (hl : x.live = true) (ho : x.psnOpen = true) :
    (∃ y ∈ (delayedAckEff sid d).net.sessions, y.sid = sid ∧ y.ackDue = false ∧ y.txNext = x.txNext + 1) ∧
      goesOut d (delayedAckEff sid d) (d.packetOf x .ack 0 x.txNext 0 false false []) := by
  unfold delayedAckEff
  simp only [hx, ha, hl, Bool.and_self, if_true]
  unfold Dev.sendAck Dev.sendPacket
  simp only [hx, ho, if_true]
  refine ⟨?_, Sent.wire_goesOut ?_ _⟩
  · rw [Dev.wire_sessions]
    refine ⟨_, Dev.mem_modSession hx _, ?_⟩
    exact ⟨(Dev.session?_sid hx :), rfl, rfl⟩
  · refine .trans (.trans ?_ (Dev.bump_sent ..)) (Dev.bump_sent ..)
    exact Dev.modSession_sent d sid (fun _ => rfl)

theorem Dev.resend_sent (d : Dev) (sid : BitVec 32) (k : OutPacket) : Sent d (d.resend sid k) ∧ goesOut d (d.resend sid k) k := by
  unfold Dev.resend
  refine ⟨.trans (.trans ?_ (Dev.bump_sent ..)) (Dev.wire_sent _ k), Sent.wire_goesOut (.trans ?_ (Dev.bump_sent ..)) k⟩
  all_goals exact Dev.modSession_sent d sid (fun _ => rfl)

/-- What an expiry makes of its session. -/
def Dev.backOff (d : Dev) (x : Session) : Session :=
  { x with expiries := x.expiries + 1, rto := d.clampRto (2 * x.rto), cwnd := 2 * x.segSize }

theorem Dev.sessionRto_resends {d : Dev} {sid : BitVec 32} {x : Session} {k : TxPacket} (hx : d.session? sid = some x)
    (hk : x.unacked.find? (fun t => !t.sacked) = some k) (hn : x.expiries + 1 < d.pnum P.transportRetxLimit) :
    (∃ y ∈ (d.sessionRto sid).net.sessions, y.sid = sid ∧ y.expiries = x.expiries + 1 ∧ y.cwnd = 2 * x.segSize ∧
      y.rto = d.clampRto (2 * x.rto)) ∧ goesOut d (d.sessionRto sid) k.pkt := by
  have heq : d.sessionRto sid = ((d.bump (.session sid .rto) 1).modSession sid d.backOff).resend sid k.pkt := by
    unfold Dev.sessionRto
    simp only [hx, hk, Nat.not_le.mpr hn, if_false]
    rfl
  obtain ⟨hs, hg⟩ := ((d.bump (.session sid .rto) 1).modSession sid d.backOff).resend_sent sid k.pkt
  obtain ⟨y, hy, hyx⟩ := hs.session (Dev.mem_modSession (d := d.bump (.session sid .rto) 1) hx d.backOff)
  rw [heq]
  exact ⟨⟨y, hy, (Session.steady_sid hyx).trans (Dev.session?_sid hx :), congrArg (fun z : Session => z.expiries) hyx,
    congrArg (fun z : Session => z.cwnd) hyx, congrArg (fun z : Session => z.rto) hyx⟩, hg.earlier rfl rfl rfl⟩

theorem Dev.cwRto_resends {d : Dev} {k : CwSent} (hk : d.mir.unacked.find? (fun f => !f.sacked) = some k) (hl : d.linked = true)
    (hn : d.mir.expiries + 1 < d.pnum P.transportRetxLimit) : emits d d.cwRto (.cwResend k.psn k.frame) := by
  unfold Dev.cwRto
  simp only [hl, hk, Nat.not_le.mpr hn, if_false]
  exact (emits_emitOut _ _).earlier (List.suffix_refl _)

theorem keyPhaseEff_next {d : Dev} {sid : BitVec 32} {x : Session} (hx : d.session? sid = some x) (ha : x.txPhaseAcked = true)
    (hn : x.txPhaseStart + 2 ^ 30 ≤ x.txNext) :
    ∃ y ∈ (keyPhaseEff sid d).net.sessions, y.sid = sid ∧ y.txPhase = !x.txPhase ∧ y.txPhaseStart = x.txNext ∧
      y.keys.d2hKey = nextKey x.keys.d2hKey := by
  refine ⟨_, Dev.mem_modSession hx _, ?_⟩
  simp only [ha, hn, decide_true, Bool.and_self, if_true, Dev.session?_sid hx, and_self]

/-- Settles O4: each command does its own step, and the report of the mode after it takes nothing of that back. -/
theorem flowControlAndSendTimers : Obligations.FlowControlAndSendTimers := by
  refine ⟨fun s p enable quanta hp => ⟨_, rfl, fun i => ?_⟩, fun s p lull fill hh he hl hn hf => ?_, fun s p lull fill hh he hl hn hf => ?_,
    fun s p lull fill hh he hl hn hf => ⟨_, rfl, ?_⟩, fun s sid x hx ha hl ho hs => ⟨_, rfl, ?_⟩, fun s sid x k hx hk hn => ⟨_, rfl, ?_⟩,
    fun s k hk hl hn => ⟨_, rfl, (Dev.cwRto_resends hk hl hn).reported⟩, fun s sid x hx ha hn => ⟨_, rfl, ?_⟩⟩
  · rw [(Dev.reportMode_pfc _).1]
    exact pfcFrameEff_paused hp enable quanta i
  · refine ⟨_, State.run_of_eq (pfcRenewEff_begin hh he hl hn hf), ?_, ((emits_emitOut _ _).earlier (List.suffix_refl _)).reported⟩
    rw [(Dev.reportMode_pfc _).2]
    exact congrArg Option.isSome (vector_get_set_self ..)
  · obtain ⟨e, hn⟩ := Option.isSome_iff_exists.mp hn
    refine ⟨_, State.run_of_eq (pfcRenewEff_again hh he hl hn hf), ?_, ((emits_emitOut _ _).earlier (List.suffix_refl _)).reported⟩
    rw [(Dev.reportMode_pfc _).2]
    rfl
  · obtain ⟨e, hn⟩ := Option.isSome_iff_exists.mp hn
    have h := pfcRenewEff_end hh he hl hn hf
    refine ⟨?_, (((emits_emitOut _ _).later h.out).earlier (List.suffix_refl _)).reported⟩
    rw [(Dev.reportMode_pfc _).2, (Net.pfc_of_steady h.net).2]
    exact vector_get_set_self ..
  · have hd := delayedAckEff_sent hx ha hl ho
    have hr : settled (delayedAckEff sid s.dev) := by
      unfold delayedAckEff
      simp only [hx, ha, hl, Bool.and_self, if_true]
      exact (settled_of_core (s.dev.sendAck_sent sid).core).mpr hs
    rw [Dev.reportMode_of_settled hr]
    exact hd
  · obtain ⟨⟨z, hz, hsid, hex, hcw, hrt⟩, hg⟩ := Dev.sessionRto_resends hx hk hn
    obtain ⟨y, hy, hyz⟩ := Dev.reportMode_session _ hz
    exact ⟨⟨y, hy, (Session.steady_sid hyz).trans hsid, (congrArg (fun z : Session => z.expiries) hyz).trans hex,
      (congrArg (fun z : Session => z.cwnd) hyz).trans hcw, (congrArg (fun z : Session => z.rto) hyz).trans hrt⟩, hg.reported⟩
  · obtain ⟨z, hz, hsid, hph, hst, hkey⟩ := keyPhaseEff_next hx ha hn
    obtain ⟨y, hy, hyz⟩ := Dev.reportMode_session _ hz
    exact ⟨y, hy, (Session.steady_sid hyz).trans hsid, (congrArg (fun z : Session => z.txPhase) hyz).trans hph,
      (congrArg (fun z : Session => z.txPhaseStart) hyz).trans hst, (congrArg (fun z : Session => z.keys.d2hKey) hyz).trans hkey⟩

end Sys2Proof.Machine
end

section
/-! The handshake: INIT joins the queue, its head becomes half-open, AUTH establishes. -/

namespace Sys2Proof.Machine

theorem Dev.bare_sent (d : Dev) (p : Port) (a : Addr) (u : BitVec 16) (t : PktType) (sid : BitVec 32) (b : Bytes) :
    Sent d (d.bare p a u t sid b) := d.wire_sent _

theorem initEff_queued {d : Dev} {k : InitPacket} (hh : d.hears k.port = true) (hc : d.pow.rung = .clear)
    (hlen : 1200 ≤ k.payload.length + 48) (hv : k.fwpVersion = 1) (hg : d.gale.find .session (sessionWord k.addr k.uport) = none)
    (hr : d.initRefusal k = none) : (initEff k d).net.shakes = d.net.shakes ++ [⟨k⟩] := by
  unfold initEff
  rw [Dev.onFrame_clear hh hc, if_neg (Nat.not_lt.mpr hlen), if_neg (by simp [hv])]
  have hr' : (d.countSearch .session false).initRefusal k = none := hr
  simp only [hg, Option.isSome_none, Bool.false_eq_true, if_false, hr']
  rfl

/-- The entry of a handshake is added to the sessions, and its reply goes out bare. -/
theorem Dev.openHalf_eq (d : Dev) (k : InitPacket) : ∃ (e : Dev) (sid : BitVec 32) (seg : Nat) (th : BitVec 256) (keys : SessKeys) (b : Bytes),
    d.openHalf k = e.bare k.port k.addr k.uport .initReply sid b ∧ e.net.shakes = d.net.shakes ∧
      e.net.sessions = d.net.sessions ++ [halfOpen k sid seg th keys] :=
  ⟨_, _, _, _, _, _, rfl, rfl, rfl⟩

theorem initDoneEff_halfOpen {d : Dev} {h : Handshake} {rest : List Handshake} (hs : d.net.shakes = h :: rest)
    (hg : d.gale.find .session (sessionWord h.pkt.addr h.pkt.uport) = none) :
    (initDoneEff true d).net.shakes = rest ∧ ∃ y ∈ (initDoneEff true d).net.sessions,
      y.stage = .halfOpen ∧ y.port = h.pkt.port ∧ y.addr = h.pkt.addr ∧ y.uport = h.pkt.uport := by
  have heq : initDoneEff true d = ({ d with net := { d.net with shakes := rest } } : Dev).openHalf h.pkt := by
    unfold initDoneEff
    simp [hs, hg]
  obtain ⟨e, sid, seg, th, keys, b, ho, hsh, hse⟩ := Dev.openHalf_eq { d with net := { d.net with shakes := rest } } h.pkt
  have hn := (e.bare_sent h.pkt.port h.pkt.addr h.pkt.uport .initReply sid b).net
  obtain ⟨y, hy, hyx⟩ := Net.mem_sessions_of_steady hn (x := halfOpen h.pkt sid seg th keys) (by simp [hse])
  rw [heq, ho]
  exact ⟨(congrArg (fun n : Net => n.shakes) hn :).trans hsh, y, hy, (congrArg (fun x : Session => x.stage) hyx :),
    (congrArg (fun x : Session => x.port) hyx :), (congrArg (fun x : Session => x.addr) hyx :), (congrArg (fun x : Session => x.uport) hyx :)⟩

/-- A session that is established stands under its ID, for its tenant. -/
theorem Dev.establish_session {d : Dev} {x : Session} (hx : x ∈ d.net.sessions) (k : AuthPacket) :
    ∃ y ∈ (d.establish x k).net.sessions, y.sid = x.sid ∧ y.stage = .established ∧ y.tenant = k.tenant ∧ k.creditLimit.toNat ≤ y.hostLimit := by
  unfold Dev.establish
  extract_lets idle d1 d2
  have hs : Sent d1 ((d2.raise Ev.sessionOpen x.sid.toNat k.tenant.toNat x.port.val x.segSize).recomputePools) :=
    ((d1.sendPacket_sent ..).trans (Dev.raise_sent ..)).trans (Dev.recomputePools_sent _)
  obtain ⟨y, hy, hyx⟩ := hs.session (Dev.mem_modSession_of_mem hx _)
  have hl : y.hostLimit = max x.hostLimit k.creditLimit.toNat := (congrArg (fun x : Session => x.hostLimit) hyx :)
  exact ⟨y, hy, (Session.steady_sid hyx :), (congrArg (fun x : Session => x.stage) hyx :), (congrArg (fun x : Session => x.tenant) hyx :),
    hl ▸ Nat.le_max_right ..⟩

theorem Dev.sessionFor_mem {d : Dev} {a : Addr} {u : BitVec 16} {p : Port} {sid : BitVec 32} {x : Session}
    (h : d.sessionFor a u p sid = some x) : x ∈ d.net.sessions := by
  unfold Dev.sessionFor at h
  split at h
  · exact List.mem_of_find?_eq_some h
  · cases h

theorem authEff_established {d : Dev} {k : AuthPacket} {x : Session} (hh : d.hears k.port = true) (hc : d.pow.rung = .clear)
    (hx : d.sessionFor k.addr k.uport k.port k.sid = some x) (hst : x.stage = .halfOpen) (hr : x.rxCum = 0) (hp : k.psn = 0)
    (ho : x.opens .auth (authPacket k) = true) (ha : d.authStatus x k = Status.ok) :
    ∃ y ∈ (authEff k d).net.sessions, y.sid = x.sid ∧ y.stage = .established ∧ y.tenant = k.tenant ∧ k.creditLimit.toNat ≤ y.hostLimit := by
  have heq : authEff k d =
      (d.countSearch .session (d.gale.find .session (sessionWord k.addr k.uport)).isSome).establish x k := by
    unfold authEff
    rw [Dev.onFrame_clear hh hc]
    have ha' : (d.countSearch .session (d.gale.find .session (sessionWord k.addr k.uport)).isSome).authStatus x k = Status.ok := ha
    dsimp only
    rw [hx]
    dsimp only
    rw [if_neg (by rw [hr, hp]; decide), if_neg (by simp [ho]), if_neg (by simp [Session.live, hst]), if_neg (by simp [hp]), ha']
    exact if_pos rfl
  rw [heq]
  refine Dev.establish_session ?_ k
  simpa [Dev.countSearch] using Dev.sessionFor_mem hx

/-- Settles O2: each step of the handshake leaves its entry in the network, which the report of the mode keeps. -/
theorem handshakeEstablishes : Obligations.HandshakeEstablishes := by
  refine ⟨fun s k hh hc _ hlen hv hg hr => ⟨_, rfl, ?_⟩, fun s h rest hs _ hg => ⟨_, rfl, ?_⟩,
    fun s k x hh hc hx hst hr hp ho ha => ⟨_, rfl, ?_⟩⟩
  · exact (congrArg (fun n : Net => n.shakes) (initEff k s.dev).reportMode_steady :).trans (initEff_queued hh hc hlen hv hg hr)
  · obtain ⟨hsh, z, hz, hst, hp, ha, hu⟩ := initDoneEff_halfOpen hs hg
    obtain ⟨y, hy, hyz⟩ := Dev.reportMode_session _ hz
    exact ⟨(congrArg (fun n : Net => n.shakes) (initDoneEff true s.dev).reportMode_steady :).trans hsh, y, hy,
      (congrArg (fun x : Session => x.stage) hyz :).trans hst, (congrArg (fun x : Session => x.port) hyz :).trans hp,
      (congrArg (fun x : Session => x.addr) hyz :).trans ha, (congrArg (fun x : Session => x.uport) hyz :).trans hu⟩
  · obtain ⟨z, hz, hsid, hst, ht, hl⟩ := authEff_established hh hc hx hst hr hp ho ha
    obtain ⟨y, hy, hyz⟩ := Dev.reportMode_session _ hz
    have hh : y.hostLimit = z.hostLimit := (congrArg (fun x : Session => x.hostLimit) hyz :)
    exact ⟨y, hy, (Session.steady_sid hyz).trans hsid, (congrArg (fun x : Session => x.stage) hyz :).trans hst,
      (congrArg (fun x : Session => x.tenant) hyz :).trans ht, hh ▸ hl⟩

end Sys2Proof.Machine
end

section
/-! The packets of an established session: what recording one and taking its acknowledgement keep, and what each packet then does. -/

namespace Sys2Proof.Machine

/-- Of a session what the assembly of its capsules goes by. -/
def Session.upper (s : Session) : BitVec 32 × BitVec 32 × Nat × List (Nat × Nat) × Nat × List (Nat × Nat) × List Segment :=
  (s.sid, s.tenant, s.segSize, s.refused, s.seqPos, s.ended, s.early)

@[simp] theorem Session.settle_upper (s : Session) (n : Nat) : (s.settle n).upper = s.upper := by
  induction n generalizing s with
  | zero => rfl
  | succ n ih =>
    unfold Session.settle
    split
    · exact ih _
    · rfl

@[simp] theorem Session.settle_replyQ (s : Session) (n : Nat) : (s.settle n).replyQ = s.replyQ := by
  induction n generalizing s with
  | zero => rfl
  | succ n ih =>
    unfold Session.settle
    split
    · exact ih _
    · rfl

/-- Recording a packet keeps what the assembly goes by, and the replies that wait. -/
theorem Session.record_keeps (s : Session) (psn : Nat) : (s.record psn).upper = s.upper ∧ (s.record psn).replyQ = s.replyQ := by
  unfold Session.record
  extract_lets s1
  have h : s1.upper = s.upper ∧ s1.replyQ = s.replyQ := ⟨Session.settle_upper .., Session.settle_replyQ ..⟩
  split
  · split
    · exact h
    · exact h
  · exact h

theorem Session.withKeys_keeps (s : Session) (b : Bool) (n : Option Nat) (k : SessKeys) :
    ({ s with rxPhase := b, rxPrevUntil := n, keys := k } : Session).upper = s.upper ∧
      ({ s with rxPhase := b, rxPrevUntil := n, keys := k } : Session).replyQ = s.replyQ := ⟨rfl, rfl⟩

theorem Session.nextRxKey_keeps (s : Session) (psn : Nat) (b : Bool) :
    (s.nextRxKey psn b).upper = s.upper ∧ (s.nextRxKey psn b).replyQ = s.replyQ := s.withKeys_keeps b (some psn) _

theorem Session.phase_keeps (s : Session) (psn : Nat) (b : Bool) : (s.phase psn b).upper = s.upper ∧ (s.phase psn b).replyQ = s.replyQ := by
  unfold Session.phase
  split
  · split
    · split
      · exact ⟨rfl, rfl⟩
      · exact ⟨rfl, rfl⟩
    · exact ⟨rfl, rfl⟩
  · split
    · split
      · exact ⟨rfl, rfl⟩
      · exact s.nextRxKey_keeps psn b
    · exact s.nextRxKey_keeps psn b

theorem Session.sample_keeps (s : Session) (r : Nat) (f : Nat → Nat) : (s.sample r f).upper = s.upper ∧ (s.sample r f).replyQ = s.replyQ := by
  unfold Session.sample
  split <;> exact ⟨rfl, rfl⟩

theorem Session.window_keeps (s : Session) (e : Bool) (n : Nat) : (s.window e n).upper = s.upper ∧ (s.window e n).replyQ = s.replyQ := by
  unfold Session.window
  split <;> exact ⟨rfl, rfl⟩

theorem Session.takeAck_keeps (s : Session) (cum : Nat) (sack : BitVec 64) (ece ecn : Bool) (now cap : Nat) (f : Nat → Nat) :
    (s.takeAck cum sack ece ecn now cap f).upper = s.upper ∧ (s.takeAck cum sack ece ecn now cap f).replyQ = s.replyQ := by
  unfold Session.takeAck
  extract_lets c new s1 s2
  have h : s2.upper = s.upper ∧ s2.replyQ = s.replyQ := by
    simp only [s2]
    split
    · exact s1.sample_keeps ..
    · exact ⟨rfl, rfl⟩
  exact ⟨(s2.window_keeps ..).1.trans h.1, (s2.window_keeps ..).2.trans h.2⟩

/-- Between two states a session's packet is recorded and acknowledged: the streams move, what the assembly goes by stays, and no reply
is placed. -/
structure Carried (d e : Dev) : Prop where
  core : coreOf e = coreOf d
  upper : e.net.sessions.map Session.upper = d.net.sessions.map Session.upper
  charges : e.net.charges = d.net.charges
  placing : ∀ sid tag, d.placing sid tag = false → e.placing sid tag = false

theorem Carried.refl (d : Dev) : Carried d d := ⟨rfl, rfl, rfl, fun _ _ h => h⟩

theorem Carried.trans {d e f : Dev} (h : Carried d e) (g : Carried e f) : Carried d f :=
  ⟨g.core.trans h.core, g.upper.trans h.upper, g.charges.trans h.charges, fun sid tag hp => g.placing sid tag (h.placing sid tag hp)⟩

/-- What keeps the sessions and sends carries. -/
theorem Carried.of_sessions {d e : Dev} (h : Sent d e) (hs : e.net.sessions = d.net.sessions) : Carried d e where
  core := h.core
  upper := by rw [hs]
  charges := (congrArg (fun n : Net => n.charges) h.net :)
  placing sid tag hp := by
    unfold Dev.placing Dev.session? at *
    rwa [hs]

theorem Dev.session?_modSession (d : Dev) (sid k : BitVec 32) {f : Session → Session} (hf : ∀ x, (f x).sid = x.sid) :
    (d.modSession sid f).session? k = (d.session? k).map (fun s => if s.sid == sid then f s else s) := by
  unfold Dev.session? Dev.modSession
  rw [List.find?_map]
  congr 2
  funext x
  simp only [Function.comp_apply]
  split
  · rw [hf]
  · rfl

theorem Session.upper_sid {x y : Session} (h : y.upper = x.upper) : y.sid = x.sid := congrArg Prod.fst h

/-- A change of a session that puts no final reply into its stream leaves no tag to be placed that was not. -/
theorem Dev.modSession_placing (d : Dev) (sid : BitVec 32) {f : Session → Session} (hu : ∀ x, (f x).sid = x.sid)
    (hq : ∀ x, d.session? sid = some x → ∀ r ∈ (f x).replyQ, r.final = true → ∃ q ∈ x.replyQ, q.final = true ∧ q.tag = r.tag)
    {k tag : BitVec 32} (hp : d.placing k tag = false) : (d.modSession sid f).placing k tag = false := by
  unfold Dev.placing at *
  rw [d.session?_modSession sid k hu]
  cases hk : d.session? k with
  | none => rfl
  | some x =>
    rw [hk] at hp
    simp only [List.any_eq_false, Option.map_some] at hp ⊢
    intro r hr
    split at hr
    · next he =>
      have hsid : sid = k := (eq_of_beq he).symm.trans (Dev.session?_sid hk)
      subst hsid
      by_cases hf : r.final = true
      · obtain ⟨q, hq1, hq2, hq3⟩ := hq x hk r hr hf
        simpa [hf, hq2, hq3] using hp q hq1
      · simp [hf]
    · exact hp r hr

/-- A change of a session that keeps what the assembly goes by, and puts no final reply into its stream, carries. -/
theorem Dev.modSession_carried (d : Dev) (sid : BitVec 32) {f : Session → Session} (hu : ∀ x, (f x).upper = x.upper)
    (hq : ∀ x, d.session? sid = some x → ∀ r ∈ (f x).replyQ, r.final = true → ∃ q ∈ x.replyQ, q.final = true ∧ q.tag = r.tag) :
    Carried d (d.modSession sid f) where
  core := d.modSession_core ..
  upper := by
    simp only [Dev.modSession, List.map_map]
    refine List.map_congr_left fun x _ => ?_
    simp only [Function.comp_apply]
    split
    · exact hu x
    · rfl
  charges := rfl
  placing _ _ hp := d.modSession_placing sid (fun x => Session.upper_sid (hu x)) hq hp

/-- The same where the replies that wait stay. -/
theorem Dev.modSession_carried_same (d : Dev) (sid : BitVec 32) {f : Session → Session} (h : ∀ x, (f x).upper = x.upper ∧ (f x).replyQ = x.replyQ) :
    Carried d (d.modSession sid f) :=
  d.modSession_carried sid (fun x => (h x).1) fun x _ r hr hf => ⟨r, (h x).2 ▸ hr, hf, rfl⟩

theorem Dev.bump_carried (d : Dev) (c : Ctr) (n : Nat) : Carried d (d.bump c n) := .of_sessions (d.bump_sent c n) rfl

theorem Dev.wire_carried (d : Dev) (k : OutPacket) : Carried d (d.wire k) := .of_sessions (d.wire_sent k) (d.wire_sessions k)

theorem Dev.sendPacket_carried (d : Dev) (sid : BitVec 32) (t : PktType) (cls off : Nat) (a b : Bool) (pl : Bytes) (n : Nat) :
    Carried d (d.sendPacket sid t cls off a b pl n) := by
  unfold Dev.sendPacket
  split
  · exact .refl d
  · split
    · refine .trans (.trans (.trans ?_ (Dev.bump_carried ..)) (Dev.bump_carried ..)) (Dev.wire_carried ..)
      exact d.modSession_carried_same sid fun _ => ⟨rfl, rfl⟩
    · exact .refl d

theorem Dev.resend_carried (d : Dev) (sid : BitVec 32) (k : OutPacket) : Carried d (d.resend sid k) := by
  unfold Dev.resend
  refine .trans (.trans ?_ (Dev.bump_carried ..)) (Dev.wire_carried ..)
  exact d.modSession_carried_same sid fun _ => ⟨rfl, rfl⟩

/-- A reply segment that is sent leaves of its reply what is left, under the same tag. -/
theorem Dev.pumpOne_carried {d e : Dev} {sid : BitVec 32} {s : Session} (hs : d.session? sid = some s) (h : d.pumpOne s = some e) :
    Carried d e := by
  unfold Dev.pumpOne at h
  split at h
  · cases h
  · next r rest hq =>
    extract_lets n last d0 d1 at h
    split at h
    · cases h
      have h0 : Carried d d0 ∧ d0.session? = d.session? := by
        simp only [d0]
        split
        · exact ⟨d.bump_carried .., rfl⟩
        · exact ⟨.refl d, rfl⟩
      refine h0.1.trans (.trans ?_ (Dev.sendPacket_carried ..))
      refine d0.modSession_carried s.sid (fun _ => rfl) fun x hx q hm hf => ?_
      rw [h0.2, Dev.session?_sid hs, hs, Option.some.injEq] at hx
      subst hx
      rw [hq]
      by_cases hl : last = true
      · exact ⟨q, List.mem_cons_of_mem r (by simpa [hl] using hm), hf, rfl⟩
      · simp only [hl, Bool.false_eq_true, if_false, List.mem_cons] at hm
        obtain rfl | hm := hm
        · exact ⟨r, .head _, hf, rfl⟩
        · exact ⟨q, .tail _ hm, hf, rfl⟩
    · cases h

theorem Dev.pumpReplies_carried (d : Dev) (sid : BitVec 32) (n : Nat) : Carried d (d.pumpReplies sid n) := by
  induction n generalizing d with
  | zero => exact .refl d
  | succ n ih =>
    unfold Dev.pumpReplies
    split
    · exact .refl d
    · next s hs =>
      split
      · next e he => exact (Dev.pumpOne_carried hs he).trans (ih e)
      · exact .refl d

theorem Dev.pumpNotices_carried (d : Dev) (sid : BitVec 32) (n : Nat) : Carried d (d.pumpNotices sid n) := by
  induction n generalizing d with
  | zero => exact .refl d
  | succ n ih =>
    unfold Dev.pumpNotices
    split
    · exact .refl d
    · split
      · exact .refl d
      · split
        · refine .trans (.trans ?_ (Dev.sendPacket_carried ..)) (ih _)
          exact d.modSession_carried_same sid fun _ => ⟨rfl, rfl⟩
        · exact .refl d

theorem Dev.pump_carried (d : Dev) (sid : BitVec 32) : Carried d (d.pump sid) := by
  unfold Dev.pump
  split
  · exact .refl d
  · extract_lets d1 d2
    refine .trans (e := d2) (.trans (d.pumpReplies_carried ..) (d1.pumpNotices_carried ..)) ?_
    refine d2.modSession_carried_same sid fun x => ?_
    repeat' split
    all_goals exact ⟨rfl, rfl⟩

theorem Carried.foldl {α : Type} {f : Dev → α → Dev} (h : ∀ d a, Carried d (f d a)) (l : List α) (d : Dev) : Carried d (l.foldl f d) := by
  induction l generalizing d with
  | nil => exact .refl d
  | cons a l ih => exact (h d a).trans (ih _)

end Sys2Proof.Machine
end

section
/-! The packets of an established session take effect: a first segment opens its capsule, an acknowledgement carries credit, a CLOSE ends
the session. -/

namespace Sys2Proof.Machine

theorem Dev.ackFor_carried (d : Dev) (s : Session) (k : Packet) (isData : Bool) : Carried d (d.ackFor s k isData) := by
  unfold Dev.ackFor
  extract_lets n d1
  have h1 : Carried d d1 := d.modSession_carried_same s.sid fun _ => ⟨rfl, rfl⟩
  split
  · exact h1.trans (d1.sendPacket_carried ..)
  · exact h1

/-- What an acknowledgement and its credit make of a session. -/
def Dev.acked (d : Dev) (k : Packet) (x : Session) : Session :=
  if k.ackValid then
    { x.takeAck k.cumAck.toNat k.sack k.ece (d.pflag P.transportEcnEnable) d.clk.tick (d.pnum P.transportTxInflightMax) d.clampRto with
      hostLimit := max (x.takeAck k.cumAck.toNat k.sack k.ece (d.pflag P.transportEcnEnable) d.clk.tick (d.pnum P.transportTxInflightMax)
        d.clampRto).hostLimit k.creditLimit.toNat }
  else { x with hostLimit := max x.hostLimit k.creditLimit.toNat }

theorem Session.withLimit_keeps (s : Session) (n : Nat) :
    ({ s with hostLimit := n } : Session).upper = s.upper ∧ ({ s with hostLimit := n } : Session).replyQ = s.replyQ := ⟨rfl, rfl⟩

theorem Dev.acked_keeps (d : Dev) (k : Packet) (x : Session) : (d.acked k x).upper = x.upper ∧ (d.acked k x).replyQ = x.replyQ := by
  unfold Dev.acked
  split
  · have h := x.takeAck_keeps k.cumAck.toNat k.sack k.ece (d.pflag P.transportEcnEnable) d.clk.tick (d.pnum P.transportTxInflightMax) d.clampRto
    exact ⟨(Session.withLimit_keeps ..).1.trans h.1, (Session.withLimit_keeps ..).2.trans h.2⟩
  · exact Session.withLimit_keeps ..

theorem Dev.acked_limit (d : Dev) (k : Packet) (x : Session) : k.creditLimit.toNat ≤ (d.acked k x).hostLimit := by
  unfold Dev.acked
  split <;> exact Nat.le_max_right ..

/-- Taking an acknowledgement changes the session, and then sends. -/
theorem Dev.takeAck_sent (d : Dev) (s : Session) (k : Packet) :
    Sent (d.modSession s.sid (d.acked k)) (d.takeAck s k) ∧ Carried (d.modSession s.sid (d.acked k)) (d.takeAck s k) := by
  unfold Dev.takeAck
  extract_lets ecn lim d1 d2 d3
  have h1 : d1 = d.modSession s.sid (d.acked k) := by
    unfold Dev.acked
    simp only [d1]
    split <;> rfl
  rw [← h1]
  clear_value d1
  have h2 : Sent d1 d2 ∧ Carried d1 d2 := by
    simp only [d2]
    split
    · exact ⟨d1.bump_sent .., d1.bump_carried ..⟩
    · exact ⟨.refl d1, .refl d1⟩
  have h3 : Sent d2 d3 ∧ Carried d2 d3 := by
    simp only [d3]
    split
    · exact ⟨Sent.foldl (fun d t => (d.resend_sent ..).1) _ _, Carried.foldl (fun d t => d.resend_carried ..) _ _⟩
    · exact ⟨.refl d2, .refl d2⟩
  exact ⟨(h2.1.trans h3.1).trans (d3.pump_sent _), (h2.2.trans h3.2).trans (d3.pump_carried _)⟩

theorem Dev.takeAck_carried (d : Dev) (s : Session) (k : Packet) : Carried d (d.takeAck s k) :=
  (d.modSession_carried_same s.sid (d.acked_keeps k)).trans (d.takeAck_sent s k).2

/-- The drive with a packet recorded and acknowledged, as its own effect finds it. -/
def Dev.recorded (d : Dev) (s : Session) (k : Packet) (isData : Bool) : Dev :=
  ((((d.modSession s.sid (fun x => (x.phase k.psn.toNat k.keyPhase).record k.psn.toNat)).bump (.session s.sid .pktRx) 1).bump
    (.session s.sid .byteRx) (64 + k.payload.length)).ackFor s k isData).takeAck s k

theorem Dev.accept_eq (d : Dev) (s : Session) (k : Packet) (isData : Bool) (f : Session → Dev → Dev) :
    d.accept s k isData f = match (d.recorded s k isData).session? s.sid with
      | some s1 => f s1 (d.recorded s k isData)
      | none => d.recorded s k isData := rfl

theorem Dev.recording_carried (d : Dev) (s : Session) (k : Packet) (isData : Bool) :
    Carried d ((((d.modSession s.sid (fun x => (x.phase k.psn.toNat k.keyPhase).record k.psn.toNat)).bump (.session s.sid .pktRx) 1).bump
      (.session s.sid .byteRx) (64 + k.payload.length)).ackFor s k isData) := by
  refine .trans (.trans (.trans ?_ (Dev.bump_carried ..)) (Dev.bump_carried ..)) (Dev.ackFor_carried ..)
  refine d.modSession_carried_same s.sid fun x => ?_
  have hr := (x.phase k.psn.toNat k.keyPhase).record_keeps k.psn.toNat
  have hp := x.phase_keeps k.psn.toNat k.keyPhase
  exact ⟨hr.1.trans hp.1, hr.2.trans hp.2⟩

theorem Dev.recorded_carried (d : Dev) (s : Session) (k : Packet) (isData : Bool) : Carried d (d.recorded s k isData) :=
  (d.recording_carried s k isData).trans (Dev.takeAck_carried ..)

/-- A session that stood stands, with what the assembly goes by. -/
theorem Carried.session {d e : Dev} (h : Carried d e) {x : Session} (hx : x ∈ d.net.sessions) : ∃ y ∈ e.net.sessions, y.upper = x.upper := by
  obtain ⟨y, hy, hyx⟩ := List.mem_map.mp (h.upper ▸ List.mem_map_of_mem hx : x.upper ∈ e.net.sessions.map Session.upper)
  exact ⟨y, hy, hyx⟩

theorem Carried.session? {d e : Dev} (h : Carried d e) (sid : BitVec 32) {x : Session} (hx : e.session? sid = some x) :
    ∃ y ∈ d.net.sessions, x.upper = y.upper := by
  obtain ⟨y, hy, hyx⟩ := List.mem_map.mp (h.upper ▸ List.mem_map_of_mem (Dev.session?_mem hx) : x.upper ∈ d.net.sessions.map Session.upper)
  exact ⟨y, hy, hyx.symm⟩

theorem Carried.session?_isSome {d e : Dev} (h : Carried d e) {x : Session} (hx : x ∈ d.net.sessions) :
    ∃ y, e.session? x.sid = some y := by
  obtain ⟨y, hy, hyx⟩ := h.session hx
  exact Option.isSome_iff_exists.mp ((e.session?_isSome_iff _).mpr (List.mem_map.mpr ⟨y, hy, Session.upper_sid hyx⟩))

/-- A packet's credit reaches its session. -/
theorem Dev.recorded_limit {d : Dev} {s : Session} (hs : s ∈ d.net.sessions) (k : Packet) (isData : Bool) :
    ∃ y ∈ (d.recorded s k isData).net.sessions, y.sid = s.sid ∧ k.creditLimit.toNat ≤ y.hostLimit := by
  obtain ⟨x, hx, hxs⟩ := (d.recording_carried s k isData).session hs
  have hsid := Session.upper_sid hxs
  obtain ⟨y, hy, hyx⟩ := (Dev.takeAck_sent _ s k).1.session (hsid ▸ Dev.mem_modSession_of_mem hx _)
  have hl : y.hostLimit = _ := (congrArg (fun z : Session => z.hostLimit) hyx :)
  exact ⟨y, hy, (Session.steady_sid hyx).trans ((Session.upper_sid (Dev.acked_keeps ..).1).trans hsid), hl ▸ Dev.acked_limit ..⟩

/-- A packet that arrives is recorded and has its effect. -/
theorem arrives.taken {d : Dev} {t : PktType} {k : Packet} {x : Session} (h : arrives d t k x) (f : Session → Dev → Dev)
    (hc : (t == .data) = true → k.streamOffset.toNat + k.payload.length ≤ d.creditLimit x ∧ d.squallUse + k.payload.length ≤ squallBytes) :
    d.onPacket k t f =
      (d.countSearch .session (d.gale.find .session (sessionWord k.addr k.uport)).isSome).accept x k (t == .data) f := by
  obtain ⟨hh, hr, hx, hl, ho, hlo, hhi, hg⟩ := h
  unfold Dev.onPacket
  rw [if_pos hh, if_neg (by rw [hr]; decide), Dev.wakeLight_rung_of_clear hr]
  unfold Dev.takePacket
  dsimp only
  rw [hx]
  dsimp only
  rw [if_neg (Nat.not_le.mpr hhi), if_neg (by simp [ho]), if_neg (by simp [hl]), if_neg (by rw [hg, decide_eq_false (Nat.not_lt.mpr hlo)]; decide)]
  rw [if_neg, if_neg]
  · intro hb
    rw [Bool.and_eq_true] at hb
    exact Nat.not_lt.mpr (hc hb.1).2 (of_decide_eq_true hb.2)
  · intro hb
    rw [Bool.and_eq_true] at hb
    exact Nat.not_lt.mpr (hc hb.1).1 (of_decide_eq_true hb.2)

theorem Dev.countSearch_carried (d : Dev) (t : GTable) (hit : Bool) : Carried d (d.countSearch t hit) :=
  (d.bump_carried ..).trans (Dev.bump_carried ..)

/-- ACK and KEEPALIVE raise the limit and do nothing else. -/
theorem arrives.credited {d : Dev} {t : PktType} {k : Packet} {x : Session} (h : arrives d t k x) (hd : (t == .data) = false) :
    ∃ y ∈ (d.onPacket k t (fun _ d => d)).reportMode.net.sessions, y.sid = x.sid ∧ k.creditLimit.toNat ≤ y.hostLimit := by
  have hx : x ∈ (d.countSearch .session (d.gale.find .session (sessionWord k.addr k.uport)).isSome).net.sessions :=
    Dev.sessionFor_mem h.2.2.1
  rw [h.taken _ (fun ht => by rw [hd] at ht; cases ht), Dev.accept_eq]
  obtain ⟨z, hz, hsid, hl⟩ := Dev.recorded_limit hx k (t == .data)
  obtain ⟨y, hy, hyz⟩ := Dev.reportMode_session _ hz
  have hh : y.hostLimit = z.hostLimit := (congrArg (fun x : Session => x.hostLimit) hyz :)
  refine ⟨y, ?_, (Session.steady_sid hyz).trans hsid, hh ▸ hl⟩
  split <;> exact hy

/-! ### A first segment -/

/-- The one segment of a capsule is what has been received of it. -/
theorem newCap_bytes (x : Session) (g : Segment) (h : Hdr) : (newCap x g h).bytes = g.bytes := by
  unfold Cap.bytes newCap
  simp only [List.length_singleton]
  unfold joinSegs
  simp only [List.find?_cons, beq_self_eq_true]
  split
  · next hb => exact (List.isEmpty_iff.mp hb).symm
  · simp [joinSegs]

theorem newCap_of_upper {x y : Session} (h : y.upper = x.upper) (g : Segment) (hd : Hdr) : newCap y g hd = newCap x g hd := by
  have hs : y.sid = x.sid := congrArg Prod.fst h
  have ht : y.tenant = x.tenant := congrArg (fun u => u.2.1) h
  unfold newCap
  rw [hs, ht]

/-- A capsule not yet whole that passes checks 8 to 10 is kept with its header checked. -/
theorem Dev.capChecks_header (d : Dev) {c : Cap} (hb : c.awaitBorrow = false) (hs : c.stage = .receiving) (hd : c.awaitDir = false)
    (hk : 96 + c.hdr.keyLen.toNat ≤ c.bytes.length) (hl : c.bytes.length < c.len) (hc : headerCrc c c.bytes = c.hdr.hdrCrc)
    (ht : twinOk c.hdr.nsWord c.hdr.nsTwin = true) (hf : fieldsOk c.hdr = true) :
    d.capChecks c = d.modCap c (fun x => { x with hdrChecked := true }) := by
  unfold Dev.capChecks
  dsimp only
  rw [if_neg (by simp [hb, hs, hd, hk]), if_neg (by simp [hc]), if_neg (by simp [ht]), if_neg (by simp [hf]),
    if_neg (by simp [hl.ne])]

/-- A new capsule stands at the end of the queue. -/
def Dev.opened (d : Dev) (c : Cap) : Dev := { d with que := { d.que with caps := d.que.caps ++ [c] } }

theorem Dev.opened_checked (d : Dev) (c : Cap) :
    { c with hdrChecked := true } ∈ (((d.opened c).addCharge c false).modCap c (fun x => { x with hdrChecked := true })).que.caps :=
  Dev.mem_modCap (d := (d.opened c).addCharge c false) (List.mem_append_right _ (List.mem_singleton_self c)) _

/-- A first segment passes checks 1 to 6 of its capsule, and the capsule fits the session's reserve (R47, R50, R77). -/
structure Passes (d : Dev) (s : Session) (g : Segment) (c : Cap) : Prop where
  magic : c.hdr.magic = 0x4657
  version : c.hdr.version = 1
  hdrLen : c.hdr.hdrLen = 12
  keyTwin : twinOk c.hdr.keyLen c.hdr.keyLenTwin = true
  valueTwin : twinOk c.hdr.valueLen c.hdr.valueLenTwin = true
  opTwin : twinOk c.hdr.opcode c.hdr.opcodeTwin = true
  lengths : ∃ r, opRow c.hdr.opcode = some r ∧ lengthsOk r c.hdr = true
  segment : firstSegOk s.segSize c.len g = true
  tag : d.capByTag s.sid c.tag = none
  free : d.placing s.sid c.tag = false
  notAbort : c.hdr.opcode ≠ Op.abort
  fits : d.net.reserveFits s.sid c.len = true

/-- Checks 1 to 6 passed, the capsule is charged to the reserve, kept and looked at. -/
theorem Passes.checked {d : Dev} {s : Session} {g : Segment} {c : Cap} (h : Passes d s g c) (hs : c.sid = s.sid) :
    d.firstChecks s g c = ((d.opened c).addCharge c false).capChecks c := by
  obtain ⟨r, hr, hl⟩ := h.lengths
  unfold Dev.firstChecks
  rw [if_neg (by simp [h.opTwin]), hr]
  dsimp only
  rw [if_neg (by simp [hl]), if_neg (by simp [h.segment]), if_neg (by rw [hs, h.tag, h.free, beq_false_of_ne h.notAbort]; simp)]
  unfold Dev.chargeCap
  dsimp only
  rw [if_pos (by rw [hs]; exact h.fits)]
  rfl

/-- A session from which the segments held for a capsule have been taken. -/
def Session.dropEarly (from_ len : Nat) (x : Session) : Session :=
  { x with early := x.early.filter (fun e => !(decide (from_ ≤ e.offset) && decide (e.offset < from_ + len))) }

theorem Passes.dropEarly {d : Dev} {s : Session} {g : Segment} {c : Cap} (h : Passes d s g c) (a n : Nat) :
    Passes (d.modSession s.sid (Session.dropEarly a n)) s g c :=
  { h with free := d.modSession_placing s.sid (f := Session.dropEarly a n) (fun _ => rfl) (fun _ _ q hq hf => ⟨q, hq, hf, rfl⟩) h.free }

/-- Such a segment opens its capsule, after what was held for it has been taken from its session. -/
theorem Passes.opens {d : Dev} {s : Session} {g : Segment} {c : Cap} (h : Passes d s g c) (hc : c = newCap s g (Hdr.parse g.bytes))
    (he : s.early = []) :
    d.firstSegment s g = (((d.modSession s.sid (Session.dropEarly g.offset c.hdr.len)).opened c).addCharge c false).capChecks c := by
  have hh : Hdr.parse g.bytes = c.hdr := by rw [hc]; rfl
  unfold Dev.firstSegment
  rw [hh] at hc ⊢
  dsimp only
  rw [if_neg (by simp [h.magic, h.version, h.hdrLen]), if_neg (by rw [h.keyTwin, h.valueTwin]; decide), he, ← hc]
  have hs : c.sid = s.sid := by rw [hc]; rfl
  exact (h.dropEarly g.offset c.hdr.len).checked hs

/-- What the assembly asks of a first segment stays asked while its packet is recorded. -/
theorem Passes.carried {d e : Dev} {x y : Session} {g : Segment} {c : Cap} (h : Passes d x g c) (hd : Carried d e) (hy : y.upper = x.upper) :
    Passes e y g c := by
  have hs : y.sid = x.sid := Session.upper_sid hy
  have hz : y.segSize = x.segSize := congrArg (fun u => u.2.2.1) hy
  have hq : e.que = d.que := core_que hd.core
  refine { h with segment := hz ▸ h.segment, tag := ?_, free := ?_, fits := ?_ }
  · rw [hs]
    unfold Dev.capByTag
    rw [hq]
    exact h.tag
  · rw [hs]
    exact hd.placing _ _ h.free
  · have hf := h.fits
    rw [hs]
    unfold Net.reserveFits Net.chargeSum at *
    rwa [hd.charges]

/-- A first segment of several opens its capsule: it stands with its header checked. -/
theorem Passes.assembled {d : Dev} {s : Session} {g : Segment} {c : Cap} (h : Passes d s g c) (hc : c = newCap s g (Hdr.parse g.bytes))
    (he : s.early = []) (hat : d.capAt s.sid g.offset = none) (href : s.refusedAt g.offset = none) (hpast : s.past g.offset = false)
    (hfirst : g.first = true) (hk : 96 + c.hdr.keyLen.toNat ≤ g.bytes.length) (hl : g.bytes.length < c.len)
    (hcrc : headerCrc c g.bytes = c.hdr.hdrCrc) (hns : twinOk c.hdr.nsWord c.hdr.nsTwin = true) (hf : fieldsOk c.hdr = true) :
    { c with hdrChecked := true } ∈ (d.assemble s g).que.caps := by
  have hb : c.bytes = g.bytes := by rw [hc, newCap_bytes]
  have heq : d.assemble s g = d.firstSegment s g := by
    unfold Dev.assemble
    simp [hat, href, hpast, hfirst]
  rw [heq, h.opens hc he, Dev.capChecks_header _ (by rw [hc]; rfl) (by rw [hc]; rfl) (by rw [hc]; rfl) (hb ▸ hk) (hb ▸ hl) (hb.symm ▸ hcrc) hns hf]
  exact Dev.opened_checked ..

/-- Settles O3: a packet that arrives is recorded, which keeps all that its own effect goes by. -/
theorem sessionPacketsTakeEffect : Obligations.SessionPacketsTakeEffect := by
  refine ⟨?data, fun s k x h => ⟨_, rfl, h.credited rfl⟩, fun s k x h => ⟨_, rfl, h.credited rfl⟩, fun s k x h => ⟨_, rfl, ?close⟩⟩
  case close =>
    refine (Dev.reportMode_touch _).sid_gone ?_
    unfold closeEff
    rw [h.taken _ (fun ht => by cases ht), Dev.accept_eq]
    generalize hd1 : s.dev.countSearch .session (s.dev.gale.find .session (sessionWord k.addr k.uport)).isSome = d1
    have hx : x ∈ d1.net.sessions := by
      rw [← hd1]
      exact Dev.sessionFor_mem h.2.2.1
    obtain ⟨y, hy⟩ := (d1.recorded_carried x k false).session?_isSome hx
    rw [show (PktType.close == .data) = false from rfl, hy]
    exact Dev.session?_sid hy ▸ Dev.endSession_gone _ y.sid 1 true
  case data =>
    intro s k x c r h hcl hat href hpast hfirst he hsq hfree huniq hc hk hl hmag hver hlen htk htv hto htn hop hlo hseg htag hna hfit hcrc hf
    generalize hd1 : s.dev.countSearch .session (s.dev.gale.find .session (sessionWord k.addr k.uport)).isSome = d1
    have hcar : Carried s.dev (d1.recorded x k true) := hd1 ▸ (Dev.countSearch_carried ..).trans (Dev.recorded_carried ..)
    obtain ⟨y, hy⟩ := hcar.session?_isSome (Dev.sessionFor_mem h.2.2.1)
    obtain ⟨z, hz, hyz⟩ := hcar.session? _ hy
    rw [huniq z hz ((Session.upper_sid hyz).symm.trans (Dev.session?_sid hy))] at hyz
    have hp : Passes s.dev x ⟨k.streamOffset.toNat, k.payload, k.first, k.last⟩ c :=
      ⟨hmag, hver, hlen, htk, htv, hto, ⟨r, hop, hlo⟩, hseg, htag, hfree, hna, hfit⟩
    have heq : dataEff k s.dev = (d1.recorded x k true).assemble y ⟨k.streamOffset.toNat, k.payload, k.first, k.last⟩ := by
      unfold dataEff
      rw [h.taken _ (fun _ => ⟨hcl, hsq⟩), Dev.accept_eq, show (PktType.data == .data) = true from rfl, hd1, hy]
    obtain ⟨hsid, _, _, hrefused, hpos, hended, hearly⟩ : y.sid = x.sid ∧ y.tenant = x.tenant ∧ y.segSize = x.segSize ∧
        y.refused = x.refused ∧ y.seqPos = x.seqPos ∧ y.ended = x.ended ∧ y.early = x.early := by
      simpa [Session.upper] using hyz
    refine ⟨_, State.run_of_eq heq, { c with hdrChecked := true }, ⟨?_, rfl, rfl⟩, rfl, rfl, rfl, hc ▸ rfl⟩
    rw [Dev.reportMode_que]
    refine (hp.carried hcar hyz).assembled (by rw [newCap_of_upper hyz]; exact hc) (hearly.trans he) ?_ ?_ ?_ hfirst hk hl hcrc htn hf
    · unfold Dev.capAt at *
      rw [core_que hcar.core, hsid]
      exact hat
    · unfold Session.refusedAt at *
      rw [hrefused]
      exact href
    · unfold Session.past at *
      rw [hpos, hended]
      exact hpast

end Sys2Proof.Machine
end

section
/-! What frames, packets and the ends of sessions leave unchanged. -/

namespace Sys2Proof.Machine

/-- The parts that a packet may change. -/
@[simp] abbrev packetParts : List DevPart := [.par, .net, .sids, .caps, .borrows, .que, .med, .gale, .pow, .fresh]

/-- A packet has changed its own parts at most, and of the medium the reads in flight. -/
structure Packed (d e : Dev) : Prop where
  touch : Touch packetParts d e
  med : e.med = { d.med with reads := e.med.reads, waiting := e.med.waiting }

theorem Packed.of {S : List DevPart} {d e : Dev} (h : Touch S d e)
    (hs : autoParam (S ⊆ packetParts ∧ .med ∉ S) List.nodup_range'._auto_1) : Packed d e where
  touch := h.mono hs.1
  med := by rw [h.med hs.2]

theorem Packed.refl (d : Dev) : Packed d d := .of (.refl [] d)

theorem Sent.packed {d e : Dev} (h : Sent d e) : Packed d e := .of (h.touch [])

theorem Packed.trans {d e f : Dev} (h : Packed d e) (g : Packed e f) : Packed d f where
  touch := h.touch.trans g.touch
  med := by rw [g.med, h.med]

theorem Packed.next {S : List DevPart} {d e f : Dev} (h : Packed d e) (g : Touch S e f)
    (hs : autoParam (S ⊆ packetParts ∧ .med ∉ S) List.nodup_range'._auto_1) : Packed d f := h.trans (.of g hs)

theorem Packed.sent {d e f : Dev} (h : Packed d e) (g : Sent e f) : Packed d f := h.trans g.packed

theorem Packed.ite {d e f : Dev} {p : Prop} [Decidable p] (h : p → Packed d e) (g : ¬ p → Packed d f) : Packed d (if p then e else f) := by
  split
  · exact h ‹_›
  · exact g ‹_›

theorem Packed.foldl {α : Type} {f : Dev → α → Dev} (h : ∀ d a, Packed d (f d a)) (l : List α) (d : Dev) : Packed d (l.foldl f d) := by
  induction l generalizing d with
  | nil => exact .refl d
  | cons a l ih => exact (h d a).trans (ih _)

/-! ### Ends of sessions -/

theorem Dev.removeSession_packed (d : Dev) (s : Session) : Packed d (d.removeSession s) := by
  refine ⟨(d.removeSession_touch s).of, ?_⟩
  unfold Dev.removeSession
  dsimp only
  rw [Dev.squashEnded_med, (d.passDeferred_touch s).med (by simp)]

theorem Dev.endSession_packed (d : Dev) (sid : BitVec 32) (cause : Nat) (state : Bool) : Packed d (d.endSession sid cause state) := by
  unfold Dev.endSession
  split
  · exact .refl d
  · next s _ =>
    split
    · extract_lets d1 d2 src d3
      have h1 : Packed d d1 := by
        simp only [d1]
        split
        · exact (d.sendPacket_sent ..).packed
        · exact .refl d
      have h2 : Packed d d2 := h1.trans (d1.removeSession_packed s)
      have h3 : Packed d d3 := .ite (fun _ => h2) (fun _ => h2.next (.setNet (.refl [.net] d2) _))
      exact (h3.sent (d3.raise_sent ..)).sent (Dev.recomputePools_sent _)
    · exact d.removeSession_packed s

/-! ### Assembly -/

theorem Dev.chargeCap_touch (d : Dev) (s : Session) (c : Cap) : Touch [.net, .que, .caps, .borrows] d (d.chargeCap s c) := by
  unfold Dev.chargeCap
  extract_lets put wait
  have hput (e : Dev) (x : Cap) : Touch [.que, .caps] e (put e x) := by
    constructor <;> simp [put]
  have hwait (e : Dev) : Touch [.net, .que, .caps, .borrows] e (wait e) :=
    .next (by constructor <;> simp) (hput _ _)
  clear_value put wait
  refine .ite (fun _ => ?_) (fun _ => .ite (fun _ => ?_) (fun _ => .ite (fun _ => hwait d) (fun _ => ?_)))
  · exact .next (.next (hput d c).of (Dev.addCharge_touch ..)) (Dev.capChecks_touch ..)
  · exact .next (.bump (.refl _ d) ..) (Dev.refuseAt_touch ..)
  · have h := d.pace_touch c.tenant (extensionOps c.hdr s.segSize)
    split
    · next d1 he =>
      rw [he] at h
      exact .next (.sent (.next (.next h.of (hput d1 c)) (Dev.addCharge_touch ..)) (Dev.sendAck_sent ..)) (Dev.capChecks_touch ..)
    · next d1 he =>
      rw [he] at h
      exact .next h.of (hwait d1)

theorem Dev.firstChecks_touch (d : Dev) (s : Session) (seg : Segment) (c : Cap) :
    Touch [.net, .que, .caps, .borrows] d (d.firstChecks s seg c) := by
  unfold Dev.firstChecks
  refine .ite (fun _ => ?_) (fun _ => ?_)
  · exact .next (.sent (.refl _ d) (d.twinEvent_sent ..)) (Dev.refuseAt_touch ..)
  · split
    · exact (d.refuseAt_touch ..).of
    · exact .ite (fun _ => (d.refuseAt_touch ..).of) (fun _ => .ite (fun _ => (d.segRefuse_touch ..).of)
        (fun _ => .ite (fun _ => (d.refuseAt_touch ..).of) (fun _ => d.chargeCap_touch s c)))

theorem Dev.firstSegment_packed (d : Dev) (s : Session) (seg : Segment) : Packed d (d.firstSegment s seg) := by
  unfold Dev.firstSegment
  extract_lets h stop mine d1
  have h1 : Packed d d1 := .next (.of (d.modSession_touch ..)) (Dev.firstChecks_touch ..)
  refine .ite (fun _ => ?_) (fun _ => .ite (fun _ => ?_) (fun _ => h1.trans (Packed.foldl (fun d e => ?_) _ _)))
  · exact (d.segFault_sent s).packed.trans (Dev.endSession_packed ..)
  · exact ((d.segFault_sent s).trans (Dev.twinEvent_sent ..)).packed.trans (Dev.endSession_packed ..)
  · split
    · exact .of (d.laterSegment_touch ..)
    · split
      · exact (d.refusedSegment_sent ..).packed
      · exact .refl d
    · exact .refl d

theorem Dev.assemble_packed (d : Dev) (s : Session) (seg : Segment) : Packed d (d.assemble s seg) := by
  unfold Dev.assemble
  split
  · exact .of (d.laterSegment_touch ..)
  · split
    · exact (d.refusedSegment_sent ..).packed
    · exact .ite (fun _ => .refl d) (fun _ => .ite (fun _ => d.firstSegment_packed s seg) (fun _ => .of (d.modSession_touch ..)))

/-! ### Packets -/

theorem Dev.missSession_sent (d : Dev) (p : Port) (a : Addr) (u : BitVec 16) (sid : BitVec 32) : Sent d (d.missSession p a u sid) := by
  unfold Dev.missSession
  extract_lets d1
  have h1 : Sent d d1 := d.bump_sent ..
  split
  · have h := d1.holdOff_sent (rateKey 0x10014 sid.toNat)
    split
    · next d2 he =>
      rw [he] at h
      exact (h1.trans h).trans (d2.bare_sent ..)
    · next d2 he =>
      rw [he] at h
      exact h1.trans h
  · exact h1

theorem Dev.aeadFail_sent (d : Dev) (p : Port) (sid : BitVec 32) : Sent d (d.aeadFail p sid) :=
  (d.bump_sent ..).trans (Dev.raiseHeld_sent ..)

theorem Dev.recorded_touch (d : Dev) (s : Session) (k : Packet) (isData : Bool) : Touch [.net] d (d.recorded s k isData) := by
  have hack (e : Dev) : Touch [.net] e (e.ackFor s k isData) := by
    unfold Dev.ackFor
    exact .ite (fun _ => .sent (e.modSession_touch ..) (Dev.sendAck_sent ..)) (fun _ => e.modSession_touch ..)
  refine .sent (.trans (.trans (.bump (.bump (d.modSession_touch _ _ fun x => ?_) ..) ..) (hack _)) (Dev.modSession_touch _ _ _ fun x => ?_))
    (Dev.takeAck_sent _ s k).1
  · exact Session.upper_sid (((x.phase _ _).record_keeps _).1.trans (x.phase_keeps _ _).1)
  · exact Session.upper_sid (Dev.acked_keeps ..).1

theorem Dev.overrun_packed (d : Dev) (s : Session) : Packed d (d.overrun s) := by
  unfold Dev.overrun
  extract_lets l d1 d2
  have h2 : Packed d d2 := .of ((Touch.trans (.bump (.refl _ d) ..) (Dev.modSession_touch ..)).raise ..)
  exact .ite (fun _ => h2.trans (Dev.endSession_packed ..)) (fun _ => h2)

theorem Dev.takePacket_packed (d : Dev) (k : Packet) (typ : PktType) {f : Session → Dev → Dev} (hf : ∀ x d, Packed d (f x d)) :
    Packed d (d.takePacket k typ f) := by
  unfold Dev.takePacket
  extract_lets isData o d1
  have h1 : Packed d d1 := (d.countSearch_sent ..).packed
  clear_value o d1
  refine h1.trans ?_
  split
  · exact (d1.missSession_sent ..).packed
  · next s =>
    refine .ite (fun _ => (d1.bump_sent ..).packed) (fun _ => .ite (fun _ => (d1.aeadFail_sent ..).packed) (fun _ => .ite (fun _ => .refl d1)
      (fun _ => .ite (fun _ => ((d1.bump_sent ..).trans (Dev.sendAck_sent ..)).packed) (fun _ => .ite (fun _ => d1.overrun_packed s)
        (fun _ => .ite (fun _ => .refl d1) (fun _ => ?_))))))
    rw [Dev.accept_eq]
    have h2 : Packed d1 (d1.recorded s k isData) := .of (d1.recorded_touch s k isData)
    split
    · exact h2.trans (hf _ _)
    · exact h2

theorem Dev.onPacket_packed (d : Dev) (k : Packet) (typ : PktType) {f : Session → Dev → Dev} (hf : ∀ x d, Packed d (f x d)) :
    Packed d (d.onPacket k typ f) := by
  unfold Dev.onPacket
  refine .ite (fun _ => .ite (fun _ => .ite (fun _ => .of (d.wakeLight_touch 1)) (fun _ => ?_)) (fun _ => ?_)) (fun _ => .refl d)
  · extract_lets src d1
    have h1 : Packed d d1 := .next (.of (.setNet (.refl [.net] d) _)) (Dev.wakeLight_touch _ 1)
    exact (h1.next (.setNet (.refl [.net] d1) _)).trans (Dev.takePacket_packed _ k typ hf)
  · exact .trans (.of (d.wakeLight_touch 1)) (Dev.takePacket_packed _ k typ hf)

theorem Dev.onFrame_packed (d : Dev) (p : Port) {f : Dev → Dev} (hf : ∀ d, Packed d (f d)) : Packed d (d.onFrame p f) :=
  .ite (fun _ => .trans (.of (d.wakeLight_touch 1)) (hf _)) (fun _ => .refl d)

/-! ### Handshake -/

theorem Dev.reject_sent (d : Dev) (k : InitPacket) (reason : Nat) : Sent d (d.reject k reason) := by
  unfold Dev.reject
  have h := d.window_sent (rateKey 0x10005 k.port.val) 1000
  split
  · next d1 he =>
    rw [he] at h
    exact h.trans (d1.bare_sent ..)
  · next d1 he =>
    rw [he] at h
    exact h

theorem Dev.openHalf_touch (d : Dev) (k : InitPacket) : Touch [.net, .sids, .gale, .fresh] d (d.openHalf k) := by
  unfold Dev.openHalf
  dsimp only [Dev.draw]
  exact .sent (by constructor <;> simp) (Dev.bare_sent ..)

theorem Dev.authFailed_touch (d : Dev) (k : AuthPacket) (st : BitVec 16) : Touch [.net] d (d.authFailed k st) := by
  unfold Dev.authFailed
  extract_lets d1 l d2
  have h1 : Touch [.net] d d1 := .raise (.refl _ d) ..
  exact .ite (fun _ => .ite (fun _ => (h1.setNet _).setNet _) (fun _ => h1.setNet _)) (fun _ => h1)

theorem Dev.establish_touch (d : Dev) (s : Session) (k : AuthPacket) : Touch [.net] d (d.establish s k) :=
  .sent (.raise (.sent (d.modSession_touch ..) (Dev.sendPacket_sent ..)) ..) (Dev.recomputePools_sent _)

theorem initEff_packed (k : InitPacket) (d : Dev) : Packed d (initEff k d) := by
  refine d.onFrame_packed _ fun d => ?_
  extract_lets hit d1
  have h1 : Sent d d1 := d.countSearch_sent ..
  refine .ite (fun _ => (d.bump_sent ..).packed) (fun _ => .ite (fun _ => ((d.bump_sent ..).trans (Dev.reject_sent ..)).packed)
    (fun _ => h1.packed.trans (.ite (fun _ => (d1.bump_sent ..).packed) (fun _ => ?_))))
  split
  · exact ((d1.raise_sent ..).trans (Dev.reject_sent ..)).packed
  · exact (d1.reject_sent ..).packed
  · exact .of (.setNet (.refl [.net] d1) _)

theorem initDoneEff_packed (b : Bool) (d : Dev) : Packed d (initDoneEff b d) := by
  unfold initDoneEff
  split
  · exact .refl d
  · extract_lets src d1
    have h1 : Packed d d1 := .of (.setNet (.refl [.net] d) _)
    exact .ite (fun _ => h1.sent (d1.reject_sent ..)) (fun _ => .ite (fun _ => h1.sent (d1.bump_sent ..)) (fun _ => h1.next (d1.openHalf_touch _)))

theorem authEff_packed (k : AuthPacket) (d : Dev) : Packed d (authEff k d) := by
  refine d.onFrame_packed _ fun d => ?_
  extract_lets o d1
  have h1 : Packed d d1 := (d.countSearch_sent ..).packed
  clear_value o d1
  refine h1.trans ?_
  split
  · exact (d1.missSession_sent ..).packed
  · next s =>
    extract_lets st d2 d3
    have h3 : Packed d1 d3 := .of (.sent (d1.modSession_touch ..) (Dev.sendPacket_sent ..))
    exact .ite (fun _ => (d1.bump_sent ..).packed) (fun _ => .ite (fun _ => (d1.aeadFail_sent ..).packed) (fun _ =>
      .ite (fun _ => ((d1.bump_sent ..).trans (Dev.sendAck_sent ..)).packed) (fun _ => .ite (fun _ => (d1.bump_sent ..).packed) (fun _ =>
        .ite (fun _ => .of (d1.establish_touch s k)) (fun _ => (h3.trans (d3.removeSession_packed s)).next (Dev.authFailed_touch ..))))))

/-! ### Other frames -/

theorem arpEff_packed (p : Port) (t x : BitVec 32) (d : Dev) : Packed d (arpEff p t x d) :=
  .ite (fun _ => .sent (.ite (fun _ => .refl d) (fun _ => .of (d.wakeLight_touch 1))) (Dev.emitOut_sent ..)) (fun _ => .refl d)

theorem ndEff_packed (p : Port) (t : Addr) (b : Bool) (d : Dev) : Packed d (ndEff p t b d) :=
  .ite (fun _ => .ite (fun _ => .sent (.ite (fun _ => .refl d) (fun _ => .of (d.wakeLight_touch 1))) (Dev.emitOut_sent ..)) (fun _ => .refl d))
    (fun _ => d.onFrame_packed p .refl)

theorem Dev.echo_sent (d : Dev) (p : EchoPort) (subject limit : Nat) (src : Addr) (payload : Bytes) :
    Sent d (d.echo p subject limit src payload) := by
  unfold Dev.echo
  have h := d.window_sent (rateKey 0x10001 subject) limit
  split
  · next d1 he =>
    rw [he] at h
    exact h.trans (d1.emitOut_sent ..)
  · next d1 he =>
    rw [he] at h
    exact h

theorem echoEff_packed (p : EchoPort) (src : Addr) (b : Bytes) (d : Dev) : Packed d (echoEff p src b d) := by
  cases p with
  | data q => exact d.onFrame_packed q fun d => (d.echo_sent ..).packed
  | mgmt => exact .ite (fun _ => (d.echo_sent ..).packed) (fun _ => .refl d)

theorem frameDropEff_packed (f : FramePort) (d : Dev) : Packed d (frameDropEff f d) := by
  cases f with
  | data p x =>
    unfold frameDropEff
    dsimp only
    split
    · exact .ite (fun _ => .sent (.ite (fun _ => .of (d.wakeLight_touch 1)) (fun _ => .refl d)) (Dev.bump_sent ..)) (fun _ => .refl d)
    · exact .refl d
  | peer => exact .ite (fun _ => (d.bump_sent ..).packed) (fun _ => .refl d)

/-! ### Timers -/

theorem halfOpenTimeoutEff_packed (sid : BitVec 32) (d : Dev) : Packed d (halfOpenTimeoutEff sid d) := by
  unfold halfOpenTimeoutEff
  split
  · exact .ite (fun _ => .refl d) (fun _ => d.removeSession_packed _)
  · exact .refl d

theorem idleTimeoutEff_packed (sid : BitVec 32) (d : Dev) : Packed d (idleTimeoutEff sid d) := by
  unfold idleTimeoutEff
  split
  · exact .ite (fun _ => d.endSession_packed ..) (fun _ => .refl d)
  · exact .refl d

theorem replyStallEff_packed (sid : BitVec 32) (d : Dev) : Packed d (replyStallEff sid d) := by
  unfold replyStallEff
  split
  · exact .ite (fun _ => (d.raise_sent ..).packed.trans (Dev.endSession_packed ..)) (fun _ => .refl d)
  · exact .refl d

theorem dataEff_packed (k : Packet) (d : Dev) : Packed d (dataEff k d) := d.onPacket_packed k _ fun _ d => d.assemble_packed ..

theorem ackEff_packed (k : Packet) (d : Dev) : Packed d (ackEff k d) := d.onPacket_packed k _ fun _ d => .refl d

theorem keepaliveEff_packed (k : Packet) (d : Dev) : Packed d (keepaliveEff k d) := d.onPacket_packed k _ fun _ d => .refl d

theorem closeEff_packed (k : Packet) (d : Dev) : Packed d (closeEff k d) := d.onPacket_packed k _ fun _ d => d.endSession_packed ..

theorem Packed.run {s t : State} {f : Dev → Dev} (hf : ∀ d, Packed d (f d)) (h : s.run f = .next t) :
    sameButReads s.dev t.dev ∧ t.dev.mem = s.dev.mem ∧ t.dev.mir = s.dev.mir ∧ t.dev.upd = s.dev.upd := by
  cases h
  obtain ⟨ht, hm⟩ := (hf s.dev).next (Dev.reportMode_touch _)
  exact ⟨⟨⟨ht.ns (by simp), ht.idx (by simp), rfl, ht.bays (by simp), ht.pol (by simp), ht.sec (by simp), ht.ring (by simp)⟩, hm⟩,
    ht.mem (by simp), ht.mir (by simp), ht.upd (by simp)⟩

/-- Settles O49: every packet and frame is a chain of sending, of changes to sessions and capsules, and of ends of sessions, which alone
reach the medium, and only its reads. -/
theorem transportLeavesStoredDataAlone : Obligations.TransportLeavesStoredDataAlone := by
  intro i s t hi h
  cases i with
  | arpRequest p a b => exact Packed.run (arpEff_packed p a b) h
  | neighbourDiscovery p a b => exact Packed.run (ndEff_packed p a b) h
  | icmpEchoRequest p a b => exact Packed.run (echoEff_packed p a b) h
  | otherFrameDrop f => exact Packed.run (frameDropEff_packed f) h
  | init k => exact Packed.run (initEff_packed k) h
  | initSignatureDone b => exact Packed.run (initDoneEff_packed b) h
  | auth k => exact Packed.run (authEff_packed k) h
  | data k => exact Packed.run (dataEff_packed k) h
  | ack k => exact Packed.run (ackEff_packed k) h
  | keepalive k => exact Packed.run (keepaliveEff_packed k) h
  | close k => exact Packed.run (closeEff_packed k) h
  | halfOpenTimeout sid => exact Packed.run (halfOpenTimeoutEff_packed sid) h
  | idleTimeout sid => exact Packed.run (idleTimeoutEff_packed sid) h
  | replyStallTimeout sid => exact Packed.run (replyStallEff_packed sid) h
  | _ => exact absurd hi Bool.false_ne_true

end Sys2Proof.Machine
end

section
/-! What management, the sideband, the tool and the session timers leave unchanged. -/

namespace Sys2Proof.Machine

/-- The parts that management may change. -/
@[simp] abbrev manageParts : List DevPart := [.clk, .ev, .par, .conf, .course, .links, .net, .mgmt]

/-! ### Timers of the sessions and of the links -/

theorem pfcFrameEff_touch (p : Port) (b : BitVec 8) (q : Vector (BitVec 16) 8) (d : Dev) : Touch manageParts d (pfcFrameEff p b q d) :=
  .ite (fun _ => .next (.setNet (.refl _ d) _) (Dev.releaseHeld_touch _)) (fun _ => .refl _ d)

theorem pfcRenewEff_touch (p : Port) (l : Bool) (n : Nat) (d : Dev) : Touch manageParts d (pfcRenewEff p l n d) := by
  unfold pfcRenewEff
  extract_lets en
  split
  · split
    · exact .ite (fun _ => .emitOut (.setNet (.refl _ d) _) _) (fun _ => .refl _ d)
    · next e _ =>
      exact .ite (fun _ => .emitOut (.refl _ d) _) (fun _ =>
        .trans (.emitOut (.setNet (.refl _ d) _) _) (Touch.foldl (fun d i => .raise (.refl _ d) ..) _ _))
  · exact .refl _ d

theorem delayedAckEff_touch (sid : BitVec 32) (d : Dev) : Touch manageParts d (delayedAckEff sid d) := by
  unfold delayedAckEff
  split
  · exact .ite (fun _ => (d.sendAck_sent sid).touch _) (fun _ => .refl _ d)
  · exact .refl _ d

theorem keyPhaseEff_touch (sid : BitVec 32) (d : Dev) : Touch manageParts d (keyPhaseEff sid d) :=
  (d.modSession_touch sid _ fun x => by split <;> rfl).of

theorem moduleInsertEff_touch (l : Link) (n : Nat) (d : Dev) : Touch manageParts d (moduleInsertEff l n d) :=
  .ite (fun _ => .refl _ d) (fun _ => .ite (fun _ => .raise (d.modLink_touch ..).of ..) (fun _ => (d.modLink_touch ..).of))

/-! ### Redfish -/

theorem Dev.http_sent (d : Dev) (c n : Nat) (b : Bytes) : Sent d (d.http c n b) := d.emitOut_sent _

theorem Dev.request_touch (d : Dev) (c : Nat) (pub : Bool) {S : List DevPart} {f : HttpConn → Dev → Dev} (hf : ∀ k d, Touch S d (f k d)) :
    Touch S d (d.request c pub f) := by
  unfold Dev.request
  split
  · exact .refl _ d
  · exact .ite (fun _ => .refl _ d) (fun _ => .ite (fun _ => hf _ d) (fun _ => (d.http_sent ..).touch _))

theorem Dev.getResource_touch (d : Dev) (c : Nat) (pub : Bool) (n : Nat) (f : Dev → List Nat) : Touch manageParts d (d.getResource c pub n f) :=
  d.request_touch c pub fun _ d => (d.http_sent ..).touch _

theorem Dev.getRecords_touch (d : Dev) (c n a b : Nat) (l : Dev → List Rec) : Touch manageParts d (d.getRecords c n a b l) :=
  d.request_touch c true fun _ d => .ite (fun _ => (d.http_sent ..).touch _) (fun _ => (d.http_sent ..).touch _)

theorem Dev.retiredOnly_touch (d : Dev) (c n : Nat) (f : Dev → List Nat) : Touch manageParts d (d.retiredOnly c n f) :=
  d.request_touch c true fun _ d => .ite (fun _ => (d.http_sent ..).touch _) (fun _ => (d.http_sent ..).touch _)

theorem chassisPatchEff_touch (c : Nat) (b : Bool) (d : Dev) : Touch manageParts d (chassisPatchEff c b d) :=
  d.request_touch c false fun _ d => .sent (.setMgmt (.refl _ d) _) (Dev.http_sent ..)

theorem sensorGetEff_touch (c n : Nat) (d : Dev) : Touch manageParts d (sensorGetEff c n d) :=
  d.request_touch c false fun _ d => .ite (fun _ => (d.http_sent ..).touch _) (fun _ => (d.http_sent ..).touch _)

theorem managerPatchEff_touch (c n : Nat) (d : Dev) : Touch manageParts d (managerPatchEff c n d) := by
  refine d.request_touch c false fun _ d => ?_
  have h := d.hostTime_touch n
  split
  · next d1 he =>
    rw [he] at h
    exact .sent h.of (Dev.http_sent ..)
  · next d1 he =>
    rw [he] at h
    exact .sent h.of (Dev.http_sent ..)

theorem Dev.patchAddresses_touch (d : Dev) (l : List (Nat × Bytes)) : Touch [.par, .conf] d (d.patchAddresses l) :=
  .trans (.trans (.setPar (.refl _ d) _) (Dev.writeSettings_touch _)) (Touch.foldl (fun d e => .raise (.raise (.refl _ d) ..) ..) _ _)

theorem ethernetPatchEff_touch (c : Nat) (l : List (Nat × Bytes)) (d : Dev) : Touch manageParts d (ethernetPatchEff c l d) :=
  d.request_touch c false fun _ d => .ite (fun _ => .sent (d.patchAddresses_touch l).of (Dev.http_sent ..)) (fun _ => (d.http_sent ..).touch _)

theorem eventSseEff_touch (c n : Nat) (o : Option Nat) (d : Dev) : Touch manageParts d (eventSseEff c n o d) :=
  d.request_touch c false fun _ d => .sent (.setMgmt (.refl _ d) _) (Dev.http_sent ..)

theorem redfishOtherEff_touch (c : Nat) (r : BadRequest) (d : Dev) : Touch manageParts d (redfishOtherEff c r d) :=
  d.request_touch c false fun _ d => (d.http_sent ..).touch _

theorem httpsConnectEff_touch (k : CertChain) (d : Dev) : Touch manageParts d (httpsConnectEff k d) :=
  .ite (fun _ => .refl _ d) (fun _ => .ite (fun _ => .raise (.refl _ d) ..) (fun _ => .ite (fun _ => .raise (.refl _ d) ..)
    (fun _ => .setMgmt (.refl _ d) _)))

theorem Dev.mgmtUp_touch (d : Dev) (n : Nat) : Touch manageParts d (d.mgmtUp n) := by
  unfold Dev.mgmtUp
  extract_lets applies d1 src d2 d3
  have h1 : Touch manageParts d d1 := (d.applyCommitted_touch _).of
  have h3 : Touch manageParts d d3 := (h1.setMgmt _).raise ..
  exact .ite (fun _ => h3.emitOut _) (fun _ => h3)

theorem mgmtLinkEff_touch (b : Bool) (n : Nat) (d : Dev) : Touch manageParts d (mgmtLinkEff b n d) :=
  .ite (fun _ => .refl _ d) (fun _ => .ite (fun _ => d.mgmtUp_touch n) (fun _ => .ite (fun _ => .raise (.setMgmt (.refl _ d) _) ..)
    (fun _ => .refl _ d)))

/-! ### Sideband and tool -/

theorem Dev.mctp_sent (d : Dev) (c n : Nat) (b : Bytes) : Sent d (d.mctp c n b) := d.emitOut_sent _
theorem Dev.pldm_sent (d : Dev) (a c n : Nat) (b : Bytes) : Sent d (d.pldm a c n b) := d.emitOut_sent _
theorem Dev.spdm_sent (d : Dev) (c : Nat) (b : Bytes) : Sent d (d.spdm c b) := d.emitOut_sent _
theorem Dev.spdmAnswer_sent (d : Dev) (n c : Nat) (b : Bytes) : Sent d ((d.spdmEvent n).spdm c b) := (d.raise_sent ..).trans (Dev.spdm_sent ..)
theorem Dev.print_sent (d : Dev) (l : List Nat) : Sent d (d.print l) := d.emitOut_sent _

theorem Dev.sideband_touch (d : Dev) {S : List DevPart} {f : Dev → Dev} (hf : ∀ d, Touch S d (f d)) : Touch S d (d.sideband f) :=
  .ite (fun _ => hf d) (fun _ => .refl _ d)

theorem Dev.sidebandFull_touch (d : Dev) {S : List DevPart} {f : Dev → Dev} (hf : ∀ d, Touch S d (f d)) : Touch S d (d.sidebandFull f) :=
  .ite (fun _ => hf d) (fun _ => .refl _ d)

theorem Dev.tool_touch (d : Dev) {S : List DevPart} {f : Dev → Dev} (hf : ∀ d, Touch S d (f d)) : Touch S d (d.tool f) :=
  .ite (fun _ => hf d) (fun _ => .refl _ d)

theorem setEndpointIdEff_touch (b : BitVec 8) (d : Dev) : Touch manageParts d (setEndpointIdEff b d) :=
  d.sideband_touch fun d => .setMgmt (.next (.sent (.raise (.setMgmt (.refl manageParts d) _) ..) (Dev.mctp_sent ..)) (Dev.applyCommitted_touch ..)) _

theorem getMctpVersionEff_touch (b : BitVec 8) (d : Dev) : Touch manageParts d (getMctpVersionEff b d) :=
  d.sideband_touch fun d => .ite (fun _ => (d.mctp_sent ..).touch _) (fun _ => (d.mctp_sent ..).touch _)

theorem getPldmVersionEff_touch (b : BitVec 8) (d : Dev) : Touch manageParts d (getPldmVersionEff b d) :=
  d.sidebandFull_touch fun d => .ite (fun _ => (d.pldm_sent ..).touch _) (fun _ => (d.pldm_sent ..).touch _)

theorem getPldmCommandsEff_touch (b : BitVec 8) (d : Dev) : Touch manageParts d (getPldmCommandsEff b d) :=
  d.sidebandFull_touch fun d => by split <;> exact (d.pldm_sent ..).touch _

theorem getPdrEff_touch (n : Nat) (d : Dev) : Touch manageParts d (getPdrEff n d) :=
  d.sidebandFull_touch fun d => by split <;> exact (d.pldm_sent ..).touch _

theorem getSensorReadingEff_touch (n : Nat) (d : Dev) : Touch manageParts d (getSensorReadingEff n d) :=
  d.sidebandFull_touch fun d => .ite (fun _ => (d.pldm_sent ..).touch _) (fun _ => (d.pldm_sent ..).touch _)

theorem getStateSensorEff_touch (n : Nat) (d : Dev) : Touch manageParts d (getStateSensorEff n d) :=
  d.sidebandFull_touch fun d => .ite (fun _ => (d.pldm_sent ..).touch _) (fun _ => (d.pldm_sent ..).touch _)

theorem effecterLocateEff_touch (b : Bool) (d : Dev) : Touch manageParts d (effecterLocateEff b d) :=
  d.sidebandFull_touch fun d => .sent (.setMgmt (.refl _ d) _) (Dev.pldm_sent ..)

theorem setEventReceiverEff_touch (n : Nat) (d : Dev) : Touch manageParts d (setEventReceiverEff n d) :=
  d.sidebandFull_touch fun d => .sent (.setMgmt (.refl _ d) _) (Dev.pldm_sent ..)

theorem platformAcceptEff_touch (d : Dev) : Touch manageParts d (platformAcceptEff d) := by
  refine d.sidebandFull_touch fun d => ?_
  extract_lets q src d1
  have h1 : Touch manageParts d d1 := .setMgmt (.refl _ d) _
  clear_value q d1
  split
  · exact h1
  · exact h1.emitOut _

theorem getCertificateEff_touch (a b : Nat) (d : Dev) : Touch manageParts d (getCertificateEff a b d) :=
  d.sidebandFull_touch fun d => .ite (fun _ => (d.spdm_sent ..).touch _) (fun _ => (d.spdmAnswer_sent ..).touch _)

theorem virradNsShowEff_touch (n : BitVec 12) (d : Dev) : Touch manageParts d (virradNsShowEff n d) :=
  d.tool_touch fun d => by split <;> exact (d.print_sent _).touch _

theorem virradTimeSetEff_touch (n : Nat) (d : Dev) : Touch manageParts d (virradTimeSetEff n d) := by
  refine d.tool_touch fun d => ?_
  have h := d.hostTime_touch n
  split
  · next d1 he =>
    rw [he] at h
    exact .sent h.of (Dev.print_sent ..)
  · next d1 he =>
    rw [he] at h
    exact .sent h.of (Dev.print_sent ..)

/-- A print of the tool. -/
theorem Dev.toolPrint_touch (d : Dev) (f : Dev → List Nat) : Touch manageParts d (d.tool fun d => d.print (f d)) :=
  d.tool_touch fun d => (d.print_sent _).touch _

/-! ### Vane's own timers -/

theorem selftestDoneEff_touch (n : Nat) (d : Dev) : Touch manageParts d (selftestDoneEff n d) := by
  unfold selftestDoneEff Dev.selfTestEnd
  split
  · exact .refl _ d
  · exact .raise (.setCourse (.refl _ d) _) ..

theorem ptpTimeoutEff_touch (d : Dev) : Touch manageParts d (ptpTimeoutEff d) :=
  .ite (fun _ => .refl _ d) (fun _ => .ite (fun _ => .next (.setClk (.refl _ d) _) (Dev.setSource_touch ..)) (fun _ => .setClk (.refl _ d) _))

theorem persistedTimeEff_touch (d : Dev) : Touch manageParts d (persistedTimeEff d) := by
  unfold persistedTimeEff
  split
  · exact .refl _ d
  · split
    · exact .ite (fun _ => d.persistTime_touch.of) (fun _ => .refl _ d)
    · exact d.persistTime_touch.of

/-! ### Barograph and links -/

theorem Dev.baroFlush_touch (d : Dev) (trigger : Nat) : Touch [.ev, .med, .bays] d (d.baroFlush trigger) := by
  unfold Dev.baroFlush
  extract_lets bays src d0 new
  have h0 : Touch [.ev, .med, .bays] d d0 := .ite (fun _ => .refl _ d) (fun _ => .raise (.setEv (.refl _ d) _) ..)
  clear_value d0 new
  refine .ite (fun _ => .refl _ d) (fun _ => ?_)
  split
  · exact h0
  · exact .raise (.next (h0.setEv _) (Dev.writeReserved_touch ..)) ..

theorem baroFlushEff_touch (d : Dev) : Touch [.ev, .med, .bays] d (baroFlushEff d) :=
  .ite (fun _ => .refl _ d) (fun _ => .ite (fun _ => d.baroFlush_touch _) (fun _ => .ite (fun _ => d.baroFlush_touch _) (fun _ => .refl _ d)))

theorem baroFlushAgeEff_touch (d : Dev) : Touch [.ev, .med, .bays] d (baroFlushAgeEff d) :=
  .ite (fun _ => d.baroFlush_touch _) (fun _ => .refl _ d)

/-- A link but the pair's that comes up changes nothing beyond the link. -/
theorem linkUpEff_data_touch (l : Link) (us pmd : Nat) (hl : l ≠ 2) (d : Dev) : Touch manageParts d (linkUpEff l us pmd d) := by
  unfold linkUpEff
  extract_lets d0 mode d1
  have h0 : Touch manageParts d d0 := by
    simp only [d0]
    split
    · exact (d.applyCommitted_touch _).of
    · exact .refl _ d
  have h1 : Touch manageParts d d1 := .raise (h0.next (Dev.modLink_touch ..)) ..
  rw [if_neg hl]
  exact .ite (fun _ => h1) (fun _ => .refl _ d)

theorem linkUpEff_touch (l : Link) (us pmd : Nat) (d : Dev) : Touch (.mir :: .fresh :: manageParts) d (linkUpEff l us pmd d) := by
  unfold linkUpEff
  extract_lets d0 mode d1
  have h0 : Touch manageParts d d0 := by
    simp only [d0]
    split
    · exact (d.applyCommitted_touch _).of
    · exact .refl _ d
  have h1 : Touch (.mir :: .fresh :: manageParts) d d1 := .raise (h0.next (Dev.modLink_touch ..)).of ..
  exact .ite (fun _ => .ite (fun _ => h1.next d1.sendHello_touch) (fun _ => h1)) (fun _ => .refl _ d)

/-! ### The frame -/

/-- What a run changes, the mode reported among it. -/
theorem Touch.run {S : List DevPart} {s t : State} {f : Dev → Dev} (h : s.run f = .next t) (hf : ∀ d, Touch S d (f d)) :
    Touch (.par :: S) s.dev t.dev := by
  cases h
  exact .trans ((hf s.dev).mono (List.subset_cons_self ..)) ((Dev.reportMode_touch _).mono (by simp))

theorem Touch.sameStore {S : List DevPart} {d e : Dev} (h : Touch S d e)
    (hs : autoParam (.ns ∉ S ∧ .idx ∉ S ∧ .med ∉ S ∧ .bays ∉ S ∧ .pol ∉ S ∧ .sec ∉ S ∧ .ring ∉ S) List.nodup_range'._auto_1) : sameStore d e :=
  ⟨h.ns hs.1, h.idx hs.2.1, h.med hs.2.2.1, h.bays hs.2.2.2.1, h.pol hs.2.2.2.2.1, h.sec hs.2.2.2.2.2.1, h.ring hs.2.2.2.2.2.2⟩

/-- Every command of management changes the parts of management at most. -/
theorem exec_management_touch {i : Instr} {s t : State} (hi : isManagement i = true) (h : exec i s = .next t) :
    Touch manageParts s.dev t.dev := by
  refine Touch.of (S := .par :: manageParts) ?_
  cases i with
  | pfcFrame p b q => exact Touch.run h (pfcFrameEff_touch p b q)
  | pfcPauseRenew p l n => exact Touch.run h (pfcRenewEff_touch p l n)
  | delayedAckTimeout sid => exact Touch.run h (delayedAckEff_touch sid)
  | keyPhaseUpdate sid => exact Touch.run h (keyPhaseEff_touch sid)
  | authHoldoffExpiry a => exact Touch.run h fun d => .setNet (.refl _ d) _
  | tombstoneExpiry sid => exact Touch.run h fun d => .setNet (.refl _ d) _
  | moduleInsert l n => exact Touch.run h (moduleInsertEff_touch l n)
  | selftestDone n => exact Touch.run h (selftestDoneEff_touch n)
  | floorBreachRepeat => exact Touch.run h fun d => .ite (fun _ => d.breachEvent_sent.touch _) (fun _ => .refl _ d)
  | ptpAnnounceTimeout => exact Touch.run h ptpTimeoutEff_touch
  | persistedTimeWrite => exact Touch.run h persistedTimeEff_touch
  | httpsConnect k => exact Touch.run h (httpsConnectEff_touch k)
  | mgmtLinkChange b n => exact Touch.run h (mgmtLinkEff_touch b n)
  | redfishServiceRootGet c => exact Touch.run h fun d => d.getResource_touch ..
  | chassisGet c => exact Touch.run h fun d => d.getResource_touch ..
  | chassisPatch c b => exact Touch.run h (chassisPatchEff_touch c b)
  | sensorGet c n => exact Touch.run h (sensorGetEff_touch c n)
  | thermalSubsystemGet c => exact Touch.run h fun d => d.getResource_touch ..
  | powerSubsystemGet c => exact Touch.run h fun d => d.getResource_touch ..
  | countersGet c => exact Touch.run h fun d => d.getResource_touch ..
  | driveBayGet c b => exact Touch.run h fun d => d.getResource_touch ..
  | managerGet c => exact Touch.run h fun d => d.getResource_touch ..
  | managerPatchDatetime c n => exact Touch.run h (managerPatchEff_touch c n)
  | ethernetInterfaceGet c => exact Touch.run h fun d => d.getResource_touch ..
  | ethernetInterfacePatch c l => exact Touch.run h (ethernetPatchEff_touch c l)
  | barographEntriesGet c a b => exact Touch.run h fun d => d.getRecords_touch ..
  | vaneRingEntriesGet c a b => exact Touch.run h fun d => d.getRecords_touch ..
  | retirementEntriesGet c => exact Touch.run h fun d => d.retiredOnly_touch ..
  | updateStatusEntriesGet c => exact Touch.run h fun d => d.retiredOnly_touch ..
  | eventServiceSse c n o => exact Touch.run h (eventSseEff_touch c n o)
  | updateServiceGet c => exact Touch.run h fun d => d.getResource_touch ..
  | redfishOtherRequest c r => exact Touch.run h (redfishOtherEff_touch c r)
  | setEndpointId b => exact Touch.run h (setEndpointIdEff_touch b)
  | getEndpointId => exact Touch.run h fun d => d.sideband_touch fun d => (d.mctp_sent ..).touch _
  | getMctpVersionSupport b => exact Touch.run h (getMctpVersionEff_touch b)
  | getMessageTypeSupport => exact Touch.run h fun d => d.sideband_touch fun d => (d.mctp_sent ..).touch _
  | getTid => exact Touch.run h fun d => d.sidebandFull_touch fun d => (d.pldm_sent ..).touch _
  | getPldmVersion b => exact Touch.run h (getPldmVersionEff_touch b)
  | getPldmTypes => exact Touch.run h fun d => d.sidebandFull_touch fun d => (d.pldm_sent ..).touch _
  | getPldmCommands b => exact Touch.run h (getPldmCommandsEff_touch b)
  | getPdrRepositoryInfo => exact Touch.run h fun d => d.sidebandFull_touch fun d => (d.pldm_sent ..).touch _
  | getPdr n => exact Touch.run h (getPdrEff_touch n)
  | getSensorReading n => exact Touch.run h (getSensorReadingEff_touch n)
  | getStateSensorReadings n => exact Touch.run h (getStateSensorEff_touch n)
  | effecterLocate b => exact Touch.run h (effecterLocateEff_touch b)
  | setEventReceiver n => exact Touch.run h (setEventReceiverEff_touch n)
  | platformEventAccept => exact Touch.run h platformAcceptEff_touch
  | locateExpiry => exact Touch.run (f := fun d => { d with mgmt := { d.mgmt with locateTimed := false } }) h fun d => .setMgmt (.refl _ d) _
  | getVersion => exact Touch.run h fun d => d.sidebandFull_touch fun d => (d.spdmAnswer_sent ..).touch _
  | getCapabilities => exact Touch.run h fun d => d.sidebandFull_touch fun d => (d.spdmAnswer_sent ..).touch _
  | negotiateAlgorithms => exact Touch.run h fun d => d.sidebandFull_touch fun d => (d.spdmAnswer_sent ..).touch _
  | getDigests => exact Touch.run h fun d => d.sidebandFull_touch fun d => (d.spdmAnswer_sent ..).touch _
  | getCertificate a b => exact Touch.run h (getCertificateEff_touch a b)
  | virradNsShow n => exact Touch.run h (virradNsShowEff_touch n)
  | virradTimeSet n => exact Touch.run h (virradTimeSetEff_touch n)
  | virradPortStats p => exact Touch.run h fun d => d.toolPrint_touch _
  | virradSessionStats sid => exact Touch.run h fun d => d.toolPrint_touch _
  | virradIndexStats => exact Touch.run h fun d => d.toolPrint_touch _
  | virradForecastStats => exact Touch.run h fun d => d.toolPrint_touch _
  | pldmUnsupportedCommand a b => exact Touch.run h fun d => d.sidebandFull_touch fun d => (d.pldm_sent ..).touch _
  | spdmUnsupportedRequest b => exact Touch.run h fun d => d.sidebandFull_touch fun d => (d.spdm_sent ..).touch _
  | _ => exact absurd hi Bool.false_ne_true

/-- A flush of the Barograph changes events and the medium that takes them. -/
theorem exec_flush_touch {i : Instr} {s t : State} (hi : isFlush i = true) (h : exec i s = .next t) :
    Touch [.par, .ev, .med, .bays] s.dev t.dev := by
  cases i with
  | baroFlush => exact Touch.run h baroFlushEff_touch
  | baroFlushAge => exact Touch.run h baroFlushAgeEff_touch
  | _ => exact absurd hi Bool.false_ne_true

/-- Settles O47: each of the commands changes the parts of management at most, a flush events and the medium that takes them, and a link
that comes up beyond these the pair, where the link is the pair's. -/
theorem managementLeavesTheDriveAlone : Obligations.ManagementLeavesTheDriveAlone := by
  refine ⟨fun i s t hi h => ?management, fun i s t hi h => ?flush, fun l us pmd s t h => ?link⟩
  case management =>
    have ht := exec_management_touch hi h
    exact ⟨ht.sameStore, ht.que (by simp), ht.gale (by simp), ht.mem (by simp), ht.mir (by simp), ht.pow (by simp), ht.upd (by simp),
      ht.fresh (by simp)⟩
  case flush =>
    have ht := exec_flush_touch hi h
    exact ⟨⟨ht.ns (by simp), ht.idx (by simp), rfl, rfl, ht.pol (by simp), ht.sec (by simp), ht.ring (by simp)⟩, ht.que (by simp),
      ht.gale (by simp), ht.mem (by simp), ht.mir (by simp), ht.pow (by simp), ht.upd (by simp), ht.fresh (by simp)⟩
  case link =>
    have ht := Touch.run h (linkUpEff_touch l us pmd)
    refine ⟨ht.sameStore, ht.que (by simp), ht.gale (by simp), ht.mem (by simp), ht.pow (by simp), ht.upd (by simp), fun hl => ?_⟩
    have hd := Touch.run h (linkUpEff_data_touch l us pmd hl)
    exact ⟨hd.mir (by simp), hd.fresh (by simp)⟩

end Sys2Proof.Machine
end

section
/-! What admin opcodes, writer dispatch, the power ops, `DIAG` and the steps of an update leave unchanged. -/

namespace Sys2Proof.Machine

/-! ### Replies and admission -/

/-- A reply to an admin opcode, to a host or to the partner. -/
theorem Dev.adminReply_parts (d : Dev) (c : Cap) (r : Reply) : Touch [.que, .net, .mir] d (d.adminReply c r) := d.finishFree_touch c r

theorem Dev.fail_touch (d : Dev) (c : Cap) (st : BitVec 16) : Touch [.que, .net, .mir] d (d.fail c st) := d.adminReply_parts ..

theorem Dev.okWith_touch (d : Dev) (c : Cap) (b : Bytes) : Touch [.que, .net, .mir] d (d.okWith c b) := d.adminReply_parts ..

theorem Dev.admin_touch (d : Dev) (seq : Nat) (op : BitVec 16) (mine : Cap → Bool) {f : Cap → Dev → Dev} {S : List DevPart}
    (h : ∀ c e, Touch S e (f c e)) (hs : autoParam (.que ∈ S) List.nodup_range'._auto_1) : Touch S d (d.admin seq op mine f) := by
  unfold Dev.admin
  split
  · exact .refl _ d
  · exact .ite (fun _ => d.dispatch_touch seq _ h hs) (fun _ => .refl _ d)

theorem Dev.adminWait_touch (d : Dev) (seq : Nat) (op : BitVec 16) (mine : Cap → Bool) {f : Cap → Dev → Dev} {S : List DevPart}
    (h : ∀ c e, Touch S e (f c e)) (hs : autoParam (.que ∈ S) List.nodup_range'._auto_1) : Touch S d (d.adminWait seq op mine f) := by
  unfold Dev.adminWait
  split
  · exact .refl _ d
  · exact .ite (fun _ => .refl _ d) (fun _ => .ite (fun _ => h _ d) (fun _ => d.dispatch_touch seq _ h hs))

theorem Dev.check_touch (d : Dev) (c : Cap) (st : Option (BitVec 16)) {f : Dev → Dev} {S : List DevPart} (h : Touch S d (f d))
    (hs : autoParam ([.que, .net, .mir] ⊆ S) List.nodup_range'._auto_1) : Touch S d (d.check c st f) := by
  cases st with
  | none => exact h
  | some x => exact (d.fail_touch c x).mono hs

/-! ### Queries -/

/-- The parts that an admin query may change. -/
@[simp] abbrev queryParts : List DevPart := [.ev, .net, .que, .mir, .term, .asks, .states]

theorem flushEff_touch (seq : Nat) (d : Dev) : Touch queryParts d (flushEff seq d) := by
  refine d.dispatch_touch seq _ fun c d => ?_
  split
  · exact (d.finishFree_touch ..).of
  · exact .ite (fun _ => (d.finishFree_touch ..).of) (fun _ => .setQue (.refl _ d) _)

theorem flushCompleteEff_touch (seq : Nat) (d : Dev) : Touch queryParts d (flushCompleteEff seq d) := by
  unfold flushCompleteEff
  split
  · exact .ite (fun _ => .refl _ d) (fun _ => .next (.bump (.setQue (.refl _ d) _) ..) (Dev.finishFree_touch ..))
  · exact .refl _ d

theorem abortReplyReleaseEff_touch (sid tag : BitVec 32) (d : Dev) : Touch queryParts d (abortReplyReleaseEff sid tag d) := by
  unfold abortReplyReleaseEff
  split
  · exact .refl _ d
  · exact (d.abortReply_touch ..).of

theorem getParamGo_touch (c : Cap) (d : Dev) : Touch queryParts d (getParamGo c d) := by
  unfold getParamGo
  extract_lets b n
  split
  · exact (d.fail_touch ..).of
  · split
    · exact (d.fail_touch ..).of
    · split
      · exact (d.fail_touch ..).of
      · exact (d.okWith_touch ..).of

theorem Dev.readDeferred_touch (d : Dev) (c : Cap) (l : List Nat) : Touch [.net, .que] d (d.readDeferred c l) :=
  .setQue (d.modSession_touch ..).of _

theorem Dev.readLogStep_touch (d : Dev) (c : Cap) : Touch queryParts d (d.readLogStep c) := by
  unfold Dev.readLogStep
  extract_lets b log max left n now grows end_ last skipped next d1 next2 src
  split
  · have h1 : Touch queryParts d d1 := (d.okWith_touch ..).of
    exact .ite (fun _ => h1.next (d1.readDeferred_touch ..)) (fun _ => h1)
  · exact .next (.sent (.refl _ d) (d.placeBytes_sent ..)) (Dev.modCap_touch ..)

theorem readLogGo_touch (c : Cap) (d : Dev) : Touch queryParts d (readLogGo c d) :=
  .ite (fun _ => d.readLogStep_touch c) (fun _ => d.check_touch c _ (.trans (d.modCap_touch ..).of (Dev.readLogStep_touch ..)))

theorem Dev.subsReply_touch (d : Dev) (c : Cap) : Touch queryParts d (d.subsReply c) := (d.okWith_touch ..).of

theorem Dev.subscribeOp_touch (d : Dev) (c : Cap) : Touch queryParts d (d.subscribeOp c) := by
  have hset (l : List Subscription) : Touch queryParts d ((d.setSubs c l).subsReply c) :=
    .trans (d.modSession_touch ..).of (Dev.subsReply_touch ..)
  have hfail (st : BitVec 16) : Touch queryParts d (d.fail c st) := (d.fail_touch ..).of
  unfold Dev.subscribeOp
  extract_lets b x l
  split
  · exact .ite (fun _ => hfail _) (fun _ => hset _)
  · exact .ite (fun _ => hset _) (fun _ => hfail _)
  · exact d.subsReply_touch c
  · exact .ite (fun _ => hfail _) (fun _ => .ite (fun _ => hfail _) (fun _ => .trans (.setEv (.refl _ d) _) (Dev.subsReply_touch ..)))

theorem subscribeGo_touch (c : Cap) (d : Dev) : Touch queryParts d (subscribeGo c d) :=
  .ite (fun _ => (d.fail_touch ..).of) (fun _ => .ite (fun _ => (d.fail_touch ..).of) (fun _ => d.subscribeOp_touch c))

theorem Dev.mirrorOk_touch (d : Dev) (c : Cap) : Touch [.que, .net, .mir] d (d.mirrorOk c) := d.okWith_touch ..

theorem Dev.mirrorOp_touch (d : Dev) (c : Cap) {f : Dev → Dev} {S : List DevPart} (h : Touch S d (f d))
    (hs : autoParam ([.que, .net, .mir] ⊆ S) List.nodup_range'._auto_1) : Touch S d (d.mirrorOp c f) := d.check_touch c _ h hs

theorem unpairGo_touch (c : Cap) (d : Dev) : Touch queryParts d (unpairGo c d) := by
  refine d.mirrorOp_touch c (.ite (fun _ => (d.fail_touch ..).of) (fun _ => ?_))
  exact .next (.setMir (.ite (fun _ => (d.cwSend_touch ..).of) (fun _ => .refl _ d)) _) (Dev.mirrorOk_touch ..)

theorem pairGo_touch (c : Cap) (d : Dev) : Touch (.fresh :: queryParts) d (pairGo c d) :=
  d.mirrorOp_touch c (.ite (fun _ => (d.fail_touch ..).of) (fun _ =>
    .next (.next (.setMir (.refl _ d) _) (Dev.sendHello_touch _)) (Dev.mirrorOk_touch ..)))

theorem witnessKeyGo_touch (c : Cap) (d : Dev) : Touch queryParts d (witnessKeyGo c d) :=
  d.mirrorOp_touch c (.next (.setMir (.refl _ d) _) (Dev.mirrorOk_touch ..))

theorem mirrorStatusGo_touch (c : Cap) (d : Dev) : Touch queryParts d (mirrorStatusGo c d) := d.mirrorOp_touch c (d.mirrorOk_touch c).of

theorem Dev.leadOp_touch (d : Dev) (c : Cap) {S : List DevPart} {f : MirrorNs → Dev} (h : ∀ m, Touch S d (f m))
    (hs : autoParam ([.que, .net, .mir] ⊆ S) List.nodup_range'._auto_1) : Touch S d (d.leadOp c f) := by
  unfold Dev.leadOp
  split
  · exact (d.fail_touch ..).mono hs
  · exact .ite (fun _ => h _) (fun _ => (d.fail_touch ..).mono hs)

theorem setModeGo_touch (c : Cap) (d : Dev) : Touch queryParts d (setModeGo c d) := by
  refine d.mirrorOp_touch c (d.leadOp_touch c fun m => .ite (fun _ => ?_) (fun _ => (d.fail_touch ..).of))
  have h1 (e : Dev) (h : Touch queryParts d e) (f : MirrorNs → MirrorNs) : Touch queryParts d ((e.modMirror m.ns f).mirrorOk c) :=
    .next (h.next (Dev.modMirror_touch ..)) (Dev.mirrorOk_touch ..)
  exact h1 _ (.ite (fun _ => (d.cwSendRole_touch ..).of) (fun _ => .refl _ d)) _

theorem handoverTimeoutEff_touch (d : Dev) : Touch queryParts d (handoverTimeoutEff d) := by
  unfold handoverTimeoutEff
  split
  · exact .refl _ d
  · split
    · exact .refl _ d
    · exact .next (.raise (.refl _ d) ..) (Dev.handoverEnd_touch ..)

theorem pairEff_touch (seq : Nat) (d : Dev) : Touch (.fresh :: queryParts) d (pairEff seq d) := d.admin_touch seq _ _ pairGo_touch

/-- An admin query but `PAIR`. -/
theorem exec_query_touch {i : Instr} {s t : State} (hi : isAdminQuery i = true) (hp : ∀ seq, i ≠ .pair seq) (h : exec i s = .next t) :
    Touch (.par :: queryParts) s.dev t.dev := by
  cases i with
  | flush seq => exact Touch.run h (flushEff_touch seq)
  | flushComplete seq => exact Touch.run h (flushCompleteEff_touch seq)
  | abortReplyRelease sid tag => exact Touch.run h (abortReplyReleaseEff_touch sid tag)
  | identify seq => exact Touch.run h fun d => d.admin_touch seq _ _ fun c d => (d.okWith_touch ..).of
  | getParam seq => exact Touch.run h fun d => d.admin_touch seq _ _ getParamGo_touch
  | readLog seq => exact Touch.run h fun d => d.adminWait_touch seq _ _ readLogGo_touch
  | subscribe seq => exact Touch.run h fun d => d.admin_touch seq _ _ subscribeGo_touch
  | unsubscribe seq => exact Touch.run h fun d => d.admin_touch seq _ _ subscribeGo_touch
  | eventList seq => exact Touch.run h fun d => d.admin_touch seq _ _ subscribeGo_touch
  | setLevel seq => exact Touch.run h fun d => d.admin_touch seq _ _ subscribeGo_touch
  | pair seq => exact absurd rfl (hp seq)
  | unpair seq => exact Touch.run h fun d => d.admin_touch seq _ _ unpairGo_touch
  | setMode seq => exact Touch.run h fun d => d.admin_touch seq _ _ setModeGo_touch
  | handoverWitnessTimeout => exact Touch.run h handoverTimeoutEff_touch
  | mirrorStatus seq => exact Touch.run h fun d => d.admin_touch seq _ _ mirrorStatusGo_touch
  | witnessKey seq => exact Touch.run h fun d => d.admin_touch seq _ _ witnessKeyGo_touch
  | _ => exact absurd hi Bool.false_ne_true

theorem exec_adminQuery_touch {i : Instr} {s t : State} (hi : isAdminQuery i = true) (h : exec i s = .next t) :
    Touch (.par :: .fresh :: queryParts) s.dev t.dev := by
  by_cases hp : ∀ seq, i ≠ .pair seq
  · exact (exec_query_touch hi hp h).of
  · obtain ⟨seq, rfl⟩ := not_forall_not.mp hp
    exact Touch.run h (pairEff_touch seq)

/-! ### Writers -/

theorem Dev.dispatchWriter_touch (d : Dev) (seq : Nat) (ok : Hdr → Bool) : Touch [.net, .que] d (d.dispatch seq ok Dev.writerGo) :=
  d.dispatch_touch seq ok fun _ d => (d.countSearch_sent ..).touch _

/-- The dispatch of a writer, and what a capsule waits for. -/
theorem exec_writerTurn_touch {i : Instr} {s t : State} (hi : isWriterTurn i = true) (h : exec i s = .next t) :
    Touch [.par, .net, .que] s.dev t.dev := by
  cases i with
  | creditBorrowGrant c => exact Touch.run (f := fun d => d.grantBorrow c) h fun d => d.grantBorrow_touch c
  | borrowWaitTimeout sid tag => exact Touch.run (f := fun d => d.expireBorrow sid tag) h fun d => d.expireBorrow_touch sid tag
  | directoryEntryGrant sid tag => exact Touch.run (f := fun d => d.grantEntry sid tag) h fun d => d.grantEntry_touch sid tag
  | put seq => exact Touch.run h fun d => d.dispatchWriter_touch seq _
  | delete seq => exact Touch.run h fun d => d.dispatchWriter_touch seq _
  | secureDelete seq => exact Touch.run h fun d => d.dispatchWriter_touch seq _
  | casPut seq => exact Touch.run h fun d => d.dispatchWriter_touch seq _
  | patch seq => exact Touch.run h fun d => d.dispatchWriter_touch seq _
  | mpCommit seq => exact Touch.run h fun d => d.dispatchWriter_touch seq _
  | _ => exact absurd hi Bool.false_ne_true

/-! ### Power -/

/-- The parts that a power op may change. -/
@[simp] abbrev powerParts : List DevPart := [.par, .conf, .net, .que, .gale, .mir, .pow, .fresh]

theorem Dev.powerReply_touch (d : Dev) (c : Cap) : Touch powerParts d (d.powerReply c) := (d.okWith_touch ..).of

theorem Dev.startCapTest_touch (d : Dev) : Touch [.pow] d d.startCapTest := .setPow (.refl _ d) _

theorem Dev.capTestOp_touch (d : Dev) (c : Cap) : Touch powerParts d (d.capTestOp c) :=
  .ite (fun _ => .setPow (.refl _ d) _) (fun _ => .ite (fun _ => .setPow d.startCapTest_touch.of _) (fun _ => (d.fail_touch ..).of))

theorem Dev.powerOp_touch (d : Dev) (c : Cap) : Touch powerParts d (d.powerOp c) := by
  have hset (p : Power) : Touch powerParts d (({ d with pow := p } : Dev).powerReply c) := .trans (.setPow (.refl _ d) _) (Dev.powerReply_touch ..)
  unfold Dev.powerOp
  extract_lets b
  split
  · exact hset _
  · exact hset _
  · exact hset _
  · exact d.capTestOp_touch c
  · exact hset _
  · exact d.powerReply_touch c

theorem powerCtlGo_touch (c : Cap) (d : Dev) : Touch powerParts d (powerCtlGo c d) := d.check_touch c _ (d.powerOp_touch c)

theorem Dev.refreshBank_touch (d : Dev) (n : Nat) : Touch [.pow, .que] d (d.refreshBank n) :=
  .ite (fun _ => .refl _ d) (fun _ => .next (.raise (.setPow (.refl _ d) _) ..) (Dev.refreshEarly_touch _))

theorem Dev.answer_touch (d : Dev) (o : Option Nat) (r : Reply) : Touch [.que, .net, .mir] d (d.answer o r) := by
  unfold Dev.answer
  split
  · exact .refl _ d
  · split
    · exact d.finishFree_touch ..
    · exact .refl _ d

theorem capTestDoneEff_touch (m : CapMeasure) (d : Dev) : Touch powerParts d (capTestDoneEff m d) := by
  unfold capTestDoneEff
  extract_lets b b1 b2 src d1 d2
  have h2 : Touch powerParts d d2 := .next (.raise (.setPow (.refl _ d) _) ..) (Dev.refreshBank_touch ..)
  exact .ite (fun _ => .refl _ d) (fun _ => h2.trans (Touch.foldl (fun d s => (d.answer_touch ..).of) _ _))

theorem Dev.floorShorts_touch (d : Dev) : Touch [.fresh] d d.floorShorts := by
  refine Touch.foldl (fun d t => .ite (fun _ => .refl _ d) (fun _ => ?_)) _ _
  dsimp only
  exact .ite (fun _ => .raise (.draw (.refl _ d)) ..) (fun _ => .draw (.refl _ d))

theorem Dev.applyStep_touch (d : Dev) : Touch [.net, .gale, .par, .conf, .fresh] d d.applyStep := by
  unfold Dev.applyStep
  extract_lets new old src src2 d1 d2
  have h1 : Touch [.net, .gale, .par, .conf, .fresh] d d1 := by constructor <;> simp [d1, src]
  have h2 : Touch [.net, .gale, .par, .conf, .fresh] d d2 := .notifyAll (.next (h1.bump ..) (Dev.applyCommitted_touch ..)) ..
  exact .ite (fun _ => .refl _ d) (fun _ => .next (h2.raise ..) (Dev.floorShorts_touch _))

theorem Dev.capBound_sent (d : Dev) (n : Nat) : Sent d (d.capBound n) := by
  unfold Dev.capBound
  split
  · exact d.raise_sent ..
  · exact .refl d

theorem Dev.turnKnob_touch (d : Dev) : Touch powerParts d d.turnKnob := by
  unfold Dev.turnKnob
  extract_lets g
  refine .ite (fun _ => ?_) (fun _ => .ite (fun _ => ?_) (fun _ => .ite (fun _ => ?_) (fun _ => .refl _ d)))
  · exact .sent (.setPow (.draw (.refl _ d)) _) (Dev.capBound_sent ..)
  · exact .sent (.next (.setPow (.refl _ d) _) (Dev.applyStep_touch _)) (Dev.capBound_sent ..)
  · exact .sent (.setPow (.draw (.refl _ d)) _) (Dev.capBound_sent ..)

theorem Dev.releaseKnob_touch (d : Dev) : Touch powerParts d d.releaseKnob := by
  unfold Dev.releaseKnob
  split
  · exact .refl _ d
  · exact .setPow (.draw (.refl _ d)) _
  · exact .next (.setPow (.refl _ d) _) (Dev.applyStep_touch _)
  · exact .setPow (.draw (.refl _ d)) _

theorem powerCapEff_touch (n : Nat) (d : Dev) : Touch powerParts d (powerCapEff n d) :=
  .ite (fun _ => .refl _ d) (fun _ => .ite (fun _ => .trans (.setPow (.refl _ d) _) (Dev.turnKnob_touch _)) (fun _ => .setPow (.refl _ d) _))

theorem knobReleaseEff_touch (d : Dev) : Touch powerParts d (knobReleaseEff d) := by
  unfold knobReleaseEff
  split
  · exact .refl _ d
  · exact .ite (fun _ => d.releaseKnob_touch) (fun _ => .refl _ d)

theorem thermalExitEff_touch (n : Nat) (d : Dev) : Touch powerParts d (thermalExitEff n d) := by
  unfold thermalExitEff
  split
  · exact .ite (fun _ => .setPow (.refl _ d) _) (fun _ => .refl _ d)
  · exact .refl _ d

theorem Dev.scheduledCapTest_clear_touch {d : Dev} (h : d.pow.rung = .clear) : Touch powerParts d d.scheduledCapTest := by
  unfold Dev.scheduledCapTest
  rw [Dev.wakeWork_of_clear h]
  exact .ite (fun _ => .refl _ d) (fun _ => .ite (fun _ => d.startCapTest_touch.of) (fun _ => .setPow (.refl _ d) _))

theorem exec_powerOp_touch {i : Instr} {s t : State} (hi : isPowerOp i = true) (h : exec i s = .next t) :
    Touch (.par :: powerParts) s.dev t.dev := by
  cases i with
  | powerCtlStatus seq => exact Touch.run h fun d => d.admin_touch seq _ _ powerCtlGo_touch
  | descend seq => exact Touch.run h fun d => d.admin_touch seq _ _ powerCtlGo_touch
  | powerCtlWake seq => exact Touch.run h fun d => d.admin_touch seq _ _ powerCtlGo_touch
  | hold seq => exact Touch.run h fun d => d.admin_touch seq _ _ powerCtlGo_touch
  | capTest seq => exact Touch.run h fun d => d.admin_touch seq _ _ powerCtlGo_touch
  | setAlarm seq => exact Touch.run h fun d => d.admin_touch seq _ _ powerCtlGo_touch
  | powerCapPeriod n => exact Touch.run h (powerCapEff_touch n)
  | knobReleaseStep => exact Touch.run h knobReleaseEff_touch
  | thermalLevelExit n => exact Touch.run h (thermalExitEff_touch n)
  | capTestDone m => exact Touch.run h (capTestDoneEff_touch m)
  | _ => exact absurd hi Bool.false_ne_true

theorem exec_testDue_clear_touch {i : Instr} {s t : State} (hi : isTestDue i = true) (hr : s.dev.pow.rung = .clear) (h : exec i s = .next t) :
    Touch (.par :: powerParts) s.dev t.dev := by
  have hm (e : Dev) (he : Touch powerParts s.dev e) : Touch (.par :: powerParts) s.dev e.reportMode :=
    .next he.of (Dev.reportMode_touch e)
  cases i with
  | capTestSchedule =>
    cases h
    exact hm _ (Dev.scheduledCapTest_clear_touch hr)
  | capTestRetry =>
    cases h
    exact hm _ (.ite (fun _ => Dev.scheduledCapTest_clear_touch hr) (fun _ => .refl _ _))
  | _ => exact absurd hi Bool.false_ne_true

/-! ### `DIAG` -/

/-- The parts that `DIAG` may change. -/
@[simp] abbrev diagParts : List DevPart := [.net, .que, .gale, .mem, .mir, .fresh]

theorem Dev.diagEnd_touch (d : Dev) (c : Cap) (a b x y : Nat) (p q : Bytes) : Touch [.que, .net, .mir] d (d.diagEnd c a b x y p q) :=
  .trans (.raise (.refl _ d) ..) (Dev.okWith_touch ..)

theorem Dev.lineRead_touch (d : Dev) (c : Cap) : Touch diagParts d (d.lineRead c) := by
  unfold Dev.lineRead
  extract_lets r d1
  have h1 : Touch diagParts d d1 := by
    simp only [d1]
    split
    · exact .next (.bump (.refl _ d) ..) (Dev.recordCe_touch ..)
    · exact .bump (.refl _ d) ..
    · exact .refl _ d
  exact h1.next (d1.diagEnd_touch ..)

theorem Dev.galeRead_touch (d : Dev) (c : Cap) : Touch diagParts d (d.galeRead c) := by
  unfold Dev.galeRead
  extract_lets r
  have h1 : Touch diagParts d r.2 := by
    simp only [r]
    split
    · exact .refl _ d
    · exact .setGale (.draw (.refl _ d)) _
  exact h1.next (Dev.diagEnd_touch ..)

theorem Dev.galeSearchOp_touch (d : Dev) (c : Cap) : Touch diagParts d (d.galeSearchOp c) := by
  unfold Dev.galeSearchOp
  extract_lets t key mask d1 ms bad d2 d3
  have h2 : Touch diagParts d d2 := .sent (.setGale (.refl _ d) _) (Dev.countSearch_sent ..)
  have h3 : Touch diagParts d d3 := .next (.ite (fun _ => h2.bump ..) (fun _ => h2)) (Dev.perrRows_touch ..)
  exact h3.next (d3.diagEnd_touch ..)

theorem diagGo_touch (c : Cap) (d : Dev) : Touch diagParts d (diagGo c d) := by
  refine d.check_touch c _ ?_
  have hset (m : Memory) : Touch diagParts d (({ d with mem := m } : Dev).diagEnd c 0 0xFF c.dChannel 0 [] []) :=
    .next (.setMem (.refl _ d) _) (Dev.diagEnd_touch ..)
  split
  · exact hset _
  · exact hset _
  · exact hset _
  · exact d.lineRead_touch c
  · exact (d.diagEnd_touch ..).of
  · exact d.galeRead_touch c
  · exact d.galeSearchOp_touch c

theorem exec_diagOp_touch {i : Instr} {s t : State} (hi : isDiagOp i = true) (h : exec i s = .next t) : Touch (.par :: diagParts) s.dev t.dev := by
  cases i with
  | flipArm seq => exact Touch.run h fun d => d.admin_touch seq _ _ diagGo_touch
  | flipDisarm seq => exact Touch.run h fun d => d.admin_touch seq _ _ diagGo_touch
  | lineWrite seq => exact Touch.run h fun d => d.admin_touch seq _ _ diagGo_touch
  | lineRead seq => exact Touch.run h fun d => d.admin_touch seq _ _ diagGo_touch
  | rawRead seq => exact Touch.run h fun d => d.admin_touch seq _ _ diagGo_touch
  | galeRead seq => exact Touch.run h fun d => d.admin_touch seq _ _ diagGo_touch
  | galeSearch seq => exact Touch.run h fun d => d.admin_touch seq _ _ diagGo_touch
  | _ => exact absurd hi Bool.false_ne_true

/-! ### Updates -/

/-- The parts that a step of an update may change beside the medium. -/
@[simp] abbrev updateParts : List DevPart := [.par, .net, .que, .mir, .mgmt, .upd, .fresh]

/-- A step of an update changes its own parts, and the medium only where it enters a record in the history. -/
structure UpdStep (d e : Dev) : Prop where
  touch : Touch (.med :: .bays :: updateParts) d e
  kept : Touch updateParts d e ∨ d.upd.nextEntry < e.upd.nextEntry

theorem UpdStep.of {S : List DevPart} {d e : Dev} (h : Touch S d e) (hs : autoParam (S ⊆ updateParts) List.nodup_range'._auto_1) : UpdStep d e :=
  ⟨(h.mono hs).of, .inl (h.mono hs)⟩

/-- A step and what follows it without a word on updates. -/
theorem UpdStep.next {S : List DevPart} {d e f : Dev} (h : UpdStep d e) (g : Touch S e f)
    (hs : autoParam (S ⊆ updateParts ∧ .upd ∉ S) List.nodup_range'._auto_1) : UpdStep d f where
  touch := h.touch.trans (g.mono hs.1).of
  kept := h.kept.imp (fun k => k.trans (g.mono hs.1)) (fun k => g.upd hs.2 ▸ k)

/-- What comes before a step without a record. -/
theorem UpdStep.after {S : List DevPart} {d e f : Dev} (h : Touch S d e) (g : UpdStep e f)
    (hs : autoParam (S ⊆ updateParts ∧ .upd ∉ S) List.nodup_range'._auto_1) : UpdStep d f where
  touch := .trans (h.mono hs.1).of g.touch
  kept := g.kept.imp (fun k => (h.mono hs.1).trans k) (fun k => h.upd hs.2 ▸ k)

theorem UpdStep.ite {d e f : Dev} {p : Prop} [Decidable p] (h : p → UpdStep d e) (g : ¬ p → UpdStep d f) : UpdStep d (if p then e else f) := by
  split
  · exact h ‹_›
  · exact g ‹_›

theorem Dev.endUpdate_upd (d : Dev) (n : Nat) : (d.endUpdate n).upd.nextEntry = d.upd.nextEntry + 1 :=
  congrArg Update.nextEntry ((Dev.keepRecord_touch _ 128).upd (by simp))

theorem Dev.endUpdate_touch (d : Dev) (n : Nat) : Touch [.upd, .med, .bays] d (d.endUpdate n) :=
  .next (.setUpd (.refl _ d) _) (Dev.keepRecord_touch ..)

theorem Dev.dropInstalled_upd (d : Dev) : Touch [.upd] d d.dropInstalled ∧ d.dropInstalled.upd.nextEntry = d.upd.nextEntry := by
  unfold Dev.dropInstalled
  split
  · exact ⟨.setUpd (.refl _ d) _, rfl⟩
  · exact ⟨.refl _ d, rfl⟩

theorem Dev.confirm_step (d : Dev) : UpdStep d d.confirm := by
  unfold Dev.confirm
  split
  · exact .of (.refl [] d)
  · next r _ =>
    refine .ite (fun _ => .of (.refl [] d)) (fun _ => ?_)
    extract_lets floor d1
    have h1 : Touch [.upd] d d1 := .setUpd (.refl _ d) _
    refine UpdStep.next ⟨.next h1.of (d1.endUpdate_touch 1), .inr ?_⟩ (.raise (.refl [] _) ..)
    rw [Dev.endUpdate_upd]
    exact Nat.lt_succ_self _

theorem Dev.updBeginBy_step (d : Dev) (s : UpdSource) (b : Bytes) (x y : Bool) : UpdStep d (d.updBeginBy s b x y).2 := by
  unfold Dev.updBeginBy
  extract_lets refuse
  have hr (st : BitVec 16) : UpdStep d (refuse st).2 := .of (.raise (.refl [] d) ..)
  have hset (u : Update) : UpdStep d { d with upd := u } := .of (.setUpd (.refl [.upd] d) u)
  clear_value refuse
  split
  · exact hr _
  · split
    · split
      · exact .of (.refl [] d)
      · exact hr _
    · split
      · exact .of (d.acceptHeader_touch ..)
      · split
        · split
          · exact hset _
          · split
            · exact .of (d.updProgress_touch s)
            · exact hset _
        · split
          · obtain ⟨ht, hn⟩ := d.dropInstalled_upd
            refine ⟨.next (.next ht.of (Dev.endUpdate_touch ..)) (Dev.acceptHeader_touch ..), .inr ?_⟩
            rw [Dev.acceptHeader_upd, Dev.endUpdate_upd, hn]
            exact Nat.lt_succ_self _
          · exact hr _

theorem updBeginGo_step (x y : Bool) (c : Cap) (d : Dev) : UpdStep d (updBeginGo x y c d) :=
  .ite (fun _ => .of (d.fail_touch ..)) (fun _ => (d.updBeginBy_step c.source c.value x y).next (Dev.adminReply_parts ..))

theorem Dev.admin_step (d : Dev) (seq : Nat) (op : BitVec 16) (mine : Cap → Bool) {f : Cap → Dev → Dev} (h : ∀ c e, UpdStep e (f c e)) :
    UpdStep d (d.admin seq op mine f) := by
  unfold Dev.admin
  split
  · exact .of (.refl [] d)
  · next c _ =>
    refine .ite (fun _ => ?_) (fun _ => .of (.refl [] d))
    unfold Dev.dispatch
    split
    · exact .of (.refl [] d)
    · next x _ => exact .ite (fun _ => .after (d.dispatchAs_touch ..) (h _ _)) (fun _ => .of ((d.urgentEvent_sent x).touch []))

theorem Dev.tftpStart_touch (d : Dev) (x : Tftp) : Touch [.upd] d (d.tftpStart x) := by
  unfold Dev.tftpStart
  extract_lets t1
  split
  · exact .emitOut (.setUpd (.refl _ d) _) _
  · exact .emitOut (.setUpd (.refl _ d) _) _

theorem dhcpReplyEff_step (n : Nat) (o : Option Nat) (f : Option Bytes) (d : Dev) : UpdStep d (dhcpReplyEff n o f d) := by
  unfold dhcpReplyEff
  extract_lets src d1
  have h1 : Touch [.mgmt, .upd] d d1 := .setMgmt (.refl _ d) _
  clear_value d1
  split
  · dsimp only
    exact .of (.ite (fun _ => h1.setUpd _) (fun _ => h1.next (d1.tftpStart_touch _)))
  · exact .of (.refl [] d)
  · exact .of (.ite (fun _ => h1) (fun _ => .refl _ d))

theorem tftpRetryEff_step (d : Dev) : UpdStep d (tftpRetryEff d) := by
  unfold tftpRetryEff
  split
  · exact .of (.ite (fun _ => d.tftpStart_touch _) (fun _ => .refl _ d))
  · exact .of (.refl [] d)

theorem updLeaseLapseEff_step (d : Dev) : UpdStep d (updLeaseLapseEff d) := by
  unfold updLeaseLapseEff
  split
  · exact .of (.refl [] d)
  · exact .of (S := [.upd]) (.ite (fun _ => .refl _ d) (fun _ => .raise (.setUpd (.refl _ d) _) ..))

theorem exec_update_step {i : Instr} {s t : State} (hi : isUpdateStep i = true) (h : exec i s = .next t) : UpdStep s.dev t.dev := by
  have hm (e : Dev) (he : UpdStep s.dev e) : UpdStep s.dev e.reportMode := he.next (Dev.reportMode_touch e)
  cases i with
  | updBegin seq x y =>
    cases h
    exact hm _ (Dev.admin_step _ seq _ _ (updBeginGo_step x y))
  | updChunk seq =>
    cases h
    exact hm _ (Dev.admin_step _ seq _ _ fun c d => .next (.of (d.updChunkBy_touch ..)) (Dev.adminReply_parts ..))
  | updVerify seq =>
    cases h
    exact hm _ (Dev.admin_step _ seq _ _ fun c d => .next (.of (d.updVerifyBy_touch ..)) (Dev.adminReply_parts ..))
  | updConfirm seq =>
    cases h
    exact hm _ (Dev.admin_step _ seq _ _ fun c d => d.confirm_step.next (Dev.adminReply_parts ..))
  | updLeaseLapse =>
    cases h
    exact hm _ (updLeaseLapseEff_step _)
  | tftpRetryTimer =>
    cases h
    exact hm _ (tftpRetryEff_step _)
  | dhcpReply n o f =>
    cases h
    exact hm _ (dhcpReplyEff_step n o f _)
  | _ => exact absurd hi Bool.false_ne_true

/-- Settles O48: each family of commands changes its own parts at most; an update reaches the medium only with a record in the history. -/
theorem adminOpsLeaveStoredDataAlone : Obligations.AdminOpsLeaveStoredDataAlone := by
  refine ⟨fun i s t hi h => ?query, fun i s t hi h => ?writer, fun i s t hi h => ?power, fun i s t hi h => ?diag, fun i s t hi h => ?update⟩
  case query =>
    have ht := exec_adminQuery_touch hi h
    exact ⟨ht.sameStore, ht.gale (by simp), ht.mem (by simp), ht.pow (by simp), ht.upd (by simp),
      fun hp => (exec_query_touch hi hp h).fresh (by simp)⟩
  case writer =>
    have ht := exec_writerTurn_touch hi h
    exact ⟨ht.sameStore, ht.gale (by simp), ht.mem (by simp), ht.mir (by simp), ht.pow (by simp), ht.upd (by simp)⟩
  case power =>
    have ht : Touch (.par :: powerParts) s.dev t.dev := by
      obtain hi | ⟨hi, hr⟩ := hi
      · exact exec_powerOp_touch hi h
      · exact exec_testDue_clear_touch hi hr h
    exact ⟨ht.sameStore, ht.mem (by simp), ht.upd (by simp)⟩
  case diag =>
    have ht := exec_diagOp_touch hi h
    exact ⟨ht.sameStore, ht.pow (by simp), ht.upd (by simp)⟩
  case update =>
    obtain ⟨ht, hk⟩ := exec_update_step hi h
    refine ⟨⟨ht.ns (by simp), ht.idx (by simp), rfl, rfl, ht.pol (by simp), ht.sec (by simp), ht.ring (by simp)⟩, ht.gale (by simp),
      ht.mem (by simp), ht.pow (by simp), fun hn => ?_⟩
    obtain hk | hk := hk
    · exact ⟨hk.med (by simp), hk.bays (by simp)⟩
    · exact absurd hn hk.ne'

end Sys2Proof.Machine
end

section
/-! A control frame of the pair that closes a gap lets the messages held behind it go on. -/

namespace Sys2Proof.Machine.Corner

/- An evaluation by the kernel waits for all that stands before it; one after the other, the waiting threads do not pile up. -/
set_option Elab.async false

/-- A `GET` forwarded to the partner. -/
def forwardedGet : Cap := { capsule Op.get 0 [] with stage := .dispatched, forwarded := true }

/-- A linked drive that waits for PSN 0, with the partner's answer to the forwarded `GET` held behind it under PSN 1. -/
def gapped : Dev :=
  let d := drive [forwardedGet]
  { d with mir := { d.mir with
    state := .linked, rxCum := 0, rxGot := [1], held := [⟨1, .answer 4 Status.notFound 0 []⟩], reads := [⟨4, 7, none, Status.notFound⟩] } }

/-- The header of the frame that closes the gap. -/
def gapHeader : CwHdr := ⟨0, 0, 0, 0, 0, 0, 0, 0⟩

theorem gap_closed : (after (.cwAck gapHeader) gapped).que.caps = [] := by decide +kernel

/-- Refutes O50: an `ACK` of the partner under the PSN that is missing lets the answer held behind it be taken (R286), and the answer ends
the forwarded `GET`, so that the capsules change. -/
theorem not_pairAndMediaStepsKeepToTheirOwn : ¬ Obligations.PairAndMediaStepsKeepToTheirOwn := by
  intro h
  obtain ⟨t, ht⟩ : ∃ t, exec (.cwAck gapHeader) (at_ gapped) = .next t := ⟨_, rfl⟩
  obtain ⟨hque, -⟩ := h.1 (.cwAck gapHeader) (at_ gapped) t rfl ht
  have hc : (after (.cwAck gapHeader) gapped).que.caps = [forwardedGet] := by
    rw [← after_eq ht, hque]
    rfl
  rw [gap_closed] at hc
  cases hc

end Sys2Proof.Machine.Corner
end

section
/-! Which parts of the drive readers, writers and uploads may change. -/

namespace Sys2Proof.Machine

/-! ### Readers -/

theorem Dev.prefetch_touch (d : Dev) (n : BitVec 12) (lo seq : Nat) : Touch [.idx, .med] d (d.prefetch n lo seq) := by
  unfold Dev.prefetch
  split
  · exact .ite (fun _ => .refl _ d) (fun _ => .ite (fun _ => d.readPage_touch ..) (fun _ => .next (d.readPage_touch ..) (Dev.modBucket_touch ..)))
  · exact .refl _ d

theorem Dev.batchPrefetch_touch (d : Dev) (c : Cap) : Touch [.idx, .med] d (d.batchPrefetch c) := by
  unfold Dev.batchPrefetch
  dsimp only
  exact .ite (fun _ => Touch.foldl (fun d p => d.prefetch_touch ..) _ _) (fun _ => .refl _ d)

theorem Dev.readerGo_touch (c : Cap) (d : Dev) : Touch dataParts d (Dev.readerGo c d) := by
  unfold Dev.readerGo
  extract_lets d1
  have h1 : Touch dataParts d d1 := .next (.of (d.forecast_touch c)) (Dev.batchPrefetch_touch ..)
  exact .ite (fun _ => h1.trans (d1.capture_touch c)) (fun _ => h1)

theorem readerReplyPlaceEff_touch (seq : Nat) (d : Dev) : Touch dataParts d (readerReplyPlaceEff seq d) := by
  unfold readerReplyPlaceEff
  split
  · exact .refl _ d
  · exact .ite (fun _ => .ite (fun _ => .ite (fun _ => d.capture_touch _) (fun _ => .refl _ d)) (fun _ => d.replyBuffered_touch _))
      (fun _ => .refl _ d)

/-! ### Writers -/

theorem Dev.commitOn_touch (d : Dev) (c : Cap) (n : Namespace) (g : Nat) (u : Upload) (ws : List (Nat × Part)) (k : KState) (prov : Bool) :
    Touch versionParts d (d.commitOn c n g u ws k prov) := by
  unfold Dev.commitOn
  extract_lets bytes
  split
  · exact (d.failWriter_touch ..).of
  · exact .ite (fun _ => (d.failWriter_touch ..).of) (fun _ => d.resolveOn_touch ..)

theorem Dev.commitUpload_touch (d : Dev) (c : Cap) (n : Namespace) (g : Nat) (k : KState) (prov : Bool) :
    Touch versionParts d (d.commitUpload c n g k prov) := by
  unfold Dev.commitUpload
  split
  · exact (d.failWriter_touch ..).of
  · next u _ =>
    refine .ite (fun _ => (d.failWriter_touch ..).of) (fun _ => ?_)
    extract_lets src d0 f d1
    have h0 : Touch versionParts d d0 := .setIdx (.refl _ d) _ (hk := ⟨rfl, rfl, id⟩)
    clear_value d0 f
    have h1 : Touch versionParts d d1 := by
      simp only [d1]
      split
      · split
        · exact h0.next (d0.readPage_touch ..)
        · exact h0
      · exact h0
    refine .ite (fun _ => h0.next (d0.failWriter_touch ..)) (fun _ => .ite (fun _ => h0.next (d0.failWriter_touch ..)) (fun _ => ?_))
    split
    · exact h0.next (d0.failWriter_touch ..)
    · exact h1.trans (d1.commitOn_touch ..)

theorem Dev.resolveCommit_touch (d : Dev) (c : Cap) (n : Namespace) (g : Nat) : Touch versionParts d (d.resolveCommit c n g) := by
  unfold Dev.resolveCommit
  extract_lets h
  split
  · exact (d.failWriter_touch ..).of
  · split
    · exact (d.failWriter_touch ..).of
    · exact .next (.sent (.refl _ d) (d.collisionEvent_sent ..)) (Dev.failWriter_touch ..)
    · exact .next (.of (d.modCap_touch ..)) (Dev.readPage_touch ..)
    · exact .ite (fun _ => (d.failWriter_touch ..).of) (fun _ => d.commitUpload_touch ..)

theorem Dev.patchToken_touch (d : Dev) (c : Cap) (h : BitVec 128) : Touch [.que, .med] d (d.patchToken c h).2 := by
  unfold Dev.patchToken
  split
  · extract_lets known
    clear_value known
    split
    · exact .refl _ d
    · next x =>
      have ht := d.checkToken_touch c h x
      exact ht.next (Dev.modCap_touch _ c (fun _ => _) (fun _ => .inr rfl))
  · exact .refl _ d

theorem Dev.countWriter_touch (d : Dev) (c : Cap) (h : BitVec 128) : Touch [.idx] d (d.countWriter c h) :=
  .ite (fun _ => .refl _ d) (fun _ => .trans (.sent (.refl _ d) (d.countLook_sent ..)) (Dev.usePage_touch ..))

theorem Dev.resolve_touch (d : Dev) (c : Cap) (n : Namespace) (g : Nat) : Touch versionParts d (d.resolve c n g) := by
  unfold Dev.resolve
  extract_lets h d0
  have h0 : Touch versionParts d d0 := (d.countWriter_touch c h).of
  clear_value d0
  refine h0.trans (.ite (fun _ => d0.resolveCommit_touch ..) (fun _ => .ite (fun _ => .ite (fun _ => ?_) (fun _ => (d0.failWriter_touch ..).of))
    (fun _ => ?_)))
  · exact .next (d0.modCap_touch ..).of (Dev.secureStart_touch ..)
  · have hp := d0.patchToken_touch c h
    split
    next c1 d1 he =>
    rw [he] at hp
    have h1 : Touch versionParts d0 d1 := hp.of
    split
    · exact .ite (fun _ => h1.trans (d1.resolvePlain_touch ..)) (fun _ => .ite (fun _ => h1) (fun _ => h1.next (d1.issueRead_touch ..)))
    · exact h1.trans (d1.resolvePlain_touch ..)

theorem writerResolveEff_touch (seq : Nat) (g : Fin 8) (d : Dev) : Touch versionParts d (writerResolveEff seq g d) := by
  unfold writerResolveEff
  split
  · exact .refl _ d
  · extract_lets h secure
    split
    · exact .refl _ d
    · next n _ =>
      refine .ite (fun _ => ?_) (fun _ => .refl _ d)
      extract_lets d1
      have h1 : Touch versionParts d d1 := d.resolve_touch ..
      exact .ite (fun _ => h1) (fun _ => .next (h1.sent (d1.endWaits_sent ..)) (Dev.captureWaiting_touch ..))

theorem Dev.commitWriter_touch (d : Dev) (r : JRec) (v : Version) : Touch dataParts d (d.commitWriter r v) := by
  unfold Dev.commitWriter
  extract_lets d1 d2 d3 d4
  have h1 : Touch dataParts d d1 := .next (.of (d.settle_touch v)) (Dev.modRec_touch ..)
  have h2 : Touch dataParts d d2 := h1.next (d1.enterLog_touch _)
  have h3 : Touch dataParts d d3 := .next (h2.next (d2.modCopy_touch ..)) (Dev.modVer_touch ..)
  have h4 : Touch dataParts d d4 := h3.next (d3.checkPressure_touch)
  exact .ite (fun _ => h4.trans (d4.secureStart_touch ..)) (fun _ => .trans (h4.trans (d4.atMedium_touch _)) (Dev.mediaAdvance_touch _))

theorem Dev.refuseOther_touch (d : Dev) (v : Version) : Touch dataParts d (d.refuseOther v) :=
  .trans (.sent (.refl _ d) (d.collisionEvent_sent ..)) (Dev.endVer_touch ..)

theorem journalRecordCommitEff_touch (j : Nat) (d : Dev) : Touch dataParts d (journalRecordCommitEff j d) := by
  unfold journalRecordCommitEff
  split
  · exact .refl _ d
  · split
    · exact .refl _ d
    · split
      · exact .refl _ d
      · refine .ite (fun _ => .ite (fun _ => d.refuseOther_touch _) (fun _ => d.commitWriter_touch ..)) (fun _ => .ite (fun _ => .refl _ d) (fun _ => ?_))
        split
        · exact (d.readPage_touch ..).of
        · exact .refl _ d

/-! ### Scans -/

theorem Dev.scanAhead_touch (d : Dev) (c : Cap) (o : Option Nat) (a b : Nat) : Touch [.que, .idx, .med] d (d.scanAhead c o a b) := by
  unfold Dev.scanAhead
  extract_lets d0 room next
  refine .trans ?_ (Touch.foldl (fun d p => (d.prefetch_touch ..).of) _ _)
  simp only [d0]
  split
  · exact .next (.of (d.modCap_touch ..)) (Dev.readPage_touch ..)
  · exact .refl _ d

theorem Dev.chargeScan_touch (d : Dev) (c : Cap) (n : Nat) : Touch [.pol, .que] d (d.chargeScan c n) :=
  .setQue (.of (d.chargeBytes_touch ..)) _

theorem Dev.scanMore_touch (d : Dev) (c : Cap) (a : ScanAcc) : Touch dataParts d (d.scanMore c a) :=
  .ite (fun _ => (d.finishFree_touch ..).of) (fun _ => .next (.sent (.of (d.chargeScan_touch ..)) (Dev.placeBytes_sent ..)) (Dev.modCap_touch ..))

theorem Dev.scanLast_touch (d : Dev) (c : Cap) (a : ScanAcc) (b : Bool) : Touch dataParts d (d.scanLast c a b) :=
  .next (.next (.of (d.chargeScan_touch ..)) (Dev.withdrawPrefetch_touch ..)) (Dev.finishFree_touch ..)

theorem Dev.scanUsed_touch (d : Dev) (n : BitVec 12) (bs : List Bucket) (k : Nat) : Touch [.idx] d (d.scanUsed n bs k) :=
  Touch.foldl (fun d _ => .ite (fun _ => .bump (d.modBucket_touch ..) ..) (fun _ => d.modBucket_touch ..)) _ _

theorem Dev.scanStep_touch (d : Dev) (c : Cap) : Touch dataParts d (d.scanStep c) := by
  unfold Dev.scanStep
  extract_lets n limit a0 bs r upto d0 d1
  have h0 : Touch dataParts d d0 := (d.scanUsed_touch ..).of
  have h1 : Touch dataParts d d1 := h0.next (d0.scanAhead_touch ..)
  clear_value r d1 d0
  refine .ite (fun _ => .refl _ d) (fun _ => ?_)
  split
  · exact h1
  · exact .ite (fun _ => .next (h0.next (d0.withdrawPrefetch_touch ..)) (Dev.finishFree_touch ..)) (fun _ => h1.trans (d1.scanMore_touch ..))
  · exact h1.trans (d1.scanMore_touch ..)
  · exact h0.trans (d0.scanLast_touch ..)
  · exact h0.trans (d0.scanLast_touch ..)

theorem Dev.scanStart_touch (c : Cap) (d : Dev) : Touch dataParts d (Dev.scanStart c d) := by
  unfold Dev.scanStart
  split
  · exact (d.finishFree_touch ..).of
  · refine .ite (fun _ => .ite (fun _ => (d.partnerRead_touch ..).of) (fun _ => (d.finishFree_touch ..).of)) (fun _ =>
      .ite (fun _ => (d.finishFree_touch ..).of) (fun _ => ?_))
    extract_lets c1
    exact .trans (Dev.modCap_touch d c (fun _ => c1) (fun _ => .inr rfl)).of (Dev.scanStep_touch ..)

theorem scanPrefixEff_touch (seq : Nat) (d : Dev) : Touch dataParts d (scanPrefixEff seq d) := by
  unfold scanPrefixEff
  split
  · exact .refl _ d
  · exact .ite (fun _ => .ite (fun _ => .refl _ d) (fun _ => d.scanStep_touch _)) (fun _ => d.dispatch_touch seq _ Dev.scanStart_touch)

/-! ### Uploads -/

theorem Dev.modPart_touch (d : Dev) (id seq : Nat) (f : Part → Part) : Touch [.idx] d (d.modPart id seq f) := d.modUpload_touch ..

theorem Dev.mpBeginGo_touch (c : Cap) (d : Dev) : Touch dataParts d (Dev.mpBeginGo c d) := by
  have hf (st : BitVec 16) : Touch dataParts d (d.finishFree c (Reply.plain st)) := (d.finishFree_touch ..).of
  fun_cases Dev.mpBeginGo c d
  case case7 =>
    refine .next (.next ?_ (Dev.replicate_touch ..)) (Dev.finishFree_touch ..)
    exact .next (.next (.setIdx (.refl _ d) _) (Dev.journalItem_touch ..)) (Dev.takeCharge_touch ..)
  case case8 => exact .next (.of (d.bindEvents_touch ..)) (Dev.finishFree_touch ..)
  all_goals exact hf _

theorem Dev.placePart_touch {d e : Dev} {u : Upload} {seq o : Nat} {b : Bytes} {cs : List (BitVec 32)} (h : d.placePart u seq o b cs = .inl e) :
    Touch [.idx, .med, .bays, .gale] d e := by
  unfold Dev.placePart at h
  extract_lets bay group at h
  split at h
  · cases h
  · next runs d1 h1 =>
    split at h
    · cases h
    · next j d2 h2 =>
      cases h
      exact .next (.next (.next (.of (Dev.placeSegs_touch h1)) (Dev.journal_touch h2)) (Dev.modUpload_touch ..)) (Dev.modGale_touch ..)

theorem Dev.dropPartEntry_touch (d : Dev) (u : Upload) (p : Part) : Touch [.gale] d (d.dropPartEntry u p) :=
  .ite (fun _ => .refl _ d) (fun _ => d.modGale_touch _)

theorem Dev.mpPartGo_touch (c : Cap) (d : Dev) : Touch dataParts d (Dev.mpPartGo c d) := by
  unfold Dev.mpPartGo
  have hf (st : BitVec 16) : Touch dataParts d (d.finishFree c (Reply.plain st)) := (d.finishFree_touch ..).of
  split
  · exact hf _
  · split
    · exact hf _
    · next u _ =>
      refine .ite (fun _ => hf _) (fun _ => ?_)
      extract_lets o st
      refine .ite (fun _ => hf _) (fun _ => .ite (fun _ => hf _) (fun _ => .ite (fun _ => hf _) (fun _ => ?_)))
      split
      · exact .next (.sent (.refl _ d) (d.checkFails_sent ..)) (Dev.finishFree_touch ..)
      · refine .ite (fun _ => (d.waitFor_touch ..).of) (fun _ => ?_)
        split
        · exact (d.waitFor_touch ..).of
        · next d1 h1 =>
          exact .next (.next (.next (.next (Dev.placePart_touch h1).of (Dev.endHotWait_touch ..)) (Dev.modCap_touch ..)) (Dev.modPart_touch ..))
            (Dev.replicate_touch ..)

theorem mpPartEff_touch (seq : Nat) (d : Dev) : Touch dataParts d (mpPartEff seq d) := by
  unfold mpPartEff
  split
  · exact .refl _ d
  · exact .ite (fun _ => Dev.mpPartGo_touch _ d) (fun _ => d.dispatch_touch seq _ Dev.mpPartGo_touch)

theorem Dev.closeUpload_touch (d : Dev) (u : Upload) : Touch dataParts d (d.closeUpload u) := by
  unfold Dev.closeUpload
  extract_lets src d1 d2
  have h1 : Touch dataParts d d1 := .setIdx (.refl _ d) _ (hk := ⟨rfl, rfl, id⟩)
  have h2 : Touch dataParts d d2 := by
    refine h1.trans (Touch.foldl (fun d p => ?_) _ _)
    extract_lets x
    have hx : Touch dataParts d x := .next (.next (.of (d.dropProgs_touch _)) (Dev.dropPartRec_touch ..)) (Dev.dropPartEntry_touch ..)
    clear_value x
    split
    · exact hx.next (Dev.finishFree_touch ..)
    · exact hx
  exact .next (h2.next (Dev.modNs_touch ..)) (Dev.eraseAllDead_touch _)

theorem Dev.mpCancelGo_touch (c : Cap) (d : Dev) : Touch dataParts d (Dev.mpCancelGo c d) := by
  unfold Dev.mpCancelGo
  have hf (st : BitVec 16) : Touch dataParts d (d.finishFree c (Reply.plain st)) := (d.finishFree_touch ..).of
  split
  · exact hf _
  · exact hf _
  · exact .ite (fun _ => hf _) (fun _ => .ite (fun _ => .refl _ d) (fun _ =>
      .next (.next (d.closeUpload_touch _) (Dev.replicate_touch ..)) (Dev.finishFree_touch ..)))

theorem mpCancelEff_touch (seq : Nat) (d : Dev) : Touch dataParts d (mpCancelEff seq d) := by
  unfold mpCancelEff
  split
  · exact .refl _ d
  · exact .ite (fun _ => Dev.mpCancelGo_touch _ d) (fun _ => d.dispatch_touch seq _ Dev.mpCancelGo_touch)

theorem mpIdleTimeoutEff_touch (id : Nat) (d : Dev) : Touch dataParts d (mpIdleTimeoutEff id d) := by
  unfold mpIdleTimeoutEff
  split
  · exact .refl _ d
  · exact .ite (fun _ => .refl _ d) (fun _ => .raise (d.closeUpload_touch _) ..)

end Sys2Proof.Machine
end

section
/-! Which parts of the drive the epochs of the index and the moves of buckets may change. -/

namespace Sys2Proof.Machine

/-! ### Programs of the index -/

theorem Dev.passProg_touch (d : Dev) (p : Prog) : Touch [.idx, .med, .bays] d (d.passProg p) := by
  unfold Dev.passProg
  extract_lets src d1
  have h1 : Touch [.idx, .med, .bays] d d1 := .next (.next (.setMed (.refl _ d) _) (Dev.endOp_touch ..)) (Dev.countProgram_touch ..)
  clear_value d1
  refine .ite (fun _ => h1) (fun _ => ?_)
  split
  · exact h1.next (d1.chunkPassed_touch _)
  · exact h1.next (d1.partMoved_touch ..)
  · exact h1

theorem Dev.placePage_touch {d e : Dev} {n : Nat} {b x : Bucket} {f : Bool} (h : d.placePage n f b = some (x, e)) : Touch [.med, .bays] d e := by
  unfold Dev.placePage at h
  extract_lets group bay at h
  split at h
  · cases h
  · next block pos d1 ha =>
    cases h
    exact .next (.next (Dev.take_touch ha).of (Dev.issuePage_touch ..)) (Dev.modBay_touch ..)

theorem Dev.placeSplit_touch {n : Nat} {f : Bool} {bs xs : List Bucket} {d e : Dev} (h : d.placeSplit n f bs = some (xs, e)) :
    Touch [.med, .bays] d e := by
  induction bs generalizing d e xs with
  | nil =>
    cases h
    exact .refl _ _
  | cons b rest ih =>
    unfold Dev.placeSplit at h
    split at h
    · cases h
    · next x d1 h1 =>
      split at h
      · next ys d2 h2 =>
        cases h
        exact (Dev.placePage_touch h1).trans (ih h2)
      · cases h

theorem Dev.placePages_touch (n : Nat) (l : List (List Bucket)) (d : Dev) : Touch [.med, .bays] d (d.placePages n l).2.2 := by
  induction l generalizing d with
  | nil => exact .refl _ d
  | cons bs rest ih =>
    unfold Dev.placePages
    split
    · next xs d1 h1 => exact (Dev.placeSplit_touch h1).trans (ih d1)
    · exact ih d

theorem Dev.saveLevels_touch (d : Dev) : Touch [.bays] d d.saveLevels := Touch.foldl (fun d _ => d.modBay_touch ..) _ _

theorem Dev.writeSnap_touch (bays : List BayNo) (n fuel k : Nat) (d : Dev) : Touch [.med, .bays] d (d.writeSnap bays n fuel k).2.2 := by
  induction fuel generalizing d k with
  | zero => exact .refl _ d
  | succ fuel ih =>
    unfold Dev.writeSnap
    split
    · exact .refl _ d
    · exact .trans (d.writeOn_touch ..) (ih ..)

/-- What a fold over writes gathers says nothing of the drive that it carries. -/
theorem Touch.gathered {S : List DevPart} (a r : List Nat × Bool × Dev) (h : Touch S a.2.2 r.2.2) :
    Touch S a.2.2 (r.1 ++ a.1, r.2.1 && a.2.1, r.2.2).2.2 := h

theorem Dev.writeFps_touch (d : Dev) (n : Nat) : Touch [.med, .bays] d (d.writeFps n).2.2 := by
  unfold Dev.writeFps
  refine Touch.foldl_on (fun a : List Nat × Bool × Dev => a.2.2) (fun a b => ?_) _ ([], true, d)
  exact Touch.gathered a _ (Dev.writeSnap_touch [b] n 64 _ a.2.2)

theorem Dev.snapTail_touch (d : Dev) : Touch [.idx, .med, .bays] d d.snapTail := by
  unfold Dev.snapTail
  split
  · exact .refl _ d
  · next t ht =>
    extract_lets due
    have h1 : Touch [.med, .bays] d (if due then d.writeMap t.epoch else ([], true, d)).2.2 := by
      split
      · exact Dev.writeSnap_touch ..
      · exact .refl _ d
    clear_value due
    split
    next m ok d1 he =>
    rw [he] at h1
    have h2 : Touch [.med, .bays] d1 (if t.checkpoint then d1.writeFps t.epoch else ([], true, d1)).2.2 := by
      split
      · exact Dev.writeFps_touch ..
      · exact .refl _ d1
    split
    next f ok2 d2 he2 =>
    rw [he2] at h2
    have h12 : Touch [.idx, .med, .bays] d d2 := (h1.trans h2).of
    refine h12.setIdx _ (hk := ⟨rfl, rfl, fun hn => ?_⟩)
    rw [(h1.trans h2).idx (by simp), ht] at hn
    cases hn

theorem Dev.retryReserved_touch (d : Dev) : Touch [.med, .bays] d d.retryReserved := by
  unfold Dev.retryReserved
  dsimp only
  exact .ite (fun _ => .refl _ d) (fun _ => .trans (.setMed (.refl _ d) _) (Touch.foldl (fun d _ => d.writeReserved_touch ..) _ _))

theorem Dev.writeMaps_touch (d : Dev) : Touch [.med, .bays] d d.writeMaps := Touch.foldl Dev.writeWearMap_touch _ _

/-- The parts that an epoch may change. -/
@[simp] abbrev epochParts : List DevPart := [.par, .conf, .epochs, .idx, .med, .bays, .fresh]

theorem Dev.closeHead_touch (d : Dev) (all : Bool) : Touch epochParts d (d.closeHead all) := by
  unfold Dev.closeHead
  extract_lets n d0 set pages made joined rest
  have h0 : Touch epochParts d d0 := .next (d.applyCommitted_touch _).of (Dev.saveLevels_touch _)
  clear_value d0 rest
  have hp := Dev.placePages_touch n (rest ++ joined.map (fun j => [j.2])) d0
  split
  next placed all_ d1 he =>
  rw [he] at hp
  have h1 : Touch epochParts d d1 := h0.next hp
  exact .next (.next (.next (.setEpochs (.bump (.bump (.bump (.bump h1 ..) ..) ..) ..) _) (Dev.snapTail_touch _)) (Dev.retryReserved_touch _))
    (Dev.writeMaps_touch _)

/-! ### Moves -/

theorem Dev.moveCopies_touch (d : Dev) (k : BatchKind) (b : Bucket) : Touch [.med, .bays] d (d.moveCopies k b) := by
  unfold Dev.moveCopies
  split
  · exact .refl _ d
  · exact .ite (fun _ => .refl _ d) (fun _ => d.beginBatch_touch ..)

theorem Dev.startMove_touch (d : Dev) (k : BatchKind) (b : Bucket) (t : BayNo) : Touch [.idx, .med, .bays] d (d.startMove k b t) := by
  unfold Dev.startMove
  exact .next (d.modBucket_touch ..).of (Dev.moveCopies_touch ..)

theorem Dev.evacNext_touch (d : Dev) (b : BayNo) : Touch [.idx, .med, .bays] d (d.evacNext b) := by
  unfold Dev.evacNext
  split
  · split
    · exact (d.moveCopies_touch ..).of
    · split
      · exact d.startMove_touch ..
      · exact .refl _ d
  · exact .refl _ d

theorem Dev.movesOn_touch (d : Dev) : Touch [.idx, .med, .bays] d d.movesOn :=
  .trans (Touch.foldl Dev.evacNext_touch _ _) (Touch.foldl (fun d b => (d.moveCopies_touch ..).of) _ _)

theorem Dev.evacCheck_touch (d : Dev) : Touch [.cards, .bays, .par] d d.evacCheck := by
  refine Touch.foldl (fun d b => .ite (fun _ => ?_) (fun _ => .refl _ d)) _ _
  exact .next (.raise (d.modBay_cards ..).of ..) (Dev.refreshMode_touch ..)

/-! ### The end of a tail -/

theorem Dev.markTail_touch (d : Dev) : Touch [.idx, .med, .bays] d d.markTail := by
  unfold Dev.markTail
  split
  · exact .refl _ d
  · next t ht =>
    refine .ite (fun _ => .refl _ d) (fun _ => ?_)
    have h := d.writeOn_touch d.serviceBays .journal (t.epoch % 8) 1 true .mark
    split
    next ls ok d1 he =>
    rw [he] at h
    have h1 : Touch [.idx, .med, .bays] d d1 := h.of
    refine h1.setIdx _ (hk := ⟨rfl, rfl, fun hn => ?_⟩)
    rw [h.idx (by simp), ht] at hn
    cases hn

theorem Dev.endTail_touch (d : Dev) : Touch [.epochs, .idx, .bays, .fresh] d d.endTail := by
  unfold Dev.endTail
  split
  · exact .refl _ d
  · extract_lets bs rs marks left src d1 d2 d3
    have h1 : Touch [.epochs, .idx, .bays, .fresh] d d1 := .setEpochs (.refl _ d) _
    have h2 : Touch [.epochs, .idx, .bays, .fresh] d d2 := by
      refine h1.trans (Touch.foldl (fun d b => ?_) _ _)
      extract_lets n
      split
      · exact .ite (fun _ => (d.modBay_touch ..).of) (fun _ => .raise (.refl _ d) ..)
      · exact .refl _ d
    have h3 : Touch [.epochs, .idx, .bays, .fresh] d d3 := h2.raise ..
    clear_value d3
    exact .next (.next (.ite (fun _ => h3.next d3.checkPressure_touch) (fun _ => h3)) (Dev.trimPages_touch _)) (Dev.fpDone_touch ..)

theorem Dev.passItem_touch (d : Dev) (w : ProgWhat) : Touch [.idx, .med, .bays] d (d.passItem w) := by
  refine .trans (Touch.foldl Dev.passProg_touch _ _) (Touch.foldl (fun d b => Touch.foldl (fun d x => ?_) _ _) _ _)
  exact .ite (fun _ => .refl _ d) (fun _ => .next (d.modBay_touch ..).of (Dev.countProgram_touch ..))

theorem Dev.finishTail_touch (d : Dev) : Touch epochParts d d.finishTail := by
  unfold Dev.finishTail
  extract_lets pass d1 d2
  have hp (e : Dev) : Touch epochParts e (pass e) := by
    simp only [pass]
    split
    · exact Touch.foldl (fun d l => (d.passItem_touch _).of) _ _
    · exact .refl _ e
  have h1 : Touch epochParts d d1 := .next (hp d) (Dev.markTail_touch _)
  clear_value d1
  have h2 : Touch epochParts d d2 := by
    simp only [d2]
    split
    · exact h1.trans (Touch.foldl (fun d l => (d.passItem_touch _).of) _ _)
    · exact h1
  exact h2.next d2.endTail_touch

theorem Dev.checkpoint_touch (d : Dev) : Touch epochParts d d.checkpoint :=
  .trans (.trans d.finishTail_touch (Dev.closeHead_touch ..)) (Dev.finishTail_touch _)

theorem epochEndRecordDurableEff_touch (d : Dev) : Touch (.epochs :: .cards :: dataParts) d (epochEndRecordDurableEff d) := by
  unfold epochEndRecordDurableEff
  extract_lets d1 d2
  have h1 : Touch (.epochs :: .cards :: dataParts) d d1 := d.markTail_touch.of
  clear_value d1
  have h2 : Touch (.epochs :: .cards :: dataParts) d d2 := by
    simp only [d2]
    split
    · exact .ite (fun _ => .refl _ d) (fun _ => h1.trans (Touch.foldl (fun d l => (d.passItem_touch _).of) _ _))
    · exact .refl _ d
  clear_value d2
  exact .ite (fun _ => .next (.next (.next (h2.next d2.endTail_touch) (Dev.evacCheck_touch _)) (Dev.movesOn_touch _)) (Dev.mediaAdvance_touch _))
    (fun _ => .refl _ d)

end Sys2Proof.Machine
end

section
/-! Which parts of the drive the messages of the partner may change. -/

namespace Sys2Proof.Machine

/-! ### A cartridge is forgotten -/

theorem Dev.recount_touch (d : Dev) : Touch [.ns] d d.recount := .setNs (.refl _ d) _

theorem Dev.writeBindings_touch (d : Dev) : Touch [.med, .bays] d d.writeBindings :=
  .trans (d.writeReserved_touch ..) (Touch.foldl (fun d _ => (d.modBay_touch ..).of) _ _)

theorem Dev.abandonBatches_touch (d : Dev) (p : Batch → Bool) : Touch [.idx, .med, .bays] d (d.abandonBatches p) :=
  Touch.foldl (fun d b => (d.dropBatch_touch b).of) _ _

theorem Dev.stopDies_touch (d : Dev) (b : BayNo) : Touch [.med, .bays] d (d.stopDies b) := by
  unfold Dev.stopDies
  exact .next (.setMed (.refl _ d) _) (Dev.modBay_touch ..)

theorem Dev.unmove_touch (d : Dev) (bay : BayNo) (b : Bucket) : Touch [.idx, .med, .bays] d (d.unmove bay b) := by
  unfold Dev.unmove
  split
  · exact .refl _ d
  · exact .next (Touch.foldl (fun d e => d.commitNew_touch _) _ _) (Dev.modBucket_touch ..)

theorem Dev.dropBay_touch (d : Dev) (bay : BayNo) : Touch [.idx, .ev, .med, .bays, .que, .net, .mir] d (d.dropBay bay) := by
  unfold Dev.dropBay
  extract_lets js src1 src2 src3 d1 src4 d2
  have h0 : Touch [.idx, .ev, .med, .bays, .que, .net, .mir] d src1 := (d.stopDies_touch bay).of
  clear_value src1
  have h1 : Touch [.idx, .ev, .med, .bays, .que, .net, .mir] d d1 :=
    { h0 with
      ev := fun n => absurd (by simp) n
      idx := fun n => absurd (by simp) n
      epochs := fun _ => ⟨rfl, rfl, id⟩ }
  have h2 : Touch [.idx, .ev, .med, .bays, .que, .net, .mir] d d2 := h1.setMed _
  refine h2.trans (Touch.foldl (fun d j => ?_) _ _)
  split
  · exact (d.finishFree_touch ..).of
  · exact .refl _ d

theorem Dev.forgetSlot_touch (d : Dev) (b : BayNo) : Touch [.cards, .med, .bays] d (d.forgetSlot b) :=
  .ite (fun _ => .next (d.writeSlot_touch ..).of (Dev.modBay_cards ..)) (fun _ => .refl _ d)

theorem Dev.cartOk_touch (d : Dev) (c : Cap) (b : BayNo) : Touch [.que, .net, .mir] d (d.cartOk c b) := d.okWith_touch ..

theorem Dev.forget_touch (d : Dev) (c : Cap) (bay : BayNo) (serial : BitVec 128) : Touch (.cards :: dataParts) d (d.forget c bay serial) := by
  unfold Dev.forget
  extract_lets bs moved d0 mine d1 src1 src2 d2 d3 re
  clear_value mine re
  split
  · refine .ite (fun _ => ?_) (fun _ => (d.fail_touch ..).of)
    exact .next (.next (.raise (.next (.next (d.forgetSlot_touch bay).of (Dev.dropBay_touch ..)) (Dev.modBay_cards ..)) ..)
      (Dev.refreshMode_touch ..)) (Dev.cartOk_touch ..)
  · have h0 : Touch (.cards :: dataParts) d d0 := .trans (d.abandonBatches_touch _).of (Touch.foldl (fun d b => (d.unmove_touch ..).of) _ _)
    have h1 : Touch (.cards :: dataParts) d d1 := h0.trans (Touch.foldl (fun d b => .setIdx (.refl _ d) _) _ _)
    have h2 : Touch (.cards :: dataParts) d d2 := h1.trans (by constructor <;> simp [d2, src1, src2])
    have h3 : Touch (.cards :: dataParts) d d3 :=
      .next (.next (.next (.next (h2.next (d2.forgetSlot_touch bay)) (Dev.dropBay_touch ..)) (Dev.modBay_cards ..)) (Dev.recount_touch _))
        (Dev.writeBindings_touch _)
    exact .next (.next (h3.raise ..) (Dev.refreshMode_touch ..)) (Dev.cartOk_touch ..)

/-! ### Waits for the follower -/

theorem Dev.freeWaiter_touch (d : Dev) (v : Version) : Touch dataParts d (d.freeWaiter v) := by
  unfold Dev.freeWaiter
  extract_lets d1
  have h1 : Touch dataParts d d1 := (d.modVer_touch ..).of
  exact .ite (fun _ => h1.trans (d1.completeVer_touch _)) (fun _ => h1)

theorem Dev.freePart_touch (d : Dev) (x : Nat × Part) (st : Option (BitVec 16)) : Touch dataParts d (d.freePart x st) := by
  unfold Dev.freePart
  extract_lets d1
  have h1 : Touch dataParts d d1 := (d.modPart_touch ..).of
  clear_value d1
  split
  · exact .ite (fun _ => h1.next (d1.finishFree_touch ..)) (fun _ => h1)
  · exact h1

theorem Dev.freeSome_touch (d : Dev) (n : BitVec 12) (p : Nat → Bool) : Touch dataParts d (d.freeSome n p) :=
  .trans (Touch.foldl Dev.freeWaiter_touch _ _) (Touch.foldl (fun d x => d.freePart_touch x none) _ _)

theorem Dev.freeApplied_touch (d : Dev) (m : MirrorNs) : Touch dataParts d (d.freeApplied m) := d.freeSome_touch ..

theorem Dev.dirtyAll_touch (d : Dev) (n : BitVec 12) : Touch [.idx] d (d.dirtyAll n) := .setIdx (.refl _ d) _
theorem Dev.cleanAll_touch (d : Dev) (n : BitVec 12) : Touch [.idx] d (d.cleanAll n) := .setIdx (.refl _ d) _

theorem Dev.beginResync_touch (d : Dev) (n : BitVec 12) (st : NsState) : Touch [.mir, .states] d (d.beginResync n st) :=
  .trans (d.modMirror_touch ..) (Dev.setNsState_touch ..)

theorem Dev.releaseSolo_touch (d : Dev) : Touch [.mir, .asks, .fresh] d d.releaseSolo := .ite (fun _ => d.witnessSend_touch ..) (fun _ => .refl _ d)

theorem Dev.resyncCheck_touch (d : Dev) (n : BitVec 12) : Touch (.asks :: dataParts) d (d.resyncCheck n) := by
  unfold Dev.resyncCheck
  split
  · exact .refl _ d
  · exact .ite (fun _ => .next (.raise (.trans (.next (d.modMirror_touch ..).of (Dev.setNsState_touch ..)) (Dev.freeApplied_touch ..).of) ..)
      (Dev.releaseSolo_touch _)) (fun _ => .refl _ d)

theorem Dev.handoverDone_touch (d : Dev) (n : Nat) : Touch (.cards :: pairParts) d (d.handoverDone n) := by
  unfold Dev.handoverDone
  split
  · exact .refl _ d
  · extract_lets d1 src d2 d3
    have h1 : Touch (.cards :: pairParts) d d1 := Touch.foldl (fun d n => (d.modMirror_touch ..).of) _ _
    have h3 : Touch (.cards :: pairParts) d d3 := .next (h1.setMir _) (Dev.cwSendRole_touch ..)
    clear_value d3
    split
    · exact h3
    · exact .ite (fun _ => h3.next (d3.forget_touch ..)) (fun _ => h3.next (d3.okWith_touch ..))

theorem Dev.handoverOn_touch (d : Dev) : Touch (.cards :: pairParts) d d.handoverOn := by
  unfold Dev.handoverOn
  split
  · exact .refl _ d
  · exact .ite (fun _ => .refl _ d) (fun _ => .ite (fun _ => .next (.setMir (.refl _ d) _) (Dev.witnessSend_touch ..))
      (fun _ => d.handoverDone_touch _))

/-! ### Frames -/

theorem Dev.cwRecord_touch (d : Dev) (psn n : Nat) : Touch [.mir] d (d.cwRecord psn n) := by
  unfold Dev.cwRecord
  dsimp only
  exact .setMir (.refl _ d) _

theorem Dev.cwSendAck_touch (d : Dev) : Touch [.mir] d d.cwSendAck := d.cwSend_touch ..

theorem Dev.cwSample_touch (d : Dev) (r : Nat) : Touch [.mir] d (d.cwSample r) := by
  unfold Dev.cwSample
  split
  · exact .setMir (.refl _ d) _
  · exact .setMir (.refl _ d) _

theorem Dev.cwTakeAck_touch (d : Dev) (h : CwHdr) : Touch [.mir, .term] d (d.cwTakeAck h) := by
  unfold Dev.cwTakeAck
  extract_lets m one new d1 d2 late src d3
  have h1 : Touch [.mir, .term] d d1 := .setMir (.refl _ d) _ (ha := .inr rfl) (hn := .inr rfl)
  have h2 : Touch [.mir, .term] d d2 := by
    simp only [d2]
    split
    · exact h1.next (d1.cwSample_touch _)
    · exact h1
  have h3 : Touch [.mir, .term] d d3 := h2.setMir _ (ha := .inr rfl) (hn := .inr rfl)
  exact h3.sent (d3.emitOuts_sent _)

theorem Dev.cwTake_touch (d : Dev) (h : CwHdr) (b : Bool) : Touch [.mir, .term] d (d.cwTake h b) := by
  unfold Dev.cwTake
  extract_lets m echoed d1
  have h1 : Touch [.mir, .term] d d1 := .setMir (.refl _ d) _ (ha := .inr rfl) (hn := .inr rfl)
  exact h1.trans (d1.cwTakeAck_touch h)

theorem Dev.unhold_touch (d : Dev) (x : CwHeld) : Touch [.mir, .term] d (d.unhold x) := .setMir (.refl _ d) _

/-! ### Records -/

/-- The parts that a message of the partner may change: those of the data path, and a read of the partner is a capsule. -/
@[simp] abbrev partnerParts : List DevPart := .caps :: .drift :: .cards :: pairParts

/-- A message that is taken, if it is, changes those parts. -/
structure Takes (d : Dev) (o : Option Dev) : Prop where
  touch : ∀ e, o = some e → Touch partnerParts d e

theorem Takes.some {S : List DevPart} {d e : Dev} (h : Touch S d e) (hs : autoParam (S ⊆ partnerParts) List.nodup_range'._auto_1) :
    Takes d (some e) := by
  refine ⟨?_⟩
  rintro _ ⟨⟩
  exact h.mono hs

theorem Takes.none (d : Dev) : Takes d none := ⟨fun _ h => nomatch h⟩

theorem Takes.after {S : List DevPart} {d e : Dev} {o : Option Dev} (h : Touch S d e) (g : Takes e o)
    (hs : autoParam (S ⊆ partnerParts) List.nodup_range'._auto_1) : Takes d o :=
  ⟨fun f hf => (h.mono hs).trans (g.touch f hf)⟩

theorem Takes.map {d : Dev} {o : Option Dev} {f : Dev → Dev} (h : Takes d o) (hf : ∀ e, Touch dataParts e (f e)) : Takes d (o.map f) := by
  refine ⟨fun e he => ?_⟩
  obtain ⟨x, hx, rfl⟩ := Option.map_eq_some_iff.mp he
  exact (h.touch x hx).next (hf x)

theorem Takes.ite {d : Dev} {a b : Option Dev} {p : Prop} [Decidable p] (h : p → Takes d a) (g : ¬ p → Takes d b) :
    Takes d (if p then a else b) := by
  split
  · exact h ‹_›
  · exact g ‹_›

theorem Dev.raiseCounter_touch (d : Dev) (v : Nat) : Touch [.que] d (d.raiseCounter v) := .setQue (.refl _ d) _

theorem Dev.onRecord_takes (r : CwRec) (pull : Bool) {f : Namespace → BitVec 128 → KState → Dev → Option Dev}
    (hf : ∀ s h k d, Takes d (f s h k d)) (d : Dev) : Takes d (d.onRecord r pull f) := by
  unfold Dev.onRecord
  split
  · next m s _ _ =>
    extract_lets h d1
    have h1 : Touch dataParts d d1 := .next (d.raiseCounter_touch _).of (Dev.modMirror_touch ..)
    refine .ite (fun _ => .some (.refl [] d)) (fun _ => .ite (fun _ => .some h1) (fun _ => .ite (fun _ => .some (h1.next (d1.reportApplied_touch ..)))
      (fun _ => .ite (fun _ => .none d) (fun _ => ?_))))
    split
    · exact .some (h1.next (d1.applyFail_touch ..))
    · exact .some (.next (h1.sent (d1.collisionEvent_sent ..)) (Dev.applyFail_touch ..))
    · exact .after h1 (hf ..)
  · exact .some (.refl [] d)

theorem Dev.onUpload_takes (r : CwRec) {f : Namespace → BitVec 128 → Dev → Option Dev} (hf : ∀ s h d, Takes d (f s h d)) (d : Dev) :
    Takes d (d.onUpload r f) := by
  unfold Dev.onUpload
  split
  · refine .ite (fun _ => .some (.refl [] d)) (fun _ => ?_)
    extract_lets h d1
    have h1 : Touch dataParts d d1 := .next (d.raiseCounter_touch _).of (Dev.modMirror_touch ..)
    clear_value d1
    split
    · exact .some (h1.next (d1.applyFail_touch ..))
    · exact .after h1 (hf ..)
  · exact .some (.refl [] d)

theorem Dev.applyWrite_takes (d : Dev) (s : Namespace) (r : CwRec) (h : BitVec 128) (k : KState) (op : BitVec 16) (p : Plan) (b : Bool)
    (u : Option Nat) : Takes d (d.applyWrite s r h k op p b u) := by
  unfold Dev.applyWrite
  extract_lets bay group gen len x y newKey
  split
  · split
    · exact .none d
    · next loc d1 h1 =>
      dsimp only
      split
      · exact .none d
      · next j d2 h2 =>
        exact .some (S := versionParts) (.next (.next (.next (Dev.placeValue_touch h1).of (Dev.journal_touch h2)) (Dev.takeCharge_touch ..))
          (Dev.addVer_touch ..))
  · exact .some (S := dataParts) (.next (d.bindEvents_touch ..).of (Dev.applyFail_touch ..))

theorem Dev.followSync_touch (d : Dev) (n : BitVec 12) : Touch dataParts d (d.followSync n) := by
  unfold Dev.followSync
  split
  · exact .refl _ d
  · refine .ite (fun _ => .refl _ d) (fun _ => ?_)
    dsimp only
    refine .ite (fun _ => ?_) (fun _ => .draw (.refl _ d))
    have h2 (f : MirrorNs → MirrorNs) : Touch dataParts d (((d.draw.2.modMirror n f).cleanAll n).setNsState n .inSync) :=
      .next (.next (.next (.draw (.refl _ d)) (Dev.modMirror_touch ..)) (Dev.cleanAll_touch ..)) (Dev.setNsState_touch ..)
    exact .ite (fun _ => h2 _) (fun _ => .raise (h2 _) ..)

theorem Dev.listClean_touch (d : Dev) (n : BitVec 12) (a b : Nat) : Touch [.idx] d (d.listClean n a b) := .setIdx (.refl _ d) _

theorem Dev.gotWanted_touch (d : Dev) (n : BitVec 12) (h : BitVec 128) : Touch dataParts d (d.gotWanted n h) := by
  unfold Dev.gotWanted
  split
  · exact .refl _ d
  · refine .ite (fun _ => ?_) (fun _ => .refl _ d)
    extract_lets d1
    have h1 : Touch dataParts d d1 := (d.modMirror_touch ..).of
    clear_value d1
    refine .trans ?_ (Dev.followSync_touch ..)
    split
    · exact h1.next (d1.listClean_touch ..)
    · exact h1

theorem valueRun_takes (r : CwRec) (d : Dev) : Takes d (valueRun r d) :=
  (d.onRecord_takes r true fun _ _ _ d => d.applyWrite_takes ..).map fun d => d.gotWanted_touch ..

theorem Dev.patchApply_takes (r : CwRec) (s : Namespace) (h : BitVec 128) (k : KState) (d : Dev) : Takes d (Dev.patchApply r s h k d) := by
  unfold Dev.patchApply
  split
  · split
    · exact .some (d.applyFail_touch ..)
    · exact d.applyWrite_takes ..
  · exact .some (d.applyFail_touch ..)

theorem Dev.deleteApply_takes (r : CwRec) (s : Namespace) (h : BitVec 128) (k : KState) (d : Dev) : Takes d (Dev.deleteApply r s h k d) :=
  .ite (fun _ => .some (d.reportApplied_touch ..)) (fun _ => d.applyWrite_takes ..)

theorem Dev.secureApply_takes (r : CwRec) (s : Namespace) (h : BitVec 128) (k : KState) (d : Dev) : Takes d (Dev.secureApply r s h k d) :=
  .ite (fun _ => .some (d.secureStart_touch ..)) (fun _ => d.applyWrite_takes ..)

theorem Dev.mpBeginApply_takes (r : CwRec) (s : Namespace) (h : BitVec 128) (d : Dev) : Takes d (Dev.mpBeginApply r s h d) := by
  fun_cases Dev.mpBeginApply r s h d
  · exact .some (d.reportApplied_touch ..)
  · exact .some (S := dataParts) (.next (.next (.setIdx (.refl _ d) _) (Dev.takeCharge_touch ..)) (Dev.reportApplied_touch ..))
  · exact .some (S := dataParts) (.next (d.bindEvents_touch ..).of (Dev.applyFail_touch ..))

theorem Dev.mpPartApply_takes (r : CwRec) (h : BitVec 128) (d : Dev) : Takes d (Dev.mpPartApply r h d) := by
  unfold Dev.mpPartApply
  split
  · exact .some (d.applyFail_touch ..)
  · refine .ite (fun _ => .some (.refl [] d)) (fun _ => .ite (fun _ => .none d) (fun _ => ?_))
    split
    · next d1 h1 => exact .some (Dev.placePart_touch h1)
    · exact .none d

theorem Dev.mpCommitApply_takes (r : CwRec) (s : Namespace) (h : BitVec 128) (k : KState) (d : Dev) : Takes d (Dev.mpCommitApply r s h k d) := by
  unfold Dev.mpCommitApply
  split
  · exact .some (d.applyFail_touch ..)
  · split
    · exact .some (d.applyFail_touch ..)
    · exact .ite (fun _ => .some (d.applyFail_touch ..)) (fun _ => d.applyWrite_takes ..)

theorem Dev.mpCancelApply_takes (r : CwRec) (d : Dev) : Takes d (Dev.mpCancelApply r d) := by
  refine .some (S := dataParts) (.next ?_ (Dev.reportApplied_touch ..))
  split
  · exact d.closeUpload_touch _
  · exact .refl _ d

theorem Dev.lostApply_takes (r : CwRec) (s : Namespace) (h : BitVec 128) (k : KState) (d : Dev) : Takes d (Dev.lostApply r s h k d) := by
  unfold Dev.lostApply
  extract_lets new d1 d2
  have h1 : Touch dataParts d d1 := by
    simp only [d1]
    split
    · exact (d.killCopy_touch ..).of
    · exact .refl _ d
  have h2 : Touch dataParts d d2 := h1.next (d1.modNs_touch ..)
  clear_value d2
  exact .ite (fun _ => .none d) (fun _ => .some (.next (h2.next (d2.commitNew_touch _)) (Dev.reportApplied_touch ..)))

theorem lostRun_takes (r : CwRec) (d : Dev) : Takes d (lostRun r d) :=
  (d.onRecord_takes r true fun _ _ _ _ => Dev.lostApply_takes ..).map fun d => d.gotWanted_touch ..

/-! ### Lists -/

theorem Dev.unlist_touch (d : Dev) (n : BitVec 12) (h : BitVec 128) (v : Nat) : Touch [.ns, .idx, .med, .bays] d (d.unlist n h v) := by
  unfold Dev.unlist
  split
  · exact .next (.next (d.killCopy_touch ..).of (Dev.modNs_touch ..)) (Dev.commitNew_touch ..)
  · exact .next (d.modNs_touch ..).of (Dev.commitNew_touch ..)
  · exact .refl _ d

theorem Dev.sendWant_touch (d : Dev) (n : BitVec 12) (l : List (BitVec 128)) : Touch [.mir] d (d.sendWant n l) := d.cwSend_touch ..

theorem Dev.followList_takes (d : Dev) (m : MirrorNs) (a b c : Nat) (es : List (BitVec 128 × Nat)) : Takes d (d.followList m a b c es) := by
  unfold Dev.followList
  extract_lets own gone want d1 d2 d3 d4
  have h1 : Touch dataParts d d1 := .ite (fun _ => .refl _ d) (fun _ => (d.beginResync_touch ..).of)
  have h2 : Touch dataParts d d2 := h1.trans (Touch.foldl (fun d x => .next (d.unlist_touch ..).of (Dev.modMirror_touch ..)) _ _)
  have h3 : Touch dataParts d d3 := h2.trans (Touch.foldl (fun d x => (d.modMirror_touch ..).of) _ _)
  have h4 : Touch dataParts d d4 := h3.next (d3.modMirror_touch ..)
  clear_value d4
  exact .ite (fun _ => .none d) (fun _ => .some (.trans (.next (h4.next (d4.sendWant_touch ..)) (Dev.listClean_touch ..)) (Dev.followSync_touch ..)))

theorem Dev.pullList_touch (d : Dev) (n : BitVec 12) (a b : Nat) (es : List (BitVec 128 × Nat)) : Touch (.asks :: dataParts) d (d.pullList n a b es) :=
  .trans (.next (.setIdx (.refl _ d) _) (Dev.sendWant_touch ..)) (Dev.resyncCheck_touch ..)

theorem listRun_takes (n : BitVec 12) (a b c : Nat) (es : List (BitVec 128 × Nat)) (d : Dev) : Takes d (listRun n a b c es d) := by
  unfold listRun
  split
  · exact .some (.refl [] d)
  · exact .ite (fun _ => .some (d.pullList_touch ..)) (fun _ => d.followList_takes ..)

theorem Dev.leadWant_touch (d : Dev) (m : MirrorNs) (hs : List (BitVec 128)) : Touch (.asks :: dataParts) d (d.leadWant m hs) := by
  unfold Dev.leadWant
  extract_lets rs clean src d1 d2
  have h1 : Touch (.asks :: dataParts) d d1 := by
    simp only [d1]
    split
    · exact .refl _ d
    · exact .setIdx (.refl _ d) _ (hk := ⟨rfl, rfl, id⟩)
  have h2 : Touch (.asks :: dataParts) d d2 := h1.next (d1.modMirror_touch ..)
  exact .trans (h2.next (d2.cwPumpNs_touch _)) (Dev.resyncCheck_touch ..)

theorem Dev.followWant_touch (d : Dev) (n : BitVec 12) (hs : List (BitVec 128)) : Touch [.mir] d (d.followWant n hs) :=
  Touch.foldl (fun d r => d.cwPut_touch r) _ _

theorem wantRun_takes (n : BitVec 12) (hs : List (BitVec 128)) (d : Dev) : Takes d (wantRun n hs d) := by
  unfold wantRun
  split
  · exact .some (.refl [] d)
  · exact .some (S := .asks :: dataParts) (.ite (fun _ => d.leadWant_touch ..) (fun _ => (d.followWant_touch ..).of))

theorem Dev.applyFailed_touch (d : Dev) (m : MirrorNs) (v : Nat) : Touch (.asks :: dataParts) d (d.applyFailed m v) := by
  unfold Dev.applyFailed
  extract_lets hs d1 d2 d3
  have h1 : Touch (.asks :: dataParts) d d1 := (d.modMirror_touch ..).of
  have h2 : Touch (.asks :: dataParts) d d2 := h1.next (d1.modMirror_touch ..)
  have h3 : Touch (.asks :: dataParts) d d3 := h1.trans (Touch.foldl (fun d h => (d.markDirty_touch ..).of) _ _)
  exact .ite (fun _ => .ite (fun _ => h2) (fun _ => .next (h2.next (d2.enterWaiting_touch ..)) (Dev.askSolo_touch _)))
    (fun _ => .ite (fun _ => h3.next (d3.beginResync_touch ..)) (fun _ => h3))

theorem Dev.takeApplied_touch (d : Dev) (n : BitVec 12) (w : Nat) (vs : List Nat) (f : Option (Nat × Nat)) :
    Touch (.cards :: pairParts) d (d.takeApplied n w vs f) := by
  unfold Dev.takeApplied
  split
  · exact .refl _ d
  · refine .ite (fun _ => .refl _ d) (fun _ => ?_)
    extract_lets done left d1 d2 d3
    have h1 : Touch (.asks :: dataParts) d d1 := (d.modMirror_touch ..).of
    have h2 : Touch (.asks :: dataParts) d d2 := .ite (fun _ => h1) (fun _ => h1.next (d1.freeSome_touch ..))
    have h3 : Touch (.asks :: dataParts) d d3 := by
      simp only [d3]
      split
      · exact h2.trans (d2.applyFailed_touch ..)
      · exact h2
    exact .trans (h3.trans (d3.resyncCheck_touch n)).of (Dev.handoverOn_touch _)

/-! ### Partner reads and roles -/

theorem Dev.answerAt_touch (d : Dev) (id : Nat) (n : BitVec 12) (op : BitVec 16) (key : Bytes) (o l v : Nat) :
    Touch dataParts d (d.answerAt id n op key o l v) := by
  unfold Dev.answerAt
  extract_lets h
  split
  · exact (d.cwAnswer_touch ..).of
  · refine .ite (fun _ => (d.cwAnswer_touch ..).of) (fun _ => .ite (fun _ => (d.cwAnswer_touch ..).of) (fun _ => ?_))
    split
    · exact .next (.trans (.sent (.refl _ d) (d.checkFails_sent ..)) (Dev.driftUe_touch ..)) (Dev.cwAnswer_touch ..)
    · exact (d.cwAnswer_touch ..).of

theorem readRun_takes (id : Nat) (n : BitVec 12) (op : BitVec 16) (key : Bytes) (o l : Nat) (v : Option Nat) (d : Dev) :
    Takes d (readRun id n op key o l v d) := by
  unfold readRun
  extract_lets notLead
  have hn : Touch [.mir] d notLead := d.cwAnswer_touch ..
  split
  · exact .some (d.answerAt_touch ..)
  · split
    · refine .ite (fun _ => .some hn) (fun _ => .ite (fun _ => .none d) (fun _ => ?_))
      have h0 : Touch partnerParts d { d with que := { d.que with caps := d.que.caps ++ [partnerCap id n op key o l] } } := by
        constructor <;> simp
      exact .some (S := partnerParts) (.next (h0.next (Dev.stampCap_touch ..)) (Dev.promote_touch ..))
    · exact .some hn

theorem answerRun_touch (id : Nat) (st : BitVec 16) (v : Nat) (b : Bytes) (d : Dev) : Touch dataParts d (answerRun id st v b d) := by
  unfold answerRun
  split
  · exact .refl _ d
  · extract_lets src d1
    have h1 : Touch dataParts d d1 := .setMir (.refl _ d) _ (ht := .inr rfl) (ha := .inr rfl)
    clear_value d1
    split
    · exact h1
    · extract_lets r
      exact .ite (fun _ => h1.trans (d1.endReader_touch ..)) (fun _ => h1.next (d1.finishFree_touch ..))

theorem Dev.joinNs_touch (d : Dev) (n : BitVec 12) (a b c : Bool) : Touch [.mir, .states] d (d.joinNs n a b c) :=
  .trans (.setMir (.refl _ d) _) (Dev.setNsState_touch ..)

theorem Dev.unmirror_touch (d : Dev) (m : MirrorNs) : Touch dataParts d (d.unmirror m) := by
  unfold Dev.unmirror
  exact .trans (.setMir (.next (d.setNsState_touch ..).of (Dev.cleanAll_touch ..)) _) (Dev.freeSome_touch ..)

theorem Dev.takeRole_touch (d : Dev) (e : RoleEntry) : Touch dataParts d (d.takeRole e) := by
  unfold Dev.takeRole
  split
  · exact .ite (fun _ => .next (d.dirtyAll_touch _).of (Dev.joinNs_touch ..)) (fun _ => .refl _ d)
  · exact .ite (fun _ => .refl _ d) (fun _ => (d.modMirror_touch ..).of)
  · exact .ite (fun _ => .refl _ d) (fun _ => d.unmirror_touch _)
  · exact .refl _ d

theorem Dev.takeLead_touch (d : Dev) (l : List (BitVec 12)) (k : Nat) : Touch [.mir, .states] d (d.takeLead l k) := by
  unfold Dev.takeLead
  extract_lets ms one
  refine .raise (Touch.foldl (fun d m => ?_) _ _) ..
  simp only [one]
  refine .ite (fun _ => .trans (d.modMirror_touch ..) (Dev.setNsState_touch ..)) (fun _ => .ite (fun _ => ?_) (fun _ => .ite (fun _ => ?_) (fun _ => ?_)))
  · exact .trans (d.modMirror_touch ..) (Dev.enterWaiting_touch ..)
  · exact .trans (.trans (d.modMirror_touch ..) (Dev.setNsState_touch ..)) (Dev.modMirror_touch ..)
  · exact .trans (d.modMirror_touch ..) (Dev.setNsState_touch ..)

theorem roleRun_touch (rs : List RoleEntry) (n : Nat) (d : Dev) : Touch pairParts d (roleRun rs n d) := by
  unfold roleRun
  extract_lets led d1
  have h1 : Touch pairParts d d1 := Touch.foldl (fun d e => (d.takeRole_touch e).of) _ _
  exact .ite (fun _ => h1) (fun _ => .next (h1.setMir _) (Dev.takeLead_touch ..))

theorem CwMsg.run_takes (x : CwMsg) (d : Dev) : Takes d (x.run d) := by
  cases x with
  | value r => exact valueRun_takes r d
  | patch r => exact d.onRecord_takes r false (Dev.patchApply_takes r)
  | delete r => exact d.onRecord_takes r false (Dev.deleteApply_takes r)
  | secureDelete r => exact d.onRecord_takes r false (Dev.secureApply_takes r)
  | mpBegin r => exact d.onUpload_takes r (Dev.mpBeginApply_takes r)
  | mpPart r => exact d.onUpload_takes r fun _ h d => Dev.mpPartApply_takes r h d
  | mpCommit r => exact d.onRecord_takes r false (Dev.mpCommitApply_takes r)
  | mpCancel r => exact d.onUpload_takes r fun _ _ d => Dev.mpCancelApply_takes r d
  | lost r => exact lostRun_takes r d
  | list n a b c es => exact listRun_takes n a b c es d
  | want n hs => exact wantRun_takes n hs d
  | applied n w vs f => exact .some (d.takeApplied_touch n w vs f)
  | read id n op key o l v => exact readRun_takes id n op key o l v d
  | answer id st v b => exact .some (answerRun_touch id st v b d)
  | role rs n => exact .some (roleRun_touch rs n d)

theorem Dev.cwDrainList_touch (l : List CwHeld) (blocked : List (BitVec 12)) (d : Dev) : Touch partnerParts d (d.cwDrainList blocked l) := by
  induction l generalizing blocked d with
  | nil => exact .refl _ d
  | cons x rest ih =>
    unfold Dev.cwDrainList
    refine .ite (fun _ => .refl _ d) (fun _ => .ite (fun _ => ih ..) (fun _ => ?_))
    split
    · next d1 h1 => exact .trans (.trans (d.unhold_touch x).of ((x.msg.run_takes _).touch d1 h1)) (ih ..)
    · exact ih ..

theorem Dev.cwArrive_touch (d : Dev) (h : CwHdr) (x : CwMsg) : Touch partnerParts d (d.cwArrive h x) := by
  unfold Dev.cwArrive
  extract_lets d1 src d2
  have h2 : Touch partnerParts d d2 := .setMir (.next (d.cwTake_touch ..).of (Dev.cwRecord_touch ..)) _
  clear_value d2
  exact .ite (fun _ => .refl _ d) (fun _ => .ite (fun _ => .next (.next (h2.trans (d2.cwDrainList_touch ..)) (Dev.cwSendAck_touch _)) (Dev.cwPump_touch _))
    (fun _ => .ite (fun _ => .next (d.cwTake_touch ..).of (Dev.cwSendAck_touch _)) (fun _ => .refl _ d)))

end Sys2Proof.Machine
end

section
/-! A namespace is made, a cartridge evacuated, a bucket listed, a read and an index page done; and what the data path leaves alone. -/

namespace Sys2Proof.Machine

theorem Dev.saltFor_touch (d : Dev) (supplied : Bool) (b : Bytes) : Touch [.fresh] d (d.saltFor supplied b).2 := by
  unfold Dev.saltFor
  split
  · exact .refl _ d
  · exact .draw (.refl _ d)

theorem Dev.addBuckets_touch (d : Dev) (n : BitVec 12) : Touch [.idx] d (d.addBuckets n) := .setIdx (.refl _ d) _

theorem nsCreateGo_touch (c : Cap) (d : Dev) : Touch (.spaces :: dataParts) d (nsCreateGo c d) := by
  refine d.check_touch c _ ?_
  have hs := d.saltFor_touch ((c.value.field 0 4).testBit 0) c.value
  split
  next salt d0 he =>
  rw [he] at hs
  have hd : Touch (.spaces :: dataParts) d d0.draw.2 := .draw hs.of
  split
  next key d1 hk =>
  rw [hk] at hd
  extract_lets n d2 d3
  have h2 : Touch (.spaces :: dataParts) d d2 := hd.trans (by constructor <;> simp [d2])
  have h3 : Touch (.spaces :: dataParts) d d3 := .raise (h2.next (d2.addBuckets_touch _)) ..
  exact .next (h3.next (d3.keepRecord_touch _)) (Dev.okWith_touch ..)

/-! ### Evacuation -/

theorem Dev.evacMatrix_touch (d : Dev) (c : Cap) {f : Dev → Dev} (hf : Touch (.cards :: dataParts) d (f d)) : Touch (.cards :: dataParts) d (d.evacMatrix c f) := by
  unfold Dev.evacMatrix
  have hm := d.maint_sent .evac
  split
  · exact hf
  · next d1 he => exact .next (.sent (.refl _ d) (by rwa [he] at hm)) (Dev.fail_touch ..)

theorem Dev.evacStart_touch (d : Dev) (c : Cap) : Touch (.cards :: dataParts) d (d.evacStart c) := by
  unfold Dev.evacStart
  extract_lets bay
  refine .ite (fun _ => (d.fail_touch ..).of) (fun _ => d.evacMatrix_touch c (.ite (fun _ => (d.fail_touch ..).of) (fun _ => ?_)))
  extract_lets n bytes d1 d2
  have h1 : Touch (.cards :: dataParts) d d1 := (d.modBay_cards ..).of
  have h2 : Touch (.cards :: dataParts) d d2 := .next (h1.raise ..) (Dev.refreshMode_touch ..)
  exact .next (.next (h2.next (d2.cartOk_touch ..)) (Dev.movesOn_touch _)) (Dev.evacCheck_touch _)

theorem evacuateGo_touch (c : Cap) (d : Dev) : Touch (.cards :: dataParts) d (evacuateGo c d) := by
  unfold evacuateGo
  split
  · exact d.check_touch c _ (d.evacStart_touch c)
  · exact d.check_touch c _ (d.cartOk_touch ..).of
  · exact d.check_touch c _ (.next (.next (d.modBay_cards ..).of (Dev.refreshMode_touch ..)) (Dev.cartOk_touch ..))
  · exact (d.fail_touch ..).of

/-! ### Reconciliation -/

theorem Dev.sendList_touch (d : Dev) (b : Bucket) : Touch [.mir] d (d.sendList b) := d.cwSend_touch ..

theorem Dev.resyncBucket_touch (d : Dev) (m : MirrorNs) (b : Bucket) : Touch dataParts d (d.resyncBucket m b) := by
  unfold Dev.resyncBucket
  extract_lets failed d1 d2
  refine .ite (fun _ => (d.sendList_touch b).of) (fun _ => .ite (fun _ => .refl _ d) (fun _ => ?_))
  have h1 : Touch dataParts d d1 := .ite (fun _ => .refl _ d) (fun _ => .trans (d.beginResync_touch ..).of (Dev.freeApplied_touch ..))
  have h2 : Touch dataParts d d2 := h1.next (d1.modMirror_touch ..)
  exact .next (h2.next (d2.modBucket_touch ..)) (Dev.sendList_touch ..)

theorem resyncBucketEff_touch (n : BitVec 12) (lo : BitVec 64) (d : Dev) : Touch dataParts d (resyncBucketEff n lo d) := by
  unfold resyncBucketEff
  refine .ite (fun _ => .refl _ d) (fun _ => ?_)
  have hm := d.maint_sent .rsync
  split
  · split
    · exact .ite (fun _ => .refl _ d) (fun _ => d.resyncBucket_touch ..)
    · exact .refl _ d
  · next d1 he => exact .sent (.refl _ d) (by rwa [he] at hm)

/-! ### Reads that are done -/

theorem Dev.moveRebuilt_touch (d : Dev) (loc gen : Nat) : Touch [.med, .bays] d (d.moveRebuilt loc gen) := by
  unfold Dev.moveRebuilt
  split
  · exact .ite (fun _ => d.beginBatch_touch ..) (fun _ => .refl _ d)
  · exact .refl _ d

theorem Dev.keyRead_touch (d : Dev) (k : KeyRead) (o : ReadReport) : Touch dataParts d (d.keyRead k o) := by
  unfold Dev.keyRead
  extract_lets src d0 d1
  have h0 : Touch dataParts d d0 := .setMed (.refl _ d) _
  have h1 : Touch dataParts d d1 := .next (h0.next (d0.countReads_touch _)) (Dev.reportEffects_touch ..)
  clear_value d1
  split
  · exact h1
  · split
    · exact h1.trans (d1.orPartner_touch ..)
    · exact h1.trans (d1.orPartner_touch ..)
    · exact h1.trans (d1.answerValue_touch ..)
    · exact h1

theorem nandReadDoneEff_touch (id : Nat) (o : ReadReport) (d : Dev) : Touch dataParts d (nandReadDoneEff id o d) := by
  unfold nandReadDoneEff
  refine .ite (fun _ => .refl _ d) (fun _ => ?_)
  split
  · split
    · exact .refl _ d
    · exact .trans (.trans (d.endOp_touch id).of (Dev.keyRead_touch ..)) (Dev.mediaAdvance_touch _)
    · exact .trans (.next (d.endOp_touch id).of (Dev.batchRead_touch ..)) (Dev.mediaAdvance_touch _)
  · next r _ =>
    extract_lets d1 unused
    have h1 : Touch dataParts d d1 := .next (d.endOp_touch id).of (Dev.countReads_touch ..)
    have hu (e : Dev) : Touch dataParts e (unused e) := by
      simp only [unused]
      split
      · exact .next (e.reportEffects_touch ..).of (Dev.dropRead_touch ..)
      · exact (e.dropRead_touch id).of
    clear_value d1 unused
    refine .ite (fun _ => h1.trans (hu d1)) (fun _ => ?_)
    split
    · exact h1.trans (hu d1)
    · refine .ite (fun _ => .trans (h1.trans (d1.copyRead_touch ..)) (Dev.mediaAdvance_touch _)) (fun _ => ?_)
      split
      · refine .ite (fun _ => h1.next (d1.modRead_touch ..)) (fun _ => .ite (fun _ => ?_) (fun _ => h1.trans (hu d1)))
        extract_lets d2
        have h2 : Touch dataParts d d2 := h1.trans (d1.serveRead_touch ..)
        exact .trans (.ite (fun _ => h2.next (d2.moveRebuilt_touch ..)) (fun _ => h2)) (Dev.mediaAdvance_touch _)
      · exact .ite (fun _ => h1.next (d1.modRead_touch ..)) (fun _ => h1.trans (hu d1))

theorem Dev.pageCached_touch (d : Dev) (b : Bucket) (f : Bucket → Bucket) : Touch dataParts d (d.pageCached b f) :=
  .trans (.next (.next (d.endPageRead_touch b).of (Dev.modBucket_touch ..)) (Dev.trimPages_touch _)) (Dev.capturePage_touch ..)

theorem indexPageReadDoneEff_touch (n : BitVec 12) (lo : BitVec 64) (o : PageOutcome) (d : Dev) :
    Touch dataParts d (indexPageReadDoneEff n lo o d) := by
  unfold indexPageReadDoneEff
  split
  · exact .refl _ d
  · split
    · exact d.pageCached_touch ..
    · exact .trans (d.rebuiltAt_touch ..).of (Dev.pageCached_touch ..)
    · exact .trans (.next (d.endPageRead_touch _).of (Dev.modBucket_touch ..)) (Dev.capturePage_touch ..)
    · refine .ite (fun _ => d.pageCached_touch ..) (fun _ => .ite (fun _ => ?_) (fun _ => ?_))
      · extract_lets t
        exact .trans (.raise (.draw (.refl _ d)) ..) (Dev.pageCached_touch ..)
      · exact .raise (.trans (.next (d.endPageRead_touch _).of (Dev.modBucket_touch ..))
          (Touch.foldl (fun d s => (d.readPage_touch ..).of) _ _)) ..

/-! ### The data path -/

theorem Dev.cwArrive_run {h : CwHdr} {x : CwMsg} {s t : State} (he : s.run (fun d => d.cwArrive h x) = .next t) :
    Touch (.spaces :: .epochs :: partnerParts) s.dev t.dev := (Touch.run he fun d => d.cwArrive_touch h x).of

theorem exec_dataPath_touch {i : Instr} {s t : State} (hi : isDataPath i = true) (h : exec i s = .next t) :
    Touch (.spaces :: .epochs :: partnerParts) s.dev t.dev := by
  cases i with
  | get seq => exact (Touch.run h fun d => d.dispatch_touch seq _ Dev.readerGo_touch).of
  | exists_ seq => exact (Touch.run h fun d => d.dispatch_touch seq _ Dev.readerGo_touch).of
  | scanPrefix seq => exact (Touch.run h (scanPrefixEff_touch seq)).of
  | mpBegin seq => exact (Touch.run h fun d => d.dispatch_touch seq _ Dev.mpBeginGo_touch).of
  | mpPart seq => exact (Touch.run h (mpPartEff_touch seq)).of
  | mpCancel seq => exact (Touch.run h (mpCancelEff_touch seq)).of
  | writerResolve seq g => exact (Touch.run h (writerResolveEff_touch seq g)).of
  | readerReplyPlace seq => exact (Touch.run h (readerReplyPlaceEff_touch seq)).of
  | journalRecordCommit j => exact (Touch.run h (journalRecordCommitEff_touch j)).of
  | mpIdleTimeout id => exact (Touch.run h (mpIdleTimeoutEff_touch id)).of
  | nsCreate seq => exact (Touch.run h fun d => d.admin_touch seq _ _ nsCreateGo_touch).of
  | evacuateStart seq => exact (Touch.run h fun d => d.admin_touch seq _ _ evacuateGo_touch).of
  | evacuateStatus seq => exact (Touch.run h fun d => d.admin_touch seq _ _ evacuateGo_touch).of
  | evacuateCancel seq => exact (Touch.run h fun d => d.admin_touch seq _ _ evacuateGo_touch).of
  | epochEndRecordDurable => exact (Touch.run h epochEndRecordDurableEff_touch).of
  | indexPageReadDone n lo o => exact (Touch.run h (indexPageReadDoneEff_touch n lo o)).of
  | nandReadDone id o => exact (Touch.run h (nandReadDoneEff_touch id o)).of
  | resyncBucket n lo => exact (Touch.run h (resyncBucketEff_touch n lo)).of
  | valueRecord x r => exact Dev.cwArrive_run h
  | patchRecord x r => exact Dev.cwArrive_run h
  | deleteRecord x r => exact Dev.cwArrive_run h
  | secureDeleteRecord x r => exact Dev.cwArrive_run h
  | mpBeginRecord x r => exact Dev.cwArrive_run h
  | mpPartRecord x r => exact Dev.cwArrive_run h
  | mpCommitRecord x r => exact Dev.cwArrive_run h
  | mpCancelRecord x r => exact Dev.cwArrive_run h
  | lostRecord x r => exact Dev.cwArrive_run h
  | listRecord x => exact Dev.cwArrive_run h
  | wantRecord x => exact Dev.cwArrive_run h
  | appliedRecord x => exact Dev.cwArrive_run h
  | roleRecord x => exact Dev.cwArrive_run h
  | partnerRead x => exact Dev.cwArrive_run h
  | partnerReadReply x => exact Dev.cwArrive_run h
  | _ => exact absurd hi Bool.false_ne_true

/-- Settles O51: what each command of the data path changes, memory, power, updates and the ring are not among it. -/
theorem dataPathLeavesPowerAndUpdatesAlone : Obligations.DataPathLeavesPowerAndUpdatesAlone := by
  intro i s t hi h
  have ht := exec_dataPath_touch hi h
  exact ⟨ht.mem (by simp), ht.pow (by simp), ht.upd (by simp), ht.ring (by simp)⟩

end Sys2Proof.Machine
end

section
/-! An `ABORT` that catches a walk not yet sequenced. -/

namespace Sys2Proof.Machine.Corner

/- An evaluation by the kernel waits for all that stands before it; one after the other, the waiting threads do not pile up. -/
set_option Elab.async false

/-- A `SCAN_PREFIX` that has not been sequenced, to resume from cursor 5. -/
def waitingScan : Cap :=
  let c := capsule Op.scanPrefix 0 []
  { c with stage := .assembled, seq := 0, hdr := { c.hdr with offset := 5 } }

/-- An `ABORT` of it, further on in the stream of the session. -/
def scanAbort : Cap :=
  let c := capsule Op.abort 0 []
  { c with stage := .assembled, seq := 0, tag := 10, start := 96, hdr := { c.hdr with tag := 10, offset := 9 } }

theorem scan_caught : (after (.abort 1 10) (drive [waitingScan, scanAbort])).out.contains (.reply 1 9 Status.aborted 0 true []) = false := by
  decide +kernel

/-- Refutes O6: the final reply of a walk that is caught names the cursor it resumes from (R74), here 5. -/
theorem not_sequencingAndAbort : ¬ Obligations.SequencingAndAbort := by
  intro h
  obtain ⟨t, ht, ⟨he, -⟩, -⟩ := h.2.1 (at_ (drive [waitingScan, scanAbort])) 1 10 scanAbort waitingScan (by decide +kernel) (by decide +kernel)
    (by decide +kernel) rfl (by decide +kernel) (by decide +kernel) rfl rfl (by decide) (by decide +kernel)
  exact not_emits ht scan_caught he

end Sys2Proof.Machine.Corner
end

section
/-! Readers of a version that Drift holds complete (R94, R95, R127). -/

namespace Sys2Proof.Machine

/-! ### A reader ends -/

theorem Dev.endReader_answered (d : Dev) (c : Cap) (r : Reply) (hp : c.partner = none) (hs : (d.session? c.sid).isSome = true)
    (hm : r.more = false) : Machine.answered d (d.endReader c r) c r.status r.version r.data := by
  unfold Dev.endReader
  extract_lets d1 d2
  have h0 : Touch [.que, .pol, .med, .idx] d (((d.correctGet c r.data.length).squashOf c.seq 2).withdrawPrefetch c.seq) :=
    .next (.next (d.correctGet_touch ..).of (Dev.squashOf_touch ..)) (Dev.withdrawPrefetch_touch ..)
  have hs0 := (Dev.session?_isSome_of_steady (h0.net (by simp)) c.sid).trans hs
  have h1 : Machine.answered d d1 c r.status r.version r.data := (Dev.finishFree_answered _ c r hp hs0 hm).earlier h0.out
  have h2 : Machine.answered d d2 c r.status r.version r.data := by
    simp only [d2]
    split
    · exact h1.later (d1.bump_sent ..).out (List.Subset.refl _)
    · exact h1
  clear_value d2
  split
  · exact answered_of_touch h2 (d2.releaseVer_touch _)
  · exact h2

theorem find?_patched_of_rangeBad {bad : List Nat} {o n : Nat} (h : rangeBad bad o n = false) : bad.find? (fun i => patched o n i) = none := by
  rw [List.find?_eq_none]
  intro x hx
  exact List.any_eq_false.mp h x hx

/-- A `GET` of a range that can be read is answered with its bytes. -/
theorem Dev.serveBuffered_get {c : Cap} {v : Version} {b : Bytes} {o n : Nat} (d : Dev) (hop : c.hdr.opcode = Op.get)
    (hc : v.content = some b) (hr : rangeOf c.hdr b.length = some (o, n)) (hb : rangeBad v.bad o n = false)
    (hk : checkFail b v.checks (chunksOf o n) = none) :
    d.serveBuffered c v = d.endReader c { Reply.ver Status.ok v.seq with data := (b.drop o).take n, fromBuffer := true } := by
  simp [Dev.serveBuffered, badChunk, bufferedReply, hop, hc, hr, hb, hk, find?_patched_of_rangeBad hb]

/-- An `EXISTS` is answered without bytes. -/
theorem Dev.serveBuffered_exists {c : Cap} {v : Version} {b : Bytes} (d : Dev) (hop : c.hdr.opcode = Op.exists_) (hc : v.content = some b) :
    d.serveBuffered c v = d.endReader c { Reply.ver Status.ok v.seq with len := some b.length, fromBuffer := true } := by
  simp [Dev.serveBuffered, badChunk, bufferedReply, hop, hc]

theorem Dev.placeBuffered_free {c : Cap} (v : Version) (d : Dev) (h : d.nsBusy c.hdr.ns c.seq = false) :
    d.placeBuffered c v = d.serveBuffered c v := by
  unfold Dev.placeBuffered
  rw [if_neg (by simp [h])]

/-! ### What a reader finds open -/

/-- A bucket without its page. -/
def Bucket.range (b : Bucket) : BitVec 12 × Nat × Nat × BayNo × Option BayNo := (b.ns, b.lo, b.hi, b.home, b.movingFrom)

/-- Reads of pages leave the buckets' ranges and cartridges. -/
def SameRanges (d e : Dev) : Prop := e.idx.buckets.map Bucket.range = d.idx.buckets.map Bucket.range

theorem SameRanges.refl (d : Dev) : SameRanges d d := Eq.refl _

theorem SameRanges.trans {d e f : Dev} (h : SameRanges d e) (g : SameRanges e f) : SameRanges d f := Eq.trans g h

theorem SameRanges.of_idx {d e : Dev} (h : e.idx = d.idx) : SameRanges d e := by
  unfold SameRanges
  rw [h]

theorem Dev.modBucket_ranges (d : Dev) (n : BitVec 12) (lo : Nat) {f : Bucket → Bucket} (hf : ∀ b, (f b).range = b.range) :
    SameRanges d (d.modBucket n lo f) := by
  unfold SameRanges Dev.modBucket
  rw [List.map_map]
  refine List.map_congr_left fun b _ => ?_
  dsimp only [Function.comp]
  split
  · exact hf b
  · rfl

theorem Dev.issueOp_ranges (d : Dev) (o : GovOp) : SameRanges d (d.issueOp o) := .of_idx ((d.issueOp_touch o).idx (by simp))

theorem Dev.readPage_ranges (d : Dev) (n : BitVec 12) (lo seq : Nat) : SameRanges d (d.readPage n lo seq) := by
  unfold Dev.readPage
  split
  · dsimp only
    split
    · exact d.modBucket_ranges _ _ fun _ => rfl
    · refine .trans ?_ (Dev.issueOp_ranges ..)
      exact Dev.modBucket_ranges _ _ _ fun _ => rfl
  · exact .refl d

theorem Dev.prefetch_ranges (d : Dev) (n : BitVec 12) (lo seq : Nat) : SameRanges d (d.prefetch n lo seq) := by
  unfold Dev.prefetch
  split
  · split
    · exact .refl d
    · split
      · exact d.readPage_ranges ..
      · exact (d.readPage_ranges ..).trans (Dev.modBucket_ranges _ _ _ fun _ => rfl)
  · exact .refl d

theorem SameRanges.foldl {α : Type} {f : Dev → α → Dev} (hf : ∀ d a, SameRanges d (f d a)) (l : List α) (d : Dev) :
    SameRanges d (l.foldl f d) := by
  induction l generalizing d with
  | nil => exact .refl d
  | cons a l ih => exact (hf d a).trans (ih _)

theorem Dev.batchPrefetch_ranges (d : Dev) (c : Cap) : SameRanges d (d.batchPrefetch c) := by
  unfold Dev.batchPrefetch
  dsimp only
  split
  · exact SameRanges.foldl (fun d p => d.prefetch_ranges ..) _ _
  · exact .refl d

/-- Whether a cartridge turns a key away is a matter of the ranges and the bays. -/
def awayIn (bays : Vector Bay 4) (r : BitVec 12 × Nat × Nat × BayNo × Option BayNo) (seq : Nat) : Bool :=
  (bays.get r.2.2.2.1).turnsAway seq || (match r.2.2.2.2 with
    | some m => (bays.get m).turnsAway seq
    | none => false)

theorem Dev.turnedAway_eq (d : Dev) (n : BitVec 12) (h : BitVec 128) (seq : Nat) :
    d.turnedAway n h seq = match (d.idx.buckets.map Bucket.range).find? (fun r =>
        r.1 == n && decide (r.2.1 ≤ high64 h) && decide (high64 h ≤ r.2.2.1)) with
      | some r => awayIn d.bays r seq
      | none => false := by
  rw [List.find?_map]
  change (match d.idx.buckets.find? (fun b => b.covers n h) with | some b => d.bucketAway b seq | none => false) = _
  change _ = match (d.idx.buckets.find? (fun b => b.covers n h)).map Bucket.range with
    | some r => awayIn d.bays r seq
    | none => false
  cases d.idx.buckets.find? (fun b => b.covers n h) <;> rfl

theorem SameRanges.turnedAway {d e : Dev} (h : SameRanges d e) (hb : e.bays = d.bays) (n : BitVec 12) (k : BitVec 128) (seq : Nat) :
    e.turnedAway n k seq = d.turnedAway n k seq := by
  rw [Dev.turnedAway_eq, Dev.turnedAway_eq, h, hb]

/-- The same drive for a reader: reads of pages and of values may have begun, and its own capsule may have moved on. -/
structure SameFor (q : Nat) (d e : Dev) : Prop where
  touch : Touch [.que, .idx, .med] d e
  ranges : SameRanges d e
  drift : e.que.drift = d.que.drift
  caps : ∀ x ∈ e.que.caps, x ∈ d.que.caps ∨ x.seq = q

theorem SameFor.trans {q : Nat} {d e f : Dev} (h : SameFor q d e) (g : SameFor q e f) : SameFor q d f :=
  ⟨h.touch.trans g.touch, h.ranges.trans g.ranges, g.drift.trans h.drift, fun x hx => (g.caps x hx).elim (h.caps x) .inr⟩

theorem SameFor.of_touch {q : Nat} {S : List DevPart} {d e : Dev} (h : Touch S d e) (hr : SameRanges d e)
    (hs : autoParam (S ⊆ [.idx, .med]) List.nodup_range'._auto_1) : SameFor q d e := by
  have hq : e.que = d.que := (h.mono hs).que (by simp)
  exact ⟨h.mono (List.Subset.trans hs (by simp)), hr, by rw [hq], fun x hx => .inl (hq ▸ hx)⟩

theorem SameFor.hashOf {q : Nat} {d e : Dev} (h : SameFor q d e) (n : BitVec 12) (k : Bytes) : e.hashOf n k = d.hashOf n k := by
  unfold Dev.hashOf Dev.nsOf
  rw [h.touch.ns (by simp)]

theorem SameFor.capHash {q : Nat} {d e : Dev} (h : SameFor q d e) (x : Cap) : e.capHash x = d.capHash x := h.hashOf ..

theorem SameFor.turn {c : Cap} {d e : Dev} (h : SameFor c.seq d e) (ht : d.turn c = true) : e.turn c = true := by
  unfold Dev.turn Dev.earlierWriters at ht ⊢
  rw [List.isEmpty_iff, List.filter_eq_nil_iff] at ht ⊢
  intro x hx
  obtain hx | hx := h.caps x hx
  · have hx := ht x hx
    rwa [← h.capHash, ← h.capHash] at hx
  · simp [hx]

theorem SameFor.nsBusy {c : Cap} {d e : Dev} (h : SameFor c.seq d e) {n : BitVec 12} (hb : d.nsBusy n c.seq = false) :
    e.nsBusy n c.seq = false := by
  unfold Dev.nsBusy at hb ⊢
  rw [Bool.or_eq_false_iff] at hb ⊢
  refine ⟨by rw [h.touch.sec (by simp)]; exact hb.1, ?_⟩
  rw [List.any_eq_false]
  intro x hx
  obtain hx | hx := h.caps x hx
  · exact List.any_eq_false.mp hb.2 x hx
  · simp [hx]

theorem SameFor.mirror? {q : Nat} {d e : Dev} (h : SameFor q d e) (n : BitVec 12) : e.mirror? n = d.mirror? n := by
  unfold Dev.mirror?
  rw [h.touch.mir (by simp)]

theorem SameFor.follows {q : Nat} {d e : Dev} (h : SameFor q d e) (n : BitVec 12) : e.follows n = d.follows n := by
  unfold Dev.follows
  rw [h.mirror?]

theorem SameFor.mirrorGate {q : Nat} {d e : Dev} (h : SameFor q d e) (n : BitVec 12) (w s : Bool) : e.mirrorGate n w s = d.mirrorGate n w s := by
  unfold Dev.mirrorGate
  rw [h.mirror?]

theorem SameFor.readPermit {q : Nat} {d e : Dev} (h : SameFor q d e) : e.readPermit = d.readPermit := by
  have hc : e.clk.steady = d.clk.steady := h.touch.clk (by simp)
  have ht : e.clk.steady.tick = d.clk.steady.tick := by rw [hc]
  change e.clk.tick = d.clk.tick at ht
  unfold Dev.readPermit Dev.linked Dev.pnum
  rw [h.touch.mir (by simp), h.touch.par (by simp), ht]

theorem SameFor.followerServes {q : Nat} {d e : Dev} (h : SameFor q d e) (n : BitVec 12) : e.followerServes n = d.followerServes n := by
  unfold Dev.followerServes Dev.pflag Dev.pnum
  rw [h.mirror?, h.readPermit, h.touch.par (by simp)]

theorem SameFor.openKey {c : Cap} {d e : Dev} (h : SameFor c.seq d e) (ho : openKey d c) : openKey e c := by
  obtain ⟨hturn, hgate, hserve, haway, hdup, hbusy, hfollow⟩ := ho
  refine ⟨h.turn hturn, ?_, ?_, ?_, ?_, h.nsBusy hbusy, ?_⟩
  · rw [h.mirrorGate, hgate]
  · rw [h.followerServes, hserve]
  · rw [h.ranges.turnedAway (h.touch.bays (by simp)), h.capHash, haway]
  · rw [h.touch.gale (by simp), h.capHash, hdup]
  · rw [h.follows, hfollow]

theorem SameFor.driftBelow {q : Nat} {d e : Dev} (h : SameFor q d e) (n : BitVec 12) (k : BitVec 128) (s : Nat) :
    e.driftBelow n k s = d.driftBelow n k s := by
  unfold Dev.driftBelow Dev.buffered
  rw [h.drift]

theorem SameFor.session {q : Nat} {d e : Dev} (h : SameFor q d e) (sid : BitVec 32) : (e.session? sid).isSome = (d.session? sid).isSome :=
  Dev.session?_isSome_of_steady (h.touch.net (by simp)) sid

/-! ### A reader takes the version -/

theorem Dev.dispatchAs_sameFor {d : Dev} {c : Cap} (h : ∀ x ∈ d.que.caps, x.sid = c.sid → x = c) (k : Nat) : SameFor c.seq d (d.dispatchAs c k) := by
  refine ⟨(d.dispatchAs_touch c k).of, .of_idx (by simp), d.dispatchAs_drift c k, fun x hx => ?_⟩
  rw [d.dispatchAs_caps, Dev.modCap] at hx
  obtain ⟨y, hy, rfl⟩ := List.mem_map.mp hx
  split
  · next he =>
    have he : y.sid = c.sid := eq_of_beq (Bool.and_eq_true_iff.mp he).1
    exact .inr (show y.seq = c.seq by rw [h y hy he])
  · exact .inl hy

theorem Dev.prepared_sameFor (d : Dev) (c x : Cap) : SameFor c.seq d ((d.forecast x).batchPrefetch x) :=
  .trans (.of_touch (d.forecast_touch x) (.of_idx ((d.forecast_touch x).idx (by simp))))
    (.of_touch (Dev.batchPrefetch_touch ..) (Dev.batchPrefetch_ranges ..))

theorem Dev.endPageRead_ranges (d : Dev) (b : Bucket) : SameRanges d (d.endPageRead b) :=
  .trans (e := d.modBucket b.ns b.lo (fun x => { x with reading := false, readId := 0, wanted := [] }))
    (d.modBucket_ranges _ _ fun _ => rfl) (.of_idx ((Dev.endOp_touch ..).idx (by simp)))

theorem Dev.withdrawPrefetch_ranges (d : Dev) (seq : Nat) : SameRanges d (d.withdrawPrefetch seq) := by
  unfold Dev.withdrawPrefetch
  refine SameRanges.foldl (fun d b => ?_) _ _
  split
  · refine .trans ?_ (Dev.endPageRead_ranges ..)
    exact d.modBucket_ranges _ _ fun _ => rfl
  · exact d.modBucket_ranges _ _ fun _ => rfl

/-- A reader that has captured a buffered version. -/
abbrev Cap.holding (c : Cap) (v : Version) : Cap := { c with captured := some (.buffered v.seq) }

/-- The drive once a reader has captured a buffered version: its prefetches and its read of flash have gone. -/
def Dev.withCaptured (d : Dev) (c : Cap) (v : Version) : Dev :=
  ((((d.countSearch .directory true).withdrawPrefetch c.seq).modCap c (fun _ => (c.holding v)))).squashOf c.seq 1

theorem Dev.withCaptured_sameFor (d : Dev) (c : Cap) (v : Version) : SameFor c.seq d (d.withCaptured c v) := by
  have h1 : SameFor c.seq d (d.countSearch .directory true) :=
    .of_touch (S := []) ((d.countSearch_sent ..).touch []) (.of_idx rfl)
  have h2 := h1.trans (.of_touch (Dev.withdrawPrefetch_touch _ c.seq) (Dev.withdrawPrefetch_ranges _ c.seq))
  refine .trans (h2.trans ?_) (.of_touch (Dev.squashOf_touch ..) (.of_idx ((Dev.squashOf_touch ..).idx (by simp))))
  refine ⟨(Dev.modCap_touch _ c (fun _ => (c.holding v)) (fun _ => .inr rfl)).of, .of_idx rfl, rfl, fun x hx => ?_⟩
  obtain ⟨y, hy, rfl⟩ := List.mem_map.mp hx
  split
  · exact .inr rfl
  · exact .inl hy

/-- A reader whose key has a complete version in Drift captures it and is served from it. -/
theorem Dev.capture_done {d : Dev} {c : Cap} {v : Version} (ho : openKey d c) (hv : d.driftBelow c.hdr.ns (d.capHash c) c.seq = some v)
    (hk : v.key = c.key) (hd : v.done = true) :
    d.capture c = (d.withCaptured c v).serveBuffered (c.holding v) v := by
  have hbusy := (d.withCaptured_sameFor c v).nsBusy ho.2.2.2.2.2.1
  obtain ⟨-, hgate, hserve, haway, hdup, -, hfollow⟩ := ho
  have hdup : (c.hdr.ns, d.capHash c) ∉ d.gale.dupKeys := by simpa using hdup
  have hf : d.driftFor c.hdr.ns (d.capHash c) c.key c.seq = some v := by simp [Dev.driftFor, hv, hk]
  rw [← Dev.placeBuffered_free (c := c.holding v) v _ hbusy]
  unfold Dev.capture
  simp [hgate, hserve, haway, hdup, hf, hk, hd, hfollow, Dev.withCaptured]

theorem ready.reads {d : Dev} {seq : Nat} {op : BitVec 16} {c : Cap} {v : Version} (h : ready d seq op c) (ho : openKey d c)
    (halone : ∀ x ∈ d.que.caps, x.sid = c.sid → x = c) (hv : d.driftBelow c.hdr.ns (d.capHash c) c.seq = some v)
    (hk : v.key = c.key) (hd : v.done = true) :
    ∃ e : Dev, d.dispatch seq (fun h => h.opcode == op) Dev.readerGo = e.serveBuffered (c.sent.holding v) v ∧
      d.out <:+ e.out ∧ (e.session? c.sid).isSome = true := by
  have h1 : SameFor c.seq d (((d.dispatchAs c c.cls).forecast c.sent).batchPrefetch c.sent) :=
    (Dev.dispatchAs_sameFor halone c.cls).trans (Dev.prepared_sameFor _ c c.sent)
  have h2 := h1.trans ((Dev.withCaptured_sameFor _ c.sent v) : SameFor c.seq _ _)
  refine ⟨_, ?_, h2.touch.out, (h2.session c.sid).trans h.2.2.2.2⟩
  rw [Dev.dispatch_ready h _ (by simp [h.2.1])]
  unfold Dev.readerGo
  extract_lets e
  have ht : e.turn c.sent = true := h1.turn ho.1
  rw [if_pos ht]
  refine Dev.capture_done (h1.openKey ho) ?_ hk hd
  rw [← hv, ← h1.capHash]
  exact h1.driftBelow ..

/-- Settles O7: a reader at its turn is served from the complete version, as is one that captured it before. -/
theorem readersAnswerFromDrift : Obligations.ReadersAnswerFromDrift := by
  refine ⟨?get, ?exists_, ?place⟩
  case get =>
    intro s seq c v b o n h ho halone hv hk hd hc hr hb hf
    obtain ⟨e, he, hout, hs⟩ := h.reads ho halone hv hk hd
    refine ⟨_, State.run_of_eq (he.trans (e.serveBuffered_get (c := (c.sent.holding v)) h.2.1 hc hr hb hf)), ?_⟩
    exact answered.reported ((e.endReader_answered (c.sent.holding v) _ h.2.2.2.1 hs rfl).earlier hout)
  case exists_ =>
    intro s seq c v b h ho halone hv hk hd hc
    obtain ⟨e, he, hout, hs⟩ := h.reads ho halone hv hk hd
    refine ⟨_, State.run_of_eq (he.trans (e.serveBuffered_exists (c := (c.sent.holding v)) h.2.1 hc)), ?_⟩
    exact answered.reported ((e.endReader_answered (c.sent.holding v) _ h.2.2.2.1 hs rfl).earlier hout)
  case place =>
    intro s seq c v b o n hcap hop hstage hfw hp hs hcaptured hver hd hfollow hbusy hc hr hb hf
    have he : readerReplyPlaceEff seq s.dev = s.dev.serveBuffered c v := by
      rw [← Dev.placeBuffered_free v _ hbusy]
      simp [readerReplyPlaceEff, hcap, hop, hstage, hfw, hcaptured, Dev.replyBuffered, hver, hd, hfollow, isReader]
    rw [Dev.serveBuffered_get s.dev hop hc hr hb hf] at he
    exact ⟨_, State.run_of_eq he, answered.reported (s.dev.endReader_answered c _ hp hs rfl)⟩

end Sys2Proof.Machine
end

section
/-! A `FORMAT` that stands at the place of another capsule in the stream of their session looks dispatched once that one is. -/

namespace Sys2Proof.Machine.Corner

/- An evaluation by the kernel waits for all that stands before it; one after the other, the waiting threads do not pile up. -/
set_option Elab.async false

/-- A `FLUSH` of namespace 5. -/
def flushing : Cap := capsule Op.flush 2 []

/-- A `FORMAT` of namespace 5 at the same place, still being received. -/
def received : Cap := { capsule Op.format 0 (zeroBytes 8) with seq := 0, stage := .receiving }

theorem flushing_ready : ready (drive [flushing, received]) 7 Op.flush flushing ∧
    (drive [flushing, received]).mirrorGate flushing.hdr.ns false false = none ∧
    (drive [flushing, received]).nsBusy flushing.hdr.ns flushing.seq = false := by
  decide +kernel

theorem flushing_refused : (after (.flush 7) (drive [flushing, received])).que.flushes = [] := by decide +kernel

/-- Refutes O11: a dispatch marks every capsule at the place of its own, so the namespace of the `FLUSH` is busy, and it does not wait. -/
theorem not_flushScanAndShareWindow : ¬ Obligations.FlushScanAndShareWindow := by
  intro h
  obtain ⟨hready, hgate, hbusy⟩ := flushing_ready
  obtain ⟨t, ht, hm⟩ := h.1 (at_ (drive [flushing, received])) 7 flushing hready hgate hbusy
  rw [after_eq ht, flushing_refused] at hm
  cases hm

/-- An `MP_BEGIN` in namespace 5. -/
def beginning : Cap := capsule Op.mpBegin 2 []

/-- A drive whose first bay is in service. -/
def serving (cs : List Cap) : Dev :=
  let d := drive cs
  { d with bays := d.bays.set 0 { d.bays.get 0 with state := .inService } }

theorem beginning_ready : ready (serving [beginning, received]) 7 Op.mpBegin beginning ∧
    (serving [beginning, received]).mirrorGate beginning.hdr.ns true false = none ∧
    (serving [beginning, received]).nsBusy beginning.hdr.ns beginning.seq = false ∧
    (serving [beginning, received]).idx.uploads.length < (serving [beginning, received]).pnum P.indexMpUploadsMax := by
  decide +kernel

theorem beginning_fits (h : BitVec 128) : (serving [beginning, received]).binds space h 0 (uploadReserve 0) 0 false = .none := by
  have hc : (serving [beginning, received]).userCapacity = 56000000000000 := by decide +kernel
  have hu : (serving [beginning, received]).usage = 0 := by decide +kernel
  simp [Dev.binds, hc, hu, space, Namespace.usage, uploadReserve]

theorem beginning_served (h : BitVec 128) : (serving [beginning, received]).serves ((serving [beginning, received]).homeOf 5 h) = true ∧
    (serving [beginning, received]).turnedAway 5 h 7 = false := ⟨rfl, rfl⟩

theorem beginning_refused : (after (.mpBegin 7) (serving [beginning, received])).idx.uploads = [] := by decide +kernel

/-- Refutes O10: a dispatch marks every capsule at the place of its own, so the namespace of the `MP_BEGIN` is busy, and no upload opens. -/
theorem not_uploadsOpenAndClose : ¬ Obligations.UploadsOpenAndClose := by
  intro h
  obtain ⟨hready, hgate, hbusy, hroom⟩ := beginning_ready
  obtain ⟨hserves, haway⟩ := beginning_served ((serving [beginning, received]).capHash beginning)
  obtain ⟨t, ht, -, u, hu, -⟩ := h.1 (at_ (serving [beginning, received])) 7 beginning space hready hgate rfl (by decide) hbusy hroom
    (beginning_fits _) hserves haway
  rw [after_eq ht, beginning_refused] at hu
  cases hu

/-- A `FORMAT` of namespace 5. -/
def clearing : Cap := capsule Op.format 0 (1#8 :: 1#8 :: zeroBytes 30)

theorem clearing_ready : ready (drive [clearing, received]) 7 Op.format clearing ∧ (drive [clearing, received]).sanCheckReq clearing = none ∧
    ((drive [clearing, received]).maintCell (sanActivity clearing)).1 = .r ∧
    (drive [clearing, received]).earlierWork clearing.seq (if clearing.value.field 0 1 == 1 then some clearing.hdr.ns else none) = false := by
  decide +kernel

theorem clearing_refused : (after (.formatClear 7) (drive [clearing, received])).sec.sanitise = [] := by decide +kernel

/-- Refutes O28: a dispatch marks every capsule at the place of its own, so another request runs, and the `FORMAT` enters no record. -/
theorem not_sanitiseIsRecorded : ¬ Obligations.SanitiseIsRecorded := by
  intro h
  obtain ⟨hready, hcheck, hcell, hwork⟩ := clearing_ready
  obtain ⟨t, ht, ⟨r, hr, -⟩, -⟩ := h.1 (at_ (drive [clearing, received])) 7 clearing hready hcheck (.inl hcell) hwork
  rw [after_eq ht, clearing_refused] at hr
  cases hr

end Sys2Proof.Machine.Corner
end

section
/-! `READ_LOG` and `EVENT_SUBSCRIBE` (R356, R364 to R366). -/

namespace Sys2Proof.Machine

/-! ### What a dispatch leaves of the logs -/

theorem bumpList_lookup_of_ne (l : List (Ctr × BitVec 64)) {c x : Ctr} (n : Nat) (h : x ≠ c) : (bumpList l c n).lookup x = l.lookup x := by
  have hb : (x == c) = false := beq_eq_false_iff_ne.mpr h
  induction l with
  | nil => simp [bumpList, List.lookup, hb]
  | cons p l ih =>
    obtain ⟨k, v⟩ := p
    unfold bumpList
    split
    · next hk =>
      subst hk
      simp [List.lookup, hb]
    · simp only [List.lookup, ih]

theorem Dev.count_bump_of_ne (d : Dev) {c x : Ctr} (n : Nat) (h : x ≠ c) : (d.bump c n).count x = d.count x := by
  unfold Dev.count Dev.bump
  rw [bumpList_lookup_of_ne _ n h]

theorem Dev.countToken_count_of_ne (d : Dev) (c : Cap) {x : Ctr} (h : x ≠ .ns c.hdr.ns .tokens) : (d.countToken c).count x = d.count x := by
  unfold Dev.countToken
  split
  · exact d.count_bump_of_ne 1 h
  · rfl

/-- The counters of a dispatch are those of its class, its tenant and its token. -/
theorem Dev.dispatchAs_count (d : Dev) (c : Cap) (k : Nat) {x : Ctr} (h1 : x ≠ .classCaps k) (h2 : x ≠ .classUnits k) (h3 : x ≠ .tenantCaps c.tenant)
    (h4 : x ≠ .tenantUnits c.tenant) (h5 : x ≠ .ns c.hdr.ns .tokens) : (d.dispatchAs c k).count x = d.count x := by
  unfold Dev.dispatchAs
  rw [Dev.countToken_count_of_ne _ _ h5]
  exact (Dev.count_bump_of_ne _ _ h4).trans ((Dev.count_bump_of_ne _ _ h3).trans ((Dev.count_bump_of_ne _ _ h2).trans (Dev.count_bump_of_ne _ _ h1)))

theorem Dev.dispatchAs_histEntry (d : Dev) (c : Cap) (k : Nat) (t : Tenant) : (d.dispatchAs c k).histEntry t = d.histEntry t := by
  unfold Dev.histEntry
  have h1 (a b : Nat) : (d.dispatchAs c k).count (.hist t.id a b) = d.count (.hist t.id a b) := d.dispatchAs_count c k nofun nofun nofun nofun nofun
  have h2 (a : Nat) : (d.dispatchAs c k).count (.histSum t.id a) = d.count (.histSum t.id a) := d.dispatchAs_count c k nofun nofun nofun nofun nofun
  simp only [h1, h2, Dev.dispatchAs_ev]

theorem Dev.dispatchAs_charged (d : Dev) (c : Cap) (k : Nat) : (d.dispatchAs c k).charged = d.charged := by
  funext x
  unfold Dev.charged
  rw [Dev.dispatchAs_med, Dev.dispatchAs_drift]

theorem Dev.dispatchAs_wearEntry (d : Dev) (c : Cap) (k : Nat) (b : BayNo) : (d.dispatchAs c k).wearEntry b = d.wearEntry b := by
  have hc := d.dispatchAs_charged c k
  have hfill : (d.dispatchAs c k).fill b = d.fill b := by
    unfold Dev.fill Dev.bucketBytes
    simp only [hc, Dev.dispatchAs_med, Dev.dispatchAs_idx]
  have hlimit : (d.dispatchAs c k).slcLimit b = d.slcLimit b := by
    unfold Dev.slcLimit Dev.chargedOn Dev.pnum Dev.serviceCount Dev.baysIn
    simp only [hc, Dev.dispatchAs_med, Dev.dispatchAs_par, Dev.dispatchAs_bays]
  unfold Dev.wearEntry
  rw [hfill, hlimit, Dev.dispatchAs_bays]

/-- The logs stand while a capsule is dispatched. -/
theorem Dev.dispatchAs_logEntries (d : Dev) (c : Cap) (k : Nat) (x : Cap) : (d.dispatchAs c k).logEntries x = d.logEntries x := by
  have hh := d.dispatchAs_histEntry c k
  have hw := d.dispatchAs_wearEntry c k
  have hq : (d.dispatchAs c k).que.deferred = d.que.deferred := by rw [Dev.dispatchAs_que]
  have hu : (d.dispatchAs c k).updEntry 0 = d.updEntry 0 := by
    rw [Dev.dispatchAs_eq]
    rfl
  have hb : (d.dispatchAs c k).barograph = d.barograph := by
    rw [Dev.dispatchAs_eq]
    rfl
  have ho : (d.dispatchAs c k).isOperator x.tenant = d.isOperator x.tenant := by simp [Dev.isOperator]
  have hs : (d.dispatchAs c k).inService = d.inService := by
    funext b
    simp [Dev.inService]
  unfold Dev.logEntries
  simp only [hh, hw, hq, hu, hb, ho, hs, Dev.dispatchAs_mem, Dev.dispatchAs_bays, Dev.dispatchAs_sec, Dev.dispatchAs_upd, Dev.dispatchAs_pol,
    Dev.dispatchAs_ev]

theorem Dev.dispatchAs_logLeft (d : Dev) (c : Cap) (k : Nat) (x : Cap) : (d.dispatchAs c k).logLeft x = d.logLeft x := by
  unfold Dev.logLeft
  rw [Dev.dispatchAs_logEntries, Dev.dispatchAs_upd]

theorem Dev.adminWait_ready {d : Dev} {seq : Nat} {op : BitVec 16} {c : Cap} (h : ready d seq op c) {mine : Cap → Bool} (hm : mine c = true)
    (f : Cap → Dev → Dev) : d.adminWait seq op mine f = f c.sent (d.dispatchAs c c.cls) := by
  have hs : c.stage = .sequenced := by
    have hd := h.2.2.1
    simp only [Dev.mayDispatch, Bool.and_eq_true] at hd
    exact eq_of_beq hd.1.1.1
  unfold Dev.adminWait
  rw [h.1]
  dsimp only
  rw [hm, if_neg (by simp [h.2.1]), if_neg (by simp [hs])]
  exact Dev.dispatch_ready h _ (by simp [h.2.1]) f

/-! ### Reads of a log -/

/-- The entries that are left fit one reply. -/
def logFits (d : Dev) (c : Cap) : Prop :=
  (d.logLeft c).length ≤ ((if c.value.field 4 4 == 0 then 1048576 else c.value.field 4 4) - 32) / logEntrySize (c.value.field 0 1)

theorem Dev.readLogStep_answered {d e : Dev} {c : Cap} (h : Awaits d e c) (hp : c.partner = none) (hf : logFits e c) :
    ∃ next skipped last, Machine.answered d (e.readLogStep c) c Status.ok 0
      (logHead (c.value.field 0 1) (e.logLeft c).length next skipped last ++ (e.logLeft c).flatMap (·.2)) := by
  unfold Dev.readLogStep
  extract_lets b log max left n now grows end_ last skipped next d1
  have hfit : left.length ≤ n := hf
  have hnow : now = left := List.take_of_length_le hfit
  refine ⟨next, skipped, end_, ?_⟩
  rw [if_pos hfit]
  have h1 : Machine.answered d d1 c Status.ok 0 (logHead log left.length next skipped end_ ++ left.flatMap (·.2)) := by
    rw [← hnow]
    exact h.answered hp (Reply.okData (logHead log now.length next skipped end_ ++ now.flatMap (·.2))) rfl
  split
  · exact answered_of_touch h1 (d1.readDeferred_touch ..)
  · exact h1

theorem readLogGo_first {c : Cap} {d : Dev} (hr : c.replies = 0) (hc : d.readLogCheck c = none) :
    readLogGo c d = (d.modCap c (fun x => { x with cursor := c.value.field 8 8 })).readLogStep { c with cursor := c.value.field 8 8 } := by
  unfold readLogGo
  rw [if_neg (by simp [hr]), hc]
  rfl

theorem ready.readsLog {d : Dev} {seq : Nat} {c : Cap} (h : ready d seq Op.readLog c) (hc : d.readLogCheck c = none) (hr : c.replies = 0)
    (hf : logFits d { c with cursor := c.value.field 8 8 }) :
    ∃ next skipped last, Machine.answered d (readLogEff seq d) c Status.ok 0
      (logHead (c.value.field 0 1) (d.logLeft { c with cursor := c.value.field 8 8 }).length next skipped last ++
        (d.logLeft { c with cursor := c.value.field 8 8 }).flatMap (·.2)) := by
  have hcheck : (d.dispatchAs c c.cls).readLogCheck c.sent = none := by
    rw [← hc]
    unfold Dev.readLogCheck Dev.isOperator
    rw [Dev.dispatchAs_sec]
  unfold readLogEff
  rw [Dev.adminWait_ready h rfl, readLogGo_first (c := c.sent) hr hcheck]
  set e := (d.dispatchAs c c.cls).modCap c.sent (fun x => { x with cursor := c.sent.value.field 8 8 }) with he
  have hleft : e.logLeft { c.sent with cursor := c.value.field 8 8 } = d.logLeft { c with cursor := c.value.field 8 8 } :=
    d.dispatchAs_logLeft c c.cls { c with cursor := c.value.field 8 8 }
  have haw : Awaits d e { c.sent with cursor := c.value.field 8 8 } := ⟨h.awaits.out, h.awaits.session⟩
  have ha := Dev.readLogStep_answered haw h.2.2.2.1 (show logFits e _ by
    unfold logFits
    rw [hleft]
    exact hf)
  rw [hleft] at ha
  exact ha

/-! ### Subscriptions -/

theorem Dev.dispatchAs_subsOf (d : Dev) (c x : Cap) (k : Nat) : (d.dispatchAs c k).subsOf x = d.subsOf x := by
  unfold Dev.subsOf Dev.session?
  rw [Dev.dispatchAs_net]

theorem subscribeGo_wellFormed {c : Cap} (d : Dev) (hl : c.value.length = 32) (hf : subFieldsOk c.value = true) :
    subscribeGo c d = d.subscribeOp c := by
  simp [subscribeGo, hl, hf]

/-- Of a session its subscriptions. -/
def Session.subsList (s : Session) : BitVec 32 × List Subscription := (s.sid, s.subs)

theorem Dev.finish_subsList (d : Dev) (c : Cap) (r : Reply) (hp : c.partner = none) :
    (d.finish c r).net.sessions.map Session.subsList = d.net.sessions.map Session.subsList := by
  have h := congrArg (List.map Session.subsList) (Net.steady_sessions (d.finish_sent c r hp).net)
  rw [List.map_map, List.map_map] at h
  exact h

theorem Dev.endCharge_subsList (d : Dev) (sid : BitVec 32) (n : Nat) :
    (d.endCharge sid n).net.sessions.map Session.subsList = d.net.sessions.map Session.subsList := by
  unfold Dev.endCharge
  split
  · rfl
  · refine (List.map_map ..).trans (List.map_congr_left fun s _ => ?_)
    dsimp only [Function.comp]
    split <;> rfl

theorem Dev.adminReply_subsList (d : Dev) (c : Cap) (r : Reply) (hp : c.partner = none) :
    (d.adminReply c r).net.sessions.map Session.subsList = d.net.sessions.map Session.subsList :=
  (Dev.endCharge_subsList ..).trans (d.finish_subsList c r hp)

/-- What a new list of subscriptions and the reply leave: the session holds that list. -/
theorem Dev.setSubs_reply {d : Dev} {c : Cap} (hp : c.partner = none) (hs : (d.session? c.sid).isSome = true) (l : List Subscription) :
    ∃ y ∈ ((d.setSubs c l).subsReply c).reportMode.net.sessions, y.sid = c.sid ∧ y.subs = l := by
  obtain ⟨s, hs⟩ := Option.isSome_iff_exists.mp hs
  have h1 : (d.setSubs c l).session? c.sid = some { s with subs := l } := by
    unfold Dev.setSubs
    rw [Dev.session?_modSession (f := fun s => { s with subs := l }) _ _ _ (fun _ => rfl), hs, Option.map_some, if_pos (List.find?_some hs :)]
  have hm := List.mem_map_of_mem (f := Session.subsList) (List.mem_of_find?_eq_some h1)
  have hsid : s.sid = c.sid := eq_of_beq (List.find?_some hs :)
  have hreport := congrArg (List.map Session.subsList) (Net.steady_sessions ((d.setSubs c l).subsReply c).reportMode_steady)
  rw [List.map_map, List.map_map] at hreport
  have hsub : ((d.setSubs c l).subsReply c).reportMode.net.sessions.map Session.subsList = (d.setSubs c l).net.sessions.map Session.subsList :=
    hreport.trans (Dev.adminReply_subsList _ c _ hp)
  rw [← hsub] at hm
  obtain ⟨y, hy, hys⟩ := List.mem_map.mp hm
  exact ⟨y, hy, (congrArg Prod.fst hys).trans hsid, congrArg Prod.snd hys⟩

theorem ready.subscribes {d : Dev} {seq : Nat} {c : Cap} (h : ready d seq Op.eventSubscribe c) (hl : c.value.length = 32)
    (hf : subFieldsOk c.value = true) {k : Nat} (ho : c.value.field 0 1 = k) :
    d.admin seq Op.eventSubscribe (opIs subOps k) subscribeGo = (d.dispatchAs c c.cls).subscribeOp c.sent := by
  rw [Dev.admin_ready h (opIs_self ho)]
  exact subscribeGo_wellFormed _ hl hf

/-- The levels of the sources of a block, before those of the others. -/
def Subscription.levels (x : Subscription) (l : List (Nat × Nat)) : List (Nat × Nat) :=
  (List.range (x.srcHigh + 1 - x.srcLow)).map (fun i => (x.srcLow + i, x.sev)) ++ l.filter (fun e => e.1 < x.srcLow || x.srcHigh < e.1)

/-- The levels of the sources of a block are set. -/
def Dev.withLevels (d : Dev) (x : Subscription) : Dev := { d with ev := { d.ev with levels := x.levels d.ev.levels } }

theorem lookup_eq_some_of_forall {l : List (Nat × Nat)} {k v : Nat} (h : ∀ e ∈ l, e.1 = k → e.2 = v) (hk : k ∈ l.map (·.1)) :
    l.lookup k = some v := by
  induction l with
  | nil => cases hk
  | cons e l ih =>
    obtain ⟨a, b⟩ := e
    by_cases hab : k = a
    · subst hab
      exact List.lookup_cons_self.trans (congrArg some (h (k, b) List.mem_cons_self rfl))
    · rw [List.lookup_cons, beq_eq_false_iff_ne.mpr hab]
      refine ih (fun e he => h e (List.mem_cons_of_mem _ he)) ?_
      simpa [hab] using hk

theorem Dev.withLevels_level (d : Dev) {x : Subscription} {k : Nat} (h1 : x.srcLow ≤ k) (h2 : k ≤ x.srcHigh) : (d.withLevels x).level k = x.sev := by
  have hl : (d.withLevels x).ev.levels.lookup k = some x.sev := by
    refine lookup_eq_some_of_forall (fun e he hk => ?_) ?_
    · obtain he | he := List.mem_append.mp he
      · obtain ⟨i, -, rfl⟩ := List.mem_map.mp he
        rfl
      · have hf := (List.mem_filter.mp he).2
        simp only [Bool.or_eq_true, decide_eq_true_eq] at hf
        omega
    · have hm : (k, x.sev) ∈ (d.withLevels x).ev.levels :=
        List.mem_append_left _ (List.mem_map.mpr ⟨k - x.srcLow, List.mem_range.mpr (by omega), by simp [h1]⟩)
      exact List.mem_map_of_mem (f := (·.1)) hm
  unfold Dev.level
  rw [hl]

theorem Dev.level_of_steady {d e : Dev} {k v : Nat} (h : e.ev.steady = d.ev.steady) (hp : e.par.steady = d.par.steady) (hl : d.level k = v) :
    e.level k = v := by
  have hpar : e.pnum P.mgmtRecordMinSeverity = d.pnum P.mgmtRecordMinSeverity := by
    have hs : e.par.steady.value P.mgmtRecordMinSeverity = d.par.steady.value P.mgmtRecordMinSeverity := by rw [hp]
    exact congrArg Bytes.toNatBE hs
  have hlevels : e.ev.levels = d.ev.levels := by
    have hs : e.ev.steady.levels = d.ev.steady.levels := by rw [h]
    exact hs
  unfold Dev.level at *
  rwa [hlevels, hpar]

/-- Settles O29: the entries that are left fit one reply, and each op of `EVENT_SUBSCRIBE` does as its block says. -/
theorem logsAndSubscriptions : Obligations.LogsAndSubscriptions := by
  refine ⟨?read, ?subscribe, ?unsubscribe, ?list, ?level⟩
  case read =>
    intro s seq c h hc hr hf
    obtain ⟨next, skipped, last, ha⟩ := h.readsLog hc hr hf
    exact ⟨_, rfl, next, skipped, last, ha.reported⟩
  case subscribe =>
    intro s seq c h hl hf ho hn hsev
    have he : subscribeEff seq s.dev = ((s.dev.dispatchAs c c.cls).setSubs c.sent (s.dev.subsOf c ++ [blockSub c.value])).subsReply c.sent := by
      have hsubs := s.dev.dispatchAs_subsOf c c.sent c.cls
      refine (h.subscribes hl hf ho).trans ?_
      unfold Dev.subscribeOp
      dsimp only
      rw [ho, hsubs, show s.dev.subsOf c.sent = s.dev.subsOf c from rfl]
      exact if_neg (by simp; omega)
    exact ⟨_, State.run_of_eq he, Dev.setSubs_reply (c := c.sent) h.2.2.2.1 h.awaits.session _⟩
  case unsubscribe =>
    intro s seq c h hl hf ho hn
    have he : unsubscribeEff seq s.dev = ((s.dev.dispatchAs c c.cls).setSubs c.sent ((s.dev.subsOf c).erase (blockSub c.value))).subsReply c.sent := by
      have hsubs := s.dev.dispatchAs_subsOf c c.sent c.cls
      refine (h.subscribes hl hf ho).trans ?_
      unfold Dev.subscribeOp
      dsimp only
      rw [ho, hsubs]
      exact if_pos hn
    exact ⟨_, State.run_of_eq he, Dev.setSubs_reply (c := c.sent) h.2.2.2.1 h.awaits.session _⟩
  case list =>
    intro s seq c h hl hf ho
    have he : eventListEff seq s.dev = (s.dev.dispatchAs c c.cls).subsReply c.sent := by
      refine (h.subscribes hl hf ho).trans ?_
      unfold Dev.subscribeOp
      dsimp only
      rw [ho]
      rfl
    refine ⟨_, State.run_of_eq he, answered.reported ?_⟩
    rw [← s.dev.dispatchAs_subsOf c c c.cls]
    exact h.awaits.answered h.2.2.2.1 (Reply.okData _) rfl
  case level =>
    intro s seq c k h hl hf ho hop hsev hlo hhi
    have he : setLevelEff seq s.dev = ((s.dev.dispatchAs c c.cls).withLevels (blockSub c.value)).subsReply c.sent := by
      refine (h.subscribes hl hf ho).trans ?_
      unfold Dev.subscribeOp
      dsimp only
      rw [ho]
      have hop : (s.dev.dispatchAs c c.cls).isOperator c.tenant = true := by
        unfold Dev.isOperator
        rw [Dev.dispatchAs_sec]
        exact hop
      exact (if_neg (by simp [hop])).trans (if_neg (by omega))
    refine ⟨_, State.run_of_eq he, ?_⟩
    have ht : Touch [.que, .net, .par] ((s.dev.dispatchAs c c.cls).withLevels (blockSub c.value)) (((s.dev.dispatchAs c c.cls).withLevels
        (blockSub c.value)).subsReply c.sent).reportMode := Dev.adminReply_reported _ c.sent _ h.2.2.2.1
    exact Dev.level_of_steady (ht.ev (by simp)) (ht.conf (by simp)) (Dev.withLevels_level _ hlo hhi)

end Sys2Proof.Machine
end

section
/-! A list of a bucket is drawn up after the writers that wait for the follower have been let go (R304, R308). -/

namespace Sys2Proof.Machine.Corner

/- An evaluation by the kernel waits for all that stands before it; one after the other, the waiting threads do not pile up. -/
set_option Elab.async false

/-- Namespace 5, led here and in step. -/
def ledSpace : MirrorNs :=
  { ns := 5, lead := true, st := .inSync, prev := .inSync, sync := true, lossy := false, watermark := 0, newest := 0, acked := 0, unapplied := [],
    securePending := [], listing := [], failedKeys := [], waitSince := none, soloGranted := false, refusedNew := false, lagWarned := false,
    resyncBuckets := 0, resyncBytes := 0, resyncSince := 0, diverged := 0, divergedLow := 0, divergedHigh := 0, lower := false }

/-- A value on medium that waits for the follower. -/
def waitingVersion : Version :=
  { ns := 5, hash := 0, key := [1#8], seq := 3, content := some [1#8], checks := [], bad := [], opcode := Op.put, sid := 1, start := 0, tag := 9,
    tenant := 7, early := false, done := false, onMedium := true, units := 0, charge := 4096, refund := 0, provisional := false, newKey := true,
    counted := false, uncond := true, secure := false, onLost := none, upload := none, loc := 0, gen := 1, bay := 0, jseq := 0, mirrorWait := true }

/-- The one bucket of namespace 5, dirty, without entries. -/
def dirtyBucket : Bucket :=
  { ns := 5, lo := 0, hi := 2 ^ 64 - 1, home := 0, entries := [], mergedThrough := 0, epoch := 0, pageLoc := 0, cached := true, lastUsed := 0,
    reading := false, readId := 0, wanted := [], prefetched := false, fpValid := true, twinOnce := none, pageLost := false, lostHome := [],
    movingFrom := none, dirty := true }

/-- A linked drive with that version and that bucket. -/
def reconciling : Dev :=
  let d := drive []
  { d with
    que := { d.que with drift := [waitingVersion] }, idx := { d.idx with buckets := [dirtyBucket] },
    bays := d.bays.set 0 { d.bays.get 0 with state := .inService }, mir := { d.mir with state := .linked, nss := [ledSpace] } }

theorem reconciling_lists : reconciling.keysIn 5 dirtyBucket.lo dirtyBucket.hi = [(0, 3)] := by decide +kernel

theorem reconciling_out : (after (.resyncBucket 5 0) reconciling).out.contains (.cwList 5 7 0 (2 ^ 64 - 1) [(0, 3)]) = false := by decide +kernel

/-- Refutes O42: with the reconciliation that begins, the version on medium stops waiting for the follower and leaves Drift; where Isobar does
not hold its key, the list that goes out is without it. -/
theorem not_reconciliationAdvances : ¬ Obligations.ReconciliationAdvances := by
  intro h
  obtain ⟨t, ht, -, he⟩ := h.1 (at_ reconciling) 5 0 ledSpace dirtyBucket (by decide +kernel) (by decide +kernel) (by decide +kernel)
    (by decide +kernel) rfl (by decide) (by decide +kernel) (by decide +kernel) rfl rfl rfl rfl
  exact not_emits ht reconciling_out (reconciling_lists ▸ he)

end Sys2Proof.Machine.Corner
end

section
/-! A frame under the number that the drive waits for next, which it has already received: it is acknowledged again and not taken. -/

namespace Sys2Proof.Machine.Corner

/- An evaluation by the kernel waits for all that stands before it; one after the other, the waiting threads do not pile up. -/
set_option Elab.async false

/-- A linked drive that waits for PSN 0 and notes that number as received; a `GET` of its own is at the partner. -/
def repeated : Dev :=
  let d := drive [forwardedGet]
  { d with mir := { d.mir with state := .linked, rxCum := 0, rxGot := [0], reads := [⟨4, 7, none, Status.notFound⟩] } }

theorem repeated_inTurn : inTurn repeated gapHeader := ⟨by decide +kernel, rfl, rfl⟩

theorem repeated_stands : (after (.partnerReadReply gapHeader 4 Status.ok 1 []) repeated).que.caps = [forwardedGet] := by decide +kernel

/-- Refutes O41: a frame whose number is noted as received is a duplicate (R36), so the partner's answer in it is not taken, and the
forwarded `GET` stays. -/
theorem not_uploadRecordsAndPartnerReads : ¬ Obligations.UploadRecordsAndPartnerReads := by
  intro h
  obtain ⟨t, ht, -, hgone⟩ := h.2.2.2.2 (at_ repeated) gapHeader ⟨4, 7, none, Status.notFound⟩ forwardedGet 1 [] repeated_inTurn
    (by decide +kernel) rfl (by decide +kernel) rfl rfl (by decide +kernel)
  refine hgone forwardedGet ?_ ⟨rfl, rfl⟩
  rw [after_eq ht, repeated_stands]
  exact List.mem_singleton_self _

/-- Namespace 5, which the partner leads. -/
def followedSpace : MirrorNs := { ledSpace with lead := false }

/-- A linked drive that follows namespace 5 in one bucket without keys, waits for PSN 0 and notes that number as received. -/
def following : Dev :=
  { reconciling with
    par := { reconciling.par with mode := 3 }, que := { reconciling.que with drift := [] }, mir := { reconciling.mir with rxCum := 0, rxGot := [0], nss := [followedSpace] } }

/-- A record that marks the empty key of namespace 5 lost. -/
def lostRecord : CwRec := ⟨5, 4, 0, 0, 0, [], []⟩

/-- The one bucket covers every key of namespace 5. -/
theorem dirtyBucket_covers (h : BitVec 128) : dirtyBucket.covers 5 h = true := by
  have hh : high64 h ≤ 2 ^ 64 - 1 := Nat.le_sub_one_of_lt (Nat.div_lt_of_lt_mul h.isLt)
  have hb : dirtyBucket.covers 5 h = decide (high64 h ≤ 2 ^ 64 - 1) := rfl
  rw [hb, decide_eq_true hh]

section
variable {d : Dev} {n : BitVec 12} (hn : n = 5) (hb : d.idx.buckets = [dirtyBucket])
include hn hb

theorem bucketOf_of_dirtyBucket (h : BitVec 128) : d.bucketOf n h = some dirtyBucket := by
  subst hn
  unfold Dev.bucketOf
  rw [hb]
  exact List.find?_cons_of_pos (p := fun b : Bucket => b.covers 5 h) (dirtyBucket_covers h)

theorem lookFull_of_dirtyBucket (ha : d.homeAbsent dirtyBucket = false) (hl : d.idx.log = []) (hg : d.gale.dupKeys = []) (h : BitVec 128) :
    d.lookFull n h = .absent := by
  have hr : d.logRec n h = none := by simp [Dev.logRec, hl]
  have hm : dirtyBucket.missing = .absent := rfl
  have hx : dirtyBucket.entries = [] := rfl
  have hf : dirtyBucket.fpValid = true := rfl
  have hlook : d.look n h = .absent := by
    simp [Dev.look, Dev.lookBy, hg, bucketOf_of_dirtyBucket hn hb h, ha, hr, hm, hx, hf]
  simp [Dev.lookFull, hlook]

end

/-- The drive as it would take the record. -/
def record : Dev := recordAt following gapHeader .lost lostRecord

theorem record_facts : record.idx.buckets = [dirtyBucket] ∧ modeRefusal record.par.mode (record.par.mode == 5) Op.put 0 = none ∧
    record.homeAbsent dirtyBucket = false ∧ record.bucketAway dirtyBucket (2 ^ 64) = false ∧ record.que.drift = [] ∧
    record.idx.log = [] ∧ record.gale.dupKeys = [] := by
  decide +kernel

theorem driftBelow_of_nil {d : Dev} (hd : d.que.drift = []) (n : BitVec 12) (h : BitVec 128) (s : Nat) : d.driftBelow n h s = none := by
  simp [Dev.driftBelow, Dev.buffered, hd]

section
variable {n : BitVec 12} (hn : n = 5) (h : BitVec 128)
include hn

theorem record_applies : record.applyStatus n h = none := by
  obtain ⟨hb, hm, habsent, haway, -⟩ := record_facts
  unfold Dev.applyStatus
  rw [hm, bucketOf_of_dirtyBucket hn hb h]
  dsimp only
  rw [haway]
  simp [habsent]

theorem record_state (k : Bytes) : record.recState n h k = some .absent := by
  obtain ⟨hb, -, habsent, -, hd, hl, hg⟩ := record_facts
  simp [Dev.recState, driftBelow_of_nil hd, lookFull_of_dirtyBucket hn hb habsent hl hg, Look.base]

theorem following_keyVersion : following.keyVersion n h = 0 := by
  simp [Dev.keyVersion, driftBelow_of_nil (d := following) rfl, Dev.logRec, show following.idx.log = [] from rfl,
    lookFull_of_dirtyBucket (d := following) hn rfl (by decide +kernel) rfl rfl]

end

theorem following_newer : newer following gapHeader .lost lostRecord space .absent :=
  ⟨rfl, by rw [following_keyVersion (n := lostRecord.ns) rfl]; decide, by decide +kernel, record_applies rfl _, record_state rfl ..⟩

theorem following_stands : (after (.lostRecord gapHeader lostRecord) following).idx.log = [] := by decide +kernel

/-- Refutes O40: a frame whose number is noted as received is a duplicate (R36), so the record in it is not applied. -/
theorem not_recordsAreApplied : ¬ Obligations.RecordsAreApplied := by
  intro h
  obtain ⟨t, ht, x, hx, -⟩ := h.2.2.2.2.2 (at_ following) gapHeader lostRecord followedSpace space .absent
    ⟨⟨by decide +kernel, rfl, rfl⟩, by decide +kernel, rfl, by decide +kernel⟩ following_newer (driftBelow_of_nil rfl ..)
  rw [after_eq ht, following_stands] at hx
  cases hx

end Sys2Proof.Machine.Corner
end

section
/-! An erase takes dies of several channels, with one operation for each under one number (R200); and its journal item (R241) may open the
band that has just been erased. -/

namespace Sys2Proof.Machine.Corner

/- An evaluation by the kernel waits for all that stands before it; one after the other, the waiting threads do not pile up. -/
set_option Elab.async false

/-- The erase of band 40 of group 0. -/
def erase : Erase := ⟨1, 0, 0, 40, .gc⟩

/-- A drive on whose first cartridge that erase runs, where every other band of the group has been worn. -/
def erasing : Dev :=
  let d := serving []
  { d with
    idx := { d.idx with nextJ := 0 },
    med := { d.med with erases := [erase], running := [⟨1, 0, 0, [0], .erase, 0, 0⟩], nextOp := 2 },
    bays := d.bays.set 0 { d.bays.get 0 with state := .inService, wear := ((List.range 128).filter (· != 40)).map (fun b => (0, b, 100)) } }

theorem erasing_bands (bay : BayNo) : (erasing.bays.get bay).bands = [] := by
  revert bay
  decide +kernel

theorem erased_reopened : ((after (.nandEraseDone 1 true) erasing).bays.get 0).band? 0 40 ≠ none := by decide +kernel

/-- Refutes O12: the wear of an erased band is journalled before the command ends (R241), and where the journal's stream needs a band it
opens the one of the least wear, which may be the erased one, so that band is not free. -/
theorem not_dieOperationsComplete : ¬ Obligations.DieOperationsComplete := by
  intro h
  obtain ⟨t, ht, -, hfree⟩ := h.2.2.2 (at_ erasing) erase rfl (by decide +kernel) rfl (by decide) ⟨rfl, rfl, rfl, rfl, rfl⟩
    fun bay x hx => absurd hx (by rw [show (at_ erasing).dev = erasing from rfl, erasing_bands]; exact List.not_mem_nil)
  rw [after_eq ht] at hfree
  exact erased_reopened hfree

/-- The parts of an erase on two channels. -/
def onFirst : GovOp := ⟨1, 0, 0, [0], .erase, 4, 0⟩
def onSecond : GovOp := ⟨1, 0, 1, [4], .erase, 4, 0⟩

/-- A drive where both parts wait for the governor. -/
def waiting : Dev :=
  let d := serving []
  { d with med := { d.med with waiting := [onFirst, onSecond] } }

theorem waiting_next : waiting.nextOp? 0 = some onFirst ∧ waiting.budgetHolds onFirst = true := by decide +kernel

theorem waiting_left : onSecond ∈ (after (.governorAdmit 0) waiting).med.waiting := by decide +kernel

/-- Refutes O13: the governor admits an operation that takes dies of several channels part by part (R200, R233), so another part of the
same number waits on. -/
theorem not_monsoonBackgroundWork : ¬ Obligations.MonsoonBackgroundWork := by
  intro h
  obtain ⟨t, ht, -, hnone⟩ := h.1 (at_ waiting) 0 onFirst waiting_next.1 waiting_next.2
  exact hnone onSecond (by rw [after_eq ht]; exact waiting_left) rfl

end Sys2Proof.Machine.Corner
end

section
/-! Activation and trial of an update: the reset that follows the drain, the confirmation, the cancellation, the reversion (R413 to R420). -/

namespace Sys2Proof.Machine

/-! ### The record of the active set -/

/-- The copy that the next write of the record takes. -/
def Update.copyNext (u : Update) : Fin 2 :=
  match u.recUse with
  | some j => if j = 0 then 1 else 0
  | none => 0

/-- A record as it is written, with the next seq and fresh twins. -/
def Update.written (u : Update) (r : ActiveRec) : ActiveRec :=
  { r with magicOk := true, crcOk := true, seq := max (u.recs.get 0).seq (u.recs.get 1).seq + 1, slotTwin := ~~~ r.slot,
           trialTwin := ~~~ r.trial, floorTwin := ~~~ r.floor }

/-- A value and its complement are twins. -/
@[simp] theorem twinOk_not {n : Nat} (x : BitVec n) : twinOk x (~~~ x) = true := by
  rw [twinOk, BitVec.not_def, BitVec.xor_comm, BitVec.xor_assoc, BitVec.xor_self, BitVec.xor_zero, beq_self_eq_true]

theorem Update.written_ok (u : Update) (r : ActiveRec) : (u.written r).ok = true := by
  simp [Update.written, ActiveRec.ok]

/-- The record last written is the one in use. -/
theorem Update.writeActive_active (u : Update) (r : ActiveRec) : (u.writeActive r).active = some (u.written r) := by
  have hok := u.written_ok r
  have hrecs : (u.writeActive r).recs = u.recs.set u.copyNext (u.written r) := rfl
  have hq0 : (u.recs.get 0).seq < (u.written r).seq := Nat.lt_succ_of_le (Nat.le_max_left ..)
  have hq1 : (u.recs.get 1).seq < (u.written r).seq := Nat.lt_succ_of_le (Nat.le_max_right ..)
  generalize u.written r = w at *
  have hne (i : Fin 2) : i = 0 ∨ i = 1 := by omega
  unfold Update.active Update.recUse
  rcases hne u.copyNext with h | h <;> simp only [h] at hrecs <;> rw [hrecs]
  · rw [vector_get_set_self, vector_get_set_ne _ (by decide)]
    cases hb : (u.recs.get 1).ok <;> simp [hok, hb, Nat.not_lt.mpr hq1.le] <;> exact vector_get_set_self u.recs 0 w
  · rw [vector_get_set_self, vector_get_set_ne _ (by decide)]
    cases ha : (u.recs.get 0).ok <;> simp [hok, ha, hq0] <;> exact vector_get_set_self u.recs 1 w

theorem Update.inTrial_iff {u : Update} : u.inTrial = true ↔ ∃ r, u.active = some r ∧ r.trial = 1 := by
  unfold Update.inTrial
  cases u.active <;> simp

theorem Update.writeActive_inTrial (u : Update) {r : ActiveRec} (h : r.trial = 0) : (u.writeActive r).inTrial = false := by
  simp [Update.inTrial, Update.writeActive_active, Update.written, h]

theorem Update.inTrial_of_recs {u v : Update} (h : v.recs = u.recs) : v.inTrial = u.inTrial := by
  simp [Update.inTrial, Update.active, Update.recUse, h]

/-! ### The end of an update -/

theorem Dev.endUpdate_ends (d : Dev) (n : Nat) :
    (d.endUpdate n).upd.recs = d.upd.recs ∧ (d.endUpdate n).upd.state = 0 ∧ (d.endUpdate n).upd.staging = none ∧
      (d.endUpdate n).upd.lease = none := by
  unfold Dev.endUpdate
  extract_lets e h
  rw [(Dev.keepRecord_touch _ 128).upd (by simp)]
  exact ⟨rfl, rfl, rfl, rfl⟩

/-- The confirmation of a set in trial ends the trial and the update. -/
theorem Dev.confirm_ends {d : Dev} (h : d.upd.inTrial = true) : d.confirm.upd.inTrial = false ∧ d.confirm.upd.state = 0 := by
  obtain ⟨r, hr, ht⟩ := Update.inTrial_iff.mp h
  unfold Dev.confirm
  rw [hr]
  simp only [ht, ne_eq, not_true_eq_false, if_false, Dev.raise_upd]
  obtain ⟨hrec, hst, _, _⟩ := Dev.endUpdate_ends { d with upd := d.upd.writeActive { r with
    trial := 0, deadline := 0, floor := BitVec.ofNat 32 (max r.floor.toNat (pkgSecver (d.upd.pkg d.upd.activeSlot))) } } 1
  exact ⟨(Update.inTrial_of_recs hrec).trans (Update.writeActive_inTrial _ rfl), hst⟩

theorem Dev.confirm_touch (d : Dev) : Touch [.upd, .med, .bays] d d.confirm := by
  unfold Dev.confirm
  split
  · exact .refl _ d
  · exact .ite (fun _ => .refl _ d) (fun _ => .raise (.trans (.setUpd (.refl _ d) _) (Dev.endUpdate_touch ..)) ..)

/-- A reversion takes the other set out of trial. -/
theorem Dev.revert_inTrial {d : Dev} (h : d.upd.inTrial = true) (cause : Nat) : (d.revert cause).upd.inTrial = false := by
  obtain ⟨r, hr, _⟩ := Update.inTrial_iff.mp h
  unfold Dev.revert
  rw [hr]
  simp only [Dev.raise_upd]
  exact (Update.inTrial_of_recs (Dev.endUpdate_ends ..).1).trans (Update.writeActive_inTrial _ rfl)

theorem Dev.revert_touch (d : Dev) (cause : Nat) : Touch [.upd, .med, .bays] d (d.revert cause) := by
  unfold Dev.revert
  split
  · exact .refl _ d
  · exact .raise (.trans (.setUpd (.refl _ d) _) (Dev.endUpdate_touch ..)) ..

/-! ### Resets that follow the drain -/

/-- A pending reset that waits for Drift leaves the drive as it is. -/
theorem Dev.performPending_waits {d : Dev} {w : ResetWhy} (hf : d.pow.failing = none) (hd : d.driftOut = false)
    (hp : d.par.pendingReset = some w) : d.performPending = d := by
  have hn (me : Option Nat) : d.drained me = false := by simp [Dev.drained, hd]
  unfold Dev.performPending
  rw [hf, hp]
  cases w <;> simp [hd, hn]

theorem Dev.activateBy_waits {d : Dev} (s : UpdSource) (offset : Nat) (seq : Option Nat) (hf : d.pow.failing = none)
    (hd : d.driftOut = false) : (d.activateBy s offset seq).par.pendingReset =
      some (if offset = 2 then .recovery seq else .activation seq s.kind s.who) := by
  unfold Dev.activateBy
  exact congrArg (fun e : Dev => e.par.pendingReset)
    (Dev.performPending_waits (d := { d with par := { d.par with
      pendingReset := some (if offset = 2 then .recovery seq else .activation seq s.kind s.who) } }) hf hd rfl)

theorem Dev.maint_admits {d : Dev} {a : Activity} (h : (d.maintCell a).1 = .r) : d.maint a = (.r, d) := by
  unfold Dev.maint
  split <;> simp_all

/-- The check of an activation that nothing refuses. -/
theorem Dev.activateCheck_passes {d : Dev} {s : UpdSource} {offset : Nat} (hl : d.upd.leaseRefuses s false = false) (h2 : offset ≤ 2)
    (h4 : d.upd.state ≠ 4) (h0 : offset = 0 → d.upd.state = 3)
    (h1 : offset = 1 → d.upd.state = 0 ∧ d.upd.slotOk d.upd.otherSlot = true)
    (hm : (d.maintCell .act).1 = .r) (hf : offset ≠ 2 → d.upd.floor ≤ pkgSecver (d.upd.pkg d.upd.otherSlot)) :
    d.activateCheck s offset = (none, d.updProgress s) := by
  unfold Dev.activateCheck
  have hc : offset = 0 ∨ offset = 1 ∨ offset = 2 := by omega
  rcases hc with rfl | rfl | rfl
  · simp [hl, h0 rfl, Dev.maint_admits hm, hf]
  · simp [hl, h1 rfl, Dev.maint_admits hm, hf]
  · simp [hl, h4, Dev.maint_admits hm]

/-- An activation that is admitted waits for Drift. -/
theorem updActivate_waits {s : State} {seq : Nat} {c : Cap} {n : Nat} (h : ready s.dev seq Op.updActivate c) (ho : c.hdr.offset.toNat = n)
    (hn : n ≤ 2) (hl : s.dev.upd.leaseRefuses c.source false = false) (h4 : s.dev.upd.state ≠ 4) (h0 : n = 0 → s.dev.upd.state = 3)
    (h1 : n = 1 → s.dev.upd.state = 0 ∧ s.dev.upd.slotOk s.dev.upd.otherSlot = true) (hm : (s.dev.maintCell .act).1 = .r)
    (hf : n ≠ 2 → s.dev.upd.floor ≤ pkgSecver (s.dev.upd.pkg s.dev.upd.otherSlot)) (hd : s.dev.driftOut = false)
    (hp : s.dev.pow.failing = none) :
    ∃ t, s.run (fun d => d.admin seq Op.updActivate (activateIs n) updActivateGo) = .next t ∧
      t.dev.par.pendingReset = some (if n = 2 then .recovery (some seq) else .activation (some seq) c.source.kind c.source.who) := by
  have hseq := (Dev.capBySeq_seq h.1).1
  have ht := Dev.updProgress_touch (s.dev.dispatchAs c c.cls) c.source
  have hgo : updActivateGo c.sent (s.dev.dispatchAs c c.cls) =
      ((s.dev.dispatchAs c c.cls).updProgress c.source).activateBy c.source n (some seq) := by
    unfold updActivateGo
    rw [show c.sent.hdr.offset.toNat = n from ho, show c.sent.source = c.source from rfl,
      Dev.activateCheck_passes (by rwa [Dev.dispatchAs_upd]) hn (by rwa [Dev.dispatchAs_upd]) (by rwa [Dev.dispatchAs_upd])
        (by rwa [Dev.dispatchAs_upd]) (by rwa [Dev.dispatchAs_maintCell]) (by rwa [Dev.dispatchAs_upd])]
    exact congrArg (fun n' => Dev.activateBy _ _ n (some n')) hseq
  refine ⟨_, State.run_of_eq ((Dev.admin_ready h (by simp [activateIs, ho]) _).trans hgo), ?_⟩
  rw [Dev.reportMode_par]
  refine Dev.activateBy_waits _ _ _ ?_ ?_
  · rw [ht.pow (by simp), Dev.dispatchAs_pow]
    exact hp
  · rw [Dev.driftOut, ht.que (by simp), Dev.dispatchAs_drift]
    exact hd

theorem updConfirm_ends (s : State) (seq : Nat) (c : Cap) (h : ready s.dev seq Op.updConfirm c) (hi : s.dev.upd.inTrial = true) :
    ∃ t, exec (.updConfirm seq) s = .next t ∧ t.dev.upd.inTrial = false ∧ t.dev.upd.state = 0 ∧ answered s.dev t.dev c Status.ok 0 [] := by
  refine ⟨_, State.run_of_eq (Dev.admin_ready h rfl updConfirmGo), ?_⟩
  obtain ⟨hin, hst⟩ := Dev.confirm_ends (d := s.dev.dispatchAs c c.cls) (by rwa [Dev.dispatchAs_upd])
  obtain ⟨ha, ht⟩ := h.replied (s.dev.dispatchAs c c.cls).confirm_touch (Reply.plain Status.ok)
  have hu := ht.upd (by simp)
  exact ⟨(congrArg Update.inTrial hu).trans hin, (congrArg Update.state hu).trans hst, ha⟩

theorem updCancel_ends (s : State) (seq : Nat) (c : Cap) (h : ready s.dev seq Op.updCancel c)
    (h12 : s.dev.upd.state = 1 ∨ s.dev.upd.state = 2) (hs : s.dev.upd.holds c.source = true) :
    ∃ t, exec (.updCancel seq) s = .next t ∧ t.dev.upd.state = 0 ∧ t.dev.upd.staging = none ∧ t.dev.upd.lease = none ∧
      answered s.dev t.dev c Status.ok 0 [] := by
  have hu0 := Dev.dispatchAs_upd s.dev c c.cls
  have hd : (s.dev.dispatchAs c c.cls).dropInstalled = s.dev.dispatchAs c c.cls := by
    unfold Dev.dropInstalled
    exact if_neg (by rw [hu0]; omega)
  have hgo : updCancelGo c.sent (s.dev.dispatchAs c c.cls) =
      (((s.dev.dispatchAs c c.cls).endUpdate 5).adminReply c.sent (Reply.plain Status.ok)).raise Ev.updCancelled
        (pkgRelease s.dev.upd.subject) s.dev.upd.state 0 0 := by
    unfold updCancelGo
    rw [hu0, hd]
    have hl : s.dev.upd.leaseRefuses c.sent.source false = false := Update.leaseRefuses_of_holds hs _
    rcases h12 with h1 | h2
    · simp [h1, hl]
    · simp [h2, hl]
  refine ⟨_, State.run_of_eq ((Dev.admin_ready h rfl _).trans hgo), ?_⟩
  have ha := (h.awaits.touch (Dev.endUpdate_touch _ 5)).answered h.2.2.2.1 (Reply.plain Status.ok) rfl
  obtain ⟨_, h0, hst, hle⟩ := Dev.endUpdate_ends (s.dev.dispatchAs c c.cls) 5
  have hu := (Dev.adminReply_touch ((s.dev.dispatchAs c c.cls).endUpdate 5) c.sent (Reply.plain Status.ok) h.2.2.2.1).upd (by simp)
  rw [Dev.reportMode_upd, Dev.raise_upd, hu]
  exact ⟨h0, hst, hle, (ha.later ((Dev.raise_sent ..).touch []).out (by simp)).reported⟩

theorem trialDeadline_reverts (s : State) (hi : s.dev.upd.inTrial = true) (hr : s.dev.par.run = .running) (hd : s.dev.driftOut = false)
    (hf : s.dev.pow.failing = none) (hp : s.dev.par.pendingReset = none) :
    ∃ t, exec .trialDeadline s = .next t ∧ t.dev.par.pendingReset = some .reversion ∧ t.dev.upd.inTrial = false := by
  have ht := s.dev.revert_touch 1
  have hgo : trialDeadlineEff s.dev =
      { s.dev.revert 1 with par := { (s.dev.revert 1).par with pendingReset := some .reversion } } := by
    unfold trialDeadlineEff Dev.revertReset
    simp only [hi, hr, beq_self_eq_true, Bool.and_self, if_true]
    rw [ht.par (by simp), hp]
    refine Dev.performPending_waits ?_ ?_ rfl
    · exact (congrArg Power.failing (ht.pow (by simp))).trans hf
    · exact (congrArg (fun q : Queue => q.drift.all (fun v => v.onMedium)) (ht.que (by simp))).trans hd
  exact ⟨_, State.run_of_eq hgo, by rw [Dev.reportMode_par], by rw [Dev.reportMode_upd]; exact s.dev.revert_inTrial hi 1⟩

/-- Settles O31: with Drift not drained each reset waits as what it is; the record last written is in use, so a confirmation and a
reversion end the trial. -/
theorem updatesAreActivated : Obligations.UpdatesAreActivated := by
  refine ⟨?_, ?_, ?_, updConfirm_ends, updCancel_ends, trialDeadline_reverts⟩
  · intro s seq c h ho h3 hs hm hf hd hp
    exact updActivate_waits (n := 0) h (by rw [ho]; rfl) (by omega) (Update.leaseRefuses_of_holds hs _) (by omega) (fun _ => h3)
      (by omega) hm (fun _ => hf) hd hp
  · intro s seq c h ho h0 hk hm hf hd hp
    exact updActivate_waits (n := 1) h (by rw [ho]; rfl) (by omega) (by simp [Update.leaseRefuses, h0]) (by omega) (by omega)
      (fun _ => ⟨h0, hk⟩) hm (fun _ => hf) hd hp
  · intro s seq c h ho h4 hl hm hd hp
    exact updActivate_waits (n := 2) h (by rw [ho]; rfl) (by omega) hl h4 (by omega) (by omega) hm (by omega) hd hp

end Sys2Proof.Machine
end

section
/-! Gale: a search that hits, a row that the verifier reads, a step up, a die that does not answer (R173, R187 to R191). -/

namespace Sys2Proof.Machine

/-! ### What the end of the sessions leaves of Gale -/

/-- The dies of Gale and the place of its verifier. -/
def Gale.lap (g : Gale) : List Nat × Nat := (g.failed, g.lapAt)

theorem Gale.remove_lap (g : Gale) (t : GTable) (w : BitVec 144) : (g.remove t w).lap = g.lap := by
  unfold Gale.remove
  split
  · rfl
  · dsimp only
    split <;> rfl

theorem Dev.removeSession_lap (d : Dev) (s : Session) : (d.removeSession s).gale.lap = d.gale.lap := by
  have h0 : Touch [.net, .que, .med] d ((d.passDeferred s).squashEnded (fun q => d.que.caps.any (fun c => c.sid == s.sid && c.seq == q))) :=
    .next (d.passDeferred_touch s).of (Dev.squashEnded_touch ..)
  exact (Gale.remove_lap ..).trans (congrArg Gale.lap (h0.gale (by simp)))

theorem Dev.endSession_lap (d : Dev) (sid : BitVec 32) (cause : Nat) (state : Bool) : (d.endSession sid cause state).gale.lap = d.gale.lap := by
  unfold Dev.endSession
  split
  · rfl
  · next s _ =>
    split
    · extract_lets d1 d2 n d3
      have h1 : d1.gale = d.gale := by
        simp only [d1]
        split
        · exact ((d.sendPacket_sent ..).touch []).gale (by simp)
        · rfl
      have h3 : Touch [.net] d2 ((d3.raise Ev.sessionClose s.sid.toNat s.tenant.toNat ((closeStatus cause state).getD 0).toNat cause).recomputePools) :=
        .sent (.raise (.ite (fun _ => .refl _ _) (fun _ => (Touch.refl _ d2).setNet _)) ..) (Dev.recomputePools_sent _)
      rw [h3.gale (by simp)]
      exact (d1.removeSession_lap s).trans (congrArg Gale.lap h1)
    · exact d.removeSession_lap s

theorem Dev.endAll_lap (d : Dev) (cause : Nat) : (d.endAll cause).gale.lap = d.gale.lap :=
  List.foldlRecOn d.net.sessions (fun (d : Dev) (s : Session) => d.endSession s.sid cause true)
    (motive := fun e : Dev => e.gale.lap = d.gale.lap) rfl fun _ h _ _ => (Dev.endSession_lap ..).trans h

/-- Sessions that end one after the other are all gone. -/
theorem foldl_endSession_gone (l : List Session) (cause : Nat) (d : Dev) :
    ∀ y ∈ (l.foldl (fun d s => d.endSession s.sid cause true) d).net.sessions, y.sid ∈ d.net.sessions.map (·.sid) ∧ y.sid ∉ l.map (·.sid) := by
  induction l generalizing d with
  | nil => exact fun y hy => ⟨List.mem_map_of_mem hy, List.not_mem_nil⟩
  | cons s l ih =>
    intro y hy
    obtain ⟨hm, hn⟩ := ih (d.endSession s.sid cause true) y hy
    obtain ⟨x, hx, hxy⟩ := List.mem_map.mp hm
    refine ⟨(Dev.endSession_touch d s.sid cause true).sids (by simp) hm, ?_⟩
    simp only [List.map_cons, List.mem_cons, not_or]
    exact ⟨fun h => Dev.endSession_gone d s.sid cause true x hx (hxy.trans h), hn⟩

theorem Dev.endAll_sessions (d : Dev) (cause : Nat) : (d.endAll cause).net.sessions = [] := by
  refine List.eq_nil_iff_forall_not_mem.mpr fun y hy => ?_
  obtain ⟨hm, hn⟩ := foldl_endSession_gone d.net.sessions cause d y hy
  exact hn hm

theorem Dev.galeDieEnds_lap (d : Dev) (die op : Nat) : (d.galeDieEnds die op).gale.lap = (die :: d.gale.failed, d.gale.lapAt) := by
  unfold Dev.galeDieEnds
  rw [Dev.endAll_lap, Dev.raise_gale]
  rfl

/-! ### A search, the verifier, a step -/

theorem Dev.count_countSearch (d : Dev) (t : GTable) :
    (d.countSearch t true).count (.galeSearch t) = d.count (.galeSearch t) + 1 ∧
      (d.countSearch t true).count (.galeHit t) = d.count (.galeHit t) + 1 := by
  unfold Dev.countSearch
  simp only [if_true]
  constructor
  · exact ((d.bump (.galeSearch t) 1).count_bump_of_ne 1 (by simp)).trans (d.count_bump ..)
  · exact (Dev.count_bump ..).trans (congrArg (· + 1) (Dev.count_bump_of_ne d 1 nofun))

/-- A search with one match that its owner confirms is counted, where no capsule and no packet asked for it, and does nothing else. -/
theorem galeResultEff_confirmed {d : Dev} {g : GTable} {key : GaleSearch} {a : Nat} (hr : d.par.run = .running) (hc : d.pow.rung = .clear)
    (hp : (d.gale.partakes g 0).filter GRow.perr = []) (hm : d.gale.matches_ g 0 key.word (d.gale.masks.get 0) = [a])
    (how : d.gale.ownWord g a = some key.word) (hw : d.ownsWord g key.word = true) :
    galeResultEff g key.word key.asker [] d = if key.asker.isNone && g != .session then d.countSearch g true else d := by
  unfold galeResultEff
  simp only [hr, hc, beq_self_eq_true, Bool.and_self, if_true, List.foldl_nil, hp, List.map_nil, List.isEmpty_nil, hm, how, hw,
    Bool.not_true, Bool.and_false, Bool.false_eq_true, if_false, List.isEmpty_cons, Bool.not_false]
  unfold Dev.perrRows
  simp

theorem galeResult_counts (s : State) (g : GTable) (key : GaleSearch) (a : Nat) (hr : s.dev.par.run = .running) (hc : s.dev.pow.rung = .clear)
    (hs : settled s.dev) (hp : (s.dev.gale.partakes g 0).filter GRow.perr = [])
    (hm : s.dev.gale.matches_ g 0 key.word (s.dev.gale.masks.get 0) = [a]) (how : s.dev.gale.ownWord g a = some key.word)
    (hw : s.dev.ownsWord g key.word = true) :
    ∃ t, exec (.galeResult g key []) s = .next t ∧ t.dev.gale = s.dev.gale ∧
      (key.asker = none → g ≠ .session → t.dev.count (.galeSearch g) = s.dev.count (.galeSearch g) + 1 ∧
        t.dev.count (.galeHit g) = s.dev.count (.galeHit g) + 1) ∧
      ((key.asker.isSome = true ∨ g = .session) → t.dev.count (.galeSearch g) = s.dev.count (.galeSearch g)) := by
  refine ⟨_, State.run_of_eq (galeResultEff_confirmed hr hc hp hm how hw), ?_⟩
  by_cases hk : (key.asker.isNone && g != .session) = true
  · rw [if_pos hk, Dev.reportMode_of_settled (d := s.dev.countSearch g true) hs]
    obtain ⟨hn, hg⟩ := Bool.and_eq_true_iff.mp hk
    refine ⟨rfl, fun _ _ => s.dev.count_countSearch g, fun h => ?_⟩
    simp_all
  · rw [if_neg hk, Dev.reportMode_of_settled hs]
    refine ⟨rfl, fun h hg => absurd ?_ hk, fun _ => rfl⟩
    simp [h, hg]

/-- A row that is read back leaves the verifier where it is. -/
theorem Dev.rowRead_lapAt (d : Dev) (addr : Nat) (wrong : Bool) : (d.rowRead addr wrong).gale.lapAt = d.gale.lapAt := by
  unfold Dev.rowRead
  dsimp only
  split_ifs
  · rfl
  · rfl
  · exact congrArg Prod.snd (Dev.galeDieEnds_lap ..)
  · rfl

theorem galeVerifierRead_moves (s : State) (u : VerifierUpset) (a b : Nat) (hr : s.dev.par.run = .running) (hc : s.dev.pow.rung = .clear)
    (ha : s.dev.gale.nextRow s.dev.gale.lapAt = some a)
    (hb : (if u.written then s.dev else (s.dev.verifyRow a u).2).gale.nextRow (a + 1) = some b) :
    ∃ t, exec (.galeVerifierRead u) s = .next t ∧ t.dev.gale.lapAt = a + 1 := by
  refine ⟨_, State.run_of_eq (f := galeVerifierEff u) rfl, ?_⟩
  rw [Dev.reportMode_gale]
  unfold galeVerifierEff
  simp only [hr, hc, beq_self_eq_true, Bool.and_self, if_true, ha]
  have hnext (g : Gale) (k l m n : Nat) : Gale.nextRow { g with lapAt := k, lapRows := l, lapSkipped := m, lapRepairs := n } (a + 1) =
      g.nextRow (a + 1) := rfl
  cases hu : u.written with
  | true =>
    rw [hu] at hb
    simp only [if_true] at hb
    simp only [if_true, Dev.modGale, hnext, hb]
  | false =>
    rw [hu] at hb
    simp only [Bool.false_eq_true, if_false] at hb
    simp only [Bool.false_eq_true, if_false, Dev.rowRead_lapAt, Dev.modGale, hnext, hb]

/-- A new step leaves what the temperature allows. -/
theorem Dev.applyStep_tempStep (d : Dev) : d.applyStep.gale.tempStep = d.gale.tempStep := by
  unfold Dev.applyStep
  extract_lets new old src src2 d1 d2
  split
  · rfl
  · have h2 : Touch [.par, .conf] d1 d2 := .notifyAll (.trans (.bump (.refl _ d1) ..) (Dev.applyCommitted_touch ..)) ..
    have h3 : Touch [.par, .conf, .fresh] d1 ((d2.raise Ev.galeStep new old d2.gale.hottest (d2.gale.hottestTemp % 2 ^ 32).toNat).floorShorts) :=
      .next (h2.of.raise ..) (Dev.floorShorts_touch _)
    exact (congrArg Gale.tempStep (h3.gale (by simp)) :)

theorem galeStepUp_steps (s : State) (k : Nat) (h : s.dev.gale.dwellSince = some k) :
    ∃ t, exec .galeStepUpDwell s = .next t ∧ t.dev.gale.tempStep = min 600 (2 * s.dev.gale.tempStep) := by
  refine ⟨_, State.run_of_eq (f := galeStepUpEff) rfl, ?_⟩
  rw [Dev.reportMode_gale]
  unfold galeStepUpEff
  rw [h]
  exact Dev.applyStep_tempStep _

theorem galeDieNoAnswer_fails (s : State) (die : Fin 8) (hr : s.dev.par.run = .running)
    (hf : s.dev.gale.failed.contains die.val = false) :
    ∃ t, exec (.galeDieNoAnswer die) s = .next t ∧ die.val ∈ t.dev.gale.failed ∧ t.dev.net.sessions = [] := by
  have he : galeDieEff die s.dev = s.dev.draw.2.galeDieEnds die.val (1 + s.dev.draw.1.toNat % 7) := by
    unfold galeDieEff
    rw [hf, hr]
    rfl
  refine ⟨_, State.run_of_eq he, ?_, ?_⟩
  · rw [Dev.reportMode_gale]
    have hl := Dev.galeDieEnds_lap s.dev.draw.2 die.val (1 + s.dev.draw.1.toNat % 7)
    exact List.mem_of_mem_head? (congrArg (fun l : List Nat × Nat => l.1.head?) hl)
  · have hn := Dev.endAll_sessions ((s.dev.draw.2.modGale (fun g => { g with failed := die.val :: g.failed })).raise
      (Ev.galeDieFail (1025 + die.val)) die.val (1 + s.dev.draw.1.toNat % 7) 0 0) 8
    have hk := (Dev.reportMode_touch (s.dev.draw.2.galeDieEnds die.val (1 + s.dev.draw.1.toNat % 7))).sids (by simp)
    exact List.map_eq_nil_iff.mp (List.subset_nil.mp (List.Subset.trans hk (subset_of_list_eq (congrArg (List.map Session.sid) hn))))

/-- Settles O15: a confirmed search only counts; the end of the sessions leaves Gale's dies and the verifier's place as they are. -/
theorem galeOperationsTakeEffect : Obligations.GaleOperationsTakeEffect :=
  ⟨galeResult_counts, galeVerifierRead_moves, galeStepUp_steps, galeDieNoAnswer_fails⟩

end Sys2Proof.Machine
end

section
/-! What a start runs through: the record of the life cycle, the settings, the replay of the journal, the cartridges (R158, R248, R388, R436). -/

namespace Sys2Proof.Machine

/-- What a start may change, beside how the drive runs: not the sessions, the links, the capsules, the versions in Drift and the power. -/
@[simp] abbrev startParts : List DevPart := .conf :: .epochs :: .cards :: .upd :: .ring :: pairParts

/-! ### Cartridges -/

theorem Dev.lifeMark_touch (d : Dev) (bay : BayNo) (mark threshold : Nat) : Touch [.bays] d (d.lifeMark bay mark threshold) :=
  .ite (fun _ => .raise (d.modBay_touch ..) ..) (fun _ => .refl _ d)

theorem Dev.lifeCheck_touch (d : Dev) (bay : BayNo) : Touch [.bays] d (d.lifeCheck bay) :=
  .trans (d.lifeMark_touch ..) (Dev.lifeMark_touch ..)

theorem Dev.bandErased_touch (d : Dev) (bay : BayNo) (group block : Nat) : Touch [.cards, .bays, .med] d (d.bandErased bay group block) := by
  unfold Dev.bandErased
  extract_lets b mode main units w d1 d2 src d3
  have h1 : Touch [.cards, .bays, .med] d d1 := (d.modBay_cards ..).of
  have h3 : Touch [.cards, .bays, .med] d d3 := .setMed (.bump h1 ..) _
  exact h3.next (d3.lifeCheck_touch bay)

theorem Dev.bandsErased_touch (d : Dev) (bay : BayNo) (l : List (Nat × Nat)) : Touch [.cards, .bays, .med] d (d.bandsErased bay l) :=
  Touch.foldl (fun d _ => d.bandErased_touch ..) _ _

theorem Dev.payErasure_touch (d : Dev) (bay : BayNo) : Touch [.cards, .bays, .med, .sec] d (d.payErasure bay) :=
  Touch.foldl (fun d _ => .setSec (d.bandsErased_touch ..).of _) _ _

theorem Dev.dropMark_touch (d : Dev) (bay : BayNo) : Touch [.idx] d (d.dropMark bay) := (Touch.refl _ d).setIdx _

theorem Dev.copyEnd_touch (d : Dev) (bay : BayNo) : Touch [.idx, .med, .bays] d (d.copyEnd bay) := by
  unfold Dev.copyEnd
  refine .ite (fun _ => .refl _ d) (fun _ => ?_)
  have h := d.writeOn_touch [bay] .journal (d.idx.endEpoch % 8) 1 true .mark
  split
  · next l _ _ d1 he =>
    rw [he] at h
    exact .setIdx h.of _ (hk := ⟨rfl, rfl, id⟩)
  · exact .refl _ d

theorem Dev.bindBay_touch (d : Dev) (bay : BayNo) : Touch [.cards, .bays, .idx, .med, .par] d (d.bindBay bay) := by
  unfold Dev.bindBay
  extract_lets d0 d1 d2 b
  have h0 : Touch [.cards, .bays, .idx, .med, .par] d d0 := by
    simp only [d0]
    split
    · exact (d.modBay_cards ..).of
    · exact .refl _ d
  have h1 : Touch [.cards, .bays, .idx, .med, .par] d d1 := h0.next (d0.modBay_cards ..)
  have h2 : Touch [.cards, .bays, .idx, .med, .par] d d2 :=
    .next (.next (.next (h1.next (d1.writeSlot_touch ..)) (Dev.dropMark_touch ..)) (Dev.copyEnd_touch ..)) (Dev.writeBindings_touch _)
  exact .next (.next (h2.raise ..) (Dev.lifeCheck_touch ..)) (Dev.refreshMode_touch ..)

theorem Dev.payParity_touch (d : Dev) (bay : BayNo) (x : Band) : Touch [.med, .bays] d (d.payParity bay x) :=
  .trans (d.modBay_touch ..).of (Touch.foldl (fun d _ => .ite (fun _ => .refl _ d) (fun _ => (d.issueProg_touch ..).of)) _ _)

theorem Dev.closeOpen_touch (d : Dev) (bay : BayNo) : Touch [.med, .bays] d (d.closeOpen bay) :=
  .next (.trans (Touch.foldl (fun d _ => d.closeBand_touch ..) _ d) (Touch.foldl (fun d _ => d.payParity_touch ..) _ _)) (Dev.modBay_touch _ bay (fun b => { b with savedRows := [] }))

/-! ### The replay of the journal -/

theorem Dev.replayRec_touch (d : Dev) (r : JRec) : Touch [.idx] d (d.replayRec r) := by
  unfold Dev.replayRec
  split
  · exact d.modRec_touch ..
  · exact .ite (fun _ => d.modRec_touch ..) (fun _ => .ite (fun _ => .refl _ d) (fun _ => .trans (d.modRec_touch ..) (Dev.enterLog_touch ..)))

theorem Dev.replayUploads_touch (d : Dev) (bays : List BayNo) (was : List JRec) : Touch [.idx] d (d.replayUploads bays was) :=
  .setIdx (.refl _ d) _

theorem Dev.replayBays_touch (d : Dev) (bays : List BayNo) : Touch [.idx] d (d.replayBays bays).2 := by
  unfold Dev.replayBays
  extract_lets good l d1 src
  have h1 : Touch [.idx] d d1 := Touch.foldl (fun d r => d.replayRec_touch r) _ _
  show Touch [.idx] d (Dev.replayUploads _ _ _)
  refine .trans ?_ (Dev.replayUploads_touch ..)
  exact .setIdx h1 _ (hk := ⟨rfl, rfl, id⟩)

theorem Dev.sweepCopies_touch (d : Dev) (bays : List BayNo) : Touch [.med] d (d.sweepCopies bays) := .setMed (.refl _ d) _

theorem Dev.replaySecures_touch (d : Dev) : Touch [.med] d d.replaySecures := .setMed (.refl _ d) _

theorem Dev.partialPatch_touch (d : Dev) (v : Version) (o n : Nat) : Touch [.idx, .med, .bays, .fresh] d (d.partialPatch v o n) := by
  unfold Dev.partialPatch
  split
  · split
    · exact .refl _ d
    · next c _ =>
      dsimp only
      refine .ite (fun _ => .draw (.refl _ d)) (fun _ => .raise (.next (.next (.setMed (.draw (.refl _ d)) _) (Dev.killCopy_touch ..))
        (Dev.commitNew_touch ..)) ..)
  · exact .refl _ d

theorem Dev.findEnd_touch (d : Dev) : Touch [.epochs, .idx] d d.findEnd := by
  unfold Dev.findEnd
  split
  · exact .refl _ d
  · exact .setEpochs (.refl _ d) _

theorem Dev.recoverIndex_touch (d : Dev) (cuts : List (Version × Nat × Nat)) :
    Touch [.epochs, .idx, .ns, .med, .bays, .fresh] d (d.recoverIndex cuts).2 := by
  unfold Dev.recoverIndex
  extract_lets e bays dirty clean bs src d1
  have h1 : Touch [.epochs, .idx, .ns, .med, .bays, .fresh] d d1 := .setEpochs d.findEnd_touch.of _
  have h2 := d1.replayBays_touch bays
  split
  next n d2 he =>
  rw [he] at h2
  have h3 : Touch [.epochs, .idx, .ns, .med, .bays, .fresh] d
      (cuts.foldl (fun (d : Dev) (c : Version × Nat × Nat) => d.partialPatch c.1 c.2.1 c.2.2) d2.replaySecures) :=
    .trans (.next (h1.next h2) (Dev.replaySecures_touch _)) (Touch.foldl (fun d _ => (d.partialPatch_touch ..).of) _ _)
  exact .raise (.draw (.next (h3.next (Dev.sweepCopies_touch ..)) (Dev.recount_touch _))) ..

theorem Dev.reattach_touch (d : Dev) (bay : BayNo) (replay : Bool) : Touch startParts d (d.reattach bay replay) := by
  unfold Dev.reattach
  extract_lets d0 d1
  have h1 : Touch startParts d d1 := .next (d.modBay_cards ..).of (Dev.payErasure_touch ..)
  have hr : Touch startParts d (if replay then
      (let (v, x) := (((d1.closeOpen bay).replayBays [bay]).2.sweepCopies [bay]).recount.draw
       (v.toNat % 3001, x))
    else (0, d1)).2 := by
    split
    · exact .draw (.next (.next (.next (h1.next (d1.closeOpen_touch _)) (Dev.replayBays_touch ..)) (Dev.sweepCopies_touch ..))
        (Dev.recount_touch _))
    · exact h1
  split
  next t d2 he =>
  rw [he] at hr
  exact .next (.next (.next (.raise (hr.next (Dev.writeBindings_touch _)) ..) (Dev.lifeCheck_touch ..)) (Dev.refreshMode_touch ..))
    (Dev.mediaAdvance_touch _)

theorem Dev.attachAdmitted_touch (d : Dev) : Touch startParts d d.attachAdmitted := by
  refine Touch.foldl (fun d b => .ite (fun _ => ?_) (fun _ => .refl _ d)) _ d
  split
  · exact .ite (fun _ => d.reattach_touch ..) (fun _ => (d.bindBay_touch b).of)
  · exact d.reattach_touch ..

/-! ### The life cycle and sanitise -/

theorem Dev.actProvision_touch (d : Dev) (p : Bytes) : Touch [.sec, .life] d (d.actProvision p) :=
  .ite (fun _ => .refl _ d) (fun _ => .setSec (.refl _ d) _)

theorem Dev.actOwn_touch (d : Dev) : Touch [.sec, .life, .ev, .fresh, .cards, .bays, .idx, .med, .par] d d.actOwn := by
  unfold Dev.actOwn
  split
  next k d0 he =>
  have h0 : Touch [.sec, .life, .ev, .fresh, .cards, .bays, .idx, .med, .par] d d.draw.2 := .draw (.refl _ d)
  rw [he] at h0
  extract_lets src1 src2 d1
  have h1 : Touch [.sec, .life, .ev, .fresh, .cards, .bays, .idx, .med, .par] d d1 := h0.trans (by constructor <;> simp [d1, src1, src2])
  exact h1.trans (Touch.foldl (fun d b => .ite (fun _ => (d.bindBay_touch b).of) (fun _ => .refl _ d)) _ _)

theorem Dev.releaseBay_touch (d : Dev) (bay : BayNo) : Touch [.cards, .bays, .med, .idx, .ev] d (d.releaseBay bay) := by
  unfold Dev.releaseBay
  extract_lets b stored d1 d2 src1 src2 src3 d3 d4
  have h1 : Touch [.cards, .bays, .med, .idx, .ev] d d1 := .next (d.stopDies_touch bay).of (Dev.bandsErased_touch ..)
  have h2 : Touch [.cards, .bays, .med, .idx, .ev] d d2 := .next (h1.next (d1.modBay_touch ..)) (Dev.writeSlot_touch ..)
  have h3 : Touch [.cards, .bays, .med, .idx, .ev] d d3 := h2.trans (by constructor <;> simp [d3, src1, src2, src3])
  exact .raise (h3.next (d3.modBay_cards ..)) ..

theorem Dev.defaultSettings_touch (d : Dev) : Touch [.par, .conf] d d.defaultSettings :=
  .trans (.setPar (.refl _ d) _) (Dev.writeSettings_touch _)

/-- What the actions of a transition may change. -/
@[simp] abbrev lcParts : List DevPart :=
  [.sec, .life, .ev, .fresh, .cards, .bays, .idx, .epochs, .med, .par, .conf, .ns, .que]

theorem Dev.actDecommission_touch (d : Dev) (final : Bool) (p : Bytes) : Touch lcParts d (d.actDecommission final p) := by
  unfold Dev.actDecommission
  extract_lets src1 src2 src3 src4 d1 d2 d3
  have h1 : Touch lcParts d d1 := by constructor <;> simp [d1, src1, src2, src3, src4]
  have h3 : Touch lcParts d d3 :=
    .trans (h1.raise ..) (Touch.foldl (fun d b => .ite (fun _ => (d.releaseBay_touch b).of) (fun _ => .refl _ d)) _ _)
  exact h3.next (d3.defaultSettings_touch)

theorem Dev.lcActs_touch (d : Dev) (target : BitVec 8) (p : Bytes) : Touch lcParts d (d.lcActs target p) :=
  .ite (fun _ => (d.actProvision_touch p).of) (fun _ => .ite (fun _ => d.actOwn_touch.of)
    (fun _ => .ite (fun _ => .refl _ d) (fun _ => d.actDecommission_touch ..)))

theorem Dev.wipeLc_touch (d : Dev) : Touch (.life :: startParts) d d.wipeLc := by
  unfold Dev.wipeLc
  constructor <;> simp

theorem Dev.lcResume_touch (d : Dev) : Touch (.life :: startParts) d d.lcResume :=
  .ite (fun _ => .refl _ d) (fun _ => .raise (.trans (.setSec (d.lcActs_touch ..).of _) (Dev.wipeLc_touch _)) ..)

theorem Dev.resumeSanitise_touch (d : Dev) : Touch [.sec, .que] d d.resumeSanitise := by
  refine Touch.foldl (fun d r => ?_) _ d
  extract_lets d1 src1 src2
  have h1 : Touch [.sec, .que] d d1 := .raise (.refl _ d) ..
  split
  · exact h1.trans (by constructor <;> simp [src1, src2])
  · exact h1.setSec _ (hl := .inr rfl)

theorem Dev.remeasure_touch (d : Dev) : Touch [.sec] d d.remeasure := by
  refine Touch.foldl (fun d i => ?_) _ d
  extract_lets g src d1
  have h1 : Touch [.sec] d d1 := .setSec (.refl _ d) _ (hl := .inr rfl)
  clear_value d1
  split
  · exact .ite (fun _ => .refl _ d) (fun _ => .ite (fun _ => h1) (fun _ => h1.raise ..))
  · exact h1

theorem Dev.revokedInService_sent (d : Dev) : Sent d d.revokedInService := by
  refine Sent.foldl (fun d b => ?_) _ d
  dsimp only
  split
  · exact d.raise_sent ..
  · exact .refl d

/-! ### The start -/

/-- A start changes what the completion of a transition changes, and the start's own parts. -/
theorem Dev.startCore_touch_of {S : List DevPart} (d : Dev) (cuts : List (Version × Nat × Nat)) (hS : startParts ⊆ S)
    (hl : ∀ e : Dev, e.sec = d.sec → Touch S e e.lcResume) :
    Touch S { d with par := { d.par with run := .running } } (d.startCore cuts) := by
  unfold Dev.startCore
  extract_lets src kind d1 d2 fromCp
  have h0 := ({ d with par := { d.par with run := .running } } : Dev).loadSettings_touch
  have h1 : Touch S { d with par := { d.par with run := .running } } d1 :=
    .trans ((h0.of (T := startParts)).mono hS |>.trans (hl _ (h0.sec (by simp)))) ((Dev.loadSlots_touch _).of.mono hS)
  clear_value d1
  refine h1.trans (.mono ?_ hS)
  have h2 : Touch startParts d1 d2 := Touch.foldl (fun d b => .ite (fun _ => (d.closeOpen_touch b).of) (fun _ => .refl _ d)) _ _
  refine h2.trans ?_
  clear_value d2 fromCp
  clear h0 h1 h2
  have h3 : Touch startParts d2 (if d2.skipsReplay then (0, d2) else d2.recoverIndex cuts).2 := by
    split
    · exact .refl _ d2
    · exact (d2.recoverIndex_touch cuts).of
  split
  next n d3 he =>
  replace h3 : Touch startParts d2 d3 := by rwa [he] at h3
  extract_lets d4 d5 d6
  have h4 : Touch startParts d2 d4 := .next (h3.setGale _) (Dev.resumeSanitise_touch _)
  have h6 : Touch startParts d2 d6 := .next (.raise (h4.next d4.mediaAdvance_touch) ..) (Dev.remeasure_touch _)
  split
  next t d7 he7 =>
  have h7 : Touch startParts d2 d7 := by
    have := Touch.draw h6
    rwa [he7] at this
  extract_lets d8 rep
  have h8 : Touch startParts d2 d8 := .sent (h7.raise ..) (Dev.revokedInService_sent _)
  clear_value rep d8
  exact .next (.next (.sent (h8.setUpd _) (Dev.recomputePools_sent _)) (Dev.refreshEarly_touch _)) (Dev.refreshMode_touch ..)

theorem Dev.startCore_touch (d : Dev) (cuts : List (Version × Nat × Nat)) :
    Touch (.life :: startParts) { d with par := { d.par with run := .running } } (d.startCore cuts) :=
  d.startCore_touch_of cuts (List.subset_cons_self ..) fun e _ => e.lcResume_touch

/-- A start that finds no transition to complete leaves the life cycle. -/
theorem Dev.startCore_life (d : Dev) (cuts : List (Version × Nat × Nat)) (h : d.sec.intent = 0) :
    Touch startParts { d with par := { d.par with run := .running } } (d.startCore cuts) :=
  d.startCore_touch_of cuts (List.Subset.refl _) fun e he => by
    have hr : e.lcResume = e := if_pos (by simp [he, h])
    exact hr.symm ▸ .refl _ e

end Sys2Proof.Machine
end

section
/-! The power-fail sequence, the resets and the start: what takes the drive down, what brings it up again (R326 to R334, R435 to R438). -/

namespace Sys2Proof.Machine

/-- The inputs of the drive, and what is kept of a lost one. -/
@[simp] def Power.supply (p : Power) : Bool × Bool × Bool × Bool × BitVec 6 × Bool × Bool :=
  (p.pwrEn, p.pwrFail, p.p12v, p.aux3v3, p.slotId, p.auxLost, p.pllOk)

theorem Power.inputsOk_of_supply {p q : Power} (h : q.supply = p.supply) : q.inputsOk = p.inputsOk := by
  simp only [Power.supply, Prod.mk.injEq] at h
  obtain ⟨h1, h2, h3, h4, _, _, _⟩ := h
  simp only [Power.inputsOk, h1, h2, h3, h4]

/-! ### Resets -/

theorem Ages.of_nil {l : List Version} (h : Ages [] l) : l = [] :=
  List.eq_nil_iff_forall_not_mem.mpr fun v hv => by
    obtain ⟨w, hw, _⟩ := h v hv
    exact List.not_mem_nil hw

theorem Touch.no_sessions {S : List DevPart} {d e : Dev} (g : Touch S d e) (h : d.net.sessions = [])
    (hs : autoParam (.sids ∉ S) List.nodup_range'._auto_1) : e.net.sessions = [] := by
  simpa [h] using g.sids hs

/-- A drive that a reset or a start has left without sessions and with no version in Drift, with an input supply and in a course. -/
structure Fresh (p : Power) (c : RunState × Option SelfTest × Option Nat × Option ResetWhy × Nat × Nat) (e : Dev) : Prop where
  sessions : e.net.sessions = []
  drift : e.que.drift = []
  supply : e.pow.supply = p.supply
  course : e.par.course = c

section
variable {S : List DevPart} {p : Power} {c : RunState × Option SelfTest × Option Nat × Option ResetWhy × Nat × Nat} {d e : Dev}

theorem Fresh.touch (h : Fresh p c d) (g : Touch S d e) (hs : autoParam (.sids ∉ S ∧ .drift ∉ S ∧ .pow ∉ S ∧ .course ∉ S) List.nodup_range'._auto_1) :
    Fresh p c e where
  sessions := g.no_sessions h.sessions hs.1
  drift := Ages.of_nil (h.drift ▸ g.drift hs.2.1)
  supply := (congrArg Power.supply (g.pow hs.2.2.1)).trans h.supply
  course := (g.course hs.2.2.2).trans h.course

/-- The start of a drive without sessions: it runs, by the start and for the reason it had. -/
theorem Fresh.startCore {r : RunState} {t : Option SelfTest} {n : Option Nat} {w : Option ResetWhy} {k l : Nat}
    (h : Fresh p (r, t, n, w, k, l) d) (cuts : List (Version × Nat × Nat)) : Fresh p (.running, t, n, w, k, l) (d.startCore cuts) := by
  have hc := h.course
  simp only [Conf.course, Prod.mk.injEq] at hc
  obtain ⟨_, h2, h3, h4, h5, h6⟩ := hc
  have hr : Fresh p (.running, t, n, w, k, l) { d with par := { d.par with run := .running } } :=
    ⟨h.sessions, h.drift, h.supply, by simp [h2, h3, h4, h5, h6]⟩
  exact hr.touch (d.startCore_touch cuts)

end

/-- The wipe of a reset ends every session and what the drive was in the course of. -/
theorem Dev.wipe_fresh (d : Dev) : Fresh d.settlePrograms.pow
    (d.settlePrograms.par.run, none, none, none, d.settlePrograms.par.startKind, d.settlePrograms.par.startCode) d.wipe :=
  ⟨rfl, rfl, rfl, rfl⟩

/-- A reset wipes the drive: it is without sessions, its supply is as it was, its course is over. -/
theorem Dev.wipe_leaves (d : Dev) : Fresh d.pow (d.par.run, none, none, none, d.par.startKind, d.par.startCode) d.wipe := by
  have h := d.settlePrograms_touch
  have hw := d.wipe_fresh
  rwa [h.pow (by simp), h.par (by simp)] at hw

/-- After a controller reset the drive runs, started by it. -/
theorem Dev.controllerReset_fresh (d : Dev) (code : Nat) :
    Fresh d.pow (.running, none, none, none, 2, code) (d.controllerReset code false) := by
  obtain ⟨hs, hv, hp, hc⟩ := d.wipe_leaves
  unfold Dev.controllerReset
  extract_lets cuts d1 src1 src2 d2
  simp only [Conf.course, Prod.mk.injEq] at hc
  obtain ⟨h1, h2, h3, h4, _, _⟩ := hc
  have hd : Fresh d.pow (d.par.run, none, none, none, 2, code) d2 := ⟨hs, hv, hp, by simp [d2, src1, d1, h1, h2, h3, h4]⟩
  rw [if_neg Bool.false_ne_true]
  exact (hd.touch (d2.mirrorReset_touch false)).startCore cuts

theorem Dev.controllerReset_started (d : Dev) (code : Nat) : (d.controllerReset code false).net.sessions = [] ∧
    (d.controllerReset code false).par.startKind = 2 ∧ (d.controllerReset code false).par.startCode = code := by
  obtain ⟨hs, _, _, hc⟩ := d.controllerReset_fresh code
  simp only [Conf.course, Prod.mk.injEq] at hc
  obtain ⟨_, _, _, _, hk, hl⟩ := hc
  exact ⟨hs, hk, hl⟩

/-! ### Recovery and the choice of the ROM -/

/-- In Recovery the drive has no sessions, and its start is the entry. -/
theorem Dev.enterRecovery_fresh {p : Power} {r : RunState} {n : Option Nat} {w : Option ResetWhy} {k l : Nat} {t : Option SelfTest} {d : Dev}
    (h : Fresh p (r, t, n, w, k, l) d) (cause : Nat) : Fresh p (.recovery, t, none, none, 3, l) (d.enterRecovery cause) := by
  unfold Dev.enterRecovery
  extract_lets d1 src1 src2 src3 d2
  have h1 : Fresh p (r, t, n, w, k, l) d1 := h.touch (S := [.upd, .med, .bays]) (.ite (fun _ => .refl _ d) (fun _ => d.endUpdate_touch 8))
  obtain ⟨hs, hv, hp, hc⟩ := h1
  simp only [Conf.course, Prod.mk.injEq] at hc
  obtain ⟨_, h2, _, _, _, h6⟩ := hc
  have hd : Fresh p (.recovery, t, none, none, 3, l) d2 := ⟨hs, hv, hp, by simp [d2, src1, h2, h6]⟩
  exact hd.touch (S := [.par]) (.trans (.emitOut (.raise (.refl _ d2) ..) _) (Dev.refreshMode_touch ..))

theorem Dev.recTwins_touch (d : Dev) : Touch [] d d.recTwins :=
  Touch.foldl (fun d _ => .ite (fun _ => .raise (.refl _ d) ..) (fun _ => .refl _ d)) _ d

theorem Dev.lcTwins_touch (d : Dev) : Touch [] d d.lcTwins :=
  Touch.foldl (fun d _ => .ite (fun _ => .raise (.refl _ d) ..) (fun _ => .refl _ d)) _ d

/-- A set that the ROM puts in force changes the updates and their history alone. -/
theorem Dev.romChoice_touch {d e : Dev} (h : d.romChoice = .inl e) : Touch [.upd, .med, .bays] d e := by
  have h0 : Touch [.upd, .med, .bays] d d.recTwins := d.recTwins_touch.of
  unfold Dev.romChoice at h
  extract_lets d0 invalid d1 at h
  split at h
  · cases h
  · next r _ =>
    have hv (e : Dev) (i : Fin 2) : Touch [.upd, .med, .bays] e (invalid e i) := .raise (.refl _ e) ..
    split at h
    · split at h
      · exact Sum.inl.inj h ▸ h0.trans (Dev.revert_touch ..)
      · cases h
    · extract_lets d2 a d3 o at h
      have h2 : Touch [.upd, .med, .bays] d d2 := .ite (fun _ => h0.setUpd _) (fun _ => h0)
      split at h
      · exact Sum.inl.inj h ▸ h2
      · split at h
        · split at h
          · exact Sum.inl.inj h ▸ .trans (h2.trans (hv ..)) (Dev.revert_touch ..)
          · cases h
        · split at h
          · exact Sum.inl.inj h ▸ .trans (h2.setUpd _) (hv ..)
          · cases h

/-! ### A start from power-on -/

/-- A start whose checks are over runs; else it goes on starting. -/
theorem Dev.startGo_fresh {p : Power} {t : Option SelfTest} {n : Option Nat} {w : Option ResetWhy} {k l : Nat} {d : Dev}
    (h : Fresh p (.starting, t, n, w, k, l) d) :
    Fresh p (.starting, t, n, w, k, l) d.startGo ∨ Fresh p (.running, t, n, w, k, l) d.startGo := by
  unfold Dev.startGo
  split
  · have hd : Fresh p (.starting, t, n, w, k, l) { d with idx := { d.idx with cuts := [] } } := ⟨h.sessions, h.drift, h.supply, h.course⟩
    generalize ({ d with idx := { d.idx with cuts := [] } } : Dev) = e at hd ⊢
    have h0 := hd.touch e.attachAdmitted_touch
    exact .inr ((h0.startCore _).touch (Dev.attachAdmitted_touch _))
  · exact .inl h

/-- Of the supply what a start takes over; it makes the two marks good. -/
@[simp] def Power.inlets (p : Power) : Bool × Bool × Bool × Bool × BitVec 6 := (p.pwrEn, p.pwrFail, p.p12v, p.aux3v3, p.slotId)

/-- A start from power-on ends with the drive starting, running or in Recovery, without sessions, with its inputs as they were. -/
theorem Dev.powerOn_fresh (d : Dev) (kind : Nat) : ∃ p : Power, p.inlets = d.pow.inlets ∧
    (Fresh p (.starting, none, none, none, kind, 0) (d.powerOn kind) ∨ Fresh p (.running, none, none, none, kind, 0) (d.powerOn kind) ∨
      Fresh p (.recovery, none, none, none, 3, 0) (d.powerOn kind)) := by
  obtain ⟨hs, hv, hp, hc⟩ := d.wipe_leaves
  unfold Dev.powerOn
  extract_lets cuts d0 back src0 dt src1 src2 src3 src4 src5 src6 src7 d1
  have ht : Touch [.clk] d0 dt := by
    simp only [dt]
    split
    · exact .trans (.setClk (.refl _ d0) _) (Dev.setSource_touch ..)
    · exact .ite (fun _ => .refl _ d0) (fun _ => d0.setSource_touch ..)
  refine ⟨d1.pow, ?_, ?_⟩
  · simp only [Power.supply, Prod.mk.injEq] at hp
    obtain ⟨h1, h2, h3, h4, h5, _, _⟩ := hp
    simp only [Power.inlets, Prod.mk.injEq]
    exact ⟨h1, h2, h3, h4, h5⟩
  simp only [Conf.course, Prod.mk.injEq] at hc
  obtain ⟨_, h2, h3, h4, _, _⟩ := hc
  have hd : Fresh d1.pow (.starting, none, none, none, kind, 0) d1 :=
    ⟨ht.no_sessions hs, Ages.of_nil (hv ▸ ht.drift (by simp)), rfl, by simp only [Conf.course, Prod.mk.injEq]; exact ⟨rfl, h2, h3, h4, rfl, rfl⟩⟩
  have hl : Fresh d1.pow (.starting, none, none, none, kind, 0) d1.lcTwins := hd.touch d1.lcTwins_touch
  generalize d1.lcTwins = e at hl ⊢
  generalize d1.pow = p at hl ⊢
  split
  · exact .inr (.inr (e.enterRecovery_fresh hl _))
  · next d2 he =>
    have h0 : Fresh p (.starting, none, none, none, kind, 0) (d2.mirrorReset true) := .touch (hl.touch (Dev.romChoice_touch he)) (d2.mirrorReset_touch true)
    extract_lets src d3 src3 d4 src4 d5
    have hb : Fresh p (.starting, none, none, none, kind, 0) { d2.mirrorReset true with bays := d2.bays.map Bay.powered } :=
      ⟨h0.sessions, h0.drift, h0.supply, h0.course⟩
    have h3 : Fresh p (.starting, none, none, none, kind, 0) d3 :=
      hb.touch (Touch.foldl (fun d b => .ite (fun _ => d.challenge_touch b) (fun _ => .refl _ d)) _ _)
    clear_value d3
    have h4 : Fresh p (.starting, none, none, none, kind, 0) d4 := by
      simp only [d4]
      split
      · next r _ =>
        have hp : Fresh p (.starting, none, none, none, kind, 0) { d3 with pow := { d3.pow with failRecord := none } } := ⟨h3.sessions, h3.drift, h3.supply, h3.course⟩
        exact hp.touch (S := []) (.raise (.refl _ _) ..)
      · exact h3
    clear_value d4
    have h5 : Fresh p (.starting, none, none, none, kind, 0) d5 := by
      simp only [d5]
      split
      · have hp : Fresh p (.starting, none, none, none, kind, 0) { d4 with pow := { d4.pow with tripRecord := none } } := ⟨h4.sessions, h4.drift, h4.supply, h4.course⟩
        exact hp.touch (S := []) (.raise (.refl _ _) ..)
      · exact h4
    exact (Dev.startGo_fresh h5).imp_right .inl

theorem Dev.powerOn_stands (d : Dev) (kind : Nat) : (d.powerOn kind).net.sessions = [] ∧ (d.powerOn kind).que.drift = [] ∧
    (d.powerOn kind).pow.inlets = d.pow.inlets ∧ (d.powerOn kind).par.run ≠ .off ∧ (d.powerOn kind).par.shutdownSince = none := by
  have hin {p q : Power} (h : q.supply = p.supply) : q.inlets = p.inlets := by
    simp only [Power.supply, Prod.mk.injEq] at h
    simp [h]
  obtain ⟨p, hp, h⟩ := d.powerOn_fresh kind
  rcases h with ⟨hs, hv, hq, hc⟩ | ⟨hs, hv, hq, hc⟩ | ⟨hs, hv, hq, hc⟩ <;> simp only [Conf.course, Prod.mk.injEq] at hc <;>
    exact ⟨hs, hv, (hin hq).trans hp, by simp [hc], hc.2.2.1⟩

/-! ### The power-fail sequence -/

/-- A drive that the sequence takes down: its sessions have ended, its supply and its sensors are as they were. -/
structure Falls (d b : Dev) : Prop where
  sessions : b.net.sessions = []
  supply : b.pow.supply = d.pow.supply
  sensors : b.mgmt.sensors = d.mgmt.sensors
  resets : b.par.shutdownSince = none ∧ b.par.pendingReset = none

/-- The sequence begins, and with nothing to flush it ends at once. -/
theorem Dev.powerFail_begins {d : Dev} (hf : d.pow.failing = none) (halt : RunState) (trip : Option (Nat × Nat × Int)) :
    ∃ b f, d.powerFail halt trip = b.failCheck ∧ Falls d b ∧ b.pow.failing = some f ∧ f.thenHalt = halt ∧ f.trip = trip := by
  unfold Dev.powerFail
  rw [hf]
  extract_lets l link d1 src1 d2 d3 runs keep ids flushIds src2 src3 src4 src5 d4
  have h3 : Touch [.net, .links, .med, .idx, .bays] d1 d3 := by
    have h2 : Touch [.net, .links, .med, .idx, .bays] d1 d2 := .raise (.setLinks (.refl _ d1) _) ..
    exact h2.next (d2.abandonBatches_touch _)
  have hd : Touch [.net, .links, .med, .idx, .bays, .que, .gale] d d3 := .trans (d.endAll_touch 14).of h3.of
  refine ⟨d4, _, rfl, ⟨h3.no_sessions (d.endAll_sessions 14), ?_, ?_, rfl, rfl⟩, rfl, rfl, rfl⟩
  · exact (congrArg Power.supply (hd.pow (by simp)) :)
  · exact (congrArg (fun m : Mgmt => m.sensors) (hd.mgmt (by simp)) :)

/-- Steps 8 to 10 of the sequence, before what its cause asks for. -/
def Dev.failDown (d : Dev) (f : FailSeq) : Dev :=
  let d1 := if d.pow.rung.num ≤ 2 then ((d.saveRows.baroFlush 3).setPriority .reservedItem 1).passItem .reservedItem else d
  let (e, d2) := d1.draw
  { d2 with
    pow := { d2.pow with
      failing := none, tripRecord := f.trip,
      failRecord := some { energy := e.toNat % 2 ^ 16, timeMs := (d2.clk.tick - f.since) / 1000, flushed := f.flushed, lost := f.lost } },
    par := { d2.par with run := f.thenHalt, shutdownSince := none, pendingReset := none, closing := false },
    mgmt := { d2.mgmt with vaneUp := d2.pow.aux3v3 && d2.pow.pwrEn, conns := if d2.pow.aux3v3 then d2.mgmt.conns else [] } }

theorem Dev.saveRows_touch (d : Dev) : Touch [.idx, .med, .bays] d d.saveRows := by
  refine Touch.foldl (fun d bay => ?_) _ d
  exact .ite (fun _ => .next (.trans (.next (d.writeReserved_touch ..).of (Dev.setPriority_touch ..)) (Dev.passItem_touch ..))
    (Dev.modBay_touch ..)) (fun _ => .refl _ d)

theorem Dev.failDown_falls (d : Dev) (f : FailSeq) (h : d.net.sessions = []) : Falls d (d.failDown f) ∧
    (d.failDown f).par.run = f.thenHalt ∧ (d.failDown f).pow.tripRecord = f.trip := by
  unfold Dev.failDown
  extract_lets d1
  have h1 : Touch [.ev, .idx, .med, .bays, .fresh] d d1 :=
    .ite (fun _ => .next (.next (.next d.saveRows_touch.of (Dev.baroFlush_touch ..)) (Dev.setPriority_touch ..)) (Dev.passItem_touch ..))
      (fun _ => .refl _ d)
  have h2 : Touch [.ev, .idx, .med, .bays, .fresh] d d1.draw.2 := h1.draw
  split
  next e d2 he =>
  rw [he] at h2
  refine ⟨⟨h2.no_sessions h, ?_, ?_, rfl, rfl⟩, rfl, rfl⟩
  · exact (congrArg Power.supply (h2.pow (by simp)) :)
  · exact (congrArg (fun m : Mgmt => m.sensors) (h2.mgmt (by simp)) :)

/-- Without its inputs the drive stays off after the sequence; with them it starts again. -/
theorem Dev.failEnd_off (d : Dev) {f : FailSeq} (h : f.thenHalt = .off) :
    d.failEnd f = if (d.failDown f).pow.inputsOk then (d.failDown f).powerOnStart else d.failDown f := by
  unfold Dev.failEnd Dev.failDown
  rw [h]
  rfl

/-- Any other end leaves the drive as it is then. -/
theorem Dev.failEnd_halts (d : Dev) {f : FailSeq} (ho : f.thenHalt ≠ .off) (hp : f.thenHalt ≠ .haltedPll) : d.failEnd f = d.failDown f := by
  unfold Dev.failEnd Dev.failDown
  cases h : f.thenHalt with
  | off => exact absurd h ho
  | haltedPll => exact absurd h hp
  | _ => rfl

/-- After the loss of its PLL a reset starts the drive again, or it stays halted. -/
theorem Dev.failEnd_pll (d : Dev) {f : FailSeq} (h : f.thenHalt = .haltedPll) :
    (∃ e : Dev, d.failEnd f = e.controllerReset Ev.pllUnlock.code false) ∨
      ((d.failEnd f).net = (d.failDown f).net ∧ (d.failEnd f).que = (d.failDown f).que ∧ (d.failEnd f).par = (d.failDown f).par) := by
  have he : d.failEnd f = if (d.failDown f).draw.1.getLsbD 0
      then ({ (d.failDown f).draw.2 with pow := { (d.failDown f).draw.2.pow with pllOk := true, failRecord := none } } : Dev).controllerReset
        Ev.pllUnlock.code false
      else { (d.failDown f).draw.2 with
        pow := { (d.failDown f).draw.2.pow with pllOk := false, failRecord := none },
        mgmt := { (d.failDown f).draw.2.mgmt with vaneUp := true } } := by
    unfold Dev.failEnd Dev.failDown
    rw [h]
  rw [he]
  split
  · exact .inl ⟨_, rfl⟩
  · exact .inr ⟨rfl, rfl, rfl⟩

/-- The end of the sequence brings back no version to Drift. -/
theorem Dev.failDown_drift (d : Dev) (f : FailSeq) : Ages d.que.drift (d.failDown f).que.drift := by
  unfold Dev.failDown
  extract_lets d1
  have h1 : Touch [.ev, .idx, .med, .bays, .fresh] d d1 :=
    .ite (fun _ => .next (.next (.next d.saveRows_touch.of (Dev.baroFlush_touch ..)) (Dev.setPriority_touch ..)) (Dev.passItem_touch ..))
      (fun _ => .refl _ d)
  exact h1.draw.drift (by simp)

theorem Dev.failEnd_drift (d : Dev) (f : FailSeq) : Ages d.que.drift (d.failEnd f).que.drift := by
  refine (d.failDown_drift f).trans ?_
  by_cases ho : f.thenHalt = .off
  · rw [d.failEnd_off ho]
    split
    · unfold Dev.powerOnStart
      rw [((d.failDown f).powerOn_stands 1).2.1]
      exact .nil _
    · exact .refl _
  · by_cases hp : f.thenHalt = .haltedPll
    · rcases d.failEnd_pll hp with ⟨e, he⟩ | ⟨_, hq, _⟩
      · rw [he, (e.controllerReset_fresh _).drift]
        exact .nil _
      · rw [hq]
        exact .refl _
    · rw [d.failEnd_halts ho hp]
      exact .refl _

theorem Dev.failCheck_cases {d : Dev} {f : FailSeq} (h : d.pow.failing = some f) :
    d.failCheck = d ∨ ∃ g, g.thenHalt = f.thenHalt ∧ g.trip = f.trip ∧ d.failCheck = d.failEnd g := by
  unfold Dev.failCheck
  rw [h]
  dsimp only
  split
  · exact .inr ⟨{ f with flushed := f.flush.length - f.lost }, rfl, rfl, rfl⟩
  · exact .inl rfl

/-- An input is gone: the sequence runs, or the drive is off. -/
theorem Dev.powerFail_off {d : Dev} (hf : d.pow.failing = none) (hi : d.pow.inputsOk = false) :
    Falls d (d.powerFail .off none) ∧ ((d.powerFail .off none).pow.failing.isSome = true ∨ (d.powerFail .off none).par.run = .off) := by
  obtain ⟨b, f, he, hb, hbf, hh, _⟩ := Dev.powerFail_begins hf .off none
  rw [he]
  rcases Dev.failCheck_cases hbf with hc | ⟨g, hgh, hgt, hc⟩ <;> rw [hc]
  · exact ⟨hb, .inl (by rw [hbf]; rfl)⟩
  · obtain ⟨hd, hrun, _⟩ := b.failDown_falls g hb.sessions
    have hsup := hd.supply.trans hb.supply
    rw [b.failEnd_off (hgh.trans hh), Power.inputsOk_of_supply hsup, hi]
    exact ⟨⟨hd.sessions, hsup, hd.sensors.trans hb.sensors, hd.resets⟩, .inr (hrun.trans (hgh.trans hh))⟩

section
variable {d : Dev} (hr : d.par.run = .running) (hg : d.pow.rung ≠ .glaze)
include hr hg

theorem Dev.failNow_runs (halt : RunState) (trip : Option (Nat × Nat × Int)) : d.failNow halt trip = d.powerFail halt trip := by
  unfold Dev.failNow
  rw [hr]
  exact if_neg hg

variable (hf : d.pow.failing = none)
include hf

theorem Dev.failNow_off (hi : d.pow.inputsOk = false) :
    Falls d (d.failNow .off none) ∧ ((d.failNow .off none).pow.failing.isSome = true ∨ (d.failNow .off none).par.run = .off) := by
  rw [Dev.failNow_runs hr hg]
  exact Dev.powerFail_off hf hi

/-- Whatever the inputs, the sessions have ended and no shutdown goes on. -/
theorem Dev.failNow_ends : (d.failNow .off none).net.sessions = [] ∧ (d.failNow .off none).par.shutdownSince = none := by
  obtain ⟨b, f, he, hb, hbf, hh, _⟩ := Dev.powerFail_begins hf .off none
  rw [Dev.failNow_runs hr hg, he]
  rcases Dev.failCheck_cases hbf with hc | ⟨g, hgh, hgt, hc⟩ <;> rw [hc]
  · exact ⟨hb.sessions, hb.resets.1⟩
  · obtain ⟨hd, _, _⟩ := b.failDown_falls g hb.sessions
    rw [b.failEnd_off (hgh.trans hh)]
    split
    · obtain ⟨hs, _, _, _, hn⟩ := (b.failDown g).powerOn_stands 1
      unfold Dev.powerOnStart
      exact ⟨hs, hn⟩
    · exact ⟨hd.sessions, hd.resets.1⟩

theorem Dev.failNow_trip (x : Nat × Nat × Int) : (d.failNow .haltedTrip (some x)).net.sessions = [] ∧
    ((∃ f, (d.failNow .haltedTrip (some x)).pow.failing = some f ∧ f.thenHalt = .haltedTrip ∧ f.trip = some x) ∨
      ((d.failNow .haltedTrip (some x)).par.run = .haltedTrip ∧ (d.failNow .haltedTrip (some x)).pow.tripRecord = some x)) := by
  obtain ⟨b, f, he, hb, hbf, hh, ht⟩ := Dev.powerFail_begins hf .haltedTrip (some x)
  rw [Dev.failNow_runs hr hg, he]
  rcases Dev.failCheck_cases hbf with hc | ⟨g, hgh, hgt, hc⟩ <;> rw [hc]
  · exact ⟨hb.sessions, .inl ⟨f, hbf, hh, ht⟩⟩
  · obtain ⟨hd, hrun, htrip⟩ := b.failDown_falls g hb.sessions
    rw [b.failEnd_halts (by rw [hgh, hh]; decide) (by rw [hgh, hh]; decide)]
    exact ⟨hd.sessions, .inr ⟨hrun.trans (hgh.trans hh), htrip.trans (hgt.trans ht)⟩⟩

theorem Dev.failNow_pll : (d.failNow .haltedPll none).net.sessions = [] ∧
    ((∃ f, (d.failNow .haltedPll none).pow.failing = some f ∧ f.thenHalt = .haltedPll ∧ (d.failNow .haltedPll none).pow.pllOk = d.pow.pllOk) ∨
      (d.failNow .haltedPll none).par.run = .haltedPll ∨
      ((d.failNow .haltedPll none).par.startKind = 2 ∧ (d.failNow .haltedPll none).par.startCode = Ev.pllUnlock.code)) := by
  obtain ⟨b, f, he, hb, hbf, hh, _⟩ := Dev.powerFail_begins hf .haltedPll none
  rw [Dev.failNow_runs hr hg, he]
  rcases Dev.failCheck_cases hbf with hc | ⟨g, hgh, hgt, hc⟩ <;> rw [hc]
  · have hp := hb.supply
    simp only [Power.supply, Prod.mk.injEq] at hp
    exact ⟨hb.sessions, .inl ⟨f, hbf, hh, hp.2.2.2.2.2.2⟩⟩
  · rcases b.failEnd_pll (hgh.trans hh) with ⟨e, he⟩ | ⟨hn, _, hp⟩
    · obtain ⟨hs, hk⟩ := e.controllerReset_started Ev.pllUnlock.code
      rw [he]
      exact ⟨hs, .inr (.inr hk)⟩
    · obtain ⟨hd, hrun, _⟩ := b.failDown_falls g hb.sessions
      rw [hn, hp]
      exact ⟨hd.sessions, .inr (.inl (hrun.trans (hgh.trans hh)))⟩

end

end Sys2Proof.Machine
end

section
/-! What takes the drive down: a warning, a trip, a lost rail, a lost clock, and energy that runs out (R326, R330, R331, R334, R461). -/

namespace Sys2Proof.Machine

/-- The report of the mode leaves how the drive runs, its supply and its sessions. -/
theorem Dev.reportMode_run (d : Dev) : d.reportMode.par.run = d.par.run := congrArg (fun c => c.1) (d.reportMode_touch.course (by simp))

theorem Dev.reportMode_start (d : Dev) :
    d.reportMode.par.startKind = d.par.startKind ∧ d.reportMode.par.startCode = d.par.startCode := by
  have h := d.reportMode_touch.course (by simp)
  simp only [Conf.course, Prod.mk.injEq] at h
  exact ⟨h.2.2.2.2.1, h.2.2.2.2.2⟩

theorem Dev.reportMode_no_sessions {d : Dev} (h : d.net.sessions = []) : d.reportMode.net.sessions = [] :=
  d.reportMode_touch.no_sessions h

theorem powerFailWarning_begins (s : State) (c : FailCause) (hr : s.dev.par.run = .running) (hg : s.dev.pow.rung ≠ .glaze)
    (hf : s.dev.pow.failing = none) :
    ∃ t, exec (.powerFailWarning c) s = .next t ∧ (t.dev.pow.failing.isSome = true ∨ t.dev.par.run = .off) ∧
      t.dev.net.sessions = [] ∧ (c = .pwrFail → t.dev.pow.pwrFail = true) ∧ (c = .inputLow → t.dev.pow.p12v = false) := by
  refine ⟨_, State.run_of_eq (f := powerFailWarningEff c) rfl, ?_⟩
  rw [Dev.reportMode_pow, Dev.reportMode_run]
  cases c with
  | pwrFail =>
    obtain ⟨hd, he⟩ := Dev.failNow_off (d := { s.dev with pow := { s.dev.pow with pwrFail := true } }) hr hg hf (by simp [Power.inputsOk])
    have hp := hd.supply
    simp only [Power.supply, Prod.mk.injEq] at hp
    exact ⟨he, Dev.reportMode_no_sessions hd.sessions, fun _ => hp.2.1, nofun⟩
  | inputLow =>
    obtain ⟨hd, he⟩ := Dev.failNow_off (d := { s.dev with pow := { s.dev.pow with p12v := false } }) hr hg hf (by simp [Power.inputsOk])
    have hp := hd.supply
    simp only [Power.supply, Prod.mk.injEq] at hp
    exact ⟨he, Dev.reportMode_no_sessions hd.sessions, nofun, fun _ => hp.2.2.1⟩

theorem thermalTrip_begins (s : State) (g p : Nat) (x : Int) (hr : s.dev.par.run = .running) (hg : s.dev.pow.rung ≠ .glaze)
    (hf : s.dev.pow.failing = none) :
    ∃ t, exec (.thermalTrip g p x) s = .next t ∧ t.dev.net.sessions = [] ∧
      ((∃ f, t.dev.pow.failing = some f ∧ f.thenHalt = .haltedTrip ∧ f.trip = some (g, p, x)) ∨
        (t.dev.par.run = .haltedTrip ∧ t.dev.pow.tripRecord = some (g, p, x))) := by
  have he : thermalTripEff g p x s.dev = s.dev.failNow .haltedTrip (some (g, p, x)) := by
    unfold thermalTripEff
    rw [hf]
  obtain ⟨hs, h⟩ := Dev.failNow_trip hr hg hf (g, p, x)
  refine ⟨_, State.run_of_eq he, Dev.reportMode_no_sessions hs, ?_⟩
  rwa [Dev.reportMode_pow, Dev.reportMode_run]

theorem aux3v3Low_begins (s : State) (hr : s.dev.par.run = .running) (hg : s.dev.pow.rung ≠ .glaze) (hf : s.dev.pow.failing = none) :
    ∃ t, exec .aux3v3Low s = .next t ∧ t.dev.pow.aux3v3 = false ∧ t.dev.pow.auxLost = true ∧ t.dev.net.sessions = [] ∧
      (t.dev.pow.failing.isSome = true ∨ t.dev.par.run = .off) := by
  have he : aux3v3LowEff s.dev = ({ s.dev with pow := { s.dev.pow with aux3v3 := false, auxLost := true } } : Dev).failNow .off none := by
    unfold aux3v3LowEff
    simp [hr]
  obtain ⟨hd, ho⟩ := Dev.failNow_off (d := { s.dev with pow := { s.dev.pow with aux3v3 := false, auxLost := true } }) hr hg hf
    (by simp [Power.inputsOk])
  have hp := hd.supply
  simp only [Power.supply, Prod.mk.injEq] at hp
  refine ⟨_, State.run_of_eq he, ?_⟩
  rw [Dev.reportMode_pow, Dev.reportMode_run]
  exact ⟨hp.2.2.2.1, hp.2.2.2.2.2.1, Dev.reportMode_no_sessions hd.sessions, ho⟩

theorem pllUnlock_begins (s : State) (hr : s.dev.par.run = .running) (hg : s.dev.pow.rung.num ≤ 2) (hf : s.dev.pow.failing = none) :
    ∃ t, exec .pllUnlock s = .next t ∧ t.dev.net.sessions = [] ∧
      ((∃ f, t.dev.pow.failing = some f ∧ f.thenHalt = .haltedPll ∧ t.dev.pow.pllOk = false) ∨ t.dev.par.run = .haltedPll ∨
        (t.dev.par.startKind = 2 ∧ t.dev.par.startCode = Ev.pllUnlock.code)) := by
  have hg' : s.dev.pow.rung ≠ .glaze := fun h => absurd hg (by rw [h]; decide)
  have he : pllUnlockEff s.dev =
      (({ s.dev with pow := { s.dev.pow with pllOk := false } } : Dev).raise Ev.pllUnlock 1 0 0 0).failNow .haltedPll none := by
    unfold pllUnlockEff
    simp [hr, hg]
  have hp (e : Dev) : (e.raise Ev.pllUnlock 1 0 0 0).pow = e.pow := Dev.raise_pow ..
  obtain ⟨hs, h⟩ := Dev.failNow_pll (d := ({ s.dev with pow := { s.dev.pow with pllOk := false } } : Dev).raise Ev.pllUnlock 1 0 0 0)
    (by simp [hr]) (by simpa using hg') (by simp [hf])
  refine ⟨_, State.run_of_eq he, Dev.reportMode_no_sessions hs, ?_⟩
  rw [Dev.reportMode_pow, Dev.reportMode_run, (Dev.reportMode_start _).1, (Dev.reportMode_start _).2]
  rw [hp] at h
  exact h

/-! ### Energy that runs out -/

theorem Ages.not_mem {l m : List Version} (h : Ages l m) {n : Nat} (hn : ∀ v ∈ l, v.seq ≠ n) : ∀ v ∈ m, v.seq ≠ n := by
  intro v hv hs
  obtain ⟨w, hw, hws, _⟩ := h v hv
  exact hn w hw (hws.trans hs)

theorem Touch.not_mem {S : List DevPart} {d e : Dev} (h : Touch S d e) {n : Nat} (hd : ∀ v ∈ d.que.drift, v.seq ≠ n)
    (hs : autoParam (.drift ∉ S) List.nodup_range'._auto_1) : ∀ v ∈ e.que.drift, v.seq ≠ n :=
  (h.drift hs).not_mem hd

/-- A version that is taken out of Drift is gone, whatever other version had its number. -/
theorem Dev.removeVer_gone (d : Dev) (v : Version) : ∀ w ∈ (d.removeVer v).que.drift, w.seq ≠ v.seq := by
  have hf : ∀ w ∈ d.que.drift.filter (·.seq != v.seq), w.seq ≠ v.seq := fun w hw => by simpa using (List.mem_filter.mp hw).2
  have h : Touch [.gale, .net] { d with que := { d.que with drift := d.que.drift.filter (·.seq != v.seq) } } (d.removeVer v) :=
    .next (.next (Dev.retireEntry_touch ..).of (Dev.endCharge_touch ..)) (Dev.freeDir_touch ..)
  exact h.not_mem hf

theorem Dev.undoVer_gone (d : Dev) (v : Version) (x y : Nat) : ∀ w ∈ (d.undoVer v x y).que.drift, w.seq ≠ v.seq :=
  Dev.removeVer_gone _ v

theorem Dev.loseVer_gone (d : Dev) (v : Version) (st : BitVec 16) (cause : Nat) : ∀ w ∈ (d.loseVer v st cause).que.drift, w.seq ≠ v.seq := by
  unfold Dev.loseVer
  extract_lets d1 d2
  have h2 : ∀ w ∈ d2.que.drift, w.seq ≠ v.seq := d1.undoVer_gone { v with newKey := false } _ _
  clear_value d2
  exact (d2.commitNew_touch _).not_mem h2

theorem Dev.ver?_none {d : Dev} {n : Nat} (h : d.ver? n = none) : ∀ v ∈ d.que.drift, v.seq ≠ n := fun v hv => by
  simpa using List.find?_eq_none.mp h v hv

/-- The end of a version whose flush has not begun when the energy runs out: early-acknowledged it is lost, else it is undone. -/
def Dev.giveUp (d : Dev) (s : Nat) : Dev :=
  match d.ver? s with
  | some v => if v.early then d.loseVer v Status.mediaError 2 else d.undoVer v v.charge v.refund
  | none => d

theorem Dev.giveUp_touch (d : Dev) (s : Nat) : Touch dataParts d (d.giveUp s) := by
  unfold Dev.giveUp
  split
  · exact .ite (fun _ => d.loseVer_touch ..) (fun _ => d.undoVer_touch ..)
  · exact .refl _ d

theorem Dev.giveUp_gone (d : Dev) (s : Nat) : ∀ v ∈ (d.giveUp s).que.drift, v.seq ≠ s := by
  unfold Dev.giveUp
  split
  · next v hv =>
    have hs : v.seq = s := by simpa using List.find?_some hv
    rw [← hs]
    split
    · exact d.loseVer_gone v _ _
    · exact d.undoVer_gone v _ _
  · next h => exact Dev.ver?_none h

theorem foldl_giveUp_gone (l : List Nat) (d : Dev) : ∀ v ∈ (l.foldl Dev.giveUp d).que.drift, v.seq ∉ l := by
  induction l generalizing d with
  | nil => exact fun _ _ => List.not_mem_nil
  | cons s l ih =>
    intro v hv
    simp only [List.mem_cons, not_or]
    have ht : Touch dataParts (d.giveUp s) (l.foldl Dev.giveUp (d.giveUp s)) := Touch.foldl Dev.giveUp_touch _ _
    exact ⟨ht.not_mem (d.giveUp_gone s) (by simp) v hv, ih (d.giveUp s) v hv⟩

theorem Dev.failCheck_drift {d : Dev} {f : FailSeq} (h : d.pow.failing = some f) : Ages d.que.drift d.failCheck.que.drift := by
  rcases Dev.failCheck_cases h with he | ⟨g, _, _, he⟩ <;> rw [he]
  · exact .refl _
  · exact d.failEnd_drift g

theorem holdupEnergyLow_gives_up (s : State) (f : FailSeq) (h : s.dev.pow.failing = some f) :
    ∃ t, exec .holdupEnergyLow s = .next t ∧ ∀ v ∈ t.dev.que.drift, v.seq ∉ s.dev.unflushed f := by
  obtain ⟨n, he⟩ : ∃ n, holdupLowEff s.dev = Dev.failCheck { (s.dev.unflushed f).foldl Dev.giveUp s.dev with
      pow := { ((s.dev.unflushed f).foldl Dev.giveUp s.dev).pow with failing := some { f with lost := n } } } := by
    unfold holdupLowEff
    rw [h]
    exact ⟨_, rfl⟩
  refine ⟨_, State.run_of_eq he, fun v hv hm => ?_⟩
  obtain ⟨w, hw, hws, _⟩ := (Dev.reportMode_touch _).drift (by simp) v hv
  obtain ⟨x, hx, hxs, _⟩ := Dev.failCheck_drift rfl w hw
  exact foldl_giveUp_gone (s.dev.unflushed f) s.dev x hx ((hxs.trans hws).symm ▸ hm)

/-- Settles O22: each cause runs the sequence, which ends the sessions and leaves the inputs; every version not flushed is lost or undone. -/
theorem powerFailureBegins : Obligations.PowerFailureBegins :=
  ⟨powerFailWarning_begins, thermalTrip_begins, aux3v3Low_begins, holdupEnergyLow_gives_up, pllUnlock_begins⟩

end Sys2Proof.Machine
end

section
/-! Power on and off, the inputs, an orderly shutdown, the watchdogs (R417, R436 to R439, R461). -/

namespace Sys2Proof.Machine

theorem Dev.powerOnStart_stands (d : Dev) : d.powerOnStart.par.run ≠ .off ∧ d.powerOnStart.pow.inlets = d.pow.inlets := by
  obtain ⟨_, _, hp, hr, _⟩ := d.powerOn_stands 1
  unfold Dev.powerOnStart
  exact ⟨hr, hp⟩

theorem Dev.startIfOff_off {d : Dev} (hr : d.par.run = .off) (hf : d.pow.failing = none) (hi : d.pow.inputsOk = true) :
    d.startIfOff = d.powerOnStart := by
  unfold Dev.startIfOff
  simp [hr, hf, hi]

theorem Dev.startIfOff_on {d : Dev} (h : d.par.run ≠ .off) : d.startIfOff = d := by
  unfold Dev.startIfOff
  simp [h]

theorem powerOn_starts (s : State) (slot : BitVec 6) (hr : s.dev.par.run = .off) (hf : s.dev.pow.failing = none) :
    ∃ t, exec (.powerOn slot) s = .next t ∧ t.dev.par.run ≠ .off ∧ t.dev.pow.slotId = slot ∧ t.dev.pow.pwrEn = true := by
  have he : powerOnEff slot s.dev = ({ s.dev with pow := { s.dev.pow with
      pwrEn := true, p12v := true, aux3v3 := true, pwrFail := false, slotId := slot } } : Dev).startIfOff := by
    unfold powerOnEff
    simp [hr, hf]
  generalize hd : ({ s.dev with pow := { s.dev.pow with
      pwrEn := true, p12v := true, aux3v3 := true, pwrFail := false, slotId := slot } } : Dev) = d at he
  obtain ⟨hrun, hp⟩ := d.powerOnStart_stands
  rw [Dev.startIfOff_off (by rw [← hd]; exact hr) (by rw [← hd]; exact hf) (by rw [← hd]; rfl)] at he
  simp only [Power.inlets, Prod.mk.injEq] at hp
  refine ⟨_, State.run_of_eq he, ?_⟩
  rw [Dev.reportMode_run, Dev.reportMode_pow]
  exact ⟨hrun, hp.2.2.2.2.trans (by rw [← hd]), hp.1.trans (by rw [← hd])⟩

theorem inputRestored_returns (s : State) (hr : s.dev.par.run ≠ .off) :
    (∃ t, exec (.inputRestored true) s = .next t ∧ t.dev.pow.p12v = true ∧ t.dev.pow.pwrFail = false) ∧
    ∃ t, exec (.inputRestored false) s = .next t ∧ t.dev.pow.aux3v3 = true := by
  constructor
  · exact ⟨_, State.run_of_eq (f := inputRestoredEff true) (Dev.startIfOff_on hr), by simp, by simp⟩
  · exact ⟨_, State.run_of_eq (f := inputRestoredEff false) (Dev.startIfOff_on hr), by simp⟩

theorem Dev.reportMode_vane (d : Dev) : d.reportMode.mgmt.vaneUp = d.mgmt.vaneUp ∧ d.reportMode.mgmt.conns = d.mgmt.conns ∧
    d.reportMode.mgmt.eid = d.mgmt.eid :=
  have h := d.reportMode_mgmt
  ⟨(congrArg (fun m : Mgmt => m.vaneUp) h :), (congrArg (fun m : Mgmt => m.conns) h :), (congrArg (fun m : Mgmt => m.eid) h :)⟩

/-! ### `PWR_EN` low -/

theorem pwrEnDeassert_stops (s : State) (hf : s.dev.pow.failing = none) (hr : s.dev.par.run ≠ .running) :
    ∃ t, exec .pwrEnDeassert s = .next t ∧ t.dev.pow.pwrEn = false ∧ t.dev.par.run = .off ∧ t.dev.mgmt.vaneUp = false := by
  have he : pwrEnDeassertEff s.dev = { s.dev with
      pow := { s.dev.pow with pwrEn := false }, par := { s.dev.par with run := .off, closing := false },
      mgmt := { s.dev.mgmt with vaneUp := false, conns := [], linkUp := false } } := by
    unfold pwrEnDeassertEff
    simp only [hf, Option.isSome_none, Bool.false_eq_true, if_false]
    split
    · rfl
    · rfl
    · rfl
    · rfl
    · rfl
    · next h => exact absurd h hr
  refine ⟨_, State.run_of_eq he, ?_⟩
  rw [Dev.reportMode_run, Dev.reportMode_pow]
  exact ⟨rfl, rfl, (Dev.reportMode_vane _).1⟩

/-- Without `PWR_EN` the drive is off at the end of its shutdown. -/
theorem Dev.shutdownEnd_off {d : Dev} (h : d.pow.pwrEn = false) (n : Nat) :
    (d.shutdownEnd n).par.run = .off ∧ (d.shutdownEnd n).pow.pwrEn = false := by
  unfold Dev.shutdownEnd
  extract_lets d1 d2 d3 d4 link src1 src2 src3 d5
  have h1 : Touch (.ev :: .clk :: .net :: .que :: .gale :: epochParts) d d1 := .raise d.checkpoint_touch.of ..
  have h3 : Touch (.ev :: .clk :: .net :: .que :: .gale :: epochParts) d d3 := .trans (h1.next (d1.baroFlush_touch 4))
    (Touch.foldl (fun d b => .ite (fun _ => (d.writeSlot_touch b 2).of) (fun _ => .refl _ d)) _ _)
  have h4 : Touch (.ev :: .clk :: .net :: .que :: .gale :: epochParts) d d4 := .next (h3.next d3.persistTime_touch) (Dev.endAll_touch ..)
  clear_value d4
  have hp : d5.pow.pwrEn = false := (congrArg (fun p : Power => p.pwrEn) (h4.pow (by simp))).trans h
  rw [hp]
  exact ⟨rfl, hp⟩

/-- A shutdown without `PWR_EN` that waits for nothing else ends with the drain. -/
theorem Dev.performPending_shutdown {d : Dev} {n : Nat} (hf : d.pow.failing = none) (hr : d.par.run = .running) (hp : d.par.pendingReset = none)
    (hl : d.sec.run = none) (hs : d.par.shutdownSince = some n) (he : d.pow.pwrEn = false) :
    d.performPending.pow.pwrEn = false ∧ (d.performPending.par.run = .off ∨ d.performPending.par.shutdownSince = some n) := by
  obtain ⟨ho, hn⟩ := Dev.shutdownEnd_off he n
  unfold Dev.performPending
  simp only [hf, hr, hp, hl, hs, Option.isSome_none, Bool.false_eq_true, if_false, bne_self_eq_false]
  split
  · exact ⟨hn, .inl ho⟩
  · exact ⟨he, .inr hs⟩

theorem Dev.shutdownStart_runs {d : Dev} (hf : d.pow.failing = none) (hr : d.par.run = .running) (hp : d.par.pendingReset = none)
    (hl : d.sec.run = none) (he : d.pow.pwrEn = false) :
    d.shutdownStart.pow.pwrEn = false ∧ (d.shutdownStart.par.run = .off ∨ d.shutdownStart.par.shutdownSince = some d.clk.tick) := by
  unfold Dev.shutdownStart
  extract_lets ms d1
  have h1 : Touch [] d d1 := (Dev.notifyAll_sent ..).touch _
  have hpow := h1.pow (by simp)
  have hpar := h1.par (by simp)
  have hclk : d1.clk.tick = d.clk.tick := (congrArg (fun c : Clock => c.tick) (h1.clk (by simp)) :)
  rw [← hclk]
  exact Dev.performPending_shutdown (d := { d1 with par := { d1.par with shutdownSince := some d1.clk.tick, closing := true } })
    (hpow ▸ hf) (hpar ▸ hr) (hpar ▸ hp) ((h1.sec (by simp)) ▸ hl) rfl (hpow ▸ he)

theorem Dev.reportMode_shutdown (d : Dev) : d.reportMode.par.shutdownSince = d.par.shutdownSince :=
  congrArg (fun c => c.2.2.1) (d.reportMode_touch.course (by simp))

theorem pwrEnDeassert_shuts_down (s : State) (hf : s.dev.pow.failing = none) (hr : s.dev.par.run = .running) (hg : s.dev.pow.rung ≠ .glaze)
    (hp : s.dev.par.pendingReset = none) (hl : s.dev.sec.run = none) (hs : s.dev.par.shutdownSince = none) :
    ∃ t, exec .pwrEnDeassert s = .next t ∧ t.dev.pow.pwrEn = false ∧
      (t.dev.par.run = .off ∨ t.dev.par.shutdownSince = some s.dev.clk.tick) := by
  have he : pwrEnDeassertEff s.dev = ({ s.dev with pow := { s.dev.pow with pwrEn := false } } : Dev).shutdownStart := by
    unfold pwrEnDeassertEff
    simp [hf, hr, hg, hs]
  refine ⟨_, State.run_of_eq he, ?_⟩
  rw [Dev.reportMode_pow, Dev.reportMode_run, Dev.reportMode_shutdown]
  exact Dev.shutdownStart_runs (d := { s.dev with pow := { s.dev.pow with pwrEn := false } }) hf hr hp hl rfl

theorem shutdownLimit_ends (s : State) (hs : s.dev.par.shutdownSince.isSome = true) (hr : s.dev.par.run = .running)
    (hg : s.dev.pow.rung ≠ .glaze) (hf : s.dev.pow.failing = none) :
    ∃ t, exec .shutdownLimit s = .next t ∧ t.dev.par.shutdownSince = none ∧ t.dev.net.sessions = [] := by
  obtain ⟨k, hk⟩ := Option.isSome_iff_exists.mp hs
  have he : shutdownLimitEff s.dev = (s.dev.raise Ev.shutdown 2 ((s.dev.clk.tick - k) / 1000) 0 0).failNow .off none := by
    unfold shutdownLimitEff
    rw [hk]
  obtain ⟨hn, hd⟩ := Dev.failNow_ends (d := s.dev.raise Ev.shutdown 2 ((s.dev.clk.tick - k) / 1000) 0 0) (by simp [hr]) (by simp [hg])
    (by simp [hf])
  exact ⟨_, State.run_of_eq he, by rw [Dev.reportMode_par]; exact hd, Dev.reportMode_no_sessions hn⟩

/-! ### Watchdogs -/

/-- A pending integrity stop waits for the drain of Drift, and then resets the drive. -/
theorem Dev.performPending_integrity {d : Dev} {code : Nat} (hf : d.pow.failing = none) (hr : d.par.run = .running)
    (hp : d.par.pendingReset = some (.integrity code 0 0)) : d.performPending = d ∨
      (d.performPending.par.startKind = 2 ∧ d.performPending.par.startCode = code) := by
  unfold Dev.performPending
  simp only [hf, hr, hp, Option.isSome_none, Bool.false_eq_true, if_false, bne_self_eq_false]
  split
  · exact .inr (Dev.controllerReset_started ..).2
  · exact .inl rfl

theorem Dev.integrityStop_cases {d : Dev} (code : Nat) (hr : d.par.run = .running) (hf : d.pow.failing = none)
    (hp : d.par.pendingReset = none) : (d.integrityStop code 0 0).par.pendingReset = some (.integrity code 0 0) ∨
      ((d.integrityStop code 0 0).par.startKind = 2 ∧ (d.integrityStop code 0 0).par.startCode = code) := by
  unfold Dev.integrityStop
  rw [if_neg (by simp [hr, hf]), hp]
  dsimp only
  generalize he : (({ d with par := { d.par with pendingReset := some (.integrity code 0 0) } } : Dev).bump (.drive .integrityStops) 1) = e
  have hpend : e.par.pendingReset = some (.integrity code 0 0) := by rw [← he]; rfl
  rcases Dev.performPending_integrity (d := e) (by rw [← he]; exact hf) (by rw [← he]; exact hr) hpend with hw | hs
  · exact .inl ((congrArg (fun x : Dev => x.par.pendingReset) hw).trans hpend)
  · exact .inr hs

theorem fwWatchdog_stops (s : State) (core ms : Nat) (a : Bool) (hr : s.dev.par.run = .running) (hf : s.dev.pow.failing = none)
    (hp : s.dev.par.pendingReset = none) :
    ∃ t, exec (.fwWatchdog core ms a) s = .next t ∧
      (t.dev.par.pendingReset = some (.integrity Ev.fwWatchdog.code 0 0) ∨
        (t.dev.par.startKind = 2 ∧ t.dev.par.startCode = Ev.fwWatchdog.code)) := by
  have he : fwWatchdogEff core ms a s.dev = (s.dev.raise Ev.fwWatchdog core ms (if a then 2 else 1) 0).integrityStop Ev.fwWatchdog.code 0 0 := by
    unfold fwWatchdogEff
    simp [hr]
  refine ⟨_, State.run_of_eq he, ?_⟩
  rw [Dev.reportMode_par]
  exact Dev.integrityStop_cases _ (by simp [hr]) (by simp [hf]) (by simp [hp])

theorem vaneWatchdog_restarts (s : State) (hv : s.dev.mgmt.vaneUp = true) (ht : s.dev.upd.inTrial = false) :
    ∃ t, exec .vaneWatchdog s = .next t ∧ t.dev.mgmt.conns = [] ∧ t.dev.mgmt.eid = 0 ∧ t.dev.par.staged = [] := by
  refine ⟨_, State.run_of_eq (f := vaneWatchdogEff) rfl, ?_⟩
  unfold vaneWatchdogEff
  rw [if_neg (by simp [hv]), if_neg (by simp [ht])]
  extract_lets st src1 src2 dip src3 src4 back
  have hback : back.mgmt.conns = [] ∧ back.mgmt.eid = 0 ∧ back.par.staged = [] := ⟨rfl, rfl, rfl⟩
  clear_value back
  have ht : Touch [.que, .fresh] back (((back.draw.2.raise Ev.vaneRestart 1 (back.draw.1.toNat % 301) 0 0)).refreshEarly) :=
    .next (.raise (.draw (.refl _ back)) ..) (Dev.refreshEarly_touch _)
  have hm := ht.mgmt (by simp)
  obtain ⟨hc, he, hs⟩ := hback
  refine ⟨(Dev.reportMode_vane _).2.1.trans ?_, (Dev.reportMode_vane _).2.2.trans ?_, ?_⟩
  · exact (congrArg (fun m : Mgmt => m.conns) hm :).trans hc
  · exact (congrArg (fun m : Mgmt => m.eid) hm :).trans he
  · rw [Dev.reportMode_par]
    exact (congrArg (fun p : Conf => p.staged) (ht.par (by simp)) :).trans hs

theorem startReportTimeout_chooses (s : State) (hr : s.dev.par.run = .starting) (hf : s.dev.pow.failing = none) :
    ∃ t, exec .startReportTimeout s = .next t ∧
      ((t.dev.par.run = .recovery ∧ t.dev.par.startKind = 3) ∨ (t.dev.par.startKind = 2 ∧ t.dev.par.startCode = 0)) := by
  refine ⟨_, State.run_of_eq (f := startReportTimeoutEff) rfl, ?_⟩
  rw [Dev.reportMode_run, (Dev.reportMode_start _).1, (Dev.reportMode_start _).2]
  unfold startReportTimeoutEff
  rw [if_neg (by simp [hr, hf])]
  obtain ⟨hs, hv, hp, hc⟩ := s.dev.wipe_leaves
  simp only [Conf.course, Prod.mk.injEq] at hc
  obtain ⟨h1, h2, h3, h4, _, _⟩ := hc
  extract_lets d1 src1 src2 d2
  have h2 : Fresh s.dev.pow (.starting, none, none, none, 2, 0) d2 := ⟨hs, hv, hp, by simp [d2, src2, d1, h1, h2, h3, h4, hr]⟩
  clear_value d2
  split
  next v d3 he =>
  have h3 : Touch [.fresh] d2 d2.draw.2 := .draw (.refl _ d2)
  rw [he] at h3
  extract_lets d4
  have h4 : Fresh s.dev.pow (.starting, none, none, none, 2, 0) d4 := h2.touch (h3.raise ..)
  clear_value d4
  split
  · next c _ =>
    have hc := (Dev.enterRecovery_fresh h4 c).course
    simp only [Conf.course, Prod.mk.injEq] at hc
    obtain ⟨hrun, _, _, _, hk, _⟩ := hc
    exact .inl ⟨hrun, hk⟩
  · next d5 h5 =>
    have hm : Fresh s.dev.pow (.starting, none, none, none, 2, 0) (d5.mirrorReset true) :=
      .touch (h4.touch (Dev.romChoice_touch h5)) (d5.mirrorReset_touch true)
    rcases Dev.startGo_fresh hm with hg | hg <;> have hc := hg.course <;> simp only [Conf.course, Prod.mk.injEq] at hc <;>
      obtain ⟨_, _, _, _, hk, hl⟩ := hc <;> exact .inr ⟨hk, hl⟩

/-- Settles O23: a start ends with the drive on, a drive that only waits stops at once, one that runs shuts down; a reset names its cause. -/
theorem powerOnOffAndWatchdogs : Obligations.PowerOnOffAndWatchdogs :=
  ⟨powerOn_starts, inputRestored_returns, pwrEnDeassert_stops, pwrEnDeassert_shuts_down, shutdownLimit_ends, fwWatchdog_stops,
    vaneWatchdog_restarts, startReportTimeout_chooses⟩

end Sys2Proof.Machine
end

section
/-! Sensors, the time and the flush of the Barograph (R341, R349, R351, R361, R362). -/

namespace Sys2Proof.Machine

/-! ### Sensors -/

theorem sensor_cons {d : Dev} {l : List SensorState} {x : SensorState} (h : d.mgmt.sensors = x :: l) : d.sensor x.id = x := by
  simp [Dev.sensor, h]

theorem Dev.sensor_id (d : Dev) (id : Nat) : (d.sensor id).id = id := by
  unfold Dev.sensor
  cases h : d.mgmt.sensors.find? (·.id == id) with
  | none => rfl
  | some x => simpa using List.find?_some h

theorem Dev.sensor_of_sensors {d e : Dev} (h : e.mgmt.sensors = d.mgmt.sensors) (id : Nat) : e.sensor id = d.sensor id := by
  unfold Dev.sensor
  rw [h]

theorem Touch.sensors {S : List DevPart} {d e : Dev} (h : Touch S d e) (hs : autoParam (.mgmt ∉ S) List.nodup_range'._auto_1) :
    e.mgmt.sensors = d.mgmt.sensors :=
  (congrArg (fun m : Mgmt => m.sensors) (h.mgmt hs) :)

theorem Dev.setSensor_same (d : Dev) (x : SensorState) : (d.setSensor x).sensor x.id = x := sensor_cons rfl

/-- A reading is kept. -/
theorem Dev.readSensor_value (d : Dev) (id : Nat) (v : Int) : ((d.readSensor id (.value v)).sensor id).value = v := by
  unfold Dev.readSensor
  extract_lets old w same f d1 d2 l
  have h1 : d1.sensor id = { old with value := w, same := same, fail := f } :=
    (congrArg d1.sensor (d.sensor_id id).symm).trans (d.setSensor_same { old with value := w, same := same, fail := f })
  have h2 : Sent d1 d2 := by
    simp only [d2]
    split
    · exact d1.raise_sent ..
    · exact .refl d1
  have h3 (e : Dev) (h : Sent d1 e) : (e.sensor id).value = v := by
    rw [Dev.sensor_of_sensors ((h.touch []).sensors), h1]
  split
  · exact h3 _ (h2.trans (d2.queuePldm_sent _))
  · exact h3 _ h2

/-- The rest of a rail's check keeps the reading. -/
theorem Dev.railCheck_value (d : Dev) (rail : Nat) : ((d.railCheck rail).sensor (100 + rail)).value = (d.sensor (100 + rail)).value := by
  have hset (x : SensorState) (hx : x.id = 100 + rail) (hv : x.value = (d.sensor (100 + rail)).value) :
      ((d.setSensor x).sensor (100 + rail)).value = (d.sensor (100 + rail)).value := by
    rw [← hx, d.setSensor_same, hv, hx]
  have hid := d.sensor_id (100 + rail)
  unfold Dev.railCheck
  extract_lets s mv since
  split
  · rfl
  · split
    · split
      · rw [Dev.sensor_of_sensors (((Dev.raise_sent ..).touch []).sensors)]
        exact hset _ hid rfl
      · exact hset _ hid rfl
    · exact hset _ hid rfl

/-- Whatever the power-fail sequence finds, the sensors stay as they are: without its 12 V the drive does not start again. -/
theorem Dev.failNow_sensors {d : Dev} (hi : d.pow.inputsOk = false) : (d.failNow .off none).mgmt.sensors = d.mgmt.sensors := by
  have hp : (d.powerFail .off none).mgmt.sensors = d.mgmt.sensors := by
    cases hf : d.pow.failing with
    | none => exact (Dev.powerFail_off hf hi).1.sensors
    | some f =>
      unfold Dev.powerFail
      rw [hf]
  unfold Dev.failNow
  split
  · rfl
  · split
    · rfl
    · exact hp
  · split
    · rfl
    · exact hp
  · rfl
  · rfl
  · rfl

theorem sensorSample_keeps (s : State) (id : Nat) (v : BitVec 32) (hv : s.dev.mgmt.vaneUp = true) (hr : (sensorRange id).isSome = true) :
    ∃ t, exec (.sensorSample id (.value (v.toNat : Int))) s = .next t ∧ (t.dev.sensor id).value = v.toNat := by
  refine ⟨_, State.run_of_eq (f := sensorSampleEff id (.value v.toNat)) rfl, ?_⟩
  rw [Dev.sensor_of_sensors ((Dev.reportMode_touch _).sensors)]
  have h1 := s.dev.readSensor_value id v.toNat
  unfold sensorSampleEff
  rw [if_neg (by simp [hv, Option.isSome_iff_ne_none.mp hr])]
  extract_lets d1 src1 src2
  have hk {e : Dev} (he : e.mgmt.sensors = d1.mgmt.sensors) : (e.sensor id).value = v.toNat := by
    rw [Dev.sensor_of_sensors he]
    exact h1
  split_ifs with h141 h63 h101 h102
  · exact hk (Dev.refreshBank_touch ..).sensors
  · exact hk (Dev.refreshBank_touch ..).sensors
  · subst h101
    have hr := (d1.railCheck_value 1).trans h1
    unfold Dev.inputCheck
    extract_lets x
    split
    · have hw : powerFailWarningEff .inputLow (d1.railCheck 1) =
          ({ d1.railCheck 1 with pow := { (d1.railCheck 1).pow with p12v := false } } : Dev).failNow .off none := rfl
      rw [hw, Dev.sensor_of_sensors (Dev.failNow_sensors (by simp [Power.inputsOk]))]
      exact hr
    · exact hr
  · have hid : 100 + (id - 100) = id := by omega
    have hr := d1.railCheck_value (id - 100)
    rw [hid] at hr
    exact hr.trans h1
  · exact h1

/-! ### The time -/

theorem ptpMessage_announces (s : State) (p : Option Port) (h : s.dev.ptpOn p = true) :
    ∃ t, exec (.ptpMessage p (.announce true)) s = .next t ∧ t.dev.clk.ptpMaster = true := by
  refine ⟨_, State.run_of_eq (f := ptpMessageEff p (.announce true)) rfl, ?_⟩
  have hm : (ptpMessageEff p (.announce true) s.dev).clk.ptpMaster = true := by
    unfold ptpMessageEff
    rw [if_pos h]
    rfl
  exact (congrArg (fun c : Clock => c.ptpMaster) ((Dev.reportMode_touch _).clk (by simp)) :).trans hm

theorem Dev.setSource_clk (d : Dev) (x : TimeSource) (ms : Int) (h : d.clk.source ≠ x) :
    (d.setSource x ms).clk.steady = { d.clk with source := x }.steady := by
  unfold Dev.setSource
  rw [if_neg h]
  exact ((Dev.raise_sent ..).touch []).clk (by simp)

theorem ptpAnnounceTimeout_ends (s : State) (h : s.dev.clk.ptpMaster = true) :
    ∃ t, exec .ptpAnnounceTimeout s = .next t ∧ t.dev.clk.ptpMaster = false ∧
      t.dev.clk.source = (if s.dev.clk.source = .ptpLocked then TimeSource.ptpHoldover else s.dev.clk.source) := by
  refine ⟨_, State.run_of_eq (f := ptpTimeoutEff) rfl, ?_⟩
  have hc : (ptpTimeoutEff s.dev).clk.steady = { s.dev.clk with
      ptpMaster := false, ptpWithinSince := none,
      source := if s.dev.clk.source = TimeSource.ptpLocked then TimeSource.ptpHoldover else s.dev.clk.source }.steady := by
    unfold ptpTimeoutEff
    rw [if_neg (by simp [h])]
    dsimp only
    split
    · next hl =>
      exact Dev.setSource_clk { s.dev with clk := { s.dev.clk with ptpMaster := false, ptpWithinSince := none } } .ptpHoldover 0 (by simp [hl])
    · rfl
  have ht := ((Dev.reportMode_touch (ptpTimeoutEff s.dev)).clk (by simp)).trans hc
  exact ⟨(congrArg (fun c : Clock => c.ptpMaster) ht :), (congrArg (fun c : Clock => c.source) ht :)⟩

theorem persistedTimeWrite_writes (s : State) (hv : s.dev.mgmt.vaneUp = true)
    (h : ∀ k, s.dev.clk.persistedAt = some k → k + 600000000 ≤ s.dev.clk.tick) :
    ∃ t, exec .persistedTimeWrite s = .next t ∧ t.dev.clk.persisted = s.dev.clk.ns ∧ t.dev.clk.persistedAt = some s.dev.clk.tick := by
  have he : persistedTimeEff s.dev = s.dev.persistTime := by
    unfold persistedTimeEff
    rw [if_neg (by simp [hv])]
    split
    · next k hk => exact if_pos (h k hk)
    · rfl
  have ht := (Dev.reportMode_touch s.dev.persistTime).clk (by simp)
  exact ⟨_, State.run_of_eq he, (congrArg (fun c : Clock => c.persisted) ht :), (congrArg (fun c : Clock => c.persistedAt) ht :)⟩

/-! ### The flush of the Barograph -/

theorem flushBays_nodup (d : Dev) : d.flushBays.Nodup :=
  ((List.nodup_finRange 4).filter _).sublist (List.take_sublist ..)

/-- Each ring of a list of bays is set once. -/
theorem foldl_set_get {α : Type} (f : α → α) {l : List (Fin 4)} (hl : l.Nodup) (v : Vector α 4) {b : Fin 4} (hb : b ∈ l) :
    (l.foldl (fun (p : Vector α 4) (x : Fin 4) => p.set x (f (p.get x))) v).get b = f (v.get b) := by
  have hout (l : List (Fin 4)) (v : Vector α 4) (h : b ∉ l) :
      (l.foldl (fun (p : Vector α 4) (x : Fin 4) => p.set x (f (p.get x))) v).get b = v.get b := by
    induction l generalizing v with
    | nil => rfl
    | cons x l ih =>
      rw [List.mem_cons, not_or] at h
      exact (ih _ h.2).trans (vector_get_set_ne _ (Ne.symm h.1) _)
  induction l generalizing v with
  | nil => exact absurd hb List.not_mem_nil
  | cons x l ih =>
    obtain ⟨hx, hl'⟩ := List.nodup_cons.mp hl
    rcases List.mem_cons.mp hb with rfl | hb'
    · exact (hout l _ hx).trans (vector_get_set_self ..)
    · refine (ih hl' _ hb').trans (congrArg f (vector_get_set_ne _ ?_ _))
      exact fun h => hx (h ▸ hb')

theorem Touch.pring {S : List DevPart} {d e : Dev} (h : Touch S d e) (hs : autoParam (.ev ∉ S) List.nodup_range'._auto_1) :
    e.ev.pring = d.ev.pring :=
  (congrArg (fun v : Events => v.pring) (h.ev hs) :)

/-- A flush puts the waiting records before those of each ring that it writes. -/
theorem Dev.baroFlush_pring {d : Dev} {bay : BayNo} (hd : d.ev.dropped = 0) (hu : d.ev.unflushed ≠ []) (hb : bay ∈ d.flushBays) (n : Nat) :
    (d.baroFlush n).ev.pring.get bay = (d.ev.unflushed ++ d.ev.pring.get bay).take 16777216 := by
  have hne : d.flushBays.isEmpty = false := by simpa using List.ne_nil_of_mem hb
  have hnew : (d.ev.ring.filter (fun x => !x.flushed)).map (·.r) = d.ev.unflushed := rfl
  unfold Dev.baroFlush
  rw [if_neg (by simp [hne]), if_pos (by simp [hd])]
  extract_lets d0 new src pr d1
  replace hnew : new = d.ev.unflushed := hnew
  clear_value new
  subst hnew
  split
  · next h => exact absurd (List.getLast?_eq_none_iff.mp h) hu
  · next first _ =>
    have h1 : Touch [.med, .bays] d1 ((d1.writeReserved d.flushBays (ceilDiv d.ev.unflushed.length 128)).raise Ev.baroFlush
        d.ev.unflushed.length n (first.ext % 2 ^ 32) 0) := .raise (d1.writeReserved_touch ..) ..
    rw [h1.pring]
    exact foldl_set_get (fun l => (d.ev.unflushed ++ l).take 16777216) (flushBays_nodup d) d.ev.pring hb

theorem Dev.reportMode_pring (d : Dev) : d.reportMode.ev.pring = d.ev.pring := d.reportMode_touch.pring

theorem baroFlush_writes (s : State) (bay : BayNo) (ha : s.dev.awake = true) (hu : s.dev.ev.unflushed.any (fun r => decide (4 ≤ r.ev.sev)) = true)
    (hd : s.dev.ev.dropped = 0) (hb : bay ∈ s.dev.flushBays) :
    ∃ t, exec .baroFlush s = .next t ∧ t.dev.ev.pring.get bay = (s.dev.ev.unflushed ++ s.dev.ev.pring.get bay).take 16777216 := by
  have he : baroFlushEff s.dev = s.dev.baroFlush 1 := by
    unfold baroFlushEff
    rw [if_neg (by simp [ha]), if_pos hu]
  have hne : s.dev.ev.unflushed ≠ [] := fun h => by simp [h] at hu
  refine ⟨_, State.run_of_eq he, ?_⟩
  rw [Dev.reportMode_pring]
  exact Dev.baroFlush_pring hd hne hb 1

theorem baroFlushAge_writes (s : State) (bay : BayNo) (ha : s.dev.awake = true) (hu : s.dev.ev.unflushed ≠ []) (hd : s.dev.ev.dropped = 0)
    (hb : bay ∈ s.dev.flushBays) :
    ∃ t, exec .baroFlushAge s = .next t ∧ t.dev.ev.pring.get bay = (s.dev.ev.unflushed ++ s.dev.ev.pring.get bay).take 16777216 := by
  have he : baroFlushAgeEff s.dev = s.dev.baroFlush 5 := by
    unfold baroFlushAgeEff
    rw [if_pos (by simp [ha, hu])]
  refine ⟨_, State.run_of_eq he, ?_⟩
  rw [Dev.reportMode_pring]
  exact Dev.baroFlush_pring hd hu hb 5

/-- Settles O24: what follows a reading keeps the sensors, and a flush takes the unflushed records as they stand. -/
theorem sensorsTimeAndBarograph : Obligations.SensorsTimeAndBarograph :=
  ⟨sensorSample_keeps, ptpMessage_announces, ptpAnnounceTimeout_ends, persistedTimeWrite_writes, baroFlush_writes, baroFlushAge_writes⟩

end Sys2Proof.Machine
end

section
/-! The ladder of rungs and the test of the hold-up bank (R314 to R320, R327). -/

namespace Sys2Proof.Machine

/-! ### Down -/

/-- What an entry to Frost or Glaze may change, beside the rung. -/
@[simp] abbrev frostParts : List DevPart := .conf :: .links :: .epochs :: .cards :: pairParts

theorem Dev.passPrograms_touch (d : Dev) (bay : BayNo) : Touch [.idx, .med, .bays] d (d.passPrograms bay) :=
  Touch.foldl (fun d p => d.passProg_touch p) _ d

theorem Dev.quiesceSteps_touch (d : Dev) (bay : BayNo) : Touch [.idx, .med, .bays] d (d.quiesceSteps bay) := by
  unfold Dev.quiesceSteps
  extract_lets d1
  have h1 : Touch [.idx, .med, .bays] d d1 := .next (.trans (d.abandonBatches_touch _) (Dev.passPrograms_touch ..)) (Dev.closeOpen_touch ..)
  clear_value d1
  have h2 := h1.trans (d1.passPrograms_touch bay)
  generalize d1.passPrograms bay = d2 at h2
  have h3 : Touch [.idx, .med, .bays] d ((d2.stopDies bay).writeSlot bay 2) := .next (.next h2 (d2.stopDies_touch bay)) (Dev.writeSlot_touch ..)
  exact h3.next (Dev.modBay_touch _ bay (fun b => { b with railsOn := false }))

theorem Dev.bayQuiesced_touch (d : Dev) (b : BayNo) :
    Touch [.idx, .med, .bays] d (if d.inService b then (d.writeSlot b 2).quiesceSteps b else d) :=
  .ite (fun _ => .next (d.writeSlot_touch b 2).of ((d.writeSlot b 2).quiesceSteps_touch b)) (fun _ => .refl _ d)

/-- The actions of Frost end the sessions, and leave the power as it is. -/
theorem Dev.frostActions_touch (d : Dev) : Touch frostParts d d.frostActions ∧ d.frostActions.net.sessions = [] := by
  unfold Dev.frostActions
  extract_lets d1 src1 d2 d3 src2 src3 d4
  have h1 : Touch frostParts d { d1 with par := { d1.par with closing := true } } := .setPar (.sent (.refl _ d) (d.rungNotice_sent .frost)) _ (hg := .inr id)
  have h2 : Touch frostParts d d2 := h1.next (Dev.endAll_touch ..)
  have hs : d2.net.sessions = [] := Dev.endAll_sessions ..
  clear_value d2
  have h3 : Touch [.idx, .med, .bays] d2 d3 := Touch.foldl Dev.bayQuiesced_touch _ _
  clear_value d3
  have h4 : Touch [.clk, .gale, .bays, .cards] d3 d4 :=
    d3.persistTime_touch.of.trans (by constructor <;> simp [d4, src2, src3])
  clear_value d4
  have h5 : Touch frostParts d d4 := .next (.next h2 h3) h4
  have hl := d4.downLinks_touch 4
  exact ⟨.next h5 hl, hl.no_sessions (h4.no_sessions (h3.no_sessions hs))⟩

theorem Dev.glazeActions_touch (d : Dev) : Touch (.clk :: .mgmt :: epochParts) d d.glazeActions :=
  .setMgmt (.next d.checkpoint_touch.of (Dev.persistTime_touch _)) _

/-- A descent changes of the power the rung alone. -/
theorem Dev.descend_pow (d : Dev) (r : Rung) (cause : Nat) : (d.descend r cause).pow = { d.pow with rung := r } := by
  unfold Dev.descend
  extract_lets from_ d0 d1 d2 d3 d4
  have h0 : Touch frostParts d d0 := .ite (fun _ => (d.baroFlush_touch 4).of) (fun _ => .refl _ d)
  clear_value d0
  have h1 : Touch frostParts d d1 := .ite (fun _ => h0.sent (d0.rungNotice_sent .haze)) (fun _ => h0)
  clear_value d1
  have h2 : Touch frostParts d d2 := .ite (fun _ => h1.sent (d1.rungNotice_sent .fog)) (fun _ => h1)
  clear_value d2
  have h3 : Touch frostParts d d3 := .ite (fun _ => h2.trans d2.frostActions_touch.1) (fun _ => h2)
  clear_value d3
  have h4 : Touch frostParts d d4 := .ite (fun _ => h3.next d3.glazeActions_touch) (fun _ => h3)
  unfold Dev.rungEntered
  rw [Dev.raise_pow, h4.pow (by simp)]

theorem hazeIdle_enters (s : State) (h : s.dev.pow.rung = .clear) (hm : s.dev.mayDescend .haze = true) :
    ∃ t, exec .hazeIdleTimeout s = .next t ∧ t.dev.pow.rung = .haze := by
  have he : hazeIdleEff s.dev = s.dev.descend .haze 1 := by
    unfold hazeIdleEff
    exact if_pos ⟨h, hm⟩
  refine ⟨_, State.run_of_eq he, ?_⟩
  rw [Dev.reportMode_pow, Dev.descend_pow]

theorem fogIdle_enters (s : State) (h : s.dev.pow.rung = .haze) (hm : s.dev.mayDescend .fog = true) (hp : s.dev.pairAwake = false) :
    ∃ t, exec .fogIdleTimeout s = .next t ∧ t.dev.pow.rung = .fog := by
  have he : fogIdleEff s.dev = s.dev.descend .fog 1 := by
    unfold fogIdleEff
    exact if_pos ⟨h, hm, by simp [hp]⟩
  refine ⟨_, State.run_of_eq he, ?_⟩
  rw [Dev.reportMode_pow, Dev.descend_pow]

theorem Dev.descend_frost_sessions {d : Dev} (h : d.pow.rung = .fog) (cause : Nat) : (d.descend .frost cause).net.sessions = [] := by
  have hv (e : Dev) (he : e.net.sessions = []) : (e.rungEntered .frost cause).net.sessions = [] := ((Dev.raise_sent ..).touch []).no_sessions he
  unfold Dev.descend
  simp only [h, Rung.num, Nat.reduceLT, Nat.reduceLeDiff, Nat.le_refl, and_self, and_false, false_and, if_false, if_true]
  exact hv _ (Dev.frostActions_touch _).2

theorem frostIdle_enters (s : State) (h : s.dev.pow.rung = .fog) (hm : s.dev.mayDescend .frost = true) :
    ∃ t, exec .frostIdleTimeout s = .next t ∧ t.dev.pow.rung = .frost ∧ t.dev.net.sessions = [] := by
  have he : frostIdleEff s.dev = s.dev.descend .frost 1 := by
    unfold frostIdleEff
    exact if_pos ⟨.inl h, hm⟩
  refine ⟨_, State.run_of_eq he, ?_, Dev.reportMode_no_sessions (Dev.descend_frost_sessions h 1)⟩
  rw [Dev.reportMode_pow, Dev.descend_pow]

theorem Dev.descend_glaze_vane {d : Dev} (h : d.pow.rung = .frost) (cause : Nat) : (d.descend .glaze cause).mgmt.vaneUp = false := by
  have hv (e : Dev) (he : e.mgmt.vaneUp = false) : (e.rungEntered .glaze cause).mgmt.vaneUp = false :=
    (congrArg (fun m : Mgmt => m.vaneUp) (((Dev.raise_sent ..).touch []).mgmt (by simp)) :).trans he
  unfold Dev.descend
  simp only [h, Rung.num, Nat.reduceLT, Nat.reduceLeDiff, Nat.le_refl, and_self, false_and, if_false, if_true]
  exact hv _ rfl

theorem glazeIdle_enters (s : State) (h : s.dev.pow.rung = .frost) (hm : s.dev.mayDescend .glaze = true) (hs : s.dev.pow.stopped = false) :
    ∃ t, exec .glazeIdleTimeout s = .next t ∧ t.dev.pow.rung = .glaze ∧ t.dev.mgmt.vaneUp = false := by
  have he : glazeIdleEff s.dev = s.dev.descend .glaze 1 := by
    unfold glazeIdleEff
    exact if_pos ⟨h, hm, by simp [hs]⟩
  refine ⟨_, State.run_of_eq he, ?_, (Dev.reportMode_vane _).1.trans (Dev.descend_glaze_vane h 1)⟩
  rw [Dev.reportMode_pow, Dev.descend_pow]

theorem holdExpiry_releases (s : State) (h : s.dev.pow.armed = 0) :
    ∃ t, exec .holdExpiry s = .next t ∧ t.dev.pow.holdUntil = none := by
  have he : holdExpiryEff s.dev = { s.dev with pow := { s.dev.pow with holdUntil := none } } := by
    unfold holdExpiryEff Dev.armedDescent
    simp [h]
  exact ⟨_, State.run_of_eq he, by rw [Dev.reportMode_pow]⟩

theorem Dev.armedDescent_goes {d : Dev} (h0 : d.pow.armed ≠ 0) (hr : d.pow.rung.num < d.pow.armed) (hm : d.mayDescend (rungOf d.pow.armed) = true)
    (hs : d.pow.stopped = false) (hp : d.pairAwake = false) :
    d.armedDescent.pow = { d.pow with armed := 0, rung := rungOf d.pow.armed } := by
  unfold Dev.armedDescent
  rw [if_pos ⟨h0, hr, hm, by simp [hs]⟩]
  simp only [hp, Bool.and_false, Bool.false_eq_true, if_false]
  rw [Dev.descend_pow]

theorem holdExpiry_descends (s : State) (h0 : s.dev.pow.armed ≠ 0) (_ : s.dev.pow.armed ≤ 4) (hr : s.dev.pow.rung.num < s.dev.pow.armed)
    (hm : ({ s.dev with pow := { s.dev.pow with holdUntil := none } } : Dev).mayDescend (rungOf s.dev.pow.armed) = true)
    (hs : s.dev.pow.stopped = false) (hp : s.dev.pairAwake = false) :
    ∃ t, exec .holdExpiry s = .next t ∧ t.dev.pow.rung = rungOf s.dev.pow.armed ∧ t.dev.pow.armed = 0 := by
  have hpow : (holdExpiryEff s.dev).pow = _ := Dev.armedDescent_goes (d := { s.dev with pow := { s.dev.pow with holdUntil := none } }) h0 hr hm hs hp
  refine ⟨_, State.run_of_eq (f := holdExpiryEff) rfl, ?_⟩
  rw [Dev.reportMode_pow, hpow]
  exact ⟨rfl, rfl⟩

/-! ### Up -/

theorem Dev.measureExit_kept (d : Dev) (r : Rung) : (d.measureExit r).2.pow.alarm = d.pow.alarm := rfl

/-- A way back to Clear keeps the alarm and the bank. -/
structure ToClear (d e : Dev) : Prop where
  rung : e.pow.rung = .clear
  alarm : e.pow.alarm = d.pow.alarm

theorem Dev.wakeLight_clear {d : Dev} (h : d.pow.rung = .haze ∨ d.pow.rung = .fog) (trigger : Nat) : ToClear d (d.wakeLight trigger) := by
  unfold Dev.wakeLight
  rw [if_pos h]
  extract_lets r
  have hk := d.measureExit_kept r
  split
  next us d1 he =>
  rw [he] at hk
  extract_lets src d2 d3
  have h3 : Touch [] d2 (d3.net.sessions.foldl (fun d s => d.pump s.sid) d3) :=
    .sent (.raise (.sent (.refl _ d2) (d2.rungNotice_sent .clear)) ..) (Dev.pumps_sent ..)
  have hp := h3.pow (by simp)
  exact ⟨congrArg (fun p : Power => p.rung) hp, (congrArg (fun p : Power => p.alarm) hp).trans hk⟩

theorem Dev.exitFrost_pow (d : Dev) (trigger : Nat) :
    (d.exitFrost trigger).pow = { (d.measureExit .frost).2.pow with rung := .clear } := by
  unfold Dev.exitFrost
  split
  next us d1 he =>
  rw [he]
  extract_lets src1 src2 d2 d3
  have h3 : Touch [.cards, .bays, .fresh, .par] d2 ((d3.raise Ev.rungExit 3 trigger us 0).refreshMode 2) :=
    .next (.raise (d2.baysBack_touch _).of ..) (Dev.refreshMode_touch ..)
  exact h3.pow (by simp)

theorem Dev.exitFrost_clear (d : Dev) (trigger : Nat) : ToClear d (d.exitFrost trigger) := by
  have hp := d.exitFrost_pow trigger
  exact ⟨congrArg (fun p : Power => p.rung) hp, (congrArg (fun p : Power => p.alarm) hp).trans (d.measureExit_kept .frost)⟩

theorem Dev.wipe_clear (d : Dev) : d.wipe.pow.rung = .clear ∧ d.wipe.pow.alarm = d.pow.alarm := by
  have hp : d.wipe.pow.rung = .clear ∧ d.wipe.pow.alarm = d.settlePrograms.pow.alarm := ⟨rfl, rfl⟩
  rwa [d.settlePrograms_touch.pow (by simp)] at hp

theorem Dev.exitGlaze_clear (d : Dev) (trigger : Nat) : ToClear d (d.exitGlaze trigger) := by
  unfold Dev.exitGlaze
  have hk := d.measureExit_kept .glaze
  split
  next us d1 he =>
  rw [he] at hk
  obtain ⟨hr, ha⟩ := d1.wipe_clear
  extract_lets d2 src1 src2 d3 d4 d5
  have h5 : Touch [.par, .conf, .cards, .bays, .fresh, .gale] d3 d5 :=
    .sent (.setGale (.trans d3.loadSettings_touch.of (Dev.baysBack_touch ..).of) _) (Dev.recomputePools_sent _)
  have h6 : Touch [.par, .conf, .cards, .bays, .fresh, .gale, .clk] d3 (((d5.raise Ev.rungExit 4 trigger us 0).setSource .rtc 0).refreshMode 2) :=
    .next (.next (.raise h5.of ..) (Dev.setSource_touch ..)) (Dev.refreshMode_touch ..)
  have hp := h6.pow (by simp)
  exact ⟨(congrArg (fun p : Power => p.rung) hp).trans hr, (congrArg (fun p : Power => p.alarm) hp).trans (ha.trans hk)⟩

/-- A drive that may wake does from every rung. -/
theorem Dev.wake_clear {d : Dev} (h : d.pow.rung = .frost → d.pow.stopped = false) (trigger : Nat) : ToClear d (d.wake trigger) := by
  unfold Dev.wake
  split
  · next hr => exact ⟨hr, rfl⟩
  · next hr => exact Dev.wakeLight_clear (.inl hr) trigger
  · next hr => exact Dev.wakeLight_clear (.inr hr) trigger
  · next hr =>
    rw [h hr, if_neg Bool.false_ne_true]
    exact d.exitFrost_clear trigger
  · exact d.exitGlaze_clear trigger

theorem Dev.wakeIf_clear {d : Dev} (hr : d.par.run = .running) (hf : d.pow.failing = none) (hp : d.pow.pwrEn = true)
    (h : d.pow.rung = .frost → d.pow.stopped = false) (trigger : Nat) : ToClear d (d.wakeIf trigger) := by
  unfold Dev.wakeIf
  rw [if_pos (by simp [hr, hf, hp])]
  exact Dev.wake_clear h trigger

theorem wakePin_wakes (s : State) (hr : s.dev.par.run = .running) (hf : s.dev.pow.failing = none) (hp : s.dev.pow.pwrEn = true)
    (h : s.dev.pow.rung = .frost → s.dev.pow.stopped = false) : ∃ t, exec .wakePin s = .next t ∧ t.dev.pow.rung = .clear := by
  refine ⟨_, State.run_of_eq (f := wakePinEff) rfl, ?_⟩
  rw [Dev.reportMode_pow]
  exact (Dev.wakeIf_clear hr hf hp h 3).rung

theorem rtcAlarm_wakes (s : State) (ha : s.dev.pow.alarm ≠ 0) (hr : s.dev.par.run = .running) (hf : s.dev.pow.failing = none)
    (hp : s.dev.pow.pwrEn = true) (hs : s.dev.pow.stopped = false) (hn : s.dev.pow.alarm ≤ s.dev.clk.ns) :
    ∃ t, exec .rtcAlarm s = .next t ∧ t.dev.pow.alarm = 0 ∧
      ((s.dev.pow.rung = .frost ∨ s.dev.pow.rung = .glaze) → t.dev.pow.rung = .clear) := by
  refine ⟨_, State.run_of_eq (f := rtcAlarmEff) rfl, ?_⟩
  rw [Dev.reportMode_pow]
  unfold rtcAlarmEff
  extract_lets past src d1
  have h1 : d1 = { s.dev with pow := { s.dev.pow with alarm := 0 } } := if_pos (.inr hn)
  clear_value d1
  subst h1
  split
  · obtain ⟨hrung, halarm⟩ := Dev.wakeIf_clear (d := { s.dev with pow := { s.dev.pow with alarm := 0 } }) hr hf hp (fun _ => hs) 5
    exact ⟨halarm, fun _ => hrung⟩
  · next h => exact ⟨rfl, fun hg => absurd (hg.symm.imp_right (⟨·, ha⟩)) h⟩

/-! ### The test of the bank -/

theorem Dev.scheduledCapTest_starts {d : Dev} (hv : d.mgmt.vaneUp = true) (ht : d.pow.bank.testRunning = false) (hf : d.pow.failing = none)
    (hm : d.testMargin = true) : d.scheduledCapTest.pow.bank.testRunning = true ∧ d.scheduledCapTest.pow.bank.retryPending = false := by
  unfold Dev.scheduledCapTest
  rw [if_neg (by simp [hv, ht, hf]), if_pos hm]
  exact ⟨rfl, rfl⟩

theorem capTestSchedule_tests (s : State) (hv : s.dev.mgmt.vaneUp = true) (ht : s.dev.pow.bank.testRunning = false) (hf : s.dev.pow.failing = none) :
    ∃ t, exec .capTestSchedule s = .next t ∧
      (s.dev.testMargin = true → t.dev.pow.bank.testRunning = true ∧ t.dev.pow.bank.retryPending = false) ∧
      (s.dev.testMargin = false → t.dev.pow.bank.testRunning = false ∧ t.dev.pow.bank.retryPending = true) := by
  refine ⟨_, State.run_of_eq (f := Dev.scheduledCapTest) rfl, ?_⟩
  rw [Dev.reportMode_pow]
  refine ⟨Dev.scheduledCapTest_starts hv ht hf, fun hm => ?_⟩
  unfold Dev.scheduledCapTest
  rw [if_neg (by simp [hv, ht, hf]), if_neg (by simp [hm])]
  exact ⟨ht, rfl⟩

theorem capTestRetry_tests (s : State) (hv : s.dev.mgmt.vaneUp = true) (ht : s.dev.pow.bank.testRunning = false) (hf : s.dev.pow.failing = none)
    (hp : s.dev.pow.bank.retryPending = true) (hm : s.dev.testMargin = true) :
    ∃ t, exec .capTestRetry s = .next t ∧ t.dev.pow.bank.testRunning = true ∧ t.dev.pow.bank.retryPending = false := by
  refine ⟨_, State.run_of_eq (f := capTestRetryEff) (if_pos hp), ?_⟩
  rw [Dev.reportMode_pow]
  exact Dev.scheduledCapTest_starts hv ht hf hm

/-- What a test leaves of the bank, but for its condition. -/
@[simp] def Bank.measured (b : Bank) : Bool × List Nat × Nat × Nat × Bool := (b.testRunning, b.testWaiters, b.esr, b.capacitance, b.chargerFault)

theorem Dev.refreshBank_measured (d : Dev) (cause : Nat) : (d.refreshBank cause).pow.bank.measured = d.pow.bank.measured := by
  unfold Dev.refreshBank
  extract_lets st src1 src2
  split
  · rfl
  · rw [(Dev.refreshEarly_touch _).pow (by simp), Dev.raise_pow]
    rfl

theorem capTestDone_records (s : State) (m : CapMeasure) (h : s.dev.pow.bank.testRunning = true) :
    ∃ t, exec (.capTestDone m) s = .next t ∧ t.dev.pow.bank.testRunning = false ∧ t.dev.pow.bank.testWaiters = [] ∧
      t.dev.pow.bank.esr = m.esr ∧ t.dev.pow.bank.capacitance = m.capacitance ∧ t.dev.pow.bank.chargerFault = m.chargerFault := by
  refine ⟨_, State.run_of_eq (f := capTestDoneEff m) rfl, ?_⟩
  have hm : (capTestDoneEff m s.dev).pow.bank.measured = (false, [], m.esr, m.capacitance, m.chargerFault) := by
    unfold capTestDoneEff
    rw [if_neg (by simp [h])]
    extract_lets b b1 b2 src d1 d2
    have ha : Touch [.que, .net, .mir] d2 (b.testWaiters.foldl (fun (d : Dev) (s : Nat) => d.answer (some s) (Reply.okData d.powerStatus)) d2) :=
      Touch.foldl (fun d _ => d.answer_touch ..) _ _
    rw [ha.pow (by simp)]
    refine (Dev.refreshBank_measured _ _).trans ?_
    rw [Dev.raise_pow]
    rfl
  rw [Dev.reportMode_pow]
  simpa using hm

/-- Settles O20: a descent changes of the power the rung alone, every way back ends in Clear and keeps the alarm. -/
theorem rungsAndCapacitorTest : Obligations.RungsAndCapacitorTest :=
  ⟨hazeIdle_enters, fogIdle_enters, frostIdle_enters, glazeIdle_enters, holdExpiry_releases, holdExpiry_descends, wakePin_wakes,
    rtcAlarm_wakes, capTestSchedule_tests, capTestRetry_tests, capTestDone_records⟩

end Sys2Proof.Machine
end

section
/-! The power cap and the thermal groups (R322 to R326). -/

namespace Sys2Proof.Machine

/-! ### The power cap -/

theorem Dev.turnKnob_inputs (d : Dev) : d.turnKnob.pow.inputs = d.pow.inputs := by
  have hb (e : Dev) (n : Nat) : (e.capBound n).pow = e.pow := ((e.capBound_sent n).touch []).pow (by simp)
  unfold Dev.turnKnob
  extract_lets g
  split
  · rw [hb]
    rfl
  · split
    · rw [hb, (Dev.applyStep_touch _).pow (by simp)]
    · split
      · rw [hb]
        rfl
      · rfl

theorem powerCapPeriod_keeps (s : State) (input : Nat) (hc : s.dev.controls = true) :
    ∃ t, exec (.powerCapPeriod input) s = .next t ∧ t.dev.pow.inputs = (input :: s.dev.pow.inputs).take 100 := by
  refine ⟨_, State.run_of_eq (f := powerCapEff input) rfl, ?_⟩
  rw [Dev.reportMode_pow]
  unfold powerCapEff
  rw [if_neg (by simp [hc])]
  dsimp only
  split
  · exact Dev.turnKnob_inputs _
  · rfl

theorem knobRelease_releases (s : State) (x : Nat) (rest : List Nat) (hi : s.dev.pow.inputs = x :: rest) (hc : s.dev.controls = true)
    (hx : x + 20 ≤ s.dev.powerLimit) (hd : s.dev.pow.dispatchPm = 1000) (hg : s.dev.pow.galeCeiling < 600) :
    ∃ t, exec .knobReleaseStep s = .next t ∧ t.dev.pow.galeCeiling = min 600 (2 * s.dev.pow.galeCeiling) := by
  have hk : s.dev.knob = 2 := by simp [Dev.knob, hd, hg]
  have he : knobReleaseEff s.dev = s.dev.releaseKnob := by
    unfold knobReleaseEff
    rw [hi]
    exact if_pos (by simp [hc, hx])
  refine ⟨_, State.run_of_eq he, ?_⟩
  rw [Dev.reportMode_pow]
  unfold Dev.releaseKnob
  rw [hk]
  exact (congrArg (fun p : Power => p.galeCeiling) ((Dev.applyStep_touch _).pow (by simp)) :)

theorem floorBreachRepeat_logs (s : State) (hb : s.dev.pow.breach = true) (hl : s.dev.level Ev.floorBreach.src ≤ Ev.floorBreach.sev)
    (hr : s.dev.ev.ring.length < 65000) : ∃ t, exec .floorBreachRepeat s = .next t ∧ logged s.dev t.dev Ev.floorBreach :=
  ⟨_, State.run_of_eq (f := floorBreachRepeatEff) (if_pos hb), logged_raise_later hl (Dev.reportMode_records _) (by omega)⟩

/-! ### The groups of temperature points -/

theorem Dev.levelEvent_sent (d : Dev) (g level point : Nat) (t : Int) : Sent d (d.levelEvent g level point t) := by
  unfold Dev.levelEvent
  split
  · exact d.raise_sent ..
  · exact d.raise_sent ..

/-- A group that has a reading keeps it, and no other group changes. -/
theorem Dev.evalGroup_groups (d : Dev) (temps : List (Nat × Int)) (g : Fin 11) : Touch [.pow] d (d.evalGroup temps g) ∧
    (d.evalGroup temps g).pow.failing = d.pow.failing ∧ ∃ y : ThermGroup, (d.evalGroup temps g).pow.groups = d.pow.groups.set g y ∧
      ∀ p x, hottestOf (d.groupReads temps g.val) = some (p, x) → y.temp = x ∧ y.point = p := by
  unfold Dev.evalGroup
  split
  · next hn => exact ⟨.refl _ d, rfl, d.pow.groups.get g, (Vector.set_getElem_self _).symm, fun p x h => absurd (hn.symm.trans h) nofun⟩
  · next point t hs =>
    have hread (y : ThermGroup) (ht : y.temp = t) (hp : y.point = point) :
        ∀ p x, hottestOf (d.groupReads temps g.val) = some (p, x) → y.temp = x ∧ y.point = p := by
      intro p x h
      cases hs.symm.trans h
      exact ⟨ht, hp⟩
    extract_lets o x new below d1 d2 d3 d4
    split
    · exact ⟨.setPow (.refl _ d) _, rfl, { x with point := point, temp := t }, rfl, hread _ rfl rfl⟩
    · have h1 : Touch [.pow] d d1 := .setPow (.refl _ d) _
      have hg : d1.pow.groups = d.pow.groups.set g { level := new, point := point, temp := t, belowSince := below } := rfl
      have hf : d1.pow.failing = d.pow.failing := rfl
      clear_value d1
      have h2 : Sent d1 d2 := by
        unfold d2
        split
        · exact d1.levelEvent_sent ..
        · exact .refl d1
      clear_value d2
      have h3 : Sent d1 d3 := by
        unfold d3
        split
        · exact h2.trans (d2.levelEvent_sent ..)
        · exact h2
      clear_value d3
      have h4 : Sent d1 d4 := by
        unfold d4
        split
        · exact h3.trans (d3.levelEvent_sent ..)
        · exact h3
      have ht : Touch [.pow] d d4 := h1.sent h4
      have hp : d4.pow = d1.pow := (h4.touch []).pow (by simp)
      clear_value d4
      rw [← hp] at hg hf
      refine ⟨.ite (fun _ => .ite (fun _ => ht) (fun _ => .raise (ht.setPow _) ..)) (fun _ => ht), ?_,
        { level := new, point := point, temp := t, belowSince := below }, ?_, hread _ rfl rfl⟩
      all_goals
        split
        · split
          · assumption
          · rw [Dev.raise_pow]
            assumption
        · assumption

theorem Touch.groupReads {S : List DevPart} {d e : Dev} (h : Touch S d e) (temps : List (Nat × Int)) (g : Nat)
    (hm : autoParam (.mgmt ∉ S) List.nodup_range'._auto_1) (hp : autoParam (.par ∉ S) List.nodup_range'._auto_1) :
    e.groupReads temps g = d.groupReads temps g := by
  unfold Dev.groupReads Dev.pnum Dev.sensorFailed
  rw [h.sensors hm, h.par hp]

/-- After a sample each group shows its hottest reading. -/
theorem foldl_evalGroup_reads (temps : List (Nat × Int)) {g : Fin 11} {p : Nat} {x : Int} {l : List (Fin 11)} (hl : g ∈ l) (d : Dev)
    (h : hottestOf (d.groupReads temps g.val) = some (p, x)) :
    ((l.foldl (fun (d : Dev) (g : Fin 11) => d.evalGroup temps g) d).pow.groups.get g).temp = x ∧
      ((l.foldl (fun (d : Dev) (g : Fin 11) => d.evalGroup temps g) d).pow.groups.get g).point = p := by
  have keeps (l : List (Fin 11)) (d : Dev) (h : hottestOf (d.groupReads temps g.val) = some (p, x))
      (hk : (d.pow.groups.get g).temp = x ∧ (d.pow.groups.get g).point = p) :
      ((l.foldl (fun (d : Dev) (g : Fin 11) => d.evalGroup temps g) d).pow.groups.get g).temp = x ∧
        ((l.foldl (fun (d : Dev) (g : Fin 11) => d.evalGroup temps g) d).pow.groups.get g).point = p := by
    induction l generalizing d with
    | nil => exact hk
    | cons a l ih =>
      obtain ⟨ht, _, y, hy, hr⟩ := d.evalGroup_groups temps a
      refine ih _ ((ht.groupReads temps g.val) ▸ h) ?_
      rw [hy]
      by_cases ha : a = g
      · subst ha
        rw [vector_get_set_self]
        exact hr p x h
      · rwa [vector_get_set_ne _ ha]
  induction l generalizing d with
  | nil => exact absurd hl List.not_mem_nil
  | cons a l ih =>
    have h' := ((d.evalGroup_groups temps a).1.groupReads temps g.val) ▸ h
    rcases List.mem_cons.mp hl with rfl | hm
    · obtain ⟨_, _, y, hy, hr⟩ := d.evalGroup_groups temps g
      refine keeps l _ h' ?_
      rw [hy, vector_get_set_self]
      exact hr p x h
    · exact ih hm _ h'

theorem foldl_evalGroup_failing (temps : List (Nat × Int)) (l : List (Fin 11)) (d : Dev) :
    (l.foldl (fun (d : Dev) (g : Fin 11) => d.evalGroup temps g) d).pow.failing = d.pow.failing := by
  induction l generalizing d with
  | nil => rfl
  | cons a l ih => exact (ih _).trans (d.evalGroup_groups temps a).2.1

theorem Dev.refreshBank_groups (d : Dev) (cause : Nat) :
    (d.refreshBank cause).pow.groups = d.pow.groups ∧ (d.refreshBank cause).pow.failing = d.pow.failing := by
  unfold Dev.refreshBank
  extract_lets st src1 src2
  split
  · exact ⟨rfl, rfl⟩
  · rw [(Dev.refreshEarly_touch _).pow (by simp), Dev.raise_pow]
    exact ⟨rfl, rfl⟩

theorem Dev.throttle_groups (d : Dev) : d.throttle.pow.groups = d.pow.groups ∧ d.throttle.pow.failing = d.pow.failing := by
  unfold Dev.throttle Dev.galeTemp
  extract_lets t cut src1 src2 d1 o down ts cool src3
  rw [(Dev.applyStep_touch _).pow (by simp)]
  exact Dev.refreshBank_groups ..

theorem Dev.throttle_touch (d : Dev) : Touch powerParts d d.throttle := by
  unfold Dev.throttle Dev.galeTemp
  extract_lets t cut src1 src2 d1 o down ts cool src3
  exact .next (.setGale (.next (.setPow (.refl _ d) _) (d1.refreshBank_touch 3)) _) (Dev.applyStep_touch _)

/-- Where nothing waits for the drain but a thermal stop, what is performed leaves the groups. -/
theorem Dev.performPending_groups {d : Dev} (hf : d.pow.failing = none) (hp : d.par.pendingReset = none) (hl : d.sec.run = none)
    (hs : d.par.shutdownSince = none) : d.performPending.pow.groups = d.pow.groups := by
  unfold Dev.performPending
  simp only [hf, hp, hl, hs, Option.isSome_none, Bool.false_eq_true, if_false]
  split
  · rfl
  · split
    · rw [Dev.descend_pow]
    · rfl

theorem thermalSample_reads (s : State) (temps : List (Nat × Int)) (g : Fin 11) (p : Nat) (x : Int) (hc : s.dev.controls = true)
    (hr : s.dev.par.pendingReset = none) (hl : s.dev.sec.run = none) (hs : s.dev.par.shutdownSince = none)
    (h : hottestOf ((s.dev.applyCommitted (· == P.galeStepOffsetC)).groupReads temps g.val) = some (p, x)) :
    ∃ t, exec (.thermalSample temps) s = .next t ∧ (t.dev.pow.groups.get g).temp = x ∧ (t.dev.pow.groups.get g).point = p := by
  refine ⟨_, State.run_of_eq (f := thermalSampleEff temps) rfl, ?_⟩
  rw [Dev.reportMode_pow]
  unfold thermalSampleEff
  rw [if_neg (by simp [hc])]
  extract_lets d0 d1 src d2
  have hf : s.dev.pow.failing = none := by simp_all [Dev.controls]
  have h0 : Touch [.par, .conf] s.dev d0 := s.dev.applyCommitted_touch _
  have hread : hottestOf (d0.dropCartTemps.groupReads temps g.val) = some (p, x) := h
  have h1 : Touch powerParts s.dev d1 := .trans (.trans (.setPow (h0.mono (by simp)) _)
    (Touch.foldl (fun d g => (d.evalGroup_groups temps g).1.of) _ _)) (Dev.throttle_touch _)
  have hg : (d1.pow.groups.get g).temp = x ∧ (d1.pow.groups.get g).point = p := by
    unfold d1
    rw [(Dev.throttle_groups _).1]
    exact foldl_evalGroup_reads temps (List.mem_finRange g) _ hread
  have hf1 : d1.pow.failing = none := by
    unfold d1
    rw [(Dev.throttle_groups _).2, foldl_evalGroup_failing]
    exact (congrArg (fun p : Power => p.failing) (h0.pow (by simp))).trans hf
  clear_value d1
  have hcourse := h1.course (by simp)
  simp only [Conf.course, Prod.mk.injEq] at hcourse
  obtain ⟨_, _, hdown, hreset, _, _⟩ := hcourse
  have hw : d2.performPending.pow.groups = d2.pow.groups :=
    Dev.performPending_groups hf1 (hreset.trans hr) ((congrArg (fun z : Security => z.run) (h1.sec (by simp))).trans hl) (hdown.trans hs)
  rw [hw]
  exact hg

theorem thermalExit_leaves (s : State) (g : Fin 7) (hb : (s.dev.pow.groups.get (g.castLE (by decide))).belowSince.isSome = true)
    (hl : (s.dev.pow.groups.get (g.castLE (by decide))).level ≠ 0) :
    ∃ t, exec (.thermalLevelExit (g.val + 1)) s = .next t ∧
      (t.dev.pow.groups.get (g.castLE (by decide))).level = (s.dev.pow.groups.get (g.castLE (by decide))).level - 1 := by
  refine ⟨_, State.run_of_eq (f := thermalExitEff (g.val + 1)) rfl, ?_⟩
  rw [Dev.reportMode_pow]
  unfold thermalExitEff
  rw [dif_pos (by omega)]
  simp only [Nat.add_sub_cancel]
  have hg : (⟨g.val, by omega⟩ : Fin 11) = g.castLE (by decide) := rfl
  rw [hg, if_pos (by simp [hb, hl])]
  unfold Dev.setGroup
  dsimp only
  rw [vector_get_set_self]

/-! ### The end of a thermal stop -/

theorem Dev.exitFrost_stop (d : Dev) (trigger : Nat) :
    (d.exitFrost trigger).pow.stopped = d.pow.stopped ∧ (d.exitFrost trigger).pow.coolSince = d.pow.coolSince := by
  rw [Dev.exitFrost_pow]
  exact ⟨rfl, rfl⟩

theorem Dev.armedDescent_stop (d : Dev) : d.armedDescent.pow.stopped = d.pow.stopped ∧ d.armedDescent.pow.coolSince = d.pow.coolSince := by
  unfold Dev.armedDescent
  dsimp only
  split
  · rw [Dev.descend_pow]
    exact ⟨rfl, rfl⟩
  · exact ⟨rfl, rfl⟩

theorem Dev.wake_frost_stop {d : Dev} (h : d.pow.rung = .frost) (trigger : Nat) :
    (d.wake trigger).pow.stopped = d.pow.stopped ∧ (d.wake trigger).pow.coolSince = d.pow.coolSince := by
  unfold Dev.wake
  simp only [h]
  split
  · exact ⟨rfl, rfl⟩
  · exact d.exitFrost_stop trigger

theorem thermalStopRecovery_ends (s : State) (h : s.dev.pow.stopped = true) (hc : s.dev.pow.coolSince.isSome = true) :
    ∃ t, exec .thermalStopRecovery s = .next t ∧ t.dev.pow.stopped = false ∧ t.dev.pow.coolSince = none := by
  refine ⟨_, State.run_of_eq (f := thermalStopRecoveryEff) rfl, ?_⟩
  rw [Dev.reportMode_pow]
  unfold thermalStopRecoveryEff
  rw [if_pos (by simp [h, hc])]
  extract_lets src d1 d2
  have h1 : d1.pow.stopped = false ∧ d1.pow.coolSince = none := ⟨rfl, rfl⟩
  clear_value d1
  have h2 : d2.pow.stopped = false ∧ d2.pow.coolSince = none := by
    unfold d2
    rwa [d1.armedDescent_stop.1, d1.armedDescent_stop.2]
  clear_value d2
  have hwake (e : Dev) (hr : e.pow.rung = .frost) (he : e.pow.stopped = false ∧ e.pow.coolSince = none) :
      (e.wake 6).pow.stopped = false ∧ (e.wake 6).pow.coolSince = none := by
    rwa [(Dev.wake_frost_stop hr 6).1, (Dev.wake_frost_stop hr 6).2]
  split
  · next hf =>
    split
    · split
      · next hr => exact hwake d2 hr h2
      · exact h2
    · exact hwake d1 hf h1
  · exact h1

/-- Settles O21: no group's sample changes what another reads, and the throttles leave the groups. -/
theorem powerCapAndThermalLevels : Obligations.PowerCapAndThermalLevels :=
  ⟨powerCapPeriod_keeps, knobRelease_releases, fun s hb _ hl hr => floorBreachRepeat_logs s hb hl hr, thermalSample_reads, thermalExit_leaves,
    thermalStopRecovery_ends⟩

end Sys2Proof.Machine
end

section
/-! A `HANDOVER` at whose place in the stream of its session a writer is still being received. -/

namespace Sys2Proof.Machine.Corner

/- An evaluation by the kernel waits for all that stands before it; one after the other, the waiting threads do not pile up. -/
set_option Elab.async false

/-- A `HANDOVER` of all the namespaces led here. -/
def handingOver : Cap := capsule Op.mirrorCtl 0 (6#8 :: 4#8 :: zeroBytes 62)

/-- A `PUT` to namespace 5 at the same place, still being received. -/
def incoming : Cap := { capsule Op.put 2 [] with seq := 0, stage := .receiving }

/-- A linked drive that leads namespace 5, in step with its partner, without a witness. -/
def leading : Dev :=
  let d := drive [handingOver, incoming]
  { d with mir := { d.mir with state := .linked, nss := [ledSpace] } }

theorem handingOver_ready : ready leading 7 Op.mirrorCtl handingOver ∧ mirrorBlock handingOver = none ∧ handingOver.mOp = 6 ∧
    handingOver.mBit 2 = true ∧ leading.handoverNs handingOver = some [5] ∧ leading.handoverReady ⟨7, [5], none⟩ = true ∧
    leading.witnessed = false := by
  decide +kernel

theorem handingOver_waits : (after (.handover 7) leading).follows 5 = false := by decide +kernel

/-- Refutes O37: a dispatch marks every capsule at the place of its own, so the `PUT` counts as a writer that is not resolved, and the handover
waits for it. -/
theorem not_mirrorControlTakesEffect : ¬ Obligations.MirrorControlTakesEffect := by
  intro ⟨_, _, _, _, _, h, _⟩
  obtain ⟨hready, hblock, hop, hall, hns, hcovered, halone⟩ := handingOver_ready
  obtain ⟨t, ht, -, -, hf⟩ := h (at_ leading) 7 handingOver [5] hready hblock hop (.inl hall) hns
  have hf5 := hf hcovered halone 5 List.mem_cons_self
  rw [after_eq ht, handingOver_waits] at hf5
  cases hf5

end Sys2Proof.Machine.Corner
end

section
/-! `ATTEST`: the identity, the measurements and the credentials (R378 to R383). -/

namespace Sys2Proof.Machine

/-! ### The sessions that a deleted credential leaves -/

/-- Every session of a later state is one of an earlier one, with its tenant. -/
def KeepsTenants (d e : Dev) : Prop := ∀ y ∈ e.net.sessions, ∃ z ∈ d.net.sessions, z.sid = y.sid ∧ z.tenant = y.tenant

theorem KeepsTenants.refl (d : Dev) : KeepsTenants d d := fun y hy => ⟨y, hy, rfl, rfl⟩

theorem KeepsTenants.trans {d e f : Dev} (h : KeepsTenants d e) (g : KeepsTenants e f) : KeepsTenants d f := by
  intro y hy
  obtain ⟨z, hz, hs, ht⟩ := g y hy
  obtain ⟨w, hw, hs', ht'⟩ := h z hz
  exact ⟨w, hw, hs'.trans hs, ht'.trans ht⟩

theorem Touch.keepsTenants {S : List DevPart} {d e : Dev} (h : Touch S d e) (hn : autoParam (.net ∉ S) List.nodup_range'._auto_1) :
    KeepsTenants d e := by
  intro y hy
  obtain ⟨z, hz, he⟩ := Net.mem_sessions_of_steady (h.net hn).symm hy
  exact ⟨z, hz, (congrArg (fun s : Session => s.sid) he :), (congrArg (fun s : Session => s.tenant) he :)⟩

theorem Dev.passDeferred_keepsTenants (d : Dev) (s : Session) : KeepsTenants d (d.passDeferred s) := by
  unfold Dev.passDeferred
  split
  · exact .refl d
  · intro y hy
    obtain ⟨z, hz, rfl⟩ := List.mem_map.mp hy
    exact ⟨z, hz, by split <;> exact ⟨rfl, rfl⟩⟩

theorem Dev.removeSession_keepsTenants (d : Dev) (s : Session) : KeepsTenants d (d.removeSession s) := by
  unfold Dev.removeSession
  extract_lets d0 unseq n q
  have h0 : KeepsTenants d d0 := (d.passDeferred_keepsTenants s).trans (Dev.squashEnded_touch ..).keepsTenants
  exact h0.trans fun y hy => ⟨y, (List.mem_filter.mp hy).1, rfl, rfl⟩

theorem Dev.endSession_keepsTenants (d : Dev) (sid : BitVec 32) (cause : Nat) (state : Bool) :
    KeepsTenants d (d.endSession sid cause state) := by
  unfold Dev.endSession
  split
  · exact .refl d
  · next s _ =>
    split
    · extract_lets d1 d2 n d3
      have h1 : KeepsTenants d d1 := by
        unfold d1
        split
        · exact ((d.sendPacket_sent ..).touch []).keepsTenants
        · exact .refl d
      have h2 : KeepsTenants d d2 := h1.trans (d1.removeSession_keepsTenants s)
      have h3 : KeepsTenants d d3 := by
        unfold d3
        split
        · exact h2
        · exact h2
      exact h3.trans (((d3.raise_sent ..).trans (Dev.recomputePools_sent _)).touch []).keepsTenants
    · exact d.removeSession_keepsTenants s

/-- Once every session of a tenant has ended, none is left of it. -/
theorem foldl_endSession_tenant (l : List Session) (tenant : BitVec 32) (cause : Nat) (d : Dev)
    (h : ∀ y ∈ d.net.sessions, y.tenant = tenant → y.sid ∈ l.map (·.sid)) :
    ∀ y ∈ (l.foldl (fun (d : Dev) (s : Session) => d.endSession s.sid cause true) d).net.sessions, y.tenant ≠ tenant := by
  induction l generalizing d with
  | nil => exact fun y hy ht => absurd (h y hy ht) List.not_mem_nil
  | cons s l ih =>
    refine ih _ fun y hy ht => ?_
    obtain ⟨z, hz, hs, hzt⟩ := d.endSession_keepsTenants s.sid cause true y hy
    have hm := h z hz (hzt.trans ht)
    rw [hs, List.map_cons, List.mem_cons] at hm
    exact hm.resolve_left (d.endSession_gone s.sid cause true y hy)

/-! ### The ops -/

theorem Dev.dispatchAs_attestCheck (d : Dev) (c : Cap) (cls : Nat) (x : Cap) : (d.dispatchAs c cls).attestCheck x = d.attestCheck x :=
  Dev.dispatchAs_congr (Dev.attestCheck · x) d c cls (fun _ _ _ _ _ _ _ _ => rfl)

theorem Dev.dispatchAs_cred? (d : Dev) (c : Cap) (cls : Nat) (id : BitVec 32) : (d.dispatchAs c cls).cred? id = d.cred? id :=
  Dev.dispatchAs_congr (Dev.cred? · id) d c cls (fun _ _ _ _ _ _ _ _ => rfl)

/-- An op of `ATTEST` on a block that is admitted runs on the dispatched capsule. -/
theorem ready.attests {d : Dev} {seq : Nat} {c : Cap} {n : Nat} (h : ready d seq Op.attest c) (hk : d.attestCheck c = none) (ho : c.aOp = n)
    {f : Cap → Dev → Dev} (hf : ∀ e : Dev, e.attestCheck c.sent = none → c.sent.aOp = n → attestGo c.sent e = f c.sent e) :
    d.admin seq Op.attest (opIs attestOps n) attestGo = f c.sent (d.dispatchAs c c.cls) := by
  rw [Dev.admin_ready h (opIs_self ho)]
  exact hf _ ((d.dispatchAs_attestCheck c c.cls c.sent).trans hk) ho

/-- `ATTEST` executes an admitted op. -/
theorem attestGo_ops (c : Cap) (d : Dev) (hk : d.attestCheck c = none) :
    (c.aOp = 1 → attestGo c d = d.attestChain c) ∧ (c.aOp = 2 → attestGo c d = d.attestMeasure c) ∧
      (c.aOp = 3 → attestGo c d = d.credStage c) ∧ (c.aOp = 4 → attestGo c d = d.credActivate c) ∧
      (c.aOp = 5 → attestGo c d = d.credDelete c) ∧ (c.aOp = 6 → attestGo c d = d.credListOp c) ∧
      (c.aOp = 7 → attestGo c d = d.authoritySetOp c) := by
  unfold attestGo
  rw [Dev.check_none hk]
  refine ⟨?_, ?_, ?_, ?_, ?_, ?_, ?_⟩ <;> intro ho <;> simp only [ho]

theorem chain_answers (s : State) (seq : Nat) (c : Cap) (h : ready s.dev seq Op.attest c) (hk : s.dev.attestCheck c = none) (ho : c.aOp = 1) :
    ∃ t, exec (.chain seq) s = .next t ∧ answered s.dev t.dev c Status.ok 0 Config.identityChain := by
  have he : chainEff seq s.dev = _ := h.attests hk ho (f := fun c d => d.attestChain c) fun e hk ho => (attestGo_ops _ e hk).1 ho
  exact ⟨_, State.run_of_eq he, (h.replied (S := []) (.raise (.refl _ _) ..) (Reply.okData _)).1⟩

theorem measure_answers (s : State) (seq : Nat) (c : Cap) (h : ready s.dev seq Op.attest c) (hk : s.dev.attestCheck c = none) (ho : c.aOp = 2) :
    ∃ t, exec (.measure seq) s = .next t ∧ ∃ sig : BitVec 3072, answered s.dev t.dev c Status.ok 0
      (s.dev.reportHead ((c.value.drop 8).take 32) ++ natToBytesBE 384 sig.toNat) := by
  have he : measureEff seq s.dev = _ := h.attests hk ho (f := fun c d => d.attestMeasure c) fun e hk ho => (attestGo_ops _ e hk).2.1 ho
  have hr : (s.dev.dispatchAs c c.cls).reportHead = s.dev.reportHead :=
    Dev.dispatchAs_congr Dev.reportHead s.dev c c.cls (fun _ _ _ _ _ _ _ _ => rfl)
  refine ⟨_, State.run_of_eq he, Config.identitySign (s.dev.dispatchAs c c.cls).fresh (natToBytesBE 32 (Config.sha256 (atstPrefix ++
    (s.dev.dispatchAs c c.cls).reportHead ((c.value.drop 8).take 32))).toNat), ?_⟩
  rw [← hr]
  exact (h.replied (S := [.fresh]) (.raise (.draw (.refl _ _)) ..) (Reply.okData _)).1

theorem credStage_stages (s : State) (seq : Nat) (c : Cap) (x : Cred) (h : ready s.dev seq Op.attest c) (hk : s.dev.attestCheck c = none)
    (ho : c.aOp = 3) (h0 : c.aCred ≠ 0) (hp : c.aCred ≠ provisioningId) (hx : s.dev.cred? c.aCred = some x)
    (hop : c.aFlag = true → x.operator = true) :
    ∃ t, exec (.credStage seq) s = .next t ∧ (∃ y ∈ t.dev.sec.creds, y.id = c.aCred ∧ y.operator = x.operator ∧ y.active = x.active ∧
      y.staged = some (BitVec.ofNat 256 (c.aPayload.field 0 32)) ∧ y.stagedAt = s.dev.clk.tick) ∧
      answered s.dev t.dev c Status.ok 0 [] := by
  have hid : x.id = c.aCred := by simpa [Dev.cred?] using List.find?_some hx
  have he : credStageEff seq s.dev = (s.dev.dispatchAs c c.cls).stageKey c.sent x := by
    refine (h.attests hk ho (f := fun c d => d.credStage c) fun e hk ho => (attestGo_ops _ e hk).2.2.1 ho).trans ?_
    have hc : (s.dev.dispatchAs c c.cls).cred? c.sent.aCred = some x := (Dev.dispatchAs_cred? ..).trans hx
    unfold Dev.credStage
    simp only [hc]
    rw [if_neg (by simp [Cap.aCred] at h0 hp ⊢; exact ⟨h0, hp⟩), if_neg (by simpa [Cap.aFlag] using hop)]
  let d := s.dev.dispatchAs c c.cls
  let y : Cred := { x with staged := some (BitVec.ofNat 256 (c.aPayload.field 0 32)), stagedAt := d.clk.tick }
  let e := (d.setCreds (fun l => l.filter (fun z => z.id != x.id) ++ [y])).credEvent c.sent x.kind
  obtain ⟨ha, ht⟩ := h.replied (S := [.sec, .life]) (e := e) (.raise (.setSec (.refl _ _) _) ..) (Reply.okData [])
  have hsec : e.sec.creds = d.sec.creds.filter (fun z => z.id != x.id) ++ [y] := congrArg (fun z : Security => z.creds) (Dev.raise_sec ..)
  have hy : y ∈ e.sec.creds := hsec ▸ List.mem_append_right _ List.mem_cons_self
  refine ⟨_, State.run_of_eq he, ⟨y, (ht.sec (by simp)).symm ▸ hy, hid, rfl, rfl, rfl, ?_⟩, ha⟩
  exact congrArg (fun k : Clock => k.tick) (s.dev.dispatchAs_clk c c.cls)

theorem credActivate_activates (s : State) (seq : Nat) (c : Cap) (x : Cred) (k : BitVec 256) (h : ready s.dev seq Op.attest c)
    (hk : s.dev.attestCheck c = none) (ho : c.aOp = 4) (hx : s.dev.cred? c.aCred = some x) (hs : x.staged = some k) :
    ∃ t, exec (.credActivate seq) s = .next t ∧ (∃ y ∈ t.dev.sec.creds, y.id = c.aCred ∧ y.active = some k ∧ y.staged = none ∧
      y.activated = s.dev.clk.ns) ∧ answered s.dev t.dev c Status.ok 0 [] := by
  have hid : x.id = c.aCred := by simpa [Dev.cred?] using List.find?_some hx
  have hmem : x ∈ s.dev.sec.creds := List.mem_of_find?_eq_some hx
  let d := s.dev.dispatchAs c c.cls
  let y : Cred := { x with active := some k, staged := none, stagedAt := 0, activated := d.clk.ns }
  let e := (d.setCreds (fun l => l.map (fun z => if z.id == x.id then y else z))).credEvent c.sent x.kind
  have he : credActivateEff seq s.dev = e.okWith c.sent [] := by
    refine (h.attests hk ho (f := fun c d => d.credActivate c) fun e hk ho => (attestGo_ops _ e hk).2.2.2.1 ho).trans ?_
    have hc : (s.dev.dispatchAs c c.cls).cred? c.sent.aCred = some x := (Dev.dispatchAs_cred? ..).trans hx
    unfold Dev.credActivate
    simp only [hc, hs]
    rfl
  obtain ⟨ha, ht⟩ := h.replied (S := [.sec, .life]) (e := e) (.raise (.setSec (.refl _ _) _) ..) (Reply.okData [])
  have hd : x ∈ d.sec.creds := by rwa [s.dev.dispatchAs_sec c c.cls]
  have hsec : e.sec.creds = d.sec.creds.map (fun z => if z.id == x.id then y else z) := congrArg (fun z : Security => z.creds) (Dev.raise_sec ..)
  have hy : y ∈ e.sec.creds := hsec ▸ List.mem_map.mpr ⟨x, hd, if_pos (beq_self_eq_true _)⟩
  refine ⟨_, State.run_of_eq he, ⟨y, (ht.sec (by simp)).symm ▸ hy, hid, rfl, rfl, ?_⟩, ha⟩
  exact congrArg (fun k : Clock => k.ns) (s.dev.dispatchAs_clk c c.cls)

theorem credDelete_deletes (s : State) (seq : Nat) (c : Cap) (x : Cred) (h : ready s.dev seq Op.attest c) (hk : s.dev.attestCheck c = none)
    (ho : c.aOp = 5) (hx : s.dev.cred? c.aCred = some x) (hl : x.operator = true → (s.dev.sec.creds.filter (·.operator)).length ≠ 1) :
    ∃ t, exec (.credDelete seq) s = .next t ∧ (∀ y ∈ t.dev.sec.creds, y.id ≠ c.aCred) ∧
      (∀ y ∈ t.dev.net.sessions, y.tenant ≠ c.aCred) ∧ answered s.dev t.dev c Status.ok 0 [] := by
  have hid : x.id = c.aCred := by simpa [Dev.cred?] using List.find?_some hx
  let d := s.dev.dispatchAs c c.cls
  let e := (d.setCreds (fun l => l.filter (fun z => z.id != x.id))).credEvent c.sent x.kind
  let f := e.okWith c.sent []
  have he : credDeleteEff seq s.dev = (f.net.sessions.filter (·.tenant == x.id)).foldl (fun (d : Dev) (s : Session) => d.endSession s.sid 9 true) f := by
    refine (h.attests hk ho (f := fun c d => d.credDelete c) fun e hk ho => (attestGo_ops _ e hk).2.2.2.2.1 ho).trans ?_
    have hc : (s.dev.dispatchAs c c.cls).cred? c.sent.aCred = some x := (Dev.dispatchAs_cred? ..).trans hx
    unfold Dev.credDelete
    simp only [hc]
    exact if_neg (by simpa using hl)
  have ha : answered s.dev f c Status.ok 0 [] :=
    (h.awaits.touch (S := [.sec, .life]) (f := e) (.raise (.setSec (.refl _ _) _) ..)).answered h.2.2.2.1 (Reply.okData []) rfl
  have hf : Touch [.que, .net] e f := e.adminReply_touch _ _ h.2.2.2.1
  have hends : Touch [.net, .que, .med, .gale] f ((f.net.sessions.filter (·.tenant == x.id)).foldl
      (fun (d : Dev) (s : Session) => d.endSession s.sid 9 true) f) := Touch.foldl (fun d (s : Session) => d.endSession_touch s.sid 9 true) _ _
  have hsec : e.sec.creds = d.sec.creds.filter (fun z => z.id != x.id) := congrArg (fun z : Security => z.creds) (Dev.raise_sec ..)
  refine ⟨_, State.run_of_eq he, ?_, ?_, (answered_of_touch ha hends).reported⟩
  · rw [Dev.reportMode_sec, hends.sec (by simp), hf.sec (by simp), hsec]
    intro y hy
    simpa [hid] using (List.mem_filter.mp hy).2
  · intro y hy
    obtain ⟨z, hz, -, hzy⟩ := (Dev.reportMode_touch _).keepsTenants (by simp) y hy
    rw [← hzy, ← hid]
    refine foldl_endSession_tenant _ x.id 9 f (fun w hw hwt => ?_) z hz
    exact List.mem_map_of_mem (List.mem_filter.mpr ⟨hw, by simpa using hwt⟩)

theorem credList_answers (s : State) (seq : Nat) (c : Cap) (h : ready s.dev seq Op.attest c) (hk : s.dev.attestCheck c = none)
    (ho : c.aOp = 6) : ∃ t, exec (.credList seq) s = .next t ∧ answered s.dev t.dev c Status.ok 0
      ((s.dev.sec.creds.foldl (fun (l : List Cred) (x : Cred) => insCred x l) []).flatMap Cred.bytes) := by
  have he : credListEff seq s.dev = _ := h.attests hk ho (f := fun c d => d.credListOp c) fun e hk ho => (attestGo_ops _ e hk).2.2.2.2.2.1 ho
  refine ⟨_, State.run_of_eq he, ?_⟩
  rw [← Dev.dispatchAs_sec s.dev c c.cls]
  exact (h.replied (S := []) (.raise (.refl _ _) ..) (Reply.okData _)).1

theorem authoritySet_replaces (s : State) (seq : Nat) (c : Cap) (h : ready s.dev seq Op.attest c) (hk : s.dev.attestCheck c = none)
    (ho : c.aOp = 7) (hn : c.aPayload.drop 4 ≠ []) (hl : (c.aPayload.drop 4).length ≤ 16384) :
    ∃ t, exec (.authoritySet seq) s = .next t ∧ t.dev.sec.authorities = c.aPayload.drop 4 ∧ t.dev.mgmt.conns = [] ∧
      answered s.dev t.dev c Status.ok 0 [] := by
  let d := s.dev.dispatchAs c c.cls
  let e : Dev := { d with sec := { d.sec with authorities := c.aPayload.drop 4 }, mgmt := { d.mgmt with conns := [] } }
  have he : authoritySetEff seq s.dev = (e.credEvent c.sent 0).okWith c.sent [] := by
    refine (h.attests hk ho (f := fun c d => d.authoritySetOp c) fun e hk ho => (attestGo_ops _ e hk).2.2.2.2.2.2 ho).trans ?_
    unfold Dev.authoritySetOp
    exact if_neg (by simp [Cap.aPayload] at hn hl ⊢; omega)
  have h1 : Touch [.sec, .mgmt] d e := by constructor <;> simp [e]
  have h2 : Touch [.sec, .mgmt] d (e.credEvent c.sent 0) := h1.raise ..
  obtain ⟨ha, ht⟩ := h.replied h2 (Reply.okData [])
  have h3 : Touch [.que, .net, .par] e ((e.credEvent c.sent 0).okWith c.sent []).reportMode := .trans (.raise (.refl _ _) ..) ht
  exact ⟨_, State.run_of_eq he, congrArg (fun z : Security => z.authorities) (h3.sec (by simp)),
    (congrArg (fun m : Mgmt => m.conns) (h3.mgmt (by simp)) :), ha⟩

theorem stagedCredExpiry_unstages (s : State) (id : BitVec 32) (x : Cred) (hx : s.dev.cred? id = some x) (hs : x.staged.isSome = true) :
    ∃ t, exec (.stagedCredExpiry id) s = .next t ∧ ∀ y ∈ t.dev.sec.creds, y.id = id → y.staged = none := by
  obtain ⟨k, hk⟩ := Option.isSome_iff_exists.mp hs
  refine ⟨_, State.run_of_eq (f := stagedCredEff id) rfl, ?_⟩
  rw [Dev.reportMode_sec]
  unfold stagedCredEff
  simp only [hx, hk, Dev.raise_sec]
  intro y hy hid
  rcases List.mem_append.mp hy with hu | ho
  · obtain ⟨z, -, rfl⟩ := List.mem_map.mp hu
    rfl
  · simp [hid] at ho

/-- Settles O35: each op runs on the dispatched capsule; every session of a deleted credential is among those that are ended. -/
theorem attestOpsTakeEffect : Obligations.AttestOpsTakeEffect :=
  ⟨chain_answers, measure_answers, credStage_stages, credActivate_activates, credDelete_deletes, credList_answers, authoritySet_replaces,
    stagedCredExpiry_unstages⟩

end Sys2Proof.Machine
end

section
/-! Redfish requests that act, the connections, and the management link (R343 to R345, R350, R421). -/

namespace Sys2Proof.Machine

theorem Dev.reportMode_conns (d : Dev) : d.reportMode.mgmt.conns = d.mgmt.conns :=
  (congrArg (fun m : Mgmt => m.conns) (d.reportMode_touch.mgmt (by simp)) :)

theorem httpsConnect_opens (s : State) (k : CertChain) (hu : s.dev.httpsUp = true) (hn : s.dev.mgmt.conns.length < 16) (ht : k.tlsOk = true)
    (hc : k.certOk = true ∨ s.dev.retired = true) :
    ∃ t, exec (.httpsConnect k) s = .next t ∧ t.dev.mgmt.conns = s.dev.mgmt.conns ++
      [⟨s.dev.mgmt.nextConn, k.certOk && !s.dev.retired, k.digest, none⟩] := by
  refine ⟨_, State.run_of_eq (f := httpsConnectEff k) rfl, ?_⟩
  rw [Dev.reportMode_conns]
  unfold httpsConnectEff
  have hc' : ¬ (!k.certOk && !s.dev.retired) = true := by rcases hc with h | h <;> simp [h]
  rw [if_neg (by simp [hu, hn]), if_neg (by simp [ht]), if_neg hc']

theorem mgmtLink_changes (s : State) (speed : Nat) (hv : s.dev.mgmt.vaneUp = true) :
    (∃ t, exec (.mgmtLinkChange true speed) s = .next t ∧ t.dev.mgmt.linkUp = true ∧ t.dev.mgmt.linkSpeed = speed) ∧
      ∃ t, exec (.mgmtLinkChange false speed) s = .next t ∧ t.dev.mgmt.linkUp = false := by
  have hm (d : Dev) : d.reportMode.mgmt.linkUp = d.mgmt.linkUp ∧ d.reportMode.mgmt.linkSpeed = d.mgmt.linkSpeed :=
    have h := d.reportMode_touch.mgmt (by simp)
    ⟨(congrArg (fun m : Mgmt => m.linkUp) h :), (congrArg (fun m : Mgmt => m.linkSpeed) h :)⟩
  refine ⟨⟨_, State.run_of_eq (f := mgmtLinkEff true speed) rfl, ?_⟩, ⟨_, State.run_of_eq (f := mgmtLinkEff false speed) rfl, ?_⟩⟩
  · rw [(hm _).1, (hm _).2]
    unfold mgmtLinkEff Dev.mgmtUp
    rw [if_neg (by simp [hv]), if_pos rfl]
    extract_lets applies d1 src d2 d3
    have h3 : d3.mgmt.steady = d2.mgmt.steady := ((d2.raise_sent ..).touch []).mgmt (by simp)
    have hup : d3.mgmt.linkUp = true ∧ d3.mgmt.linkSpeed = speed :=
      ⟨(congrArg (fun m : Mgmt => m.linkUp) h3 :), (congrArg (fun m : Mgmt => m.linkSpeed) h3 :)⟩
    clear_value d3
    split
    · exact hup
    · exact hup
  · rw [(hm _).1]
    unfold mgmtLinkEff
    rw [if_neg (by simp [hv]), if_neg Bool.false_ne_true]
    split
    · exact (congrArg (fun m : Mgmt => m.linkUp) (((Dev.raise_sent ..).touch []).mgmt (by simp)) :)
    · next h => simpa using h

theorem Conf.writeHalf_committed (p : Conf) (h g : Nat) (l : List (Nat × Bytes)) : (p.writeHalf h g l).committed = p.committed := by
  unfold Conf.writeHalf
  dsimp only
  split <;> rfl

section
variable {s : State} {c : Nat} {k : HttpConn} (hc : s.dev.mgmt.conns.find? (·.id == c) = some k) (hu : s.dev.httpsUp = true)
  (ha : k.authenticated = true)
include hc hu ha

/-- An authenticated connection's request is served. -/
theorem request_acts (f : HttpConn → Dev → Dev) : s.dev.request c false f = f k s.dev := Dev.request_served hc hu (by simp [ha]) f

theorem chassisPatch_acts (on : Bool) : ∃ t, exec (.chassisPatch c on) s = .next t ∧ t.dev.mgmt.locateLed = on ∧
    emits s.dev t.dev (.http c 200 (Config.redfishBody 2 [on.toNat])) := by
  refine ⟨_, State.run_of_eq (f := chassisPatchEff c on) (request_acts hc hu ha _), ?_, emits_last (List.suffix_refl _) _⟩
  exact (congrArg (fun m : Mgmt => m.locateLed) ((Dev.reportMode_touch _).mgmt (by simp)) :)

theorem fiernPowerWake_acts (hr : s.dev.par.run = .running) (hf : s.dev.pow.failing = none) (hp : s.dev.pow.pwrEn = true)
    (hg : s.dev.pow.rung = .haze ∨ s.dev.pow.rung = .fog) :
    ∃ t, exec (.fiernPowerWake c) s = .next t ∧ t.dev.pow.rung = .clear ∧ emits s.dev t.dev (.http c 200 []) := by
  refine ⟨_, State.run_of_eq (f := fiernPowerWakeEff c) (request_acts hc hu ha _), ?_, emits_last (s.dev.wakeIf_touch 4).out _⟩
  rw [Dev.reportMode_pow]
  exact Dev.wakeIf_rung hr hf hp hg 4

theorem managerPatchDatetime_acts (ns : Nat) (hs : s.dev.clk.source ≠ .ptpLocked) :
    ∃ t, exec (.managerPatchDatetime c ns) s = .next t ∧ (s.dev.clk.ns + 1000000000 < ns → t.dev.clk.ns = ns) ∧
      emits s.dev t.dev (.http c 200 (Config.redfishBody 9 [ns])) := by
  obtain ⟨ht, hn⟩ := Dev.hostTime_taken hs ns
  have he : managerPatchEff c ns s.dev = (s.dev.hostTime ns).2.http c 200 (Config.redfishBody 9 [ns]) := by
    unfold managerPatchEff
    rw [request_acts hc hu ha]
    split
    · next he => rw [he]
    · next he => rw [he] at ht; cases ht
  exact ⟨_, State.run_of_eq he, fun hns => (Dev.reportMode_time _).trans (hn hns), emits_last (s.dev.hostTime_touch ns).out _⟩

theorem ethernetInterfacePatch_acts (l : List (Nat × Bytes)) (hl : l.all (fun e => isAddress e.1 && entryOk e) = true) :
    ∃ t, exec (.ethernetInterfacePatch c l) s = .next t ∧ emits s.dev t.dev (.http c 200 []) ∧
      ∀ e ∈ l, (e.1, e.2, 0) ∈ t.dev.par.committed := by
  have he : ethernetPatchEff c l s.dev = (s.dev.patchAddresses l).http c 200 [] := by
    unfold ethernetPatchEff
    rw [request_acts hc hu ha, if_pos hl]
  refine ⟨_, State.run_of_eq he, emits_last (s.dev.patchAddresses_touch l).out _, fun e hm => ?_⟩
  rw [Dev.reportMode_par]
  show (e.1, e.2, 0) ∈ (s.dev.patchAddresses l).par.committed
  unfold Dev.patchAddresses
  extract_lets src d1
  have hf : Touch [] d1.writeSettings (l.foldl (fun (d : Dev) (x : Nat × Bytes) =>
      (d.raise Ev.paramChange x.1 2 1 0).raise Ev.paramChange x.1 2 2 0) d1.writeSettings) :=
    Touch.foldl (fun d e => .raise (.raise (.refl _ d) ..) ..) _ _
  have hw : d1.writeSettings.par.committed = d1.par.committed := by
    unfold Dev.writeSettings
    extract_lets g es c1 c2
    have h1 : c1.committed = d1.par.committed := Conf.writeHalf_committed ..
    show c2.committed = _
    unfold c2
    split
    · exact (Conf.writeHalf_committed ..).trans h1
    · exact h1
  rw [hf.par (by simp), hw]
  exact List.mem_append_right _ (List.mem_map_of_mem hm)

theorem eventServiceSse_acts (sev : Nat) (src : Option Nat) : ∃ t, exec (.eventServiceSse c sev src) s = .next t ∧
    emits s.dev t.dev (.http c 200 []) ∧ ∃ x ∈ t.dev.mgmt.conns, x.id = c ∧ x.sse = some (sev, src) := by
  refine ⟨_, State.run_of_eq (f := eventSseEff c sev src) (request_acts hc hu ha _), emits_last (List.suffix_refl _) _,
    { k with sse := some (sev, src) }, ?_, by simpa using List.find?_some hc, rfl⟩
  rw [Dev.reportMode_conns]
  exact List.mem_map.mpr ⟨k, List.mem_of_find?_eq_some hc, if_pos (List.find?_some hc)⟩

theorem redfishOtherRequest_acts (r : BadRequest) : ∃ t, exec (.redfishOtherRequest c r) s = .next t ∧
    emits s.dev t.dev (.http c (badRequestStatus r) []) :=
  ⟨_, State.run_of_eq (request_acts hc hu ha _), emits_last (List.suffix_refl _) _⟩

end

/-! ### The push -/

/-- A package that passes is installed. -/
theorem Dev.updVerifyBy_ok {d : Dev} {s : UpdSource} (h : (d.updVerifyBy s).1 = Status.ok) : (d.updVerifyBy s).2.upd.state = 3 := by
  have hbusy : Status.updateBusy ≠ Status.ok := by decide
  have hpart : Status.imageIncomplete ≠ Status.ok := by decide
  have hbad : Status.imageRejected ≠ Status.ok := by decide
  have hfield : Status.badField ≠ Status.ok := by decide
  unfold Dev.updVerifyBy at h ⊢
  dsimp only at h ⊢
  split at h
  · exact absurd h hbusy
  next hl =>
  rw [if_neg hl]
  split at h
  · exact absurd h hpart
  · split at h
    · rw [Dev.raise_upd]
      exact Dev.updProgress_state ..
    · exact absurd h hbad
  · next _ st h3 hst =>
    split at h
    · next hok =>
      rw [if_pos hok]
      exact (Dev.updProgress_state ..).trans h3
    · exact absurd h hbad
  · exact absurd h hfield

theorem Dev.pushChunks_touch (s : UpdSource) (pkg : Bytes) (l : List Nat) (d : Dev) : Touch [.upd] d (d.pushChunks s pkg l).2 := by
  induction l generalizing d with
  | nil => exact .refl _ d
  | cons n l ih =>
    unfold Dev.pushChunks
    have h := d.updChunkBy_touch s (65536 * n) ((pkg.drop (65536 * n)).take (chunkLength pkg n))
    split
    next st d1 he =>
    rw [he] at h
    split
    · exact h.trans (ih d1)
    · exact h

/-- A push that is not immediate: what it changes, and that a package that passes ends installed. -/
theorem Dev.push_installs (d : Dev) (s : UpdSource) (pkg : Bytes) (certOk signatureOk : Bool) :
    d.out <:+ (d.push s pkg false certOk signatureOk).2.out ∧
      ((d.push s pkg false certOk signatureOk).1 = Status.ok → (d.push s pkg false certOk signatureOk).2.upd.state = 3) := by
  unfold Dev.push
  have h1 := (d.updBeginBy_step s (pkg.take 65536) certOk signatureOk).touch.out
  split
  next st d1 he =>
  rw [he] at h1
  split
  · next hn => exact ⟨h1, fun h => absurd h hn⟩
  · have h2 := h1.trans (Dev.pushChunks_touch s pkg ((List.range (pkgChunks pkg)).map (· + 1)) d1).out
    split
    next st d2 he =>
    rw [he] at h2
    split
    · next hn => exact ⟨h2, fun h => absurd h hn⟩
    · have h3 := h2.trans (d2.updVerifyBy_touch s).out
      have hv := d2.updVerifyBy_ok (s := s)
      split
      next st d3 he =>
      rw [he] at h3 hv
      simp only [Bool.not_false, Bool.or_true, if_true]
      exact ⟨h3, hv⟩

theorem multipartPush_acts {s : State} {c : Nat} {k : HttpConn} (hc : s.dev.mgmt.conns.find? (·.id == c) = some k)
    (hu : s.dev.httpsUp = true) (ha : k.authenticated = true) (pkg : Bytes) (certOk signatureOk : Bool) (hr : s.dev.par.run = .running) :
    ∃ t, exec (.multipartHttpPush c pkg false certOk signatureOk) s = .next t ∧
      ((s.dev.push ⟨2, k.digest⟩ pkg false certOk signatureOk).1 = Status.ok → t.dev.upd.state = 3 ∧ emits s.dev t.dev (.http c 202 [])) ∧
      ((s.dev.push ⟨2, k.digest⟩ pkg false certOk signatureOk).1 ≠ Status.ok → ∃ b, emits s.dev t.dev
        (.http c (pushStatus (s.dev.push ⟨2, k.digest⟩ pkg false certOk signatureOk).1) b)) := by
  obtain ⟨hout, hstate⟩ := s.dev.push_installs ⟨2, k.digest⟩ pkg certOk signatureOk
  generalize hp : s.dev.push ⟨2, k.digest⟩ pkg false certOk signatureOk = r at hout hstate
  have he : multipartPushEff c pkg false certOk signatureOk s.dev =
      r.2.http c (pushStatus r.1) (if r.1 == Status.updateBusy then r.2.upd.busyData else []) := by
    unfold multipartPushEff
    rw [request_acts hc hu ha, if_neg (by simp [hr])]
    simp only [hp, Bool.false_eq_true, and_false, if_false]
  refine ⟨_, State.run_of_eq he, fun hok => ⟨?_, ?_⟩, fun _ => ⟨_, emits_last hout _⟩⟩
  · rw [Dev.reportMode_upd]
    exact hstate hok
  · have hb : (if r.1 == Status.updateBusy then r.2.upd.busyData else []) = [] := by rw [hok]; rfl
    have hs : pushStatus r.1 = 202 := by rw [hok]; rfl
    rw [hb, hs]
    exact emits_last hout _

/-- Settles O44: a served request does what it asks for and ends in its answer; a push ends in the status of the last of its steps. -/
theorem redfishRequestsAct : Obligations.RedfishRequestsAct :=
  ⟨httpsConnect_opens, mgmtLink_changes, fun _ _ _ hc hu ha => ⟨chassisPatch_acts hc hu ha, fiernPowerWake_acts hc hu ha,
    managerPatchDatetime_acts hc hu ha, ethernetInterfacePatch_acts hc hu ha, eventServiceSse_acts hc hu ha,
    multipartPush_acts hc hu ha, redfishOtherRequest_acts hc hu ha⟩⟩

end Sys2Proof.Machine
end

section
/-! The programs of the epoch-end records: what a write on the journal stream issues, and what a pass of an item clears (R155, R202). -/

namespace Sys2Proof.Machine

/-! ### The programs under way -/

theorem Dev.governorAdmit_progs (d : Dev) (b : BayNo) : (d.governorAdmit b).med.progs = d.med.progs := by
  unfold Dev.governorAdmit
  split
  · rfl
  · split <;> rfl

theorem Dev.nextOnDies_progs (d : Dev) (o : GovOp) (fuel : Nat) : (d.nextOnDies o fuel).med.progs = d.med.progs := by
  induction fuel generalizing d with
  | zero => rfl
  | succ n ih =>
    unfold Dev.nextOnDies
    split
    · split
      · exact (ih _).trans (d.governorAdmit_progs _)
      · rfl
    · rfl

theorem foldl_nextOnDies_progs (l : List GovOp) (d : Dev) :
    (l.foldl (fun (d : Dev) (o : GovOp) => d.nextOnDies o 4) d).med.progs = d.med.progs := by
  induction l generalizing d with
  | nil => rfl
  | cons o l ih => exact (ih _).trans (d.nextOnDies_progs o 4)

theorem Dev.endOp_progs (d : Dev) (id : Nat) : (d.endOp id).med.progs = d.med.progs := by
  unfold Dev.endOp
  dsimp only
  split
  · rfl
  · exact (foldl_nextOnDies_progs _ _).trans rfl

theorem Dev.issueOp_progs (d : Dev) (o : GovOp) : (d.issueOp o).med.progs = d.med.progs := by
  have hl (e : Dev) : (e.limitEvent o.bay).med = e.med := ((Dev.limitEvent_sent ..).touch []).med (by simp)
  unfold Dev.issueOp
  extract_lets src d1
  split
  · rfl
  · split
    · split
      · rw [hl]
      · rfl
    · rfl

/-- A program of an item has not passed, or is still to be issued. -/
theorem Dev.programming_iff (d : Dev) (w : ProgWhat) : d.programming w = true ↔
    (∃ p ∈ d.med.progs, p.what = w) ∨ ∃ b : BayNo, ∃ x ∈ (d.bays.get b).bands, ∃ y ∈ x.second, y.2 = w := by
  simp [Dev.programming]

/-- Of the items of a kind, a later state programs none that an earlier one did not. -/
def NoNew (P : ProgWhat → Prop) (d e : Dev) : Prop := ∀ w, P w → e.programming w = true → d.programming w = true

theorem NoNew.refl (P : ProgWhat → Prop) (d : Dev) : NoNew P d d := fun _ _ h => h

theorem NoNew.trans {P : ProgWhat → Prop} {d e f : Dev} (h : NoNew P d e) (g : NoNew P e f) : NoNew P d f :=
  fun w hw hf => h w hw (g w hw hf)

theorem NoNew.foldl {α : Type} {P : ProgWhat → Prop} {f : Dev → α → Dev} (h : ∀ d a, NoNew P d (f d a)) (l : List α) (d : Dev) :
    NoNew P d (l.foldl f d) := by
  induction l generalizing d with
  | nil => exact .refl P d
  | cons a l ih => exact (h d a).trans (ih _)

theorem NoNew.ite {P : ProgWhat → Prop} {d e f : Dev} {c : Prop} [Decidable c] (h : c → NoNew P d e) (g : ¬ c → NoNew P d f) :
    NoNew P d (if c then e else f) := by
  split
  · exact h ‹_›
  · exact g ‹_›

/-- What neither adds a program nor an item to a band's open row. -/
theorem NoNew.of_less {P : ProgWhat → Prop} {d e : Dev} (hp : ∀ p ∈ e.med.progs, p ∈ d.med.progs)
    (hb : ∀ b : BayNo, ∀ x ∈ (e.bays.get b).bands, ∀ y ∈ x.second, ∃ z ∈ (d.bays.get b).bands, y ∈ z.second) : NoNew P d e := by
  intro w _ h
  rw [Dev.programming_iff] at h ⊢
  rcases h with ⟨p, hm, hw⟩ | ⟨b, x, hx, y, hy, hw⟩
  · exact .inl ⟨p, hp p hm, hw⟩
  · obtain ⟨z, hz, hyz⟩ := hb b x hx y hy
    exact .inr ⟨b, z, hz, y, hyz, hw⟩

/-- A change of bands that gives no open row an item. -/
theorem Dev.modBay_noNew {P : ProgWhat → Prop} (d : Dev) (b : BayNo) (f : Bay → Bay)
    (hf : ∀ v : Bay, ∀ x ∈ (f v).bands, ∀ y ∈ x.second, ∃ z ∈ v.bands, y ∈ z.second) : NoNew P d (d.modBay b f) := by
  refine .of_less (fun _ h => h) fun i x hx y hy => ?_
  by_cases hi : b = i
  · subst hi
    unfold Dev.modBay at hx
    rw [vector_get_set_self] at hx
    exact hf _ x hx y hy
  · unfold Dev.modBay at hx
    rw [vector_get_set_ne _ hi] at hx
    exact ⟨x, hx, hy⟩

theorem Bay.modBand_second {v : Bay} {group block : Nat} {f : Band → Band} (hf : ∀ x, ∀ y ∈ (f x).second, y ∈ x.second) :
    ∀ x ∈ (v.modBand group block f).bands, ∀ y ∈ x.second, ∃ z ∈ v.bands, y ∈ z.second := by
  intro x hx y hy
  obtain ⟨z, hz, rfl⟩ := List.mem_map.mp hx
  refine ⟨z, hz, ?_⟩
  split at hy
  · exact hf z y hy
  · exact hy

theorem Dev.modBand_noNew {P : ProgWhat → Prop} (d : Dev) (b : BayNo) (group block : Nat) {f : Band → Band}
    (hf : ∀ x, ∀ y ∈ (f x).second, y ∈ x.second) : NoNew P d (d.modBay b (fun v => v.modBand group block f)) :=
  d.modBay_noNew b _ fun _ => Bay.modBand_second hf

/-! ### A write on the journal stream -/

theorem Dev.issueProg_progs (d : Dev) (bay : BayNo) (st : Stream) (die chunks group block page : Nat) (what : ProgWhat) (tries : Nat)
    (tried : List Nat) : (d.issueProg bay st die chunks group block page what tries tried).med.progs =
      d.med.progs ++ [⟨d.med.nextOp, bay, st, group, block, page, die, chunks, what, tries, tried⟩] :=
  Dev.issueOp_progs ..

theorem Dev.issueProg_programming (d : Dev) (bay : BayNo) (st : Stream) (die chunks group block page : Nat) (what : ProgWhat) (tries : Nat)
    (tried : List Nat) {w : ProgWhat} (h : (d.issueProg bay st die chunks group block page what tries tried).programming w = true) :
    w = what ∨ d.programming w = true := by
  have hb := (d.issueProg_touch bay st die chunks group block page what tries tried).bays (by simp)
  rw [Dev.programming_iff, hb, Dev.issueProg_progs] at h
  rw [Dev.programming_iff]
  rcases h with ⟨p, hp, hw⟩ | h
  · rcases List.mem_append.mp hp with hp | hp
    · exact .inr (.inl ⟨p, hp, hw⟩)
    · rw [List.mem_singleton.mp hp] at hw
      exact .inl hw.symm
  · exact .inr (.inr h)

theorem Dev.issueProg_noNew {P : ProgWhat → Prop} (d : Dev) (bay : BayNo) (st : Stream) (die chunks group block page : Nat) {what : ProgWhat}
    (tries : Nat) (tried : List Nat) (hw : ¬ P what) : NoNew P d (d.issueProg bay st die chunks group block page what tries tried) :=
  fun _ hp h => (d.issueProg_programming _ _ _ _ _ _ _ _ _ _ h).resolve_left fun he => hw (he ▸ hp)

theorem Dev.issueRun_noNew {P : ProgWhat → Prop} (d : Dev) (bay : BayNo) (st : Stream) (group block pos n : Nat) {what : ProgWhat}
    (hw : ¬ P what) : NoNew P d (d.issueRun bay st group block pos n what) := by
  unfold Dev.issueRun
  exact NoNew.foldl (fun d i => NoNew.foldl (fun d j => .ite (fun _ => .refl P d) (fun _ => d.issueProg_noNew _ _ _ _ _ _ _ _ _ hw)) _ d) _ d

/-- The second wordlines that are issued were still to be. -/
theorem Dev.issueSecond_noNew {P : ProgWhat → Prop} (d : Dev) (bay : BayNo) (group block row : Nat) :
    NoNew P d (d.issueSecond bay group block row) := by
  unfold Dev.issueSecond
  extract_lets dies
  split
  · exact .refl P d
  · next x hx =>
    have h0 : NoNew P d (d.modBay bay (fun b => b.modBand group block (fun x => { x with second := [] }))) :=
      d.modBand_noNew bay group block fun _ y hy => absurd hy List.not_mem_nil
    refine List.foldlRecOn (motive := fun e => NoNew P d e) x.second _ h0 fun e he y hy w hw h => ?_
    rcases Dev.issueProg_programming _ _ _ _ _ _ _ _ _ _ _ h with rfl | h
    · exact (d.programming_iff y.2).mpr (.inr ⟨bay, x, List.mem_of_find?_eq_some hx, y, hy, rfl⟩)
    · exact he w hw h

/-- An item that is a page of the index. -/
def ProgWhat.isPage (w : ProgWhat) : Prop := ∃ loc, w = .page loc

theorem Dev.issueParity_noNew (d : Dev) (bay : BayNo) (x : Band) (page : Nat) : NoNew ProgWhat.isPage d (d.issueParity bay x page) := by
  unfold Dev.issueParity
  refine NoNew.foldl (fun d i => ?_) _ d
  dsimp only
  split
  · exact .refl _ d
  · exact d.issueProg_noNew _ _ _ _ _ _ _ _ _ nofun

theorem Dev.padRow_noNew (d : Dev) (bay : BayNo) (group block : Nat) : NoNew ProgWhat.isPage d (d.padRow bay group block) := by
  unfold Dev.padRow
  split
  · exact .refl _ d
  · dsimp only
    split
    · exact .refl _ d
    · refine ((d.issueSecond_noNew _ _ _ _).trans (Dev.modBand_noNew _ _ _ _ ?_)).trans (Dev.issueParity_noNew _ _ _ _)
      exact fun _ _ hy => hy

theorem Dev.closeBand_noNew (d : Dev) (bay : BayNo) (group block : Nat) : NoNew ProgWhat.isPage d (d.closeBand bay group block) := by
  unfold Dev.closeBand
  split
  · split
    · exact (d.padRow_noNew _ _ _).trans (Dev.modBand_noNew _ _ _ _ fun _ _ hy => hy)
    · exact .refl _ d
  · exact .refl _ d

theorem Dev.openBand_noNew {P : ProgWhat → Prop} {d e : Dev} {bay : BayNo} {st : Stream} {group : Nat} {sec : Bool} {x : Band}
    (h : d.openBand bay st group sec = some (x, e)) : NoNew P d e := by
  unfold Dev.openBand Dev.openPicked at h
  split at h
  · split at h
    · cases h
    · simp only [Option.some.injEq, Prod.mk.injEq] at h
      obtain ⟨-, rfl⟩ := h
      have hopen (e : Dev) (y : Band) (hy : y.second = []) : NoNew P e (e.modBay bay (fun b => { b with bands := b.bands ++ [y] })) := by
        refine e.modBay_noNew bay _ fun v x hx z hz => ?_
        rcases List.mem_append.mp hx with hx | hx
        · exact ⟨x, hx, hz⟩
        · rw [List.mem_singleton.mp hx, hy] at hz
          exact absurd hz List.not_mem_nil
      refine NoNew.trans ?_ (hopen _ _ rfl)
      split
      · exact .of_less (fun _ h => h) fun _ x hx y hy => ⟨x, hx, hy⟩
      · exact .refl P d
  · cases h

theorem Dev.alloc_noNew {d e : Dev} {bay : BayNo} {st : Stream} {group n block pos : Nat} {item : List (BitVec 12 × BitVec 128)} {freely sec : Bool}
    (h : d.alloc bay st group n item freely sec = some (block, pos, e)) : NoNew ProgWhat.isPage d e := by
  unfold Dev.alloc at h
  split at h
  · cases h
  extract_lets take at h
  have htake (d e : Dev) (x : Band) (h : take d x = some (block, pos, e)) : NoNew ProgWhat.isPage d e := by
    dsimp only [take] at h
    split at h
    · cases h
      exact d.modBand_noNew _ _ _ fun _ _ hy => hy
    · cases h
  split at h
  · next x hx =>
    split at h
    · next r hr =>
      cases h
      exact htake _ _ x hr
    · split at h
      · next y d1 ho => exact ((d.closeBand_noNew _ _ _).trans (Dev.openBand_noNew ho)).trans (htake _ _ y h)
      · cases h
  · split at h
    · next y d1 ho => exact (Dev.openBand_noNew ho).trans (htake _ _ y h)
    · cases h

/-- A write on the journal stream issues no page of the index. -/
theorem Dev.writeOn_noNew (d : Dev) (bays : List BayNo) (group n : Nat) (freely : Bool) {what : Nat → ProgWhat}
    (hw : ∀ l, ¬ (what l).isPage) : NoNew ProgWhat.isPage d (d.writeOn bays .journal group n freely what).2.2 := by
  unfold Dev.writeOn
  extract_lets m
  refine List.foldlRecOn (motive := fun a : List Nat × Bool × Dev => NoNew ProgWhat.isPage d a.2.2) bays _ (.refl _ d) fun a ha bay _ => ?_
  dsimp only
  split
  · next block pos d1 h => exact (ha.trans (Dev.alloc_noNew h)).trans (Dev.issueRun_noNew _ _ _ _ _ _ _ (hw _))
  · exact ha

end Sys2Proof.Machine
end

section
/-! Isobar and Forecast advance: the epochs, the pages, the fingerprints and the speculation windows (R147, R155, R159, R167). -/

namespace Sys2Proof.Machine

/-! ### The pass of an item -/

/-- A fold leaves of each element what its step brings about and the other steps keep, where every step keeps an invariant. -/
theorem foldl_each_inv {α β : Type} {f : β → α → β} {I : β → Prop} {R : α → β → Prop} (hi : ∀ d a, I d → I (f d a))
    (hs : ∀ d a, I d → R a (f d a)) (hk : ∀ d a b, I d → R b d → R b (f d a)) : ∀ (l : List α) (d : β), I d → ∀ a ∈ l, R a (l.foldl f d)
  | a :: l, d, hd, b, hb => by
    rcases List.mem_cons.mp hb with rfl | hb
    · exact (List.foldlRecOn (motive := fun e => I e ∧ R b e) l f ⟨hi d b hd, hs d b hd⟩
        fun e he c _ => ⟨hi e c he.1, hk e c b he.1 he.2⟩).2
    · exact foldl_each_inv hi hs hk l _ (hi d a hd) b hb

theorem foldl_each {α β : Type} {f : β → α → β} {R : α → β → Prop} (hs : ∀ d a, R a (f d a)) (hk : ∀ d a b, R b d → R b (f d a))
    (l : List α) (d : β) : ∀ a ∈ l, R a (l.foldl f d) :=
  foldl_each_inv (I := fun _ => True) (fun _ _ _ => trivial) (fun d a _ => hs d a) (fun d a b _ => hk d a b) l d trivial

/-- Programs and items of open rows only go, and no band is new. -/
structure Fewer (d e : Dev) : Prop where
  progs : ∀ p ∈ e.med.progs, p ∈ d.med.progs
  bands : ∀ b : BayNo, ∀ x ∈ (e.bays.get b).bands, ∃ z ∈ (d.bays.get b).bands, z.group = x.group ∧ z.block = x.block ∧ ∀ y ∈ x.second, y ∈ z.second

theorem Fewer.refl (d : Dev) : Fewer d d := ⟨fun _ h => h, fun _ x h => ⟨x, h, rfl, rfl, fun _ h => h⟩⟩

theorem Fewer.trans {d e f : Dev} (h : Fewer d e) (g : Fewer e f) : Fewer d f where
  progs p hp := h.progs p (g.progs p hp)
  bands b x hx := by
    obtain ⟨y, hy, hg, hb, hs⟩ := g.bands b x hx
    obtain ⟨z, hz, hg', hb', hs'⟩ := h.bands b y hy
    exact ⟨z, hz, hg'.trans hg, hb'.trans hb, fun w hw => hs' w (hs w hw)⟩

theorem Fewer.foldl {α : Type} {f : Dev → α → Dev} (h : ∀ d a, Fewer d (f d a)) (l : List α) (d : Dev) : Fewer d (l.foldl f d) :=
  List.foldlRecOn l f (.refl d) fun e he a _ => he.trans (h e a)

theorem Fewer.noNew {d e : Dev} (h : Fewer d e) (P : ProgWhat → Prop) : NoNew P d e :=
  .of_less h.progs fun b x hx y hy => by
    obtain ⟨z, hz, -, -, hs⟩ := h.bands b x hx
    exact ⟨z, hz, hs y hy⟩

theorem Fewer.programming {d e : Dev} (h : Fewer d e) {w : ProgWhat} (hd : d.programming w = false) : e.programming w = false := by
  by_contra hc
  rw [Bool.not_eq_false] at hc
  exact Bool.noConfusion (hd.symm.trans (h.noNew (fun _ => True) w trivial hc))

theorem Dev.countProgram_fewer (d : Dev) (bay : BayNo) (st : Stream) (n : Nat) : Fewer d (d.countProgram bay st n) where
  progs _ h := h
  bands b x hx := by
    refine ⟨x, ?_, rfl, rfl, fun _ h => h⟩
    unfold Dev.countProgram Dev.modBay at hx
    by_cases hb : bay = b
    · subst hb
      rw [vector_get_set_self] at hx
      exact hx
    · rw [vector_get_set_ne _ hb] at hx
      exact hx

theorem Dev.modBand_fewer (d : Dev) (bay : BayNo) (group block : Nat) {f : Band → Band}
    (hf : ∀ x, (f x).group = x.group ∧ (f x).block = x.block ∧ ∀ y ∈ (f x).second, y ∈ x.second) :
    Fewer d (d.modBay bay (fun v => v.modBand group block f)) where
  progs _ h := h
  bands b x hx := by
    unfold Dev.modBay at hx
    by_cases hb : bay = b
    · subst hb
      rw [vector_get_set_self] at hx
      obtain ⟨z, hz, rfl⟩ := List.mem_map.mp hx
      refine ⟨z, hz, ?_⟩
      split
      · exact ⟨(hf z).1.symm, (hf z).2.1.symm, (hf z).2.2⟩
      · exact ⟨rfl, rfl, fun _ h => h⟩
    · rw [vector_get_set_ne _ hb] at hx
      exact ⟨x, hx, rfl, rfl, fun _ h => h⟩

theorem Dev.modBand_bands (d : Dev) (bay : BayNo) (group block : Nat) (f : Band → Band) :
    ((d.modBay bay (fun v => v.modBand group block f)).bays.get bay).bands =
      (d.bays.get bay).bands.map (fun x => if x.group == group && x.block == block then f x else x) := by
  unfold Dev.modBay
  rw [vector_get_set_self]
  rfl

/-- The program of a mark is over and counted; nothing waits for its item. -/
theorem Dev.passProg_mark (d : Dev) {p : Prog} {l : Nat} (hp : p.what = .mark l) : d.passProg p =
    (Dev.endOp { d with med := { d.med with progs := d.med.progs.filter (·.id != p.id) } } p.id).countProgram p.bay p.stream p.chunks := by
  unfold Dev.passProg
  dsimp only
  rw [hp]
  exact ite_self _

theorem Dev.passProg_mark_progs (d : Dev) {p : Prog} {l : Nat} (hp : p.what = .mark l) :
    (d.passProg p).med.progs = d.med.progs.filter (·.id != p.id) := by
  rw [d.passProg_mark hp]
  exact Dev.endOp_progs ..

theorem Dev.passProg_mark_fewer (d : Dev) {p : Prog} {l : Nat} (hp : p.what = .mark l) : Fewer d (d.passProg p) := by
  rw [d.passProg_mark hp]
  refine Fewer.trans ⟨fun q hq => ?_, fun b x hx => ?_⟩ (Dev.countProgram_fewer ..)
  · rw [Dev.endOp_progs] at hq
    exact List.mem_of_mem_filter hq
  · rw [(Dev.endOp_touch ..).bays (by simp)] at hx
    exact ⟨x, hx, rfl, rfl, fun _ h => h⟩

/-- The places of an item in the open row of a band are programmed. -/
def Dev.passBand (bay : BayNo) (w : ProgWhat) (d : Dev) (x : Band) : Dev :=
  let mine := x.second.filter (·.2 == w)
  if mine.isEmpty then d
  else (d.modBay bay (fun b => b.modBand x.group x.block (fun y => { y with second := y.second.filter (·.2 != w) }))).countProgram
    bay .index (16 * mine.length)

theorem Dev.passItem_eq (d : Dev) (w : ProgWhat) : d.passItem w = (List.finRange 4).foldl
    (fun (d : Dev) (bay : BayNo) => (d.bays.get bay).bands.foldl (Dev.passBand bay w) d)
    ((d.med.progs.filter (·.what == w)).foldl Dev.passProg d) := rfl

theorem Dev.passBand_fewer (bay : BayNo) (w : ProgWhat) (d : Dev) (x : Band) : Fewer d (d.passBand bay w x) := by
  unfold Dev.passBand
  dsimp only
  split
  · exact .refl d
  · refine Fewer.trans (Dev.modBand_fewer _ _ _ _ ?_) (Dev.countProgram_fewer ..)
    exact fun y => ⟨rfl, rfl, fun _ hz => List.mem_of_mem_filter hz⟩

/-- No band at a band's place has an item in its open row. -/
def Free (bay : BayNo) (w : ProgWhat) (x : Band) (d : Dev) : Prop :=
  (∃ y ∈ x.second, y.2 = w) → ∀ z ∈ (d.bays.get bay).bands, z.group = x.group → z.block = x.block → ∀ y ∈ z.second, y.2 ≠ w

theorem Free.fewer {bay : BayNo} {w : ProgWhat} {x : Band} {d e : Dev} (h : Free bay w x d) (g : Fewer d e) : Free bay w x e := by
  intro hx z hz hzg hzb y hy
  obtain ⟨z', hz', hg, hb, hs⟩ := g.bands bay z hz
  exact h hx z' hz' (hg.trans hzg) (hb.trans hzb) y (hs y hy)

theorem Dev.passBand_free (bay : BayNo) (w : ProgWhat) (d : Dev) (x : Band) : Free bay w x (d.passBand bay w x) := by
  intro ⟨y, hy, hyw⟩
  have hne : (x.second.filter (·.2 == w)).isEmpty = false :=
    List.isEmpty_eq_false_iff.mpr (List.ne_nil_of_mem (List.mem_filter.mpr ⟨hy, beq_iff_eq.mpr hyw⟩))
  unfold Dev.passBand
  dsimp only
  rw [if_neg (by rw [hne]; decide)]
  refine Free.fewer (fun _ z hz hzg hzb v hv => ?_) (Dev.countProgram_fewer ..) ⟨y, hy, hyw⟩
  rw [Dev.modBand_bands] at hz
  obtain ⟨u, -, rfl⟩ := List.mem_map.mp hz
  split at hv
  · exact bne_iff_ne.mp (List.mem_filter.mp hv).2
  · next hu =>
    rw [if_neg hu] at hzg hzb
    exact absurd (by simp [hzg, hzb]) hu

/-- The open rows of a bay have no such item. -/
def RowsFree (w : ProgWhat) (bay : BayNo) (d : Dev) : Prop := ∀ z ∈ (d.bays.get bay).bands, ∀ y ∈ z.second, y.2 ≠ w

theorem RowsFree.fewer {w : ProgWhat} {bay : BayNo} {d e : Dev} (h : RowsFree w bay d) (g : Fewer d e) : RowsFree w bay e := by
  intro z hz y hy
  obtain ⟨z', hz', -, -, hs⟩ := g.bands bay z hz
  exact h z' hz' y (hs y hy)

theorem foldl_passBand_free (w : ProgWhat) (d : Dev) (bay : BayNo) : RowsFree w bay ((d.bays.get bay).bands.foldl (Dev.passBand bay w) d) := by
  intro z hz y hy hyw
  obtain ⟨x, hx, hg, hb, hs⟩ := (Fewer.foldl (Dev.passBand_fewer bay w) (d.bays.get bay).bands d).bands bay z hz
  exact foldl_each (R := Free bay w) (Dev.passBand_free bay w) (fun e a b h => h.fewer (e.passBand_fewer bay w a)) _ d x hx ⟨y, hs y hy, hyw⟩ z hz
    hg.symm hb.symm y hy hyw

/-- After the passes of the programs of a mark none of them is left. -/
theorem foldl_passProg_gone {ps : List Prog} {l : Nat} (hw : ∀ p ∈ ps, p.what = .mark l) (d : Dev) :
    ∀ p ∈ ps, ∀ q ∈ (ps.foldl Dev.passProg d).med.progs, q.id ≠ p.id := by
  induction ps generalizing d with
  | nil => exact fun _ h => absurd h List.not_mem_nil
  | cons a ps ih =>
    have hps : ∀ p ∈ ps, p.what = .mark l := fun p hp => hw p (List.mem_cons_of_mem a hp)
    intro p hp q hq
    rcases List.mem_cons.mp hp with rfl | hp
    · have hk : Fewer (d.passProg p) (ps.foldl Dev.passProg (d.passProg p)) :=
        List.foldlRecOn ps _ (.refl _) fun e he b hb => he.trans (e.passProg_mark_fewer (hps b hb))
      have hq' := hk.progs q hq
      rw [d.passProg_mark_progs (hw p List.mem_cons_self)] at hq'
      exact bne_iff_ne.mp (List.mem_filter.mp hq').2
    · exact ih hps _ p hp q hq

/-- After the pass of a mark nothing of it is programmed, and nothing else has begun. -/
theorem Dev.passItem_mark (d : Dev) (l : Nat) : Fewer d (d.passItem (.mark l)) ∧ (d.passItem (.mark l)).programming (.mark l) = false := by
  rw [Dev.passItem_eq]
  generalize hps : d.med.progs.filter (·.what == .mark l) = ps
  have hw : ∀ p ∈ ps, p.what = .mark l := fun p hp => by
    rw [← hps] at hp
    exact beq_iff_eq.mp (List.mem_filter.mp hp).2
  have h1 : Fewer d (ps.foldl Dev.passProg d) :=
    List.foldlRecOn ps _ (.refl d) fun e he p hp => he.trans (e.passProg_mark_fewer (hw p hp))
  have hgone : ∀ q ∈ (ps.foldl Dev.passProg d).med.progs, q.what ≠ .mark l := by
    intro q hq hqw
    have hmem : q ∈ ps := hps ▸ List.mem_filter.mpr ⟨h1.progs q hq, beq_iff_eq.mpr hqw⟩
    exact foldl_passProg_gone hw d q hmem q hq rfl
  generalize ps.foldl Dev.passProg d = e at h1 hgone
  have hstep (d : Dev) (bay : BayNo) : Fewer d ((d.bays.get bay).bands.foldl (Dev.passBand bay (.mark l)) d) :=
    Fewer.foldl (Dev.passBand_fewer bay _) _ d
  have h2 := Fewer.foldl hstep (List.finRange 4) e
  refine ⟨h1.trans h2, Bool.eq_false_iff.mpr fun hp => ?_⟩
  rcases (Dev.programming_iff _ _).mp hp with ⟨p, hm, hpw⟩ | ⟨b, x, hx, y, hy, hyw⟩
  · exact hgone p (h2.progs p hm) hpw
  · exact foldl_each (R := RowsFree (.mark l)) (foldl_passBand_free _) (fun d a b h => h.fewer (hstep d a)) _ e b (List.mem_finRange b) x hx y
      hy hyw

theorem Dev.passItem_mark_idx (d : Dev) (l : Nat) : (d.passItem (.mark l)).idx = d.idx := by
  rw [Dev.passItem_eq]
  have hprog : ((d.med.progs.filter (·.what == .mark l)).foldl Dev.passProg d).idx = d.idx :=
    List.foldlRecOn (motive := fun e : Dev => e.idx = d.idx) _ Dev.passProg rfl fun e he p hp => by
      rw [e.passProg_mark (beq_iff_eq.mp (List.mem_filter.mp hp).2)]
      exact (((Dev.endOp_touch ..).idx (by simp)).trans rfl).trans he
  have hband (bay : BayNo) (e : Dev) (x : Band) : (e.passBand bay (.mark l) x).idx = e.idx := by
    unfold Dev.passBand
    dsimp only
    split <;> rfl
  refine List.foldlRecOn (motive := fun e : Dev => e.idx = d.idx) _ _ hprog fun e he bay _ => ?_
  exact List.foldlRecOn (motive := fun f : Dev => f.idx = d.idx) _ _ he fun f hf x _ => (hband bay f x).trans hf

/-! ### The end of a tail -/

theorem Dev.tailBusy_iff {d : Dev} {t : Tail} (h : d.idx.tail = some t) : d.tailBusy = false ↔
    (∀ p ∈ t.pages ++ d.idx.buckets, d.programming (.page p.pageLoc) = false) ∧ ∀ l ∈ t.snaps, d.programming (.page l) = false := by
  unfold Dev.tailBusy
  rw [h]
  simp [or_imp, forall_and]

/-- A tail whose programs have passed stays so while no page is programmed anew. -/
theorem NoNew.tailBusy {d e : Dev} (h : NoNew ProgWhat.isPage d e) {t u : Tail} (hd : d.idx.tail = some t) (he : e.idx.tail = some u)
    (hp : u.pages = t.pages) (hs : u.snaps = t.snaps) (hb : e.idx.buckets = d.idx.buckets) (hbusy : d.tailBusy = false) : e.tailBusy = false := by
  obtain ⟨h1, h2⟩ := (Dev.tailBusy_iff hd).mp hbusy
  have hkeep (l : Nat) (hl : d.programming (.page l) = false) : e.programming (.page l) = false :=
    Bool.eq_false_iff.mpr fun hc => Bool.noConfusion (hl.symm.trans (h _ ⟨l, rfl⟩ hc))
  rw [Dev.tailBusy_iff he, hp, hs, hb]
  exact ⟨fun p hm => hkeep _ (h1 p hm), fun l hm => hkeep _ (h2 l hm)⟩

/-- A tail whose programs have passed has its epoch-end records written, and stays as it is but for them. -/
theorem Dev.markTail_marked {d : Dev} {t : Tail} (h : d.idx.tail = some t) (hb : d.tailBusy = false) :
    ∃ u, d.markTail.idx.tail = some u ∧ u.epoch = t.epoch ∧ u.ended = true ∧ d.markTail.tailBusy = false := by
  unfold Dev.markTail
  rw [h]
  dsimp only
  split
  · next hc =>
    rw [hb, Bool.or_false] at hc
    exact ⟨t, h, rfl, hc, hb⟩
  · have hidx := (d.writeOn_touch d.serviceBays .journal (t.epoch % 8) 1 true .mark).idx (by simp)
    have hnew := d.writeOn_noNew d.serviceBays (t.epoch % 8) 1 true (what := .mark) (by rintro l ⟨m, hm⟩; cases hm)
    generalize d.writeOn d.serviceBays .journal (t.epoch % 8) 1 true .mark = r at hidx hnew
    refine ⟨_, rfl, rfl, rfl, NoNew.tailBusy (d := d) ?_ h rfl rfl rfl ?_ hb⟩
    · exact hnew
    · exact (congrArg Index.buckets hidx :)

/-- Once the records of a tail have passed, it has ended. -/
theorem foldl_passItem_ended {d : Dev} {t : Tail} (h : d.idx.tail = some t) (ht : t.ended = true) (hb : d.tailBusy = false) :
    (t.ends.foldl (fun (d : Dev) (l : Nat) => d.passItem (.mark l)) d).tailEnded = true ∧
      (t.ends.foldl (fun (d : Dev) (l : Nat) => d.passItem (.mark l)) d).idx.tail = some t := by
  have hidx : (t.ends.foldl (fun (d : Dev) (l : Nat) => d.passItem (.mark l)) d).idx = d.idx :=
    List.foldlRecOn (motive := fun e : Dev => e.idx = d.idx) t.ends _ rfl fun e he l _ => (e.passItem_mark_idx l).trans he
  have hless : Fewer d (t.ends.foldl (fun (d : Dev) (l : Nat) => d.passItem (.mark l)) d) :=
    Fewer.foldl (fun e l => (e.passItem_mark l).1) t.ends d
  have hmarks := foldl_each (R := fun (l : Nat) (e : Dev) => e.programming (.mark l) = false) (f := fun (d : Dev) (l : Nat) => d.passItem (.mark l))
    (fun e l => (e.passItem_mark l).2) (fun e l _ he => (e.passItem_mark l).1.programming he) t.ends d
  generalize t.ends.foldl (fun (d : Dev) (l : Nat) => d.passItem (.mark l)) d = e at hidx hless hmarks
  have he : e.idx.tail = some t := (congrArg Index.tail hidx).trans h
  have hbusy := (hless.noNew ProgWhat.isPage).tailBusy h he rfl rfl (congrArg Index.buckets hidx) hb
  refine ⟨?_, he⟩
  unfold Dev.tailEnded
  rw [he]
  simpa [ht, hbusy] using hmarks

theorem Dev.endTail_ends {d : Dev} {t : Tail} (h : d.idx.tail = some t) : d.endTail.idx.tail = none ∧ d.endTail.idx.endEpoch = t.epoch := by
  unfold Dev.endTail
  split
  · next hn => exact absurd (h.symm.trans hn) (by simp)
  next t' ht =>
  have ht' : t' = t := Option.some.inj (ht.symm.trans h)
  extract_lets bs rs marks left src d1 d2 d3
  have hd1 : d1.idx.tail = none ∧ d1.idx.endEpoch = t'.epoch := ⟨rfl, rfl⟩
  clear_value d1
  have h2 : Touch [.idx, .bays, .fresh] d1 d2 := by
    refine Touch.foldl (fun d b => ?_) _ _
    extract_lets n
    split
    · exact .ite (fun _ => (d.modBay_touch ..).of) (fun _ => .raise (.refl _ d) ..)
    · exact .refl _ d
  have h3 : Touch [.idx, .bays, .fresh] d1 d3 := h2.raise ..
  clear_value d3
  have h4 : Touch [.idx, .bays, .fresh] d1 (if d3.idx.pressure then d3.checkPressure else d3) :=
    .ite (fun _ => h3.next d3.checkPressure_touch) (fun _ => h3)
  obtain ⟨-, hend, hnone⟩ := ((h4.next (Dev.trimPages_touch _)).next (Dev.fpDone_touch _ d)).epochs (by simp)
  exact ⟨hnone hd1.1, (hend.trans hd1.2).trans (congrArg Tail.epoch ht')⟩

/-- The record of a tail whose programs have passed ends it. -/
theorem epochEndRecordDurableEff_ends {d : Dev} {t : Tail} (h : d.idx.tail = some t) (hb : d.tailBusy = false) :
    (epochEndRecordDurableEff d).idx.tail = none ∧ (epochEndRecordDurableEff d).idx.endEpoch = t.epoch := by
  obtain ⟨u, hu, hep, hend, hbusy⟩ := Dev.markTail_marked h hb
  obtain ⟨hended, htail⟩ := foldl_passItem_ended hu hend hbusy
  have he : epochEndRecordDurableEff d =
      (((u.ends.foldl (fun (d : Dev) (l : Nat) => d.passItem (.mark l)) d.markTail).endTail.evacCheck).movesOn).mediaAdvance := by
    unfold epochEndRecordDurableEff
    simp only [hu, hbusy, Bool.false_eq_true, if_false, hended, if_true]
  rw [he]
  generalize u.ends.foldl (fun (d : Dev) (l : Nat) => d.passItem (.mark l)) d.markTail = e at htail
  obtain ⟨hnone, hepoch⟩ := Dev.endTail_ends htail
  have hk : Touch (.cards :: dataParts) e.endTail e.endTail.evacCheck.movesOn.mediaAdvance :=
    .next (.next e.endTail.evacCheck_touch.of (Dev.movesOn_touch _)) (Dev.mediaAdvance_touch _)
  obtain ⟨-, hend', hnone'⟩ := hk.epochs (by simp)
  exact ⟨hnone' hnone, hend'.trans (hepoch.trans hep)⟩

/-! ### The close of a head -/

theorem Dev.snapTail_tail {d : Dev} {t : Tail} (h : d.idx.tail = some t) :
    d.snapTail.idx.head = d.idx.head ∧ ∃ u, d.snapTail.idx.tail = some u ∧ u.epoch = t.epoch := by
  refine ⟨(d.snapTail_touch.epochs (by simp)).1, ?_⟩
  unfold Dev.snapTail
  split
  · next hn => exact absurd (h.symm.trans hn) (by simp)
  · next t' ht =>
    cases h.symm.trans ht
    exact ⟨_, rfl, rfl⟩

/-- A head that closes begins its tail. -/
theorem Dev.closeHead_tail (d : Dev) (all : Bool) :
    (d.closeHead all).idx.head = d.idx.head + 1 ∧ ∃ u, (d.closeHead all).idx.tail = some u ∧ u.epoch = d.idx.head := by
  unfold Dev.closeHead
  extract_lets n d0 set pages made joined rest
  split
  next placed all_ d1 he =>
  extract_lets d2 src d3
  have hidx : d3.snapTail.retryReserved.writeMaps.idx = d3.snapTail.idx :=
    (Touch.next d3.snapTail.retryReserved_touch (Dev.writeMaps_touch _)).idx (by simp)
  obtain ⟨hhead, hu⟩ := Dev.snapTail_tail (d := d3) rfl
  rw [hidx]
  exact ⟨hhead, hu⟩

/-! ### Index pages, fingerprints and windows -/

/-- The first element found is found under a stronger condition that it meets. -/
theorem find?_of_imp {α : Type} {p q : α → Bool} {l : List α} {a : α} (h : l.find? p = some a) (ha : q a = true)
    (hi : ∀ x, q x = true → p x = true) : l.find? q = some a := by
  obtain ⟨-, as, bs, hl, hn⟩ := List.find?_eq_some_iff_append.mp h
  exact List.find?_eq_some_iff_append.mpr ⟨ha, as, bs, hl, fun x hx => by
    have := hn x hx
    simp only [Bool.not_eq_true'] at this ⊢
    exact Bool.eq_false_iff.mpr fun hc => Bool.noConfusion (this.symm.trans (hi x hc))⟩

theorem Dev.mem_modBucket {d : Dev} {n : BitVec 12} {lo : Nat} {b : Bucket} (f : Bucket → Bucket) (h : b ∈ d.idx.buckets) (hn : b.ns = n) (hl : b.lo = lo) :
    f b ∈ (d.modBucket n lo f).idx.buckets :=
  List.mem_map.mpr ⟨b, h, by simp [hn, hl]⟩

theorem Dev.trimPages_few {d : Dev} (h : d.idx.buckets.length ≤ pageCacheMax) : d.trimPages = d := by
  unfold Dev.trimPages
  dsimp only
  refine if_pos (Nat.sub_eq_zero_of_le ((List.length_filter_le _ _).trans h))

theorem Dev.capturePage_noReaders {d : Dev} (h : noReaders d) (n : BitVec 12) (lo hi : Nat) : d.capturePage n lo hi = d := by
  unfold Dev.capturePage
  rw [List.filter_eq_nil_iff.mpr fun c hc => by simp [h c hc]]
  rfl

/-- A page that was being read is cached. -/
theorem Dev.pageCached_cached {d : Dev} {b : Bucket} (hb : b ∈ d.idx.buckets) (hr : noReaders d) (hl : d.idx.buckets.length ≤ pageCacheMax) :
    ∃ y ∈ (d.pageCached b (fun x => { x with twinOnce := none })).idx.buckets, y.ns = b.ns ∧ y.lo = b.lo ∧ y.cached = true ∧ y.reading = false := by
  have he := d.endPageRead_touch b
  have hidx : (d.endPageRead b).idx = (d.modBucket b.ns b.lo (fun x => { x with reading := false, readId := 0, wanted := [] })).idx :=
    (Dev.endOp_touch ..).idx (by simp)
  have hque : (d.endPageRead b).que = d.que := he.que (by simp)
  unfold Dev.pageCached
  extract_lets d1
  have hm : { b with reading := false, readId := 0, wanted := [] } ∈ (d.endPageRead b).idx.buckets := by
    rw [hidx]
    exact Dev.mem_modBucket _ hb rfl rfl
  have hlen : d1.idx.buckets.length ≤ pageCacheMax := by
    simpa [d1, Dev.modBucket, hidx] using hl
  have hm1 := Dev.mem_modBucket (fun x => { { x with twinOnce := none } with cached := true, lastUsed := d.clk.tick }) hm rfl rfl
  rw [Dev.trimPages_few hlen, Dev.capturePage_noReaders (d := d1) (by rw [noReaders, show d1.que = d.que from hque]; exact hr)]
  exact ⟨_, hm1, rfl, rfl, rfl, rfl⟩

/-- A fingerprint column that may be rebuilt is. -/
theorem fpRebuildStepEff_valid {d : Dev} {n : BitVec 12} {lo : BitVec 64} {b : Bucket}
    (hb : d.idx.buckets.find? (fun b => b.ns == n && b.lo == lo.toNat && !b.fpValid) = some b) (ha : d.awake = true)
    (hh : d.homeAbsent b = false) (hl : b.pageLost = false) :
    ∃ y ∈ (fpRebuildStepEff n lo d).idx.buckets, y.ns = n ∧ y.lo = lo.toNat ∧ y.fpValid = true := by
  have hp := List.find?_some hb
  simp only [Bool.and_eq_true, beq_iff_eq] at hp
  obtain ⟨⟨hn, hlo⟩, -⟩ := hp
  have hmem := List.mem_of_find?_eq_some hb
  unfold fpRebuildStepEff
  rw [hb]
  dsimp only
  rw [if_neg (by simp [ha, hh, hl])]
  have hidx : (if b.cached || b.pageLoc = 0 then d else d.countRead b.pageLoc).idx = d.idx := by
    split
    · rfl
    · exact (d.countRead_touch _).idx (by simp)
  generalize (if b.cached || b.pageLoc = 0 then d else d.countRead b.pageLoc) = e at hidx
  rw [(Dev.fpDone_touch _ d).idx (by simp)]
  exact ⟨_, Dev.mem_modBucket (fun x => { x with fpValid := true }) (by rw [hidx]; exact hmem) hn rfl, hn, hlo, rfl⟩

/-- A window that counts from nothing. -/
def SpecWindow.anew (w : SpecWindow) : Prop := w.issued = 0 ∧ w.missed = 0

/-- The windows of a tenant count from nothing once its window has ended, and no tenant is new. -/
theorem Dev.windowEnd_spec {d : Dev} {w x : SpecWindow} (hx : x ∈ (d.windowEnd w).med.spec) :
    x.anew ∨ (x ∈ d.med.spec ∧ x.tenant ≠ w.tenant) := by
  unfold Dev.windowEnd at hx
  extract_lets limit much met next d1 at hx
  have hmed : (if !w.suspended && next then
      (d1.raise Ev.forecastSuspend w.tenant.toNat (1000 * w.missed / w.issued) w.issued 0).bump (.drive .fcSuspended) 1
    else if w.suspended && !next then d1.raise Ev.forecastResume w.tenant.toNat 0 0 0 else d1).med = d1.med :=
    (Touch.ite (S := []) (fun _ => .bump (.raise (.refl _ d1) ..) ..)
      (fun _ => .ite (fun _ => .raise (.refl _ d1) ..) (fun _ => .refl _ d1))).med (by simp)
  rw [hmed] at hx
  obtain ⟨y, hy, rfl⟩ := List.mem_map.mp hx
  split
  · exact .inl ⟨rfl, rfl⟩
  · next ht =>
    refine .inr ⟨?_, fun he => ht (beq_iff_eq.mpr he)⟩
    split at hy
    · exact hy
    · refine (List.mem_append.mp hy).resolve_right fun hm => ht ?_
      rw [List.mem_singleton.mp hm]
      exact beq_self_eq_true _

/-- The tenants whose windows end count from nothing. -/
theorem foldl_windowEnd_anew (l : List SpecWindow) (d : Dev) :
    ∀ x ∈ (l.foldl (fun (d : Dev) (w : SpecWindow) => d.windowEnd w) d).med.spec, x.anew ∨ (x ∈ d.med.spec ∧ x ∉ l) := by
  induction l generalizing d with
  | nil => exact fun x hx => .inr ⟨hx, List.not_mem_nil⟩
  | cons w l ih =>
    intro x hx
    rcases ih _ x hx with h | ⟨hm, hl⟩
    · exact .inl h
    · rcases Dev.windowEnd_spec hm with h | h
      · exact .inl h
      · obtain ⟨hm, hw⟩ := h
        exact .inr ⟨hm, fun hc => (List.mem_cons.mp hc).elim (fun he => hw (congrArg SpecWindow.tenant he)) hl⟩

/-- Settles O14: the programs of a journal write name no page of the index, so a tail whose pages have passed ends with its records. -/
theorem isobarAndForecastAdvance : Obligations.IsobarAndForecastAdvance := by
  unfold Obligations.IsobarAndForecastAdvance
  refine ⟨fun s hrun htail hrung => ?_, fun s x htail hbusy _ => ?_, fun s n lo b hb hr hid hl => ?_, fun s n lo b hb ha hh hl => ?_, fun s hrun => ?_⟩
  · have he : epochHeadCloseEff s.dev = s.dev.closeHead false := by
      unfold epochHeadCloseEff
      exact if_pos (by simp [hrun, htail, hrung])
    refine ⟨_, State.run_of_eq (f := epochHeadCloseEff) rfl, ?_⟩
    rw [Dev.reportMode_idx, he]
    exact s.dev.closeHead_tail false
  · refine ⟨_, State.run_of_eq (f := epochEndRecordDurableEff) rfl, ?_⟩
    rw [Dev.reportMode_idx]
    exact epochEndRecordDurableEff_ends htail hbusy
  · refine ⟨_, State.run_of_eq (f := indexPageReadDoneEff n lo .good) rfl, ?_⟩
    rw [Dev.reportMode_idx]
    have hp := List.find?_some hb
    simp only [Bool.and_eq_true, beq_iff_eq] at hp
    obtain ⟨⟨hn, hlo⟩, hread⟩ := hp
    have hb' : s.dev.idx.buckets.find? (fun b => b.ns == n && b.lo == lo.toNat && b.reading && (b.readId == 0 || s.dev.opRuns b.readId)) = some b := by
      refine find?_of_imp hb (by simp [hn, hlo, hread, hid]) fun x hx => ?_
      exact (Bool.and_eq_true_iff.mp hx).1
    have he : indexPageReadDoneEff n lo .good s.dev = s.dev.pageCached b (fun x => { x with twinOnce := none }) := by
      unfold indexPageReadDoneEff
      rw [hb']
    rw [he]
    obtain ⟨y, hy, hyn, hyl, hc⟩ := Dev.pageCached_cached (List.mem_of_find?_eq_some hb) hr hl
    exact ⟨y, hy, hyn.trans hn, hyl.trans hlo, hc⟩
  · refine ⟨_, State.run_of_eq (f := fpRebuildStepEff n lo) rfl, ?_⟩
    rw [Dev.reportMode_idx]
    exact fpRebuildStepEff_valid hb ha hh hl
  · refine ⟨_, State.run_of_eq (f := forecastWindowEff) rfl, ?_⟩
    rw [Dev.reportMode_med]
    unfold forecastWindowEff
    rw [if_neg (by simp [hrun])]
    intro w hw
    exact (foldl_windowEnd_anew _ _ w hw).resolve_right fun ⟨hm, hn⟩ => hn hm

end Sys2Proof.Machine
end

section
/-! The witness and the lease: what is asked of the witness, and what its answers leave (R300 to R305). -/

namespace Sys2Proof.Machine

/-! ### What is asked of the witness -/

/-- A request that is sent waits for its answer. -/
theorem Dev.witnessSend_requests (d : Dev) (msg : WitMsg) (forced : Bool) :
    ∃ q ∈ (d.witnessSend msg forced).mir.reqs, q.msg = msg ∧ requested d (d.witnessSend msg forced) q :=
  ⟨_, List.mem_append_right _ (List.mem_singleton_self _), rfl, emits_emitOut _ _, _, rfl⟩

/-- A command that sends a request. -/
theorem run_requests {s : State} {f : Dev → Dev} {msg : WitMsg} {forced : Bool} (h : f s.dev = s.dev.witnessSend msg forced) :
    ∃ t, s.run f = .next t ∧ ∃ q ∈ t.dev.mir.reqs, q.msg = msg ∧ requested s.dev t.dev q := by
  refine ⟨_, State.run_of_eq h, ?_⟩
  obtain ⟨q, hq, hm, ha, hb⟩ := s.dev.witnessSend_requests msg forced
  exact ⟨q, by rw [Dev.reportMode_mir]; exact hq, hm, ha.reported, hb⟩

theorem Dev.applyCommitted_none {d : Dev} (h : d.par.committed = []) (p : Nat → Bool) : d.applyCommitted p = d := by
  unfold Dev.applyCommitted
  extract_lets now src d1
  have hnow : now = [] := by
    simp only [now, h]
    rfl
  have hd1 : d1 = d := by
    have hc : d.par.committed.filter (fun e => !p e.1) = d.par.committed := by
      rw [h]
      rfl
    simp only [d1, src, hnow, List.foldl_nil, hc]
  rw [hnow, hd1]
  rfl

theorem leaseRenew_requests {s : State} (hrun : s.dev.par.run = .running) (hs : s.dev.mir.state ≠ .unpaired) (hw : s.dev.witnessed = true)
    (hc : s.dev.par.committed = []) :
    ∃ t, exec .leaseRenewTimer s = .next t ∧ ∃ q ∈ t.dev.mir.reqs, q.msg = .renew ∧ requested s.dev t.dev q := by
  refine run_requests (f := leaseRenewEff) (forced := s.dev.mir.reqs.any (fun q => q.msg == .renew && q.forced)) ?_
  have he : leaseRenewEff s.dev = s.dev.renew := by
    unfold leaseRenewEff
    exact if_pos (by simp [hrun, hs, hw])
  rw [he]
  unfold Dev.renew
  rw [Dev.applyCommitted_none hc]
  exact if_pos hw

theorem claimTimer_requests {s : State} (hs : s.dev.mir.state = .peerLost) (hp : s.dev.pflag P.mirrorAutoClaim = true) (hw : s.dev.witnessed = true)
    (hf : s.dev.mir.followsAny = true) :
    ∃ t, exec .claimTimer s = .next t ∧ ∃ q ∈ t.dev.mir.reqs, q.msg = .claim ∧ requested s.dev t.dev q := by
  refine run_requests (f := claimTimerEff) (forced := false) ?_
  unfold claimTimerEff Dev.autoClaim
  exact if_pos (by simp [hs, hp, hw, hf])

/-- A request is sent again, and its want of an answer reported once a second. -/
def Dev.askAgain (d : Dev) (q : WitReq) : Dev :=
  let d2 := d.emitWitness q
  if (q.tries + 1) % 10 = 0 then d2.raise Ev.witnessUnreachable q.msg.num ((d.clk.tick - q.sentAt) / 1000) 0 0 else d2

theorem Dev.askAgain_sent (d : Dev) (q : WitReq) : Sent d (d.askAgain q) := by
  unfold Dev.askAgain
  dsimp only
  split
  · exact (d.emitWitness_sent q).trans (Dev.raise_sent ..)
  · exact d.emitWitness_sent q

theorem Dev.askAgain_asks (d : Dev) (q : WitReq) : asked d (d.askAgain q) q := by
  have h : asked d (d.emitWitness q) q := emits_emitOut ..
  unfold Dev.askAgain
  dsimp only
  split
  · exact emits.later h (Dev.raise_sent ..).out
  · exact h

/-- Each request that waits is sent again, and counted. -/
theorem witnessRetransmit_asks {s : State} {q : WitReq} (hq : q ∈ s.dev.mir.reqs) :
    ∃ t, exec .witnessRetransmit s = .next t ∧ { q with tries := q.tries + 1 } ∈ t.dev.mir.reqs ∧ asked s.dev t.dev q := by
  let again : List WitReq := s.dev.mir.reqs.map (fun q => { q with tries := q.tries + 1 })
  let d1 : Dev := { s.dev with mir := { s.dev.mir with reqs := again } }
  have he : witnessRetransmitEff s.dev = s.dev.mir.reqs.foldl Dev.askAgain d1 := rfl
  have hsent : Sent d1 (s.dev.mir.reqs.foldl Dev.askAgain d1) :=
    List.foldlRecOn _ _ (Sent.refl d1) fun e h q _ => h.trans (e.askAgain_sent q)
  have hasked := foldl_each_inv (f := Dev.askAgain) (I := fun e => Sent d1 e) (R := fun q e => asked d1 e q) (fun e q h => h.trans (e.askAgain_sent q))
    (fun e q h => ?asks) (fun e q r _ h => emits.later h (e.askAgain_sent q).out) s.dev.mir.reqs d1 (Sent.refl d1) q hq
  case asks =>
    have ha := e.askAgain_asks q
    unfold asked at ha
    rw [Dev.pnum, core_par h.core] at ha
    exact emits.earlier ha h.out
  refine ⟨_, State.run_of_eq he, ?_, emits.reported hasked⟩
  rw [Dev.reportMode_mir, (hsent.touch []).mir (by simp)]
  exact List.mem_map.mpr ⟨q, hq, rfl⟩

/-! ### The states of the mirrored namespaces -/

theorem Dev.modMirror_mirror? (d : Dev) (n k : BitVec 12) {f : MirrorNs → MirrorNs} (hf : ∀ m, (f m).ns = m.ns) :
    (d.modMirror n f).mirror? k = (d.mirror? k).map (fun m => if m.ns == n then f m else m) := by
  unfold Dev.mirror? Dev.modMirror
  rw [List.find?_map]
  congr 2
  funext m
  dsimp only [Function.comp_apply]
  split
  · rw [hf]
  · rfl

theorem Dev.mirror?_ns {d : Dev} {n : BitVec 12} {m : MirrorNs} (h : d.mirror? n = some m) : m.ns = n := by
  have := List.find?_some (p := fun x : MirrorNs => x.ns == n) h
  simpa using this

theorem Dev.mirror?_of_mir {d e : Dev} (h : e.mir = d.mir) (n : BitVec 12) : e.mirror? n = d.mirror? n := by
  unfold Dev.mirror?
  rw [h]

/-- The state that a namespace is put in. -/
theorem Dev.setNsState_mirror? (d : Dev) (n k : BitVec 12) (st : NsState) : (d.setNsState n st).mirror? k =
    (d.mirror? k).map (fun m => if m.ns = n ∧ m.st ≠ st then { m with prev := m.st, st := st } else m) := by
  unfold Dev.setNsState
  cases hk : d.mirror? k with
  | none =>
    split
    · exact hk
    · split
      · exact hk
      · rw [Dev.mirror?_of_mir (((Dev.raise_sent ..).touch []).mir (by simp)), Dev.modMirror_mirror?, hk]
        · rfl
        · exact fun _ => rfl
  | some x =>
    have hx := Dev.mirror?_ns hk
    split
    · next hn =>
      have hne : ¬ (x.ns = n ∧ x.st ≠ st) := fun hc => by
        rw [← hc.1, hx, hk] at hn
        cases hn
      rw [Option.map_some, if_neg hne, hk]
    · next m hm =>
      have hsame (hc : x.ns = n) : m = x := by
        rw [← hc, hx, hk] at hm
        exact (Option.some.inj hm).symm
      split
      · next hst =>
        have hne : ¬ (x.ns = n ∧ x.st ≠ st) := fun hc => hc.2 (hsame hc.1 ▸ hst)
        rw [Option.map_some, if_neg hne, hk]
      · next hst =>
        rw [Dev.mirror?_of_mir (((Dev.raise_sent ..).touch []).mir (by simp)), Dev.modMirror_mirror?, hk, Option.map_some, Option.map_some]
        · by_cases hc : x.ns = n
          · rw [if_pos (beq_iff_eq.mpr hc), if_pos ⟨hc, hsame hc ▸ hst⟩]
          · rw [if_neg (by simpa using hc), if_neg (fun h => hc h.1)]
        · exact fun _ => rfl

theorem Dev.setNsState_st (d : Dev) (n : BitVec 12) (st : NsState) : ∀ m, (d.setNsState n st).mirror? n = some m → m.st = st := by
  intro m hm
  rw [Dev.setNsState_mirror?] at hm
  obtain ⟨x, hx, rfl⟩ := Option.map_eq_some_iff.mp hm
  have hn := Dev.mirror?_ns hx
  by_cases hs : x.st = st
  · rw [if_neg fun h => h.2 hs]
    exact hs
  · rw [if_pos ⟨hn, hs⟩]

/-- The namespaces that are mirrored, and which of them are led, do not depend on their states. -/
def Mirror.roles (m : Mirror) : List (BitVec 12 × Bool) := m.nss.map (fun x => (x.ns, x.lead))

theorem Dev.setNsState_roles (d : Dev) (n : BitVec 12) (st : NsState) : (d.setNsState n st).mir.roles = d.mir.roles := by
  unfold Dev.setNsState
  split
  · rfl
  · split
    · rfl
    · rw [((Dev.raise_sent ..).touch []).mir (by simp)]
      unfold Mirror.roles Dev.modMirror
      rw [List.map_map]
      refine List.map_congr_left fun m _ => ?_
      dsimp only [Function.comp_apply]
      split <;> rfl

/-! ### A lapsed lease -/

theorem Dev.fence_fences (d : Dev) : d.fence.mir.leaseUntil = none ∧ d.fence.mir.fenced = true ∧
    ∀ n m, d.fence.mirror? n = some m → m.lead = true → m.st = .fenced := by
  unfold Dev.fence
  extract_lets ls d0 src d1 d2
  have h0 : d0.mir = d.mir :=
    (Touch.ite (S := [.que, .idx]) (fun _ => .refl _ d) (fun _ => Touch.foldl (fun _ _ => Dev.holdWriters_touch ..) _ d)).mir (by simp)
  have h2 : Touch [.mir, .states] d1 d2 := Touch.foldl (fun _ _ => Dev.setNsState_touch ..) _ _
  have hmir : (d2.raise Ev.fenced ls.length ((d.clk.tick - d.mir.lastGrant) / 1000) 0 0).mir = d2.mir :=
    ((Dev.raise_sent ..).touch []).mir (by simp)
  have hterm := h2.term (by simp)
  simp only [Mirror.term, Prod.mk.injEq] at hterm
  obtain ⟨-, -, -, -, -, -, hlease, hfenced, -⟩ := hterm
  rw [hmir]
  refine ⟨hlease, hfenced, fun n m hm hl => ?_⟩
  have hm2 : d2.mirror? n = some m := by
    unfold Dev.mirror? at hm ⊢
    rwa [hmir] at hm
  have hroles : d2.mir.roles = d.mir.roles := by
    have h1 : d1.mir.roles = d.mir.roles := by
      unfold Mirror.roles
      exact congrArg (fun x : Mirror => x.nss.map (fun x => (x.ns, x.lead))) h0
    exact (List.foldlRecOn (motive := fun e : Dev => e.mir.roles = d1.mir.roles) ls _ rfl fun e he x _ =>
      (e.setNsState_roles x.ns .fenced).trans he).trans h1
  have hmem : (n, true) ∈ d.mir.roles := by
    rw [← hroles]
    refine List.mem_map.mpr ⟨m, List.mem_of_find?_eq_some hm2, ?_⟩
    rw [hl, Dev.mirror?_ns hm2]
  obtain ⟨x, hx, hxe⟩ := List.mem_map.mp hmem
  simp only [Prod.mk.injEq] at hxe
  obtain ⟨hxn, hxl⟩ := hxe
  have heach := foldl_each (R := fun (x : MirrorNs) (e : Dev) => ∀ m, e.mirror? x.ns = some m → m.st = .fenced)
    (f := fun (d : Dev) (m : MirrorNs) => d.setNsState m.ns .fenced) (fun e x => e.setNsState_st x.ns .fenced) (fun e a b hb m hm => by
      rw [Dev.setNsState_mirror?] at hm
      obtain ⟨y, hy, rfl⟩ := Option.map_eq_some_iff.mp hm
      have := hb y hy
      simp [this]) ls d1 x (List.mem_filter.mpr ⟨hx, hxl⟩)
  rw [hxn] at heach
  exact heach m hm2

/-! ### The wait for SOLO -/

theorem Dev.failWaiter_touch (d : Dev) (v : Version) : Touch dataParts d (d.failWaiter v) := by
  unfold Dev.failWaiter
  extract_lets d1
  have h1 : Touch dataParts d d1 := .trans (d.modVer_touch ..).of (Dev.endWait_touch ..).of
  clear_value d1
  refine .trans ?_ (Dev.ripen_touch ..)
  split
  · exact h1.next (d1.finish_touch ..)
  · exact h1

theorem Dev.failWaiters_touch (d : Dev) (n : BitVec 12) : Touch dataParts d (d.failWaiters n) :=
  .trans (Touch.foldl Dev.failWaiter_touch _ _) (Touch.foldl (fun d x => d.freePart_touch x _) _ _)

theorem Dev.freeWaiters_touch (d : Dev) (m : MirrorNs) : Touch dataParts d (d.freeWaiters m) := d.freeSome_touch ..

theorem Dev.soloGo_touch (d : Dev) : Touch dataParts d d.soloGo := by
  unfold Dev.soloGo
  dsimp only
  refine .ite (fun _ => .refl _ d) (fun _ => .raise (Touch.foldl (fun d m => ?_) _ d) ..)
  exact .trans (.next (d.modMirror_touch ..).of (Dev.setNsState_touch ..)) (Dev.freeWaiters_touch ..)

theorem Dev.soloFail_touch (d : Dev) : Touch dataParts d d.soloFail :=
  Touch.foldl (fun d _ => .next (d.failWaiters_touch _) (Dev.modMirror_touch ..)) _ d

theorem Dev.soloOn_touch (d : Dev) : Touch dataParts d d.soloOn := by
  unfold Dev.soloOn
  dsimp only
  exact .ite (fun _ => d.soloGo_touch) (fun _ => d.soloGo_touch.trans (Dev.soloFail_touch _))

theorem Dev.notePeerSolo_touch (d : Dev) (r : WitReply) : Touch [.mir, .states] d (d.notePeerSolo r) :=
  .ite (fun _ => Touch.foldl (fun _ _ => Dev.setNsState_touch ..) _ d) (fun _ => .refl _ d)

/-! ### What the witness answers -/

/-- A granted renewal extends the lease and ends the fence. -/
theorem Dev.unfence_touch (d : Dev) : Touch (.asks :: dataParts) { d with mir := { d.mir with fenced := false } } d.unfence := by
  unfold Dev.unfence
  extract_lets fs src d1 d2
  have h2 : Touch (.asks :: dataParts) d1 d2 := Touch.foldl (fun d m => by
    extract_lets d3
    have h3 : Touch (.asks :: dataParts) d d3 := (d.setNsState_touch ..).of
    exact .ite (fun _ => h3.next (d3.freeWaiters_touch m)) (fun _ => h3)) _ _
  exact .ite (fun _ => h2.next (Dev.askSolo_touch _)) (fun _ => h2)

theorem witnessGrantEff_renews {d : Dev} {r : WitReply} {q : WitReq} (h : d.answered r = some q) (hm : q.msg = .renew) :
    (witnessGrantEff r d).mir.leaseUntil = some (q.sentAt + 900 * r.leaseMs) ∧ (witnessGrantEff r d).mir.fenced = false ∧
      (witnessGrantEff r d).mir.epoch = r.epoch := by
  unfold witnessGrantEff
  rw [h]
  dsimp only
  rw [hm]
  dsimp only
  generalize hd1 : ({ d with mir := { d.mir with reqs := d.mir.reqs.filter (fun x => x.nonce != q.nonce), epoch := r.epoch, epochSeen := max d.mir.epochSeen r.epoch } } : Dev) = d1
  have hepoch : d1.mir.epoch = r.epoch := by rw [← hd1]
  have h2 := (d1.notePeerSolo_touch r).term (by simp)
  simp only [Mirror.term, Prod.mk.injEq] at h2
  obtain ⟨-, -, -, -, he2, -⟩ := h2
  have h3 := ((d1.notePeerSolo r).takeLease q r).unfence_touch.term (by simp)
  simp only [Mirror.term, Prod.mk.injEq] at h3
  obtain ⟨-, -, -, -, he3, -, hl3, hf3, -⟩ := h3
  exact ⟨hl3.trans rfl, hf3.trans rfl, he3.trans (he2.trans hepoch)⟩

theorem Dev.endPromote_asks (d : Dev) (st : BitVec 16) : (d.endPromote st).mir.promote = none ∧ (d.endPromote st).mir.reqs = d.mir.reqs := by
  unfold Dev.endPromote
  split
  · next h => exact ⟨h, rfl⟩
  · extract_lets src d1
    split
    · next c hc =>
      have h := (d1.finishFree_touch c (if st == Status.ok then Reply.okData (d1.mirrorReply c.hdr.ns) else Reply.plain st)).asks (by simp)
      simp only [Mirror.asks, Prod.mk.injEq] at h
      obtain ⟨hp, -, hr⟩ := h
      exact ⟨hp, hr⟩
    · exact ⟨rfl, rfl⟩

theorem Dev.handoverEnd_asks (d : Dev) (st : BitVec 16) : (d.handoverEnd st).mir.handover = none ∧ (d.handoverEnd st).mir.reqs ⊆ d.mir.reqs := by
  unfold Dev.handoverEnd
  split
  · next h => exact ⟨h, fun _ hx => hx⟩
  · extract_lets src d1
    have hsub : d1.mir.reqs ⊆ d.mir.reqs := fun _ hx => List.mem_of_mem_filter hx
    split
    · next c hc =>
      have h := (d1.finishFree_touch c (Reply.plain st)).asks (by simp)
      simp only [Mirror.asks, Prod.mk.injEq] at h
      obtain ⟨-, hh, hr⟩ := h
      exact ⟨hh, hr ▸ hsub⟩
    · exact ⟨rfl, hsub⟩

theorem witnessRefuseEff_ends {d : Dev} {r : WitReply} {q : WitReq} (h : d.answered r = some q) :
    (∀ x ∈ (witnessRefuseEff r d).mir.reqs, x.nonce ≠ q.nonce) ∧ (q.msg = .claim → (witnessRefuseEff r d).mir.promote = none) ∧
      (q.msg = .handover → (witnessRefuseEff r d).mir.handover = none) := by
  unfold witnessRefuseEff
  rw [h]
  dsimp only
  generalize hd1 : ({ d with mir := { d.mir with reqs := d.mir.reqs.filter (fun x => x.nonce != q.nonce) } } : Dev) = d1
  have h1 : ∀ x ∈ d1.mir.reqs, x.nonce ≠ q.nonce := by
    rw [← hd1]
    exact fun x hx => bne_iff_ne.mp (List.mem_filter.mp hx).2
  have ht : Touch [.mir, .states] d1 ((d1.raise Ev.witnessRefused q.msg.num r.reason (r.epoch % 2 ^ 32) 0).notePeerSolo r) :=
    .trans (.raise (.refl _ d1) ..) (Dev.notePeerSolo_touch ..)
  generalize (d1.raise Ev.witnessRefused q.msg.num r.reason (r.epoch % 2 ^ 32) 0).notePeerSolo r = d2 at ht
  have hreqs : d2.mir.reqs = d1.mir.reqs := by
    have := ht.asks (by simp)
    simp only [Mirror.asks, Prod.mk.injEq] at this
    exact this.2.2
  have h2 : ∀ x ∈ d2.mir.reqs, x.nonce ≠ q.nonce := hreqs ▸ h1
  cases q.msg with
  | solo =>
    have hs := d2.soloOn_touch.asks (by simp)
    simp only [Mirror.asks, Prod.mk.injEq] at hs
    exact ⟨hs.2.2 ▸ h2, nofun, nofun⟩
  | claim =>
    obtain ⟨hp, hr⟩ := d2.endPromote_asks Status.unavailable
    exact ⟨hr ▸ h2, fun _ => hp, nofun⟩
  | handover =>
    obtain ⟨hh, hr⟩ := d2.handoverEnd_asks Status.unavailable
    exact ⟨fun x hx => h2 x (hr hx), nofun, fun _ => hh⟩
  | renew => exact ⟨h2, nofun, nofun⟩
  | release => exact ⟨h2, nofun, nofun⟩

/-! ### The end of the wait for SOLO -/

/-- Nothing that is buffered waits. -/
theorem Dev.waiters_nil {d : Dev} (h : d.que.drift = []) (n : BitVec 12) : d.waiters n = [] := by
  unfold Dev.waiters
  rw [h]
  rfl

theorem Dev.freePart_states (d : Dev) (x : Nat × Part) (st : Option (BitVec 16)) : Touch [.idx, .que, .net, .mir] d (d.freePart x st) := by
  unfold Dev.freePart
  extract_lets d1
  have h1 : Touch [.idx, .que, .net, .mir] d d1 := (d.modPart_touch ..).of
  clear_value d1
  split
  · exact .ite (fun _ => h1.next (d1.finishFree_touch ..)) (fun _ => h1)
  · exact h1

/-- Where nothing is buffered, the writers that wait no longer are parts of uploads alone. -/
theorem Dev.freeWaiters_states {d : Dev} (h : d.que.drift = []) (m : MirrorNs) : Touch [.idx, .que, .net, .mir] d (d.freeWaiters m) := by
  unfold Dev.freeWaiters Dev.freeSome
  rw [Dev.waiters_nil h]
  exact Touch.foldl (fun d x => d.freePart_states x none) _ _

theorem Dev.failWaiters_states {d : Dev} (h : d.que.drift = []) (n : BitVec 12) : Touch [.idx, .que, .net, .mir] d (d.failWaiters n) := by
  unfold Dev.failWaiters
  rw [Dev.waiters_nil h]
  exact Touch.foldl (fun d x => d.freePart_states x _) _ _

theorem Touch.drift_nil {S : List DevPart} {d e : Dev} (h : Touch S d e) (hs : .drift ∉ S) (hd : d.que.drift = []) : e.que.drift = [] := by
  refine List.eq_nil_iff_forall_not_mem.mpr fun v hv => ?_
  obtain ⟨w, hw, -⟩ := h.drift hs v hv
  rw [hd] at hw
  exact absurd hw List.not_mem_nil

theorem Dev.modMirror_states (d : Dev) (n : BitVec 12) {f : MirrorNs → MirrorNs} (hf : ∀ m, (f m).brief = m.brief) :
    (d.modMirror n f).mir.states = d.mir.states := by
  unfold Mirror.states Dev.modMirror
  rw [List.map_map]
  refine List.map_congr_left fun m _ => ?_
  dsimp only [Function.comp_apply]
  split
  · exact hf m
  · rfl

theorem Dev.setNsState_states (d : Dev) (n : BitVec 12) (st : NsState) :
    ∀ b ∈ (d.setNsState n st).mir.states, b ∈ d.mir.states ∨ b.2.2.1 = st := by
  unfold Dev.setNsState
  split
  · exact fun b hb => .inl hb
  · split
    · exact fun b hb => .inl hb
    · rw [((Dev.raise_sent ..).touch []).mir (by simp)]
      intro b hb
      obtain ⟨y, hy, rfl⟩ := List.mem_map.mp hb
      obtain ⟨x, hx, rfl⟩ := List.mem_map.mp hy
      split
      · exact .inr rfl
      · exact .inl (List.mem_map.mpr ⟨x, hx, rfl⟩)

theorem Mirror.roles_eq (m : Mirror) : m.roles = m.states.map (fun b => (b.1, b.2.1)) := by
  unfold Mirror.roles Mirror.states
  rw [List.map_map]
  rfl

theorem Dev.mirror?_brief {d e : Dev} (h : e.mir.states = d.mir.states) (n : BitVec 12) :
    (e.mirror? n).map MirrorNs.brief = (d.mirror? n).map MirrorNs.brief := by
  have hf (m : Mirror) : (m.nss.find? (·.ns == n)).map MirrorNs.brief = m.states.find? (·.1 == n) := by
    unfold Mirror.states
    rw [List.find?_map]
    rfl
  unfold Dev.mirror?
  rw [hf, hf, h]

/-- No wait of a namespace led here runs. -/
def Mirror.waited (m : Mirror) : Prop := ∀ b ∈ m.states, b.2.1 = true → b.2.2.1 = .waiting → b.2.2.2 = none

/-- A namespace, where it is mirrored, is SOLO. -/
def Dev.alone (d : Dev) (n : BitVec 12) : Prop := ∀ m, d.mirror? n = some m → m.st = .solo

theorem Dev.alone_of_states {d e : Dev} (h : e.mir.states = d.mir.states) {n : BitVec 12} (ha : d.alone n) : e.alone n := by
  intro m hm
  have hb := Dev.mirror?_brief h n
  rw [hm, Option.map_some] at hb
  obtain ⟨x, hx, hxb⟩ := Option.map_eq_some_iff.mp hb.symm
  have hst : x.st = m.st := congrArg (fun b : BitVec 12 × Bool × NsState × Option Nat => b.2.2.1) hxb
  exact hst.symm.trans (ha x hx)

theorem Dev.setNsState_alone (d : Dev) (n : BitVec 12) {k : BitVec 12} (h : k = n ∨ d.alone k) : (d.setNsState n .solo).alone k := by
  rcases h with rfl | h
  · exact d.setNsState_st k .solo
  · intro m hm
    rw [Dev.setNsState_mirror?] at hm
    obtain ⟨x, hx, rfl⟩ := Option.map_eq_some_iff.mp hm
    rw [if_neg fun hc => hc.2 (h x hx)]
    exact h x hx

/-- What stands while the waits for SOLO end: nothing is buffered, no wait runs, and the roles. -/
structure SoloWait (rs : List (BitVec 12 × Bool)) (d : Dev) : Prop where
  drift : d.que.drift = []
  waited : d.mir.waited
  roles : d.mir.roles = rs

theorem SoloWait.of_states {rs : List (BitVec 12 × Bool)} {d e : Dev} (h : SoloWait rs d) (hs : e.mir.states = d.mir.states)
    (hd : e.que.drift = []) : SoloWait rs e where
  drift := hd
  waited := by
    unfold Mirror.waited
    rw [hs]
    exact h.waited
  roles := by
    rw [Mirror.roles_eq, hs, ← Mirror.roles_eq]
    exact h.roles

/-- A namespace goes on alone. -/
def Dev.soloStep (d : Dev) (m : MirrorNs) : Dev :=
  ((d.modMirror m.ns (fun x => { x with refusedNew := false })).setNsState m.ns .solo).freeWaiters m

theorem Dev.soloStep_wait {rs : List (BitVec 12 × Bool)} {d : Dev} (h : SoloWait rs d) (m : MirrorNs) : SoloWait rs (d.soloStep m) ∧
    ∀ k, k = m.ns ∨ d.alone k → (d.soloStep m).alone k := by
  unfold Dev.soloStep
  generalize he1 : d.modMirror m.ns (fun x => { x with refusedNew := false }) = e1
  have hs1 : e1.mir.states = d.mir.states := he1 ▸ d.modMirror_states m.ns fun _ => rfl
  have h1 : SoloWait rs e1 := h.of_states hs1 (he1 ▸ h.drift)
  have ht := e1.setNsState_touch m.ns .solo
  have h2 : SoloWait rs (e1.setNsState m.ns .solo) := by
    refine ⟨ht.drift_nil (by simp) h1.drift, fun b hb hl hst => ?_, (e1.setNsState_roles m.ns .solo).trans h1.roles⟩
    rcases e1.setNsState_states m.ns .solo b hb with hb | hb
    · exact h1.waited b hb hl hst
    · rw [hb] at hst
      cases hst
  have hf := Dev.freeWaiters_states h2.drift m
  have hs := hf.states (by simp)
  exact ⟨h2.of_states hs (hf.drift_nil (by simp) h2.drift), fun k hk =>
    Dev.alone_of_states hs (e1.setNsState_alone m.ns (hk.imp_right (Dev.alone_of_states hs1)))⟩

/-- The writers of a namespace that nobody acknowledges fail. -/
def Dev.failStep (d : Dev) (m : MirrorNs) : Dev := (d.failWaiters m.ns).modMirror m.ns (fun x => { x with refusedNew := true })

theorem Dev.failStep_states {d : Dev} (h : d.que.drift = []) (m : MirrorNs) :
    (d.failStep m).mir.states = d.mir.states ∧ (d.failStep m).que.drift = [] := by
  have hf := Dev.failWaiters_states h m.ns
  have hs : (d.failStep m).mir.states = (d.failWaiters m.ns).mir.states := by
    unfold Dev.failStep
    exact Dev.modMirror_states _ _ fun _ => rfl
  exact ⟨hs.trans (hf.states (by simp)), hf.drift_nil (by simp) h⟩

theorem Dev.soloFail_wait {rs : List (BitVec 12 × Bool)} {d : Dev} (h : SoloWait rs d) :
    d.soloFail.mir.states = d.mir.states ∧ SoloWait rs d.soloFail := by
  have hf : d.soloFail = (d.mir.led.filter (fun m => m.st == .waiting && !m.soloGranted && m.waitSince.isNone && !m.refusedNew)).foldl
    Dev.failStep d := rfl
  rw [hf]
  have hk := List.foldlRecOn (motive := fun e : Dev => e.mir.states = d.mir.states ∧ e.que.drift = [])
    (d.mir.led.filter (fun m => m.st == .waiting && !m.soloGranted && m.waitSince.isNone && !m.refusedNew)) Dev.failStep ⟨rfl, h.drift⟩
    fun e he m _ => ⟨(Dev.failStep_states he.2 m).1.trans he.1, (Dev.failStep_states he.2 m).2⟩
  exact ⟨hk.1, h.of_states hk.1 hk.2⟩

/-- The namespaces whose wait is over and that a grant covers go on alone. -/
theorem Dev.soloGo_wait {rs : List (BitVec 12 × Bool)} {d : Dev} (h : SoloWait rs d) : SoloWait rs d.soloGo ∧
    ∀ m ∈ d.mir.led, m.st = .waiting → m.soloGranted = true → m.waitSince = none → d.soloGo.alone m.ns := by
  unfold Dev.soloGo
  extract_lets ms d1
  have hmem (m : MirrorNs) (hm : m ∈ d.mir.led) (hst : m.st = .waiting) (hg : m.soloGranted = true) (hw : m.waitSince = none) : m ∈ ms :=
    List.mem_filter.mpr ⟨hm, by simp [hst, hg, hw]⟩
  split
  · next hnil =>
    refine ⟨h, fun m hm hst hg hw => ?_⟩
    have := hmem m hm hst hg hw
    rw [List.isEmpty_iff.mp hnil] at this
    exact absurd this List.not_mem_nil
  · have hd1 : d1 = ms.foldl Dev.soloStep d := rfl
    have hwait : SoloWait rs d1 := hd1 ▸ List.foldlRecOn (motive := SoloWait rs) ms Dev.soloStep h fun e he m _ => (Dev.soloStep_wait he m).1
    have halone := foldl_each_inv (f := Dev.soloStep) (I := SoloWait rs) (R := fun (m : MirrorNs) (e : Dev) => e.alone m.ns)
      (fun e m he => (Dev.soloStep_wait he m).1) (fun e m he => (Dev.soloStep_wait he m).2 m.ns (.inl rfl))
      (fun e m k he hk => (Dev.soloStep_wait he m).2 k.ns (.inr hk)) ms d h
    rw [← hd1] at halone
    have hr : (d1.raise Ev.solo (d.mir.epoch % 2 ^ 32) ms.length 0 0).mir = d1.mir := ((Dev.raise_sent ..).touch []).mir (by simp)
    have hq : (d1.raise Ev.solo (d.mir.epoch % 2 ^ 32) ms.length 0 0).que = d1.que := ((Dev.raise_sent ..).touch []).que (by simp)
    exact ⟨hwait.of_states (congrArg Mirror.states hr) ((congrArg Queue.drift hq).trans hwait.drift), fun m hm hst hg hw =>
      Dev.alone_of_states (congrArg Mirror.states hr) (halone m (hmem m hm hst hg hw))⟩

theorem Dev.soloOn_wait {rs : List (BitVec 12 × Bool)} {d : Dev} (h : SoloWait rs d) : SoloWait rs d.soloOn ∧
    ∀ m ∈ d.mir.led, m.st = .waiting → m.soloGranted = true → m.waitSince = none → d.soloOn.alone m.ns := by
  obtain ⟨hw, ha⟩ := Dev.soloGo_wait h
  unfold Dev.soloOn
  dsimp only
  split
  · exact ⟨hw, ha⟩
  · obtain ⟨hs, hf⟩ := Dev.soloFail_wait hw
    exact ⟨hf, fun m hm hst hg hn => Dev.alone_of_states hs (ha m hm hst hg hn)⟩

/-- The end of a namespace's wait. -/
def MirrorNs.waitOver (m : MirrorNs) : MirrorNs := if m.lead && m.st == .waiting then { m with waitSince := none } else m

theorem soloWaitEff_decides {d : Dev} (h : d.que.drift = []) :
    (∀ m ∈ (soloWaitEff d).mir.nss, m.lead = true → m.st = .waiting → m.waitSince = none) ∧
      ∀ n m, d.mirror? n = some m → m.lead = true → m.st = .waiting → m.soloGranted = true →
        ∃ x, (soloWaitEff d).mirror? n = some x ∧ x.st = .solo := by
  generalize he : ({ d with mir := { d.mir with nss := d.mir.nss.map MirrorNs.waitOver } } : Dev) = e
  have heff : soloWaitEff d = e.soloOn := by
    rw [← he]
    rfl
  have hnss : e.mir.nss = d.mir.nss.map MirrorNs.waitOver := by rw [← he]
  have hwait : SoloWait e.mir.roles e := by
    refine ⟨by rw [← he]; exact h, fun b hb hl hst => ?_, rfl⟩
    obtain ⟨y, hy, rfl⟩ := List.mem_map.mp hb
    rw [hnss] at hy
    obtain ⟨m, -, rfl⟩ := List.mem_map.mp hy
    unfold MirrorNs.waitOver at hl hst ⊢
    by_cases hc : (m.lead && m.st == .waiting) = true
    · rw [if_pos hc]
      rfl
    · rw [if_neg hc] at hl hst
      exact absurd (by simp [show m.lead = true from hl, show m.st = .waiting from hst]) hc
  obtain ⟨hw, ha⟩ := Dev.soloOn_wait hwait
  rw [heff]
  refine ⟨fun m hm hl hst => hw.waited _ (List.mem_map.mpr ⟨m, hm, rfl⟩) hl hst, fun n m hm hl hst hg => ?_⟩
  have hmem : m.waitOver ∈ e.mir.led := by
    refine List.mem_filter.mpr ⟨hnss ▸ List.mem_map.mpr ⟨m, List.mem_of_find?_eq_some hm, rfl⟩, ?_⟩
    simp [MirrorNs.waitOver, hl, hst]
  have hover : m.waitOver = { m with waitSince := none } := if_pos (by simp [hl, hst])
  rw [hover] at hmem
  have halone := ha _ hmem hst hg rfl
  rw [show ({ m with waitSince := none } : MirrorNs).ns = n from (Dev.mirror?_ns hm : m.ns = n)] at halone
  have hrole : (n, true) ∈ e.soloOn.mir.roles := by
    rw [hw.roles]
    refine List.mem_map.mpr ⟨_, (List.mem_filter.mp hmem).1, ?_⟩
    rw [show ({ m with waitSince := none } : MirrorNs).ns = n from (Dev.mirror?_ns hm : m.ns = n)]
    exact congrArg (Prod.mk n) hl
  obtain ⟨y, hy, hyn⟩ := List.mem_map.mp hrole
  have hsome : (e.soloOn.mirror? n).isSome = true := List.find?_isSome.mpr ⟨y, hy, beq_iff_eq.mpr (congrArg Prod.fst hyn)⟩
  obtain ⟨x, hx⟩ := Option.isSome_iff_exists.mp hsome
  exact ⟨x, hx, halone x hx⟩

/-- Settles O38: a request is sent under the state that asks for it, and what a lease or a refusal decides stands, since no writer that
completes after it changes how the pair stands or what waits for the witness. -/
theorem witnessDecides : Obligations.WitnessDecides := by
  unfold Obligations.WitnessDecides
  refine ⟨fun s => leaseRenew_requests, fun s hs hl => ?lease, fun s hd => ?solo, fun s => claimTimer_requests, fun s q => witnessRetransmit_asks,
    fun s r q hq hm => ?grant, fun s r q hq => ?refuse⟩
  case lease =>
    have he : leaseExpiryEff s.dev = s.dev.fence := by
      unfold leaseExpiryEff
      exact if_pos (by simp [hs, hl])
    refine ⟨_, State.run_of_eq he, ?_⟩
    rw [Dev.reportMode_mir]
    obtain ⟨hu, hf, hn⟩ := s.dev.fence_fences
    exact ⟨hu, hf, fun n m hm => hn n m (by rwa [Dev.mirror?_of_mir (Dev.reportMode_mir _)] at hm)⟩
  case solo =>
    refine ⟨_, State.run_of_eq (f := soloWaitEff) rfl, ?_⟩
    rw [Dev.reportMode_mir]
    obtain ⟨hw, ha⟩ := soloWaitEff_decides hd
    exact ⟨hw, fun n m hm hl hst hg => by
      rw [Dev.mirror?_of_mir (Dev.reportMode_mir _)]
      exact ha n m hm hl hst hg⟩
  case grant =>
    refine ⟨_, State.run_of_eq (f := witnessGrantEff r) rfl, ?_⟩
    rw [Dev.reportMode_mir]
    exact witnessGrantEff_renews hq hm
  case refuse =>
    refine ⟨_, State.run_of_eq (f := witnessRefuseEff r) rfl, ?_⟩
    rw [Dev.reportMode_mir]
    exact witnessRefuseEff_ends hq

end Sys2Proof.Machine
end

section
/-! The link of the pair: HELLO, the control frames and their timers (R286 to R288, R299, R307, R313). -/

namespace Sys2Proof.Machine

/-! ### The link comes up -/

theorem Dev.yieldLead_touch (d : Dev) (n : BitVec 12) : Touch dataParts d (d.yieldLead n) := by
  unfold Dev.yieldLead
  split
  · exact .refl _ d
  · next m _ =>
    extract_lets d1 d2
    have h1 : Touch dataParts d d1 := .ite (fun _ => d.failWaiters_touch n) (fun _ => .refl _ d)
    have h2 : Touch dataParts d d2 := .ite (fun _ => h1.trans (Touch.foldl (fun d r => (d.markDirty_touch ..).of) _ _)) (fun _ => h1)
    exact .next (h2.next (Dev.modMirror_touch ..)) (Dev.beginResync_touch ..)

theorem Dev.helloRole_touch (h : CwHello) (d : Dev) (x : BitVec 12 × Nat) : Touch dataParts d (Dev.helloRole h d x) := by
  unfold Dev.helloRole
  split
  · exact .refl _ d
  · exact .ite (fun _ => .ite (fun _ => d.yieldLead_touch _) (fun _ => (d.dirtyAll_touch _).of))
      (fun _ => .ite (fun _ => d.yieldLead_touch _) (fun _ => .refl _ d))

theorem Dev.endPromote_touch (d : Dev) (st : BitVec 16) : Touch [.que, .net, .mir, .asks] d (d.endPromote st) := by
  unfold Dev.endPromote
  split
  · exact .refl _ d
  · extract_lets src d1
    have h1 : Touch [.que, .net, .mir, .asks] d d1 := .setMir (.refl _ d) _ (ht := .inr rfl) (hn := .inr rfl)
    clear_value d1
    split
    · exact h1.next (d1.finishFree_touch ..)
    · exact h1

theorem Dev.returnNs_touch (d : Dev) (m : MirrorNs) : Touch dataParts d (d.returnNs m) := by
  unfold Dev.returnNs
  extract_lets keep gone d1 d2 dirty d3
  have h1 : Touch dataParts d d1 := .next (Touch.foldl (fun d r => (d.markDirty_touch ..).of) _ d) (Dev.modMirror_touch ..)
  have h2 : Touch dataParts d d2 := h1.trans (Touch.foldl (fun d r => (d.markDirty_touch ..).of) _ _)
  have h3 : Touch dataParts d d3 := .ite (fun _ => h2.trans (d2.freeApplied_touch m)) (fun _ => h2.trans (d2.freeWaiters_touch m))
  exact .ite (fun _ => h3.next (Dev.modMirror_touch ..)) (fun _ => .ite
    (fun _ => .ite (fun _ => h3) (fun _ => h3.next (d3.setNsState_touch ..)))
    (fun _ => .ite (fun _ => .ite (fun _ => h3) (fun _ => h3.next (d3.beginResync_touch ..))) (fun _ => h3.next (d3.setNsState_touch ..))))

/-- A HELLO that is complete links the pair with its sender. -/
theorem Dev.link_linked (d : Dev) (h : CwHello) : (d.link h).mir.state = .linked ∧ (d.link h).mir.partnerNode = h.node := by
  unfold Dev.link
  extract_lets m d1 d2 src d3 d4 d5
  have hd1 : d1.mir.state = .linked ∧ d1.mir.partnerNode = h.node := ⟨rfl, rfl⟩
  have ht2 := (Touch.foldl (Dev.helloRole_touch h) h.leads d1).term (by simp)
  have hd3 : d3.mir.state = d2.mir.state ∧ d3.mir.partnerNode = d2.mir.partnerNode := ⟨rfl, rfl⟩
  clear_value d3 d1
  have h4 : Touch (.asks :: dataParts) d3 d4 := .trans (.raise (.refl _ d3) ..) (Dev.endPromote_touch ..).of
  clear_value d4
  have h5 : Touch (.asks :: dataParts) d3 d5 := .trans
    (.ite (fun _ => h4) (fun _ => h4.next (Dev.cwSendRole_touch ..))) (Touch.foldl (fun d m => (d.returnNs_touch m).of) _ _)
  clear_value d5
  have ht6 := (Touch.next (.next (h5.trans (Touch.foldl (fun d (x : MirrorNs) => d.resyncCheck_touch x.ns) d5.mir.led _)) (Dev.releaseSolo_touch _))
    (Dev.cwPump_touch _)).term (by simp)
  simp only [Mirror.term, Prod.mk.injEq] at ht2 ht6
  exact ⟨ht6.1.trans (hd3.1.trans (ht2.1.trans hd1.1)), ht6.2.1.trans (hd3.2.trans (ht2.2.1.trans hd1.2))⟩

/-! ### HELLO again -/

theorem Dev.sendHello_emits {d : Dev} (hu : d.peerUp = true) (hs : d.mir.state ≠ .unpaired) : ∃ b, emits d d.sendHello (.cwHello d.mir.epoch b) := by
  unfold Dev.sendHello
  rw [if_pos (by simp [hu, hs])]
  exact ⟨_, emits.earlier (emits_emitOut _ _)
    (Touch.next (S := [.mir, .fresh]) (.setMir (.draw (.draw (.refl _ d))) _) (Dev.cwBare_touch ..)).out⟩

/-! ### Control frames -/

theorem Dev.cwTakeAck_term (d : Dev) (h : CwHdr) : (d.cwTakeAck h).mir.term = { d.mir with peerCum := max d.mir.peerCum h.cumAck }.term := by
  unfold Dev.cwTakeAck
  extract_lets m one new d1 d2 late src d3
  have h2 : Touch [.mir] d1 d2 := by
    simp only [d2]
    split
    · exact d1.cwSample_touch _
    · exact .refl _ d1
  have h3 : Touch [.mir] d1 d3 := h2.setMir _ (ht := .inr rfl) (ha := .inr rfl) (hn := .inr rfl)
  exact ((h3.sent (d3.emitOuts_sent _)).term (by simp)).trans rfl

/-- What a control frame of the partner brings. -/
theorem Dev.cwTake_term (d : Dev) (h : CwHdr) (b : Bool) : (d.cwTake h b).mir.term =
    { d.mir with lastRx := d.clk.tick, epochSeen := max d.mir.epochSeen h.epoch, hbPeer := max d.mir.hbPeer h.hbSeq,
                 peerCum := max d.mir.peerCum h.cumAck }.term := by
  unfold Dev.cwTake
  extract_lets m echoed d1
  exact (d1.cwTakeAck_term h).trans rfl

/-- A control frame that is new is taken; where no message is held, that is all. -/
theorem cwControlEff_term {d : Dev} {h : CwHdr} (hl : d.linked = true) (hn : d.cwNew h.psn = true) (hh : d.mir.held = []) :
    (cwControlEff h d).mir.term = { d.mir with lastRx := d.clk.tick, epochSeen := max d.mir.epochSeen h.epoch,
                                               hbPeer := max d.mir.hbPeer h.hbSeq, peerCum := max d.mir.peerCum h.cumAck }.term := by
  have hc : (d.cwControl h).mir.term = { d.mir with lastRx := d.clk.tick, epochSeen := max d.mir.epochSeen h.epoch,
                                                    hbPeer := max d.mir.hbPeer h.hbSeq, peerCum := max d.mir.peerCum h.cumAck }.term := by
    unfold Dev.cwControl
    rw [hl, hn]
    dsimp only [Bool.not_true]
    have h1 : Touch [.mir, .states, .idx] (d.cwTake h true) ((d.cwTake h true).cwRecord h.psn 1).cwPump :=
      .trans (Dev.cwRecord_touch ..).of (Dev.cwPump_touch _)
    refine Eq.trans ?_ (d.cwTake_term h true)
    split
    · next hf => cases hf
    · rw [if_pos rfl]
      exact (Touch.ite (fun _ => h1) (fun _ => h1.next (Dev.cwSendAck_touch _))).term (by simp)
  have hd : (d.cwControl h).mir.held = [] := by
    have := congrArg (fun x : PairState × BitVec 16 × Option Nat × Bool × Nat × Nat × Option Nat × Bool × Nat × Nat × Nat × Nat × List CwHeld =>
      x.2.2.2.2.2.2.2.2.2.2.2.2) hc
    exact this.trans hh
  unfold cwControlEff Dev.cwDrain
  rw [hd]
  exact hc

/-! ### The loss of the partner -/

/-- How the pair stands once the loss is declared. -/
theorem Dev.peerLost_term (d : Dev) (cause : Nat) :
    (d.peerLost cause).mir.term = { d.mir with state := .peerLost, lostSince := some d.clk.tick, held := [] }.term := by
  obtain ⟨e, -, he, hs⟩ := d.peerLost_declared cause
  exact (hs.term (by simp)).trans he

/-! ### The lag of an asynchronous namespace -/

theorem asyncLag_warns {s : State} {n : BitVec 12} {m : MirrorNs} {r : RepRec} {rest : List RepRec} (hm : s.dev.mirror? n = some m)
    (hl : m.lead = true) (ha : m.sync = false) (hu : m.unapplied = r :: rest) (hs : settled s.dev) (hr : s.dev.ev.ring.length < 65000) :
    ∃ t, exec (.asyncLagWarn n) s = .next t ∧ (∃ x ∈ t.dev.mir.nss, x.ns = n ∧ x.lagWarned = true) ∧
      (m.lagWarned = false → s.dev.level Ev.asyncLag.src ≤ Ev.asyncLag.sev → logged s.dev t.dev Ev.asyncLag) ∧
      (m.lagWarned = true → t.dev.ev = s.dev.ev) := by
  refine ⟨_, State.run_of_eq (f := asyncLagEff n) rfl, ?_⟩
  have hn := Dev.mirror?_ns hm
  unfold asyncLagEff
  rw [hm]
  dsimp only
  rw [hu]
  dsimp only
  cases hw : m.lagWarned with
  | true =>
    rw [if_neg (by simp), Dev.reportMode_of_settled hs]
    exact ⟨⟨m, List.mem_of_find?_eq_some hm, hn, hw⟩, nofun, fun _ => rfl⟩
  | false =>
    rw [if_pos (by simp [hl, ha])]
    refine ⟨⟨{ m with lagWarned := true }, ?_, hn, rfl⟩, fun _ hlev => ?_, nofun⟩
    · rw [Dev.reportMode_mir, ((Dev.raise_sent ..).touch []).mir (by simp)]
      exact List.mem_map.mpr ⟨m, List.mem_of_find?_eq_some hm, by rw [if_pos (beq_iff_eq.mpr hn)]⟩
    · exact (logged_raise_later (d := s.dev.modMirror n (fun x => { x with lagWarned := true })) hlev (Dev.reportMode_records _)
        (show s.dev.ev.ring.length + (1 + 1) ≤ 65536 by omega) :)

/-- Settles O39: what follows from a HELLO, from a control frame and from a loss changes writers, states and requests, and leaves how the
pair stands. -/
theorem pairLinkIsKept : Obligations.PairLinkIsKept := by
  unfold Obligations.PairLinkIsKept
  refine ⟨fun s h hrun hu hs hf => ?hello, fun s hr hu hs => ?retry, fun s h hl hn hh => ?ack, fun s h hl hn hh => ?beat, fun s hs hu => ?close,
    fun s hl => ?timer, fun s hl => ?loss, fun s n m r rest hm hl ha hu hs hr => asyncLag_warns hm hl ha hu hs hr⟩
  case hello =>
    refine ⟨_, State.run_of_eq (f := fun d => d.hello h) rfl, ?_⟩
    rw [Dev.reportMode_mir]
    unfold Dev.hello
    rw [if_neg (by simp [hrun, hu, hs]), hf]
    exact Dev.link_linked _ h
  case retry =>
    have he : helloRetryEff s.dev = ({ s.dev with mir := { s.dev.mir with helloRetry := false } } : Dev).sendHello := if_pos hr
    refine ⟨_, State.run_of_eq he, ?_, ?_⟩
    · have ht := (Dev.sendHello_touch { s.dev with mir := { s.dev.mir with helloRetry := false } }).term (by simp)
      simp only [Mirror.term, Prod.mk.injEq] at ht
      rw [Dev.reportMode_mir]
      exact ht.2.2.2.1
    · obtain ⟨b, hb⟩ := Dev.sendHello_emits (d := { s.dev with mir := { s.dev.mir with helloRetry := false } }) hu hs
      exact ⟨b, emits.reported hb⟩
  case ack =>
    refine ⟨_, State.run_of_eq (f := cwControlEff h) rfl, ?_⟩
    have ht := cwControlEff_term hl hn hh
    simp only [Mirror.term, Prod.mk.injEq] at ht
    obtain ⟨-, -, -, -, -, hseen, -, -, hrx, -, -, hcum, -⟩ := ht
    rw [Dev.reportMode_mir]
    exact ⟨hrx, hseen, hcum⟩
  case beat =>
    refine ⟨_, State.run_of_eq (f := cwControlEff h) rfl, ?_⟩
    have ht := cwControlEff_term hl hn hh
    simp only [Mirror.term, Prod.mk.injEq] at ht
    obtain ⟨-, -, -, -, -, -, -, -, hrx, hbeat, -⟩ := ht
    rw [Dev.reportMode_mir]
    exact ⟨hrx, hbeat⟩
  case close =>
    refine ⟨_, State.run_of_eq (f := cwCloseEff) rfl, ?_⟩
    rw [Dev.reportMode_mir]
    unfold cwCloseEff
    rw [if_neg (by simp [hs, hu])]
    extract_lets src d1
    split
    · have ht := d1.peerLost_term 2
      simp only [Mirror.term, Prod.mk.injEq] at ht
      obtain ⟨hst, -, -, hretry, -⟩ := ht
      exact ⟨hretry, fun _ => hst⟩
    · next hl => exact ⟨rfl, fun h => absurd h hl⟩
  case timer =>
    have he : heartbeatTimerEff s.dev = s.dev.cwBeat := if_pos hl
    refine ⟨_, State.run_of_eq he, ?_, ?_⟩
    · rw [Dev.reportMode_mir]
      unfold Dev.cwBeat
      extract_lets k keep src d1
      have ht := (d1.cwSend_touch .heartbeat cwCtl [] (.cwHeartbeat k s.dev.mir.hbPeer s.dev.committedOut)).term (by simp)
      simp only [Mirror.term, Prod.mk.injEq] at ht
      obtain ⟨-, -, -, -, -, -, -, -, -, -, hseq, -⟩ := ht
      exact hseq
    · unfold Dev.cwBeat Dev.cwSend
      extract_lets k keep src d1
      exact emits_last (Touch.foldl (S := [.mir]) (fun d i => d.cwFrame_touch ..) _ d1).out _
  case loss =>
    have he : peerLossEff s.dev = s.dev.peerLost 2 := if_pos hl
    refine ⟨_, State.run_of_eq he, ?_⟩
    have ht := s.dev.peerLost_term 2
    simp only [Mirror.term, Prod.mk.injEq] at ht
    obtain ⟨hst, -, hsince, -⟩ := ht
    rw [Dev.reportMode_mir]
    exact ⟨hst, hsince⟩

end Sys2Proof.Machine
end

section
/-! What a controller reset leaves: the wipe's parts, the life cycle and the keys (R388, R435). -/

namespace Sys2Proof.Machine

/-- Where the parameters have not changed, the same change of them keeps the rest as it was. -/
theorem Touch.withPar {S : List DevPart} {d e : Dev} (h : Touch S d e) (hs : autoParam (.par ∉ S) List.nodup_range'._auto_1)
    (f : Conf → Conf) : Touch S { d with par := f d.par } { e with par := f e.par } := by
  have hp : f e.par = f d.par := congrArg f (h.par hs)
  exact { h with
    par := fun _ => hp
    conf := fun _ => congrArg Conf.steady hp
    course := fun _ => congrArg Conf.course hp
    staged := fun _ hn => (congrArg Conf.staged hp).trans hn }

/-- The drive that a controller reset has wiped, as its start takes it up. -/
def Dev.rebooting (d : Dev) (code : Nat) : Dev :=
  { d.wipe with
    par := { d.wipe.par with startKind := 2, startCode := code, run := .running },
    upd := { d.wipe.upd with startReported := false } }

theorem Dev.rebooting_out (d : Dev) (code : Nat) : d.out <:+ (d.rebooting code).out := d.wipe_touch.out

/-- A reset changes of the wiped drive what a start changes, with some parts of the list given. -/
theorem Dev.controllerReset_of {S : List DevPart} (d : Dev) (code : Nat) (hS : startParts ⊆ S)
    (hc : ∀ (e : Dev) (cuts : List (Version × Nat × Nat)), e.sec = d.wipe.sec →
      Touch S { e with par := { e.par with run := .running } } (e.startCore cuts)) :
    Touch S (d.rebooting code) (d.controllerReset code false) := by
  unfold Dev.controllerReset
  extract_lets cuts d1 src1 src2 d2
  have hm := d2.mirrorReset_touch false
  rw [if_neg Bool.false_ne_true]
  exact ((hm.withPar (f := fun p => { p with run := .running })).of (T := startParts)).mono hS |>.trans
    (hc _ _ (hm.sec (by simp)))

theorem Dev.controllerReset_touch (d : Dev) (code : Nat) :
    Touch (.life :: startParts) (d.rebooting code) (d.controllerReset code false) :=
  d.controllerReset_of code (List.subset_cons_self ..) fun e cuts _ => e.startCore_touch cuts

/-- A reset with no transition to complete leaves the life cycle and the keys of the wiped drive. -/
theorem Dev.controllerReset_life (d : Dev) (code : Nat) (h : d.wipe.sec.intent = 0) :
    Touch startParts (d.rebooting code) (d.controllerReset code false) :=
  d.controllerReset_of code (List.Subset.refl _) fun e cuts he => e.startCore_life cuts (by rw [he]; exact h)

/-- After a reset no capsule is left and nothing is staged. -/
theorem Dev.controllerReset_empty (d : Dev) (code : Nat) :
    d.out <:+ (d.controllerReset code false).out ∧ (d.controllerReset code false).que.caps = [] ∧
      (d.controllerReset code false).par.staged = [] := by
  have ht := d.controllerReset_touch code
  exact ⟨(d.rebooting_out code).trans ht.out,
    List.map_eq_nil_iff.mp (List.subset_nil.mp (ht.caps (by simp))), ht.staged (by simp) rfl⟩

/-- What was answered before a reset is answered after it. -/
theorem answered.reset {d e : Dev} {c : Cap} {st : BitVec 16} {v : Nat} {b : Bytes} (h : answered d e c st v b) (code : Nat) :
    answered d (e.controllerReset code false) c st v b := by
  obtain ⟨ho, hc, -⟩ := e.controllerReset_empty code
  exact h.later ho (by rw [hc]; exact List.nil_subset _)

/-- What is answered stays answered past every change that brings no capsule. -/
theorem answered.past {d e f : Dev} {c : Cap} {st : BitVec 16} {v : Nat} {b : Bytes} (h : answered d e c st v b) {S : List DevPart}
    (ht : Touch S e f) (hs : autoParam (.caps ∉ S) List.nodup_range'._auto_1) : answered d f c st v b := by
  refine ⟨h.1.later ht.out, ?_⟩
  rintro x hx ⟨hsid, hstart⟩
  obtain ⟨y, hy, hp⟩ := List.mem_map.mp (ht.caps hs (List.mem_map_of_mem hx))
  simp only [Cap.place, Prod.mk.injEq] at hp
  exact h.2 y hy ⟨hp.1.trans hsid, hp.2.trans hstart⟩

/-! ### Drains -/

/-- A drive that is drained but for a capsule is drained once that capsule is answered. -/
theorem Dev.drained_none {d e : Dev} {seq : Nat} {c : Cap} (h : d.drained (some seq) = true) (hc : ∀ x ∈ d.que.caps, x.seq = seq → x = c)
    (hd : Ages d.que.drift e.que.drift) (he : ∀ x ∈ e.que.caps, x ∈ d.que.caps ∧ x ≠ c) : e.drained none = true := by
  simp only [Dev.drained, Dev.driftOut, Bool.and_eq_true, List.all_eq_true, Bool.or_eq_true, beq_iff_eq] at h ⊢
  obtain ⟨hv, hq⟩ := h
  refine ⟨fun v hv' => ?_, fun x hx => .inl ?_⟩
  · obtain ⟨w, hw, -, hm⟩ := hd v hv'
    exact hm (hv w hw)
  · obtain ⟨hx, hne⟩ := he x hx
    exact (hq x hx).resolve_right fun hs => hne (hc x hx (Option.some.inj hs).symm)

theorem Dev.adminReply_que (d : Dev) (c : Cap) (r : Reply) (h : c.partner = none) : (d.adminReply c r).que = (d.dropCap c).que :=
  (d.finishFree_que c r).trans (d.finish_caps c r h)

/-- Once the capsule dispatched is answered, the capsules left are those beside it, as they were. -/
theorem Dev.mem_answered_caps {d e : Dev} {c x : Cap} {r : Reply} (h : c.partner = none) (hq : e.que = (d.dispatchAs c c.cls).que)
    (hx : x ∈ (e.adminReply c.sent r).que.caps) : x ∈ d.que.caps ∧ x ≠ c := by
  rw [Dev.adminReply_que e c.sent r h] at hx
  have hn : ¬ (x.sid = c.sid ∧ x.start = c.start) := Dev.not_mem_dropCap hx
  replace hx := (List.mem_filter.mp hx).1
  rw [hq, Dev.dispatchAs_caps] at hx
  obtain ⟨y, hy, he⟩ := List.mem_map.mp hx
  split at he
  · next hp =>
    subst he
    exact absurd (by simpa using hp) hn
  · subst he
    refine ⟨hy, ?_⟩
    rintro rfl
    exact hn ⟨rfl, rfl⟩

/-- A drained drive is drained still when the one capsule in the way has been answered. -/
theorem ready.drained {d e : Dev} {seq : Nat} {op : BitVec 16} {c : Cap} (h : Machine.ready d seq op c) (hd : d.drained (some seq) = true)
    (hc : ∀ x ∈ d.que.caps, x.seq = seq → x = c) {S : List DevPart} (ht : Touch S (d.dispatchAs c c.cls) e)
    (hq : autoParam (.que ∉ S) List.nodup_range'._auto_1) (r : Reply) : (e.adminReply c.sent r).drained none = true := by
  have he := ht.que hq
  refine Dev.drained_none hd hc (.of_eq ?_) fun x hx => Dev.mem_answered_caps h.2.2.2.1 he hx
  rw [Dev.adminReply_que _ c.sent r h.2.2.2.1]
  exact (congrArg (fun q : Queue => q.drift) he :).trans (d.dispatchAs_drift c c.cls)

theorem ready.driftOut {d e : Dev} {seq : Nat} {op : BitVec 16} {c : Cap} (h : Machine.ready d seq op c) {S : List DevPart}
    (ht : Touch S (d.dispatchAs c c.cls) e) (hq : autoParam (.que ∉ S) List.nodup_range'._auto_1) (r : Reply) :
    (e.adminReply c.sent r).driftOut = d.driftOut := by
  have he : (e.adminReply c.sent r).que.drift = d.que.drift := by
    rw [Dev.adminReply_que _ c.sent r h.2.2.2.1]
    exact (congrArg (fun q : Queue => q.drift) (ht.que hq) :).trans (d.dispatchAs_drift c c.cls)
  rw [Dev.driftOut, he, Dev.driftOut]

end Sys2Proof.Machine
end

section
/-! The self-test and the staged set: `mode.selftest_run` is written, the set is committed or discarded (R443, R446). -/

namespace Sys2Proof.Machine

/-! ### Entries of the ring past an answer -/

theorem Dev.pumpOne_ev {d e : Dev} {s : Session} (h : d.pumpOne s = some e) : e.ev = d.ev := by
  unfold Dev.pumpOne at h
  split at h
  · exact absurd h (by simp)
  · dsimp only at h
    split at h
    · rw [← Option.some.inj h, Dev.sendPacket_ev]
      cases s.stalledSince <;> rfl
    · exact absurd h (by simp)

theorem Dev.pumpReplies_ev (d : Dev) (sid : BitVec 32) (n : Nat) : (d.pumpReplies sid n).ev = d.ev := by
  induction n generalizing d with
  | zero => rfl
  | succ n ih =>
    unfold Dev.pumpReplies
    split
    · rfl
    · split
      · next e he => exact (ih e).trans (Dev.pumpOne_ev he)
      · rfl

theorem Dev.pump_ev (d : Dev) (sid : BitVec 32) : (d.pump sid).ev = d.ev := by
  unfold Dev.pump
  split
  · rfl
  · exact (Dev.pumpNotices_ev ..).trans (Dev.pumpReplies_ev ..)

theorem Dev.placeBytes_ev (d : Dev) (c : Cap) (r : Reply) : (d.placeBytes c r).ev = d.ev := by
  unfold Dev.placeBytes
  split
  · rfl
  · exact Dev.pump_ev ..

theorem Dev.finish_ev (d : Dev) (c : Cap) (r : Reply) (h : c.partner = none) : (d.finish c r).ev = d.ev := by
  unfold Dev.finish Dev.enterHist
  rw [h]
  dsimp only
  split
  · exact d.placeBytes_ev c r
  · exact d.placeBytes_ev c r

theorem Dev.adminReply_ev (d : Dev) (c : Cap) (r : Reply) (h : c.partner = none) : (d.adminReply c r).ev = d.ev := by
  refine Eq.trans ?_ (d.finish_ev c r h)
  unfold Dev.adminReply Dev.finishFree Dev.freeDir Dev.endCharge
  dsimp only
  split <;> rfl

theorem Dev.scanBlock_one_records (d : Dev) (a : PScan) (i : Nat) (e : PEntry) : Records 1 d (d.scanBlock a i [e]).2 := by
  have hm := d.maint_records .self
  unfold Dev.scanBlock
  split
  · exact (Records.of_ev rfl).mono (by omega)
  · split
    · split <;> next h => rw [h] at hm; exact hm
    · exact (Records.of_ev rfl).mono (by omega)

theorem Dev.level_of_sent {d e : Dev} (h : Sent d e) (src : Nat) : e.level src = d.level src := by
  unfold Dev.level Dev.pnum
  rw [core_par h.core, show e.ev.levels = d.ev.levels from (congrArg (fun v : Events => v.levels) h.ev :)]

/-! ### The self-test -/

theorem setsOne.selftestValue {d : Dev} {c : Cap} {e : PEntry} (h : setsOne d c e) (hi : e.id = P.modeSelftestRun)
    (hv : e.value.toNatBE ≤ 3) : c.selftestValue = e.value.toNatBE := by
  obtain ⟨hl, hn, he, _, _⟩ := h
  unfold Cap.selftestValue
  simp [Nat.not_lt.mpr hl, hn, he, hi, hv]

/-- An entry of `mode.selftest_run` is applied and the image is written. -/
theorem Dev.enterParam_test (d : Dev) {e : PEntry} (hi : e.id = P.modeSelftestRun) (cred : Nat) :
    d.enterParam cred e = ((d.selfTestWrite e.value.toNatBE).raise Ev.paramChange e.id 1 1 cred).writeSettings := by
  have hr : paramRow e.id = some ⟨P.modeSelftestRun, 1, .num 0 3, num8 0⟩ := by rw [hi]; rfl
  have hl : e.live = true := by simp [PEntry.live, hr]
  rw [Dev.enterParam, if_pos hl, Dev.applyEntry, hr, hi]
  rfl

theorem Dev.selfTestEnd_touch (d : Dev) (stopped : Bool) (faults : Nat) :
    Touch [.par, .conf, .course] d (d.selfTestEnd stopped faults) := by
  unfold Dev.selfTestEnd
  split
  · exact .refl _ d
  · exact .raise (.setCourse (.refl _ d) _) ..

theorem Dev.selfTestEnd_par (d : Dev) (stopped : Bool) (faults : Nat) :
    (d.selfTestEnd stopped faults).par = { d.par with selfTest := none } := by
  unfold Dev.selfTestEnd
  split
  · next h => rw [← h]
  · exact Dev.raise_par ..

theorem Dev.selfTestWrite_touch (d : Dev) (v : Nat) : Touch [.par, .conf, .course, .mem, .fresh] d (d.selfTestWrite v) := by
  unfold Dev.selfTestWrite
  refine .ite (fun _ => ?_) (fun _ => .ite (fun _ => ?_) (fun _ => .refl _ d))
  · split
    · exact .next (.draw (.refl _ d)) (Dev.selfTestEnd_touch ..)
    · exact .refl _ d
  · constructor <;> simp

/-- A test that starts is the one of its kind, of the scope in force. -/
theorem Dev.selfTestWrite_starts (d : Dev) {v : Nat} (hv : v = 1 ∨ v = 2) :
    (d.selfTestWrite v).par = { d.par with selfTest := some ⟨v, d.pnum P.modeSelftestScope, d.clk.tick⟩ } := by
  unfold Dev.selfTestWrite
  rw [if_neg (by simp; omega), if_pos (by simpa using hv)]

theorem Dev.selfTestWrite_stops (d : Dev) : (d.selfTestWrite 3).par = { d.par with selfTest := none } := by
  unfold Dev.selfTestWrite
  rw [if_pos (show (3 == 3) = true from rfl)]
  split
  · exact Dev.selfTestEnd_par ..
  · next h => rw [← h]

/-- The end of a test is an event. -/
theorem Dev.selfTestEnd_logged {d e : Dev} (h : d.par.selfTest.isSome = true) {stopped : Bool} {faults n : Nat}
    (hl : d.level Ev.selftestDone.src ≤ Ev.selftestDone.sev) (hr : Records n (d.selfTestEnd stopped faults) e)
    (hn : d.ev.ring.length + (1 + n) ≤ 65536) : logged d e Ev.selftestDone := by
  obtain ⟨t, ht⟩ := Option.isSome_iff_exists.mp h
  unfold Dev.selfTestEnd at hr
  rw [ht] at hr
  exact logged_raise_later (d := { d with par := { d.par with selfTest := none } }) hl hr hn

theorem selftest_writes {s : State} {seq : Nat} {c : Cap} {e : PEntry} (h : ready s.dev seq Op.setParam c) (hk : setsOne s.dev c e)
    (hi : e.id = P.modeSelftestRun) {mine : Cap → Bool} (hm : mine c = true) :
    ∃ x t, Sent (s.dev.dispatchAs c c.cls) x ∧ Records 1 s.dev x ∧ s.run (fun d => d.admin seq Op.setParam mine setParamGo) = .next t ∧
      Records 2 (x.selfTestWrite e.value.toNatBE) t.dev ∧ t.dev.par.staged = (x.selfTestWrite e.value.toNatBE).par.staged ∧
      t.dev.par.selfTest = (x.selfTestWrite e.value.toNatBE).par.selfTest ∧
      answered s.dev t.dev c Status.ok 0 (settingsAnswer ((x.selfTestWrite e.value.toNatBE).par.gen + 1)
        (x.selfTestWrite e.value.toNatBE).par.staged.length) := by
  have hs := (s.dev.dispatchAs c c.cls).scanBlock_one_sent ⟨s.dev.par.values, [], s.dev.par.selfTest.isSome⟩ 0 e
  have hr := (s.dev.dispatchAs c c.cls).scanBlock_one_records ⟨s.dev.par.values, [], s.dev.par.selfTest.isSome⟩ 0 e
  have he := Dev.setParam_ready h hk hm
  unfold Dev.setOne at he
  generalize ((s.dev.dispatchAs c c.cls).scanBlock ⟨s.dev.par.values, [], s.dev.par.selfTest.isSome⟩ 0 [e]).2 = x at hs hr he
  rw [x.enterParam_test hi] at he
  let y := x.selfTestWrite e.value.toNatBE
  have hw : Touch [.par, .conf, .course, .mem, .fresh] (s.dev.dispatchAs c c.cls) (y.raise Ev.paramChange e.id 1 1 c.cred) :=
    .raise ((hs.touch _).trans (x.selfTestWrite_touch _)) ..
  obtain ⟨hgen, hstaged, -, htest, -⟩ := (y.raise Ev.paramChange e.id 1 1 c.cred).writeSettings_par
  rw [Dev.raise_par] at hgen hstaged htest
  have ht := hw.next (Dev.writeSettings_touch _)
  have hz : Records 1 y (y.raise Ev.paramChange e.id 1 1 c.cred).writeSettings := fun hn =>
    y.raise_records Ev.paramChange e.id 1 1 c.cred hn
  generalize (y.raise Ev.paramChange e.id 1 1 c.cred).writeSettings = z at he hgen hstaged htest ht hz
  have hreply : z.settingsReply z.par.staged.length = settingsAnswer (y.par.gen + 1) y.par.staged.length := by
    rw [Dev.settingsReply, hgen, hstaged]
  rw [hreply] at he
  obtain ⟨ha, -, hst, hte⟩ := h.paramSet ht (settingsAnswer (y.par.gen + 1) y.par.staged.length)
  have hx := (Records.of_ev (Dev.dispatchAs_congr Dev.ev s.dev c c.cls (fun _ _ _ _ _ _ _ _ => rfl))).trans hr
  have hrep := (hz.trans (Records.of_ev (Dev.adminReply_ev z c.sent
    (Reply.okData (settingsAnswer (y.par.gen + 1) y.par.staged.length)) h.2.2.2.1))).trans (Dev.reportMode_records _)
  exact ⟨x, _, hs, hx, State.run_of_eq he, hrep, hst.trans hstaged, hte.trans htest, ha⟩

theorem selftest_starts (s : State) (seq : Nat) (c : Cap) (e : PEntry) {v : Nat} (hv : v = 1 ∨ v = 2) (h : ready s.dev seq Op.setParam c)
    (hk : setsOne s.dev c e) (hi : e.id = P.modeSelftestRun) (he : e.value.toNatBE = v) :
    ∃ t, s.run (fun d => d.admin seq Op.setParam (fun c => c.selftestValue == v) setParamGo) = .next t ∧
      t.dev.par.selfTest = some ⟨v, s.dev.pnum P.modeSelftestScope, s.dev.clk.tick⟩ ∧ t.dev.par.staged = s.dev.par.staged ∧
      answered s.dev t.dev c Status.ok 0 (settingsAnswer (s.dev.par.gen + 1) s.dev.par.staged.length) := by
  obtain ⟨x, t, hs, -, hrun, -, hst, hte, ha⟩ := selftest_writes h hk hi (mine := fun c => c.selftestValue == v)
    (by simp [hk.selftestValue hi (by omega), he])
  have hx : x.par = s.dev.par := (core_par hs.core).trans (Dev.dispatchAs_par ..)
  have hclk : x.clk.steady.tick = s.dev.clk.tick := by
    rw [(hs.touch []).clk (by simp), Dev.dispatchAs_clk]
    rfl
  rw [he, x.selfTestWrite_starts hv] at hst hte ha
  rw [hx] at hst ha
  refine ⟨t, hrun, hte.trans ?_, hst, ha⟩
  rw [Dev.pnum, hx, show x.clk.tick = s.dev.clk.tick from hclk]
  rfl

/-! ### The staged set -/

theorem Dev.raises_par (d : Dev) (l : List (Nat × Bytes)) (k b cred : Nat) :
    (l.foldl (fun (d : Dev) (x : Nat × Bytes) => d.raise Ev.paramChange x.1 k b cred) d).par = d.par :=
  core_par (Sent.foldl (f := fun (d : Dev) (x : Nat × Bytes) => d.raise Ev.paramChange x.1 k b cred) (fun _ _ => Dev.raise_sent ..) l d).core

/-- The staged set is committed: the values of its parameters take the place of those committed before. -/
theorem Dev.commitStaged_par (d : Dev) (cred : Nat) :
    (d.commitStaged cred).par.staged = [] ∧ (d.commitStaged cred).par.gen = d.par.gen + 1 ∧
      (d.commitStaged cred).par.values = d.par.values ∧
      (d.commitStaged cred).par.committed = d.par.committed.filter (fun e => !d.par.staged.reverse.any (fun x => x.1 == e.1)) ++
        d.par.staged.reverse.map (fun x => (x.1, x.2, cred)) := by
  unfold Dev.commitStaged
  extract_lets st src d1
  obtain ⟨hgen, hstaged, hvalues, -, hcommitted⟩ := d1.writeSettings_par
  rw [Dev.raises_par]
  exact ⟨hstaged, hgen, hvalues, hcommitted⟩

theorem Dev.commitStaged_touch (d : Dev) (cred : Nat) : Touch [.par, .conf] d (d.commitStaged cred) := by
  unfold Dev.commitStaged
  extract_lets st src d1
  have h1 : Touch [.par, .conf] d d1 := .setPar (.refl _ d) _
  exact .sent (h1.next (Dev.writeSettings_touch _)) (Sent.foldl (fun _ _ => Dev.raise_sent ..) _ _)

/-- A value staged is among those committed, the only one of its parameter. -/
theorem Dev.commitStaged_mem {d : Dev} {e : Nat × Bytes} (he : e ∈ d.par.staged) (cred : Nat) :
    (e.1, e.2, cred) ∈ (d.commitStaged cred).par.committed := by
  obtain ⟨-, -, -, hc⟩ := d.commitStaged_par cred
  rw [hc]
  exact List.mem_append_right _ (List.mem_map.mpr ⟨e, List.mem_reverse.mpr he, rfl⟩)

theorem Dev.commitStaged_unique {d : Dev} (hd : (d.par.staged.map (·.1)).Nodup) {e : Nat × Bytes} (he : e ∈ d.par.staged) {cred : Nat}
    {x : Nat × Bytes × Nat} (hx : x ∈ (d.commitStaged cred).par.committed) (hk : x.1 = e.1) : x.2.1 = e.2 := by
  obtain ⟨-, -, -, hc⟩ := d.commitStaged_par cred
  rw [hc, List.mem_append] at hx
  rcases hx with hx | hx
  · have hn : ∀ y ∈ d.par.staged, y.1 ≠ x.1 := by simpa using (List.mem_filter.mp hx).2
    exact absurd hk.symm (hn e he)
  · obtain ⟨y, hy, rfl⟩ := List.mem_map.mp hx
    rw [List.inj_on_of_nodup_map hd (List.mem_reverse.mp hy) he hk]

/-! ### Values in force -/

theorem lookup_filter_ne (l : List (Nat × Bytes)) {k id : Nat} (h : k ≠ id) : (l.filter (fun e => e.1 != id)).lookup k = l.lookup k := by
  induction l with
  | nil => rfl
  | cons e l ih =>
    by_cases he : e.1 = id
    · rw [List.filter_cons_of_neg (by simp [he]), ih, List.lookup_cons, show (k == e.1) = false by simp [he, h]]
    · rw [List.filter_cons_of_pos (by simp [he]), List.lookup_cons, List.lookup_cons, ih]

theorem lookup_setEntry (l : List (Nat × Bytes)) (id : Nat) (v : Bytes) (k : Nat) :
    (setEntry l id v).lookup k = if k = id then some v else l.lookup k := by
  unfold setEntry
  split
  · next h => simp [h]
  · next h => rw [List.lookup_cons, show (k == id) = false by simp [h], lookup_filter_ne l h]

/-- Entries written one after the other: the one value given to a parameter is in force. -/
theorem lookup_entries {l : List (Nat × Bytes × Nat)} {k : Nat} {v : Bytes} (hm : ∃ x ∈ l, x.1 = k) (hv : ∀ x ∈ l, x.1 = k → x.2.1 = v)
    (init : List (Nat × Bytes)) : (l.foldl (fun (l : List (Nat × Bytes)) (e : Nat × Bytes × Nat) => setEntry l e.1 e.2.1) init).lookup k = some v := by
  induction l using List.reverseRecOn with
  | nil => simp at hm
  | append_singleton l x ih =>
    rw [List.foldl_append, List.foldl_cons, List.foldl_nil, lookup_setEntry]
    split
    · next h => rw [hv x (by simp) h.symm]
    · next h =>
      refine ih ?_ fun y hy => hv y (List.mem_append_left _ hy)
      obtain ⟨y, hy, hk⟩ := hm
      rcases List.mem_append.mp hy with hy | hy
      · exact ⟨y, hy, hk⟩
      · exact absurd (by rw [← hk, List.mem_singleton.mp hy]) h

theorem Dev.applyCommitted_par (d : Dev) (p : Nat → Bool) :
    (d.applyCommitted p).par = { d.par with
      values := (d.par.committed.filter (fun e => p e.1)).foldl (fun (l : List (Nat × Bytes)) (e : Nat × Bytes × Nat) => setEntry l e.1 e.2.1)
        d.par.values
      committed := d.par.committed.filter (fun e => !p e.1) } :=
  core_par (Dev.paramEvents_sent ..).core

/-- What a commit sets going changes no value. -/
theorem Dev.commitPoints_touch (d : Dev) : Touch [.links, .net, .term, .asks, .clk, .ev, .par, .que, .ns, .idx, .pol, .gale, .med, .bays, .mir,
    .states, .mgmt, .sec, .fresh, .pow] (d.applyCommitted appliesAtOnce) d.commitPoints := by
  unfold Dev.commitPoints
  extract_lets ids d1 d2
  have h2 : Touch [.que, .pow] d1 d2 := Touch.foldl (fun d i => d.paramApplied_touch i) _ _
  exact .trans h2.of (Touch.foldl (fun d p => .ite (fun _ => .next (d.endPort_touch p 10).of (Dev.downLink_touch ..)) (fun _ => .refl _ d)) _ _)

/-! ### The commands -/

theorem Dev.dispatchAs_stagedOk (d : Dev) (c : Cap) (cls : Nat) : (d.dispatchAs c cls).stagedOk = d.stagedOk :=
  Dev.dispatchAs_congr Dev.stagedOk d c cls (fun _ _ _ _ _ _ _ _ => rfl)

/-- The staged set is committed and the capsule answered, as both forms of the commit begin. -/
def Dev.committed (d : Dev) (c : Cap) : Dev :=
  ((d.dispatchAs c c.cls).commitStaged c.cred).okWith c.sent (settingsAnswer (d.par.gen + 1) d.par.staged.length)

/-- The same with the reset that is to follow. -/
def Dev.resetPending (d : Dev) (c : Cap) : Dev := { d.committed c with par := { (d.committed c).par with pendingReset := some .commit } }

theorem ready.committed {d : Dev} {seq : Nat} {c : Cap} (h : Machine.ready d seq Op.commitStaged c) :
    answered d (d.committed c) c Status.ok 0 (settingsAnswer (d.par.gen + 1) d.par.staged.length) ∧
      (d.committed c).par = ((d.dispatchAs c c.cls).commitStaged c.cred).par ∧
      Touch [.que, .net, .par, .conf] d (d.committed c) := by
  have ht := (d.dispatchAs c c.cls).commitStaged_touch c.cred
  have hr := Dev.adminReply_touch ((d.dispatchAs c c.cls).commitStaged c.cred) c.sent
    (Reply.okData (settingsAnswer (d.par.gen + 1) d.par.staged.length)) h.2.2.2.1
  exact ⟨(h.awaits.touch ht).answered h.2.2.2.1 (Reply.okData _) rfl, hr.par (by simp),
    .next (.next (d.dispatchAs_touch c c.cls).of ht) hr⟩

theorem Dev.settingsReply_commit (d : Dev) (c : Cap) (cred n : Nat) :
    ((d.dispatchAs c c.cls).commitStaged cred).settingsReply n = settingsAnswer (d.par.gen + 1) n := by
  obtain ⟨-, hgen, -⟩ := (d.dispatchAs c c.cls).commitStaged_par cred
  rw [Dev.settingsReply, hgen, Dev.dispatchAs_par]

theorem commit_eff {d : Dev} {seq : Nat} {c : Cap} (h : ready d seq Op.commitStaged c) (ho : c.hdr.offset = 0) (hk : d.stagedOk = true) :
    commitStagedCommitEff seq d = (d.committed c).commitPoints := by
  refine (Dev.admin_ready h (by simp [scalarIs, ho]) _).trans ?_
  have hz : c.sent.hdr.offset.toNat = 0 := congrArg BitVec.toNat ho
  unfold commitGo Dev.committed
  simp only [hz, Dev.dispatchAs_stagedOk, hk, if_true, Dev.dispatchAs_par]
  rw [Dev.settingsReply_commit]
  rfl

/-- `COMMIT_AND_RESET` leaves its reset pending, and goes on with it where nothing has to drain. -/
theorem reset_eff {d : Dev} {seq : Nat} {c : Cap} (h : ready d seq Op.commitStaged c) (ho : c.hdr.offset = 1) (hk : d.stagedOk = true)
    (hp : d.par.pendingReset = none) : commitAndResetEff seq d =
      (d.resetPending c).performPending := by
  obtain ⟨-, -, ht⟩ := h.committed
  have hn : (d.committed c).par.pendingReset = none := by
    have hc := ht.course (by simp)
    simp only [Conf.course, Prod.mk.injEq] at hc
    exact hc.2.2.2.1.trans hp
  refine (Dev.admin_ready h (by simp [scalarIs, ho]) _).trans ?_
  have hz : c.sent.hdr.offset.toNat = 1 := congrArg BitVec.toNat ho
  have he : commitGo c.sent (d.dispatchAs c c.cls) = ({ d.committed c with par := { (d.committed c).par with
      pendingReset := some ((d.committed c).par.pendingReset.getD .commit) } } : Dev).performPending := by
    unfold commitGo Dev.committed
    simp only [hz, Dev.dispatchAs_stagedOk, hk, if_true, Dev.dispatchAs_par]
    rw [Dev.settingsReply_commit]
    rfl
  rw [he, hn]
  rfl

theorem commit_applies (s : State) (seq : Nat) (c : Cap) (h : ready s.dev seq Op.commitStaged c) (ho : c.hdr.offset = 0)
    (hk : s.dev.stagedOk = true) :
    ∃ t, exec (.commitStagedCommit seq) s = .next t ∧ t.dev.par.staged = [] ∧ t.dev.par.gen = s.dev.par.gen + 1 ∧
      ((s.dev.par.staged.map (·.1)).Nodup → ∀ e ∈ s.dev.par.staged,
        if appliesAtOnce e.1 = true then t.dev.par.value e.1 = e.2 else (e.1, e.2, c.cred) ∈ t.dev.par.committed) ∧
      answered s.dev t.dev c Status.ok 0 (settingsAnswer (s.dev.par.gen + 1) s.dev.par.staged.length) := by
  obtain ⟨ha, hpar, -⟩ := h.committed
  obtain ⟨hstaged, hgen, -, -⟩ := (s.dev.dispatchAs c c.cls).commitStaged_par c.cred
  have hmem := fun e he => Dev.commitStaged_mem (d := s.dev.dispatchAs c c.cls) (e := e) he c.cred
  have huniq := fun hd e he x => Dev.commitStaged_unique (d := s.dev.dispatchAs c c.cls) hd (e := e) he (cred := c.cred) (x := x)
  rw [Dev.dispatchAs_par] at hgen hmem huniq
  rw [← hpar] at hstaged hgen hmem huniq
  have hap := (s.dev.committed c).applyCommitted_par appliesAtOnce
  have ht := (s.dev.committed c).commitPoints_touch
  have hc := (ht.trans (Dev.reportMode_touch _).of).conf (by simp)
  have hf {α : Type} (f : Conf → α) (hs : ∀ p : Conf, f p.steady = f p) :
      f (s.dev.committed c).commitPoints.reportMode.par = f ((s.dev.committed c).applyCommitted appliesAtOnce).par :=
    (hs _).symm.trans ((congrArg f hc).trans (hs _))
  refine ⟨_, State.run_of_eq (commit_eff h ho hk), ?_, ?_, fun hd e he => ?_, ?_⟩
  · exact (hf Conf.staged fun _ => rfl).trans (by rw [hap]; exact hstaged)
  · exact (hf Conf.gen fun _ => rfl).trans (by rw [hap]; exact hgen)
  · split
    · next hp =>
      refine (hf (Conf.value · e.1) fun _ => rfl).trans ?_
      have hl := lookup_entries (l := (s.dev.committed c).par.committed.filter (fun e => appliesAtOnce e.1)) (k := e.1) (v := e.2)
        ⟨_, List.mem_filter.mpr ⟨hmem e he, hp⟩, rfl⟩ (fun x hx => huniq hd e he x (List.mem_filter.mp hx).1) (s.dev.committed c).par.values
      rw [hap]
      unfold Conf.value
      dsimp only
      rw [hl]
    · next hp =>
      refine (hf Conf.committed fun _ => rfl).symm ▸ ?_
      rw [hap]
      exact List.mem_filter.mpr ⟨hmem e he, by simp [hp]⟩
  · exact ((ha.past ((s.dev.committed c).applyCommitted_touch appliesAtOnce)).past ht).reported

theorem Dev.performPending_commit {d : Dev} (hf : d.pow.failing = none) (hr : d.par.run = .running) (hp : d.par.pendingReset = some .commit)
    (hd : d.drained none = true) : d.performPending = ((d.baroFlush 4).endAll 13).controllerReset 0 false := by
  unfold Dev.performPending
  rw [if_neg (by simp [hf]), if_neg (by simp [hr]), hp]
  exact if_pos hd

theorem reset_waits (s : State) (seq : Nat) (c : Cap) (h : ready s.dev seq Op.commitStaged c) (ho : c.hdr.offset = 1)
    (hk : s.dev.stagedOk = true) (hp : s.dev.par.pendingReset = none) (hd : s.dev.driftOut = false) (hf : s.dev.pow.failing = none) :
    ∃ t, exec (.commitAndReset seq) s = .next t ∧ t.dev.par.staged = [] ∧ t.dev.par.pendingReset = some .commit ∧
      (∀ e ∈ s.dev.par.staged, (e.1, e.2, c.cred) ∈ t.dev.par.committed) ∧
      answered s.dev t.dev c Status.ok 0 (settingsAnswer (s.dev.par.gen + 1) s.dev.par.staged.length) := by
  obtain ⟨ha, hpar, ht⟩ := h.committed
  obtain ⟨hstaged, -, -, -⟩ := (s.dev.dispatchAs c c.cls).commitStaged_par c.cred
  have hmem := fun e he => Dev.commitStaged_mem (d := s.dev.dispatchAs c c.cls) (e := e) he c.cred
  rw [Dev.dispatchAs_par] at hmem
  rw [← hpar] at hstaged hmem
  have hdrift : (s.dev.committed c).driftOut = s.dev.driftOut := h.driftOut (Dev.commitStaged_touch ..) (r := Reply.okData _)
  have hw : (s.dev.resetPending c).performPending = s.dev.resetPending c :=
    Dev.performPending_waits (w := .commit) ((congrArg Power.failing (ht.pow (by simp))).trans hf) (hdrift.trans hd) rfl
  have hx : answered s.dev (s.dev.resetPending c) c Status.ok 0 (settingsAnswer (s.dev.par.gen + 1) s.dev.par.staged.length) :=
    ha.later (List.suffix_refl _) (List.Subset.refl _)
  refine ⟨_, State.run_of_eq ((reset_eff h ho hk hp).trans hw), ?_, ?_, ?_, hx.reported⟩
  · exact (congrArg Conf.staged (Dev.reportMode_par _)).trans hstaged
  · exact congrArg Conf.pendingReset (Dev.reportMode_par _)
  · intro e hs
    rw [Dev.reportMode_par]
    exact hmem e hs

theorem reset_follows (s : State) (seq : Nat) (c : Cap) (h : ready s.dev seq Op.commitStaged c) (ho : c.hdr.offset = 1)
    (hk : s.dev.stagedOk = true) (hr : s.dev.par.run = .running) (hp : s.dev.par.pendingReset = none)
    (hd : s.dev.drained (some seq) = true) (hf : s.dev.pow.failing = none) (hc : ∀ x ∈ s.dev.que.caps, x.seq = seq → x = c) :
    ∃ t, exec (.commitAndReset seq) s = .next t ∧ t.dev.par.staged = [] ∧ t.dev.par.startKind = 2 ∧ t.dev.par.startCode = 0 ∧
      t.dev.net.sessions = [] ∧
      answered s.dev t.dev c Status.ok 0 (settingsAnswer (s.dev.par.gen + 1) s.dev.par.staged.length) := by
  obtain ⟨ha, -, ht⟩ := h.committed
  have hdr : (s.dev.committed c).drained none = true := h.drained hd hc (Dev.commitStaged_touch ..) (r := Reply.okData _)
  have hrun : (s.dev.committed c).par.run = .running := by
    have hco := ht.course (by simp)
    simp only [Conf.course, Prod.mk.injEq] at hco
    exact hco.1.trans hr
  have hfa : (s.dev.committed c).pow.failing = none := (congrArg Power.failing (ht.pow (by simp))).trans hf
  have hx : answered s.dev (s.dev.resetPending c) c Status.ok 0 (settingsAnswer (s.dev.par.gen + 1) s.dev.par.staged.length) :=
    ha.later (List.suffix_refl _) (List.Subset.refl _)
  have hy := (hx.past ((s.dev.resetPending c).baroFlush_touch 4)).past (Dev.endAll_touch _ 13)
  have he : commitAndResetEff seq s.dev = (((s.dev.resetPending c).baroFlush 4).endAll 13).controllerReset 0 false :=
    (reset_eff h ho hk hp).trans (Dev.performPending_commit hfa hrun rfl hdr)
  generalize ((s.dev.resetPending c).baroFlush 4).endAll 13 = y at he hy
  obtain ⟨hs, hkind, hcode⟩ := y.controllerReset_started 0
  obtain ⟨-, -, hst⟩ := y.controllerReset_empty 0
  have hz := hy.reset 0
  generalize y.controllerReset 0 false = z at he hs hkind hcode hst hz
  refine ⟨_, State.run_of_eq he, ?_, ?_, ?_, Net.sessions_eq_nil_of_steady (Dev.reportMode_steady _) hs, hz.reported⟩
  · exact (congrArg Conf.staged (Dev.reportMode_par _)).trans hst
  · exact (congrArg Conf.startKind (Dev.reportMode_par _)).trans hkind
  · exact (congrArg Conf.startCode (Dev.reportMode_par _)).trans hcode

theorem discard_empties (s : State) (seq : Nat) (c : Cap) (h : ready s.dev seq Op.commitStaged c) (ho : c.hdr.offset = 2) :
    ∃ t, exec (.commitStagedDiscard seq) s = .next t ∧ t.dev.par.staged = [] ∧ t.dev.par.committed = s.dev.par.committed ∧
      t.dev.par.values = s.dev.par.values ∧ answered s.dev t.dev c Status.ok 0 (settingsAnswer s.dev.par.gen 0) := by
  let d := s.dev.dispatchAs c c.cls
  let e : Dev := { d with par := { d.par with staged := [] } }
  have he : commitStagedDiscardEff seq s.dev = e.okWith c.sent (settingsAnswer s.dev.par.gen 0) := by
    refine (Dev.admin_ready h (by simp [scalarIs, ho]) _).trans ?_
    have hz : c.sent.hdr.offset.toNat = 2 := congrArg BitVec.toNat ho
    unfold commitGo
    simp only [hz]
    show e.okWith c.sent (e.settingsReply 0) = _
    rw [Dev.settingsReply, show e.par.gen = s.dev.par.gen from (congrArg Conf.gen (Dev.dispatchAs_par s.dev c c.cls) :)]
  have ht : Touch [.par, .conf] d e := .setPar (.refl _ d) _
  have hp : (e.okWith c.sent (settingsAnswer s.dev.par.gen 0)).par = e.par := (e.adminReply_touch c.sent _ h.2.2.2.1).par (by simp)
  refine ⟨_, State.run_of_eq he, ?_, ?_, ?_, (h.replied ht (Reply.okData _)).1⟩
  · rw [Dev.reportMode_par, hp]
  · rw [Dev.reportMode_par]
    exact (congrArg Conf.committed hp).trans (congrArg Conf.committed (Dev.dispatchAs_par s.dev c c.cls) :)
  · rw [Dev.reportMode_par]
    exact (congrArg Conf.values hp).trans (congrArg Conf.values (Dev.dispatchAs_par s.dev c c.cls) :)

/-- Settles O26: the entry of the self-test starts and stops it; a commit moves the staged set to the values committed, of which those that
apply at once are in force; the reset that follows a drained drive leaves nothing staged. -/
theorem selfTestAndStagedSet : Obligations.SelfTestAndStagedSet := by
  refine ⟨?short, ?extended, ?stop, ?done, commit_applies, reset_waits, reset_follows, discard_empties⟩
  case short => exact fun s seq c e h hk hi hv => selftest_starts s seq c e (.inl rfl) h hk hi hv
  case extended => exact fun s seq c e h hk hi hv => selftest_starts s seq c e (.inr rfl) h hk hi hv
  case stop =>
    intro s seq c e h hk hi hv hr
    obtain ⟨x, t, hs, hrx, he, hrt, hst, hte, ha⟩ := selftest_writes h hk hi (mine := fun c => c.selftestValue == 3)
      (by simp [hk.selftestValue hi (by omega), hv])
    have hx : x.par = s.dev.par := (core_par hs.core).trans (Dev.dispatchAs_par ..)
    rw [hv] at hst hte ha hrt
    rw [x.selfTestWrite_stops] at hst hte ha
    refine ⟨t, he, hte, by rw [hst, hx], fun hrun hl => ?_, by rw [hx] at ha; exact ha⟩
    have hl' : x.level Ev.selftestDone.src ≤ Ev.selftestDone.sev := by
      rw [Dev.level_of_sent hs, Dev.dispatchAs_congr (Dev.level · _) s.dev c c.cls (fun _ _ _ _ _ _ _ _ => rfl)]
      exact hl
    obtain ⟨-, hlen, -⟩ := hrx (by omega)
    have hrun' : x.par.selfTest.isSome = true := by rw [hx]; exact hrun
    obtain ⟨y, hy⟩ := Option.isSome_iff_exists.mp hrun'
    rw [Dev.selfTestWrite, if_pos (show (3 == 3) = true from rfl), hy] at hrt
    exact (Dev.selfTestEnd_logged (d := x.draw.2) hrun' hl' hrt (by show x.ev.ring.length + _ ≤ _; omega)).earlier hrx (by omega)
  case done =>
    intro s x faults hx hr
    refine ⟨_, State.run_of_eq (f := selftestDoneEff faults) rfl, ?_, fun hl => ?_⟩
    · rw [Dev.reportMode_par]
      exact congrArg Conf.selfTest (Dev.selfTestEnd_par ..)
    · exact Dev.selfTestEnd_logged (stopped := false) (faults := faults) (by simp [hx]) hl (Dev.reportMode_records _) (by omega)

end Sys2Proof.Machine
end

section
/-! The four transitions of the life cycle: they begin, wait for the drain, and are made (R385 to R390). -/

namespace Sys2Proof.Machine

/-! ### The record -/

/-- A record that has been written is the one in use. -/
theorem Security.writeLc_reads (s : Security) (state intent : BitVec 8) :
    (s.writeLc state intent).lcByte = state ∧ (s.writeLc state intent).intent = intent := by
  have hu : (s.writeLc state intent).lcUse = some 1 := by
    unfold Security.lcUse Security.writeLc
    simp [LcCopy.ok, Vector.get]
  unfold Security.lcByte Security.intent
  rw [hu]
  exact ⟨rfl, rfl⟩

theorem Security.reads_of_lc {s u : Security} (h : s.lc = u.lc) : s.lcByte = u.lcByte ∧ s.intent = u.intent := by
  unfold Security.lcByte Security.intent Security.lcUse
  rw [h]
  exact ⟨rfl, rfl⟩

theorem Security.lcState_of_lcByte {s u : Security} (h : s.lcByte = u.lcByte) : s.lcState = u.lcState := by
  unfold Security.lcState
  rw [h]

/-! ### The actions -/

theorem Dev.bindBays_sec (l : List BayNo) (p : Dev → BayNo → Bool) (d : Dev) :
    (l.foldl (fun (d : Dev) b => if p d b then d.bindBay b else d) d).sec = d.sec :=
  (Touch.foldl (S := [.cards, .bays, .idx, .med, .par]) (fun d b => .ite (fun _ => d.bindBay_touch b) (fun _ => .refl _ d)) l d).sec (by simp)

theorem Dev.actOwn_sec (d : Dev) : d.actOwn.sec.lc = d.sec.lc ∧ d.actOwn.sec.run = d.sec.run ∧ d.actOwn.sec.mrk.isSome = true := by
  unfold Dev.actOwn
  dsimp only
  rw [Dev.bindBays_sec]
  exact ⟨rfl, rfl, rfl⟩

/-- `DECOMMISSION` destroys the root key and leaves no credential and no namespace. -/
theorem Dev.actDecommission_leaves (d : Dev) (final : Bool) (p : Bytes) :
    (d.actDecommission final p).sec.lc = d.sec.lc ∧ (d.actDecommission final p).sec.run = d.sec.run ∧
      (d.actDecommission final p).sec.mrk = none ∧ (d.actDecommission final p).sec.creds = [] ∧
      (d.actDecommission final p).ns = [] ∧ (d.actDecommission final p).que.caps = d.que.caps := by
  unfold Dev.actDecommission
  extract_lets src1 src2 src3 src4 d1 d2 d3
  have ht : Touch [.cards, .bays, .med, .idx, .ev, .par, .conf] d1 d3.defaultSettings :=
    .next (.trans ((d1.raise_sent ..).touch _)
      (Touch.foldl (fun d b => .ite (fun _ => (d.releaseBay_touch b).of) (fun _ => .refl _ d)) _ _)) (Dev.defaultSettings_touch _)
  rw [ht.sec (by simp), ht.ns (by simp), ht.que (by simp)]
  exact ⟨rfl, rfl, rfl, rfl, rfl, rfl⟩

theorem Dev.actProvision_keeps (d : Dev) (p : Bytes) :
    (d.actProvision p).sec.lc = d.sec.lc ∧ (d.actProvision p).sec.run = d.sec.run ∧ (d.actProvision p).que = d.que := by
  unfold Dev.actProvision
  split <;> exact ⟨rfl, rfl, rfl⟩

/-- The actions leave the record, what runs and the capsules. -/
theorem Dev.lcActs_keeps (d : Dev) (target : BitVec 8) (p : Bytes) :
    (d.lcActs target p).sec.lc = d.sec.lc ∧ (d.lcActs target p).sec.run = d.sec.run ∧ (d.lcActs target p).que.caps = d.que.caps := by
  unfold Dev.lcActs
  split
  · obtain ⟨hl, hr, hq⟩ := d.actProvision_keeps p
    exact ⟨hl, hr, congrArg Queue.caps hq⟩
  · split
    · obtain ⟨hl, hr, -⟩ := d.actOwn_sec
      exact ⟨hl, hr, congrArg Queue.caps (d.actOwn_touch.que (by simp))⟩
    · split
      · exact ⟨rfl, rfl, rfl⟩
      · obtain ⟨hl, hr, -, -, -, hq⟩ := d.actDecommission_leaves (target == 0x84) p
        exact ⟨hl, hr, hq⟩

/-! ### The transition is made -/

/-- Step 3 of a transition: its intent is recorded. -/
def Dev.lcIntent (d : Dev) (r : LcRun) : Dev :=
  { d.baroFlush 4 with sec := (d.baroFlush 4).sec.writeLc d.sec.lcByte (lcTarget r.op r.final) }

/-- Its actions are done. -/
def Dev.lcActed (d : Dev) (r : LcRun) : Dev := (d.lcIntent r).lcActs (lcTarget r.op r.final) r.payload

/-- Its state is recorded. -/
def Dev.lcMoved (d : Dev) (r : LcRun) : Dev :=
  { d.lcActed r with sec := (d.lcActed r).sec.writeLc (lcTarget r.op r.final) 0 }

theorem Dev.lcMoved_keeps (d : Dev) (r : LcRun) : (d.lcMoved r).sec.mrk = (d.lcActed r).sec.mrk ∧
    (d.lcMoved r).sec.creds = (d.lcActed r).sec.creds ∧ (d.lcMoved r).ns = (d.lcActed r).ns := ⟨rfl, rfl, rfl⟩

/-- The answer and the ends of the sessions that follow. -/
def Dev.lcEnded (d : Dev) (r : LcRun) : Dev :=
  (((d.lcMoved r).raise Ev.lcChange d.sec.lcByte.toNat (lcTarget r.op r.final).toNat r.requester.toNat 1).answer (some r.seq)
    (Reply.okData (if r.op = 9 then zeroBytes 64 else []))).endAll 15

theorem Dev.lcMoved_touch (d : Dev) (r : LcRun) : Touch lcParts d (d.lcMoved r) :=
  .setSec (.trans (.setSec (d.baroFlush_touch 4).of _) (Dev.lcActs_touch ..)) _

theorem Dev.lcMoved_caps (d : Dev) (r : LcRun) : (d.lcMoved r).que.caps = d.que.caps := by
  obtain ⟨-, -, hq⟩ := (d.lcIntent r).lcActs_keeps (lcTarget r.op r.final) r.payload
  exact hq.trans (congrArg Queue.caps ((d.baroFlush_touch 4).que (by simp)))

theorem Dev.lcEnded_touch (d : Dev) (r : LcRun) : Touch [.net, .que, .med, .gale, .mir] (d.lcMoved r) (d.lcEnded r) :=
  .next (.next (.raise (.refl _ _) ..) (Dev.answer_touch ..)) (Dev.endAll_touch ..)

/-- The drive as a transition wipes it before its reset. -/
def Dev.lcWipe (d : Dev) : Dev := ({ d with sec := { d.sec with run := none } } : Dev).wipeLc

theorem Dev.lcWipe_sec (d : Dev) : d.lcWipe.sec.lc = d.sec.lc ∧ d.lcWipe.sec.run = none ∧ d.lcWipe.sec.mrk = d.sec.mrk ∧
    d.lcWipe.sec.creds = d.sec.creds.filter (·.operator) ∧ d.lcWipe.ns = d.ns := ⟨rfl, rfl, rfl, rfl, rfl⟩

theorem Dev.lcWipe_touch (d : Dev) : Touch (.life :: startParts) d d.lcWipe := by
  unfold Dev.lcWipe
  exact ((Touch.refl (.life :: startParts) d).setSec _).trans (Dev.wipeLc_touch _)

theorem Dev.lcFinish_eq (d : Dev) (r : LcRun) :
    d.lcFinish r = (d.lcEnded r).lcWipe.controllerReset Ev.lcChange.code false := rfl

theorem Dev.wipe_sec (d : Dev) : d.wipe.sec.lc = d.sec.lc ∧ d.wipe.sec.mrk = d.sec.mrk ∧ d.wipe.sec.creds = unstage d.sec.creds ∧
    (d.sec.run = none → d.wipe.sec.run = none) ∧ d.wipe.ns = d.ns := by
  have ht := d.settlePrograms_touch
  have hs := ht.sec (by simp)
  refine ⟨(congrArg Security.lc hs :), (congrArg Security.mrk hs :), (congrArg (fun s : Security => unstage s.creds) hs :), fun h => ?_,
    ht.ns (by simp)⟩
  have hw : d.wipe.sec.run = if d.settlePrograms.sec.intent == 0 then none else d.settlePrograms.sec.run := rfl
  rw [hw, hs, h]
  split <;> rfl

theorem Dev.lcMoved_reads (d : Dev) (r : LcRun) : (d.lcMoved r).sec.lcByte = lcTarget r.op r.final ∧ (d.lcMoved r).sec.intent = 0 :=
  Security.writeLc_reads ..

/-- A transition leaves its target's state and none under way; of the credentials the operators', with no key staged; the root key and the
namespaces that its actions have left. -/
theorem Dev.lcFinish_leaves (d : Dev) (r : LcRun) : (d.lcFinish r).sec.lcByte = lcTarget r.op r.final ∧ (d.lcFinish r).sec.run = none ∧
    (d.lcFinish r).sec.mrk = (d.lcMoved r).sec.mrk ∧
    (d.lcFinish r).sec.creds = unstage ((d.lcMoved r).sec.creds.filter (·.operator)) ∧
    (d.lcFinish r).ns.length ≤ (d.lcMoved r).ns.length := by
  have he := d.lcEnded_touch r
  obtain ⟨hstate, hintent⟩ := d.lcMoved_reads r
  rw [Dev.lcFinish_eq]
  generalize d.lcEnded r = e at he
  have hs := he.sec (by simp)
  have hns := he.ns (by simp)
  obtain ⟨hl, hr, hm, hc, hn⟩ := e.lcWipe_sec
  generalize e.lcWipe = f at hl hr hm hc hn
  obtain ⟨hwl, hwm, hwc, hwr, hwn⟩ := f.wipe_sec
  obtain ⟨hb, hi⟩ := Security.reads_of_lc (hwl.trans (hl.trans (congrArg Security.lc hs)))
  have ht := f.controllerReset_life Ev.lcChange.code (hi.trans hintent)
  have hlife := ht.life (by simp)
  simp only [Security.life, Prod.mk.injEq] at hlife
  obtain ⟨gl, gc, gm, gr⟩ := hlife
  refine ⟨(Security.reads_of_lc gl).1.trans (hb.trans hstate), gr.trans (hwr hr), gm.trans ?_, gc.trans ?_, ?_⟩
  · exact hwm.trans (hm.trans (congrArg Security.mrk hs))
  · exact hwc.trans (by rw [hc, hs])
  · have hlen := ht.spaces (by simp)
    exact hlen.trans (by rw [← hns, ← hn, ← hwn]; exact Nat.le_refl _)

/-! ### The transition begins -/

/-- The transition that a capsule asks for. -/
def Cap.lcRun (c : Cap) : LcRun := { seq := c.seq, op := c.aOp, final := c.aFlag, payload := c.aPayload, requester := c.tenant }

/-- A transition is under way. -/
def Dev.lcUnder (d : Dev) (r : LcRun) : Dev := { d with sec := { d.sec with run := some r } }

theorem Dev.lcUnder_touch (d : Dev) (r : LcRun) : Touch [.sec, .life] d (d.lcUnder r) := .setSec (.refl _ d) _

theorem Dev.dispatchAs_lcStep1 (d : Dev) (c : Cap) (cls : Nat) (x : Cap) : (d.dispatchAs c cls).lcStep1 x = d.lcStep1 x :=
  Dev.dispatchAs_congr (Dev.lcStep1 · x) d c cls (fun _ _ _ _ _ _ _ _ => rfl)

theorem Dev.dispatchAs_quiesces (d : Dev) (c : Cap) (cls : Nat) : (d.dispatchAs c cls).quiesces = d.quiesces :=
  Dev.dispatchAs_congr Dev.quiesces d c cls (fun _ _ _ _ _ _ _ _ => rfl)

/-- An op that no check refuses begins its transition. -/
theorem Dev.lcStart_begins {d : Dev} {c : Cap} (h1 : d.lcStep1 c = none) (hq : c.aOp = 10 → d.quiesces = false)
    (hm : (d.maintCell .lc).1 = .r ∨ (d.maintCell .lc).1 = .q) : d.lcStart c = (d.maint .lc).2.lcBegin c := by
  have hn : ¬ (c.aOp == 10 && d.quiesces) = true := by
    rw [Bool.and_eq_true, beq_iff_eq]
    rintro ⟨ho, hr⟩
    exact absurd hr (by simp [hq ho])
  rw [← d.maint_fst] at hm
  unfold Dev.lcStart
  rw [h1]
  dsimp only
  rw [if_neg hn]
  generalize d.maint .lc = m at hm
  obtain ⟨a, e⟩ := m
  rcases hm with rfl | rfl <;> rfl

/-- A transition that begins is the one its capsule asks for; it goes on where nothing has to drain. -/
theorem ready.lcBegins {d : Dev} {seq n : Nat} {c : Cap} (h : Machine.ready d seq Op.attest c) (hk : d.attestCheck c = none)
    (hn : n = 8 ∨ n = 9 ∨ n = 10 ∨ n = 11) (ho : c.aOp = n) (h1 : d.lcStep1 c = none) (hq : n = 10 → d.quiesces = false)
    (hm : (d.maintCell .lc).1 = .r ∨ (d.maintCell .lc).1 = .q) :
    ∃ x, Sent (d.dispatchAs c c.cls) x ∧ d.admin seq Op.attest (opIs attestOps n) attestGo =
      (x.lcUnder c.lcRun).performPending := by
  have he : d.admin seq Op.attest (opIs attestOps n) attestGo = (d.dispatchAs c c.cls).lcStart c.sent := by
    refine h.attests hk ho (f := fun c d => d.lcStart c) fun e hk ho => ?_
    unfold attestGo
    rw [Dev.check_none hk]
    rcases hn with rfl | rfl | rfl | rfl <;> simp only [ho]
  rw [he, Dev.lcStart_begins (c := c.sent) ((Dev.dispatchAs_lcStep1 ..).trans h1) (fun h => (Dev.dispatchAs_quiesces ..).trans (hq (ho.symm.trans h)))
    (by rw [Dev.dispatchAs_maintCell]; exact hm)]
  have hs := (d.dispatchAs c c.cls).maint_sent .lc
  unfold Dev.lcBegin
  dsimp only
  split
  · exact ⟨_, hs.trans (Dev.raise_sent ..), rfl⟩
  · exact ⟨_, hs.trans (Dev.raise_sent ..), rfl⟩

theorem Dev.performPending_lcWaits {d : Dev} {r : LcRun} (hf : d.pow.failing = none) (hp : d.par.pendingReset = none)
    (hr : d.sec.run = some r) (hd : d.driftOut = false) : d.performPending = d := by
  have hn : d.lcReady r = false := by simp [Dev.lcReady, Dev.drained, hd]
  unfold Dev.performPending
  rw [hf, hp, hr]
  simp [hn]

theorem Dev.performPending_lcFinish {d : Dev} {r : LcRun} (hf : d.pow.failing = none) (hp : d.par.pendingReset = none)
    (hr : d.sec.run = some r) (hrun : d.par.run = .running) (hd : d.lcReady r = true) : d.performPending = d.lcFinish r := by
  unfold Dev.performPending
  rw [hf, hp, hr, hrun]
  simp [hd]

/-- While Drift drains, the transition is under way. -/
theorem lc_waits {s : State} {seq n : Nat} {c : Cap} (hn : n = 8 ∨ n = 9 ∨ n = 10 ∨ n = 11) (h : ready s.dev seq Op.attest c)
    (hk : s.dev.attestCheck c = none) (ho : c.aOp = n) (h1 : s.dev.lcStep1 c = none) (hq : n = 10 → s.dev.quiesces = false)
    (hm : (s.dev.maintCell .lc).1 = .r ∨ (s.dev.maintCell .lc).1 = .q) (hp : s.dev.par.pendingReset = none)
    (hf : s.dev.pow.failing = none) (hd : s.dev.driftOut = false) :
    ∃ t, s.run (fun d => d.admin seq Op.attest (opIs attestOps n) attestGo) = .next t ∧
      t.dev.sec.run = some ⟨seq, n, c.aFlag, c.aPayload, c.tenant⟩ := by
  obtain ⟨x, hs, he⟩ := h.lcBegins hk hn ho h1 hq hm
  have hx : x.driftOut = false := by
    rw [Dev.driftOut, core_que hs.core, Dev.dispatchAs_drift]
    exact hd
  rw [Dev.performPending_lcWaits (d := x.lcUnder c.lcRun) (r := c.lcRun) ((congrArg Power.failing (core_pow hs.core)).trans (by rw [Dev.dispatchAs_pow]; exact hf))
    ((congrArg Conf.pendingReset (core_par hs.core)).trans (by rw [Dev.dispatchAs_par]; exact hp)) rfl hx] at he
  refine ⟨_, State.run_of_eq he, ?_⟩
  rw [Dev.reportMode_sec, ← (Dev.capBySeq_seq h.1).1, ← ho]
  rfl

/-! ### The capsule that has waited -/

/-- The one capsule of its number is found, dispatched. -/
theorem ready.capBySeq {d : Dev} {seq : Nat} {op : BitVec 16} {c : Cap} (h : Machine.ready d seq op c)
    (hc : ∀ x ∈ d.que.caps, x.seq = seq → x = c) : ∃ y, (d.dispatchAs c c.cls).capBySeq seq = some y ∧
      y.sid = c.sid ∧ y.tag = c.tag ∧ y.start = c.start ∧ y.partner = c.partner := by
  cases hy : (d.dispatchAs c c.cls).capBySeq seq with
  | none =>
    obtain ⟨z, hz, hseq, -⟩ := h.dispatched
    have := List.find?_eq_none.mp hy z hz.1
    simp [hseq, (Dev.capBySeq_seq h.1).2] at this
  | some y =>
    refine ⟨y, rfl, ?_⟩
    have hm := Dev.capBySeq_mem hy
    have hs := (Dev.capBySeq_seq hy).1
    rw [Dev.dispatchAs_caps] at hm
    obtain ⟨x, hx, rfl⟩ := List.mem_map.mp hm
    split at hs
    · next hp => rw [if_pos hp, hc x hx hs]; exact ⟨rfl, rfl, rfl, rfl⟩
    · next hp => rw [if_neg hp, hc x hx hs]; exact ⟨rfl, rfl, rfl, rfl⟩

/-- A capsule that has waited is answered under its number. -/
theorem Awaits.answeredLater {d e : Dev} {c y : Cap} {seq : Nat} (h : Awaits d e c) (hy : e.capBySeq seq = some y)
    (hsid : y.sid = c.sid) (htag : y.tag = c.tag) (hstart : y.start = c.start) (hp : y.partner = none) (r : Reply) (hm : r.more = false) :
    Machine.answered d (e.answer (some seq) r) c r.status r.version r.data := by
  have ha := e.finishFree_answered y r hp (by rw [hsid]; exact h.session) hm
  have he : e.answer (some seq) r = e.finishFree y r := by simp only [Dev.answer, hy]
  rw [he]
  unfold Machine.answered at ha ⊢
  rw [hsid, htag, hstart] at ha
  exact ⟨ha.1.earlier h.out, ha.2⟩

theorem Dev.dispatchAs_drained (d : Dev) (c : Cap) (cls : Nat) (me : Option Nat) : (d.dispatchAs c cls).drained me = d.drained me := by
  have hq : (d.dispatchAs c cls).que.caps.all (fun c => c.seq == 0 || me == some c.seq) = d.que.caps.all (fun c => c.seq == 0 || me == some c.seq) := by
    rw [Dev.dispatchAs_caps]
    show (List.map _ d.que.caps).all _ = _
    rw [List.all_map]
    congr 1
    funext x
    dsimp only [Function.comp_apply]
    split <;> rfl
  unfold Dev.drained Dev.driftOut
  rw [hq, Dev.dispatchAs_drift]

/-- On a drained drive the transition is made, from the drive as it stood but for what has been sent. -/
theorem lc_made {s : State} {seq n : Nat} {c : Cap} (hn : n = 8 ∨ n = 9 ∨ n = 10 ∨ n = 11) (h : transits s.dev seq n c)
    (hq : n = 10 → s.dev.quiesces = false) (ho : n = 10 → s.dev.sec.sanitise.any SanRec.open_ = false) :
    ∃ (e : Dev) (t : State), s.run (fun d => d.admin seq Op.attest (opIs attestOps n) attestGo) = .next t ∧
      transited s.dev t.dev c (lcTarget n c.aFlag) (if n = 9 then zeroBytes 64 else []) ∧ e.sec.lc = s.dev.sec.lc ∧
      t.dev.sec.mrk = (e.lcMoved c.lcRun).sec.mrk ∧
      t.dev.sec.creds = unstage ((e.lcMoved c.lcRun).sec.creds.filter (·.operator)) ∧
      t.dev.ns.length ≤ (e.lcMoved c.lcRun).ns.length := by
  obtain ⟨hr, hk, hop, h1, hm, hrun, hp, hf, hd, hc⟩ := h
  obtain ⟨x, hs, he⟩ := hr.lcBegins hk hn hop h1 hq hm
  obtain ⟨y, hy, hsid, htag, hstart, hpart⟩ := hr.capBySeq hc
  have hpar : x.par = s.dev.par := (core_par hs.core).trans (Dev.dispatchAs_par ..)
  have hpow : x.pow = s.dev.pow := (core_pow hs.core).trans (Dev.dispatchAs_pow ..)
  have hsec : x.sec = s.dev.sec := (core_sec hs.core).trans (Dev.dispatchAs_sec ..)
  obtain ⟨e, hx⟩ : ∃ e : Dev, e = x.lcUnder c.lcRun := ⟨_, rfl⟩
  have ht : Touch [.sec, .life] (s.dev.dispatchAs c c.cls) e := hx ▸ (hs.touch _).trans (x.lcUnder_touch _)
  have hque : e.que = (s.dev.dispatchAs c c.cls).que := ht.que (by simp)
  have hready : e.lcReady c.lcRun = true := by
    have hdr : e.drained (some seq) = true := by
      unfold Dev.drained Dev.driftOut
      rw [hque]
      exact (s.dev.dispatchAs_drained c c.cls _).trans hd
    have hop' : ¬ (n = 10 ∧ e.sec.sanitise.any SanRec.open_ = true) := by
      rintro ⟨h10, hany⟩
      have hsan : e.sec.sanitise = s.dev.sec.sanitise := by rw [hx]; exact (congrArg Security.sanitise hsec :)
      rw [hsan, ho h10] at hany
      cases hany
    unfold Dev.lcReady
    rw [show c.lcRun.seq = seq from (Dev.capBySeq_seq hr.1).1, show c.lcRun.op = n from hop, hdr]
    simpa [← imp_iff_not_or] using hop'
  rw [← hx, Dev.performPending_lcFinish (r := c.lcRun) (by rw [hx]; exact (congrArg Power.failing hpow).trans hf)
    (by rw [hx]; exact (congrArg Conf.pendingReset hpar).trans hp) (by rw [hx]; rfl) (by rw [hx]; exact (congrArg Conf.run hpar).trans hrun)
    hready] at he
  have hlc : e.sec.lc = s.dev.sec.lc := by rw [hx]; exact (congrArg Security.lc hsec :)
  obtain ⟨hbyte, hnone, hmrk, hcreds, hns⟩ := e.lcFinish_leaves c.lcRun
  have ha : answered s.dev (e.lcFinish c.lcRun) c Status.ok 0 (if n = 9 then zeroBytes 64 else []) := by
    have hw := ((hr.awaits.touch ht).touch (e.lcMoved_touch c.lcRun)).touch (((e.lcMoved c.lcRun).raise_sent Ev.lcChange e.sec.lcByte.toNat
      (lcTarget c.lcRun.op c.lcRun.final).toNat c.lcRun.requester.toNat 1).touch [])
    have hcap : ((e.lcMoved c.lcRun).raise Ev.lcChange e.sec.lcByte.toNat (lcTarget c.lcRun.op c.lcRun.final).toNat c.lcRun.requester.toNat
        1).capBySeq seq = some y := by
      unfold Dev.capBySeq
      rw [Dev.raise_que, e.lcMoved_caps, hque]
      exact hy
    have hend := ((hw.answeredLater hcap hsid htag hstart (hpart.trans hr.2.2.2.1) (Reply.okData (if n = 9 then zeroBytes 64 else [])) rfl).past
      (Dev.endAll_touch _ 15))
    have hen : answered s.dev (e.lcEnded c.lcRun) c Status.ok 0 (if n = 9 then zeroBytes 64 else []) := by
      unfold Dev.lcEnded
      rw [show c.lcRun.seq = seq from (Dev.capBySeq_seq hr.1).1, show c.lcRun.op = n from hop] at *
      exact hend
    rw [Dev.lcFinish_eq]
    generalize e.lcEnded c.lcRun = f at hen
    exact (hen.past f.lcWipe_touch).reset _
  generalize e.lcFinish c.lcRun = z at he hbyte hnone hmrk hcreds hns ha
  refine ⟨e, _, State.run_of_eq he, ⟨?_, ?_, ha.reported⟩, hlc, ?_, ?_, ?_⟩
  · rw [Dev.reportMode_sec, hbyte, show c.lcRun.op = n from hop]
    rfl
  · rw [Dev.reportMode_sec, hnone]
  · rw [Dev.reportMode_sec, hmrk]
  · rw [Dev.reportMode_sec, hcreds]
  · rw [Dev.reportMode_ns]
    exact hns

/-! ### What each transition leaves -/

/-- `PROVISION` leaves the operator credential that it carries. -/
theorem Dev.lcMoved_provision (d : Dev) {r : LcRun} (ho : r.op = 8) (hp : r.payload ≠ []) :
    ∃ y ∈ (d.lcMoved r).sec.creds, y.id = BitVec.ofNat 32 (r.payload.field 0 4) ∧ y.operator = true ∧
      y.active = some (BitVec.ofNat 256 (r.payload.field 8 32)) := by
  have he : lcTarget r.op r.final = 2 := by rw [ho]; rfl
  have hcreds (e : Dev) : ∃ y ∈ (e.lcActs 2 r.payload).sec.creds, y.id = BitVec.ofNat 32 (r.payload.field 0 4) ∧ y.operator = true ∧
      y.active = some (BitVec.ofNat 256 (r.payload.field 8 32)) := by
    have hl : e.lcActs 2 r.payload = e.actProvision r.payload := if_pos rfl
    rw [hl, Dev.actProvision, if_neg (by simpa using hp)]
    exact ⟨_, List.mem_append_right _ (List.mem_singleton_self _), rfl, rfl, rfl⟩
  rw [(d.lcMoved_keeps r).2.1, Dev.lcActed, he]
  exact hcreds _

theorem Dev.lcMoved_own (d : Dev) {r : LcRun} (ho : r.op = 9) : (d.lcMoved r).sec.mrk.isSome = true := by
  have he : lcTarget r.op r.final = 3 := by rw [ho]; rfl
  have hmrk (e : Dev) : (e.lcActs 3 r.payload).sec.mrk.isSome = true := by
    have hl : e.lcActs 3 r.payload = e.actOwn := (if_neg (by decide)).trans (if_pos rfl)
    rw [hl]
    exact e.actOwn_sec.2.2
  rw [(d.lcMoved_keeps r).1, Dev.lcActed, he]
  exact hmrk _

theorem Dev.lcMoved_decommission (d : Dev) {r : LcRun} (ho : r.op = 10) (hs : d.sec.lcState = .owned) :
    (d.lcMoved r).sec.mrk = none ∧ (d.lcMoved r).sec.creds = [] ∧ (d.lcMoved r).ns = [] := by
  have he : lcTarget r.op r.final = 4 ∨ lcTarget r.op r.final = 0x84 := by
    rw [ho]
    cases r.final
    · exact .inl rfl
    · exact .inr rfl
  have hl (e : Dev) (hn : e.sec.lcState = .owned) (t : BitVec 8) (ht : t = 4 ∨ t = 0x84) :
      e.lcActs t r.payload = e.actDecommission (t == 0x84) r.payload := by
    unfold Dev.lcActs
    rw [if_neg (by rcases ht with rfl | rfl <;> decide), if_neg (by rcases ht with rfl | rfl <;> decide), if_neg (by rw [hn]; decide)]
  have hn : (d.lcIntent r).sec.lcState = .owned :=
    (Security.lcState_of_lcByte (Security.writeLc_reads ..).1).trans hs
  obtain ⟨km, kc, kn⟩ := d.lcMoved_keeps r
  rw [km, kc, kn, Dev.lcActed, hl _ hn _ he]
  obtain ⟨-, -, hm, hc, hns, -⟩ := (d.lcIntent r).actDecommission_leaves (lcTarget r.op r.final == 0x84) r.payload
  exact ⟨hm, hc, hns⟩

theorem mem_unstage {l : List Cred} {y : Cred} (h : y ∈ l) (ha : y.active.isSome = true) :
    { y with staged := none, stagedAt := 0 } ∈ unstage l :=
  List.mem_map.mpr ⟨y, List.mem_filter.mpr ⟨h, ha⟩, rfl⟩

theorem provision_made (s : State) (seq : Nat) (c : Cap) (h : transits s.dev seq 8 c) :
    ∃ t, exec (.provision seq) s = .next t ∧ transited s.dev t.dev c 2 [] ∧
      ∃ y ∈ t.dev.sec.creds, y.id = BitVec.ofNat 32 (c.aPayload.field 0 4) ∧ y.operator = true ∧
        y.active = some (BitVec.ofNat 256 (c.aPayload.field 8 32)) := by
  obtain ⟨e, t, ht, htr, -, -, hcreds, -⟩ := lc_made (.inl rfl) h (by simp) (by simp)
  have hp : c.aPayload ≠ [] := by
    obtain ⟨-, -, hop, h1, -⟩ := h
    intro hn
    unfold Dev.lcStep1 at h1
    rw [hop, hn] at h1
    simp [show Bytes.field [] 0 4 = 0 by decide] at h1
  obtain ⟨y, hy, hid, hope, hact⟩ := e.lcMoved_provision (r := c.lcRun) h.2.2.1 hp
  refine ⟨t, ht, htr, { y with staged := none, stagedAt := 0 }, ?_, hid, hope, hact⟩
  rw [hcreds]
  exact mem_unstage (List.mem_filter.mpr ⟨hy, hope⟩) (by rw [hact]; rfl)

/-- Settles O36: while Drift drains a transition is under way; on a drained drive its record, its actions and its reset follow one another, and
the reset finds no transition to complete. -/
theorem lifeCycleTransitionsBegin : Obligations.LifeCycleTransitionsBegin := by
  refine ⟨?_, ?_, ?_, ?_, provision_made, ?own, ?decommission, ?retire⟩
  · exact fun s seq c h hk ho h1 hm hp hf hd => lc_waits (.inl rfl) h hk ho h1 (by simp) hm hp hf hd
  · exact fun s seq c h hk ho h1 hm hp hf hd => lc_waits (.inr (.inl rfl)) h hk ho h1 (by simp) hm hp hf hd
  · exact fun s seq c h hk ho h1 hq hm hp hf hd => lc_waits (.inr (.inr (.inl rfl))) h hk ho h1 (fun _ => hq) hm hp hf hd
  · exact fun s seq c h hk ho h1 hm hp hf hd => lc_waits (.inr (.inr (.inr rfl))) h hk ho h1 (by simp) hm hp hf hd
  case own =>
    intro s seq c h
    obtain ⟨e, t, ht, htr, -, hmrk, -, -⟩ := lc_made (.inr (.inl rfl)) h (by simp) (by simp)
    exact ⟨t, ht, htr, by rw [hmrk]; exact e.lcMoved_own h.2.2.1⟩
  case decommission =>
    intro s seq c h hq ho hs
    obtain ⟨e, t, ht, htr, hlc, hmrk, hcreds, hns⟩ := lc_made (.inr (.inr (.inl rfl))) h (fun _ => hq) (fun _ => ho)
    obtain ⟨hm, hc, hn⟩ := e.lcMoved_decommission (r := c.lcRun) h.2.2.1
      ((Security.lcState_of_lcByte (Security.reads_of_lc hlc).1).trans hs)
    refine ⟨t, ht, htr, hmrk.trans hm, hcreds.trans (by rw [hc]; rfl), ?_⟩
    rw [hn] at hns
    exact List.length_eq_zero_iff.mp (Nat.le_zero.mp hns)
  case retire =>
    intro s seq c h
    obtain ⟨e, t, ht, htr, -⟩ := lc_made (.inr (.inr (.inr rfl))) h (by simp) (by simp)
    exact ⟨t, ht, htr⟩

end Sys2Proof.Machine
end

section
/-! The byte that picks the command of a `CART_RELEASE` is the bay's, not the op's. -/

namespace Sys2Proof.Machine.Corner

/- An evaluation by the kernel waits for all that stands before it; one after the other, the waiting threads do not pile up. -/
set_option Elab.async false

/-- A `CART_RELEASE` with the op CLEAR_LOST for bay 1. -/
def unmarking : Cap := capsule Op.cartRelease 0 ([1, 4] ++ zeroBytes 30)

theorem unmarking_ready : ready (drive [unmarking]) 7 Op.cartRelease unmarking ∧ unmarking.value.field 1 1 = 4 ∧ unmarking.value.length = 32 ∧
    unmarking.value.zeroAt 2 6 = true ∧ unmarking.value.zeroAt 0x18 8 = true := by
  decide +kernel

theorem unmarking_stays : (after (.clearLost 7) (drive [unmarking])).que.caps = [unmarking] := by decide +kernel

/-- Refutes O33: the rows of `CART_RELEASE` are told apart by byte 0 of the block, which is the bay; a CLEAR_LOST for bay 1 is taken for the
row of op 1, and its own row leaves it waiting. -/
theorem not_cartridgeOpsTakeEffect : ¬ Obligations.CartridgeOpsTakeEffect := by
  rintro ⟨-, -, -, -, -, -, h⟩
  obtain ⟨hready, hop, hlen, h2, h8⟩ := unmarking_ready
  obtain ⟨t, ht, -, b, -, hgone⟩ := h (at_ (drive [unmarking])) 7 unmarking hready hop hlen h2 h8
  rw [after_eq ht, unmarking_stays] at hgone
  exact hgone unmarking (List.mem_singleton_self _) ⟨rfl, rfl⟩

end Sys2Proof.Machine.Corner
end

section
/-! Cartridges come and go: the checks, the latch, the quiesce, removal and loss, the wear record's timer (R239 to R256). -/

namespace Sys2Proof.Machine

/-! ### How a bay stands -/

theorem Bay.card_eq {x y : Bay} (h : x.card = y.card) : x.state = y.state ∧ x.reason = y.reason ∧ x.present = y.present ∧
    x.latchOpen = y.latchOpen ∧ x.guest = y.guest ∧ x.bound = y.bound ∧ x.bindCount = y.bindCount ∧ x.quiesceSince = y.quiesceSince ∧
    x.opWaiting = y.opWaiting := by
  simp only [Bay.card_def, Prod.mk.injEq] at h
  obtain ⟨h1, h2, h3, h4, h5, -, h7, h8, h9, h10, -⟩ := h
  exact ⟨h1, h2, h3, h4, h5, h7, h8, h9, h10⟩

/-- From Clear, Haze and Fog a wake changes power alone. -/
theorem Dev.wakeIf_awake_touch {d : Dev} (h : d.bayPower = true) (trigger : Nat) : Touch [.pow, .fresh] d (d.wakeIf trigger) := by
  have hr : d.pow.rung = .clear ∨ d.pow.rung = .haze ∨ d.pow.rung = .fog := by
    simp only [Dev.bayPower, Bool.and_eq_true, Bool.or_eq_true, beq_iff_eq] at h
    exact or_assoc.mp h.2
  refine .ite (fun _ => ?_) (fun _ => .refl _ d)
  unfold Dev.wake
  rcases hr with hr | hr | hr <;> rw [hr]
  · exact .refl _ d
  · exact d.wakeLight_touch trigger
  · exact d.wakeLight_touch trigger

/-- A drive that runs does not start. -/
theorem Dev.startGo_of_running {d : Dev} (h : d.par.run = .running) : d.startGo = d := by
  unfold Dev.startGo
  rw [h]
  rfl

theorem Touch.run_eq {S : List DevPart} {d e : Dev} (h : Touch S d e) (hs : autoParam (.course ∉ S) List.nodup_range'._auto_1) :
    e.par.run = d.par.run := (congrArg Prod.fst (h.course hs) :)

/-! ### A cartridge comes -/

theorem presence_recorded (s : State) (bay : BayNo) (f : CartFacts) (h : (s.dev.bays.get bay).present = false) :
    ∃ t, exec (.cartPresenceAssert bay f) s = .next t ∧ (t.dev.bays.get bay).present = true ∧ (t.dev.bays.get bay).guest = some f := by
  refine ⟨_, State.run_of_eq (f := presenceAssertEff bay f) rfl, ?_⟩
  rw [Dev.reportMode_bays]
  unfold presenceAssertEff
  rw [if_neg (by simp [h])]
  dsimp only
  obtain ⟨e, he⟩ : ∃ e, e = s.dev.modBay bay (fun b => { b with
    present := true, held := false, guest := some f, guestState := .empty, pollFails := 0 }) := ⟨_, rfl⟩
  have hb : (e.bays.get bay).present = true ∧ (e.bays.get bay).guest = some f := by
    rw [he, Dev.modBay_get_same]
    exact ⟨rfl, rfl⟩
  rw [← he]
  split
  · next hp =>
    have ht := (Dev.wakeIf_awake_touch hp 7).of.trans (S := [.pow, .fresh, .bays]) (Dev.challenge_touch _ bay).of
    obtain ⟨-, -, hpres, -, hguest, -⟩ := Bay.card_eq (ht.cards (by simp) bay)
    rw [Dev.modBay_get_same]
    unfold Bay.toCheck
    dsimp only
    split
    · exact ⟨hpres.trans hb.1, hguest.trans hb.2⟩
    · exact ⟨hpres.trans hb.1, hguest.trans hb.2⟩
  · exact hb

/-- How a latch stands. -/
def Latched (bay : BayNo) (v : Bool) (d : Dev) : Prop := (d.bays.get bay).latchOpen = v

theorem Latched.touch {S : List DevPart} {d e : Dev} {bay : BayNo} {v : Bool} (h : Latched bay v d) (ht : Touch S d e)
    (hs : autoParam (.cards ∉ S) List.nodup_range'._auto_1) : Latched bay v e := by
  obtain ⟨-, -, -, hl, -⟩ := Bay.card_eq (ht.cards hs bay)
  exact hl.trans h

theorem Latched.modBay {d : Dev} {bay : BayNo} {v : Bool} (h : Latched bay v d) (b : BayNo) {f : Bay → Bay}
    (hf : ∀ y, (f y).latchOpen = y.latchOpen) : Latched bay v (d.modBay b f) := by
  rcases eq_or_ne b bay with rfl | hb
  · rw [Latched, Dev.modBay_get_same, hf]
    exact h
  · rw [Latched, Dev.modBay_get_other _ _ _ _ hb]
    exact h

theorem Latched.recheck {d : Dev} {bay : BayNo} {v : Bool} (h : Latched bay v d) (b : BayNo) : Latched bay v (d.recheck b) := by
  unfold Dev.recheck
  exact (h.touch (d.challenge_touch b)).modBay b fun _ => rfl

theorem latch_closes (s : State) (bay : BayNo) (h : (s.dev.bays.get bay).latchOpen = true) :
    ∃ t, exec (.cartLatchClose bay) s = .next t ∧ (t.dev.bays.get bay).latchOpen = false := by
  refine ⟨_, State.run_of_eq (f := latchCloseEff bay) rfl, ?_⟩
  rw [Dev.reportMode_bays]
  have h1 : Latched bay false (s.dev.modBay bay (fun b => { b with latchOpen := false })) := by rw [Latched, Dev.modBay_get_same]
  show Latched bay false (latchCloseEff bay s.dev)
  unfold latchCloseEff
  dsimp only
  rw [if_neg (by simp [h])]
  split
  · exact h1
  · split
    · exact h1.recheck bay
    · split
      · exact h1.modBay bay fun _ => rfl
      · exact h1

/-! ### The checks -/

/-- A cartridge that is refused shows it, with the reason. -/
theorem Dev.refuseCart_shows (d : Dev) (bay : BayNo) (f : CartFacts) (reason : Nat) :
    Touch [.cards, .bays, .par] d (d.refuseCart bay f reason) ∧ ((d.refuseCart bay f reason).bays.get bay).reason = reason ∧
      ((d.bays.get bay).bound = none → ((d.refuseCart bay f reason).bays.get bay).state = .refused) ∧
      (((d.refuseCart bay f reason).bays.get bay).state = .refused ∨ ((d.refuseCart bay f reason).bays.get bay).guestState = .refused) := by
  have hr (e : Dev) (a b x y : Nat) : Touch [.par] e ((e.raise (Ev.cartRefused (baySrc bay)) a b x y).refreshMode 2) :=
    .next (.raise (.refl _ e) ..) (Dev.refreshMode_touch ..)
  have ht := hr (d.modBay bay (fun b => b.leftAs .refused reason)) reason (usedSlot f).1 (serialHead f.cart.serial) (serialNext f.cart.serial)
  have hc := ht.cards (by simp) bay
  rw [Dev.modBay_get_same] at hc
  simp only [Bay.card_def, Prod.mk.injEq] at hc
  obtain ⟨hs, hre, -, -, -, hg, -⟩ := hc
  refine ⟨.next (d.modBay_cards ..).of (hr ..), ?_, fun hn => ?_, ?_⟩
  · refine hre.trans ?_
    unfold Bay.leftAs
    split <;> rfl
  · refine hs.trans ?_
    unfold Bay.leftAs
    rw [if_neg (by simp [hn])]
  · refine Or.imp hs.trans hg.trans ?_
    unfold Bay.leftAs
    split
    · exact .inr rfl
    · exact .inl rfl

theorem Bay.load_keeps (b : Bay) (f : CartFacts) : (b.load f).bindCount = b.bindCount ∧ (b.load f).cart = some f.cart := by
  have hr (l : List RetiredRec) : (b.takeRetired l).bindCount = b.bindCount := by
    unfold Bay.takeRetired
    refine List.foldlRecOn (motive := fun y : Bay => y.bindCount = b.bindCount) l _ rfl fun y hy e _ => ?_
    dsimp only
    split <;> exact hy
  unfold Bay.load
  dsimp only
  split <;> exact ⟨hr _, rfl⟩

/-- A cartridge that is bound serves: its bind count has risen by one. -/
theorem Dev.bindBay_serves {d : Dev} {bay : BayNo} {f : CartFacts} (h : (d.bays.get bay).guest = some f) :
    ((d.bindBay bay).bays.get bay).state = .inService ∧ ((d.bindBay bay).bays.get bay).bound = some f.cart.serial ∧
      ((d.bindBay bay).bays.get bay).bindCount = (d.bays.get bay).bindCount + 1 := by
  unfold Dev.bindBay
  extract_lets d0 d1 d2 b
  have ht : Touch [.bays, .idx, .med, .par] d1 (((d2.raise (Ev.cartAttached (baySrc bay)) 1 b.lifeLeft b.spare 0).lifeCheck bay).refreshMode 2) :=
    .next (.next (.raise (.next (.next (.next (d1.writeSlot_touch ..).of (Dev.dropMark_touch ..)) (Dev.copyEnd_touch ..))
      (Dev.writeBindings_touch _)) ..) (Dev.lifeCheck_touch ..)) (Dev.refreshMode_touch ..)
  obtain ⟨hs, -, -, -, -, hb, hn, -⟩ := Bay.card_eq (ht.cards (by simp) bay)
  have h0 : d0.bays.get bay = (d.bays.get bay).load f := by
    simp only [d0, h, Dev.modBay_get_same]
  obtain ⟨hcount, hcart⟩ := (d.bays.get bay).load_keeps f
  have h1 : d1.bays.get bay = _ := Dev.modBay_get_same ..
  rw [h1] at hs hb hn
  refine ⟨hs, hb.trans ?_, hn.trans ?_⟩
  · dsimp only
    rw [h0, hcart]
    rfl
  · dsimp only
    rw [h0, hcount]

theorem Dev.recordTwin_touch (d : Dev) (bay : BayNo) (f : CartFacts) (i : Fin 2) (use : Option Nat) :
    Touch [.fresh] d (d.recordTwin bay f i use) := by
  unfold Dev.recordTwin
  split
  · exact .raise (.refl _ d) ..
  · exact .raise (.draw (.refl _ d)) ..

theorem Dev.slotTwinEvents_touch (d : Dev) (bay : BayNo) (f : CartFacts) : Touch [.fresh] d (d.slotTwinEvents bay f) :=
  .ite (fun _ => .refl _ d) (fun _ => Touch.foldl (fun d _ => .ite (fun _ => d.recordTwin_touch ..) (fun _ => .refl _ d)) _ d)

theorem Dev.attaches_of {d e : Dev} (hs : e.sec = d.sec) (hr : e.par.run = d.par.run) (hp : e.pow = d.pow) : e.attaches = d.attaches := by
  unfold Dev.attaches Dev.sanitiseModeHolds
  rw [hs, hr, hp]

/-- A NEW cartridge whose checks pass is bound where the bay is free. -/
theorem Dev.admitCart_binds {d : Dev} {bay : BayNo} {f : CartFacts} {i : Fin 2} (hg : (d.bays.get bay).guest = some f)
    (hb : (d.bays.get bay).bound = none) (hr : d.par.run = .running) (ha : d.attaches = true) (hi : slotUsed f.cart = some i)
    (hs : (f.cart.slots.get i).stored = 1) (ht : Config.sha256 f.table = f.cart.made.tableHash) :
    (d.admitCart bay f).par.run = .running ∧ ((d.admitCart bay f).bays.get bay).state = .inService ∧
      ((d.admitCart bay f).bays.get bay).bound = some f.cart.serial ∧
      ((d.admitCart bay f).bays.get bay).bindCount = (d.bays.get bay).bindCount + 1 := by
  unfold Dev.admitCart
  extract_lets u d1
  have h1 : Touch [.fresh] d d1 := .raise (d.slotTwinEvents_touch bay f) ..
  clear_value d1
  have hbays : d1.bays = d.bays := h1.bays (by simp)
  have had : d1.admission bay f = .bind := by
    unfold Dev.admission
    rw [hi]
    simp [hs]
  rw [had]
  dsimp only
  rw [if_pos (by simp [ht])]
  unfold Dev.admitBind
  dsimp only
  obtain ⟨e, he⟩ : ∃ e, e = d1.modBay bay (fun b => b.leftAs .authenticated 0) := ⟨_, rfl⟩
  have hbay : e.bays.get bay = (d.bays.get bay).leftAs .authenticated 0 := by rw [he, Dev.modBay_get_same, hbays]
  have hrun : e.par.run = .running := by
    rw [he]
    exact h1.run_eq.trans hr
  have hatt : e.attaches = true := by
    rw [he]
    exact (Dev.attaches_of (d := d) (h1.sec (by simp)) h1.run_eq (h1.pow (by simp))).trans ha
  have hleft : (d.bays.get bay).leftAs .authenticated 0 = { d.bays.get bay with
      state := .authenticated, guestState := .empty, reason := 0, railsOn := true } := by
    unfold Bay.leftAs
    rw [if_neg (by simp [hb])]
    rfl
  rw [← he, if_pos (by rw [hbay, hleft, hrun, hatt]; simp [hb])]
  obtain ⟨hst, hbo, hco⟩ := Dev.bindBay_serves (d := e) (bay := bay) (f := f) (by rw [hbay, hleft]; exact hg)
  exact ⟨(e.bindBay_touch bay).run_eq.trans hrun, hst, hbo, hco.trans (by rw [hbay, hleft])⟩

theorem answer_admits (s : State) (bay : BayNo) (f : CartFacts) (i : Fin 2) (ids : List Bytes) (hc : s.dev.checking bay = true)
    (hr : s.dev.par.run = .running) (hf : s.dev.facts bay = some f) (hg : (s.dev.bays.get bay).guest = some f)
    (hb : (s.dev.bays.get bay).bound = none) (ha : s.dev.attaches = true) (hi : slotUsed f.cart = some i)
    (hs : (f.cart.slots.get i).stored = 1) (hm : s.dev.madeOk f.cart.made = true) (ht : Config.sha256 f.table = f.cart.made.tableHash)
    (hd : Config.sha256 (ids.flatMap id) = f.cart.made.dieHash) (hn : ids.length = 256) :
    ∃ t, exec (.cartAuthResponse bay ⟨true, some ((s.dev.bays.get bay).challenged bay f.cart), ids.map some⟩) s = .next t ∧
      (Config.revoked (s.dev.upd.pkg s.dev.upd.activeSlot) f.cart.serial = false →
        (t.dev.bays.get bay).state = .inService ∧ (t.dev.bays.get bay).bound = some f.cart.serial ∧
        (t.dev.bays.get bay).bindCount = (s.dev.bays.get bay).bindCount + 1) ∧
      (Config.revoked (s.dev.upd.pkg s.dev.upd.activeSlot) f.cart.serial = true →
        (t.dev.bays.get bay).state = .refused ∧ (t.dev.bays.get bay).reason = 3) := by
  obtain ⟨a, hans⟩ : ∃ a : CartAnswer, a = ⟨true, some ((s.dev.bays.get bay).challenged bay f.cart), ids.map some⟩ := ⟨_, rfl⟩
  have hdies : diesOk a f.cart.made = true := by
    have hid : (ids.map some).flatMap (fun x : Option Bytes => x.getD []) = ids.flatMap id := by rw [List.flatMap_map]; rfl
    rw [hans, diesOk, hid, hd]
    simp [hn]
  have href : s.dev.firstRefusal bay f a =
      if Config.revoked (s.dev.upd.pkg s.dev.upd.activeSlot) f.cart.serial then some 3 else none := by
    unfold Dev.firstRefusal
    rw [hdies]
    simp [hans, hm]
  rw [← hans]
  cases hrev : Config.revoked (s.dev.upd.pkg s.dev.upd.activeSlot) f.cart.serial with
  | false =>
    rw [hrev] at href
    obtain ⟨hrun, hst, hbo, hco⟩ := Dev.admitCart_binds hg hb hr ha hi hs ht
    have he : cartAuthResponseEff bay a s.dev = s.dev.admitCart bay f := by
      unfold cartAuthResponseEff
      rw [if_neg (by simp [hc]), hf]
      simp only [href]
      exact Dev.startGo_of_running hrun
    refine ⟨_, State.run_of_eq he, fun _ => ?_, fun h => absurd h (by simp)⟩
    rw [Dev.reportMode_bays]
    exact ⟨hst, hbo, hco⟩
  | true =>
    rw [hrev] at href
    obtain ⟨htr, hre, hst, -⟩ := s.dev.refuseCart_shows bay f 3
    have he : cartAuthResponseEff bay a s.dev = s.dev.refuseCart bay f 3 := by
      unfold cartAuthResponseEff
      rw [if_neg (by simp [hc]), hf]
      simp only [href]
      exact Dev.startGo_of_running (htr.run_eq.trans hr)
    refine ⟨_, State.run_of_eq he, fun h => absurd h (by simp), fun _ => ?_⟩
    rw [Dev.reportMode_bays]
    exact ⟨hst hb, hre⟩

theorem timeout_refuses (s : State) (bay : BayNo) (f : CartFacts) (hc : s.dev.checking bay = true) (hr : s.dev.par.run = .running)
    (hf : s.dev.facts bay = some f) :
    ∃ t, exec (.cartAuthTimeout bay) s = .next t ∧ (t.dev.bays.get bay).reason = 2 ∧
      ((t.dev.bays.get bay).state = .refused ∨ (t.dev.bays.get bay).guestState = .refused) := by
  obtain ⟨htr, hre, -, hst⟩ := s.dev.refuseCart_shows bay f 2
  have he : cartAuthTimeoutEff bay s.dev = s.dev.refuseCart bay f 2 := by
    unfold cartAuthTimeoutEff
    rw [if_neg (by simp [hc]), hf]
    exact Dev.startGo_of_running (htr.run_eq.trans hr)
  refine ⟨_, State.run_of_eq he, ?_⟩
  rw [Dev.reportMode_bays]
  exact ⟨hre, hst⟩

/-- Settles O17. -/
theorem cartridgesAreAdmitted : Obligations.CartridgesAreAdmitted :=
  ⟨presence_recorded, latch_closes, answer_admits, timeout_refuses⟩

end Sys2Proof.Machine
end

section
/-! A cartridge goes: the latch opens, a quiesce ends, presence drops, a rail faults; and its wear record is written (R242 to R256). -/

namespace Sys2Proof.Machine

/-! ### The latch opens, and a quiesce ends -/

theorem Latched.quiesceEnd {d : Dev} {bay : BayNo} {v : Bool} (h : Latched bay v d) (b : BayNo) : Latched bay v (d.quiesceEnd b) := by
  unfold Dev.quiesceEnd
  extract_lets y since d1
  have h1 : Latched bay v d1 := (h.touch (d.quiesceSteps_touch b)).modBay b fun _ => rfl
  exact h1.touch (S := [.par]) (.next (.raise (.refl _ d1) ..) (Dev.refreshMode_touch ..))

theorem Latched.quiesceDone {d : Dev} {bay : BayNo} {v : Bool} (h : Latched bay v d) (b : BayNo) : Latched bay v (d.quiesceDone b) := by
  unfold Dev.quiesceDone
  dsimp only
  split
  · exact h.quiesceEnd b
  · exact (h.quiesceEnd b).recheck b

theorem Latched.quiescesOn {d : Dev} {bay : BayNo} {v : Bool} (h : Latched bay v d) : Latched bay v d.quiescesOn := by
  unfold Dev.quiescesOn
  refine List.foldlRecOn (motive := Latched bay v) (List.finRange 4) _ h fun e he b _ => ?_
  dsimp only
  split
  · exact he
  · split
    · exact he.modBay b fun _ => rfl
    · split
      · exact he
      · exact he.quiesceDone b

/-- A bay whose quiesce starts. -/
def Bay.quiescing (d : Dev) (bay : BayNo) (b : Bay) : Bay :=
  { b with quiesceSince := some d.clk.tick, quiesceSeq := d.que.nextSeq - 1, quiesceWriters := d.openWriters bay, cutFailed := 0, cutLost := 0 }

theorem latch_opens (s : State) (bay : BayNo) (h : (s.dev.bays.get bay).latchOpen = false) :
    ∃ t, exec (.cartLatchOpen bay) s = .next t ∧ (t.dev.bays.get bay).latchOpen = true := by
  refine ⟨_, State.run_of_eq (f := latchOpenEff bay) rfl, ?_⟩
  rw [Dev.reportMode_bays]
  have h1 : Latched bay true (s.dev.modBay bay (fun b => { b with latchOpen := true })) := by rw [Latched, Dev.modBay_get_same]
  have railsOff := h1.modBay bay (f := fun b => { b with railsOn := false }) fun _ => rfl
  show Latched bay true (latchOpenEff bay s.dev)
  unfold latchOpenEff
  dsimp only
  rw [if_neg (by simp [h])]
  split
  · exact h1
  · split
    iterate 4 exact Latched.quiescesOn (Latched.modBay h1 bay (f := Bay.quiescing s.dev bay) fun _ => rfl)
    · exact railsOff
    · split
      · exact railsOff
      · exact h1

/-- A quiesce that is over leaves the bay QUIESCED, its latch as it was. -/
theorem Dev.quiesceEnd_bay (d : Dev) (bay : BayNo) :
    ((d.quiesceEnd bay).bays.get bay).state = .quiesced ∧ ((d.quiesceEnd bay).bays.get bay).quiesceSince = none := by
  unfold Dev.quiesceEnd
  extract_lets b since d1
  have ht : Touch [.par] d1 ((d1.raise (Ev.cartQuiesced (baySrc bay)) ((d.clk.tick - since) / 1000) (b.quiesceWriters - d.openWriters bay)
      0 0).refreshMode 4) := .next (.raise (.refl _ d1) ..) (Dev.refreshMode_touch ..)
  have hc := ht.cards (by simp) bay
  rw [Dev.modBay_get_same] at hc
  obtain ⟨hs, -, -, -, -, -, -, hq, -⟩ := Bay.card_eq hc
  exact ⟨hs, hq⟩

theorem quiesce_ends (s : State) (bay : BayNo) (hq : (s.dev.bays.get bay).quiesceSince.isSome = true) (hp : s.dev.bayPower = true)
    (hs : (s.dev.bays.get bay).state = .inService) (hb : s.dev.quiesceBusy bay = false) (hl : (s.dev.bays.get bay).latchOpen = true) :
    ∃ t, exec (.quiesceDeadline bay) s = .next t ∧ (t.dev.bays.get bay).state = .quiesced ∧
      (t.dev.bays.get bay).quiesceSince = none := by
  have he : quiesceDeadlineEff bay s.dev = s.dev.quiesceEnd bay := by
    have hopen : ((s.dev.quiesceEnd bay).bays.get bay).latchOpen = true := Latched.quiesceEnd hl bay
    have hdue : ((s.dev.bays.get bay).quiesceSince.isNone || !s.dev.bayPower) = false := by
      rw [hp, Option.isNone_eq_false_iff.mpr hq]
      rfl
    unfold quiesceDeadlineEff
    dsimp only
    rw [hdue, hs, hb, if_neg Bool.false_ne_true, if_neg (by decide), if_neg (by decide), if_neg Bool.false_ne_true]
    unfold Dev.quiesceDone
    exact if_pos hopen
  refine ⟨_, State.run_of_eq he, ?_⟩
  rw [Dev.reportMode_bays]
  exact s.dev.quiesceEnd_bay bay

/-! ### A cartridge is lost -/

theorem Dev.cutVer_touch (d : Dev) (v : Version) : Touch dataParts d (d.cutVer v) := by
  unfold Dev.cutVer
  extract_lets d1
  have h1 : Touch dataParts d d1 := .next (.next (d.failReaders_touch ..) (Dev.modVer_touch ..)) (Dev.endWait_touch ..)
  refine .next (e := match d1.capBySeq v.seq with
    | some c => d1.finishFree c (Reply.plain Status.unavailable)
    | none => d1) ?_ (Dev.releaseKey_touch ..)
  split
  · exact h1.next (d1.finishFree_touch ..)
  · exact h1

theorem Dev.cutAbsent_touch (d : Dev) (j : SecureJob) : Touch dataParts d (d.cutAbsent j) := by
  unfold Dev.cutAbsent
  split
  · exact (d.finishFree_touch ..).of
  · exact .refl _ d

theorem Dev.failPart_touch (d : Dev) (u : Upload) (p : Part) (st : BitVec 16) : Touch dataParts d (d.failPart u p st) := by
  unfold Dev.failPart
  extract_lets d1
  have h1 : Touch dataParts d d1 := .next (.next (.next (d.dropProgs_touch _).of (Dev.dropPartRec_touch ..)) (Dev.modUpload_touch ..))
    (Dev.dropPartEntry_touch ..)
  split
  · exact h1.next (d1.finishFree_touch ..)
  · exact h1

/-- The work that a cartridge's loss ends: how each bay stands is not part of it. -/
theorem Dev.loseWork_touch (d : Dev) (bay : BayNo) : Touch dataParts d (d.loseWork bay).2.2 := by
  unfold Dev.loseWork
  extract_lets vs cut lost mine d0 d1 pinned d2 parts d3 src1 d3' d4 waiting d5
  have h0 : Touch dataParts d d0 :=
    .trans (.trans (d.tear_touch bay).of (Touch.foldl (fun d v => d.cutVer_touch v) _ _)) (Touch.foldl (fun d j => d.cutAbsent_touch j) _ _)
  have h1 : Touch dataParts d d1 := h0.trans (Touch.foldl (fun d _ => d.endVer_touch ..) _ _)
  have h2 : Touch dataParts d d2 := h1.trans (Touch.foldl (fun d _ => d.orPartner_touch ..) _ _)
  have h3 : Touch dataParts d d3 := h2.trans (Touch.foldl (fun d _ => d.failPart_touch ..) _ _)
  have h4 : Touch dataParts d d4 := .next (.next ((h3.setMed _).next (Dev.abandonBatches_touch ..)) (Dev.cutItems_touch ..)) (Dev.stopDies_touch ..)
  exact h4.trans (Touch.foldl (fun d _ => .trans (d.modBucket_touch ..).of (Dev.capturePage_touch ..)) _ _)

/-- How a bay stands that is lost: FAILED where its cartridge is still there, else MISSING (R251). -/
structure LostBay (bay : BayNo) (present : Bool) (d : Dev) : Prop where
  state : (d.bays.get bay).state = if present then .failed else .missing
  present : (d.bays.get bay).present = present

theorem LostBay.touch {S : List DevPart} {d e : Dev} {bay : BayNo} {present : Bool} (h : LostBay bay present d) (ht : Touch S d e)
    (hs : autoParam (.cards ∉ S) List.nodup_range'._auto_1) : LostBay bay present e := by
  obtain ⟨hstate, -, hpresent, -⟩ := Bay.card_eq (ht.cards hs bay)
  exact ⟨hstate.trans h.state, hpresent.trans h.present⟩

theorem LostBay.modBay {d : Dev} {bay : BayNo} {present : Bool} (h : LostBay bay present d) {f : Bay → Bay}
    (hf : ∀ y, (f y).state = y.state ∧ (f y).present = y.present) : LostBay bay present (d.modBay bay f) := by
  obtain ⟨hstate, hpresent⟩ := hf (d.bays.get bay)
  constructor
  · rw [Dev.modBay_get_same]
    exact hstate.trans h.state
  · rw [Dev.modBay_get_same]
    exact hpresent.trans h.present

theorem LostBay.failBayOp {d : Dev} {bay : BayNo} {present : Bool} (h : LostBay bay present d) : LostBay bay present (d.failBayOp bay) := by
  unfold Dev.failBayOp
  split
  · exact h
  · extract_lets d1
    have h1 : LostBay bay present d1 := h.modBay fun _ => ⟨rfl, rfl⟩
    split
    · exact h1.touch (d1.finishFree_touch ..)
    · exact h1

theorem Dev.failBayOp_touch (d : Dev) (bay : BayNo) : Touch (.cards :: dataParts) d (d.failBayOp bay) := by
  unfold Dev.failBayOp
  split
  · exact .refl _ d
  · extract_lets d1
    have h1 : Touch (.cards :: dataParts) d d1 := (d.modBay_cards ..).of
    split
    · exact h1.next (d1.finishFree_touch ..)
    · exact h1

/-- A surprise loss leaves the bay lost, and the course of the drive as it was. -/
theorem Dev.surprise_lost (d : Dev) (bay : BayNo) (present : Bool) (cause channel : Nat) :
    LostBay bay present (d.surprise bay present cause channel) ∧
      Touch (.cards :: dataParts) d (d.surprise bay present cause channel) := by
  unfold Dev.surprise
  extract_lets d1
  have h1 : LostBay bay present d1 := by constructor <;> rw [Dev.modBay_get_same]
  have ht1 : Touch (.cards :: dataParts) d d1 := (d.modBay_cards ..).of
  have ht := d1.loseWork_touch bay
  generalize d1.loseWork bay = w at ht ⊢
  obtain ⟨f, l, d2⟩ := w
  have h3 : LostBay bay present (d2.failBayOp bay) := (h1.touch ht).failBayOp
  have h4 : Touch [.par] (d2.failBayOp bay) ((if present then (d2.failBayOp bay).raise (Ev.cartFailed (baySrc bay)) cause channel f l
      else (d2.failBayOp bay).raise (Ev.cartRemoved (baySrc bay)) 2 f l 0).refreshMode 2) :=
    .trans (.ite (fun _ => .raise (.refl _ _) ..) (fun _ => .raise (.refl _ _) ..)) (Dev.refreshMode_touch ..)
  exact ⟨h3.touch h4, .next (.trans (.next ht1 ht) (d2.failBayOp_touch bay)) h4⟩

theorem Bay.reclaimCut_keeps (b : Bay) : b.reclaimCut.state = b.state ∧ b.reclaimCut.present = b.present := by
  unfold Bay.reclaimCut
  split <;> exact ⟨rfl, rfl⟩

theorem Dev.loseCart_lost (d : Dev) (bay : BayNo) (present : Bool) (cause channel : Nat) :
    LostBay bay present (d.loseCart bay present cause channel) :=
  (d.surprise_lost bay present cause channel).1.modBay fun y => y.reclaimCut_keeps

theorem Dev.loseCart_run (d : Dev) (bay : BayNo) (present : Bool) (cause channel : Nat) :
    (d.loseCart bay present cause channel).par.run = d.par.run :=
  Touch.run_eq ((d.surprise_lost bay present cause channel).2.next (Dev.modBay_cards ..))

theorem presence_drops (s : State) (bay : BayNo) (hp : (s.dev.bays.get bay).present = true) (hr : s.dev.par.run = .running) :
    ∃ t, exec (.cartPresenceDrop bay) s = .next t ∧ (t.dev.bays.get bay).present = false := by
  refine ⟨_, State.run_of_eq (f := presenceDropEff bay) rfl, ?_⟩
  rw [Dev.reportMode_bays]
  unfold presenceDropEff
  dsimp only
  rw [if_neg (by simp [hp])]
  split
  · rw [Dev.modBay_get_same]
    split <;> rfl
  · split
    · rw [Dev.startGo_of_running ((s.dev.loseCart_run ..).trans hr)]
      exact (s.dev.loseCart_lost bay false 0 0).present
    · have h1 : ((s.dev.modBay bay Bay.emptied).bays.get bay).present = false := (congrArg Bay.present (Dev.modBay_get_same ..) :)
      have ht : Touch [.par] (s.dev.modBay bay Bay.emptied) ((if (s.dev.bays.get bay).state == .quiesced then
          (s.dev.modBay bay Bay.emptied).raise (Ev.cartRemoved (baySrc bay)) 1 (s.dev.bays.get bay).cutFailed (s.dev.bays.get bay).cutLost 0
          else s.dev.modBay bay Bay.emptied).refreshMode 2) :=
        .trans (.ite (fun _ => .raise (.refl _ _) ..) (fun _ => .refl _ _)) (Dev.refreshMode_touch ..)
      rw [Dev.startGo_of_running (ht.run_eq.trans hr)]
      obtain ⟨-, -, hpres, -⟩ := Bay.card_eq (ht.cards (by simp) bay)
      exact hpres.trans h1

theorem rail_faults (s : State) (bay : BayNo) (hs : (s.dev.bays.get bay).state.serving = true) (hp : s.dev.bayPower = true) :
    ∃ t, exec (.cartRailFault bay) s = .next t ∧ (t.dev.bays.get bay).state = .failed := by
  have he : railFaultEff bay s.dev = s.dev.loseCart bay true 1 0 := by
    unfold railFaultEff
    exact if_pos (by rw [hs, hp]; rfl)
  refine ⟨_, State.run_of_eq he, ?_⟩
  rw [Dev.reportMode_bays]
  exact (s.dev.loseCart_lost bay true 1 0).state

/-! ### Polls, the wear record and the LED -/

theorem poll_answered (s : State) (bay : BayNo) (hs : (s.dev.bays.get bay).state.serving = true) (hp : s.dev.bayPower = true) :
    ∃ t, exec (.cartLivenessPoll bay true) s = .next t ∧ (t.dev.bays.get bay).pollFails = 0 := by
  have he : livenessPollEff bay true s.dev = s.dev.modBay bay (fun b => { b with pollFails := 0 }) := by
    unfold livenessPollEff
    dsimp only
    rw [hs, hp]
    rfl
  refine ⟨_, State.run_of_eq he, ?_⟩
  rw [Dev.reportMode_bays, Dev.modBay_get_same]

theorem poll_failed (s : State) (bay : BayNo) (hs : (s.dev.bays.get bay).state.serving = true) (hp : s.dev.bayPower = true)
    (hn : (s.dev.bays.get bay).pollFails + 1 < 3) :
    ∃ t, exec (.cartLivenessPoll bay false) s = .next t ∧ (t.dev.bays.get bay).pollFails = (s.dev.bays.get bay).pollFails + 1 := by
  have he : livenessPollEff bay false s.dev = s.dev.modBay bay (fun b => { b with pollFails := b.pollFails + 1 }) := by
    unfold livenessPollEff
    dsimp only
    rw [hs, hp]
    exact if_neg (Nat.not_le.mpr hn)
  refine ⟨_, State.run_of_eq he, ?_⟩
  rw [Dev.reportMode_bays, Dev.modBay_get_same]

theorem Dev.wakeIf_of_clear {d : Dev} (h : d.pow.rung = .clear) (trigger : Nat) : d.wakeIf trigger = d := by
  unfold Dev.wakeIf Dev.wake
  rw [h]
  exact ite_self d

theorem wearRecord_written (s : State) (bay : BayNo) (c : Cartridge) (hs : (s.dev.bays.get bay).state.serving = true)
    (hp : s.dev.bayPower = true) (hr : s.dev.pow.rung = .clear) (hc : (s.dev.bays.get bay).cart = some c) :
    ∃ t, exec (.wearSyncTimer bay) s = .next t ∧ (t.dev.bays.get bay).slotTime = s.dev.clk.ns ∧
      ∃ x, (t.dev.bays.get bay).cart = some x ∧
        ∀ i, i ≠ (s.dev.bays.get bay).slotRead → (x.slots.get i).stored = 2 ∧ (x.slots.get i).crcOk = true := by
  have he : wearSyncEff bay s.dev = s.dev.writeSlot bay 2 := by
    unfold wearSyncEff
    dsimp only
    rw [if_pos hs, Dev.wakeIf_of_clear hr, ite_self, if_pos hp]
  refine ⟨_, State.run_of_eq he, ?_⟩
  rw [Dev.reportMode_bays]
  unfold Dev.writeSlot
  rw [hc]
  dsimp only
  rw [Dev.modBay_get_same]
  refine ⟨rfl, _, rfl, fun i hi => ?_⟩
  have hw : (if (s.dev.bays.get bay).slotRead = 0 then 1 else 0) = i := by
    generalize (s.dev.bays.get bay).slotRead = r at hi
    revert hi
    decide +revert
  subst hw
  have hx := vector_get_set_self c.slots (if (s.dev.bays.get bay).slotRead = 0 then 1 else 0) (s.dev.newSlot bay c 2)
  exact ⟨(congrArg WearSlot.stored hx :), (congrArg WearSlot.crcOk hx :)⟩

/-- Settles O18: bay by bay; the work that a loss ends leaves how the bays stand alone. -/
theorem cartridgesLeaveAndAreMarked : Obligations.CartridgesLeaveAndAreMarked := by
  unfold Obligations.CartridgesLeaveAndAreMarked
  refine ⟨latch_opens, quiesce_ends, fun s bay hp _ hr => presence_drops s bay hp hr, poll_answered, poll_failed, fun s bay hs hp _ _ => rail_faults s bay hs hp,
    wearRecord_written, fun s bay hv hr => ?_, fun s bay => ?_⟩
  · refine ⟨_, State.run_of_eq (Dev.tool_up hv hr _), ?_⟩
    rw [Dev.reportMode_bays, Dev.modBay_get_same]
  · refine ⟨_, rfl, ?_⟩
    rw [Dev.reportMode_bays, Dev.modBay_get_same]

end Sys2Proof.Machine
end

section
/-! A writer resolves into Drift, and its record commits (R96 to R99, R127, R154). -/

namespace Sys2Proof.Machine

/-! ### The commit -/

/-- Every version of a number is on medium. -/
def OnMedium (q : Nat) (d : Dev) : Prop := ∀ w ∈ d.que.drift, w.seq = q → w.onMedium = true

theorem OnMedium.touch {S : List DevPart} {d e : Dev} {q : Nat} (h : OnMedium q d) (ht : Touch S d e)
    (hs : autoParam (.drift ∉ S) List.nodup_range'._auto_1) : OnMedium q e := by
  intro w hw hq
  obtain ⟨v, hv, hseq, hm⟩ := ht.drift hs w hw
  exact hm (h v hv (hseq.trans hq))

theorem onMedium_modVer (d : Dev) (q : Nat) : OnMedium q (d.modVer q (fun x => { x with onMedium := true })) := by
  intro w hw hq
  obtain ⟨x, -, rfl⟩ := List.mem_map.mp hw
  by_cases hx : x.seq == q
  · rw [if_pos hx]
  · rw [if_neg hx] at hq
    exact absurd (beq_iff_eq.mpr hq) hx

theorem Dev.commitWriter_onMedium {d : Dev} {r : JRec} {v : Version} (hs : v.secure = false) : OnMedium v.seq (d.commitWriter r v) := by
  unfold Dev.commitWriter
  extract_lets d1 d2 d3 d4
  rw [hs, if_neg Bool.false_ne_true]
  have h3 : OnMedium v.seq d3 := onMedium_modVer _ v.seq
  exact ((h3.touch d3.checkPressure_touch).touch (d4.atMedium_touch v.seq)).touch (Dev.mediaAdvance_touch _)

theorem record_commits (s : State) (jseq q : Nat) (r : JRec) (v : Version) (hr : s.dev.jrec? jseq = some r) (hw : r.writer = some q)
    (hv : s.dev.ver? q = some v) (hm : s.dev.mayCommit r v = true) (ho : s.dev.meetsOther v = false) (hs : v.secure = false) :
    ∃ t, exec (.journalRecordCommit jseq) s = .next t ∧ ∀ w ∈ t.dev.que.drift, w.seq = q → w.onMedium = true := by
  have he : journalRecordCommitEff jseq s.dev = s.dev.commitWriter r v := by
    unfold journalRecordCommitEff
    rw [hr]
    dsimp only
    rw [hw]
    dsimp only
    rw [hv]
    dsimp only
    rw [if_pos hm, ho, if_neg Bool.false_ne_true]
  have hq : v.seq = q := by
    have := List.find?_some hv
    simpa using this
  refine ⟨_, State.run_of_eq he, ?_⟩
  rw [Dev.reportMode_que, ← hq]
  exact Dev.commitWriter_onMedium hs

/-! ### Room for a record -/

/-- Two states that hold the same bands and the same reservations at one time: a band that one may open, so may the other. -/
structure RoomAlike (d e : Dev) : Prop where
  bays : e.bays = d.bays
  secures : e.med.secures = d.med.secures
  time : e.clk.ns = d.clk.ns

theorem RoomAlike.refl (d : Dev) : RoomAlike d d := ⟨rfl, rfl, rfl⟩

theorem RoomAlike.trans {d e f : Dev} (h : RoomAlike d e) (g : RoomAlike e f) : RoomAlike d f :=
  ⟨g.bays.trans h.bays, g.secures.trans h.secures, g.time.trans h.time⟩

theorem RoomAlike.symm {d e : Dev} (h : RoomAlike d e) : RoomAlike e d := ⟨h.bays.symm, h.secures.symm, h.time.symm⟩

theorem RoomAlike.foldl {α : Type} {f : Dev → α → Dev} (h : ∀ d a, RoomAlike d (f d a)) (l : List α) (d : Dev) : RoomAlike d (l.foldl f d) :=
  List.foldlRecOn (motive := RoomAlike d) l f (.refl d) fun e he a _ => he.trans (h e a)

theorem RoomAlike.modBay {d e : Dev} (h : RoomAlike d e) (bay : BayNo) (f : Bay → Bay) : RoomAlike (d.modBay bay f) (e.modBay bay f) := by
  refine ⟨?_, h.secures, h.time⟩
  unfold Dev.modBay
  dsimp only
  rw [h.bays]

theorem Dev.limitEvent_room (d : Dev) (b : BayNo) : RoomAlike d (d.limitEvent b) := by
  have h := (d.limitEvent_sent b).core
  exact ⟨core_bays h, congrArg Media.secures (core_med h), core_clk_ns h⟩

theorem Dev.issueOp_room (d : Dev) (o : GovOp) : RoomAlike d (d.issueOp o) := by
  unfold Dev.issueOp
  split
  · exact ⟨rfl, rfl, rfl⟩
  · split
    · dsimp only
      split
      · refine .trans ?_ (Dev.limitEvent_room _ o.bay)
        exact ⟨rfl, rfl, rfl⟩
      · exact ⟨rfl, rfl, rfl⟩
    · exact ⟨rfl, rfl, rfl⟩

theorem Dev.issueProg_room (d : Dev) (bay : BayNo) (st : Stream) (die chunks group block page : Nat) (what : ProgWhat) (tries : Nat)
    (tried : List Nat) : RoomAlike d (d.issueProg bay st die chunks group block page what tries tried) := by
  unfold Dev.issueProg Dev.opId
  dsimp only
  refine .trans ?_ (Dev.issueOp_room ..)
  exact ⟨rfl, rfl, rfl⟩

theorem RoomAlike.issueSecond {d e : Dev} (h : RoomAlike d e) (bay : BayNo) (group block row : Nat) :
    RoomAlike (d.issueSecond bay group block row) (e.issueSecond bay group block row) := by
  unfold Dev.issueSecond
  rw [h.bays]
  dsimp only
  split
  · exact h
  · exact .trans (.symm (.foldl (fun d _ => d.issueProg_room ..) _ _)) ((h.modBay bay _).trans (.foldl (fun d _ => d.issueProg_room ..) _ _))

theorem Dev.issueParity_room (d : Dev) (bay : BayNo) (x : Band) (page : Nat) : RoomAlike d (d.issueParity bay x page) := by
  refine .foldl (fun d i => ?_) _ d
  dsimp only
  split
  · exact .refl d
  · exact d.issueProg_room ..

theorem RoomAlike.padRow {d e : Dev} (h : RoomAlike d e) (bay : BayNo) (group block : Nat) :
    RoomAlike (d.padRow bay group block) (e.padRow bay group block) := by
  unfold Dev.padRow
  rw [h.bays]
  dsimp only
  split
  · exact h
  · split
    · exact h
    · exact .trans (.symm (Dev.issueParity_room ..)) (((h.issueSecond ..).modBay ..).trans (Dev.issueParity_room ..))

theorem RoomAlike.closeBand {d e : Dev} (h : RoomAlike d e) (bay : BayNo) (group block : Nat) :
    RoomAlike (d.closeBand bay group block) (e.closeBand bay group block) := by
  unfold Dev.closeBand
  rw [h.bays]
  split
  · split
    · exact (h.padRow ..).modBay ..
    · exact h
  · exact h

/-- A journal band that one may open, so may the other, and they hold the same bands afterwards. -/
theorem RoomAlike.openBand {d e : Dev} (h : RoomAlike d e) (bay : BayNo) (group : Nat) :
    (d.openBand bay .journal group = none ∧ e.openBand bay .journal group = none) ∨
      ∃ x d1 e1, d.openBand bay .journal group = some (x, d1) ∧ e.openBand bay .journal group = some (x, e1) ∧ RoomAlike d1 e1 := by
  have hm : e.mayOpen bay .journal group false = d.mayOpen bay .journal group false := by
    unfold Dev.mayOpen Dev.roomHeld
    rw [h.bays, h.secures]
  unfold Dev.openBand Dev.openPicked
  rw [hm, h.bays, h.time]
  split
  · split
    · exact .inl ⟨rfl, rfl⟩
    · exact .inr ⟨_, _, _, rfl, rfl, h.modBay ..⟩
  · exact .inl ⟨rfl, rfl⟩

theorem RoomAlike.alloc {d e : Dev} (h : RoomAlike d e) (bay : BayNo) (group n : Nat) (item : List (BitVec 12 × BitVec 128)) :
    (e.alloc bay .journal group n item true).isSome = (d.alloc bay .journal group n item true).isSome := by
  unfold Dev.alloc
  rw [if_neg (by simp), if_neg (by simp)]
  extract_lets take
  have ht {a b : Dev} (hab : RoomAlike a b) (x : Band) : (take b x).isSome = (take a x).isSome := by
    simp only [take, hab.bays]
    split <;> rfl
  have hopen {a b : Dev} (hab : RoomAlike a b) :
      (match b.openBand bay .journal group with
        | some (y, d1) => take d1 y
        | none => none).isSome =
      (match a.openBand bay .journal group with
        | some (y, d1) => take d1 y
        | none => none).isSome := by
    rcases hab.openBand bay group with ⟨ha, hb⟩ | ⟨x, a1, b1, ha, hb, h1⟩
    · rw [ha, hb]
    · rw [ha, hb]
      exact ht h1 x
  rw [h.bays]
  split
  · next x _ =>
    have hx := ht h x
    have hc := hopen (h.closeBand bay group x.block)
    cases hd : take d x <;> cases he : take e x <;> simp only [hd, he] at hx ⊢
    · exact hc
    · cases hx
    · cases hx
    · rfl
  · exact hopen h

/-! ### A lookup is counted -/

/-- From one state to another only lookups have been counted and pages used. -/
structure PagesUsed (d e : Dev) : Prop where
  touch : Touch [.idx] d e
  time : e.clk.ns = d.clk.ns
  idx : ∃ f : Bucket → Bucket, (∀ b, ∃ p t, f b = { b with prefetched := p, lastUsed := t }) ∧
    e.idx = { d.idx with buckets := d.idx.buckets.map f }

theorem PagesUsed.of_sent {d e : Dev} (h : Sent d e) : PagesUsed d e :=
  ⟨h.touch _, core_clk_ns h.core, id, fun b => ⟨b.prefetched, b.lastUsed, rfl⟩, by rw [List.map_id]; exact core_idx h.core⟩

theorem PagesUsed.sent {d e f : Dev} (h : PagesUsed d e) (g : Sent e f) : PagesUsed d f := by
  obtain ⟨ht, hn, u, hu, hi⟩ := h
  exact ⟨ht.sent g, (core_clk_ns g.core).trans hn, u, hu, (core_idx g.core).trans hi⟩

theorem PagesUsed.after_sent {d e f : Dev} (h : Sent d e) (g : PagesUsed e f) : PagesUsed d f := by
  obtain ⟨ht, hn, u, hu, hi⟩ := g
  refine ⟨(h.touch _).trans ht, hn.trans (core_clk_ns h.core), u, hu, ?_⟩
  rw [hi, core_idx h.core]

theorem Dev.usePage_used (d : Dev) (n : BitVec 12) (h : BitVec 128) (by_ : LookBy) : PagesUsed d (d.usePage n h by_) := by
  unfold Dev.usePage
  split
  · split
    · next b _ =>
      extract_lets d1
      have h1 : PagesUsed d d1 := by
        refine ⟨d.modBucket_touch .., rfl, _, fun x => ?_, rfl⟩
        dsimp only
        split
        · exact ⟨_, _, rfl⟩
        · exact ⟨x.prefetched, x.lastUsed, rfl⟩
      split
      · exact h1.sent (d1.bump_sent ..)
      · exact h1
    · exact .of_sent (.refl d)
  · exact .of_sent (.refl d)

theorem Dev.countWriter_used (d : Dev) (c : Cap) (h : BitVec 128) : PagesUsed d (d.countWriter c h) := by
  unfold Dev.countWriter
  split
  · exact .of_sent (.refl d)
  · exact .after_sent (d.countLook_sent ..) (Dev.usePage_used ..)

/-- A record is written where a chunk that is still being built takes it, or where a new chunk can be had. -/
theorem Dev.journal_isSome (d : Dev) (bay : BayNo) (group : Nat) (r : JRec) : (d.journal bay group r).isSome =
    ((d.openChunk bay r.size).isSome || (d.stagingRoom.isSome && (d.alloc bay .journal group 1 r.item r.kind.freely).isSome)) := by
  unfold Dev.journal Dev.placeRec
  cases d.openChunk bay r.size with
  | some l => rfl
  | none =>
    cases d.stagingRoom with
    | none => rfl
    | some held =>
      cases d.alloc bay .journal group 1 r.item r.kind.freely with
      | none => rfl
      | some a => rfl

section
variable {d e : Dev} (u : PagesUsed d e)
include u

theorem PagesUsed.bays : e.bays = d.bays := u.touch.bays (by simp)

theorem PagesUsed.bucketOf (n : BitVec 12) (h : BitVec 128) :
    (d.bucketOf n h = none ∧ e.bucketOf n h = none) ∨
      ∃ b p t, d.bucketOf n h = some b ∧ e.bucketOf n h = some { b with prefetched := p, lastUsed := t } := by
  obtain ⟨-, -, f, hf, hi⟩ := u
  have hc : (fun b : Bucket => b.covers n h) ∘ f = fun b => b.covers n h := by
    funext b
    obtain ⟨p, t, hb⟩ := hf b
    rw [Function.comp_apply, hb]
    rfl
  have he : e.bucketOf n h = (d.bucketOf n h).map f := by
    unfold Dev.bucketOf
    rw [hi, List.find?_map, hc]
  cases hd : d.bucketOf n h with
  | none => exact .inl ⟨rfl, by rw [he, hd]; rfl⟩
  | some b =>
    obtain ⟨p, t, hb⟩ := hf b
    exact .inr ⟨b, p, t, rfl, by rw [he, hd, Option.map_some, hb]⟩

theorem PagesUsed.homeOf (n : BitVec 12) (h : BitVec 128) : e.homeOf n h = d.homeOf n h := by
  unfold Dev.homeOf
  rcases u.bucketOf n h with ⟨hd, he⟩ | ⟨b, p, t, hd, he⟩ <;> rw [hd, he]

theorem PagesUsed.turnedAway (n : BitVec 12) (h : BitVec 128) (seq : Nat) : e.turnedAway n h seq = d.turnedAway n h seq := by
  unfold Dev.turnedAway Dev.bucketAway
  rcases u.bucketOf n h with ⟨hd, he⟩ | ⟨b, p, t, hd, he⟩ <;> rw [hd, he, u.bays]

theorem PagesUsed.lookBy (n : BitVec 12) (h : BitVec 128) : e.lookBy n h = d.lookBy n h := by
  have hl : e.logRec n h = d.logRec n h := by
    obtain ⟨-, -, f, -, hi⟩ := u
    unfold Dev.logRec
    rw [hi]
  unfold Dev.lookBy
  rw [u.touch.gale (by simp), hl]
  rcases u.bucketOf n h with ⟨hd, he⟩ | ⟨b, p, t, hd, he⟩
  · rw [hd, he]
  · have ha : e.homeAbsent { b with prefetched := p, lastUsed := t } = d.homeAbsent b := by
      unfold Dev.homeAbsent Dev.serves Dev.inService
      rw [u.bays]
    rw [hd, he]
    dsimp only
    rw [ha]
    rfl

theorem PagesUsed.lookFull (n : BitVec 12) (h : BitVec 128) : e.lookFull n h = d.lookFull n h := by
  unfold Dev.lookFull Dev.look
  rw [u.lookBy]
  rcases u.bucketOf n h with ⟨hd, he⟩ | ⟨b, p, t, hd, he⟩
  · rw [hd, he]
  · rw [hd, he]
    rfl

theorem PagesUsed.que : e.que = d.que := u.touch.que (by simp)

theorem PagesUsed.driftBelow (n : BitVec 12) (h : BitVec 128) (s : Nat) : e.driftBelow n h s = d.driftBelow n h s := by
  unfold Dev.driftBelow Dev.buffered
  rw [u.que]

theorem PagesUsed.base (n : BitVec 12) (h : BitVec 128) (key : Bytes) (s : Nat) : e.base n h key s = d.base n h key s := by
  have hl : e.look n h = d.look n h := congrArg Prod.fst (u.lookBy n h)
  unfold Dev.base
  rw [u.touch.gale (by simp), u.driftBelow, hl]

theorem PagesUsed.genAfter (n : BitVec 12) (h : BitVec 128) (key : Bytes) (s : Nat) : e.genAfter n h key s = d.genAfter n h key s := by
  unfold Dev.genAfter Dev.driftFor
  rw [u.driftBelow, u.lookFull]

theorem PagesUsed.openChunk (bay : BayNo) (need : Nat) : e.openChunk bay need = d.openChunk bay need := by
  have hm : e.med = d.med := u.touch.med (by simp)
  obtain ⟨-, -, f, -, hi⟩ := u
  unfold Dev.openChunk Dev.opBegun
  rw [hi, hm]

theorem PagesUsed.stagingRoom : e.stagingRoom = d.stagingRoom := by
  have hm : e.med = d.med := u.touch.med (by simp)
  have hc : e.chunkSettled = d.chunkSettled := by
    funext l
    unfold Dev.chunkSettled Dev.programming
    rw [hm, u.bays]
    obtain ⟨-, -, f, -, hi⟩ := u
    rw [hi]
  unfold Dev.stagingRoom
  rw [hc]
  obtain ⟨-, -, f, -, hi⟩ := u
  rw [hi]

theorem PagesUsed.journal (bay : BayNo) (group : Nat) {r : JRec} (hk : r.kind = .deletion) :
    (e.journal bay group r).isSome = (d.journal bay group r).isSome := by
  have hm : e.med.secures = d.med.secures := congrArg Media.secures (u.touch.med (by simp))
  have ha : (e.alloc bay .journal group 1 r.item r.kind.freely).isSome = (d.alloc bay .journal group 1 r.item r.kind.freely).isSome := by
    rw [hk]
    exact RoomAlike.alloc ⟨u.bays, hm, u.time⟩ bay group 1 r.item
  rw [Dev.journal_isSome, Dev.journal_isSome, u.openChunk, u.stagingRoom, ha]

end

/-! ### A deletion enters Drift -/

/-- Drift holds the deletion of a key under a number, and no capsule waits to read. -/
structure Deleted (seq : Nat) (n : BitVec 12) (h : BitVec 128) (d : Dev) : Prop where
  held : ∃ w ∈ d.que.drift, w.seq = seq ∧ w.ns = n ∧ w.hash = h ∧ w.content = none
  calm : noReaders d

section
variable {seq : Nat} {n : BitVec 12} {h : BitVec 128} {d e : Dev}

theorem noReaders_of_que (hq : e.que = d.que) (hr : noReaders d) : noReaders e := by
  unfold noReaders
  rw [hq]
  exact hr

theorem Deleted.of_que (g : Deleted seq n h d) (hq : e.que = d.que) : Deleted seq n h e :=
  ⟨hq.symm ▸ g.held, noReaders_of_que hq g.calm⟩

theorem Deleted.touch {S : List DevPart} (g : Deleted seq n h d) (t : Touch S d e)
    (hs : autoParam (.que ∉ S) List.nodup_range'._auto_1) : Deleted seq n h e := g.of_que (t.que hs)

theorem Deleted.modVer (g : Deleted seq n h d) (s : Nat) {f : Version → Version}
    (hf : ∀ v, (f v).seq = v.seq ∧ (f v).ns = v.ns ∧ (f v).hash = v.hash ∧ (f v).content = v.content) : Deleted seq n h (d.modVer s f) := by
  obtain ⟨⟨w, hw, hseq, hns, hhash, hc⟩, hr⟩ := g
  refine ⟨⟨_, List.mem_map_of_mem hw, ?_⟩, hr⟩
  obtain ⟨fseq, fns, fhash, fc⟩ := hf w
  split
  · exact ⟨fseq.trans hseq, fns.trans hns, fhash.trans hhash, fc.trans hc⟩
  · exact ⟨hseq, hns, hhash, hc⟩

theorem Deleted.dropCap (g : Deleted seq n h d) (c : Cap) : Deleted seq n h (d.dropCap c) :=
  ⟨g.held, fun x hx => g.calm x (List.mem_of_mem_filter hx)⟩

theorem Deleted.modCap (g : Deleted seq n h d) (c : Cap) {f : Cap → Cap} (hf : ∀ x, (f x).hdr = x.hdr) : Deleted seq n h (d.modCap c f) := by
  refine ⟨g.held, fun y hy => ?_⟩
  obtain ⟨x, hx, rfl⟩ := List.mem_map.mp hy
  split
  · rw [hf x]
    exact g.calm x hx
  · exact g.calm x hx

/-- A deletion that enters Drift. -/
theorem deleted_addVer {v : Version} (hr : noReaders d) (hc : v.content = none) : Deleted v.seq v.ns v.hash (d.addVer v) := by
  have hq : (d.addVer v).que = { d.que with drift := d.que.drift ++ [v] } := by
    unfold Dev.addVer
    dsimp only
    split <;> rfl
  refine ⟨⟨v, ?_, rfl, rfl, rfl, hc⟩, ?_⟩
  · rw [hq]
    exact List.mem_append_right _ (List.mem_singleton_self v)
  · show ∀ x ∈ (d.addVer v).que.caps, _
    rw [hq]
    exact hr

theorem Deleted.finish (g : Deleted seq n h d) (c : Cap) (r : Reply) : Deleted seq n h (d.finish c r) := by
  unfold Dev.finish
  split
  · exact (g.touch (d.cwAnswer_touch ..)).dropCap c
  · exact (g.touch (S := []) (.sent (.sent (.refl _ d) (Dev.placeBytes_sent ..)) (Dev.enterHist_sent ..))).dropCap c

theorem Deleted.ackEarly (g : Deleted seq n h d) (c : Cap) (s : Nat) : Deleted seq n h (d.ackEarly c s) := by
  unfold Dev.ackEarly
  split
  · exact g
  · next v _ =>
    have g1 : Deleted seq n h ((d.modVer s (fun x => { x with early := true })).reachPoint v) := by
      unfold Dev.reachPoint Dev.endWait
      extract_lets d1
      have he := g.modVer s (f := fun x => { x with early := true }) fun _ => ⟨rfl, rfl, rfl, rfl⟩
      have hd := he.modVer v.seq (f := fun x => { x with done := true }) fun _ => ⟨rfl, rfl, rfl, rfl⟩
      have h1 : Deleted seq n h d1 := (hd.touch (Dev.closeCommit_touch ..)).touch (Dev.countKeys_touch ..)
      split
      · exact h1.touch (S := []) (.sent (.refl _ d1) (Dev.lostCleared_sent ..))
      · exact h1
    unfold Dev.replyWriter
    extract_lets d0 d1
    have h0 : Deleted seq n h d0 :=
      g1.touch (S := [.mir, .states]) (.trans (.bump (.refl _ _) ..) (Dev.modMirror_touch ..))
    have h1 : Deleted seq n h d1 := h0.touch (S := []) (.ite (fun _ => .bump (.refl _ d0) ..) (fun _ => .refl _ d0))
    exact h1.finish c _

/-- With no reader in the drive no capsule captures. -/
theorem Dev.captureWaiting_calm (hr : noReaders d) : d.captureWaiting n h = d := by
  unfold Dev.captureWaiting
  rw [List.filter_eq_nil_iff.mpr fun c hc => by simp [hr c hc]]
  rfl

end

/-- The plan of a `DELETE`: no content. -/
def deletionPlan : Plan := ⟨none, [], [], [], 0⟩

theorem Dev.enterDrift_deletes {d : Dev} {c : Cap} {n : Namespace} {h : BitVec 128} {group : Nat} {k : KState} {y : Nat}
    (hh : d.secureHolds (d.homeOf n.id h) = false) (hr : noReaders d)
    (hj : (d.journal (d.homeOf n.id h) group (mkRec .deletion n.id h c.key c.seq 0 (d.genAfter n.id h c.key c.seq) 0 (d.homeOf n.id h)
      (some c.seq))).isSome = true) :
    Deleted c.seq n.id h (d.enterDrift c n h group k false deletionPlan 0 y none) := by
  obtain ⟨⟨j, d2⟩, hj⟩ := Option.isSome_iff_exists.mp hj
  unfold Dev.enterDrift
  extract_lets bay gen len
  split
  · next hb => exact absurd hb (ne_true_of_eq_false hh)
  · split
    · next hn => cases hn
    · next loc d1 hp =>
      obtain ⟨rfl, rfl⟩ : 0 = loc ∧ d = d1 := by cases hp; exact ⟨rfl, rfl⟩
      split
      · next hn => exact absurd (hj.symm.trans hn) (Option.some_ne_none _)
      · next j' d2' hj' =>
        extract_lets v early src dm d3 d4 d5
        have h2 : Touch [.idx, .med, .bays] d dm := .ite (fun _ => (Dev.journal_touch hj').setMed _) (fun _ => Dev.journal_touch hj')
        have h3 : Deleted c.seq n.id h d3 := by
          refine (deleted_addVer (v := v) (noReaders_of_que (Touch.que (S := [.idx, .med, .bays, .ns]) ?_ (by simp)) hr) rfl).modCap c fun _ => rfl
          exact h2.of.next (Dev.takeCharge_touch ..)
        have h4 : Deleted c.seq n.id h d4 := h3.touch (d3.endHotWait_touch ..)
        have h5 : Deleted c.seq n.id h d5 := h4.touch (d4.replicate_touch _)
        split
        · exact h5.ackEarly c c.seq
        · exact h5

/-- A change that charges nothing and makes no key meets no limit. -/
theorem Dev.binds_free (d : Dev) (n : Namespace) (h : BitVec 128) (klen y : Nat) : d.binds n h klen 0 y false = .none := by
  unfold Dev.binds
  simp

/-- Chunks that carry no check fail none. -/
theorem checkFail_nil (v : Bytes) (is : List Nat) : checkFail v [] is = none := by
  unfold checkFail
  simp

theorem Dev.resolveOn_deletes {d : Dev} {c : Cap} {n : Namespace} {h : BitVec 128} {group : Nat} {k : KState}
    (hs : (c.hdr.opcode == Op.delete && c.hdr.flag Flag.secure) = false) (hb : d.nsBusy n.id c.seq = false) :
    d.resolveOn c n h group k false deletionPlan 0 none = d.enterDrift c n h group k false deletionPlan 0 k.charge none := by
  unfold Dev.resolveOn
  extract_lets y newKey secure
  rw [hb, if_neg Bool.false_ne_true, show secure = false from hs, Bool.false_and, if_neg Bool.false_ne_true]
  rw [show d.binds n h c.key.length 0 y newKey = .none from d.binds_free ..]
  dsimp only
  rw [show deletionPlan.checks = [] from rfl, checkFail_nil]
  rfl

section
variable {d : Dev} {c : Cap} {n : Namespace} {v len g : Nat} (hop : c.hdr.opcode = Op.delete) (hf : c.hdr.flag Flag.secure = false)
  (he : c.hdr.expVersion = 0) (hm : d.mirror? n.id = none) (ht : d.turnedAway n.id (keyHash n.salt c.key) c.seq = false)
  (hb : d.base n.id (keyHash n.salt c.key) c.key c.seq = .state (.present v len g)) (hn : d.nsBusy n.id c.seq = false)
include hop hf he hm ht hb hn

/-- An unconditional `DELETE` of a key that is there enters Drift. -/
theorem Dev.resolvePlain_deletes (group : Nat) : d.resolvePlain c n group =
    d.enterDrift c n (keyHash n.salt c.key) group (.present v len g) false deletionPlan 0 (chunkBytes len) none := by
  have hs : (c.hdr.opcode == Op.delete && c.hdr.flag Flag.secure) = false := by rw [hf, Bool.and_false]
  have hgate (x : Bool) : d.mirrorGate n.id true x = none := by
    unfold Dev.mirrorGate
    rw [hm]
  have hbase (x : Nat) : d.writerBase c n (keyHash n.salt c.key) x = (.state (.present v len g), false) := by
    unfold Dev.writerBase
    rw [ht, if_neg Bool.false_ne_true, hb]
  have hcheck : writerCheck c.hdr (.present v len g) = .go := by
    unfold writerCheck
    rw [hop, he]
    rfl
  have hplan : d.plan c (keyHash n.salt c.key) = .inl deletionPlan := by
    unfold Dev.plan
    rw [hop]
    rfl
  unfold Dev.resolvePlain
  extract_lets h secure
  rw [hgate]
  dsimp only
  rw [hbase]
  dsimp only
  rw [if_neg Bool.false_ne_true, show d.plan c h = .inl deletionPlan from hplan, hop]
  show (match (if false then Verdict.go else writerCheck c.hdr (.present v len g)) with
    | .stop st v => d.failWriter c st v
    | .go => d.resolveOn c n h group (.present v len g) false deletionPlan 0 none) = _
  rw [if_neg Bool.false_ne_true, hcheck]
  exact Dev.resolveOn_deletes hs hn

end

/-- A `DELETE` without SECURE counts its lookup and resolves at once. -/
theorem Dev.resolve_delete {d : Dev} {c : Cap} (hop : c.hdr.opcode = Op.delete) (hf : c.hdr.flag Flag.secure = false) (n : Namespace)
    (group : Nat) : d.resolve c n group = (d.countWriter c (keyHash n.salt c.key)).resolvePlain c n group := by
  unfold Dev.resolve
  extract_lets h e
  have hs : e.secureAbsent c n h = false := by
    unfold Dev.secureAbsent
    rw [hf]
    simp
  have hp : e.patchToken c h = (c, e) := by
    unfold Dev.patchToken
    rw [hop]
    rfl
  have hc : e.copyChunks c h = none := by
    unfold Dev.copyChunks
    rw [hop]
    rfl
  rw [if_neg (by rw [hop]; decide), hs, if_neg Bool.false_ne_true, hp]
  dsimp only
  rw [hc]

theorem delete_resolves (s : State) (seq : Nat) (group : Fin 8) (c : Cap) (n : Namespace) (v len g : Nat) (hc : s.dev.capBySeq seq = some c)
    (hop : c.hdr.opcode = Op.delete) (hf : c.hdr.flag Flag.secure = false) (he : c.hdr.expVersion = 0) (hst : c.stage = .dispatched)
    (hturn : s.dev.turn c = true) (hns : s.dev.nsOf c.hdr.ns = some n) (hr : noReaders s.dev) (hm : s.dev.mirror? n.id = none)
    (ha : s.dev.turnedAway n.id (s.dev.capHash c) seq = false)
    (hb : s.dev.base n.id (s.dev.capHash c) c.key seq = .state (.present v len g)) (hn : s.dev.nsBusy n.id seq = false)
    (hh : s.dev.secureHolds (s.dev.homeOf n.id (s.dev.capHash c)) = false)
    (hj : (s.dev.journal (s.dev.homeOf n.id (s.dev.capHash c)) group.val (mkRec .deletion n.id (s.dev.capHash c) c.key seq 0
      (s.dev.genAfter n.id (s.dev.capHash c) c.key seq) 0 (s.dev.homeOf n.id (s.dev.capHash c)) (some seq))).isSome = true) :
    ∃ t, exec (.writerResolve seq group) s = .next t ∧
      ∃ w ∈ t.dev.que.drift, w.seq = seq ∧ w.ns = n.id ∧ w.hash = s.dev.capHash c ∧ w.content = none := by
  have hhash : s.dev.capHash c = keyHash n.salt c.key := by
    unfold Dev.capHash Dev.hashOf
    rw [hns]
  have hseq : c.seq = seq := by
    have hf := List.find?_some hc
    simp only [Bool.and_eq_true, beq_iff_eq] at hf
    exact hf.1
  obtain rfl := hseq
  have u := s.dev.countWriter_used c (keyHash n.salt c.key)
  have hd : Deleted c.seq n.id (s.dev.capHash c) (s.dev.resolve c n group.val) := by
    rw [hhash] at ha hb hh hj ⊢
    have hsec : (s.dev.countWriter c (keyHash n.salt c.key)).secureHolds
        ((s.dev.countWriter c (keyHash n.salt c.key)).homeOf n.id (keyHash n.salt c.key)) = false := by
      unfold Dev.secureHolds
      rw [u.homeOf, u.touch.med (by simp)]
      exact hh
    rw [Dev.resolve_delete hop hf, Dev.resolvePlain_deletes hop hf he (v := v) (len := len) (g := g)]
    · refine Dev.enterDrift_deletes hsec (noReaders_of_que u.que hr) ?_
      rw [u.homeOf, u.genAfter, u.journal _ _ rfl]
      exact hj
    · unfold Dev.mirror?
      rw [u.touch.mir (by simp)]
      exact hm
    · exact (u.turnedAway ..).trans ha
    · exact (u.base ..).trans hb
    · unfold Dev.nsBusy
      rw [u.que, u.touch.sec (by simp)]
      exact hn
  refine ⟨_, State.run_of_eq (f := writerResolveEff c.seq group) rfl, ?_⟩
  rw [Dev.reportMode_que]
  refine Deleted.held (h := s.dev.capHash c) (d := writerResolveEff c.seq group s.dev) ?_
  unfold writerResolveEff
  rw [hc]
  dsimp only
  rw [hns]
  dsimp only
  rw [if_pos (by rw [hop, hst, hturn, hf]; rfl)]
  split
  · exact hd
  · have hw := (Dev.endWaits_sent (s.dev.resolve c n group.val) n.id (s.dev.capHash c) c.seq).touch []
    have hd' := hd.touch hw
    rw [Dev.captureWaiting_calm hd'.calm]
    exact hd'

/-- Settles O9: a deletion's lookup leaves what it finds and the room for its record as they are; after the commit versions on medium stay there. -/
theorem writersResolveAndCommit : Obligations.WritersResolveAndCommit := by
  unfold Obligations.WritersResolveAndCommit
  exact ⟨fun s seq group c n v len g hc hop hf he hst hturn hns _ hr _ hm ha hb hn hh hj =>
      delete_resolves s seq group c n v len g hc hop hf he hst hturn hns hr hm ha hb hn hh hj,
    fun s jseq q r v hr hw hv hm ho hs _ => record_commits s jseq q r v hr hw hv hm ho hs⟩

end Sys2Proof.Machine
end
